-- ==== Sys2Proof/Word.lean ====
section
/-!
DEFINITION. The word types of the IZ-7256: the byte in which memory, objects and datagrams are counted, and the 32-bit
word of the step cores (R256).
-/

namespace Sys2Proof

/-- One byte. -/
abbrev Byte := BitVec 8
/-- The contents of a DOMAIN, a payload or a frame, in ascending address order (R4). -/
abbrev Bytes := List Byte
/-- A 32-bit word of a step core (R256). -/
abbrev Word := BitVec 32

end Sys2Proof
end

