-- ==== Sys2Proof/Syntax.lean ====
section
/-!
DEFINITION. The commands of the IZ-7256 as syntax: one constructor of `Instr` per row of spec/opcode_table.json, with
the operands the rule of that row needs. The block has no program counter: hosts, the bench, the physical world and
the passing of time send these commands, one at a time.

EVERY command carries, as its first operand `t`, the instant in tk (R2) at which it happens: the acceptance instant of
a request (R443), the instant of a physical event, or the instant at which a device event takes place. What the physical
world brings (a converter code, a measured current, a frame on a wire) is an operand of the command that delivers it.
-/

namespace Sys2Proof

/-! ## Numbers of the units -/

/-- An instant or a span in timebase ticks of 250 ps (R2). -/
abbrev Tk := Nat
/-- Port P000 to P255 (R11). -/
abbrev PortNo := Fin 256
/-- Service pin SIO00 to SIO31 (R93). -/
abbrev PinNo := Fin 32
/-- Converter: 0 to 63 are QC00 to QC63, 64 to 71 are BC0 to BC7 (R101). -/
abbrev ConvNo := Fin 72
/-- Decimation chain DC00 to DC71. -/
abbrev ChainNo := Fin 72
/-- Lane L0 to L3 (R11). -/
abbrev Lane := Fin 4
/-- Port die PD0 to PD3 (R11). -/
abbrev DieNo := Fin 4
/-- Step core SC0 to SC7 (R255). -/
abbrev CoreNo := Fin 8
/-- General register G0 to G15 of a step core (R256). -/
abbrev Reg := Fin 16
/-- Condition of B; code 15 is no condition (R271) and reaches the core as an illegal instruction. -/
abbrev Cond := Fin 15
/-- The 16-bit immediate of format I (R266). -/
abbrev Imm16 := BitVec 16
/-- Zone Z00 to Z15 (R384). -/
abbrev ZoneNo := Fin 16
/-- Event source 0 to 511 (R298). -/
abbrev SourceNo := Fin 512
/-- Queue number, 20 bits (R342). -/
abbrev QueueNo := Fin 1048576
/-- Offset of a queue in the descriptor window, 0x4000 + o (R343). -/
abbrev WindowOffset := Fin 4096
/-- Session 0 to 7 (R461). -/
abbrev SessionNo := Fin 8
/-- Step of a plan (R194). -/
abbrev StepNo := Fin 65536
/-- Configuration frame address (R408). -/
abbrev FrameNo := Fin 8192

/-- The raw converter codes an entry kept, oldest first (R102). -/
abbrev Codes := List Int
/-- The 16 sensor readings TS0 to TS15, in 0.1 degrees C (R234). -/
abbrev Temps := List Int

/-! ## Operands with structure -/

/-- Who makes a request: a host session, or a step core with its session's authority (R275, R443). -/
inductive Accessor where
  | session (n : SessionNo)
  | core (n : CoreNo)
  deriving DecidableEq, Repr

/-- The fault causes of a port cell (R67), in the order of their codes 0x01 to 0x07. -/
inductive PortCause where
  | clampTimeout | senseOpen | overtemperature | ballOvervoltage | dieCurrent | moduleCurrent | rail
  deriving DecidableEq, Repr

/-- The HOLD causes (R517), in the order of their codes 0x01 to 0x09. -/
inductive HoldCause where
  | portRail | coreRail | interlock | overtemperature | sensorFault | referenceLost | scrubberStall | commanded
  | overvoltage
  deriving DecidableEq, Repr

/-- A change that the outside world shows: the inputs of the comparators of a port (R54, R56), force and sense ball in
microvolts and current in pA, or the level that the outside holds at a service pad, `none` when nothing outside drives it
(R100). -/
inductive SignalChange where
  | ball (p : PortNo) (forceUv senseUv currentPa : Int)
  | pad (n : PinNo) (level : Option Bool)
  deriving DecidableEq, Repr

/-- A line with a glitch filter and a debounce stage (R86, R98). -/
inductive FilterLine where
  | port (p : PortNo)
  | pin (n : PinNo)
  deriving DecidableEq, Repr

/-- A coefficient bank (R141). -/
inductive Bank where
  | a | b
  deriving DecidableEq, Repr

/-- What one point's lane gave a running excitation group (R162, R163): for each chip of the lead-in and of the averaged periods
the codes of its kept samples. -/
structure PointSamples where
  point : PortNo
  chips : List Codes
  deriving DecidableEq, Repr

abbrev MapSamples := List PointSamples

/-- The codes of the rest currents that points' lanes gave before pass 1 (R166). -/
abbrev RestSamples := List (PortNo × Codes)

/-- What one loop of a refinement round gave (R177): the codes of lanes L2 and L3 in each of its eight phases. -/
structure RoundResult where
  a : PortNo
  b : PortNo
  amps : List Codes
  volts : List Codes
  deriving DecidableEq, Repr

abbrev RoundResults := List RoundResult

/-- What a sweep measured at one level (R222): the codes of the kept samples, lane by lane in the order of R222, whether a clamp
was active during a kept sample, and which bus sources have their clamp active (bit 0 BS2m, bit 1 BS2m + 1). -/
structure SweepReading where
  codes : List Codes
  compliance : Bool
  sourceClamps : Nat
  deriving DecidableEq, Repr

/-- A frame received by a CAN FD engine (R224): its start, its identifier word and its data. -/
structure CanFrame where
  start : Tk
  ident : Nat
  data : Bytes
  deriving DecidableEq, Repr

/-- A LIN frame (R225, R229): start of the frame, end of the header, identifier, what was read of the response, and checksum
status (0 ok, 1 bad, 2 no response, 3 incomplete). -/
structure LinFrame where
  start : Tk
  headerEnd : Tk
  ident : Nat
  data : Bytes
  checksum : Nat
  deriving DecidableEq, Repr

/-- A serial message that a SENT frame completed (R226, R229). -/
structure SentSerial where
  id : Nat
  data : Nat
  format : Nat
  crcStatus : Nat
  deriving DecidableEq, Repr

/-- A SENT frame (R226): its start, its calibration pulse in tk, its nibbles, its CRC nibble, whether its pause pulse is missing,
and the serial message that it completes. -/
structure SentFrame where
  start : Tk
  calibration : Nat
  status : Nat
  nibbles : List Nat
  crc : Nat
  pauseMissing : Bool
  serial : Option SentSerial
  deriving DecidableEq, Repr

/-- One averaged result of a PWM capture unit (R227), in tk. -/
structure PwmReading where
  firstEdge : Tk
  period : Nat
  high : Nat
  deriving DecidableEq, Repr

/-- What a Larder memory error hits (R363). -/
inductive LarderHit where
  | corrected
  | entry (q : QueueNo) (seq : Nat)
  | descriptor (q : QueueNo)
  deriving DecidableEq, Repr

/-- What a Cellar memory error hits (R486). -/
inductive CellarHit where
  | corrected
  | journal (addr : Nat)
  | item (cls key addr : Nat)
  | extent (cls key addr : Nat)
  | root (copy : Fin 2) (addr : Nat)
  | roots
  deriving DecidableEq, Repr

/-- Why a Cellar transaction cannot proceed (R482). -/
inductive AbandonReason where
  | space
  | readBack (addr : Nat)
  deriving DecidableEq, Repr

/-- An entry offered to the queue system, before it takes its sequence number (R17, R348). -/
structure NewEntry where
  stamp : Tk
  tag : Nat
  kind : Nat
  flags : Nat
  payload : Bytes
  deriving DecidableEq, Repr

/-- A write through a fabric queue port (R400); `stamp` is the stamp the fabric supplies, if it does. -/
structure QueuePortWrite where
  queue : Nat
  kind : Nat
  flags : Nat
  payload : Bytes
  stamp : Option Tk
  deriving DecidableEq, Repr

/-- What a lane of a zone border carries (R385), seen from the zone. -/
inductive LaneRole where
  | outData | outRequest | outAcknowledge | inData | inRequest | inAcknowledge
  deriving DecidableEq, Repr

/-- A border lane of a zone: its side (0 north, 1 east, 2 south, 3 west), its number and its role. -/
structure LaneRef where
  side : Fin 4
  lane : Fin 128
  role : LaneRole
  deriving DecidableEq, Repr

/-- What was wrong on a CAN FD bus (R228, R230): an error frame while a request is sent, a CRC error in a received frame; neither
where the error counters alone have changed. -/
structure CanFault where
  frame : Bool := false
  crc : Bool := false
  deriving DecidableEq, Repr

/-- A ball that a zone image drives (R396, R398). -/
inductive FabricPad where
  | port (p : PortNo)
  | pin (n : PinNo)
  deriving DecidableEq, Repr

/-- What happens inside a running zone, as far as the device reports it: a dual-rail bit takes a code (R376, R380), the
fabric reads or writes a word of block memory through port A or B (R381, R382), a bundled-data stage makes the next step of
its handshake (R376), the zone drives an outgoing border lane (R385), or the inputs of a handshake cell change: those of its
function block, F in the low and G in the high four bits, and those of its completion element (R375). -/
inductive FabricChange where
  | rails (bit : Fin 12288) (code : Fin 4)
  | blockRead (block : Fin 96) (portB : Bool) (index : Nat)
  | blockWrite (block : Fin 96) (portB : Bool) (index value : Nat)
  | handshake (stage : Nat)
  | lane (l : LaneRef) (level : Bool)
  | cell (k : Fin 24576) (inputs : BitVec 8) (completion : BitVec 3)
  deriving DecidableEq, Repr

/-- A change inside a zone. -/
structure ZoneChange where
  zone : ZoneNo
  change : FabricChange
  deriving DecidableEq, Repr

/-- What upsets have left behind since the scrubber's last frame (R261, R382, R429, R430, R433): the bytes of the frame it
examines, and the flipped bits of words of local and block memory by address, of Loft copies by frame and copy, and of the
scrubber's latches by copy and latch. -/
structure Upsets where
  frame : Option (List (BitVec 8)) := none
  words : List (Nat × BitVec 32) := []
  loft : List (FrameNo × Fin 3 × BitVec 32) := []
  latches : List (Fin 3 × Fin 5 × BitVec 32) := []
  deriving DecidableEq, Repr

/-- The link a session is bound to; codes 0x00, 0x01, 0x02 (R459). -/
inductive Link where
  | can0 | net0 | net1
  deriving DecidableEq, Repr

/-- An Ethernet frame on a NET link that carries no datagram of the device's ports (R445): an ARP request for an IPv4 address, a
neighbour solicitation for an IPv6 address, an ICMP or ICMPv6 echo request to an address, what a DHCPv4 server grants, and a frame
with a VLAN tag, a jumbo frame or an IP fragment. -/
inductive NetFrame where
  | arp (target : BitVec 32)
  | solicit (target : List (BitVec 8))
  | echo4 (target : BitVec 32) (payload : List (BitVec 8))
  | echo6 (target payload : List (BitVec 8))
  | lease (address : BitVec 32) (maskBits : Fin 33) (gateway : BitVec 32)
  | vlan
  | jumbo
  | fragment
  deriving DecidableEq, Repr

/-- A change of a host link (R537): block lock and address of a NET link with its module signals, or the error state
of CAN0; or a frame on a NET link (R445; DESIGN CHOICE, log entry 164). -/
inductive LinkChange where
  | net (n : Fin 2) (blockLock addressValid moduleAbsent los txFault : Bool)
  | can (errorState : Fin 3) (tec rxErr : Nat)
  | frame (n : Fin 2) (f : NetFrame)
  deriving DecidableEq, Repr

/-- A datagram of the Itdar transport as it arrives (R446): where it comes from, its header fields, payload and tag. -/
structure Datagram where
  link : Link
  addr : Bytes
  version : Nat
  opcode : Nat
  session : Nat
  flags : Nat
  seq : Nat
  reqId : Nat
  payload : Bytes
  tag : Bytes
  deriving DecidableEq, Repr

/-- A USDO request on CAN0 (R454): expedited and segmented transfers, and any other service. -/
inductive UsdoRequest where
  | upload (idx sub : Nat)
  | uploadSegment (toggle : Bool)
  | download (idx sub : Nat) (bytes : Bytes)
  | downloadBegin (idx sub size : Nat)
  | downloadSegment (toggle : Bool) (bytes : Bytes) (last : Bool)
  | other
  deriving DecidableEq, Repr

/-- A USDO request frame on CAN0 with its CAN identifier (R454). -/
structure UsdoFrame where
  ident : Nat
  request : UsdoRequest
  deriving DecidableEq, Repr

/-- An item that calibration covers on one die (R488): one of its 16 quads, or one of its four bus items in the order
BC2d, BC2d+1, BS2d, BS2d+1. -/
inductive CalItem where
  | quad (q : Fin 16)
  | bus (k : Fin 4)
  deriving DecidableEq, Repr

/-- What 1,024 samples of a port's force-ball voltage give in the in-situ step (R494): their mean and their peak-to-peak, in
microvolts. -/
structure PathReading where
  mean : Int
  peak : Nat
  deriving DecidableEq, Repr

/-- What one calibration unit found (R494, R495): the readings of its verification at 0 V and at 20 V or the internal
reference, in microvolts, and those of the in-situ step before and after its injection. -/
structure UnitResult where
  atZero : Int
  atFull : Int
  path : PathReading
  residual : PathReading
  deriving DecidableEq, Repr

/-- The result of one unit of the global calibration (R498). -/
structure GlobalResult where
  die : DieNo
  item : CalItem
  unit : Nat
  r : UnitResult
  deriving DecidableEq, Repr

abbrev GlobalResults := List GlobalResult

/-- Where a sampled current flows (R234). -/
inductive FigureOf where
  | port (p : PortNo)
  | bus (n : Fin 8)
  deriving DecidableEq, Repr

/-- One sampled port or bus source (R234): ball voltage in microvolts and current in nA, positive out of the ball. -/
structure Figure where
  src : FigureOf
  uv : Int
  na : Int
  deriving DecidableEq, Repr

abbrev Figures := List Figure

/-! ## The commands -/

/-- The operations and events of the IZ-7256, one per row of spec/opcode_table.json and in its order. The rule named
beside a constructor is the rule of its row. -/
inductive Instr where
  /-- OBJECT_WRITE (R442). -/
  | objectWrite (t : Tk) (a : Accessor) (idx sub : Nat) (bytes : Bytes)
  /-- FUNCTION_CHANGE (R52). -/
  | functionChange (t : Tk) (a : Accessor) (p : PortNo) (v : Nat)
  /-- FORCE_LEVEL_WRITE (R51). -/
  | forceLevelWrite (t : Tk) (a : Accessor) (p : PortNo) (current : Bool) (v : Int)
  /-- RANGE_CHANGE (R50). -/
  | rangeChange (t : Tk) (a : Accessor) (p : PortNo) (v : Nat)
  /-- RANGE_CHANGE_COMPLETE (R50). -/
  | rangeChangeComplete (t : Tk) (p : PortNo)
  /-- SETTLING_END (R49). -/
  | settlingEnd (t : Tk) (p : PortNo)
  /-- BUS_CONNECTION_WRITE (R60). -/
  | busConnectionWrite (t : Tk) (a : Accessor) (p : PortNo) (v : Nat)
  /-- BUS_SWITCH_CLOSED (R60). -/
  | busSwitchClosed (t : Tk) (p : PortNo)
  /-- CLAMP_TIMEOUT (R41). -/
  | clampTimeout (t : Tk) (p : PortNo)
  /-- SENSE_OPEN (R43). -/
  | senseOpen (t : Tk) (p : PortNo)
  /-- SENSE_CHECK_PASS (R42). -/
  | senseCheckPass (t : Tk) (p : PortNo)
  /-- PORT_FAULT (R67). -/
  | portFault (t : Tk) (p : PortNo) (cause : PortCause)
  /-- DIE_CURRENT_LIMIT (R66). -/
  | dieCurrentLimit (t : Tk) (die : Option DieNo)
  /-- FAULT_CLEAR (R69). -/
  | faultClear (t : Tk) (a : Accessor) (p : PortNo) (v : Nat) (gone : Bool)
  /-- RECEIVER_RESTART_DONE (R55). -/
  | receiverRestartDone (t : Tk) (p : PortNo) (level : Bool)
  /-- PARK_EXIT (R83). -/
  | parkExit (t : Tk) (p : PortNo)
  /-- PIN_SIGNAL_CHANGE (R86). -/
  | pinSignalChange (t : Tk) (x : SignalChange)
  /-- GLITCH_FILTER_ACCEPT (R86). -/
  | glitchFilterAccept (t : Tk) (l : FilterLine)
  /-- DEBOUNCE_WINDOW_END (R87). -/
  | debounceWindowEnd (t : Tk) (l : FilterLine)
  /-- RESYNC_LEVEL_DEFINED (R89). -/
  | resyncLevelDefined (t : Tk) (l : FilterLine)
  /-- SERVICE_PIN_FUNCTION_WRITE (R94). -/
  | servicePinFunctionWrite (t : Tk) (a : Accessor) (n : PinNo) (v : Nat)
  /-- INTERLOCK_TRIP (R96). -/
  | interlockTrip (t : Tk)
  /-- CONTENTION_DETECT (R100). -/
  | contentionDetect (t : Tk) (n : PinNo)
  /-- RUN_MODE_STOP (R111). -/
  | runModeStop (t : Tk) (a : Accessor) (c : ConvNo)
  /-- SEQUENCE_STOPPED (R111). -/
  | sequenceStopped (t : Tk) (c : ConvNo)
  /-- RUN_MODE_CONTINUOUS (R110). -/
  | runModeContinuous (t : Tk) (a : Accessor) (c : ConvNo)
  /-- RUN_MODE_TRIGGERED (R110). -/
  | runModeTriggered (t : Tk) (a : Accessor) (c : ConvNo)
  /-- RUN_MODE_ONE_PASS (R110). -/
  | runModeOnePass (t : Tk) (a : Accessor) (c : ConvNo)
  /-- PASS_START (R114). -/
  | passStart (t : Tk) (c : ConvNo)
  /-- ENTRY_END (R108). -/
  | entryEnd (t : Tk) (c : ConvNo) (codes : Codes)
  /-- RAW_ENTRY_WRITE (R121). -/
  | rawEntryWrite (t : Tk) (c : ConvNo) (codes : Codes)
  /-- TIMER_TRIGGER (R113). -/
  | timerTrigger (t : Tk) (c : ConvNo)
  /-- TRIGGER_COMMAND (R113). -/
  | triggerCommand (t : Tk) (a : Accessor) (c : ConvNo) (v : Nat)
  /-- URGENT_REQUEST (R115). -/
  | urgentRequest (t : Tk) (a : Accessor) (c : ConvNo) (v : Nat)
  /-- URGENT_START (R116). -/
  | urgentStart (t : Tk) (c : ConvNo)
  /-- URGENT_END (R116). -/
  | urgentEnd (t : Tk) (c : ConvNo) (codes : Codes)
  /-- DIAGNOSIS_COMMAND (R127). -/
  | diagnosisCommand (t : Tk) (a : Accessor) (c : ConvNo) (v : Nat)
  /-- DIAGNOSIS_END (R128). -/
  | diagnosisEnd (t : Tk) (c : ConvNo) (m0 m1 m2 : Int)
  /-- REFERENCE_SETTLED (R107). -/
  | referenceSettled (t : Tk) (c : ConvNo)
  /-- EVENT_SELECT_WRITE (R299). -/
  | eventSelectWrite (t : Tk) (a : Accessor) (idx sub v : Nat)
  /-- EVENT_CAUSES_CLEAR (R129). -/
  | eventCausesClear (t : Tk) (a : Accessor) (idx sub v : Nat)
  /-- COARSE_OUTPUT (R135). -/
  | coarseOutput (t : Tk) (n : ChainNo) (l : Lane) (codes : Codes)
  /-- FINE_OUTPUT (R139). -/
  | fineOutput (t : Tk) (n : ChainNo) (l : Lane) (codes : Codes)
  /-- SAMPLE_DROPPED (R146). -/
  | sampleDropped (t : Tk) (n : ChainNo) (l : Lane)
  /-- CHAIN_CONFIG_WRITE (R149). -/
  | chainConfigWrite (t : Tk) (a : Accessor) (n : ChainNo) (sub v : Nat)
  /-- BANK_WRITE (R141). -/
  | bankWrite (t : Tk) (a : Accessor) (n : ChainNo) (bank : Bank) (bytes : Bytes)
  /-- SWAP_REQUEST (R142). -/
  | swapRequest (t : Tk) (a : Accessor) (n : ChainNo) (v : Nat)
  /-- FADE_END (R142). -/
  | fadeEnd (t : Tk) (n : ChainNo)
  /-- SYNC_COMMAND (R147). -/
  | syncCommand (t : Tk) (a : Accessor) (n : ChainNo) (v : Nat)
  /-- SYNC_INPUT_EDGE (R335). -/
  | syncInputEdge (t stamp : Tk)
  /-- SYNC_RESET (R148). -/
  | syncReset (t : Tk) (n : ChainNo)
  /-- MAPPER_ENABLE (R158). -/
  | mapperEnable (t : Tk) (a : Accessor)
  /-- MAPPER_DISABLE (R158). -/
  | mapperDisable (t : Tk) (a : Accessor)
  /-- MAP_START (R185). -/
  | mapStart (t : Tk) (a : Accessor)
  /-- MAP_ABORT_COMMAND (R187). -/
  | mapAbortCommand (t : Tk) (a : Accessor)
  /-- MAP_BUDGET_GRANTED (R244). -/
  | mapBudgetGranted (t : Tk)
  /-- MAP_BUDGET_WAIT_EXPIRED (R170). -/
  | mapBudgetWaitExpired (t : Tk)
  /-- MAP_GROUP_END (R163). -/
  | mapGroupEnd (t : Tk) (rests : RestSamples) (samples : MapSamples)
  /-- MAP_ANALYSIS_END (R171). -/
  | mapAnalysisEnd (t : Tk)
  /-- MAP_ROUND_END (R177). -/
  | mapRoundEnd (t : Tk) (rs : RoundResults)
  /-- MAP_END (R184). -/
  | mapEnd (t : Tk)
  /-- REFERENCE_WRITE (R182). -/
  | referenceWrite (t : Tk) (a : Accessor) (slot : Fin 16) (bytes : Bytes)
  /-- PLAN_IMAGE_WRITE (R192). -/
  | planImageWrite (t : Tk) (a : Accessor) (slot : Fin 4) (bytes : Bytes)
  /-- PLAN_START (R204). -/
  | planStart (t : Tk) (a : Accessor)
  /-- PLAN_ABORT (R205). -/
  | planAbort (t : Tk) (a : Accessor)
  /-- DISPATCH (R208). -/
  | dispatch (t : Tk) (k : StepNo)
  /-- STEP_END (R214). -/
  | stepEnd (t : Tk) (k : StepNo)
  /-- STEP_TIMEOUT (R194). -/
  | stepTimeout (t : Tk) (k : StepNo)
  /-- STEP_HELD (R211). -/
  | stepHeld (t : Tk) (k : StepNo)
  /-- STEP_BUDGET_WAIT_EXPIRED (R211). -/
  | stepBudgetWaitExpired (t : Tk) (k : StepNo)
  /-- PEAK_TAIL_END (R209). -/
  | peakTailEnd (t : Tk)
  /-- WAIT_STEP_ELAPSED (R203). -/
  | waitStepElapsed (t : Tk) (k : StepNo)
  /-- SWEEP_LEVEL_MEASURED (R221). -/
  | sweepLevelMeasured (t : Tk) (m : Fin 4) (r : SweepReading)
  /-- SWEEP_END (R221). -/
  | sweepEnd (t : Tk) (m : Fin 4)
  /-- CAN_ENABLE (R224). -/
  | canEnable (t : Tk) (a : Accessor) (e : Fin 4) (v : Nat)
  /-- CAN_TRANSMIT (R224). -/
  | canTransmit (t : Tk) (a : Accessor) (e : Fin 4) (bytes : Bytes)
  /-- CAN_FRAME_TRANSMITTED (R224). -/
  | canFrameTransmitted (t : Tk) (e : Fin 4)
  /-- CAN_FRAME_RECEIVED (R224). -/
  | canFrameReceived (t : Tk) (e : Fin 4) (f : CanFrame)
  /-- CAN_BUS_OFF (R224). -/
  | canBusOff (t : Tk) (e : Fin 4)
  /-- CAN_RECOVER (R231). -/
  | canRecover (t : Tk) (a : Accessor) (e : Fin 4) (v : Nat)
  /-- LIN_ENABLE (R225). -/
  | linEnable (t : Tk) (a : Accessor) (l : Fin 8) (v : Nat)
  /-- LIN_FRAME_RECEIVED (R225). -/
  | linFrameReceived (t : Tk) (l : Fin 8) (f : LinFrame)
  /-- SENT_ENABLE (R226). -/
  | sentEnable (t : Tk) (a : Accessor) (r : Fin 8) (v : Nat)
  /-- SENT_FRAME_RECEIVED (R226). -/
  | sentFrameReceived (t : Tk) (r : Fin 8) (f : SentFrame)
  /-- PWM_ENABLE (R227). -/
  | pwmEnable (t : Tk) (a : Accessor) (u : Fin 8) (v : Nat)
  /-- PWM_RESULT (R227). -/
  | pwmResult (t : Tk) (u : Fin 8) (r : PwmReading)
  /-- PROTOCOL_RESPONSE_TIMEOUT (R228). -/
  | protocolResponseTimeout (t : Tk) (k : StepNo)
  /-- GOVERNOR_PERIOD_END (R233). -/
  | governorPeriodEnd (t : Tk) (pv : Int)
  /-- ADD (R269). -/
  | add (t : Tk) (c : CoreNo) (rd ra rb : Reg)
  /-- SUB (R269). -/
  | sub (t : Tk) (c : CoreNo) (rd ra rb : Reg)
  /-- AND (R269). -/
  | and (t : Tk) (c : CoreNo) (rd ra rb : Reg)
  /-- OR (R269). -/
  | or (t : Tk) (c : CoreNo) (rd ra rb : Reg)
  /-- XOR (R269). -/
  | xor (t : Tk) (c : CoreNo) (rd ra rb : Reg)
  /-- SHL (R269). -/
  | shl (t : Tk) (c : CoreNo) (rd ra rb : Reg)
  /-- SHR (R269). -/
  | shr (t : Tk) (c : CoreNo) (rd ra rb : Reg)
  /-- SAR (R269). -/
  | sar (t : Tk) (c : CoreNo) (rd ra rb : Reg)
  /-- MUL (R269). -/
  | mul (t : Tk) (c : CoreNo) (rd ra rb : Reg)
  /-- MULH (R269). -/
  | mulh (t : Tk) (c : CoreNo) (rd ra rb : Reg)
  /-- MULHU (R269). -/
  | mulhu (t : Tk) (c : CoreNo) (rd ra rb : Reg)
  /-- DIV (R269). -/
  | div (t : Tk) (c : CoreNo) (rd ra rb : Reg)
  /-- DIVU (R269). -/
  | divu (t : Tk) (c : CoreNo) (rd ra rb : Reg)
  /-- REM (R269). -/
  | rem (t : Tk) (c : CoreNo) (rd ra rb : Reg)
  /-- CMP (R269). -/
  | cmp (t : Tk) (c : CoreNo) (ra rb : Reg)
  /-- ADDI (R269). -/
  | addi (t : Tk) (c : CoreNo) (rd ra : Reg) (imm : Imm16)
  /-- ANDI (R269). -/
  | andi (t : Tk) (c : CoreNo) (rd ra : Reg) (imm : Imm16)
  /-- ORI (R269). -/
  | ori (t : Tk) (c : CoreNo) (rd ra : Reg) (imm : Imm16)
  /-- XORI (R269). -/
  | xori (t : Tk) (c : CoreNo) (rd ra : Reg) (imm : Imm16)
  /-- SHLI (R269). -/
  | shli (t : Tk) (c : CoreNo) (rd ra : Reg) (sh : Fin 32)
  /-- SHRI (R269). -/
  | shri (t : Tk) (c : CoreNo) (rd ra : Reg) (sh : Fin 32)
  /-- SARI (R269). -/
  | sari (t : Tk) (c : CoreNo) (rd ra : Reg) (sh : Fin 32)
  /-- CMPI (R269). -/
  | cmpi (t : Tk) (c : CoreNo) (ra : Reg) (imm : Imm16)
  /-- LUI (R269). -/
  | lui (t : Tk) (c : CoreNo) (rd : Reg) (imm : Imm16)
  /-- LDW (R270). -/
  | ldw (t : Tk) (c : CoreNo) (rd ra : Reg) (imm : Imm16)
  /-- LDH (R270). -/
  | ldh (t : Tk) (c : CoreNo) (rd ra : Reg) (imm : Imm16)
  /-- LDHU (R270). -/
  | ldhu (t : Tk) (c : CoreNo) (rd ra : Reg) (imm : Imm16)
  /-- LDB (R270). -/
  | ldb (t : Tk) (c : CoreNo) (rd ra : Reg) (imm : Imm16)
  /-- LDBU (R270). -/
  | ldbu (t : Tk) (c : CoreNo) (rd ra : Reg) (imm : Imm16)
  /-- STW (R270). -/
  | stw (t : Tk) (c : CoreNo) (rd ra : Reg) (imm : Imm16)
  /-- STH (R270). -/
  | sth (t : Tk) (c : CoreNo) (rd ra : Reg) (imm : Imm16)
  /-- STB (R270). -/
  | stb (t : Tk) (c : CoreNo) (rd ra : Reg) (imm : Imm16)
  /-- XCHG (R265). -/
  | xchg (t : Tk) (c : CoreNo) (rd ra rb : Reg)
  /-- B (R271). -/
  | b (t : Tk) (c : CoreNo) (cond : Cond) (off : BitVec 20)
  /-- CALL (R272). -/
  | call (t : Tk) (c : CoreNo) (off : BitVec 24)
  /-- JR (R272). -/
  | jr (t : Tk) (c : CoreNo) (ra : Reg)
  /-- JALR (R272). -/
  | jalr (t : Tk) (c : CoreNo) (rd ra : Reg)
  /-- MFS (R258). -/
  | mfs (t : Tk) (c : CoreNo) (rd : Reg) (imm : Imm16)
  /-- MTS (R258). -/
  | mts (t : Tk) (c : CoreNo) (imm : Imm16) (ra : Reg)
  /-- RETI (R286). -/
  | reti (t : Tk) (c : CoreNo)
  /-- TRAP (R272). -/
  | trap (t : Tk) (c : CoreNo) (imm : Imm16)
  /-- NOP (R272). -/
  | nop (t : Tk) (c : CoreNo)
  /-- ODR (R275). -/
  | odr (t : Tk) (c : CoreNo) (rd ra : Reg) (imm : Imm16)
  /-- ODW (R277). -/
  | odw (t : Tk) (c : CoreNo) (ra rb : Reg)
  /-- QPUT (R278). -/
  | qput (t : Tk) (c : CoreNo) (ra rb : Reg)
  /-- QGET (R279). -/
  | qget (t : Tk) (c : CoreNo) (ra rb : Reg)
  /-- WAITE (R280). -/
  | waite (t : Tk) (c : CoreNo) (rd ra : Reg)
  /-- WAITE_TIMEOUT (R280). -/
  | waiteTimeout (t : Tk) (c : CoreNo)
  /-- ECMP (R281). -/
  | ecmp (t : Tk) (c : CoreNo) (ra : Reg)
  /-- BREQ (R282). -/
  | breq (t : Tk) (c : CoreNo) (rd ra : Reg)
  /-- TSR (R283). -/
  | tsr (t : Tk) (c : CoreNo) (rd : Reg) (imm : Imm16)
  /-- NORMAL_ENTRY (R284). -/
  | normalEntry (t : Tk) (c : CoreNo)
  /-- FAST_ENTRY (R285). -/
  | fastEntry (t : Tk) (c : CoreNo)
  /-- CORE_START (R292). -/
  | coreStart (t : Tk) (a : Accessor) (c : CoreNo)
  /-- CORE_STOP (R292). -/
  | coreStop (t : Tk) (a : Accessor) (c : CoreNo)
  /-- CORE_RESET (R292). -/
  | coreReset (t : Tk) (a : Accessor) (c : CoreNo)
  /-- LOCAL_MEMORY_WRITE (R297). -/
  | localMemoryWrite (t : Tk) (a : Accessor) (c : CoreNo) (bytes : Bytes)
  /-- SCRUBBER_STALL_CHECK (R295). -/
  | scrubberStallCheck (t : Tk)
  /-- EVENT_TIME_LIMIT (R304). -/
  | eventTimeLimit (t : Tk) (n : SourceNo)
  /-- EVENT_COMMIT (R307). -/
  | eventCommit (t : Tk) (n : SourceNo)
  /-- LEVEL_VANISHED (R312). -/
  | levelVanished (t : Tk) (n : SourceNo)
  /-- SESSION_COMPLETION (R310). -/
  | sessionCompletion (t : Tk) (a : Accessor) (v : Nat)
  /-- SOURCE_CONFIGURATION_WRITE (R323). -/
  | sourceConfigurationWrite (t : Tk) (a : Accessor) (n : SourceNo) (v : Nat)
  /-- SUBSCRIPTION_WRITE (R315). -/
  | subscriptionWrite (t : Tk) (a : Accessor) (word : Fin 16) (v : Nat)
  /-- BOOKS_SELECT (R324). -/
  | booksSelect (t : Tk) (a : Accessor) (v : Nat)
  /-- REFERENCE_LOST (R327). -/
  | referenceLost (t : Tk) (edges : Bool)
  /-- HOLDOVER_EXPIRED (R327). -/
  | holdoverExpired (t : Tk)
  /-- REFERENCE_LOCKED (R328). -/
  | referenceLocked (t : Tk) (calendar : Nat)
  /-- LOCK_HELD (R328). -/
  | lockHeld (t : Tk)
  /-- EPOCH_WRITE (R330). -/
  | epochWrite (t : Tk) (a : Accessor) (v : Nat)
  /-- SYNC_OUTPUT_COMMAND (R336). -/
  | syncOutputCommand (t : Tk) (a : Accessor) (v : Nat)
  /-- SYNC_OUTPUT_EDGE (R336). -/
  | syncOutputEdge (t : Tk)
  /-- SYNC_PULSE_END (R336). -/
  | syncPulseEnd (t : Tk)
  /-- TRIGGER_OUTPUT_COMMAND (R337). -/
  | triggerOutputCommand (t : Tk) (a : Accessor) (o : Fin 4) (v : Nat)
  /-- TRIGGER_OUTPUT_TIMER (R337). -/
  | triggerOutputTimer (t : Tk) (o : Fin 4)
  /-- TRIGGER_OUTPUT_RISE (R337). -/
  | triggerOutputRise (t : Tk) (o : Fin 4)
  /-- TRIGGER_OUTPUT_FALL (R337). -/
  | triggerOutputFall (t : Tk) (o : Fin 4)
  /-- QUEUE_CREATE (R344). -/
  | queueCreate (t : Tk) (a : Accessor) (o : WindowOffset) (v : Nat)
  /-- QUEUE_DELETE (R346). -/
  | queueDelete (t : Tk) (a : Accessor) (o : WindowOffset)
  /-- QUEUE_FLUSH (R346). -/
  | queueFlush (t : Tk) (a : Accessor) (o : WindowOffset)
  /-- QUEUE_SETTINGS_WRITE (R374). -/
  | queueSettingsWrite (t : Tk) (a : Accessor) (o : WindowOffset) (v : Nat)
  /-- ENTRY_WRITE (R348). -/
  | entryWrite (t : Tk) (q : QueueNo) (e : NewEntry)
  /-- SPILL_START (R357). -/
  | spillStart (t : Tk)
  /-- SPILL_ACK (R357). -/
  | spillAck (t : Tk)
  /-- QUEUE_REMOVE (R364). -/
  | queueRemove (t : Tk) (a : Accessor) (o : WindowOffset) (v : Nat)
  /-- STREAM_OPEN (R365). -/
  | streamOpen (t : Tk) (a : Accessor) (k : Fin 8) (v : Nat)
  /-- STREAM_CLOSE (R365). -/
  | streamClose (t : Tk) (a : Accessor) (k : Fin 8)
  /-- CREDIT_GRANT (R366). -/
  | creditGrant (t : Tk) (a : Accessor) (k : Fin 8) (v : Nat)
  /-- STREAM_ACKNOWLEDGEMENT (R366). -/
  | streamAcknowledgement (t : Tk) (a : Accessor) (k : Fin 8) (v : Nat)
  /-- RESEND_REQUEST (R366). -/
  | resendRequest (t : Tk) (a : Accessor) (k : Fin 8) (v : Nat)
  /-- RESEND_TIMEOUT (R366). -/
  | resendTimeout (t : Tk) (n : SessionNo) (k : Fin 8)
  /-- DATAGRAM_SEND (R367). -/
  | datagramSend (t : Tk) (n : SessionNo) (k : Fin 8)
  /-- CREDIT_RETURN (R452). -/
  | creditReturn (t : Tk) (d : Datagram)
  /-- LARDER_TRAINING_DONE (R360). -/
  | larderTrainingDone (t : Tk) (ok : Bool)
  /-- DESCRIPTOR_COPY_DONE (R351). -/
  | descriptorCopyDone (t : Tk)
  /-- LARDER_ECC_ERROR (R363). -/
  | larderEccError (t : Tk) (h : LarderHit)
  /-- ZONE_START (R394). -/
  | zoneStart (t : Tk) (a : Accessor) (z : ZoneNo)
  /-- ZONE_STOP (R388). -/
  | zoneStop (t : Tk) (a : Accessor) (z : ZoneNo)
  /-- ZONE_ERASE (R388). -/
  | zoneErase (t : Tk) (a : Accessor) (z : ZoneNo)
  /-- ZONE_CLAMP (R390). -/
  | zoneClamp (t : Tk) (z : ZoneNo) (opened : List Nat)
  /-- ZONE_RESET_DONE (R390). -/
  | zoneResetDone (t : Tk) (z : ZoneNo)
  /-- BLOCK_MEMORY_ZEROED (R388). -/
  | blockMemoryZeroed (t : Tk) (z : ZoneNo)
  /-- LANE_RELEASE (R395). -/
  | laneRelease (t : Tk) (z : ZoneNo) (lane : LaneRef)
  /-- SCHEDULE_ENTRY_APPLY (R397). -/
  | scheduleEntryApply (t : Tk) (p : PortNo)
  /-- QUEUE_PORT_WRITE (R400). -/
  | queuePortWrite (t : Tk) (z : ZoneNo) (k : Fin 16) (w : QueuePortWrite)
  /-- TIME_PORT_REQUEST (R401). -/
  | timePortRequest (t : Tk) (z : ZoneNo)
  /-- USER_EVENT_LINE_CHANGE (R402). -/
  | userEventLineChange (t : Tk) (z : ZoneNo) (k : Fin 4) (level : Bool)
  /-- DUAL_RAIL_ERROR (R380). -/
  | dualRailError (t : Tk) (x : ZoneChange)
  /-- BLOCK_MEMORY_WRITE (R383). -/
  | blockMemoryWrite (t : Tk) (a : Accessor) (z : ZoneNo) (bytes : Bytes)
  /-- ZONE_SPEED_MEASURE (R379). -/
  | zoneSpeedMeasure (t : Tk) (z : ZoneNo) (permille : Nat)
  /-- STREAM_DATA_WRITE (R416). -/
  | streamDataWrite (t : Tk) (a : Accessor) (bytes : Bytes)
  /-- ZONE_BEGIN_RECORD (R417). -/
  | zoneBeginRecord (t : Tk)
  /-- FRAMES_RECORD (R417). -/
  | framesRecord (t : Tk) (mismatch : Option Nat)
  /-- BLOCK_MEMORY_RECORD (R414). -/
  | blockMemoryRecord (t : Tk)
  /-- STREAM_END_RECORD (R418). -/
  | streamEndRecord (t : Tk)
  /-- STREAM_ABORT (R419). -/
  | streamAbort (t : Tk) (a : Accessor)
  /-- STREAM_IDLE_TIMEOUT (R419). -/
  | streamIdleTimeout (t : Tk)
  /-- KEK_WRITE (R421). -/
  | kekWrite (t : Tk) (a : Accessor) (bytes : Bytes)
  /-- EK_WRITE (R422). -/
  | ekWrite (t : Tk) (a : Accessor) (bytes : Bytes)
  /-- BATTERY_KEY_WRITE (R422). -/
  | batteryKeyWrite (t : Tk) (a : Accessor) (k : Fin 4) (bytes : Bytes)
  /-- POLICY_WRITE (R423). -/
  | policyWrite (t : Tk) (a : Accessor) (v : Nat)
  /-- MINIMUM_SECURITY_VERSION_WRITE (R423). -/
  | minimumSecurityVersionWrite (t : Tk) (a : Accessor) (v : Nat)
  /-- CLEAR_BATTERY_KEYS (R425). -/
  | clearBatteryKeys (t : Tk) (a : Accessor) (v : Nat)
  /-- LOCKOUT_END (R424). -/
  | lockoutEnd (t : Tk)
  /-- STREAM_SLOT_WRITE (R426). -/
  | streamSlotWrite (t : Tk) (a : Accessor) (slot : Fin 8) (bytes : Bytes)
  /-- CELLAR_LOAD (R427). -/
  | cellarLoad (t : Tk) (a : Accessor) (v : Nat)
  /-- REPAIR_COPY_STORE (R428). -/
  | repairCopyStore (t : Tk) (z : ZoneNo)
  /-- SCRUBBER_FRAME_CHECK (R430). -/
  | scrubberFrameCheck (t : Tk) (f : FrameNo) (u : Upsets)
  /-- FRAME_REPAIR (R431). -/
  | frameRepair (t : Tk) (ok : Bool)
  /-- SCRUBBER_SWEEP_END (R430). -/
  | scrubberSweepEnd (t : Tk)
  /-- OPEN (R459). -/
  | openDatagram (t : Tk) (d : Datagram)
  /-- PROOF (R459). -/
  | proof (t : Tk) (d : Datagram)
  /-- SESSION_OPEN_WRITE (R459). -/
  | sessionOpenWrite (t : Tk) (bytes : Bytes)
  /-- SESSION_PROOF_WRITE (R459). -/
  | sessionProofWrite (t : Tk) (bytes : Bytes)
  /-- PROOF_TIMEOUT (R460). -/
  | proofTimeout (t : Tk) (n : SessionNo)
  /-- CLOSE (R463). -/
  | close (t : Tk) (d : Datagram)
  /-- KEEPALIVE (R447). -/
  | keepalive (t : Tk) (d : Datagram)
  /-- READ (R447). -/
  | read (t : Tk) (d : Datagram)
  /-- WRITE (R447). -/
  | write (t : Tk) (d : Datagram)
  /-- DOMAIN_READ (R451). -/
  | domainRead (t : Tk) (d : Datagram)
  /-- DOMAIN_BEGIN (R451). -/
  | domainBegin (t : Tk) (d : Datagram)
  /-- DOMAIN_SEGMENT (R451). -/
  | domainSegment (t : Tk) (d : Datagram)
  /-- DOMAIN_END (R451). -/
  | domainEnd (t : Tk) (d : Datagram)
  /-- USDO_REQUEST (R454). -/
  | usdoRequest (t : Tk) (u : UsdoFrame)
  /-- USDO_TIMEOUT (R454). -/
  | usdoTimeout (t : Tk)
  /-- NMT_STOPPED (R455). -/
  | nmtStopped (t : Tk)
  /-- NMT_OPERATIONAL (R455). -/
  | nmtOperational (t : Tk) (operational : Bool)
  /-- NMT_RESET (R455). -/
  | nmtReset (t : Tk)
  /-- HEARTBEAT (R454). -/
  | heartbeat (t : Tk)
  /-- LEASE_EXPIRED (R462). -/
  | leaseExpired (t : Tk) (n : SessionNo)
  /-- CLAIM (R466). -/
  | claim (t : Tk) (a : Accessor) (bytes : Bytes)
  /-- RELEASE (R467). -/
  | release (t : Tk) (a : Accessor) (bytes : Bytes)
  /-- RELEASE_ALL (R467). -/
  | releaseAll (t : Tk) (a : Accessor) (v : Nat)
  /-- CLAIM_QUERY (R475). -/
  | claimQuery (t : Tk) (a : Accessor) (v : Nat)
  /-- BIND (R469). -/
  | bind (t : Tk) (a : Accessor)
  /-- FIXTURE_RELEASE (R26). -/
  | fixtureRelease (t : Tk) (a : Accessor)
  /-- HOST_KEY_WRITE (R458). -/
  | hostKeyWrite (t : Tk) (a : Accessor) (h : Fin 8) (bytes : Bytes)
  /-- STORE (R444). -/
  | store (t : Tk) (a : Accessor) (v : Nat)
  /-- RESTORE_DEFAULTS (R444). -/
  | restoreDefaults (t : Tk) (a : Accessor) (v : Nat)
  /-- CELLAR_COMMIT (R481). -/
  | cellarCommit (t : Tk)
  /-- CELLAR_ABANDON (R482). -/
  | cellarAbandon (t : Tk) (reason : AbandonReason)
  /-- CELLAR_REPLAY (R483). -/
  | cellarReplay (t : Tk)
  /-- COMPACTION_START (R484). -/
  | compactionStart (t : Tk)
  /-- COMPACTION_END (R484). -/
  | compactionEnd (t : Tk)
  /-- CELLAR_ECC_ERROR (R486). -/
  | cellarEccError (t : Tk) (h : CellarHit)
  /-- CALIBRATION_UNIT_START (R492). -/
  | calibrationUnitStart (t : Tk)
  /-- CALIBRATION_UNIT_END (R495). -/
  | calibrationUnitEnd (t : Tk) (r : UnitResult)
  /-- CALIBRATION_DEADLINE (R493). -/
  | calibrationDeadline (t : Tk) (d : DieNo) (item : CalItem)
  /-- CALIBRATION_RETRY (R493). -/
  | calibrationRetry (t : Tk) (d : DieNo)
  /-- CALIBRATE_DIES (R491). -/
  | calibrateDies (t : Tk) (a : Accessor)
  /-- CALIBRATE_QUAD (R502). -/
  | calibrateQuad (t : Tk) (a : Accessor)
  /-- GLOBAL_CALIBRATION (R498). -/
  | globalCalibration (t : Tk) (a : Accessor)
  /-- GLOBAL_CALIBRATION_END (R498). -/
  | globalCalibrationEnd (t : Tk) (rs : GlobalResults)
  /-- CANCEL_DUE_RUNS (R502). -/
  | cancelDueRuns (t : Tk) (a : Accessor)
  /-- SET_IMPORT (R505). -/
  | setImport (t : Tk) (a : Accessor) (d : DieNo) (bytes : Bytes)
  /-- VSUP_GOOD (R506). -/
  | vsupGood (t : Tk) (mv : Nat)
  /-- POWER_FAIL (R522). -/
  | powerFail (t : Tk) (mv : Nat)
  /-- SAVE_END (R523). -/
  | saveEnd (t : Tk)
  /-- VBAT_PRESENT (R512). -/
  | vbatPresent (t : Tk)
  /-- VBAT_LOST (R512). -/
  | vbatLost (t : Tk)
  /-- VIO_CHANGE (R536). -/
  | vioChange (t : Tk) (mv : Nat)
  /-- READINESS_SET (R507). -/
  | readinessSet (t : Tk) (bit : Fin 29)
  /-- ADVANCE_TO_IDLE (R510). -/
  | advanceToIdle (t : Tk)
  /-- MODE_REQUEST_SAFE (R516). -/
  | modeRequestSafe (t : Tk) (a : Accessor)
  /-- MODE_REQUEST_IDLE (R520). -/
  | modeRequestIdle (t : Tk) (a : Accessor)
  /-- MODE_REQUEST_RESUME (R516). -/
  | modeRequestResume (t : Tk) (a : Accessor)
  /-- MODE_REQUEST_QUIESCE (R515). -/
  | modeRequestQuiesce (t : Tk) (a : Accessor)
  /-- MODE_REQUEST_HOLD (R519). -/
  | modeRequestHold (t : Tk) (a : Accessor)
  /-- HOLD_CAUSE (R519). -/
  | holdCause (t : Tk) (c : HoldCause) (meas : Int)
  /-- HOLD_CAUSE_CLEARED (R517). -/
  | holdCauseCleared (t : Tk) (c : HoldCause)
  /-- QUIESCE_DRAINED (R515). -/
  | quiesceDrained (t : Tk)
  /-- RESET_COMMAND (R525). -/
  | resetCommand (t : Tk) (a : Accessor) (v : Nat)
  /-- RSTN_LOW (R525). -/
  | rstnLow (t : Tk)
  /-- WATCHDOG_EXPIRED (R525). -/
  | watchdogExpired (t : Tk)
  /-- CORE_BROWN_OUT (R525). -/
  | coreBrownOut (t : Tk)
  /-- BYPASS (R538). -/
  | bypass (t : Tk)
  /-- IDCODE (R538). -/
  | idcode (t : Tk)
  /-- SAMPLE_PRELOAD (R538). -/
  | samplePreload (t : Tk)
  /-- EXTEST (R538). -/
  | extest (t : Tk)
  /-- CLAMP_STATE_CHANGE (R39). -/
  | clampStateChange (t : Tk) (p : PortNo) (source sink voltage : Bool)
  /-- CAN_ERROR (R230). -/
  | canError (t : Tk) (e : Fin 4) (tec rxErr : Nat) (kind : CanFault)
  /-- BUS_OFF_RECOVERY_COMPLETE (R231). -/
  | busOffRecoveryComplete (t : Tk) (e : Fin 4)
  /-- LIN_HEADER_RECEIVED (R225). -/
  | linHeaderReceived (t start : Tk) (l : Fin 8) (ident : Nat)
  /-- LIN_MISSING_RESPONSE (R231). -/
  | linMissingResponse (t : Tk) (l : Fin 8)
  /-- FABRIC_PORT_OUTPUT_CHANGE (R396). -/
  | fabricPortOutputChange (t : Tk) (z : ZoneNo) (x : FabricPad) (d oe : Bool)
  /-- SCHEDULE_ENTRY_ARRIVAL (R397). -/
  | scheduleEntryArrival (t : Tk) (p : PortNo) (due : Tk) (d oe : Bool)
  /-- TAP_OUTPUT_TAKEN (R399). -/
  | tapOutputTaken (t : Tk) (z : ZoneNo) (k : Fin 8)
  /-- KEY_SLOT_LOCKOUT_END (R460). -/
  | keySlotLockoutEnd (t : Tk) (h : Fin 8)
  /-- HOST_LINK_STATE_CHANGE (R537). -/
  | hostLinkStateChange (t : Tk) (x : LinkChange)
  /-- RSTN_RELEASE (R525). -/
  | rstnRelease (t : Tk)
  /-- SAVE_SUPPLY_COLLAPSE (R523). -/
  | saveSupplyCollapse (t : Tk)
  /-- PORT_FIGURES_SAMPLED (R234). -/
  | portFiguresSampled (t : Tk) (temps : Temps) (figs : Figures)
  /-- ILLEGAL_INSTRUCTION (R267). -/
  | illegalInstruction (t : Tk) (c : CoreNo)
  /-- FETCH_FAULT (R272). -/
  | fetchFault (t : Tk) (c : CoreNo)
  deriving DecidableEq, Repr

end Sys2Proof
end

