-- ==== Sys2Proof/Decode.lean ====
section
/-!
DEFINITION. The words of the command table. spec/opcode_table.json gives no row any bits: a command of this block is a
request, a physical event or the passing of time, and none of them is spelled by a word.
-/

namespace Sys2Proof

/-- The command that a word spells by the table's bits: none, since no row gives bits. -/
def decodeTableWord (_nbits _w : Nat) : Option Instr := none

end Sys2Proof
end

