-- ==== Sys2Proof/Machine/Bytes.lean ====
section
/-!
DEFINITION. Numbers and bytes: little-endian fields (R4), bit fields (R5), two's-complement values of the object types,
rounding (R35), integer division of the manual's pseudocode (R14) and the REAL32 encoding.
-/

namespace Sys2Proof.Machine

/-! ## Bytes -/

/-- The value of a little-endian field (R4). -/
def leNat : Bytes → Nat
  | [] => 0
  | b :: bs => b.toNat + 256 * leNat bs

/-- The `n` low bytes of a value, little-endian (R4). -/
def natLe : Nat → Nat → Bytes
  | 0, _ => []
  | n + 1, v => BitVec.ofNat 8 v :: natLe n (v / 256)

/-- The `n` low bytes of a value, most significant first. -/
def natBe (n v : Nat) : Bytes := (natLe n v).reverse

/-- The value of a big-endian field. -/
def beNat (bs : Bytes) : Nat := leNat bs.reverse

/-- `n` bytes of `bs` from offset `o`. -/
def sliceBytes (bs : Bytes) (o n : Nat) : Bytes := (bs.drop o).take n

/-- The little-endian field of `n` bytes at offset `o`. -/
def fieldLe (bs : Bytes) (o n : Nat) : Nat := leNat (sliceBytes bs o n)

/-- `n` zero bytes. -/
def zeroBytes (n : Nat) : Bytes := List.replicate n 0#8

/-- A string as bytes. -/
def strBytes (s : String) : Bytes := s.toList.map fun c => BitVec.ofNat 8 c.toNat

/-! ## Bit fields -/

/-- The field of `n` bits that begins at bit `lo` (R5). -/
def fieldOf (v lo n : Nat) : Nat := v / 2 ^ lo % 2 ^ n

/-- Bit `i` of a value. -/
def bitOf (v i : Nat) : Bool := v / 2 ^ i % 2 == 1

/-- 1 for true, 0 for false. -/
def bnat (b : Bool) : Nat := if b then 1 else 0

/-- The value with bit `i` set or cleared. -/
def putBit (v i : Nat) (b : Bool) : Nat :=
  if bitOf v i == b then v else if b then v + 2 ^ i else v - 2 ^ i

/-- The value with the bits of `m` cleared, over the low `n` bits. -/
def clearBits (n v m : Nat) : Nat := v &&& ((2 ^ n - 1) ^^^ (m % 2 ^ n))

/-- The numbers of the bits that are 1 among the low `n`. -/
def bitList (n v : Nat) : List Nat := (List.range n).filter fun i => bitOf v i

/-- The word whose bits are 1 at the listed numbers. -/
def bitWord (n : Nat) (p : Nat → Bool) : Nat :=
  (List.range n).foldl (fun w i => w + if p i then 2 ^ i else 0) 0

/-! ## Numbers -/

/-- The value of an `n`-bit field read as two's complement. -/
def toSigned (n v : Nat) : Int :=
  if v % 2 ^ n < 2 ^ (n - 1) then Int.ofNat (v % 2 ^ n) else Int.ofNat (v % 2 ^ n) - Int.ofNat (2 ^ n)

/-- The `n`-bit two's-complement code of a number. -/
def toCode (n : Nat) (v : Int) : Nat := (v % Int.ofNat (2 ^ n)).toNat

/-- Division to the nearest, ties away from zero (R35). -/
def divNear (a : Int) (d : Nat) : Int :=
  if d = 0 then 0 else if 0 ≤ a then (2 * a + d) / (2 * d) else -((2 * (-a) + d) / (2 * d))

/-- Division that truncates toward zero (R14). -/
def divTrunc (a b : Int) : Int := a.tdiv b

/-- A number held between two bounds. -/
def clampInt (lo hi v : Int) : Int := max lo (min hi v)

/-- Addition of a counter that wraps at `n` bits. -/
def addWrap (n v d : Nat) : Nat := (v + d) % 2 ^ n

/-- The least multiple of `p`, counted from `o`, that is at or after `t`. -/
def nextGrid (o p t : Nat) : Nat := if t ≤ o then o else o + (t - o + p - 1) / p * p

/-! ## REAL32 -/

/-- The 24-bit significand and exponent of `n / d` rounded to the nearest, ties to even, for a positive fraction: the
result is `m * 2 ^ (e - 149)` with `m` below 2^24. -/
def real32Parts (n d : Nat) : Nat × Nat :=
  let e0 : Int := (Nat.log2 n : Int) - (Nat.log2 d : Int)
  -- the quotient lies between 2 ^ (e0 - 1) and 2 ^ (e0 + 1)
  let big : Bool := if 0 ≤ e0 then d * 2 ^ e0.toNat ≤ n else d ≤ n * 2 ^ (-e0).toNat
  let e := if big then e0 else e0 - 1
  let sh := max (e - 23) (-149)
  let num := if sh < 0 then n * 2 ^ (-sh).toNat else n
  let den := if sh < 0 then d else d * 2 ^ sh.toNat
  let q := num / den
  let r := num % den
  let m := if 2 * r > den || (2 * r == den && q % 2 == 1) then q + 1 else q
  (m, (sh + 149).toNat)

/-- The binary32 encoding of `n / d`, rounded to the nearest, ties to even. -/
def real32 (n : Int) (d : Nat) : Nat :=
  let sign := if n < 0 then 2 ^ 31 else 0
  if n = 0 || d = 0 then 0 else
    let (m, x) := real32Parts n.natAbs d
    let (m, x) := if m = 2 ^ 24 then (2 ^ 23, x + 1) else (m, x)
    if m < 2 ^ 23 then sign + m
    else if x + 1 ≥ 255 then sign + 255 * 2 ^ 23
    else sign + (x + 1) * 2 ^ 23 + (m - 2 ^ 23)

/-- The value of a binary32 encoding in units of 1 / 10^k, truncated toward zero; NaN and infinities read as 0. -/
def real32Scaled (v k : Nat) : Int :=
  let x : Nat := v / 2 ^ 23 % 256
  let f : Nat := v % 2 ^ 23
  let m : Nat := if x = 0 then f else f + 2 ^ 23
  let sh : Int := (if x = 0 then 1 else (x : Int)) - 150
  let mag : Int := if x = 255 then 0
    else if 0 ≤ sh then (m * 10 ^ k * 2 ^ sh.toNat : Nat) else (m * 10 ^ k / 2 ^ (-sh).toNat : Nat)
  if v / 2 ^ 31 % 2 = 1 then -mag else mag

end Sys2Proof.Machine
end

