-- ==== Sys2Proof/Machine/Crypto.lean ====
section
/-!
DEFINITION. The published algorithms that the manual names: CRC-32C (R193, R411), SHA-256 and HMAC-SHA-256, the key
derivation of SP 800-108 in counter mode (R459, R420), AES-256 with GCM (R411) and AES key wrap (R422).
-/

namespace Sys2Proof.Machine

/-! ## CRC-32C -/

/-- One bit of the reflected CRC with polynomial 0x1EDC_6F41. -/
def crcBit (c : BitVec 32) : BitVec 32 := if c.getLsbD 0 then (c >>> 1) ^^^ 0x82F63B78#32 else c >>> 1

/-- One byte of the CRC register. -/
def crcByte (c : BitVec 32) (b : Byte) : BitVec 32 :=
  (List.range 8).foldl (fun x _ => crcBit x) (c ^^^ b.setWidth 32)

/-- The CRC register after more bytes. -/
def crcFeed (c : BitVec 32) (bs : Bytes) : BitVec 32 := bs.foldl crcByte c

/-- CRC-32C of a string of bytes. -/
def crc32c (bs : Bytes) : BitVec 32 := ~~~ crcFeed 0xFFFFFFFF#32 bs

/-! ## SHA-256 -/

/-- The round constants of SHA-256. -/
def shaK : List (BitVec 32) :=
  [0x428a2f98#32, 0x71374491#32, 0xb5c0fbcf#32, 0xe9b5dba5#32, 0x3956c25b#32, 0x59f111f1#32, 0x923f82a4#32,
   0xab1c5ed5#32, 0xd807aa98#32, 0x12835b01#32, 0x243185be#32, 0x550c7dc3#32, 0x72be5d74#32, 0x80deb1fe#32,
   0x9bdc06a7#32, 0xc19bf174#32, 0xe49b69c1#32, 0xefbe4786#32, 0x0fc19dc6#32, 0x240ca1cc#32, 0x2de92c6f#32,
   0x4a7484aa#32, 0x5cb0a9dc#32, 0x76f988da#32, 0x983e5152#32, 0xa831c66d#32, 0xb00327c8#32, 0xbf597fc7#32,
   0xc6e00bf3#32, 0xd5a79147#32, 0x06ca6351#32, 0x14292967#32] ++
  [0x27b70a85#32, 0x2e1b2138#32, 0x4d2c6dfc#32, 0x53380d13#32, 0x650a7354#32, 0x766a0abb#32, 0x81c2c92e#32,
   0x92722c85#32, 0xa2bfe8a1#32, 0xa81a664b#32, 0xc24b8b70#32, 0xc76c51a3#32, 0xd192e819#32, 0xd6990624#32,
   0xf40e3585#32, 0x106aa070#32, 0x19a4c116#32, 0x1e376c08#32, 0x2748774c#32, 0x34b0bcb5#32, 0x391c0cb3#32,
   0x4ed8aa4a#32, 0x5b9cca4f#32, 0x682e6ff3#32, 0x748f82ee#32, 0x78a5636f#32, 0x84c87814#32, 0x8cc70208#32,
   0x90befffa#32, 0xa4506ceb#32, 0xbef9a3f7#32, 0xc67178f2#32]

/-- The eight working words of SHA-256. -/
structure ShaWords where
  a : BitVec 32
  b : BitVec 32
  c : BitVec 32
  d : BitVec 32
  e : BitVec 32
  f : BitVec 32
  g : BitVec 32
  h : BitVec 32
  deriving DecidableEq, Repr

/-- The initial hash value. -/
def shaInit : ShaWords :=
  { a := 0x6a09e667#32, b := 0xbb67ae85#32, c := 0x3c6ef372#32, d := 0xa54ff53a#32, e := 0x510e527f#32,
    f := 0x9b05688c#32, g := 0x1f83d9ab#32, h := 0x5be0cd19#32 }

/-- One round with round constant `k` and schedule word `w`. -/
def shaRound (x : ShaWords) (kw : BitVec 32 × BitVec 32) : ShaWords :=
  let s1 := x.e.rotateRight 6 ^^^ x.e.rotateRight 11 ^^^ x.e.rotateRight 25
  let ch := (x.e &&& x.f) ^^^ (~~~ x.e &&& x.g)
  let t1 := x.h + s1 + ch + kw.1 + kw.2
  let s0 := x.a.rotateRight 2 ^^^ x.a.rotateRight 13 ^^^ x.a.rotateRight 22
  let maj := (x.a &&& x.b) ^^^ (x.a &&& x.c) ^^^ (x.b &&& x.c)
  { a := t1 + s0 + maj, b := x.a, c := x.b, d := x.c, e := x.d + t1, f := x.e, g := x.f, h := x.g }

/-- The message schedule, newest word first, extended by `n` words. -/
def shaSchedule : Nat → List (BitVec 32) → List (BitVec 32)
  | 0, w => w
  | n + 1, w =>
    let at' := fun i => w.getD i 0#32
    let s0 := (at' 14).rotateRight 7 ^^^ (at' 14).rotateRight 18 ^^^ (at' 14 >>> 3)
    let s1 := (at' 1).rotateRight 17 ^^^ (at' 1).rotateRight 19 ^^^ (at' 1 >>> 10)
    shaSchedule n ((at' 15 + s0 + at' 6 + s1) :: w)

/-- The compression of one block of 16 words. -/
def shaBlock (x : ShaWords) (ws : List (BitVec 32)) : ShaWords :=
  let y := (shaK.zip (shaSchedule 48 ws.reverse).reverse).foldl shaRound x
  { a := x.a + y.a, b := x.b + y.b, c := x.c + y.c, d := x.d + y.d, e := x.e + y.e, f := x.f + y.f, g := x.g + y.g,
    h := x.h + y.h }

/-- Big-endian words of a string of bytes. -/
def beWords (bs : Bytes) : Nat → List (BitVec 32)
  | 0 => []
  | n + 1 => BitVec.ofNat 32 (beNat (bs.take 4)) :: beWords (bs.drop 4) n

/-- The message with the padding of SHA-256. -/
def shaPad (bs : Bytes) : Bytes :=
  bs ++ [0x80#8] ++ zeroBytes ((119 - bs.length % 64) % 64) ++ natBe 8 (8 * bs.length)

/-- The hash over the first `n` blocks of a padded message. -/
def shaBlocks : Nat → ShaWords → Bytes → ShaWords
  | 0, x, _ => x
  | n + 1, x, bs => shaBlocks n (shaBlock x (beWords bs 16)) (bs.drop 64)

/-- SHA-256. -/
def sha256 (bs : Bytes) : Bytes :=
  let p := shaPad bs
  let x := shaBlocks (p.length / 64) shaInit p
  [x.a, x.b, x.c, x.d, x.e, x.f, x.g, x.h].flatMap fun w => natBe 4 w.toNat

/-- HMAC-SHA-256. -/
def hmacSha256 (key msg : Bytes) : Bytes :=
  let k := if key.length > 64 then sha256 key else key
  let k := k ++ zeroBytes (64 - k.length)
  sha256 (k.map (· ^^^ 0x5C#8) ++ sha256 (k.map (· ^^^ 0x36#8) ++ msg))

/-- The 256-bit key that SP 800-108 derives in counter mode with HMAC-SHA-256 from a fixed input, whose counter, label,
context and length stand in it (R412). -/
def kdf108 (key : Bytes) (fixedInput : Bytes) : Bytes := hmacSha256 key fixedInput

/-! ## AES-256 -/

/-- Multiplication by x in the field of AES. -/
def gfDouble (b : Byte) : Byte := if b.getLsbD 7 then (b <<< 1) ^^^ 0x1B#8 else b <<< 1

/-- Multiplication in the field of AES. -/
def gfMul (a b : Byte) : Byte :=
  ((List.range 8).foldl (fun (p : Byte × Byte) i => (if b.getLsbD i then p.1 ^^^ p.2 else p.1, gfDouble p.2)) (0#8, a)).1

/-- The inverse in the field of AES: the 254th power. -/
def gfInv (a : Byte) : Byte :=
  let a2 := gfMul a a
  let a4 := gfMul a2 a2
  let a8 := gfMul a4 a4
  let a16 := gfMul a8 a8
  let a32 := gfMul a16 a16
  let a64 := gfMul a32 a32
  let a128 := gfMul a64 a64
  gfMul (gfMul (gfMul a2 a4) (gfMul a8 a16)) (gfMul (gfMul a32 a64) a128)

/-- The S-box of AES. -/
def subByte (a : Byte) : Byte :=
  let b := gfInv a
  b ^^^ b.rotateLeft 1 ^^^ b.rotateLeft 2 ^^^ b.rotateLeft 3 ^^^ b.rotateLeft 4 ^^^ 0x63#8

/-- The inverse S-box. -/
def invSubByte (a : Byte) : Byte :=
  gfInv (a.rotateLeft 1 ^^^ a.rotateLeft 3 ^^^ a.rotateLeft 6 ^^^ 0x05#8)

/-- Bytes added in the field. -/
def xorBytes (a b : Bytes) : Bytes := List.zipWith (· ^^^ ·) a b

/-- The key schedule of AES-256, newest word first; `n` words are still to be made and `i` is the next one's number. -/
def aesExpand : Nat → Nat → Byte → List Bytes → List Bytes
  | 0, _, _, ws => ws
  | n + 1, i, rcon, ws =>
    let prev := ws.getD 0 []
    let old := ws.getD 7 []
    if i % 8 = 0 then
      let g := xorBytes ((prev.drop 1 ++ prev.take 1).map subByte) [rcon, 0#8, 0#8, 0#8]
      aesExpand n (i + 1) (gfDouble rcon) (xorBytes old g :: ws)
    else if i % 8 = 4 then aesExpand n (i + 1) rcon (xorBytes old (prev.map subByte) :: ws)
    else aesExpand n (i + 1) rcon (xorBytes old prev :: ws)

/-- Bytes in pieces of `k`, `n` of them. -/
def pieces (k : Nat) : Nat → Bytes → List Bytes
  | 0, _ => []
  | n + 1, bs => bs.take k :: pieces k n (bs.drop k)

/-- The 15 round keys of AES-256. -/
def aesRoundKeys (key : Bytes) : List Bytes :=
  pieces 16 15 ((aesExpand 52 8 0x01#8 (pieces 4 8 key).reverse).reverse.flatten)

/-- ShiftRows on a block of 16 bytes in column order. -/
def shiftRows (s : Bytes) : Bytes := (List.range 16).map fun i => s.getD ((i + 4 * (i % 4)) % 16) 0#8
/-- The inverse of ShiftRows. -/
def invShiftRows (s : Bytes) : Bytes := (List.range 16).map fun i => s.getD ((i + 12 * (i % 4)) % 16) 0#8

/-- MixColumns with the given first row of coefficients. -/
def mixColumns (m : List Byte) (s : Bytes) : Bytes :=
  (List.range 16).map fun i =>
    (List.range 4).foldl (fun x j => x ^^^ gfMul (m.getD ((j + 4 - i % 4) % 4) 0#8) (s.getD (i / 4 * 4 + j) 0#8)) 0#8

/-- AES-256 encryption of one block. -/
def aesEncrypt (key block : Bytes) : Bytes :=
  let rk := aesRoundKeys key
  let s := xorBytes block (rk.getD 0 [])
  let s := (List.range 13).foldl (fun s r =>
    xorBytes (mixColumns [2#8, 3#8, 1#8, 1#8] (shiftRows (s.map subByte))) (rk.getD (r + 1) [])) s
  xorBytes (shiftRows (s.map subByte)) (rk.getD 14 [])

/-- AES-256 decryption of one block. -/
def aesDecrypt (key block : Bytes) : Bytes :=
  let rk := aesRoundKeys key
  let s := xorBytes block (rk.getD 14 [])
  let s := (List.range 13).foldl (fun s r =>
    mixColumns [14#8, 11#8, 13#8, 9#8] (xorBytes ((invShiftRows s).map invSubByte) (rk.getD (13 - r) []))) s
  xorBytes ((invShiftRows s).map invSubByte) (rk.getD 0 [])

/-! ## GCM -/

/-- Multiplication in the field of GCM; the first bit of a block is the coefficient of the lowest power. -/
def ghashMul (x y : BitVec 128) : BitVec 128 :=
  ((List.range 128).foldl (fun (p : BitVec 128 × BitVec 128) i =>
    (if x.getLsbD (127 - i) then p.1 ^^^ p.2 else p.1,
     if p.2.getLsbD 0 then (p.2 >>> 1) ^^^ (0xE1#128 <<< 120) else p.2 >>> 1)) (0#128, y)).1

/-- Bytes filled with zeros to a whole number of blocks. -/
def padBlock (bs : Bytes) : Bytes := bs ++ zeroBytes ((16 - bs.length % 16) % 16)

/-- GHASH over whole blocks. -/
def ghash (h : BitVec 128) (bs : Bytes) : BitVec 128 :=
  (pieces 16 (bs.length / 16) bs).foldl (fun y b => ghashMul (y ^^^ BitVec.ofNat 128 (beNat b)) h) 0#128

/-- The key stream of GCM: block `i` uses the counter value `i + 2`, block 0 being the first of the text. -/
def gcmStream (key iv : Bytes) (blocks : Nat) : Bytes :=
  (List.range blocks).flatMap fun i => aesEncrypt key (iv ++ natBe 4 (i + 2))

/-- The GCM tag of a ciphertext with a 12-byte vector. -/
def gcmTag (key iv aad text : Bytes) : Bytes :=
  let h := BitVec.ofNat 128 (beNat (aesEncrypt key (zeroBytes 16)))
  let y := ghash h (padBlock aad ++ padBlock text ++ natBe 8 (8 * aad.length) ++ natBe 8 (8 * text.length))
  xorBytes (natBe 16 y.toNat) (aesEncrypt key (iv ++ natBe 4 1))

/-- Encryption or decryption of a text in the counter mode of GCM. -/
def gcmCrypt (key iv text : Bytes) : Bytes := xorBytes text (gcmStream key iv ((text.length + 15) / 16))

/-! ## Key wrap -/

/-- The unwrapping rounds of AES key wrap: `n` steps are left, `a` is the register, `r` the blocks. -/
def unwrapRounds (key : Bytes) (blocks : Nat) : Nat → Bytes → List Bytes → Bytes × List Bytes
  | 0, a, r => (a, r)
  | t + 1, a, r =>
    let i := t % blocks
    let b := aesDecrypt key (xorBytes a (natBe 8 (t + 1)) ++ r.getD i [])
    unwrapRounds key blocks t (b.take 8) (r.set i (b.drop 8))

/-- AES key unwrap of 40 bytes: the 32-byte key, or nothing when the integrity value does not match. -/
def keyUnwrap (key wrapped : Bytes) : Option Bytes :=
  let (a, r) := unwrapRounds key 4 24 (wrapped.take 8) (pieces 8 4 (wrapped.drop 8))
  if wrapped.length = 40 ∧ a = List.replicate 8 0xA6#8 then some r.flatten else none

end Sys2Proof.Machine
end

