-- ==== Sys2Proof/Machine/Cards.lean ====
section
/-!
DEFINITION. The object cards of the manual as data: for each index the subindexes, types, access rights, defaults and
ranges of its card (R6, R8, R9, R20), and the bits of a value that are not reserved (R10). A range that a chapter checks
in its own way (a queue number, an enumeration with a code of its own) stands here as the whole type.
-/

namespace Sys2Proof.Machine

/-- The data types of objects (R441). -/
inductive OType where
  | bool | u8 | u16 | u32 | u64 | i8 | i16 | i32 | i64 | real32 | str | domain
  deriving DecidableEq, Repr

/-- The access rights (R6). -/
inductive Access where
  | ro | wo | rw | const | claim
  deriving DecidableEq, Repr

/-- One row of a card: subindexes `lo` to `hi`, the default, the least and greatest value that may be written (of a
DOMAIN: lengths), and the bits that are not reserved (0: all of them; of a DOMAIN: 1 where length 0 is accepted as well). -/
structure Card where
  lo : Nat
  hi : Nat
  ty : OType
  acc : Access
  dflt : Int
  min : Int
  max : Int
  mask : Nat
  deriving DecidableEq, Repr

/-- The cards of a range of indexes. -/
structure CardGroup where
  first : Nat
  last : Nat
  cards : List Card
  deriving DecidableEq, Repr

/-- The size of a value in bytes; 0 for strings and DOMAINs (R441). -/
def OType.size : OType → Nat
  | .bool | .u8 | .i8 => 1
  | .u16 | .i16 => 2
  | .u32 | .i32 | .real32 => 4
  | .u64 | .i64 => 8
  | .str | .domain => 0

/-- Whether a value of the type is read as two's complement (R441). -/
def OType.signed : OType → Bool
  | .i8 | .i16 | .i32 | .i64 => true
  | _ => false

/-- The type codes of READ (R447). -/
def OType.code : OType → Nat
  | .bool => 0x01 | .i8 => 0x02 | .i16 => 0x03 | .i32 => 0x04 | .u8 => 0x05 | .u16 => 0x06 | .u32 => 0x07
  | .real32 => 0x08 | .str => 0x09 | .domain => 0x0F | .i64 => 0x15 | .u64 => 0x1B

/-- The card of 0x1000. -/
def cards1000 : List Card := [
  ⟨0x00, 0x00, .u32, .const, 0, 0, 0xffffffff, 0⟩]

/-- The card of 0x1001. -/
def cards1001 : List Card := [
  ⟨0x00, 0x00, .u8, .ro, 0, 0, 255, 0⟩]

/-- The card of 0x1008. -/
def cards1008 : List Card := [
  ⟨0x00, 0x00, .str, .const, 0, 0, 255, 0⟩]

/-- The card of 0x1009. -/
def cards1009 : List Card := [
  ⟨0x00, 0x00, .str, .const, 0, 0, 255, 0⟩]

/-- The card of 0x100A. -/
def cards100A : List Card := [
  ⟨0x00, 0x00, .str, .const, 0, 0, 255, 0⟩]

/-- The card of 0x1010. -/
def cards1010 : List Card := [
  ⟨0x00, 0x00, .u8, .const, 1, 0, 255, 0⟩,
  ⟨0x01, 0x01, .u32, .rw, 1, 0, 0xffffffff, 0⟩]

/-- The card of 0x1011. -/
def cards1011 : List Card := [
  ⟨0x00, 0x00, .u8, .const, 1, 0, 255, 0⟩,
  ⟨0x01, 0x01, .u32, .rw, 1, 0, 0xffffffff, 0⟩]

/-- The card of 0x1017. -/
def cards1017 : List Card := [
  ⟨0x00, 0x00, .u16, .claim, 1000, 0, 65535, 0⟩]

/-- The card of 0x1018. -/
def cards1018 : List Card := [
  ⟨0x00, 0x00, .u8, .const, 4, 0, 255, 0⟩,
  ⟨0x01, 0x01, .u32, .const, 2686, 0, 0xffffffff, 0⟩,
  ⟨0x02, 0x02, .u32, .const, 468320, 0, 0xffffffff, 0⟩,
  ⟨0x03, 0x03, .u32, .const, 0, 0, 0xffffffff, 0⟩,
  ⟨0x04, 0x04, .u32, .const, 0, 0, 0xffffffff, 0⟩]

/-- The card of 0x1E0n. -/
def cards1E0N : List Card := [
  ⟨0x00, 0x00, .u8, .const, 11, 0, 255, 0⟩,
  ⟨0x01, 0x01, .bool, .claim, 1, 0, 1, 0⟩,
  ⟨0x02, 0x02, .u64, .const, 0, 0, 0xffffffffffffffff, 0⟩,
  ⟨0x03, 0x03, .u32, .claim, 0xc0a80a0a, 0, 0xffffffff, 0⟩,
  ⟨0x04, 0x04, .u8, .claim, 24, 1, 30, 0⟩,
  ⟨0x05, 0x05, .u32, .claim, 0, 0, 0xffffffff, 0⟩,
  ⟨0x06, 0x06, .bool, .claim, 0, 0, 1, 0⟩,
  ⟨0x07, 0x07, .domain, .claim, 0, 16, 16, 1⟩,
  ⟨0x08, 0x08, .u8, .claim, 64, 1, 128, 0⟩,
  ⟨0x09, 0x09, .u8, .ro, 0, 0, 255, 0⟩,
  ⟨0x0A, 0x0A, .u32, .ro, 0, 0, 0xffffffff, 0⟩,
  ⟨0x0B, 0x0B, .u32, .ro, 0, 0, 0xffffffff, 0⟩]

/-- The card of 0x1E10. -/
def cards1E10 : List Card := [
  ⟨0x00, 0x00, .u8, .const, 4, 0, 255, 0⟩,
  ⟨0x01, 0x01, .u8, .claim, 16, 1, 127, 0⟩,
  ⟨0x02, 0x02, .u32, .claim, 500000, 125000, 1000000, 0⟩,
  ⟨0x03, 0x03, .u32, .claim, 2000000, 1000000, 5000000, 0⟩,
  ⟨0x04, 0x04, .u32, .ro, 0, 0, 0xffffffff, 0⟩]

/-- The card of 0x2000. -/
def cards2000 : List Card := [
  ⟨0x01, 0x01, .u8, .ro, 3, 0, 255, 0⟩,
  ⟨0x00, 0x00, .u8, .const, 15, 0, 255, 0⟩,
  ⟨0x02, 0x02, .u8, .claim, 0, 0, 255, 0⟩,
  ⟨0x03, 0x03, .u32, .wo, 0, 0, 0xffffffff, 0⟩,
  ⟨0x04, 0x04, .u8, .ro, 255, 0, 255, 0⟩,
  ⟨0x05, 0x05, .bool, .ro, 0, 0, 1, 0⟩,
  ⟨0x06, 0x06, .u16, .ro, 0, 0, 65535, 0⟩,
  ⟨0x07, 0x07, .u8, .ro, 0, 0, 255, 0⟩,
  ⟨0x08, 0x08, .u64, .ro, 0, 0, 0xffffffffffffffff, 0⟩,
  ⟨0x09, 0x09, .u8, .ro, 1, 0, 255, 0⟩,
  ⟨0x0A, 0x0A, .bool, .claim, 0, 0, 1, 0⟩,
  ⟨0x0B, 0x0B, .u8, .claim, 0, 0, 255, 0⟩,
  ⟨0x0C, 0x0C, .u32, .ro, 0, 0, 0xffffffff, 0⟩,
  ⟨0x0D, 0x0D, .u8, .claim, 0, 0, 255, 0x1f⟩,
  ⟨0x0E, 0x0E, .u8, .claim, 0, 0, 255, 0x1f⟩,
  ⟨0x0F, 0x0F, .u64, .ro, 0, 0, 0xffffffffffffffff, 0⟩]

/-- The card of 0x2001. -/
def cards2001 : List Card := [
  ⟨0x00, 0x00, .u8, .const, 2, 0, 255, 0⟩,
  ⟨0x01, 0x01, .u32, .ro, 0, 0, 0xffffffff, 0⟩,
  ⟨0x02, 0x02, .u32, .const, 535822223, 0, 0xffffffff, 0⟩]

/-- The card of 0x2100. -/
def cards2100 : List Card := [
  ⟨0x00, 0x00, .u8, .const, 6, 0, 255, 0⟩,
  ⟨0x01, 0x01, .u8, .ro, 0, 0, 255, 0⟩,
  ⟨0x02, 0x02, .u32, .ro, 0, 0, 0xffffffff, 0⟩,
  ⟨0x03, 0x03, .u32, .ro, 0, 0, 0xffffffff, 0⟩,
  ⟨0x04, 0x04, .u32, .ro, 0, 0, 0xffffffff, 0⟩,
  ⟨0x05, 0x05, .u8, .claim, 0, 0, 255, 0x1f⟩,
  ⟨0x06, 0x06, .u8, .claim, 0, 0, 255, 0x1f⟩]

/-- The card of 0x2101. -/
def cards2101 : List Card := [
  ⟨0x00, 0x00, .u8, .const, 4, 0, 255, 0⟩,
  ⟨0x01, 0x01, .u8, .ro, 0, 0, 255, 0⟩,
  ⟨0x02, 0x02, .u32, .rw, 2000, 100, 60000, 0⟩,
  ⟨0x03, 0x03, .u32, .ro, 0, 0, 0xffffffff, 0⟩,
  ⟨0x04, 0x04, .u8, .ro, 0, 0, 255, 0⟩]

/-- The card of 0x2102. -/
def cards2102 : List Card := [
  ⟨0x00, 0x00, .u8, .const, 14, 0, 255, 0⟩,
  ⟨0x01, 0x01, .domain, .wo, 0, 8, 1024, 0⟩,
  ⟨0x02, 0x02, .domain, .wo, 0, 8, 1024, 0⟩,
  ⟨0x03, 0x03, .bool, .wo, 0, 0, 1, 0⟩,
  ⟨0x04, 0x0B, .u32, .ro, 0, 0, 0xffffffff, 0⟩,
  ⟨0x0C, 0x0C, .u16, .ro, 0, 0, 65535, 0⟩,
  ⟨0x0D, 0x0D, .u32, .ro, 0, 0, 0xffffffff, 0⟩,
  ⟨0x0E, 0x0E, .u32, .ro, 0, 0, 0xffffffff, 0⟩]

/-- The card of 0x2103. -/
def cards2103 : List Card := [
  ⟨0x00, 0x00, .u8, .const, 36, 0, 255, 0⟩,
  ⟨0x01, 0x01, .u64, .rw, 0, 0, 0xffffffffffffffff, 0x000fffff0fffffff⟩,
  ⟨0x02, 0x02, .u8, .ro, 255, 0, 255, 0⟩,
  ⟨0x03, 0x22, .u32, .ro, 0xffffffff, 0, 0xffffffff, 0⟩,
  ⟨0x23, 0x23, .u64, .ro, 0xffffffffffffffff, 0, 0xffffffffffffffff, 0⟩,
  ⟨0x24, 0x24, .u8, .ro, 255, 0, 255, 0⟩]

/-- The card of 0x2104. -/
def cards2104 : List Card := [
  ⟨0x00, 0x00, .u8, .const, 6, 0, 255, 0⟩,
  ⟨0x01, 0x01, .u8, .claim, 0, 0, 255, 0⟩,
  ⟨0x02, 0x02, .u8, .ro, 0, 0, 255, 0⟩,
  ⟨0x03, 0x03, .u8, .ro, 255, 0, 255, 0⟩,
  ⟨0x04, 0x04, .u64, .ro, 0, 0, 0xffffffffffffffff, 0⟩,
  ⟨0x05, 0x05, .u64, .ro, 0, 0, 0xffffffffffffffff, 0⟩,
  ⟨0x06, 0x06, .u32, .ro, 0, 0, 0xffffffff, 0⟩]

/-- The card of 0x2105. -/
def cards2105 : List Card := [
  ⟨0x00, 0x00, .u8, .const, 5, 0, 255, 0⟩,
  ⟨0x01, 0x01, .domain, .wo, 0, 17, 17, 0⟩,
  ⟨0x02, 0x02, .domain, .ro, 0, 0, 0xffffffff, 0⟩,
  ⟨0x03, 0x03, .domain, .wo, 0, 32, 32, 0⟩,
  ⟨0x04, 0x04, .domain, .ro, 0, 0, 0xffffffff, 0⟩,
  ⟨0x05, 0x05, .u32, .rw, 0, 0, 60000, 0⟩]

/-- The card of 0x2108+s. -/
def cards2108S : List Card := [
  ⟨0x00, 0x00, .u8, .const, 7, 0, 255, 0⟩,
  ⟨0x01, 0x01, .u8, .ro, 0, 0, 255, 0⟩,
  ⟨0x02, 0x02, .u8, .ro, 255, 0, 255, 0⟩,
  ⟨0x03, 0x03, .u8, .ro, 255, 0, 255, 0⟩,
  ⟨0x04, 0x04, .domain, .ro, 0, 0, 0xffffffff, 0⟩,
  ⟨0x05, 0x05, .u64, .ro, 0, 0, 0xffffffffffffffff, 0⟩,
  ⟨0x06, 0x06, .u64, .ro, 0, 0, 0xffffffffffffffff, 0⟩,
  ⟨0x07, 0x07, .u32, .ro, 0, 0, 0xffffffff, 0⟩]

/-- The card of 0x211h. -/
def cards211H : List Card := [
  ⟨0x00, 0x00, .u8, .const, 5, 0, 255, 0⟩,
  ⟨0x01, 0x01, .domain, .wo, 0, 40, 40, 1⟩,
  ⟨0x02, 0x02, .u8, .rw, 7, 0, 255, 0x7⟩,
  ⟨0x03, 0x03, .u32, .ro, 0, 0, 0xffffffff, 0⟩,
  ⟨0x04, 0x04, .u32, .ro, 0, 0, 0xffffffff, 0⟩,
  ⟨0x05, 0x05, .u32, .ro, 0, 0, 0xffffffff, 0⟩]

/-- The card of 0x2200. -/
def cards2200 : List Card := [
  ⟨0x00, 0x00, .u8, .const, 12, 0, 255, 0⟩,
  ⟨0x01, 0x01, .u16, .claim, 24000, 4000, 24000, 0⟩,
  ⟨0x02, 0x02, .i16, .claim, 1150, 850, 1200, 0⟩,
  ⟨0x03, 0x03, .u16, .claim, 900, 700, 900, 0⟩,
  ⟨0x04, 0x04, .u32, .claim, 250000, 10000, 2500000, 0⟩,
  ⟨0x05, 0x05, .u16, .claim, 2500, 100, 2500, 0⟩,
  ⟨0x06, 0x09, .u16, .claim, 1000, 50, 1000, 0⟩,
  ⟨0x0A, 0x0A, .u16, .claim, 2500, 100, 2500, 0⟩,
  ⟨0x0B, 0x0B, .u16, .claim, 0, 0, 65535, 0x3ff⟩,
  ⟨0x0C, 0x0C, .u16, .claim, 0, 0, 65535, 0x3ff⟩]

/-- The card of 0x2201. -/
def cards2201 : List Card := [
  ⟨0x00, 0x00, .u8, .const, 21, 0, 255, 0⟩,
  ⟨0x01, 0x01, .u8, .ro, 0, 0, 255, 0⟩,
  ⟨0x02, 0x02, .u16, .ro, 800, 0, 65535, 0⟩,
  ⟨0x03, 0x03, .u16, .ro, 800, 0, 65535, 0⟩,
  ⟨0x04, 0x04, .u32, .ro, 0, 0, 0xffffffff, 0⟩,
  ⟨0x05, 0x05, .u32, .ro, 0, 0, 0xffffffff, 0⟩,
  ⟨0x06, 0x06, .u32, .ro, 0, 0, 0xffffffff, 0⟩,
  ⟨0x07, 0x07, .u32, .ro, 0, 0, 0xffffffff, 0⟩,
  ⟨0x08, 0x08, .i16, .ro, 0, (-32768), 32767, 0⟩,
  ⟨0x09, 0x09, .u8, .ro, 0, 0, 255, 0⟩,
  ⟨0x0A, 0x0A, .u16, .ro, 0, 0, 65535, 0⟩,
  ⟨0x0B, 0x0E, .u16, .ro, 0, 0, 65535, 0⟩,
  ⟨0x0F, 0x0F, .u16, .ro, 0, 0, 65535, 0⟩,
  ⟨0x10, 0x13, .u16, .ro, 0, 0, 65535, 0⟩,
  ⟨0x14, 0x14, .u32, .ro, 0, 0, 0xffffffff, 0⟩,
  ⟨0x15, 0x15, .u8, .ro, 0, 0, 255, 0⟩]

/-- The card of 0x2202. -/
def cards2202 : List Card := [
  ⟨0x00, 0x00, .u8, .const, 9, 0, 255, 0⟩,
  ⟨0x01, 0x01, .u32, .ro, 0, 0, 0xffffffff, 0⟩,
  ⟨0x02, 0x02, .u64, .ro, 0, 0, 0xffffffffffffffff, 0⟩,
  ⟨0x03, 0x03, .u64, .ro, 0, 0, 0xffffffffffffffff, 0⟩,
  ⟨0x04, 0x04, .i64, .ro, 0, (-9223372036854775808), 0x7fffffffffffffff, 0⟩,
  ⟨0x05, 0x05, .u64, .ro, 0, 0, 0xffffffffffffffff, 0⟩,
  ⟨0x06, 0x06, .u64, .ro, 0, 0, 0xffffffffffffffff, 0⟩,
  ⟨0x07, 0x07, .i64, .ro, 0, (-9223372036854775808), 0x7fffffffffffffff, 0⟩,
  ⟨0x08, 0x08, .u64, .ro, 0, 0, 0xffffffffffffffff, 0⟩,
  ⟨0x09, 0x09, .u64, .ro, 0, 0, 0xffffffffffffffff, 0⟩]

/-- The card of 0x2203. -/
def cards2203 : List Card := [
  ⟨0x00, 0x00, .u8, .const, 17, 0, 255, 0⟩,
  ⟨0x01, 0x10, .i16, .ro, 0, (-32768), 32767, 0⟩,
  ⟨0x11, 0x11, .u16, .ro, 0, 0, 65535, 0⟩]

/-- The card of 0x2300. -/
def cards2300 : List Card := [
  ⟨0x00, 0x00, .u8, .const, 12, 0, 255, 0⟩,
  ⟨0x01, 0x01, .u64, .ro, 0, 0, 0xffffffffffffffff, 0⟩,
  ⟨0x02, 0x02, .u8, .ro, 0, 0, 255, 0⟩,
  ⟨0x03, 0x03, .u32, .ro, 0, 0, 0xffffffff, 0⟩,
  ⟨0x04, 0x04, .u64, .ro, 0, 0, 0xffffffffffffffff, 0⟩,
  ⟨0x05, 0x05, .u64, .claim, 0, 0, 0xffffffffffffffff, 0⟩,
  ⟨0x06, 0x06, .i32, .claim, 0, (-40000), 40000, 0⟩,
  ⟨0x07, 0x07, .bool, .claim, 0, 0, 1, 0⟩,
  ⟨0x08, 0x08, .u64, .claim, 0, 0, 0xffffffffffffffff, 0⟩,
  ⟨0x09, 0x09, .u16, .claim, 400, 40, 40000, 0⟩,
  ⟨0x0A, 0x0A, .u64, .ro, 0, 0, 0xffffffffffffffff, 0⟩,
  ⟨0x0B, 0x0B, .u8, .claim, 0, 0, 255, 0xf⟩,
  ⟨0x0C, 0x0C, .u8, .claim, 0, 0, 255, 0xf⟩]

/-- The card of 0x231t. -/
def cards231T : List Card := [
  ⟨0x00, 0x00, .u8, .const, 9, 0, 255, 0⟩,
  ⟨0x01, 0x01, .u16, .claim, 0, 0, 65535, 0x31ff⟩,
  ⟨0x02, 0x02, .u32, .claim, 400, 0, 0xffffffff, 0⟩,
  ⟨0x03, 0x03, .u32, .claim, 400, 40, 4000000, 0⟩,
  ⟨0x04, 0x04, .u64, .claim, 4000000, 4000, 0xffffffffffff, 0⟩,
  ⟨0x05, 0x05, .bool, .claim, 0, 0, 1, 0⟩,
  ⟨0x06, 0x06, .u8, .ro, 0, 0, 255, 0⟩,
  ⟨0x07, 0x07, .u32, .ro, 0, 0, 0xffffffff, 0⟩,
  ⟨0x08, 0x08, .u32, .ro, 0, 0, 0xffffffff, 0⟩,
  ⟨0x09, 0x09, .u64, .ro, 0, 0, 0xffffffffffffffff, 0⟩]

/-- The card of 0x2400. -/
def cards2400 : List Card := [
  ⟨0x00, 0x00, .u8, .const, 7, 0, 255, 0⟩,
  ⟨0x01, 0x01, .u16, .ro, 0, 0, 65535, 0⟩,
  ⟨0x02, 0x02, .u16, .ro, 0, 0, 65535, 0⟩,
  ⟨0x03, 0x03, .u32, .ro, 0, 0, 0xffffffff, 0⟩,
  ⟨0x04, 0x04, .u32, .ro, 0xffffffff, 0, 0xffffffff, 0⟩,
  ⟨0x05, 0x05, .u32, .ro, 0, 0, 0xffffffff, 0⟩,
  ⟨0x06, 0x06, .u32, .ro, 0, 0, 0xffffffff, 0⟩,
  ⟨0x07, 0x07, .u32, .ro, 0, 0, 0xffffffff, 0⟩]

/-- The card of 0x2401. -/
def cards2401 : List Card := [
  ⟨0x00, 0x00, .u8, .const, 31, 0, 255, 0⟩,
  ⟨0x01, 0x01, .u32, .ro, 65528, 0, 0xffffffff, 0⟩,
  ⟨0x02, 0x02, .u16, .wo, 0, 0, 511, 0⟩,
  ⟨0x03, 0x03, .u16, .rw, 0, 0, 511, 0⟩,
  ⟨0x04, 0x04, .u64, .ro, 0, 0, 0xffffffffffffffff, 0⟩,
  ⟨0x05, 0x05, .u32, .ro, 0, 0, 0xffffffff, 0⟩,
  ⟨0x06, 0x06, .u32, .ro, 0, 0, 0xffffffff, 0⟩,
  ⟨0x07, 0x07, .u8, .ro, 0, 0, 255, 0⟩,
  ⟨0x08, 0x08, .u32, .ro, 0, 0, 0xffffffff, 0⟩,
  ⟨0x10, 0x1F, .u32, .rw, 0, 0, 0xffffffff, 0⟩]

/-- The card of 0x2410+k. -/
def cards2410K : List Card := [
  ⟨0x00, 0x00, .u8, .const, 128, 0, 255, 0⟩,
  ⟨0x01, 0x80, .u32, .claim, 17, 0, 0xffffffff, 0xfffffff7⟩]

/-- The card of 0x2418+k. -/
def cards2418K : List Card := [
  ⟨0x00, 0x00, .u8, .const, 128, 0, 255, 0⟩,
  ⟨0x01, 0x80, .u32, .ro, 7936, 0, 0xffffffff, 0⟩]

/-- The card of 0x2420+k. -/
def cards2420K : List Card := [
  ⟨0x00, 0x00, .u8, .const, 128, 0, 255, 0⟩,
  ⟨0x01, 0x80, .u32, .ro, 0, 0, 0xffffffff, 0⟩]

/-- The card of 0x2428+k. -/
def cards2428K : List Card := [
  ⟨0x00, 0x00, .u8, .const, 128, 0, 255, 0⟩,
  ⟨0x01, 0x80, .u32, .ro, 0, 0, 0xffffffff, 0⟩]

/-- The card of 0x2430+k. -/
def cards2430K : List Card := [
  ⟨0x00, 0x00, .u8, .const, 128, 0, 255, 0⟩,
  ⟨0x01, 0x80, .u32, .ro, 0, 0, 0xffffffff, 0⟩]

/-- The card of 0x2438+k. -/
def cards2438K : List Card := [
  ⟨0x00, 0x00, .u8, .const, 128, 0, 255, 0⟩,
  ⟨0x01, 0x80, .u64, .ro, 0, 0, 0xffffffffffffffff, 0⟩]

/-- The card of 0x2500. -/
def cards2500 : List Card := [
  ⟨0x00, 0x00, .u8, .const, 3, 0, 255, 0⟩,
  ⟨0x01, 0x01, .u8, .ro, 1, 0, 255, 0⟩,
  ⟨0x02, 0x02, .u32, .ro, 0, 0, 0xffffffff, 0⟩,
  ⟨0x03, 0x03, .u32, .ro, 0, 0, 0xffffffff, 0⟩]

/-- The card of 0x251n. -/
def cards251N : List Card := [
  ⟨0x00, 0x00, .u8, .const, 12, 0, 255, 0⟩,
  ⟨0x01, 0x01, .u8, .ro, 0, 0, 255, 0⟩,
  ⟨0x02, 0x02, .u8, .claim, 0, 0, 255, 0⟩,
  ⟨0x03, 0x03, .u32, .claim, 0, 0, 0xffffc, 0⟩,
  ⟨0x04, 0x04, .u32, .claim, 0, 0, 0xffffffff, 0⟩,
  ⟨0x05, 0x05, .domain, .claim, 0, 0, 1048576, 0⟩,
  ⟨0x06, 0x06, .u8, .ro, 0, 0, 255, 0⟩,
  ⟨0x07, 0x07, .u32, .ro, 0, 0, 0xffffffff, 0⟩,
  ⟨0x08, 0x08, .u32, .ro, 0, 0, 0xffffffff, 0⟩,
  ⟨0x09, 0x09, .u32, .ro, 0, 0, 0xffffffff, 0⟩,
  ⟨0x0A, 0x0A, .u8, .ro, 255, 0, 255, 0⟩,
  ⟨0x0B, 0x0B, .u32, .ro, 0xffffffff, 0, 0xffffffff, 0⟩,
  ⟨0x0C, 0x0C, .u32, .ro, 0, 0, 0xffffffff, 0⟩]

/-- The card of 0x2600. -/
def cards2600 : List Card := [
  ⟨0x00, 0x00, .u8, .const, 14, 0, 255, 0⟩,
  ⟨0x01, 0x01, .u8, .ro, 0, 0, 255, 0⟩,
  ⟨0x02, 0x02, .u8, .ro, 0, 0, 255, 0⟩,
  ⟨0x03, 0x03, .u32, .ro, 0, 0, 0xffffffff, 0⟩,
  ⟨0x04, 0x04, .u32, .ro, 0, 0, 0xffffffff, 0⟩,
  ⟨0x05, 0x05, .u16, .ro, 1280, 0, 65535, 0⟩,
  ⟨0x06, 0x06, .u32, .ro, 0xffffffff, 0, 0xffffffff, 0⟩,
  ⟨0x07, 0x07, .u32, .ro, 0, 0, 0xffffffff, 0⟩,
  ⟨0x08, 0x08, .u32, .ro, 0, 0, 0xffffffff, 0⟩,
  ⟨0x09, 0x09, .u32, .ro, 0, 0, 0xffffffff, 0⟩,
  ⟨0x0A, 0x0A, .u32, .ro, 0, 0, 0xffffffff, 0⟩,
  ⟨0x0B, 0x0B, .u32, .ro, 0, 0, 0xffffffff, 0⟩,
  ⟨0x0C, 0x0C, .u32, .ro, 0, 0, 0xffffffff, 0⟩,
  ⟨0x0D, 0x0D, .u8, .claim, 0, 0, 255, 0x1f⟩,
  ⟨0x0E, 0x0E, .u8, .claim, 0, 0, 255, 0x1f⟩]

/-- The card of 0x2610. -/
def cards2610 : List Card := [
  ⟨0x00, 0x00, .u8, .const, 10, 0, 255, 0⟩,
  ⟨0x01, 0x01, .u16, .claim, 50, 5, 200, 0⟩,
  ⟨0x02, 0x02, .u8, .claim, 0, 0, 255, 0⟩,
  ⟨0x03, 0x03, .u8, .claim, 15, 0, 255, 0⟩,
  ⟨0x04, 0x04, .bool, .claim, 0, 0, 1, 0⟩,
  ⟨0x05, 0x05, .u32, .claim, 60000, 1000, 3600000, 0⟩,
  ⟨0x06, 0x06, .u32, .claim, 10000, 1000, 3600000, 0⟩,
  ⟨0x07, 0x07, .u32, .claim, 1000, 100, 100000, 0⟩,
  ⟨0x08, 0x08, .bool, .claim, 1, 0, 1, 0⟩,
  ⟨0x09, 0x09, .u8, .claim, 0, 0, 255, 0x7f⟩,
  ⟨0x0A, 0x0A, .u8, .claim, 0, 0, 255, 0x7f⟩]

/-- The card of 0x2611. -/
def cards2611 : List Card := [
  ⟨0x00, 0x00, .u8, .const, 8, 0, 255, 0⟩,
  ⟨0x01, 0x08, .u32, .claim, 0xffffffff, 0, 0xffffffff, 0⟩]

/-- The card of 0x262d. -/
def cards262D : List Card := [
  ⟨0x00, 0x00, .u8, .const, 9, 0, 255, 0⟩,
  ⟨0x01, 0x01, .u8, .ro, 0, 0, 255, 0⟩,
  ⟨0x02, 0x02, .u8, .ro, 0, 0, 255, 0⟩,
  ⟨0x03, 0x03, .i16, .ro, 0, (-32768), 32767, 0⟩,
  ⟨0x04, 0x04, .i16, .ro, 0, (-32768), 32767, 0⟩,
  ⟨0x05, 0x05, .u64, .ro, 0, 0, 0xffffffffffffffff, 0⟩,
  ⟨0x06, 0x06, .u32, .ro, 0, 0, 0xffffffff, 0⟩,
  ⟨0x07, 0x07, .u32, .ro, 0, 0, 0xffffffff, 0⟩,
  ⟨0x08, 0x08, .u64, .ro, 0, 0, 0xffffffffffffffff, 0⟩,
  ⟨0x09, 0x09, .u8, .ro, 255, 0, 255, 0⟩]

/-- The card of 0x2630+k. -/
def cards2630K : List Card := [
  ⟨0x00, 0x00, .u8, .const, 128, 0, 255, 0⟩,
  ⟨0x01, 0x80, .i32, .ro, 0, (-2147483648), 2147483647, 0⟩]

/-- The card of 0x2632+k. -/
def cards2632K : List Card := [
  ⟨0x00, 0x00, .u8, .const, 128, 0, 255, 0⟩,
  ⟨0x01, 0x80, .i32, .ro, 0, (-2147483648), 2147483647, 0⟩]

/-- The card of 0x2634+k. -/
def cards2634K : List Card := [
  ⟨0x00, 0x00, .u8, .const, 128, 0, 255, 0⟩,
  ⟨0x01, 0x80, .u8, .ro, 0, 0, 255, 0⟩]

/-- The card of 0x2636+k. -/
def cards2636K : List Card := [
  ⟨0x00, 0x00, .u8, .const, 128, 0, 255, 0⟩,
  ⟨0x01, 0x80, .u8, .ro, 1, 0, 255, 0⟩]

/-- The card of 0x2638. -/
def cards2638 : List Card := [
  ⟨0x00, 0x00, .u8, .const, 72, 0, 255, 0⟩,
  ⟨0x01, 0x48, .i32, .ro, 0, (-2147483648), 2147483647, 0⟩]

/-- The card of 0x2639. -/
def cards2639 : List Card := [
  ⟨0x00, 0x00, .u8, .const, 72, 0, 255, 0⟩,
  ⟨0x01, 0x48, .i32, .ro, 0, (-2147483648), 2147483647, 0⟩]

/-- The card of 0x263A. -/
def cards263A : List Card := [
  ⟨0x00, 0x00, .u8, .const, 72, 0, 255, 0⟩,
  ⟨0x01, 0x48, .u8, .ro, 0, 0, 255, 0⟩]

/-- The card of 0x263B. -/
def cards263B : List Card := [
  ⟨0x00, 0x00, .u8, .const, 72, 0, 255, 0⟩,
  ⟨0x01, 0x48, .u8, .ro, 1, 0, 255, 0⟩]

/-- The card of 0x2640. -/
def cards2640 : List Card := [
  ⟨0x00, 0x00, .u8, .const, 4, 0, 255, 0⟩,
  ⟨0x01, 0x04, .domain, .claim, 0, 0, 0xffffffff, 0⟩]

/-- The card of 0x2700. -/
def cards2700 : List Card := [
  ⟨0x00, 0x00, .u8, .const, 12, 0, 255, 0⟩,
  ⟨0x01, 0x01, .domain, .wo, 0, 1, 65536, 0⟩,
  ⟨0x02, 0x02, .u8, .wo, 0, 0, 255, 0⟩,
  ⟨0x03, 0x03, .u16, .claim, 1000, 10, 60000, 0⟩,
  ⟨0x04, 0x04, .u8, .ro, 0, 0, 255, 0⟩,
  ⟨0x05, 0x05, .u8, .ro, 255, 0, 255, 0⟩,
  ⟨0x06, 0x06, .u32, .ro, 0, 0, 0xffffffff, 0⟩,
  ⟨0x07, 0x07, .u8, .ro, 0, 0, 255, 0⟩,
  ⟨0x08, 0x08, .u32, .ro, 0, 0, 0xffffffff, 0⟩,
  ⟨0x09, 0x09, .u8, .claim, 255, 0, 7, 0⟩,
  ⟨0x0A, 0x0A, .u8, .claim, 0, 0, 255, 0x1f⟩,
  ⟨0x0B, 0x0B, .u8, .claim, 0, 0, 255, 0x1f⟩,
  ⟨0x0C, 0x0C, .u8, .claim, 255, 0, 255, 0⟩]

/-- The card of 0x2701. -/
def cards2701 : List Card := [
  ⟨0x00, 0x00, .u8, .const, 18, 0, 255, 0⟩,
  ⟨0x01, 0x01, .u16, .ro, 0, 0, 65535, 0⟩,
  ⟨0x02, 0x02, .domain, .wo, 0, 32, 32, 0⟩,
  ⟨0x03, 0x03, .domain, .wo, 0, 40, 40, 0⟩,
  ⟨0x04, 0x07, .domain, .wo, 0, 40, 40, 1⟩,
  ⟨0x08, 0x08, .u8, .claim, 0, 0, 255, 0xf⟩,
  ⟨0x09, 0x09, .u8, .claim, 0, 0, 63, 0⟩,
  ⟨0x0A, 0x0A, .bool, .wo, 0, 0, 1, 0⟩,
  ⟨0x0B, 0x0B, .u32, .ro, 0, 0, 0xffffffff, 0⟩,
  ⟨0x0C, 0x0C, .u32, .ro, 0, 0, 0xffffffff, 0⟩,
  ⟨0x0D, 0x0D, .u32, .ro, 0, 0, 0xffffffff, 0⟩,
  ⟨0x0E, 0x0E, .u32, .ro, 0, 0, 0xffffffff, 0⟩,
  ⟨0x0F, 0x12, .u32, .ro, 0, 0, 0xffffffff, 0⟩]

/-- The card of 0x2702. -/
def cards2702 : List Card := [
  ⟨0x00, 0x00, .u8, .const, 18, 0, 255, 0⟩,
  ⟨0x01, 0x01, .bool, .claim, 1, 0, 1, 0⟩,
  ⟨0x02, 0x02, .u32, .claim, 0x9fff0000, 0, 0xffffffff, 0x9fff1fff⟩,
  ⟨0x03, 0x05, .u32, .claim, 0, 0, 0xffffffff, 0x9fff1fff⟩,
  ⟨0x06, 0x06, .u32, .ro, 0, 0, 0xffffffff, 0⟩,
  ⟨0x07, 0x07, .u32, .ro, 0, 0, 0xffffffff, 0⟩,
  ⟨0x08, 0x08, .u32, .ro, 0, 0, 0xffffffff, 0⟩,
  ⟨0x09, 0x09, .u32, .ro, 0, 0, 0xffffffff, 0⟩,
  ⟨0x0A, 0x0A, .u32, .ro, 0, 0, 0xffffffff, 0⟩,
  ⟨0x0B, 0x0B, .u32, .ro, 0, 0, 0xffffffff, 0⟩,
  ⟨0x0C, 0x0C, .u32, .ro, 0, 0, 0xffffffff, 0⟩,
  ⟨0x0D, 0x0D, .u32, .ro, 0, 0, 0xffffffff, 0⟩,
  ⟨0x0E, 0x0E, .u16, .ro, 65535, 0, 65535, 0⟩,
  ⟨0x0F, 0x0F, .u64, .ro, 0, 0, 0xffffffffffffffff, 0⟩,
  ⟨0x10, 0x10, .u32, .claim, 0xffffffff, 0, 0xffffffff, 0⟩,
  ⟨0x11, 0x11, .u8, .claim, 0, 0, 255, 0x1f⟩,
  ⟨0x12, 0x12, .u8, .claim, 0, 0, 255, 0x1f⟩]

/-- The card of 0x2710. -/
def cards2710 : List Card := [
  ⟨0x00, 0x00, .u8, .const, 4, 0, 255, 0⟩,
  ⟨0x01, 0x01, .u16, .ro, 0, 0, 65535, 0⟩,
  ⟨0x02, 0x02, .u16, .ro, 0, 0, 65535, 0⟩,
  ⟨0x03, 0x03, .u32, .ro, 0, 0, 0xffffffff, 0⟩,
  ⟨0x04, 0x04, .u32, .ro, 0, 0, 0xffffffff, 0⟩]

/-- The card of 0x272z. -/
def cards272Z : List Card := [
  ⟨0x00, 0x00, .u8, .const, 29, 0, 255, 0⟩,
  ⟨0x01, 0x01, .u8, .ro, 0, 0, 255, 0⟩,
  ⟨0x02, 0x02, .u8, .claim, 0, 0, 255, 0⟩,
  ⟨0x03, 0x03, .bool, .claim, 0, 0, 1, 0⟩,
  ⟨0x04, 0x04, .u32, .claim, 100, 1, 10000, 0⟩,
  ⟨0x05, 0x05, .u8, .ro, 0, 0, 255, 0⟩,
  ⟨0x06, 0x06, .u32, .ro, 0, 0, 0xffffffff, 0⟩,
  ⟨0x07, 0x07, .u16, .ro, 0, 0, 65535, 0⟩,
  ⟨0x08, 0x08, .u32, .ro, 0, 0, 0xffffffff, 0⟩,
  ⟨0x09, 0x09, .u8, .ro, 0, 0, 255, 0⟩,
  ⟨0x0A, 0x11, .u32, .ro, 0, 0, 0xffffffff, 0⟩,
  ⟨0x12, 0x12, .u32, .ro, 0, 0, 0xffffffff, 0⟩,
  ⟨0x13, 0x13, .u8, .ro, 0, 0, 255, 0⟩,
  ⟨0x14, 0x14, .u32, .ro, 0, 0, 0xffffffff, 0⟩,
  ⟨0x15, 0x15, .u32, .ro, 0, 0, 0xffffffff, 0⟩,
  ⟨0x16, 0x16, .u32, .ro, 0, 0, 0xffffffff, 0⟩,
  ⟨0x17, 0x17, .u32, .ro, 0, 0, 0xffffffff, 0⟩,
  ⟨0x18, 0x18, .u32, .ro, 0, 0, 0xffffffff, 0⟩,
  ⟨0x19, 0x19, .u8, .claim, 0, 0, 255, 0x7f⟩,
  ⟨0x1A, 0x1A, .u8, .claim, 0, 0, 255, 0x7f⟩,
  ⟨0x1B, 0x1B, .u64, .ro, 0, 0, 0xffffffffffffffff, 0⟩,
  ⟨0x1C, 0x1C, .u16, .ro, 0, 0, 65535, 0⟩,
  ⟨0x1D, 0x1D, .domain, .claim, 0, 0, 1572864, 0⟩]

/-- The card of 0x274s. -/
def cards274S : List Card := [
  ⟨0x00, 0x00, .u8, .const, 5, 0, 255, 0⟩,
  ⟨0x01, 0x01, .domain, .claim, 0, 64, 4194304, 1⟩,
  ⟨0x02, 0x02, .u8, .ro, 0, 0, 255, 0⟩,
  ⟨0x03, 0x03, .u32, .ro, 0, 0, 0xffffffff, 0⟩,
  ⟨0x04, 0x04, .u32, .ro, 0, 0, 0xffffffff, 0⟩,
  ⟨0x05, 0x05, .u16, .ro, 0, 0, 65535, 0⟩]

/-- The card of 0x2800. -/
def cards2800 : List Card := [
  ⟨0x00, 0x00, .u8, .const, 15, 0, 255, 0⟩,
  ⟨0x01, 0x01, .u64, .ro, 0, 0, 0xffffffffffffffff, 0⟩,
  ⟨0x02, 0x02, .u32, .ro, 8, 0, 0xffffffff, 0⟩,
  ⟨0x03, 0x03, .u16, .ro, 8, 0, 65535, 0⟩,
  ⟨0x04, 0x04, .u64, .ro, 0, 0, 0xffffffffffffffff, 0⟩,
  ⟨0x05, 0x05, .u64, .ro, 0, 0, 0xffffffffffffffff, 0⟩,
  ⟨0x06, 0x06, .u8, .ro, 0, 0, 255, 0⟩,
  ⟨0x07, 0x07, .u32, .ro, 0, 0, 0xffffffff, 0⟩,
  ⟨0x08, 0x08, .u32, .ro, 0, 0, 0xffffffff, 0⟩,
  ⟨0x09, 0x09, .u32, .ro, 0, 0, 0xffffffff, 0⟩,
  ⟨0x0A, 0x0A, .u32, .ro, 0, 0, 0xffffffff, 0⟩,
  ⟨0x0B, 0x0B, .u32, .ro, 0, 0, 0xffffffff, 0⟩,
  ⟨0x0C, 0x0C, .u32, .ro, 0, 0, 0xffffffff, 0⟩,
  ⟨0x0D, 0x0D, .u16, .claim, 512, 64, 4096, 0⟩,
  ⟨0x0E, 0x0E, .u8, .claim, 0, 0, 255, 0x3f⟩,
  ⟨0x0F, 0x0F, .u8, .claim, 0, 0, 255, 0x3f⟩]

/-- The card of 0x2802. -/
def cards2802 : List Card := [
  ⟨0x00, 0x00, .u8, .const, 1, 0, 255, 0⟩,
  ⟨0x01, 0x01, .u8, .rw, 0, 0, 255, 0⟩]

/-- The card of 0x2803. -/
def cards2803 : List Card := [
  ⟨0x00, 0x00, .u8, .const, 42, 0, 255, 0⟩,
  ⟨0x01, 0x08, .u32, .rw, 0xffffffff, 0, 0xffffffff, 0⟩,
  ⟨0x09, 0x10, .u32, .wo, 0, 0, 0xffffffff, 0⟩,
  ⟨0x11, 0x18, .u64, .ro, 0, 0, 0xffffffffffffffff, 0⟩,
  ⟨0x19, 0x20, .u32, .rw, 0, 0, 0xffffffff, 0⟩,
  ⟨0x21, 0x28, .bool, .wo, 0, 0, 1, 0⟩,
  ⟨0x29, 0x29, .u8, .rw, 44, 1, 44, 0⟩,
  ⟨0x2A, 0x2A, .u16, .rw, 5, 1, 1000, 0⟩]

/-- The card of 0x2804. -/
def cards2804 : List Card := [
  ⟨0x00, 0x00, .u8, .const, 1, 0, 255, 0⟩,
  ⟨0x01, 0x01, .u32, .ro, 0, 0, 0xffffffff, 0⟩]

/-- The card of 0x2805. -/
def cards2805 : List Card := [
  ⟨0x00, 0x00, .u8, .const, 5, 0, 255, 0⟩,
  ⟨0x01, 0x01, .bool, .claim, 0, 0, 1, 0⟩,
  ⟨0x02, 0x02, .u16, .claim, 4800, 0, 65535, 0⟩,
  ⟨0x03, 0x03, .u8, .claim, 4, 0, 255, 0⟩,
  ⟨0x04, 0x04, .u8, .claim, 1, 1, 2, 0⟩,
  ⟨0x05, 0x05, .u8, .claim, 16, 0, 255, 0⟩]

/-- The card of 0x30pp. -/
def cards30PP : List Card := [
  ⟨0x00, 0x00, .u8, .const, 34, 0, 255, 0⟩,
  ⟨0x01, 0x01, .u8, .claim, 0, 0, 6, 0⟩,
  ⟨0x02, 0x02, .i32, .claim, 0, (-5000000), 26000000, 0⟩,
  ⟨0x03, 0x03, .i32, .claim, 0, (-1000000), 1000000, 0⟩,
  ⟨0x04, 0x04, .u8, .claim, 3, 0, 5, 0⟩,
  ⟨0x05, 0x05, .u32, .claim, 1000000, 10000, 1100000, 0⟩,
  ⟨0x06, 0x06, .u32, .claim, 1000000, 10000, 1100000, 0⟩,
  ⟨0x07, 0x07, .i32, .claim, 26000000, (-5000000), 26000000, 0⟩,
  ⟨0x08, 0x08, .i32, .claim, (-5000000), (-5000000), 26000000, 0⟩,
  ⟨0x09, 0x09, .u32, .claim, 4610, 0, 0xffffffff, 0x3fff⟩,
  ⟨0x0A, 0x0A, .i32, .claim, 5000000, (-5000000), 26000000, 0⟩,
  ⟨0x0B, 0x0B, .i32, .claim, 0, (-5000000), 26000000, 0⟩,
  ⟨0x0C, 0x0C, .u16, .claim, 256, 0, 4096, 0⟩,
  ⟨0x0D, 0x0D, .u8, .claim, 2, 0, 5, 0⟩,
  ⟨0x0E, 0x0E, .i32, .claim, 26760000, (-6000000), 26760000, 0⟩,
  ⟨0x0F, 0x0F, .i32, .claim, (-6000000), (-6000000), 26760000, 0⟩,
  ⟨0x10, 0x10, .u8, .claim, 255, 0, 255, 0⟩,
  ⟨0x11, 0x11, .i32, .claim, 12000000, 8000000, 18000000, 0⟩,
  ⟨0x12, 0x12, .u16, .claim, 100, 0, 60000, 0⟩,
  ⟨0x14, 0x14, .i32, .claim, 1250000, (-1250000), 1250000, 0⟩,
  ⟨0x15, 0x15, .i32, .claim, (-1250000), (-1250000), 1250000, 0⟩,
  ⟨0x18, 0x18, .u32, .ro, 1024, 0, 0xffffffff, 0⟩,
  ⟨0x19, 0x19, .u8, .ro, 0, 0, 255, 0⟩,
  ⟨0x1A, 0x1A, .bool, .claim, 0, 0, 1, 0⟩,
  ⟨0x1B, 0x1B, .real32, .ro, 0, 0, 0xffffffff, 0⟩,
  ⟨0x1C, 0x1C, .u32, .ro, 0, 0, 0xffffffff, 0⟩,
  ⟨0x20, 0x20, .u16, .claim, 0, 0, 4095, 0⟩,
  ⟨0x21, 0x21, .u8, .claim, 0, 0, 255, 0xf⟩,
  ⟨0x22, 0x22, .u8, .ro, 0, 0, 255, 0⟩]

/-- The card of 0x31pp. -/
def cards31PP : List Card := [
  ⟨0x00, 0x00, .u8, .const, 15, 0, 255, 0⟩,
  ⟨0x01, 0x01, .u8, .ro, 7, 0, 255, 0⟩,
  ⟨0x02, 0x02, .u8, .ro, 0, 0, 255, 0⟩,
  ⟨0x03, 0x03, .u8, .ro, 1, 0, 255, 0⟩,
  ⟨0x04, 0x04, .u32, .claim, 1000, 200, 1000000, 0⟩,
  ⟨0x05, 0x05, .u32, .ro, 0, 0, 0xffffffff, 0⟩,
  ⟨0x06, 0x06, .u64, .ro, 0, 0, 0xffffffffffffffff, 0⟩,
  ⟨0x07, 0x07, .u16, .claim, 0, 0, 65535, 0⟩,
  ⟨0x08, 0x08, .u32, .claim, 0, 0, 1000000, 0⟩,
  ⟨0x09, 0x09, .u8, .ro, 0, 0, 255, 0⟩,
  ⟨0x0A, 0x0A, .u32, .ro, 0, 0, 0xffffffff, 0⟩,
  ⟨0x0B, 0x0B, .u32, .ro, 0, 0, 0xffffffff, 0⟩,
  ⟨0x0C, 0x0C, .u32, .ro, 0, 0, 0xffffffff, 0⟩,
  ⟨0x0D, 0x0D, .u32, .claim, 0xffffffff, 0, 0xffffffff, 0⟩,
  ⟨0x0E, 0x0E, .u8, .claim, 0, 0, 255, 0x3⟩,
  ⟨0x0F, 0x0F, .u64, .ro, 0, 0, 0xffffffffffffffff, 0⟩]

/-- The card of 0x32qq. -/
def cards32QQ : List Card := [
  ⟨0x00, 0x00, .u8, .const, 96, 0, 255, 0⟩,
  ⟨0x01, 0x01, .u8, .claim, 0, 0, 3, 0⟩,
  ⟨0x02, 0x02, .u16, .claim, 40, 40, 40000, 0⟩,
  ⟨0x03, 0x03, .u8, .claim, 0, 0, 2, 0⟩,
  ⟨0x04, 0x04, .u32, .claim, 2048000, 1800000, 2100000, 0⟩,
  ⟨0x05, 0x05, .u8, .claim, 1, 1, 32, 0⟩,
  ⟨0x06, 0x06, .u16, .claim, 0, 0, 65535, 0x31ff⟩,
  ⟨0x07, 0x07, .u32, .claim, 0, 0, 0xffffffff, 0⟩,
  ⟨0x08, 0x08, .bool, .claim, 0, 0, 1, 0⟩,
  ⟨0x09, 0x09, .u64, .claim, 400000, 4000, 0xffffffffffff, 0⟩,
  ⟨0x0A, 0x0A, .u8, .ro, 0, 0, 255, 0⟩,
  ⟨0x0B, 0x0B, .u32, .ro, 0, 0, 0xffffffff, 0⟩,
  ⟨0x0C, 0x0C, .u16, .ro, 0, 0, 65535, 0⟩,
  ⟨0x0D, 0x0D, .u8, .ro, 0, 0, 255, 0⟩,
  ⟨0x0E, 0x0E, .u32, .ro, 0, 0, 0xffffffff, 0⟩,
  ⟨0x0F, 0x0F, .u64, .claim, 0, 0, 0xffffffffffffffff, 0x3fffffffffffff⟩,
  ⟨0x10, 0x10, .u8, .ro, 0, 0, 255, 0⟩,
  ⟨0x11, 0x11, .u16, .claim, 0, 0, 65535, 0x7f⟩,
  ⟨0x12, 0x12, .u8, .ro, 0, 0, 255, 0⟩,
  ⟨0x13, 0x13, .i32, .ro, 0, (-2147483648), 2147483647, 0⟩,
  ⟨0x14, 0x14, .i32, .ro, 0, (-2147483648), 2147483647, 0⟩,
  ⟨0x15, 0x15, .i32, .ro, 0, (-2147483648), 2147483647, 0⟩,
  ⟨0x16, 0x16, .u32, .claim, 5000, 100, 1000000, 0⟩,
  ⟨0x17, 0x17, .u32, .ro, 0, 0, 0xffffffff, 0⟩,
  ⟨0x18, 0x18, .u16, .ro, 40, 0, 65535, 0⟩,
  ⟨0x19, 0x19, .u8, .claim, 0, 0, 255, 0x3f⟩,
  ⟨0x1A, 0x1A, .u8, .claim, 0, 0, 255, 0x3f⟩,
  ⟨0x20, 0x23, .u64, .ro, 0, 0, 0xffffffffffffffff, 0⟩,
  ⟨0x24, 0x27, .u64, .ro, 0, 0, 0xffffffffffffffff, 0⟩,
  ⟨0x41, 0x60, .u64, .claim, 262144, 0, 0xffffffffffffffff, 0x3fffffffffffff⟩]

/-- The card of 0x33nn. -/
def cards33NN : List Card := [
  ⟨0x00, 0x00, .u8, .const, 51, 0, 255, 0⟩,
  ⟨0x01, 0x01, .u16, .claim, 16, 2, 4096, 0⟩,
  ⟨0x02, 0x02, .u8, .claim, 3, 1, 5, 0⟩,
  ⟨0x03, 0x03, .u16, .claim, 100, 1, 1024, 0⟩,
  ⟨0x04, 0x04, .u16, .claim, 0, 0, 1024, 0⟩,
  ⟨0x05, 0x05, .u8, .claim, 1, 1, 16, 0⟩,
  ⟨0x06, 0x06, .u16, .claim, 0, 0, 1024, 0⟩,
  ⟨0x07, 0x07, .u8, .claim, 1, 1, 16, 0⟩,
  ⟨0x08, 0x08, .u16, .claim, 0, 0, 1024, 0⟩,
  ⟨0x09, 0x09, .u8, .claim, 1, 1, 16, 0⟩,
  ⟨0x0A, 0x0A, .u32, .ro, 100, 0, 0xffffffff, 0⟩,
  ⟨0x0B, 0x0B, .real32, .ro, 1232348160, 0, 0xffffffff, 0⟩,
  ⟨0x0C, 0x0C, .u32, .ro, 2, 0, 0xffffffff, 0⟩,
  ⟨0x0D, 0x0D, .u32, .ro, 297, 0, 0xffffffff, 0⟩,
  ⟨0x0E, 0x0E, .u32, .ro, 0, 0, 0xffffffff, 0⟩,
  ⟨0x0F, 0x0F, .u16, .ro, 0, 0, 65535, 0⟩,
  ⟨0x10, 0x10, .u8, .claim, 0, 0, 255, 0xff⟩,
  ⟨0x11, 0x11, .u8, .claim, 0, 0, 255, 0xfe⟩,
  ⟨0x12, 0x12, .u32, .ro, 0, 0, 0xffffffff, 0⟩,
  ⟨0x13, 0x13, .u64, .ro, 0, 0, 0xffffffffffffffff, 0⟩,
  ⟨0x14, 0x17, .u32, .claim, 1048575, 0, 0xffffffff, 0xffffff⟩,
  ⟨0x18, 0x18, .domain, .claim, 0, 0, 8192, 0⟩,
  ⟨0x19, 0x19, .domain, .claim, 0, 0, 8192, 0⟩,
  ⟨0x1A, 0x1A, .u8, .ro, 0, 0, 255, 0⟩,
  ⟨0x1B, 0x1B, .u8, .claim, 0, 0, 1, 0⟩,
  ⟨0x1C, 0x1C, .u8, .claim, 4, 0, 10, 0⟩,
  ⟨0x1D, 0x1D, .u8, .claim, 8, 0, 255, 0⟩,
  ⟨0x1E, 0x1E, .u8, .claim, 0, 0, 255, 0x3f⟩,
  ⟨0x1F, 0x1F, .u8, .claim, 0, 0, 255, 0x3f⟩,
  ⟨0x20, 0x23, .u16, .claim, 0, 0, 1023, 0⟩,
  ⟨0x24, 0x27, .u64, .ro, 0, 0, 0xffffffffffffffff, 0⟩,
  ⟨0x28, 0x2B, .u64, .ro, 0, 0, 0xffffffffffffffff, 0⟩,
  ⟨0x2C, 0x2F, .u64, .ro, 0, 0, 0xffffffffffffffff, 0⟩,
  ⟨0x30, 0x33, .u64, .ro, 0, 0, 0xffffffffffffffff, 0⟩]

/-- The card of 0x3400. -/
def cards3400 : List Card := [
  ⟨0x00, 0x00, .u8, .const, 25, 0, 255, 0⟩,
  ⟨0x01, 0x01, .bool, .claim, 0, 0, 1, 0⟩,
  ⟨0x02, 0x09, .u32, .claim, 0, 0, 0xffffffff, 0⟩,
  ⟨0x0A, 0x0A, .u8, .claim, 0, 0, 255, 0⟩,
  ⟨0x0B, 0x0B, .u8, .claim, 15, 0, 255, 0x1f⟩,
  ⟨0x0C, 0x0C, .u8, .claim, 0, 0, 6, 0⟩,
  ⟨0x0D, 0x0D, .u8, .claim, 16, 4, 64, 0⟩,
  ⟨0x0E, 0x0E, .u32, .claim, 50000, 10000, 100000, 0⟩,
  ⟨0x0F, 0x0F, .u32, .claim, 10000000, 1000000, 10000000, 0⟩,
  ⟨0x10, 0x10, .u32, .claim, 20000, 1000, 20000, 0⟩,
  ⟨0x11, 0x11, .u32, .claim, 100000, 1000, 1000000, 0⟩,
  ⟨0x12, 0x12, .u32, .claim, 50000, 1000, 50000, 0⟩,
  ⟨0x13, 0x13, .u32, .claim, 100000, 1000, 100000, 0⟩,
  ⟨0x14, 0x14, .u32, .claim, 0xffffffff, 0, 0xffffffff, 0⟩,
  ⟨0x15, 0x15, .u8, .claim, 0, 0, 16, 0⟩,
  ⟨0x16, 0x16, .u8, .claim, 8, 1, 8, 0⟩,
  ⟨0x17, 0x17, .u16, .claim, 100, 1, 60000, 0⟩,
  ⟨0x18, 0x18, .u8, .claim, 0, 0, 255, 0x1f⟩,
  ⟨0x19, 0x19, .u8, .claim, 0, 0, 255, 0x1f⟩]

/-- The card of 0x3401. -/
def cards3401 : List Card := [
  ⟨0x00, 0x00, .u8, .const, 14, 0, 255, 0⟩,
  ⟨0x01, 0x01, .u8, .ro, 0, 0, 255, 0⟩,
  ⟨0x02, 0x02, .u8, .ro, 0, 0, 255, 0⟩,
  ⟨0x03, 0x03, .u8, .ro, 0, 0, 255, 0⟩,
  ⟨0x04, 0x04, .u32, .ro, 0, 0, 0xffffffff, 0⟩,
  ⟨0x05, 0x05, .u64, .ro, 0, 0, 0xffffffffffffffff, 0⟩,
  ⟨0x06, 0x06, .u32, .ro, 0, 0, 0xffffffff, 0⟩,
  ⟨0x07, 0x07, .u16, .ro, 0, 0, 65535, 0⟩,
  ⟨0x08, 0x08, .u16, .ro, 0, 0, 65535, 0⟩,
  ⟨0x09, 0x09, .u16, .ro, 0, 0, 65535, 0⟩,
  ⟨0x0A, 0x0A, .u16, .ro, 0, 0, 65535, 0⟩,
  ⟨0x0B, 0x0B, .u16, .ro, 0, 0, 65535, 0⟩,
  ⟨0x0C, 0x0C, .u16, .ro, 0, 0, 65535, 0⟩,
  ⟨0x0D, 0x0D, .u32, .ro, 0, 0, 0xffffffff, 0⟩,
  ⟨0x0E, 0x0E, .u32, .ro, 0, 0, 0xffffffff, 0⟩]

/-- The card of 0x34ss. -/
def cards34SS : List Card := [
  ⟨0x00, 0x00, .u8, .const, 3, 0, 255, 0⟩,
  ⟨0x01, 0x01, .domain, .claim, 0, 16, 65552, 1⟩,
  ⟨0x02, 0x02, .u16, .ro, 0, 0, 65535, 0⟩,
  ⟨0x03, 0x03, .u32, .ro, 0, 0, 0xffffffff, 0⟩]

/-- The card of 0x3500. -/
def cards3500 : List Card := [
  ⟨0x00, 0x00, .u8, .const, 9, 0, 255, 0⟩,
  ⟨0x01, 0x01, .u8, .claim, 0, 0, 255, 0⟩,
  ⟨0x02, 0x02, .u8, .claim, 0, 0, 3, 0⟩,
  ⟨0x03, 0x03, .u32, .claim, 0xffffffff, 0, 0xffffffff, 0⟩,
  ⟨0x04, 0x04, .u32, .claim, 2000, 100, 1000000, 0⟩,
  ⟨0x05, 0x05, .u32, .claim, 1000, 1, 600000, 0⟩,
  ⟨0x06, 0x06, .u8, .claim, 0, 0, 255, 0x1f⟩,
  ⟨0x07, 0x07, .u8, .claim, 0, 0, 255, 0x1f⟩,
  ⟨0x08, 0x08, .u32, .ro, 12582912, 0, 0xffffffff, 0⟩,
  ⟨0x09, 0x09, .u32, .ro, 0, 0, 0xffffffff, 0⟩]

/-- The card of 0x3501. -/
def cards3501 : List Card := [
  ⟨0x00, 0x00, .u8, .const, 19, 0, 255, 0⟩,
  ⟨0x01, 0x01, .u8, .ro, 0, 0, 255, 0⟩,
  ⟨0x02, 0x02, .u8, .ro, 255, 0, 255, 0⟩,
  ⟨0x03, 0x03, .u32, .ro, 0, 0, 0xffffffff, 0⟩,
  ⟨0x04, 0x04, .u16, .ro, 0, 0, 65535, 0⟩,
  ⟨0x05, 0x05, .u32, .ro, 0, 0, 0xffffffff, 0⟩,
  ⟨0x06, 0x06, .u32, .ro, 0, 0, 0xffffffff, 0⟩,
  ⟨0x07, 0x07, .u32, .ro, 0xffffffff, 0, 0xffffffff, 0⟩,
  ⟨0x08, 0x08, .u8, .ro, 0, 0, 255, 0⟩,
  ⟨0x09, 0x09, .u8, .ro, 0, 0, 255, 0⟩,
  ⟨0x0A, 0x0A, .u8, .ro, 0, 0, 255, 0⟩,
  ⟨0x0B, 0x0B, .u64, .ro, 0, 0, 0xffffffffffffffff, 0⟩,
  ⟨0x0C, 0x0C, .u16, .ro, 0, 0, 65535, 0⟩,
  ⟨0x0D, 0x10, .u16, .ro, 0, 0, 65535, 0⟩,
  ⟨0x11, 0x11, .u16, .ro, 0, 0, 65535, 0⟩,
  ⟨0x12, 0x12, .u32, .ro, 0, 0, 0xffffffff, 0⟩,
  ⟨0x13, 0x13, .u32, .ro, 0, 0, 0xffffffff, 0⟩]

/-- The card of 0x351s. -/
def cards351S : List Card := [
  ⟨0x00, 0x00, .u8, .const, 5, 0, 255, 0⟩,
  ⟨0x01, 0x01, .domain, .claim, 0, 64, 6291456, 1⟩,
  ⟨0x02, 0x02, .u8, .ro, 0, 0, 255, 0⟩,
  ⟨0x03, 0x03, .u32, .ro, 0, 0, 0xffffffff, 0⟩,
  ⟨0x04, 0x04, .u32, .ro, 0, 0, 0xffffffff, 0⟩,
  ⟨0x05, 0x05, .u32, .ro, 0, 0, 0xffffffff, 0⟩]

/-- The card of 0x352m. -/
def cards352M : List Card := [
  ⟨0x00, 0x00, .u8, .const, 6, 0, 255, 0⟩,
  ⟨0x01, 0x01, .u8, .ro, 0, 0, 255, 0⟩,
  ⟨0x02, 0x02, .u32, .ro, 0xffffffff, 0, 0xffffffff, 0⟩,
  ⟨0x03, 0x03, .u16, .ro, 0, 0, 65535, 0⟩,
  ⟨0x04, 0x04, .u8, .ro, 0, 0, 255, 0⟩,
  ⟨0x05, 0x05, .u8, .claim, 0, 0, 255, 0x3⟩,
  ⟨0x06, 0x06, .u8, .claim, 0, 0, 255, 0x3⟩]

/-- The card of 0x360e. -/
def cards360E : List Card := [
  ⟨0x00, 0x00, .u8, .const, 47, 0, 255, 0⟩,
  ⟨0x01, 0x01, .bool, .claim, 0, 0, 1, 0⟩,
  ⟨0x02, 0x02, .u32, .claim, 500000, 10000, 1000000, 0⟩,
  ⟨0x03, 0x03, .u32, .claim, 2000000, 10000, 8000000, 0⟩,
  ⟨0x04, 0x04, .u16, .claim, 19280, 0, 65535, 0⟩,
  ⟨0x05, 0x05, .u8, .claim, 3, 0, 255, 0x1f⟩,
  ⟨0x06, 0x06, .domain, .claim, 0, 8, 72, 0⟩,
  ⟨0x07, 0x07, .u32, .claim, 0xffffffff, 0, 0xffffffff, 0⟩,
  ⟨0x08, 0x08, .u32, .ro, 0, 0, 0xffffffff, 0⟩,
  ⟨0x09, 0x09, .bool, .claim, 0, 0, 1, 0⟩,
  ⟨0x0A, 0x0B, .u8, .claim, 0, 0, 255, 0xf⟩,
  ⟨0x10, 0x2F, .u64, .claim, 0, 0, 0xffffffffffffffff, 0x1fffffffbfffffff⟩]

/-- The card of 0x361l. -/
def cards361L : List Card := [
  ⟨0x00, 0x00, .u8, .const, 10, 0, 255, 0⟩,
  ⟨0x01, 0x01, .bool, .claim, 0, 0, 1, 0⟩,
  ⟨0x02, 0x02, .u8, .claim, 0, 0, 255, 0⟩,
  ⟨0x03, 0x03, .u8, .claim, 0, 0, 1, 0⟩,
  ⟨0x04, 0x04, .u16, .claim, 19200, 1000, 20000, 0⟩,
  ⟨0x05, 0x05, .u8, .claim, 13, 13, 26, 0⟩,
  ⟨0x06, 0x06, .u32, .claim, 0xffffffff, 0, 0xffffffff, 0⟩,
  ⟨0x07, 0x07, .domain, .claim, 0, 0, 768, 0⟩,
  ⟨0x08, 0x08, .u32, .ro, 0, 0, 0xffffffff, 0⟩,
  ⟨0x09, 0x0A, .u8, .claim, 0, 0, 255, 0xf⟩]

/-- The card of 0x361s. -/
def cards361S : List Card := [
  ⟨0x00, 0x00, .u8, .const, 8, 0, 255, 0⟩,
  ⟨0x01, 0x01, .bool, .claim, 0, 0, 1, 0⟩,
  ⟨0x02, 0x02, .u8, .claim, 0, 0, 255, 0⟩,
  ⟨0x03, 0x03, .u16, .claim, 30, 30, 900, 0⟩,
  ⟨0x04, 0x04, .u8, .claim, 6, 0, 255, 0x7f⟩,
  ⟨0x05, 0x05, .u32, .claim, 0xffffffff, 0, 0xffffffff, 0⟩,
  ⟨0x06, 0x06, .u32, .ro, 0, 0, 0xffffffff, 0⟩,
  ⟨0x07, 0x08, .u8, .claim, 0, 0, 255, 0xf⟩]

/-- The card of 0x362p. -/
def cards362P : List Card := [
  ⟨0x00, 0x00, .u8, .const, 7, 0, 255, 0⟩,
  ⟨0x01, 0x01, .bool, .claim, 0, 0, 1, 0⟩,
  ⟨0x02, 0x02, .u8, .claim, 0, 0, 255, 0⟩,
  ⟨0x03, 0x03, .u16, .claim, 1, 1, 65535, 0⟩,
  ⟨0x04, 0x04, .u32, .claim, 0xffffffff, 0, 0xffffffff, 0⟩,
  ⟨0x05, 0x05, .u64, .ro, 0, 0, 0xffffffffffffffff, 0⟩,
  ⟨0x06, 0x07, .u8, .claim, 0, 0, 255, 0xf⟩]

/-- The card of 0x37pp. -/
def cards37PP : List Card := [
  ⟨0x00, 0x00, .u8, .const, 8, 0, 255, 0⟩,
  ⟨0x01, 0x01, .u8, .claim, 0, 0, 255, 0⟩,
  ⟨0x02, 0x02, .u8, .claim, 0, 0, 255, 0xf⟩,
  ⟨0x03, 0x03, .bool, .claim, 0, 0, 1, 0⟩,
  ⟨0x04, 0x04, .bool, .ro, 0, 0, 1, 0⟩,
  ⟨0x05, 0x05, .u16, .claim, 0, 0, 65535, 0⟩,
  ⟨0x06, 0x06, .u32, .claim, 0, 0, 1000000, 0⟩,
  ⟨0x07, 0x07, .u32, .ro, 0, 0, 0xffffffff, 0⟩,
  ⟨0x08, 0x08, .u8, .ro, 0, 0, 255, 0⟩]

/-- The card of 0x4ooo. -/
def cards4OOO : List Card := [
  ⟨0x00, 0x00, .u8, .const, 12, 0, 255, 0⟩,
  ⟨0x01, 0x01, .u32, .ro, 0, 0, 0xffffffff, 0⟩,
  ⟨0x02, 0x02, .u64, .rw, 0, 0, 0xffffffffffffffff, 0xffffffffffff⟩,
  ⟨0x03, 0x03, .u16, .claim, 0, 0, 65535, 0⟩,
  ⟨0x04, 0x04, .u8, .claim, 0, 0, 255, 0⟩,
  ⟨0x05, 0x05, .domain, .ro, 0, 0, 0xffffffff, 0⟩,
  ⟨0x06, 0x06, .u32, .ro, 0, 0, 0xffffffff, 0⟩,
  ⟨0x07, 0x07, .u32, .ro, 0, 0, 0xffffffff, 0⟩,
  ⟨0x08, 0x08, .domain, .ro, 0, 0, 0xffffffff, 0⟩,
  ⟨0x09, 0x09, .u64, .claim, 0, 0, 0xffffffffffffffff, 0xffffffffffff⟩,
  ⟨0x0A, 0x0A, .u16, .ro, 0, 0, 65535, 0⟩,
  ⟨0x0B, 0x0B, .u8, .ro, 255, 0, 255, 0⟩,
  ⟨0x0C, 0x0C, .u32, .ro, 0, 0, 0xffffffff, 0⟩]

/-- The card of 0x5000. -/
def cards5000 : List Card := [
  ⟨0x00, 0x00, .u8, .const, 7, 0, 255, 0⟩,
  ⟨0x01, 0x01, .u16, .ro, 0, 0, 65535, 0⟩,
  ⟨0x02, 0x02, .u32, .ro, 0, 0, 0xffffffff, 0⟩,
  ⟨0x03, 0x03, .u32, .ro, 0, 0, 0xffffffff, 0⟩,
  ⟨0x04, 0x04, .u32, .rw, 0, 0, 0xffffffff, 0⟩,
  ⟨0x05, 0x05, .domain, .ro, 0, 0, 0xffffffff, 0⟩,
  ⟨0x06, 0x06, .u32, .ro, 0, 0, 0xffffffff, 0⟩,
  ⟨0x07, 0x07, .u32, .ro, 0, 0, 0xffffffff, 0⟩]

/-- The indexes in ascending order, part 1. -/
def cardGroups1 : List CardGroup := [
  ⟨0x1000, 0x1000, cards1000⟩,
  ⟨0x1001, 0x1001, cards1001⟩,
  ⟨0x1008, 0x1008, cards1008⟩,
  ⟨0x1009, 0x1009, cards1009⟩,
  ⟨0x100A, 0x100A, cards100A⟩,
  ⟨0x1010, 0x1010, cards1010⟩,
  ⟨0x1011, 0x1011, cards1011⟩,
  ⟨0x1017, 0x1017, cards1017⟩,
  ⟨0x1018, 0x1018, cards1018⟩,
  ⟨0x1E00, 0x1E01, cards1E0N⟩,
  ⟨0x1E10, 0x1E10, cards1E10⟩,
  ⟨0x2000, 0x2000, cards2000⟩,
  ⟨0x2001, 0x2001, cards2001⟩,
  ⟨0x2100, 0x2100, cards2100⟩,
  ⟨0x2101, 0x2101, cards2101⟩,
  ⟨0x2102, 0x2102, cards2102⟩,
  ⟨0x2103, 0x2103, cards2103⟩,
  ⟨0x2104, 0x2104, cards2104⟩,
  ⟨0x2105, 0x2105, cards2105⟩,
  ⟨0x2108, 0x210F, cards2108S⟩]

/-- The indexes in ascending order, part 2. -/
def cardGroups2 : List CardGroup := [
  ⟨0x2110, 0x2117, cards211H⟩,
  ⟨0x2200, 0x2200, cards2200⟩,
  ⟨0x2201, 0x2201, cards2201⟩,
  ⟨0x2202, 0x2202, cards2202⟩,
  ⟨0x2203, 0x2203, cards2203⟩,
  ⟨0x2300, 0x2300, cards2300⟩,
  ⟨0x2310, 0x2313, cards231T⟩,
  ⟨0x2400, 0x2400, cards2400⟩,
  ⟨0x2401, 0x2401, cards2401⟩,
  ⟨0x2410, 0x2413, cards2410K⟩,
  ⟨0x2418, 0x241B, cards2418K⟩,
  ⟨0x2420, 0x2423, cards2420K⟩,
  ⟨0x2428, 0x242B, cards2428K⟩,
  ⟨0x2430, 0x2433, cards2430K⟩,
  ⟨0x2438, 0x243B, cards2438K⟩,
  ⟨0x2500, 0x2500, cards2500⟩,
  ⟨0x2510, 0x2517, cards251N⟩,
  ⟨0x2600, 0x2600, cards2600⟩,
  ⟨0x2610, 0x2610, cards2610⟩,
  ⟨0x2611, 0x2611, cards2611⟩]

/-- The indexes in ascending order, part 3. -/
def cardGroups3 : List CardGroup := [
  ⟨0x2620, 0x2623, cards262D⟩,
  ⟨0x2630, 0x2631, cards2630K⟩,
  ⟨0x2632, 0x2633, cards2632K⟩,
  ⟨0x2634, 0x2635, cards2634K⟩,
  ⟨0x2636, 0x2637, cards2636K⟩,
  ⟨0x2638, 0x2638, cards2638⟩,
  ⟨0x2639, 0x2639, cards2639⟩,
  ⟨0x263A, 0x263A, cards263A⟩,
  ⟨0x263B, 0x263B, cards263B⟩,
  ⟨0x2640, 0x2640, cards2640⟩,
  ⟨0x2700, 0x2700, cards2700⟩,
  ⟨0x2701, 0x2701, cards2701⟩,
  ⟨0x2702, 0x2702, cards2702⟩,
  ⟨0x2710, 0x2710, cards2710⟩,
  ⟨0x2720, 0x272F, cards272Z⟩,
  ⟨0x2740, 0x2747, cards274S⟩,
  ⟨0x2800, 0x2800, cards2800⟩,
  ⟨0x2802, 0x2802, cards2802⟩,
  ⟨0x2803, 0x2803, cards2803⟩,
  ⟨0x2804, 0x2804, cards2804⟩]

/-- The indexes in ascending order, part 4. -/
def cardGroups4 : List CardGroup := [
  ⟨0x2805, 0x2805, cards2805⟩,
  ⟨0x3000, 0x30FF, cards30PP⟩,
  ⟨0x3100, 0x31FF, cards31PP⟩,
  ⟨0x3200, 0x3247, cards32QQ⟩,
  ⟨0x3300, 0x3347, cards33NN⟩,
  ⟨0x3400, 0x3400, cards3400⟩,
  ⟨0x3401, 0x3401, cards3401⟩,
  ⟨0x3410, 0x341F, cards34SS⟩,
  ⟨0x3500, 0x3500, cards3500⟩,
  ⟨0x3501, 0x3501, cards3501⟩,
  ⟨0x3510, 0x3513, cards351S⟩,
  ⟨0x3520, 0x3523, cards352M⟩,
  ⟨0x3600, 0x3603, cards360E⟩,
  ⟨0x3610, 0x3617, cards361L⟩,
  ⟨0x3618, 0x361F, cards361S⟩,
  ⟨0x3620, 0x3627, cards362P⟩,
  ⟨0x3700, 0x371F, cards37PP⟩,
  ⟨0x4000, 0x4FFF, cards4OOO⟩,
  ⟨0x5000, 0x5000, cards5000⟩]

/-- Every index of the dictionary that holds an object (R20). -/
def cardGroups : List CardGroup := cardGroups1 ++ cardGroups2 ++ cardGroups3 ++ cardGroups4

/-- The cards of an index; nothing where the index holds no object. -/
def cardsOf (idx : Nat) : Option (List Card) :=
  (cardGroups.find? fun g => g.first ≤ idx && idx ≤ g.last).map (·.cards)

/-- The subindexes that R71 keeps out of the port objects whose port is not lane L0. -/
def cardAbsent (idx sub : Nat) : Bool :=
  0x3000 ≤ idx && idx ≤ 0x30FF && idx % 4 != 0 && 0x20 ≤ sub && sub ≤ 0x22

/-- The row of a card that holds a subindex. -/
def cardOf (idx sub : Nat) : Option Card :=
  if cardAbsent idx sub then none
  else (cardsOf idx).bind fun cs => cs.find? fun c => c.lo ≤ sub && sub ≤ c.hi

/-- The defaults that depend on the index (R71, R297, R473). -/
def cardDefault (idx sub : Nat) : Int :=
  if 0x3000 ≤ idx && idx ≤ 0x30FF && sub == 0 then (if idx % 4 = 0 then 0x22 else 0x1C)
  else if idx == 0x1E01 && sub == 3 then 0xC0A80A0B
  else if idx == 0x2510 && sub == 1 then 6
  else ((cardOf idx sub).map (·.dflt)).getD 0

end Sys2Proof.Machine
end

