-- ==== Sys2Proof/Config.lean ====
section
/-!
DEFINITION. What an IZ-7256 fixes per part or leaves open, as constants without a body: nothing in Lean can evaluate
them, so a statement holds whatever they are. And what a zone image declares, whose layout inside the frames Chago
fixes (R408).
-/

namespace Sys2Proof

/-- A channel that a zone image declares on the lanes of a side (R385, R391): whether this zone receives on it, the lane numbers
of its request, acknowledge and data, and whether the zone has a broken input for it. -/
structure ChannelDecl where
  side : Fin 4
  receives : Bool
  request : Fin 128
  acknowledge : Fin 128
  data : List (Fin 128)
  broken : Bool
  deriving DecidableEq, Repr, Inhabited

/-- What the link interface and border frames of a zone image declare (R385, R393, R396 to R402, R408). -/
structure ZoneDecl where
  /-- Port numbers of its mask, and its service pins, as the image gives them (R393, code 0x04). -/
  ports : List Nat
  sioPins : List Nat
  /-- Taps in order: chain, lane, and whether the fine path (R399). -/
  taps : List (ChainNo × Lane × Bool)
  queuePorts : Nat
  userLines : Nat
  channels : List ChannelDecl
  /-- Outgoing data lanes whose clamp default is not 0: the lane, and `some true` for 1, `none` for hold (R386). -/
  clampDefaults : List (LaneRef × Option Bool)
  deriving DecidableEq, Repr, Inhabited

/-- The two modes to which an image sets a cluster of 16 cells (R376). -/
inductive ClusterMode where
  | bundled | dualRail
  deriving DecidableEq, Repr, Inhabited

/-- Where the handshake of a bundled-data stage stands: its request and acknowledge are 00, 10, 11 and 01 (R376). -/
inductive HandshakePhase where
  | rest | requested | acknowledged | returning
  deriving DecidableEq, Repr, Inhabited

/-- A bundled-data stage (R376, R377): its controller cell, its data cells, the cells whose delay lines are on its request path,
and where its handshake stands in reset (R375). -/
structure BundledStage where
  controller : Nat
  data : List Nat
  lines : List Nat
  initial : HandshakePhase
  deriving DecidableEq, Repr, Inhabited

/-- What an image sets a handshake cell to (R375): the lookup tables F and G, used apart or as one table of five inputs; the
inverted inputs of the completion element; the reset values of the completion element and of the latch; whether the latch takes
its enable from the cell's own completion element or from its stage controller; and the steps of the delay line. -/
structure CellConfig where
  f : BitVec 16
  g : BitVec 16
  joined : Bool
  inverted : BitVec 3
  completionReset : Bool
  latchReset : Bool
  selfTimed : Bool
  delay : Fin 256
  deriving DecidableEq, Repr, Inhabited

/-- DESIGN CHOICE (log entry 6): the mode of a cluster, a free function of the bytes of the zone's 480 cell frames. -/
opaque Config.clusterMode : Bytes → Nat → ClusterMode

/-- DESIGN CHOICE (log entry 6): what the cell frames of a zone set a handshake cell to. -/
opaque Config.cell : Bytes → Nat → CellConfig

/-- DESIGN CHOICE (log entry 6): the bundled-data stages that the cell frames of a zone set. -/
opaque Config.stages : Bytes → List BundledStage

/-- DESIGN CHOICE (log entry 6): the width in bytes, as a power of 2, that the cell frames of a zone set a port of a block to:
block, and whether port B (R381). -/
opaque Config.portWidth : Bytes → Nat → Bool → Fin 4

/-- DESIGN CHOICE (log entry 6): what a zone's 32 link and border frames declare, a free function of their bytes, since
R408 leaves the content of a frame to Chago. -/
opaque Config.zoneDecl : Bytes → ZoneDecl

/-- The device nonce dn of its random source (R459), a fresh one at each index. -/
opaque Config.deviceNonce : Nat → Byte → Byte

/-- What a calibration value belongs to (R102, R488): the generation of the set in force, the converter, lane, gain
code, measure select, current range and reference code. -/
structure CorrectionPoint where
  gen : Nat
  conv : Nat
  lane : Nat
  gain : Nat
  measure : Nat
  range : Nat
  reference : Nat
  deriving DecidableEq, Repr

/-- DESIGN CHOICE (log entry 5): what the stored offset and gain of a calibration set add to the converted value of a
code (R102). -/
opaque Config.calCorrection : CorrectionPoint → Int → Int

/-- The comb gain error of R135 and R136, of which the spec gives only the bound of 2^-24. -/
opaque Config.combGain : Nat → Nat → Int

/-- DESIGN CHOICE (log entry 8): which Larder segment a queue reserved as its first, second, ... (R345, R359). -/
opaque Config.larderSegment : Nat → Nat → BitVec 20

/-- The force-ball voltage in microvolts that a cell samples at a park entry (R81), a fresh one at each index (log entry
10). -/
opaque Config.ballVoltage : Nat → Int

/-- The level that a floating service pad reads (R100), by pin and instant (log entry 11). -/
opaque Config.floatingPad : Nat → Nat → Bool

/-- Whether every record of a Cellar transaction except its commit is written when SAVE begins (R485), by transaction id
(log entry 12). -/
opaque Config.recordsWritten : Nat → Bool

/-- Values that the spec leaves open after a command that completes, a fresh one at each index (log entry 13). -/
opaque Config.freeValue : Nat → BitVec 64

/-- DESIGN CHOICE (log entry 14): the links that the mapper measures together in a round of its edge colouring (R176), by
the links of the map and the round. -/
opaque Config.mapRound : List (Nat × Nat) → Nat → List (Nat × Nat)

/-- Serial number, 0x1018:04 (per part, R472). -/
opaque Config.serial : BitVec 32
/-- Revision, 0x1018:03 (per part, R472). -/
opaque Config.revision : BitVec 32
/-- DESIGN CHOICE (log entry 163): how many bytes of a DOMAIN transfer the device can buffer (R451). -/
opaque Config.transferBuffer : Nat
/-- DESIGN CHOICE (log entry 17): the link-local IPv6 address of NET0 and NET1 (R445). -/
opaque Config.linkLocal : Fin 2 → Bytes
/-- MAC address of NET0 and NET1 (from eFuse, R473). -/
opaque Config.mac : Fin 2 → BitVec 48
/-- Hardware version, 0x1009:00 (per part, R472). -/
opaque Config.hardwareVersion : Bytes
/-- Firmware version, 0x100A:00 (per part, R472). -/
opaque Config.firmwareVersion : Bytes
/-- The Aethus-defined coefficient block that a run's new values put into an item's record (R505): die, item number in
the set, generation of the values. -/
opaque Config.calCoefficients : Nat → Nat → Nat → Bytes

/-- The bytes of the directory in a half of the Cellar, of its items by class and key: the spec gives their CRC and not their layout
(R479). -/
opaque Config.directoryBytes : List (Nat × Bytes) → Bytes

end Sys2Proof
end

