-- ==== Sys2Proof/Machine/State.lean ====
section
/-!
DEFINITION. The state of the IZ-7256, as plain data.

Values of the object dictionary that are nothing but values (settings, counters, last stamps) live in `objs` under
their index and subindex; an object that is not listed there holds the default of its card (R8). DOMAINs and strings
live in `blobs`. What the device must remember besides lives in one record per block. Memories live in `mem`.
-/

namespace Sys2Proof.Machine

/-- Sparse data by number: keys strictly rising, no entry equal to what an unlisted key holds. -/
abbrev Table (α : Type) := List (Nat × α)

/-! ## Modes, owners -/

/-- The twelve modes (R21). -/
inductive Mode where
  | off | keep | wake | safe | load | idle | run | throttle | calibrate | quiesce | hold | save
  deriving DecidableEq, Repr

/-- What can own a port (R75). -/
inductive OwnerKind where
  | static | fabric | engine | sweeper | mapper | isolation | clamp | unheld
  deriving DecidableEq, Repr

/-- An owner with its unit field (R75). -/
structure Owner where
  kind : OwnerKind
  unit : Nat
  deriving DecidableEq, Repr

/-- Why the owner of a port changes (R90, byte 28). -/
inductive OwnerCause where
  | enable | disable | fault | claimEnded | bind | release | modeChange | claimTaken
  deriving DecidableEq, Repr

/-! ## Ports and service pins -/

/-- A port in park (R81 to R84): the entry, the exit as it stands now, and what the owner-change entry will carry. -/
structure Park where
  entry : Tk
  exit : Tk
  oldOwner : Owner
  target : Owner
  cause : OwnerCause
  retargeted : Bool
  hold : Int
  /-- The bus whose switch pair stays closed through the park, because the new owner also uses it (R81). -/
  bus : Option Nat := none
  deriving DecidableEq, Repr

/-- What a lane shows to its converter from an instant on (R102, R121 to R123): current range, measure select, the end of
its settling, and whether its port is in park. -/
structure LaneMark where
  since : Tk
  range : Nat := 3
  measure : Nat := 0
  settleEnd : Tk := 0
  moving : Bool := false
  deriving DecidableEq, Repr

/-- What the net mapper has set at a point (R159, R160, R164, R165): current range, and source and sink clamp in ppm of the
range. -/
structure MapPoint where
  range : Nat := 3
  clamp : Nat := 1000000
  deriving DecidableEq, Repr

/-- The glitch filter and debounce stage of a port or service pin (R86 to R89, R98). -/
structure Filter where
  /-- The level of the signal as it arrives. -/
  raw : Bool := false
  /-- When the signal last changed, or the filter last restarted. -/
  since : Tk := 0
  /-- The glitch-filtered level. -/
  glitch : Bool := false
  /-- The level delivered to the event source. -/
  level : Bool := false
  /-- The level is not defined yet (R89). -/
  resync : Bool := false
  /-- The end of the running debounce window. -/
  debounce : Option Tk := none
  /-- The last transition inside the window. -/
  lastTransition : Tk := 0
  /-- The next accepted edge is the first after a park. -/
  afterPark : Bool := false
  /-- Edges suppressed or rejected since the previous pin-edge entry (R90). -/
  skipped : Nat := 0
  /-- The stamp of the last accepted edge. -/
  lastEdge : Tk := 0
  deriving DecidableEq, Repr

/-- A write to the port object that is stored and has not reached the cell: it waits for the end of a range change (R50),
or for the static setting to act again (R33, R70). `old` is the value that the cell still has. -/
structure HeldWrite where
  sub : Nat
  old : Int
  new : Int
  deriving DecidableEq, Repr

/-- What a port cell holds beyond its objects (Port Cells; Port Ownership). -/
structure PortCell where
  owner : Owner := { kind := .clamp, unit := 0 }
  park : Option Park := none
  settling : Bool := false
  settlingEnd : Tk := 0
  /-- When the present range change completes, and the range it leaves (R50). -/
  rangeEnd : Option Tk := none
  rangeFrom : Nat := 3
  held : List HeldWrite := []
  /-- The last static function change: when, and from which function (R52). -/
  changedAt : Tk := 0
  changedFrom : Nat := 0
  /-- The force amplifier is on; in park, whether it was on at park entry (R82). -/
  amp : Bool := false
  /-- What the net mapper has set at this point. -/
  point : MapPoint := {}
  sourceClamp : Bool := false
  sinkClamp : Bool := false
  voltageClamp : Bool := false
  /-- Since when a clamp has held without a break (R41). -/
  clampSince : Option Tk := none
  senseFallback : Bool := false
  /-- The inputs of the comparators as last reported: force and sense ball in microvolts, current in pA. -/
  forceUv : Int := 0
  senseUv : Int := 0
  currentPa : Int := 0
  /-- The receiver as it compares, and the window comparators (R54, R56). -/
  receiver : Bool := false
  windowAbove : Bool := false
  windowBelow : Bool := false
  /-- The receiver restarts until this instant (R55). -/
  receiverAt : Option Tk := none
  /-- The bus whose switch pair is closed, and the pair commanded to close with its instant (R60). -/
  bus : Option Nat := none
  busNext : Option (Nat × Tk) := none
  latched : Option PortCause := none
  /-- Ball voltage in microvolts and current in nA, as last sampled (R234). -/
  uv : Int := 0
  na : Int := 0
  filter : Filter := {}
  /-- The last park exit. -/
  lastParkExit : Tk := 0
  /-- What the port has shown to its converter, newest first, as far back as samples still ask for it. -/
  marks : List LaneMark := []
  /-- The fabric's outputs toward this port, and its schedule of (instant, D, OE) (R396, R397). -/
  fabricD : Bool := false
  fabricOE : Bool := false
  schedule : List (Tk × Bool × Bool) := []
  lastScheduled : Option Tk := none
  deriving DecidableEq, Repr

/-- What a service pin holds beyond its object (R93 to R100). -/
structure PinCell where
  /-- What the outside holds at the pad; `none` when nothing drives it. -/
  outside : Option Bool := none
  filter : Filter := {}
  contention : Bool := false
  /-- Since when a driven pad reads the opposite level. -/
  opposedSince : Option Tk := none
  /-- Since when the pad has been low (R96). -/
  lowSince : Option Tk := none
  fabricD : Bool := false
  fabricOE : Bool := false
  /-- What the pin drove when HOLD or SAVE froze it (R97): `some none` for no drive. -/
  frozen : Option (Option Bool) := none
  deriving DecidableEq, Repr

/-! ## Converters -/

/-- A waiting trigger or request: its stamp, whether a command gave it (R113, R333), and when it arrived (R114). -/
structure Trigger where
  stamp : Tk
  command : Bool
  arrived : Tk
  deriving DecidableEq, Repr

/-- What a converter converts now (R108, R115, R127). -/
inductive Converting where
  | nothing | entry | urgent | diagnosis
  deriving DecidableEq, Repr

/-- The urgent slot (R115, R127): whether what it holds still waits, when it was accepted, and the first instant at which
it may run when no entry converts. -/
inductive UrgentSlot where
  | free
  | request (waiting : Bool) (at_ ready : Tk)
  | diagnosis (waiting : Bool) (at_ ready : Tk)
  deriving DecidableEq, Repr

/-- Why a converter stops at its next boundary (R111, R119, R120). -/
inductive StopCause where
  | command | mode | claim | queue
  deriving DecidableEq, Repr

/-- A conversion that has ended or was cut, kept while its kept samples are still on their way into the chain or a queue (R121,
R132): its word, first sample, settle samples, period, moves of its grid, the samples it took, and what its samples carry. -/
structure Conversion where
  word : Nat
  started : Tk
  settles : Nat
  period : Nat
  regrids : List (Nat × Tk)
  taken : Nat
  urgent : Bool
  repeated : Bool
  reference : Nat
  deriving DecidableEq, Repr

/-- The raw entries that a conversion's end or cut leaves to write (R116, R121): the number of the sample that the next one begins
with, and whether the conversion was cut. -/
structure RawLeft where
  conv : Conversion
  next : Nat
  cut : Bool
  deriving DecidableEq, Repr

/-- What a converter holds beyond its object (Converters and Sequences). -/
structure Converter where
  /-- Grid origin and effective period (R103). -/
  origin : Tk := 0
  period : Nat := 40
  converting : Converting := .nothing
  passRunning : Bool := false
  /-- The entry that runs or will run next. -/
  entry : Nat := 0
  /-- The last entry boundary: the grid instant after the last sample of what converted then (R108). -/
  boundary : Tk := 0
  /-- The sequence entry word of what converts now (R112). -/
  word : Nat := 0
  /-- First sample and number of settle samples of what converts now. -/
  started : Tk := 0
  settles : Nat := 0
  /-- The first instant at which a pass may start in run modes 0x01 and 0x03. -/
  startAt : Tk := 0
  /-- The end of the pass before. -/
  passEnd : Tk := 0
  /-- The next sample is the first of a pass, or follows an urgent request or diagnosis (R109); lane and gain of the last
  conversion that ended. -/
  fresh : Bool := true
  lastLane : Nat := 0
  lastGain : Nat := 0
  /-- The running entry repeats a cut one (R116). -/
  repeated : Bool := false
  /-- The entry to run next repeats a cut one. -/
  repeatNext : Bool := false
  triggers : List Trigger := []
  nextTimer : Option Tk := none
  slot : UrgentSlot := .free
  stop : Option StopCause := none
  lastStop : StopCause := .command
  calibrationUse : Bool := false
  /-- The reference settles from one instant until another (R107). -/
  refSettling : Bool := false
  referenceFrom : Tk := 0
  referenceAt : Tk := 0
  /-- The governor has lowered the rate; the new period waits for the entry boundary (R248). -/
  nextPeriod : Option Nat := none
  /-- The effective period is the governor's, longer than the programmed one (R248). -/
  raised : Bool := false
  /-- Samples whose place moved with the grid during the entry, newest first: sample number and its instant (R148). -/
  regrids : List (Nat × Tk) := []
  /-- Kept samples of the entry already written as raw entries (R121), and what a cut or an end has left to write:
  samples, and whether the cut flag is set. -/
  rawTaken : Nat := 0
  rawLeft : List RawLeft := []
  /-- The step whose measure record the urgent slot serves (R202). -/
  urgentStep : Option Nat := none
  /-- Conversions with kept samples that the chain has still to take, oldest first. -/
  done : List Conversion := []
  deriving DecidableEq, Repr

/-! ## Chains -/

/-- One kept sample on its way into a chain lane (R132): its instant, its corrected fraction in Q1.31, the paths it is
routed to, the flags of R123 (bits 0 to 4), and the settings whose change restarts the lane (R133). -/
structure Sample where
  instant : Tk
  frac : Int
  toCoarse : Bool
  toFine : Bool
  flags : Nat
  urgent : Bool
  repeated : Bool
  gain : Nat
  measure : Nat
  range : Nat
  reference : Nat
  deriving DecidableEq, Repr

/-- An output of a chain path, before it is delivered (R152). -/
structure ChainOut where
  stamp : Tk
  frac : Int
  flags : Nat
  gain : Nat
  range : Nat
  measure : Nat
  reference : Nat
  bank : Bank
  fading : Bool
  repeated : Bool
  urgent : Bool
  index : Nat
  settlingOut : Bool
  deriving DecidableEq, Repr

/-- One FIR stage: the newest inputs first, each with whether a saturated value is in it (R136), and the inputs since its
last output. -/
structure FirState where
  hist : List (Int × Bool) := []
  count : Nat := 0
  deriving DecidableEq, Repr

/-- A comb of a given order: integrators, comb delays, and the inputs since its last output. -/
structure CombState where
  ints : List Int := []
  delays : List Int := []
  count : Nat := 0
  deriving DecidableEq, Repr

/-- One lane of a chain (R133 to R140, R145). -/
structure ChainLane where
  last : Option Sample := none
  /-- The first instant whose sample the lane may still take: what lies before it is taken, or discarded by a restart. -/
  nextFrom : Tk := 0
  /-- Dropped samples whose restart is still to come (R146). -/
  drops : List Tk := []
  /-- Inputs since the restart and the phase delay. -/
  coarseIn : Nat := 0
  fineIn : Nat := 0
  /-- Input samples still to discard after the restart (R145). -/
  phaseLeft : Nat := 0
  coarse : CombState := {}
  s1 : CombState := {}
  s2 : FirState := {}
  s3 : FirState := {}
  s4 : FirState := {}
  /-- For each of the flags 0 to 4, bridged, urgent and repeated: the number of the last input of the path that had it
  (R152); 0 for none. -/
  marksCoarse : List Nat := []
  marksFine : List Nat := []
  coarseOuts : Nat := 0
  fineOuts : Nat := 0
  /-- The restart that its first input will complete: cause and missing instants (R133, R152). -/
  restart : Option (Nat × Nat) := none
  /-- Restart markers behind outputs that are still to be delivered: whether of the fine path, the outputs ahead, and the cause
  (R399). -/
  markers : List (Bool × Nat × Nat) := []
  lagCoarse : Bool := false
  lagFine : Bool := false
  readyCoarse : List ChainOut := []
  readyFine : List ChainOut := []
  /-- The lane has restarted and has given no valid fine output since (R139). -/
  fineSettling : Bool := false
  deriving DecidableEq, Repr

/-- A cross-fade from one bank to the other over 2^k outputs (R142). -/
structure Fade where
  start : Tk
  finish : Tk
  source : Bank
  target : Bank
  k : Nat
  /-- Fine outputs of each lane since the start. -/
  counts : List Nat
  deriving DecidableEq, Repr

/-- What a chain holds beyond its object (Decimation Chains). -/
structure Chain where
  lanes : Table ChainLane := []
  active : Bank := .a
  fade : Option Fade := none
  /-- Fades that have ended, newest first, while samples from before their end are still to be taken. -/
  pastFades : List Fade := []
  heldSwap : Option Bank := none
  /-- The instant of the pending synchronising reset (R147), and its event: the stamp, and whether it was a command. -/
  sync : Option Tk := none
  syncEvent : Tk × Bool := (0, false)
  mapperUse : Bool := false
  deriving DecidableEq, Repr

/-! ## Net mapper -/

/-- The state of the mapper (R191). -/
inductive MapPhase where
  | disabled | ready | waiting | pass1 | pass2 | refinement | analysis | done | aborted
  deriving DecidableEq, Repr

/-- A conductance as an exact fraction: numerator and (positive) denominator, in siemens. -/
structure Ratio where
  num : Int
  den : Nat
  deriving DecidableEq, Repr

/-- A link of the harness (R157, R173): its points, its conductance, and what refinement found (R181). -/
structure MapLink where
  a : Nat
  b : Nat
  g : Ratio
  /-- Kelvin resistance in micro-ohm, refinement current in 10 microampere, round. -/
  kelvin : Option (Nat × Nat × Nat) := none
  overRange : Bool := false
  deriving DecidableEq, Repr

/-- A reported path of pass 2 (R174): nets, `none` for the module's 0 V. -/
structure MapLeak where
  a : Nat
  b : Option Nat
  g : Ratio
  cls : Nat
  saturated : Bool
  deriving DecidableEq, Repr

/-- An element of the correlation matrix Y (R167), in siemens: the measured item and the item whose code it is. Items are
ports in pass 1 and net numbers in pass 2. -/
structure MapSum where
  item : Nat
  code : Nat
  y : Ratio
  deriving DecidableEq, Repr

/-- The running map (Coded-Excitation Net Mapping). -/
structure Map where
  phase : MapPhase := .disabled
  start : Tk := 0
  session : Nat := 255
  byStep : Option Nat := none
  /-- Pass select, reference slot (0 none), chip length code and averaged periods of this map. -/
  sel : Nat := 0
  refSlot : Nat := 0
  chip : Nat := 0
  periods : Nat := 16
  points : List Nat := []
  waitSince : Tk := 0
  pass : Nat := 1
  group : Nat := 0
  /-- Rows of each item of each group (R171). -/
  groups : List (List (Nat × Nat)) := []
  g1 : Nat := 0
  g2 : Nat := 0
  grant : Nat := 0
  dieGrants : List Nat := []
  /-- The rest current of each point before pass 1, in ppm of its range (R166). -/
  rests : List (Nat × Ratio) := []
  sums1 : List MapSum := []
  sums2 : List MapSum := []
  overItems : List Nat := []
  nets : List (List Nat) := []
  links : List MapLink := []
  leaks : List MapLeak := []
  rounds : List (List (Nat × Nat)) := []
  round : Nat := 0
  iref : Nat := 0
  phaseStart : Tk := 0
  deriving DecidableEq, Repr

/-! ## Plans -/

/-- A value a step produced (R199, R200). -/
structure StepValue where
  index : Nat
  value : Int
  flags : Nat
  stamp : Option Tk
  deriving DecidableEq, Repr

/-- Where a step of the running plan stands (R207). -/
inductive StepStage where
  | waiting | ready | inFlight | ended
  deriving DecidableEq, Repr

/-- A step of the running plan. -/
structure StepRec where
  stage : StepStage := .waiting
  readyAt : Tk := 0
  deferCause : Nat := 0
  held : Bool := false
  attempt : Nat := 0
  dispatchedAt : Tk := 0
  values : List StepValue := []
  /-- The action has stopped, with this error cause (0 none); `none` while it runs (R199). -/
  done : Option Nat := none
  stoppedAt : Tk := 0
  /-- The step has been ended with this error cause, and its action stops when what already runs has finished (R205). -/
  ending : Option Nat := none
  /-- Energy drawn so far, in 10^-19 J, and what BREQ added to the claim in microjoule (R240, R282). -/
  energy : Int := 0
  extra : Nat := 0
  /-- Measure records still to run (converter, request), and those still running (R202). -/
  toRun : List (Nat × Nat × Nat) := []
  running : List (Nat × Nat) := []
  core : Option Nat := none
  /-- The event source whose edge ends a wait step, plus 512 times the edge: 0 rising, 1 falling, 2 either (R199). -/
  waitsFor : Option Nat := none
  /-- Exchange: the end of the request, or of the LIN header, and results still to collect (R228). -/
  sentAt : Tk := 0
  left : Nat := 0
  /-- Verdict and cause, once ended for good. -/
  verdict : Nat := 0
  cause : Nat := 0
  deriving DecidableEq, Repr

/-- The tail of a step's peaks (R209): its end, module peak and die peaks. -/
structure Tail where
  until_ : Tk
  module_ : Nat
  dies : List Nat
  deriving DecidableEq, Repr

/-- The dispatcher (Test Plans). -/
structure Dispatcher where
  slot : Option Nat := none
  session : Nat := 255
  steps : Table StepRec := []
  /-- Nothing more is dispatched: after a stop step, or after an abort (R216, R205). -/
  stopped : Bool := false
  stopOnFail : Bool := false
  abortCause : Option Nat := none
  tails : List Tail := []
  /-- The result queue of each step of the running plan that names one (R347). -/
  queuesNamed : List Nat := []
  firstCause : Nat := 0
  deriving DecidableEq, Repr

/-- What a lane read in a measurement of a sweep: its value, its flags and the instant of its first kept sample. -/
structure LaneRead where
  value : Int
  flags : Nat
  stamp : Tk
  deriving DecidableEq, Repr

/-- A sweeper channel (R219 to R223). -/
structure Sweep where
  /-- The step that uses the channel. -/
  step : Option Nat := none
  ports : List Nat := []
  /-- The level being measured, and whether the reversed measurement of a Kelvin sweep is due. -/
  point : Nat := 0
  second : Bool := false
  levelSetAt : Tk := 0
  /-- What the first measurement of a Kelvin sweep with reversal found: sense difference and current. -/
  first : List LaneRead := []
  /-- The gang ports force (type 0x01), in a range and mode; otherwise the ports are joined to buses, each with its bus
  (R222). -/
  forces : Bool := false
  current : Bool := false
  range : Nat := 0
  /-- Clamps 1 and 2 of the descriptor (R220). -/
  clamp1 : Int := 0
  clamp2 : Int := 0
  buses : List (Nat × Nat) := []
  /-- The sweep has measured its last level, or stops at compliance: the cause of its end (R221). -/
  ended : Option Nat := none
  deriving DecidableEq, Repr

/-- A bus source (R219): whether it drives its bus, in which mode and range, its level in microvolts or ppm of range, the end
of its settling, whether a clamp of it is active, and what it has shown to its bus converter. -/
structure BusSource where
  on : Bool := false
  current : Bool := false
  range : Nat := 0
  level : Int := 0
  settleEnd : Tk := 0
  clamp : Bool := false
  marks : List LaneMark := []
  deriving DecidableEq, Repr

/-- Error state of a CAN FD engine (R231). -/
inductive CanState where
  | active | passive | busOff
  deriving DecidableEq, Repr

/-- A CAN FD engine (R224). -/
structure CanEngine where
  state : CanState := .active
  tec : Nat := 0
  rxErr : Nat := 0
  /-- The frame waiting for the bus, and the step that asked for it. -/
  transmit : Option (Bytes × Option Nat) := none
  recovering : Bool := false
  deriving DecidableEq, Repr

/-- A LIN header whose response an engine awaits (R225): identifier, start of the frame, and the step that asked. -/
structure LinHeader where
  ident : Nat
  start : Tk
  step : Option Nat
  deriving DecidableEq, Repr

/-- A LIN engine (R225). -/
structure LinEngine where
  header : Option LinHeader := none
  deriving DecidableEq, Repr

/-- A SENT receiver (R226): the previous accepted calibration pulse. -/
structure SentUnit where
  lastCalibration : Option Nat := none
  deriving DecidableEq, Repr

/-! ## Governor -/

/-- The budget governor (Energy and Heat Budget). Books are in microjoule; issued is their sum (R242). -/
structure Governor where
  bucket : Int := 0
  reserved : Int := 0
  consumed : Int := 0
  /-- Readings of the running period: sensors, number of samples, and sums of V x I and of dissipation in 10^-15 W. -/
  temps : List Temps := []
  samples : Nat := 0
  poutSum : Int := 0
  pportSum : Int := 0
  /-- Standing energy of the period so far, in 10^-19 J (R241). -/
  standing : Int := 0
  /-- Bus sources as last sampled: voltage in microvolts and current in nA. -/
  bus : Table (Int × Int) := []
  /-- Settings as of the last period end: mapper share, bucket capacity and temperature setpoint (R252). -/
  share : Nat := 2500
  capacity : Nat := 250000
  tset : Int := 1150
  /-- Consecutive periods with Pd above Plim (R246). -/
  overPower : Nat := 0
  lowered : Bool := false
  /-- VCORE in mV when its target last changed, and when (R247). -/
  vcoreFrom : Nat := 800
  vcoreSince : Tk := 0
  lastEnd : Tk := 0
  deriving DecidableEq, Repr

/-! ## Step cores -/

/-- The state of a step core (R297). -/
inductive CoreStage where
  | stopped | routine | program | waiting | exception | supervisor
  deriving DecidableEq, Repr

/-- A step core (Step Cores). -/
structure Core where
  g : Vector Word 16 := Vector.replicate 16 0#32
  fast : Vector Word 6 := Vector.replicate 6 0#32
  pc : Word := 0#32
  psr : Word := 0#32
  epc : Word := 0#32
  epsr : Word := 0#32
  fepc : Word := 0#32
  fepsr : Word := 0#32
  esrc : Word := 0#32
  fsrc : Word := 0#32
  nvec : Word := 0#32
  fvec : Word := 0#32
  ost : Word := 0#32
  wsel : Word := 0#32
  /-- SESS: 255 none. -/
  sess : Nat := 255
  /-- STEP. -/
  step : Option Nat := none
  staging : Word := 0#32
  /-- The snapshot of the 64-bit object last read with part 0: its key and high word (R276). -/
  snapshot : Option (Nat × Word) := none
  /-- Snapshots of newest-result objects, by the key of the value object (R126, R153, R276): whether a newer result has
  been written since, the high word, and the timestamp. -/
  laneSnaps : Table (Option (Bool × Word × Nat)) := []
  /-- The high word that TSR snapshotted (R283). -/
  tsr : Option Word := none
  stage : CoreStage := .stopped
  /-- A waiting core: the stage it returns to, WAITE's destination, and its deadline (R280). -/
  wait : Option (CoreStage × Reg × Option Tk) := none
  /-- The session the core last worked for (R261). -/
  lastSess : Nat := 255
  /-- Committed deliveries not yet entered (R306, R284, R285). -/
  normalEvent : Option Nat := none
  fastEvent : Option Nat := none
  deriving DecidableEq, Repr

/-! ## Event controller -/

/-- The states of a source (R303). -/
inductive SourceStage where
  | idle | pending | due | service
  deriving DecidableEq, Repr

/-- An event source (Event Controller); targets are 1 to 7 for SC1 to SC7 and 8 to 15 for session queues 0 to 7. -/
structure Source where
  level : Bool := false
  /-- The latest of the rising edge, the completion that ended the last service and the write that gave the first target
  (R300). -/
  risen : Tk := 0
  pending : Nat := 0
  stage : SourceStage := .idle
  first : Tk := 0
  last : Tk := 0
  service : Tk := 0
  vanished : Bool := false
  holder : Option Nat := none
  holderFast : Bool := false
  deliveredCount : Nat := 0
  arrived : Nat := 0
  delivered : Nat := 0
  lost : Nat := 0
  /-- The target that last received this source (R307). -/
  lastTarget : Nat := 0
  bypass : Bool := false
  /-- Arrivals were lost since the previous delivery (R314). -/
  lostSince : Bool := false
  deriving DecidableEq, Repr

/-! ## Timebase -/

/-- The timebase (Timebase and Event Ordering). -/
structure Timebase where
  locked : Bool := false
  holdover : Bool := false
  present : Bool := false
  calendarLost : Bool := false
  /-- The time of the VBAT calendar at tk 0 of this counter, in microseconds, as a write or a first lock last gave it (R330). -/
  calendar : Option Int := none
  everLocked : Bool := false
  /-- Since when the lock has held, and since when the reference has been lost. -/
  lockedAt : Tk := 0
  lostAt : Tk := 0
  /-- SYNC output edges scheduled, the end of the running pulse, when the pin last went low, next periodic edge. -/
  syncEdges : List Tk := []
  syncHigh : Option Tk := none
  syncLowSince : Option Tk := none
  syncNext : Option Tk := none
  /-- The stamp of a SYNC input edge that was accepted and has not acted yet (R147). -/
  syncIn : Option Tk := none
  deriving DecidableEq, Repr

/-- A trigger output (R337). -/
structure TrigOut where
  waiting : List Trigger := []
  highUntil : Option Tk := none
  lowSince : Option Tk := none
  nextTimer : Option Tk := none
  deriving DecidableEq, Repr

/-! ## Queues -/

/-- An entry of a queue (R17). -/
structure Entry where
  stamp : Tk
  tag : Nat
  kind : Nat
  flags : Nat
  seq : Nat
  payload : Bytes
  /-- When it was written (R367). -/
  writtenAt : Tk
  deriving DecidableEq, Repr

/-- A Pantry block of a queue (R350): how many entries were written into it, how many it still holds, and whether it
is spilling. -/
structure Block where
  filled : Nat
  held : Nat
  spilling : Bool
  deriving DecidableEq, Repr

/-- A queue (R342 to R359). -/
structure Queue where
  capacity : Nat := 0
  share : Nat := 1
  policy : Nat := 0
  larderBacked : Bool := false
  damaged : Bool := false
  written : Nat := 0
  read : Nat := 0
  discarded : Nat := 0
  refused : Nat := 0
  /-- Entries, oldest first. -/
  entries : List Entry := []
  /-- How many of the oldest entries are in the Larder part. -/
  larder : Nat := 0
  /-- Larder entries ever written: the position of the tail (R359). -/
  larderTail : Nat := 0
  /-- Pantry blocks, oldest first. -/
  blocks : List Block := []
  deriving DecidableEq, Repr

/-- The pools of the queue system (R350, R351, R360). -/
structure Pantry where
  storeBlocks : Nat := 512
  /-- Spilling blocks whose queue no longer exists or was flushed. -/
  orphans : Nat := 0
  /-- Queues with a spill running, in order of their start; `none` for an orphaned block. -/
  spills : List (Option Nat) := []
  larderReady : Bool := false
  copying : Bool := false
  /-- What 0x2805 said at the last power-up: Larder enable, and the Larder queue space in bytes (R360, R362, R371). -/
  enabled : Bool := false
  space : Nat := 0
  deriving DecidableEq, Repr

/-- A credit stream (R365 to R367). -/
structure Stream where
  queue : Nat
  granted : Nat := 0
  consumed : Nat := 0
  /-- The sent frontier S. -/
  sent : Nat := 0
  progressAt : Tk := 0
  /-- When the stream was opened. -/
  opened : Tk := 0
  /-- Entries to send again, as the next sequence number to resend. -/
  resend : Option Nat := none
  deriving DecidableEq, Repr

/-! ## Zones -/

/-- The states of a zone (R387). -/
inductive ZoneStage where
  | empty | draining | loading | ready | running | failed
  deriving DecidableEq, Repr

/-- What a tap delivers (R399): an output, or the marker of a lane restart. -/
inductive TapItem where
  | output (frac : Int) (flags : Nat) (stamp : Tk) (index : Nat)
  | restart (cause : Nat)
  deriving DecidableEq, Repr

/-- A zone of the fabric (Self-Timed Fabric and Zones). -/
structure Zone where
  stage : ZoneStage := .empty
  next : ZoneStage := .empty
  drainAt : Tk := 0
  clampedAt : Option Tk := none
  /-- The image held: id, margin, cells and blocks used, and what it declares. -/
  imageId : Nat := 0
  margin : Nat := 0
  cells : Nat := 0
  blocks : Nat := 0
  decl : ZoneDecl := default
  hasImage : Bool := false
  /-- Ports that have left the live mask (R79). -/
  maskLost : List Nat := []
  /-- Clamp defaults in the isolation cells (R386). -/
  defaults : List (LaneRef × Option Bool) := []
  /-- Border lanes released since the last start (R395). -/
  released : List LaneRef := []
  taps : Table (List TapItem) := []
  lines : List Bool := [false, false, false, false]
  /-- Outgoing lanes that its logic drives at 1 (R385), and those that a clamp default of hold keeps at 1 (R386). -/
  driven : List LaneRef := []
  held : List LaneRef := []
  /-- Outgoing request lanes that rose during a drain and stay pending at this zone (R389), and the incoming request lanes of the
  channels whose broken input reads 1 here (R391). -/
  blocked : List LaneRef := []
  brokenInputs : List LaneRef := []
  /-- What has changed since the cells left reset: the handshakes of its bundled-data stages (R376), the codes of its dual-rail
  bits (R380), and the completion elements and latches of its cells (R375). -/
  stages : Table (Option HandshakePhase) := []
  rails : Table (Option Nat) := []
  elements : Table (Option (Bool × Bool)) := []
  zeroing : Option Tk := none
  /-- The zone is Ready and its repair copy is not yet asked for (R428). -/
  repairDue : Bool := false
  readyAt : Tk := 0
  deriving DecidableEq, Repr

/-! ## Loader, keys, scrubber -/

/-- Where the answer of a request goes that completes later: the bench's own interface, with the session of the request
(255 none), a datagram of a session with its opcode and request id, or CAN0 (R447, R450, R454). -/
inductive ReplyTo where
  | plain (who : Nat)
  | datagram (session opcode reqId : Nat)
  | usdo
  deriving DecidableEq, Repr

/-- How far the records of a stream have been taken (R414, R415): the next payload byte, the zone of the last zone begin,
the zones begun and the frames written. -/
structure Parse where
  offset : Nat := 0
  zone : Option Nat := none
  begun : List Nat := []
  written : List Nat := []
  deriving DecidableEq, Repr

/-- The configuration loader (R416 to R419). -/
structure Loader where
  session : Option Nat := none
  /-- The stream comes from a Cellar slot: by 0x2700:09, or at boot without claims. -/
  fromSlot : Bool := false
  boot : Bool := false
  /-- The bytes received, and the key of the stream. -/
  bytes : Bytes := []
  key : Bytes := []
  parse : Parse := {}
  /-- Zones of the stream erased, or whose claim ended, during their load; their records are discarded (R417). -/
  dropped : List Nat := []
  /-- The zone begin at the front waits for its zone to drain. -/
  waitDrain : Option Nat := none
  lastWrite : Tk := 0
  /-- A write whose bytes are still being processed (R416). -/
  owed : Option ReplyTo := none
  deriving DecidableEq, Repr

/-- The key store (R421 to R425). -/
structure KeyStore where
  kek : Option Bytes := none
  ek : Option Bytes := none
  battery : List (Option Bytes) := [none, none, none, none]
  batteryLost : Bool := false
  policy : Nat := 0
  minVersion : Nat := 0
  failures : Nat := 0
  lockoutUntil : Option Tk := none
  deriving DecidableEq, Repr

/-- The scrubber (R429 to R434): its triple-voted settings, its place in the sweep, and the repair in progress. -/
structure Scrubber where
  /-- Three copies of enable and the four ranges, and the voted values of this sweep. -/
  copies : List (List Nat) := [[1, 0x9FFF0000, 0, 0, 0], [1, 0x9FFF0000, 0, 0, 0], [1, 0x9FFF0000, 0, 0, 0]]
  active : List Nat := [1, 0x9FFF0000, 0, 0, 0]
  next : Nat := 0
  repair : Option (Nat × Nat × Tk) := none
  sweepStart : Tk := 0
  unrepairable : Bool := false
  foundUnrepairable : Bool := false
  lastAdvance : Tk := 0
  /-- When SC0 last reset the scrubber, and sweeps since. -/
  lastReset : Option Tk := none
  sweepsSinceReset : Nat := 0
  deriving DecidableEq, Repr

/-! ## Sessions -/

/-- The stage of a session number (R474). -/
inductive SessionStage where
  | free | reserved | open_
  deriving DecidableEq, Repr

/-- A DOMAIN transfer of a session (R451). -/
structure Transfer where
  id : Nat
  idx : Nat
  sub : Nat
  total : Nat
  /-- Bytes received, by offset. -/
  bytes : Table (Option Byte) := []
  deriving DecidableEq, Repr

/-- A response the device keeps (R449). -/
structure Kept where
  reqId : Nat
  opcode : Nat
  flags : Nat
  payload : Bytes
  deriving DecidableEq, Repr

/-- A request that waits behind one of its session that still executes (R449). -/
inductive Waiting where
  | datagram (d : Datagram)
  | usdo (u : UsdoRequest)
  /-- A write in the bench's own interface. -/
  | write (idx sub : Nat) (bytes : Bytes)
  deriving DecidableEq, Repr

/-- A session (R459 to R464). -/
structure Session where
  stage : SessionStage := .free
  link : Link := .can0
  slot : Nat := 255
  addr : Bytes := []
  streamPort : Nat := 0
  opened : Tk := 0
  renewed : Tk := 0
  lease : Nat := 0
  hn : Bytes := []
  dn : Bytes := []
  ks : Bytes := []
  challengedAt : Tk := 0
  /-- Sequence numbers accepted: the highest, and those within 64 below it (R448). -/
  highest : Nat := 0
  accepted : List Nat := []
  txSeq : Nat := 0
  kept : List Kept := []
  transfer : Option Transfer := none
  waiting : List Waiting := []
  /-- NMT has ended the session, whose accepted requests complete first (R455, R463). -/
  ending : Bool := false
  deriving DecidableEq, Repr

/-- A segmented transfer on CAN0 (R454). -/
structure UsdoTransfer where
  idx : Nat
  sub : Nat
  upload : Bool
  total : Nat
  bytes : Bytes
  toggle : Bool
  lastFrame : Tk
  deriving DecidableEq, Repr

/-- The states of NMT on CAN0 (R455, R473). -/
inductive NmtState where
  | preOperational | operational | stopped
  deriving DecidableEq, Repr

/-- The addresses with which a network link works in this power-up (R445, R473). -/
structure NetSettings where
  address : Nat := 0xC0A80A0A
  maskBits : Nat := 24
  gateway : Nat := 0
  dhcp : Bool := false
  /-- A DHCPv4 server has granted the address (R445). -/
  leased : Bool := false
  /-- The static IPv6 address: 16 bytes, or empty. -/
  address6 : Bytes := []
  maskBits6 : Nat := 64
  deriving DecidableEq, Repr

/-- CAN0 and the NET links (R454, R473, R537). -/
structure Links where
  nmt : NmtState := .preOperational
  usdo : Option UsdoTransfer := none
  canState : Nat := 0
  canTec : Nat := 0
  canRxErr : Nat := 0
  lastHeartbeat : Tk := 0
  blockLock : List Bool := [false, false]
  addressValid : List Bool := [false, false]
  /-- Whether each module is present, sees light and transmits (R537): absent, loss of signal, fault. -/
  moduleSignals : List (Bool × Bool × Bool) := [(false, false, false), (false, false, false)]
  /-- The SAFE link of this power-up (R509), and the node-ID and heartbeat identifier in force (R454, R473). -/
  safeLink : Link := .can0
  nodeId : Nat := 0x10
  /-- NET0 and NET1 are enabled in this power-up (R507, R473). -/
  enabled : List Bool := [true, true]
  nets : List NetSettings := [{}, { address := 0xC0A80A0B }]
  /-- The nominal and the data bit rate with which CAN0 works (R454, R473). -/
  bitRate : Nat := 500000
  dataBitRate : Nat := 2000000
  deriving DecidableEq, Repr

/-- The fixture cycle (R25, R469): bound by a session; ports returning to their safe state before the unbind. -/
structure Cycle where
  boundBy : Option Nat := none
  /-- A release or unbind waits for the last park exit, then acts; `why` is the cause of its mode change (R528). -/
  releasing : Bool := false
  why : Nat := 0
  /-- The unbind ends in SAFE, not IDLE (R516). -/
  toSafe : Bool := false
  /-- The instant of the unbind at an entry to HOLD (R469). -/
  unbindAt : Option Tk := none
  deriving DecidableEq, Repr

/-! ## Cellar and calibration -/

/-- What waits for a transaction to commit (R481): applied at the commit record. -/
inductive Stored where
  | value (key : Nat) (v : Option Int)
  | blob (cls key : Nat) (b : Option Bytes)
  deriving DecidableEq, Repr

/-- Who asked for a transaction, for the effects of its end. -/
inductive TxnFor where
  | plan (slot : Nat) | stream (slot : Nat) | reference (slot : Nat) | store | restore | key (h : Nat) | repair (z : Nat)
  | marker (d : Nat) | calSet (d : Nat) | global | import_ (d : Nat) | counter | setting
  deriving DecidableEq, Repr

/-- A Cellar transaction (R480, R481). -/
structure Txn where
  id : Nat := 0
  why : TxnFor
  changes : List Stored
  /-- Heap units its extents need, and bytes of journal its records take. -/
  units : Nat := 0
  size : Nat := 0
  /-- Where the answer of the host write goes that asked for it, if one did (R450, R482). -/
  reply : Option ReplyTo := none
  deriving DecidableEq, Repr

/-- How the records of a transaction end (R480): with no record, as where power is lost, with an abandon record, or with a commit
record after its changes, each with the heap units of its extent. -/
inductive TxnEnd where
  | cut
  | abandoned
  | committed (changes : List (Stored × List Nat))
  deriving DecidableEq, Repr

/-- A transaction in the journal (R480, R483): its id, the bytes from its begin record to its end, the zone whose repair copy its
begin record makes invalid (R481), and how it ends. -/
structure JournalTxn where
  id : Nat
  start : Nat
  upTo : Nat
  repair : Option Nat := none
  ending : TxnEnd := .cut
  deriving DecidableEq, Repr

/-- What a half holds (R479, R484): object values, items of the other classes, and the heap units of their extents. It is not sound
while a compaction writes it. -/
structure Directory where
  values : Table (Option Int) := []
  items : Table (Option Bytes) := []
  heap : Table (List Nat) := []
  sound : Bool := true
  deriving DecidableEq, Repr, Inhabited

/-- A root copy (R479), and whether its CRC passes; the length and the CRC of the directory follow from the half that it names. -/
structure RootCopy where
  half : Nat := 0
  generation : Nat := 0
  firstTxn : Nat := 0
  sound : Bool := false
  deriving DecidableEq, Repr, Inhabited

/-- The Cellar (Cellar Journal and Calibration). -/
structure Cellar where
  /-- Committed persistent object values, by object key (item class 0x01). -/
  values : Table (Option Int) := []
  /-- Committed items of the other classes, by class x 2^32 + key. -/
  items : Table (Option Bytes) := []
  open_ : Option Txn := none
  waiting : List Txn := []
  nextId : Nat := 0
  stage : Nat := 0
  /-- The heap units of each item in the heap (R478, R480). -/
  heap : Table (List Nat) := []
  /-- Items whose extent or repair copy an error has hit since they were written (R486). -/
  lost : List Nat := []
  /-- The active half of the root in force, its generation and its first transaction (R479). -/
  activeHalf : Nat := 0
  generation : Nat := 0
  firstTxn : Nat := 0
  journal : Nat := 0
  /-- The two root copies: of a Cellar never compacted, the first alone is written (log entry 167). -/
  roots : List RootCopy := [{ sound := true }, {}]
  /-- The two halves, A and B (R478, R484). -/
  halves : List Directory := [{}, {}]
  /-- The transactions of the journal in their order, those without a commit record among them (R483). -/
  records : List JournalTxn := []
  /-- The place of the first record of the journal whose CRC fails (R486). -/
  badAt : Option Nat := none
  /-- Since when the condition of compaction in IDLE has held (R484). -/
  compactSince : Option Tk := none
  /-- The generation of the last repair copy of each zone (R428). -/
  repairGens : Table Nat := []
  deriving DecidableEq, Repr

/-- A calibration run of a die (R491 to R497). -/
structure CalRun where
  /-- 0 none, 1 due, 2 running, 3 storing (R503). -/
  stage : Nat := 0
  dueAt : Tk := 0
  startedAt : Tk := 0
  mayPreempt : Bool := false
  /-- Items of the run still to finish, as numbers 0 to 15 for quads and 16 to 19 for bus items; those that run every
  unit, and the ports of the die (0 to 63) of which the run holds only the in-situ step. -/
  left : List Nat := []
  whole : List Nat := []
  ports : List Nat := []
  /-- How many units of each item have ended. -/
  unitsDone : Table Nat := []
  /-- Items past their deadline whose next unit preempts (R493). -/
  preempting : List Nat := []
  /-- What the last run deferred, and the ports it found disturbed (0 to 63). -/
  deferred : List Nat := []
  disturbed : List Nat := []
  tStart : Int := 0
  retryAt : Option Tk := none
  /-- What the retry will run: deferred items, and ports for in-situ steps only. -/
  retryItems : List Nat := []
  retryPorts : List Nat := []
  lastResult : Nat := 0
  hasSet : Bool := false
  tref : Int := 0
  deriving DecidableEq, Repr

/-- The running calibration unit. -/
structure CalUnit where
  die : Nat
  item : Nat
  unit : Nat
  startedAt : Tk
  preempted : Bool
  deriving DecidableEq, Repr

/-- The figures of one calibrated circuit (R495, R496): port, converter at 256 + number, or bus source at 512 + number. -/
structure CalFigure where
  ro : Int := 0
  ge : Int := 0
  qi : Nat := 0
  completed : Bool := false
  outOfLimits : Bool := false
  deferred : Bool := false
  disturbed : Bool := false
  tq : Int := 0
  /-- The generation of the values in force (Config.calCorrection). -/
  gen : Nat := 0
  deriving DecidableEq, Repr

/-- Calibration. -/
structure Calibration where
  runs : Table CalRun := []
  unit : Option CalUnit := none
  figures : Table CalFigure := []
  /-- The figures of the committed sets, which a reset brings back (R497). -/
  stored : Table CalFigure := []
  /-- Global calibration runs (R498). -/
  global : Bool := false
  gens : Nat := 0
  deriving DecidableEq, Repr

/-! ## Power, log, output -/

/-- Supplies and resets (R506 to R526, R535, R536). -/
structure Power where
  vsupGood : Bool := true
  vsupMv : Nat := 0
  vbat : Bool := false
  /-- The VIO band: `some false` 1.8 V, `some true` 3.3 V, `none` outside both (R533). -/
  vio : Option Bool := none
  /-- VIO has been below 1.2 V since it left its band (R535). -/
  vioFell : Bool := true
  /-- The band VIO was in last. -/
  vioLast : Option Bool := none
  rstnLow : Bool := false
  resetCause : Nat := 1
  saveAt : Tk := 0
  saveFrom : Mode := .off
  /-- What SAVE did with the open transaction: 0 none open, 1 committed, 2 abandoned (R528). -/
  saveAction : Nat := 0
  advance : Bool := true
  /-- A boot load may still follow in this power-up (R427, R510). -/
  bootLoad : Bool := true
  /-- A reset command waits for the Cellar until this instant (R525). -/
  resetPending : Option Tk := none
  /-- HOLD: its causes present, the error register's latched bits. -/
  causes : List HoldCause := []
  firstCause : Option HoldCause := none
  /-- Causes that arose in WAKE, with what was measured (R514). -/
  wakeCauses : List (HoldCause × Int) := []
  errorLatched : Nat := 0
  /-- VBAT was lost while VSUP was absent (R425). -/
  batteryGone : Bool := false
  tap : Nat := 0
  deriving DecidableEq, Repr

/-- A log record (R527), its detail as eight bytes. -/
structure LogRecord where
  stamp : Tk
  tag : Nat
  kind : Nat
  flags : Nat
  boot : Nat
  detail : Bytes
  deriving DecidableEq, Repr

/-- The log ring, oldest first, and the records held until the log is ready (R527, R529). -/
structure Log where
  records : List LogRecord := []
  held : List LogRecord := []
  /-- The log sequence number of the next record. -/
  nextSeq : Nat := 0
  overwritten : Nat := 0
  /-- The boot count has been raised in this boot (R509, R529). -/
  booted : Bool := false
  deriving DecidableEq, Repr

/-- What the device sends or answers, in order. -/
inductive Out where
  /-- The answer to a dictionary request: 0 for success, or the abort code, and the value read. -/
  | answer (abort : Nat) (value : Bytes)
  /-- A datagram of the Itdar transport: session, opcode, flags, sequence, request id, payload, tag. -/
  | datagram (session opcode flags seq reqId : Nat) (payload tag : Bytes)
  /-- A stream datagram (R452, R453): session, slot, kind, sequence, queue, payload, tag, and the address and the UDP port that it
  goes to. -/
  | stream (session slot kind seq queue : Nat) (payload tag dest : Bytes) (port : Nat)
  /-- A USDO response on CAN0, with its CAN identifier (R454). -/
  | usdo (ident abort : Nat) (payload : Bytes)
  /-- What a NET link answers to an ARP request or a neighbour solicitation, its MAC address, or to an echo request, its payload
  (R445). -/
  | neighbour (net : Nat) (target : Bytes) (mac : Nat)
  | echo (net : Nat) (payload : Bytes)
  /-- A heartbeat on CAN0: identifier and state byte. -/
  | heartbeat (ident state : Nat)
  /-- What a zone receives on its time port or the response lines of a queue port. -/
  | fabric (zone : Nat) (value : Nat)
  /-- Whether a port schedule accepts an entry of the fabric; one that it holds back gets no answer yet (R397). -/
  | schedule (port : Nat) (accepted : Bool)
  /-- What the fabric reads through a port of a block, and the error output of the port (R381, R382). -/
  | blockRead (zone block : Nat) (portB : Bool) (index value : Nat) (error : Bool)
  /-- What a zone takes from one of its taps (R399). -/
  | tapOutput (zone tap : Nat) (item : TapItem)
  /-- The register the test-access port selects. -/
  | tap (value : Nat)
  deriving DecidableEq, Repr

/-! ## The machine -/

/-- The whole device. -/
structure State where
  /-- The commands that wait, first in, first out. -/
  pending : List Instr
  /-- The tk counter (R329). -/
  now : Tk
  mode : Mode
  /-- Object values by key: index x 256 + subindex, plus (accessor + 1) x 2^24 for objects that each session or core
  has of its own. -/
  objs : Table (Option Int)
  /-- DOMAIN contents by the same key. -/
  blobs : Table Bytes
  /-- Local memories, waveform memory and zone block memories. -/
  mem : List Host.Cell
  /-- The bits that upsets have flipped in words of memory with ECC since the word was written, by the word's address
  (R261, R382). -/
  flips : Table (BitVec 32)
  ports : Table PortCell
  pins : Table PinCell
  convs : Table Converter
  chains : Table Chain
  map : Map
  disp : Dispatcher
  sweeps : Table Sweep
  busSources : Table BusSource
  cans : Table CanEngine
  lins : Table LinEngine
  sents : Table SentUnit
  gov : Governor
  cores : Table Core
  sources : Table Source
  timebase : Timebase
  trigOuts : Table TrigOut
  queues : Table (Option Queue)
  pantry : Pantry
  streams : Table (Option Stream)
  zones : Table Zone
  loader : Loader
  /-- Configuration frames by address, 1,024 bytes each, and the three Loft copies of each signature. -/
  frames : Table Bytes
  loft : Table (List (Option (BitVec 32)))
  keys : KeyStore
  scrub : Scrubber
  sessions : Table Session
  links : Links
  /-- Holder of each claimed resource, by class x 2^20 + number. -/
  claims : Table (Option Nat)
  cycle : Cycle
  /-- Consecutive failures and lockout end of each host key slot (R460). -/
  keyFailures : Table Nat
  keyLockouts : Table (Option Tk)
  cellar : Cellar
  cal : Calibration
  power : Power
  log : Log
  /-- What the device has sent, oldest first: the model's own record of its outputs. -/
  outbox : List Out
  /-- The model's own counter of the free values it has used. -/
  fresh : Nat
  deriving DecidableEq, Repr

/-- Why the machine stops with a fault. -/
inductive Fault where
  /-- Raised by VIO_CHANGE: VIO moved from one band to the other without first falling below 1.2 V, which R535 puts
  outside the operating conditions and for which it gives no effect. Safe: the hardware goes on in some way that the
  spec does not state. -/
  | vioBandSkipped
  deriving DecidableEq, Repr

/-- Why a command has no meaning here. -/
inductive Refusal where
  /-- The command has no meaning in this model yet. Safe. -/
  | notModelled (mnemonic : String)
  deriving DecidableEq, Repr

/-- The machine right after a power-on reset: in WAKE (R512), the tk counter at 0 (R326), no function ready (R508), no
session, no claim, no queue, every object at its default (R8), every memory unlisted. -/
def State.reset : State where
  pending := []
  now := 0
  mode := .wake
  objs := []
  blobs := []
  mem := []
  flips := []
  ports := []
  pins := []
  convs := []
  chains := []
  map := {}
  disp := {}
  sweeps := []
  busSources := []
  cans := []
  lins := []
  sents := []
  gov := {}
  cores := []
  sources := []
  timebase := {}
  trigOuts := []
  queues := []
  pantry := {}
  streams := []
  zones := []
  loader := {}
  frames := []
  loft := []
  keys := {}
  scrub := {}
  sessions := []
  links := {}
  claims := []
  cycle := {}
  keyFailures := []
  keyLockouts := []
  cellar := {}
  cal := {}
  power := {}
  log := {}
  outbox := []
  fresh := 0

end Sys2Proof.Machine
end

