-- ==== Sys2Proof/Machine/Ops.lean ====
section
/-!
DEFINITION. The named operations over the state that every family shares: tables, the object store, memory, time, the
units, claims and answers.
-/

namespace Sys2Proof

/-! ## What a zone image declares (R385, R396, R398) -/

/-- The request lane of a channel, as this zone sees it. -/
def ChannelDecl.requestLane (c : ChannelDecl) : LaneRef :=
  { side := c.side, lane := c.request, role := if c.receives then .inRequest else .outRequest }

/-- The acknowledge lane of a channel, as this zone sees it. -/
def ChannelDecl.acknowledgeLane (c : ChannelDecl) : LaneRef :=
  { side := c.side, lane := c.acknowledge, role := if c.receives then .outAcknowledge else .inAcknowledge }

/-- The lanes of a channel. -/
def ChannelDecl.lanes (c : ChannelDecl) : List LaneRef :=
  c.requestLane :: c.acknowledgeLane ::
    c.data.map fun k => { side := c.side, lane := k, role := if c.receives then .inData else .outData }

/-- The ports of a mask. -/
def ZoneDecl.portMask (d : ZoneDecl) : List PortNo := d.ports.filterMap fun p => if h : p < 256 then some ⟨p, h⟩ else none

/-- The service pins that an image declares. -/
def ZoneDecl.pins (d : ZoneDecl) : List PinNo := d.sioPins.filterMap fun n => if h : n < 32 then some ⟨n, h⟩ else none

/-- The border lanes that an image declares, those of its channels. -/
def ZoneDecl.lanes (d : ZoneDecl) : List LaneRef := d.channels.flatMap ChannelDecl.lanes

end Sys2Proof

namespace Sys2Proof.Machine

/-! ## Tables -/

/-- The entry of a key; `d` where the key is not listed. -/
def Table.get {α : Type} (d : α) : Table α → Nat → α
  | [], _ => d
  | (j, v) :: t, k => if j = k then v else Table.get d t k

/-- The table without a key. -/
def Table.drop {α : Type} (t : Table α) (k : Nat) : Table α := t.filter fun p => p.1 != k

/-- The table with a key entered in its place. -/
def Table.put {α : Type} : Table α → Nat → α → Table α
  | [], k, v => [(k, v)]
  | (j, w) :: t, k, v =>
    if k < j then (k, v) :: (j, w) :: t else if k = j then (k, v) :: t else (j, w) :: Table.put t k v

/-- The table after a write: a value equal to what an unlisted key holds takes the key out. -/
def Table.set {α : Type} [DecidableEq α] (d : α) (t : Table α) (k : Nat) (v : α) : Table α :=
  if v = d then t.drop k else t.put k v

/-- The canonical form: keys strictly rising, no entry equal to what an unlisted key holds. -/
def Table.wf {α : Type} [DecidableEq α] (d : α) : Table α → Bool
  | [] => true
  | [(_, v)] => v != d
  | (j, v) :: (k, w) :: t => v != d && decide (j < k) && Table.wf d ((k, w) :: t)

/-! ## Memory

Every memory is one list of bytes; an unlisted byte reads as 0 (log entry 7). -/

/-- Where the local memory of core `n` begins (R259). -/
def localBase (n : Nat) : Nat := n * 0x100000
/-- Where the waveform memory begins. -/
def waveBase : Nat := 0x10000000
/-- Where the block memory of zone `z` begins. -/
def zoneBase (z : Nat) : Nat := 0x20000000 + z * 0x180000

/-- One byte of memory. -/
def State.readByte (s : State) (a : Nat) : Byte := Table.get 0#8 s.mem a

/-- A write of one byte. -/
def State.writeByte (s : State) (a : Nat) (b : Byte) : State := { s with mem := Table.set 0#8 s.mem a b }

/-- `n` bytes from an address. -/
def State.readBytes (s : State) (a n : Nat) : Bytes := (List.range n).map fun i => s.readByte (a + i)

/-- A write of bytes at ascending addresses. -/
def memWrite (m : List Host.Cell) : Nat → Bytes → List Host.Cell
  | _, [] => m
  | a, b :: bs => memWrite (Table.set 0#8 m a b) (a + 1) bs

/-- A write of bytes at ascending addresses. -/
def State.writeBytes (s : State) (a : Nat) (bs : Bytes) : State := { s with mem := memWrite s.mem a bs }

/-- The canonical form of memory. -/
def Memory.wf (m : List Host.Cell) : Bool := Table.wf 0#8 m

/-- Memory with the bytes of a range reading as 0. -/
def State.clearBytes (s : State) (a n : Nat) : State :=
  { s with mem := s.mem.filter fun c => !(decide (a ≤ c.1) && decide (c.1 < a + n)) }

/-! ## Words with ECC (R261, R382)

Memory holds each word as it was written; `flips` holds the bits in which the word stored differs from it. A word with one
flipped bit is read as it was written, a word with more as it is stored (log entry 104). -/

/-- How many bits of a word are 1. -/
def ones (v : Word) : Nat := ((List.range 32).filter fun i => v.getLsbD i).length

/-- The words with a flipped bit that hold a byte of a range. -/
def State.flippedIn (s : State) (a n : Nat) : Table Word :=
  s.flips.filter fun x => decide (a < x.1 + 4) && decide (x.1 < a + n)

/-- The first word of a range that ECC cannot correct. -/
def State.uncorrectable (s : State) (a n : Nat) : Option Nat :=
  ((s.flippedIn a n).find? fun x => decide (1 < ones x.2)).map (·.1)

/-- One byte as a read through ECC returns it. -/
def State.eccByte (s : State) (a : Nat) : Byte :=
  let v := Table.get 0#32 s.flips (a - a % 4)
  s.readByte a ^^^ (if 1 < ones v then (v >>> (8 * (a % 4))).setWidth 8 else 0#8)

/-- Bytes as a read through ECC returns them. -/
def State.eccBytes (s : State) (a n : Nat) : Bytes :=
  if (s.uncorrectable a n).isNone then s.readBytes a n else (List.range n).map fun i => s.eccByte (a + i)

/-- The flipped bits of a word that remain once the bytes of a range have been written. -/
def flipsKept (w : Nat) (v : Word) (a n : Nat) : Word :=
  (List.range 4).foldl (fun v i => if a ≤ w + i ∧ w + i < a + n then v &&& ~~~(0xFF#32 <<< (8 * i)) else v) v

/-- A range of memory with ECC has been written: its bytes hold no flipped bit any more. -/
def State.freshWords (s : State) (a n : Nat) : State :=
  { s with flips := s.flips.filterMap fun x =>
      let v := flipsKept x.1 x.2 a n
      if v = 0#32 then none else some (x.1, v) }

/-- A write of bytes to memory with ECC. -/
def State.eccWrite (s : State) (a : Nat) (bs : Bytes) : State := (s.writeBytes a bs).freshWords a bs.length

/-- Memory with ECC whose bytes of a range read as 0. -/
def State.eccClear (s : State) (a n : Nat) : State := (s.clearBytes a n).freshWords a n

/-- Whether an address names a word of a local memory or a block memory (R261, R382). -/
def eccWord (a : Nat) : Bool :=
  a % 4 == 0 && (decide (a < 0x800000) || decide (zoneBase 0 ≤ a) && decide (a < zoneBase 16))

/-- An upset flips bits of a word (log entry 104). -/
def State.upset (s : State) (x : Nat × Word) : State :=
  if eccWord x.1 then { s with flips := Table.set 0#32 s.flips x.1 (Table.get 0#32 s.flips x.1 ^^^ x.2) } else s

/-! ## Time -/

/-- Ticks in a microsecond, a millisecond and a second (R2). -/
def tkUs : Nat := 4000
/-- Ticks in a millisecond. -/
def tkMs : Nat := 4000000
/-- Ticks in a second. -/
def tkS : Nat := 4000000000

/-- Time passes to the instant of a command; the counter never steps backward (R326, R329). -/
def State.advance (s : State) (t : Tk) : State := { s with now := max s.now t }

/-! ## Objects -/

/-- The key of an object. -/
def objKey (idx sub : Nat) : Nat := idx * 256 + sub

/-- The number of an accessor: sessions 0 to 7, then cores. -/
def accNum : Accessor → Nat
  | .session n => n
  | .core n => 8 + n

/-- The key of an object that each session or core has of its own (R343, R324, R372). -/
def ownKey (a idx sub : Nat) : Nat := objKey idx sub + (a + 1) * 2 ^ 24

/-- The default of a key (R8). -/
def keyDefault (k : Nat) : Int := cardDefault (k / 256 % 65536) (k % 256)

/-- The value under a key. -/
def State.objAt (s : State) (k : Nat) : Int := (Table.get none s.objs k).getD (keyDefault k)

/-- A value under a key replaced. -/
def State.setObjAt (s : State) (k : Nat) (v : Int) : State :=
  { s with objs := Table.set none s.objs k (if v = keyDefault k then none else some v) }

/-- The value of an object. -/
def State.obj (s : State) (idx sub : Nat) : Int := s.objAt (objKey idx sub)

/-- The value of an unsigned object. -/
def State.objN (s : State) (idx sub : Nat) : Nat := (s.obj idx sub).toNat

/-- An object takes a value. -/
def State.setObj (s : State) (idx sub : Nat) (v : Int) : State := s.setObjAt (objKey idx sub) v

/-- A counter object of 32 bits rises and wraps. -/
def State.countUp (s : State) (idx sub : Nat) (d : Nat := 1) : State :=
  s.setObj idx sub (addWrap 32 (s.objN idx sub) d)

/-- An object that each session or core has of its own. -/
def State.own (s : State) (a idx sub : Nat) : Nat := (s.objAt (ownKey a idx sub)).toNat

/-- Such an object takes a value. -/
def State.setOwn (s : State) (a idx sub v : Nat) : State := s.setObjAt (ownKey a idx sub) v

/-- The objects of an index for which `p` holds return to their defaults. -/
def State.resetObjs (s : State) (idx : Nat) (p : Nat → Bool) : State :=
  { s with objs := s.objs.filter fun o => !(o.1 / 256 == idx && p (o.1 % 256)) }

/-- Whether a subindex of an index has access claim. -/
def isClaimSub (idx sub : Nat) : Bool :=
  match cardOf idx sub with
  | some c => c.acc == .claim
  | none => false

/-- Every claim subindex of an index returns to its default. -/
def State.resetClaimObjs (s : State) (idx : Nat) : State := s.resetObjs idx (isClaimSub idx)

/-- The content of a DOMAIN. -/
def State.blob (s : State) (idx sub : Nat) : Bytes := Table.get [] s.blobs (objKey idx sub)

/-- A DOMAIN takes a content. -/
def State.setBlob (s : State) (idx sub : Nat) (bs : Bytes) : State :=
  { s with blobs := Table.set [] s.blobs (objKey idx sub) bs }

/-! ## Units -/

/-- The cell of a port. -/
def State.port (s : State) (p : Nat) : PortCell := Table.get {} s.ports p
/-- A port cell replaced. -/
def State.setPort (s : State) (p : Nat) (c : PortCell) : State := { s with ports := Table.set {} s.ports p c }
/-- The cell of a service pin. -/
def State.pin (s : State) (n : Nat) : PinCell := Table.get {} s.pins n
/-- A pin cell replaced. -/
def State.setPin (s : State) (n : Nat) (c : PinCell) : State := { s with pins := Table.set {} s.pins n c }
/-- A converter. -/
def State.conv (s : State) (q : Nat) : Converter := Table.get {} s.convs q
/-- A converter replaced. -/
def State.setConv (s : State) (q : Nat) (c : Converter) : State := { s with convs := Table.set {} s.convs q c }
/-- A chain. -/
def State.chain (s : State) (n : Nat) : Chain := Table.get {} s.chains n
/-- A chain replaced. -/
def State.setChain (s : State) (n : Nat) (c : Chain) : State := { s with chains := Table.set {} s.chains n c }
/-- A sweeper channel. -/
def State.sweep (s : State) (m : Nat) : Sweep := Table.get {} s.sweeps m
/-- A sweeper channel replaced. -/
def State.setSweep (s : State) (m : Nat) (c : Sweep) : State := { s with sweeps := Table.set {} s.sweeps m c }
/-- A bus source. -/
def State.busSource (s : State) (n : Nat) : BusSource := Table.get {} s.busSources n
/-- A bus source replaced. -/
def State.setBusSource (s : State) (n : Nat) (c : BusSource) : State :=
  { s with busSources := Table.set {} s.busSources n c }
/-- A CAN FD engine. -/
def State.can (s : State) (e : Nat) : CanEngine := Table.get {} s.cans e
/-- A CAN FD engine replaced. -/
def State.setCan (s : State) (e : Nat) (c : CanEngine) : State := { s with cans := Table.set {} s.cans e c }
/-- A LIN engine. -/
def State.lin (s : State) (l : Nat) : LinEngine := Table.get {} s.lins l
/-- A LIN engine replaced. -/
def State.setLin (s : State) (l : Nat) (c : LinEngine) : State := { s with lins := Table.set {} s.lins l c }
/-- A SENT receiver. -/
def State.sent (s : State) (r : Nat) : SentUnit := Table.get {} s.sents r
/-- A SENT receiver replaced. -/
def State.setSent (s : State) (r : Nat) (c : SentUnit) : State := { s with sents := Table.set {} s.sents r c }
/-- A step core. -/
def State.core (s : State) (n : Nat) : Core := Table.get {} s.cores n
/-- A step core replaced. -/
def State.setCore (s : State) (n : Nat) (c : Core) : State := { s with cores := Table.set {} s.cores n c }
/-- An event source. -/
def State.source (s : State) (n : Nat) : Source := Table.get {} s.sources n
/-- An event source replaced. -/
def State.setSource (s : State) (n : Nat) (c : Source) : State := { s with sources := Table.set {} s.sources n c }
/-- A trigger output. -/
def State.trigOut (s : State) (o : Nat) : TrigOut := Table.get {} s.trigOuts o
/-- A trigger output replaced. -/
def State.setTrigOut (s : State) (o : Nat) (c : TrigOut) : State :=
  { s with trigOuts := Table.set {} s.trigOuts o c }
/-- A queue, if it exists. -/
def State.queue (s : State) (q : Nat) : Option Queue := Table.get none s.queues q
/-- A queue replaced, created or deleted. -/
def State.setQueue (s : State) (q : Nat) (c : Option Queue) : State :=
  { s with queues := Table.set none s.queues q c }
/-- The stream of a slot of a session. -/
def State.stream (s : State) (n k : Nat) : Option Stream := Table.get none s.streams (n * 8 + k)
/-- A stream replaced, opened or closed. -/
def State.setStream (s : State) (n k : Nat) (c : Option Stream) : State :=
  { s with streams := Table.set none s.streams (n * 8 + k) c }
/-- A zone. -/
def State.zone (s : State) (z : Nat) : Zone := Table.get {} s.zones z
/-- A zone replaced. -/
def State.setZone (s : State) (z : Nat) (c : Zone) : State := { s with zones := Table.set {} s.zones z c }
/-- A session. -/
def State.session (s : State) (n : Nat) : Session := Table.get {} s.sessions n
/-- A session replaced. -/
def State.setSession (s : State) (n : Nat) (c : Session) : State :=
  { s with sessions := Table.set {} s.sessions n c }
/-- A step of the running plan. -/
def State.step (s : State) (k : Nat) : StepRec := Table.get {} s.disp.steps k
/-- A step record replaced. -/
def State.setStep (s : State) (k : Nat) (r : StepRec) : State :=
  { s with disp := { s.disp with steps := Table.set {} s.disp.steps k r } }
/-- The calibration run of a die. -/
def State.calRun (s : State) (d : Nat) : CalRun := Table.get {} s.cal.runs d
/-- A calibration run replaced. -/
def State.setCalRun (s : State) (d : Nat) (r : CalRun) : State :=
  { s with cal := { s.cal with runs := Table.set {} s.cal.runs d r } }
/-- The figures of a circuit: port number, or 256 + converter. -/
def State.calFigure (s : State) (i : Nat) : CalFigure := Table.get {} s.cal.figures i
/-- The figures of a circuit replaced. -/
def State.setCalFigure (s : State) (i : Nat) (f : CalFigure) : State :=
  { s with cal := { s.cal with figures := Table.set {} s.cal.figures i f } }

/-- The value object under a key holds a newer result: snapshots of it are stale (R126). -/
def State.staleSnaps (s : State) (k : Nat) : State :=
  { s with cores := s.cores.map fun x =>
      (x.1, { x.2 with laneSnaps := x.2.laneSnaps.map fun y =>
        (y.1, if y.1 = k then y.2.map fun z => (true, z.2) else y.2) }) }

/-- Whether the links and borders of a zone are live: Running, or Draining before its clamp instant (R387, R390). -/
def Zone.live (z : Zone) : Bool := z.stage == .running || (z.stage == .draining && z.clampedAt.isNone)
/-- Whether the fabric of a zone acts: SAVE stops it at once (R403). -/
def State.zoneLive (s : State) (z : Nat) : Bool := (s.zone z).live && s.mode != .save

/-- Whether the device is dark without VSUP. -/
def State.unsupplied (s : State) : Bool := (s.mode == .off || s.mode == .keep) && !s.power.vsupGood

/-- An operation applied to each number of a list in turn. -/
def State.each (s : State) (l : List Nat) (f : State → Nat → State) : State := l.foldl f s

/-! ## Claims (R465) -/

/-- The key of a claimed resource. -/
def claimKey (cls n : Nat) : Nat := cls * 2 ^ 20 + n

/-- A resource takes a holder, or none. -/
def State.setHolder (s : State) (cls n : Nat) (h : Option Nat) : State :=
  { s with claims := Table.set none s.claims (claimKey cls n) h }

/-- Class numbers of R465. -/
def clsPort : Nat := 1
/-- Zones. -/
def clsZone : Nat := 2
/-- Queues. -/
def clsQueue : Nat := 3
/-- CAN FD engines. -/
def clsCan : Nat := 4
/-- LIN engines. -/
def clsLin : Nat := 5
/-- SENT receivers. -/
def clsSent : Nat := 6
/-- PWM capture units. -/
def clsPwm : Nat := 7
/-- The net mapper. -/
def clsMapper : Nat := 8
/-- The fixture cycle. -/
def clsCycle : Nat := 9

/-- The event queue of a session (R314). -/
def eventQueue (sess : Nat) : Nat := 0xFFF8 + sess

/-- Whether a queue is a session event queue (R342). -/
def isEventQueue (q : Nat) : Bool := 0xFFF8 ≤ q && q ≤ 0xFFFF

/-- The session that took a claim. -/
def State.claimOf (s : State) (cls n : Nat) : Option Nat := Table.get none s.claims (claimKey cls n)

/-- The session that holds a resource (R23); an open session holds its event queue (R314). -/
def State.holder (s : State) (cls n : Nat) : Option Nat :=
  if cls == clsQueue && isEventQueue n then (if (s.session (n - 0xFFF8)).stage == .open_ then some (n - 0xFFF8) else none)
  else s.claimOf cls n

/-- The session a request belongs to: its own, or the one a step core works for (R275); 255 for none. -/
def State.sessionOf (s : State) : Accessor → Nat
  | .session n => n
  | .core n => (s.core n).sess

/-- The claim refusals of R24, for one resource. -/
def State.claimAbort (s : State) (who cls n : Nat) : Option Nat :=
  match s.holder cls n with
  | some h => if h = who then none else some 0x0F010101
  | none => some 0x0F010102

/-- The refusal for the first resource of a list that the session does not hold. DESIGN CHOICE (log entry 135): the list is
asked from its front, the four ports of a quad from the lowest, where the spec gives no order (R24, R71). -/
def State.claimsAbort (s : State) (who : Nat) (l : List (Nat × Nat)) : Option Nat :=
  l.findSome? fun r => s.claimAbort who r.1 r.2

/-- Whether a fixture cycle is bound (R25). -/
def State.bound (s : State) : Bool := s.cycle.boundBy.isSome

/-! ## Answers -/

/-- What the device sends, appended to its record. -/
def State.send (s : State) (o : Out) : State := { s with outbox := s.outbox ++ [o] }

/-- A refusal: its abort code, and the state it leaves where it leaves more than nothing (a count, a failed stream). -/
structure Refused where
  code : Nat
  after : Option State

/-- The outcome of a request: the new state, or its refusal (R442). -/
abbrev Res := Except Refused State

/-- A check of a request. -/
abbrev Check := Except Refused Unit

/-- A refusal that changes nothing. -/
def refuse {α : Type} (code : Nat) : Except Refused α := .error { code := code, after := none }

/-- A refusal that leaves a trace. -/
def refuseAfter {α : Type} (code : Nat) (s : State) : Except Refused α := .error { code := code, after := some s }

/-- A request accepted in SAFE clears the advance flag (R510); `s` is the state at its acceptance. -/
def State.accepted (s t : State) : State :=
  if s.mode == .safe then { t with power := { t.power with advance := false } } else t

/-- The requests whose answers are still owed: stream data whose records are processed, and host writes that wait for their
Cellar transaction (R416, R450, R482). -/
def State.owedReplies (s : State) : List ReplyTo :=
  s.loader.owed.toList ++ (s.cellar.open_.toList ++ s.cellar.waiting).filterMap Txn.reply

/-- Whether the request that has turned `s` into `t` is answered later. -/
def State.owes (s t : State) : Bool := decide (s.owedReplies.length < t.owedReplies.length)

/-- The answer that the newest transaction owes, addressed. -/
def Cellar.addressed (c : Cellar) (r : Option ReplyTo) : Cellar :=
  match c.waiting.getLast? with
  | some x => { c with waiting := c.waiting.dropLast ++ [{ x with reply := r }] }
  | none => { c with open_ := c.open_.map fun x => { x with reply := r } }

/-- The state `t` that a request has left, with the answer it owes addressed. -/
def State.owedTo (s t : State) (r : Option ReplyTo) : State :=
  if s.loader.owed.isNone && t.loader.owed.isSome then { t with loader := { t.loader with owed := r } }
  else { t with cellar := t.cellar.addressed r }

/-- A request in the plain interface ends: its effect and an answer of success, now or later, or its refusal (R442,
R450); `who` is its session. -/
def State.finished (s : State) (who : Nat) : Res → State
  | .ok t => if s.owes t then s.owedTo (s.accepted t) (some (.plain who)) else (s.accepted t).send (.answer 0 [])
  | .error r => (r.after.getD s).send (.answer r.code [])

/-- A request whose end is `finished` completes. -/
def State.finish (s : State) (who : Nat) (r : Res) : Host.Outcome State Fault Refusal := .next (s.finished who r)

/-- The session of a request whose answer is owed. -/
def ReplyTo.session : ReplyTo → Nat
  | .plain n => n
  | .datagram n _ _ => n
  | .usdo => 0

/-- Whether a request of a session is still executing (R450, R462). -/
def State.executing (s : State) (n : Nat) : Bool := s.owedReplies.any fun r => r.session == n

/-- A request waits behind one of its session (R449). -/
def State.holdsBack (s : State) (n : Nat) (w : Waiting) : State :=
  s.setSession n { s.session n with waiting := (s.session n).waiting ++ [w] }

/-- Whether the instant of the unbind at an entry to HOLD has come (R469). -/
def State.unbindPassed (s : State) : Bool :=
  match s.cycle.unbindAt with
  | some e => decide (e ≤ s.now)
  | none => false

/-- The refusal when a condition holds. -/
def refuseIf (c : Bool) (code : Nat) : Check := if c then refuse code else .ok ()

/-- The refusal that an optional code names. -/
def refuseWith : Option Nat → Check
  | some c => refuse c
  | none => .ok ()

/-! ## Modes and readiness -/

/-- The codes of the modes (R21). -/
def Mode.code : Mode → Nat
  | .off => 0 | .keep => 1 | .wake => 2 | .safe => 3 | .load => 4 | .idle => 5 | .run => 6 | .throttle => 7
  | .calibrate => 8 | .quiesce => 9 | .hold => 10 | .save => 11

/-- The modes in which the device answers requests (R21, R513). -/
def Mode.serves : Mode → Bool
  | .off | .keep | .wake | .save => false
  | _ => true

/-- SAFE or LOAD. -/
def Mode.early : Mode → Bool
  | .safe | .load => true
  | _ => false

/-- The actual VCORE in mV, which slews at 1 mV per microsecond (R247). -/
def State.vcore (s : State) : Nat :=
  let target := s.objN 0x2201 3
  let d := (s.now - s.gov.vcoreSince) / tkUs
  if s.gov.vcoreFrom ≤ target then min target (s.gov.vcoreFrom + d) else max target (s.gov.vcoreFrom - d)

/-- The readiness word (R508). -/
def State.ready (s : State) (bit : Nat) : Bool := bitOf (s.objN 0x2001 1) bit

/-- A free value: the number of the next use of the model's opaque constants. -/
def State.nextFresh (s : State) : State := { s with fresh := s.fresh + 1 }

end Sys2Proof.Machine
end

