-- ==== Sys2Proof/Machine/Log.lean ====
section
/-!
DEFINITION. The log (R527 to R529): writing a record, holding it until the log is ready, and reading the ring.
-/

namespace Sys2Proof.Machine

/-- The greatest number of records in the ring (R527). -/
def logSize : Nat := 30720

/-- Whether record `a` stands at or before `b` among the records of one boot (R529). -/
def logLe (a b : LogRecord) : Bool :=
  a.boot < b.boot || (a.boot == b.boot && (a.stamp < b.stamp || (a.stamp == b.stamp &&
    (a.tag < b.tag || (a.tag == b.tag && a.kind ≤ b.kind)))))

/-- A record put in its place, the newest first. -/
def logInsert (r : LogRecord) : List LogRecord → List LogRecord
  | [] => [r]
  | x :: xs => if logLe x r then r :: x :: xs else x :: logInsert r xs

/-- A record enters the ring, marked when it is the first of its boot (R527); the oldest is overwritten when the ring is
full (R529). -/
def Log.append (l : Log) (r : LogRecord) : Log :=
  let r := if l.records.any fun x => x.boot == r.boot then r else { r with flags := r.flags + 2 }
  let rs := (logInsert r l.records.reverse).reverse
  if rs.length > logSize then
    { l with records := rs.drop 1, nextSeq := addWrap 32 l.nextSeq 1, overwritten := addWrap 32 l.overwritten 1 }
  else { l with records := rs, nextSeq := addWrap 32 l.nextSeq 1 }

/-- Whether the log takes records now: its bit is set and the boot count has been raised (R529). -/
def State.logReady (s : State) : Bool := s.ready 8 && s.log.booted

/-- Whether the Cellar has failed (R486). -/
def State.cellarFailed (s : State) : Bool := s.cellar.stage == 5

/-- A log record arises: it is written, held until the log is ready, or lost and counted (R529). -/
def State.logRec (s : State) (stamp tag kind : Nat) (detail : Bytes) : State :=
  let r : LogRecord := { stamp := stamp, tag := tag, kind := kind, flags := bnat (s.mode == .save),
                         boot := s.objN 0x2000 0x0C, detail := (detail ++ zeroBytes 8).take 8 }
  if s.cellarFailed then s.countUp 0x5000 7
  else if s.logReady then { s with log := s.log.append r }
  else if s.log.held.length < 32 then { s with log := { s.log with held := s.log.held ++ [r] } }
  else s.countUp 0x5000 7

/-- The records that SC0 held are written, with the boot count of this boot, or are lost with a failed Cellar (R529). -/
def State.flushLog (s : State) : State :=
  if !s.logReady then s
  else if s.cellarFailed then
    s.log.held.foldl (fun s _ => s.countUp 0x5000 7) { s with log := { s.log with held := [] } }
  else
    let boot := s.objN 0x2000 0x0C
    { s with log := { s.log.held.foldl (fun l r => l.append { r with boot := boot }) s.log with held := [] } }

/-- A record as its 32 bytes, with the sequence number it has in the ring (R527). -/
def LogRecord.bytes (r : LogRecord) (seq : Nat) : Bytes :=
  let b := natLe 8 r.stamp ++ natLe 2 r.tag ++ natLe 1 r.kind ++ natLe 1 r.flags ++ natLe 4 seq ++ natLe 4 r.boot ++
    (r.detail ++ zeroBytes 8).take 8
  b ++ natLe 4 (crc32c b).toNat

/-- The sequence number of the oldest record. -/
def Log.oldest (l : Log) : Nat := (l.nextSeq + 2 ^ 32 - l.records.length) % 2 ^ 32

/-- Up to 32 records from a sequence number on that are still held (0x5000:05). -/
def Log.readFrom (l : Log) (seq : Nat) : Bytes :=
  let d := (seq + 2 ^ 32 - l.oldest) % 2 ^ 32
  let skip := if d ≤ l.records.length then d else if d < 2 ^ 31 then l.records.length else 0
  let rs := (l.records.drop skip).take 32
  (rs.zipIdx).flatMap fun x => LogRecord.bytes x.1 ((l.oldest + skip + x.2) % 2 ^ 32)

end Sys2Proof.Machine
end

