-- ==== Sys2Proof/Machine/Events.lean ====
section
/-!
DEFINITION. What a happening sets off: the cause bits of a block (R129), the edges and the level of its event source
(R299), the arrivals at the event controller (R300 to R305), and the converter triggers (R113, R114), trigger outputs
(R337) and wait steps (R203) that take the same edges.
-/

namespace Sys2Proof.Machine

/-! ## Blocks and their sources -/

/-- The subindexes of the event select and event causes of a block object (R129 and the cards). -/
def blockSubs (idx : Nat) : Option (Nat × Nat) :=
  if 0x3200 ≤ idx && idx ≤ 0x3247 then some (0x19, 0x1A)
  else if 0x3300 ≤ idx && idx ≤ 0x3347 then some (0x1E, 0x1F)
  else if 0x2720 ≤ idx && idx ≤ 0x272F then some (0x19, 0x1A)
  else if idx == 0x3400 then some (0x18, 0x19)
  else if 0x3520 ≤ idx && idx ≤ 0x3523 then some (0x05, 0x06)
  else if 0x3600 ≤ idx && idx ≤ 0x3603 then some (0x0A, 0x0B)
  else if 0x3610 ≤ idx && idx ≤ 0x3617 then some (0x09, 0x0A)
  else if 0x3618 ≤ idx && idx ≤ 0x361F then some (0x07, 0x08)
  else if 0x3620 ≤ idx && idx ≤ 0x3627 then some (0x06, 0x07)
  else if idx == 0x3500 then some (0x06, 0x07)
  else if idx == 0x2200 then some (0x0B, 0x0C)
  else if idx == 0x2600 then some (0x0D, 0x0E)
  else if idx == 0x2610 then some (0x09, 0x0A)
  else if idx == 0x2700 then some (0x0A, 0x0B)
  else if idx == 0x2702 then some (0x11, 0x12)
  else if idx == 0x2100 then some (0x05, 0x06)
  else if idx == 0x2300 then some (0x0B, 0x0C)
  else if idx == 0x2800 then some (0x0E, 0x0F)
  else if idx == 0x2000 then some (0x0D, 0x0E)
  else none

/-- The event source that a cause bit of a block drives (R298). -/
def blockSource (idx bit : Nat) : Nat :=
  if 0x3200 ≤ idx && idx ≤ 0x3247 then 256 + (idx - 0x3200)
  else if 0x3300 ≤ idx && idx ≤ 0x3347 then 256 + (idx - 0x3300)
  else if 0x2720 ≤ idx && idx ≤ 0x272F then 328 + (idx - 0x2720)
  else if 0x3600 ≤ idx && idx ≤ 0x3603 then 440 + (idx - 0x3600)
  else if 0x3610 ≤ idx && idx ≤ 0x3617 then 444
  else if 0x3618 ≤ idx && idx ≤ 0x361F then 445
  else if 0x3620 ≤ idx && idx ≤ 0x3627 then 446
  else if 0x3520 ≤ idx && idx ≤ 0x3523 then 457
  else if idx == 0x3400 then 456
  else if idx == 0x3500 then 448
  else if idx == 0x2200 then 464 + bit
  else if idx == 0x2600 then 480
  else if idx == 0x2610 then 481
  else if idx == 0x2700 then 488
  else if idx == 0x2702 then 489
  else if idx == 0x2100 then 496
  else if idx == 0x2300 then 508
  else if idx == 0x2800 then 509
  else 510

/-- The block objects that share a source (R129, R154, R230), and the cause bits of each that drive it. -/
def sourceBlocks (n : Nat) : List (Nat × Nat) :=
  if 256 ≤ n && n < 328 then [(0x3200 + (n - 256), 0xFFFF), (0x3300 + (n - 256), 0xFFFF)]
  else if 328 ≤ n && n < 344 then [(0x2720 + (n - 328), 0xFFFF)]
  else if 440 ≤ n && n < 444 then [(0x3600 + (n - 440), 0xFFFF)]
  else if n == 444 then (List.range 8).map fun i => (0x3610 + i, 0xFFFF)
  else if n == 445 then (List.range 8).map fun i => (0x3618 + i, 0xFFFF)
  else if n == 446 then (List.range 8).map fun i => (0x3620 + i, 0xFFFF)
  else if n == 448 then [(0x3500, 0xFFFF)]
  else if n == 456 then [(0x3400, 0xFFFF)]
  else if n == 457 then (List.range 4).map fun i => (0x3520 + i, 0xFFFF)
  else if 464 ≤ n && n < 474 then [(0x2200, 2 ^ (n - 464))]
  else if n == 480 then [(0x2600, 0xFFFF)]
  else if n == 481 then [(0x2610, 0xFFFF)]
  else if n == 488 then [(0x2700, 0xFFFF)]
  else if n == 489 then [(0x2702, 0xFFFF)]
  else if n == 496 then [(0x2100, 0xFFFF)]
  else if n == 508 then [(0x2300, 0xFFFF)]
  else if n == 509 then [(0x2800, 0xFFFF)]
  else if n == 510 then [(0x2000, 0xFFFF)]
  else []

/-- The sources that never arrive (R298). -/
def sourceReserved (n : Nat) : Bool :=
  n == 447 || (449 ≤ n && n ≤ 455) || (458 ≤ n && n ≤ 463) || (474 ≤ n && n ≤ 479) || (482 ≤ n && n ≤ 487) ||
  (490 ≤ n && n ≤ 495) || (497 ≤ n && n ≤ 507) || 511 ≤ n

/-- The level of a block source: any cause bit that is both set and selected (R299). -/
def State.blockLevel (s : State) (n : Nat) : Bool :=
  (sourceBlocks n).any fun b => match blockSubs b.1 with
    | some (sel, cau) => (s.objN b.1 sel &&& s.objN b.1 cau &&& b.2) != 0
    | none => false

/-! ## Configuration of a source -/

/-- The configuration word of a source (R322). -/
def State.sourceConfig (s : State) (n : Nat) : Nat := s.objN (0x2410 + n / 128) (n % 128 + 1)

/-- Its sensing (R300). -/
def sensing (cfg : Nat) : Nat := fieldOf cfg 0 2

/-- Whether a session subscribes to a source (R315). -/
def State.subscribed (s : State) (n sess : Nat) : Bool := bitOf (s.own sess 0x2401 (0x10 + n / 32)) (n % 32)

/-- The targets of a source: 1 to 7 for SC1 to SC7, 8 to 15 for the session queues, in round-robin order (R307). -/
def State.targets (s : State) (n : Nat) : List Nat :=
  ((List.range 16).filter fun k => k != 0 &&
    (if k < 8 then bitOf (s.sourceConfig n) (8 + k) else s.subscribed n (k - 8)))

/-- Whether the controller counts arrivals now (R318, R321). -/
def State.counting (s : State) : Bool :=
  match s.mode with
  | .idle | .run | .throttle | .calibrate | .quiesce | .hold => true
  | _ => false

/-- Whether a target is idle (R305). -/
def State.targetIdle (s : State) (k : Nat) : Bool :=
  if k < 8 then (s.core k).stage == .waiting
  else match s.queue (0xFFF8 + (k - 8)) with
    | some q => q.entries.isEmpty
    | none => false

/-! ## Arrivals and the due rule -/

/-- Whether a pending source is due by its count or its time (R304). -/
def Source.dueByLimits (src : Source) (cfg now : Nat) : Bool :=
  decide (fieldOf cfg 4 4 ≤ src.pending) || decide (src.first + fieldOf cfg 16 16 * tkUs ≤ now)

/-- The state of a source under R303 to R305; `relax` lets a source that is no longer due return to Pending. -/
def State.settleSource (s : State) (n : Nat) (relax : Bool) : State :=
  let src := s.source n
  let cfg := s.sourceConfig n
  if src.stage == .service then s
  else if src.pending == 0 then s.setSource n { src with stage := .idle }
  else
    let limits := src.dueByLimits cfg s.now
    let idle := (s.targets n).any s.targetIdle
    if limits || idle then
      if src.stage == .due && !relax then s
      else s.setSource n { src with stage := .due, bypass := !limits }
    else if src.stage == .due && !relax then s
    else s.setSource n { src with stage := .pending, bypass := false }

/-- Every pending source is judged again, after a target has become idle (R305). -/
def State.settleSources (s : State) : State :=
  (s.sources.map (·.1)).foldl (fun s n => s.settleSource n false) s

/-- One arrival is counted (R302, R313). -/
def State.arrival (s : State) (n stamp : Nat) : State :=
  let src := s.source n
  if src.pending ≥ 15 then
    let src := { src with arrived := addWrap 32 src.arrived 1, lost := addWrap 32 src.lost 1, lostSince := true }
    (s.setSource n src).countUp 0x2400 6
  else
    let src := { src with arrived := addWrap 32 src.arrived 1, pending := src.pending + 1,
                          first := if src.pending = 0 then stamp else src.first, last := stamp }
    (s.setSource n src).settleSource n false

/-- A level source whose level is 1 counts one arrival when nothing is pending or in service (R300). -/
def State.levelArrival (s : State) (n : Nat) : State :=
  let src := s.source n
  if s.counting && !(s.targets n).isEmpty && sensing (s.sourceConfig n) == 0 && src.level && src.pending == 0 &&
    src.stage != .service && !sourceReserved n then s.arrival n src.risen else s

/-- The controller takes an edge of a source (R300, R301). -/
def State.controllerEdge (s : State) (n stamp : Nat) (rising : Bool) : State :=
  if !s.counting || (s.targets n).isEmpty || sourceReserved n then s
  else match sensing (s.sourceConfig n) with
    | 0 => if rising then s.levelArrival n else s
    | 1 => if rising then s.arrival n stamp else s
    | 2 => if rising then s else s.arrival n stamp
    | _ => s.arrival n stamp

/-- The level of a source changes; a level source that loses it while pending or in service vanishes (R312). -/
def State.setLevel (s : State) (n : Nat) (level : Bool) (stamp : Tk) : State :=
  let src := s.source n
  let vanish := src.level && !level && sensing (s.sourceConfig n) == 0 &&
    (src.pending != 0 || src.stage == .service) && s.counting
  let s' := s.setSource n { src with level := level, vanished := src.vanished || vanish,
                                     risen := if level then max src.risen stamp else src.risen }
  if vanish then s'.countUp 0x2400 5 else s'

/-! ## Triggers -/

/-- A waiting trigger put in canonical order (R114, R333). -/
def insertTrigger (x : Trigger) : List Trigger → List Trigger
  | [] => [x]
  | y :: ys =>
    if x.stamp < y.stamp || (x.stamp == y.stamp && !x.command && y.command) then x :: y :: ys
    else y :: insertTrigger x ys

/-- Something that sets further happenings off. -/
inductive Signal where
  /-- A cause occurs in a block, at an instant. -/
  | cause (idx bit stamp : Nat)
  /-- An edge of a source. -/
  | edge (n stamp : Nat) (rising : Bool)
  /-- A trigger reaches a converter. -/
  | trigger (q stamp : Nat) (command : Bool) (arrived : Nat)
  /-- A request reaches a trigger output. -/
  | request (o stamp : Nat) (command : Bool) (arrived : Nat)
  deriving DecidableEq, Repr

/-- Whether a trigger-source field (R113, R340) takes an edge of a source. -/
def takesEdge (field n : Nat) (rising : Bool) : Bool :=
  fieldOf field 0 9 == n && fieldOf field 12 2 == (if rising then 1 else 2)

/-- Whether trigger outputs take requests now: in every mode from SAFE to HOLD (DEDUCED, log entry 76). -/
def State.timing (s : State) : Bool :=
  match s.mode with
  | .off | .keep | .wake | .save => false
  | _ => true

/-- The modes in which sync events are accepted (R148). -/
def State.syncs (s : State) : Bool :=
  match s.mode with
  | .idle | .run | .throttle | .quiesce => true
  | _ => false

/-- The steps in flight that wait for an edge of a source end (R203). -/
def State.edgeToSteps (s : State) (n stamp : Nat) (rising : Bool) : State :=
  let takes := fun (w : Option Nat) => match w with
    | some w => w % 512 == n && (w / 512 == 2 || (w / 512 == 0) == rising)
    | none => false
  (s.disp.steps.filter fun x => x.2.stage == .inFlight && takes x.2.waitsFor && x.2.done.isNone).foldl
    (fun s x => s.setStep x.1 { x.2 with done := some 0, stoppedAt := max stamp x.2.dispatchedAt }) s

/-- One happening, and what it sets off. -/
def State.signalOnce (s : State) : Signal → State × List Signal
  | .cause idx bit stamp =>
    match blockSubs idx with
    | some (sel, cau) =>
      let s := s.setObj idx cau (putBit (s.objN idx cau) bit true)
      (s, if bitOf (s.objN idx sel) bit then [.edge (blockSource idx bit) stamp true] else [])
    | none => (s, [])
  | .edge n stamp rising =>
    let s := (s.setLevel n rising stamp).controllerEdge n stamp rising
    let s := s.edgeToSteps n stamp rising
    let convs := (List.range 72).filter fun q => s.objN (0x3200 + q) 1 == 2 && takesEdge (s.objN (0x3200 + q) 6) n rising
    let outs := (List.range 4).filter fun o => s.timing && s.objN (0x3700 + 13 + o) 1 == 0x23 &&
      takesEdge (s.objN (0x2310 + o) 1) n rising
    (s, convs.map (fun q => .trigger q stamp false s.now) ++ outs.map (fun o => .request o stamp false s.now))
  | .trigger q stamp command arrived =>
    let c := s.conv q
    let x : Trigger := { stamp := stamp, command := command, arrived := arrived }
    let late := decide (stamp + max (s.objN (0x3200 + q) 7) 400 < arrived)
    if c.triggers.length ≥ 4 then (s.countUp (0x3200 + q) 0x0B, [.cause (0x3200 + q) 3 stamp])
    else
      let s := s.setConv q { c with triggers := insertTrigger x c.triggers }
      if late then (s.countUp (0x3200 + q) 0x17, [.cause (0x3200 + q) 4 arrived]) else (s, [])
  | .request o stamp command arrived =>
    let x := s.trigOut o
    if x.waiting.length ≥ 4 then (s.countUp (0x2310 + o) 7, [.cause 0x2300 3 stamp])
    else (s.setTrigOut o { x with waiting := insertTrigger { stamp := stamp, command := command, arrived := arrived } x.waiting }, [])

/-- A happening with all that it sets off, to a depth of `fuel` (log entry 9). -/
def State.signal : Nat → State → Signal → State
  | 0, s, _ => s
  | fuel + 1, s, x => (s.signalOnce x).2.foldl (State.signal fuel) (s.signalOnce x).1

/-- How deep happenings may set each other off. -/
def signalDepth : Nat := 12

/-- A cause occurs in a block: its bit sets and, when selected, its source shows a rising edge (R129). -/
def State.cause (s : State) (idx bit : Nat) (stamp : Nat) : State := s.signal signalDepth (.cause idx bit stamp)

/-- A source shows an edge. -/
def State.edge (s : State) (n stamp : Nat) (rising : Bool) : State := s.signal signalDepth (.edge n stamp rising)

/-- A source whose level may have changed by a write of its block follows it with one edge (R299). -/
def State.followLevel (s : State) (n : Nat) (stamp : Nat) : State :=
  if (s.source n).level == s.blockLevel n then s else s.edge n stamp (s.blockLevel n)

/-- The sources of a block follow their levels (R299). -/
def State.followBlock (s : State) (idx : Nat) : State :=
  match blockSubs idx with
  | none => s
  | some _ =>
    if idx = 0x2200 then s.each (List.range 10) fun s b => s.followLevel (464 + b) s.now
    else s.followLevel (blockSource idx 0) s.now

/-- A write of a block's event select or event causes (R129, R154, R299). -/
def State.eventWrite (s : State) (idx sub v : Nat) : State :=
  match blockSubs idx with
  | some (sel, cau) =>
    (if sub = sel then s.setObj idx sub v
     else if sub = cau then s.setObj idx sub (clearBits 16 (s.objN idx sub) v) else s).followBlock idx
  | none => s

/-- Every claim subindex of a block returns to its default, and its source follows (R299). -/
def State.resetBlock (s : State) (idx : Nat) : State := (s.resetClaimObjs idx).followBlock idx

/-! ## Reads of memory with ECC (R261, R382) -/

/-- The zone whose block memory holds an address. -/
def zoneOfAddress (a : Nat) : Nat := (a - zoneBase 0) / 0x180000

/-- What a read of a range leaves behind: a word with one flipped bit is corrected, written back and counted; an
uncorrectable word of a zone's block memory counts as a data error of the zone (R261, R382). -/
def State.afterRead (s : State) (a n : Nat) : State :=
  let hit := s.flippedIn a n
  if hit.isEmpty then s
  else
    let fixed := hit.filter fun x => decide (ones x.2 = 1)
    let lost := hit.length - fixed.length
    let t := { s with flips := s.flips.filter fun x => !fixed.contains x }
    let t := if fixed.isEmpty then t else if a < waveBase then t.countUp 0x2500 3 fixed.length else t.countUp 0x2710 4 fixed.length
    if a < zoneBase 0 || lost == 0 then t
    else (t.countUp (0x2720 + zoneOfAddress a) 0x15 lost).cause (0x2720 + zoneOfAddress a) 2 t.now

/-- The SYNC schedule without the edges whose instant has passed where none is scheduled (R336). -/
def Timebase.skipDue (x : Timebase) (now period : Nat) : Timebase :=
  { x with syncEdges := x.syncEdges.filter (decide <| now ≤ ·)
           syncNext := x.syncNext.map fun p => if p < now then nextGrid 0 period now else p }

/-- SYNC where the module begins to drive it: edges that passed before are lost (R336). -/
def State.syncSkips (s : State) : State := { s with timebase := s.timebase.skipDue s.now (s.objN 0x2300 8) }

/-- SYNC where the module stops driving it: the output is low from here on (R336). -/
def State.syncCuts (s : State) : State :=
  if s.timebase.syncHigh.isSome then
    { s with timebase := { s.timebase with syncHigh := none, syncLowSince := some s.now } } else s

/-- The mode changes: the change is stamped, logged and signalled (R512); `why` is 0 for an internal cause, 0x10 plus the
session for a request (R528). -/
def State.changeMode (s : State) (m : Mode) (why : Nat) : State :=
  let old := s.mode
  let drives := s.syncs
  let s := { s with mode := m }.setObj 0x2000 0x0F s.now
  let s := if s.syncs then (if drives then s else s.syncSkips) else s.syncCuts
  (s.logRec s.now 0x04E0 2 (natLe 1 old.code ++ natLe 1 m.code ++ natLe 1 why)).cause 0x2000 0 s.now

end Sys2Proof.Machine
end

