-- ==== Sys2Proof/Machine/Queues.lean ====
section
/-!
DEFINITION. The queue system's shared operations: blocks and their states (R350), references and pins (R347, R352),
writing an entry (R348, R354, R355), taking the oldest entries (R349, R356), deleting a queue (R346, R369) and the
descriptor (R359).
-/

namespace Sys2Proof.Machine

/-! ## Queue numbers -/

/-- Entries that a Pantry block holds (R350). -/
def blockEntries : Nat := 128

/-! ## Blocks -/

/-- Blocks a queue owns; spilling blocks are not among them (R350, R357). -/
def Queue.owned (q : Queue) : Nat := (q.blocks.filter fun b => !b.spilling).length

/-- Blocks of a queue that are spilling. -/
def Queue.spillingBlocks (q : Queue) : Nat := (q.blocks.filter fun b => b.spilling).length

/-- The sum of a figure over all queues. -/
def State.sumQueues (s : State) (f : Queue → Nat) : Nat :=
  s.queues.foldl (fun n x => match x.2 with | some q => n + f q | none => n) 0

/-- Blocks owned, the descriptor store among them (R350, 0x2800:01). -/
def State.ownedBlocks (s : State) : Nat := s.pantry.storeBlocks + s.sumQueues Queue.owned

/-- Blocks spilling. -/
def State.spillingBlocks (s : State) : Nat := s.pantry.orphans + s.sumQueues Queue.spillingBlocks

/-- Free blocks (R350). -/
def State.freeBlocks (s : State) : Nat := 12288 - s.ownedBlocks - s.spillingBlocks

/-- Whether a queue is over share (R357). -/
def Queue.overShare (q : Queue) : Bool := decide (q.share < q.owned)

/-- Segments that a capacity reserves (R345). -/
def segmentsFor (capacity : Nat) : Nat := (capacity * 32 + 65535) / 65536

/-- Bytes of the Larder that queues reserve (0x2800:05). -/
def State.larderReserved (s : State) : Nat :=
  s.sumQueues fun q => if q.larderBacked then segmentsFor q.capacity * 65536 else 0

/-! ## Books -/

/-- The sequence number of the oldest entry, or of the next entry when the queue is empty (R364). -/
def Queue.front (q : Queue) : Nat :=
  match q.entries with
  | e :: _ => e.seq
  | [] => q.written

/-- A write appends an entry in the newest block, or in a new one (R348, R356). -/
def Queue.append (q : Queue) (e : NewEntry) (now : Tk) : Queue :=
  let ent : Entry := { stamp := e.stamp, tag := e.tag, kind := e.kind, flags := e.flags, seq := q.written,
                       payload := e.payload, writtenAt := now }
  let blocks := match q.blocks.getLast? with
    | some b => if b.filled < blockEntries && !b.spilling
        then q.blocks.dropLast ++ [{ b with filled := b.filled + 1, held := b.held + 1 }]
        else q.blocks ++ [{ filled := 1, held := 1, spilling := false }]
    | none => [{ filled := 1, held := 1, spilling := false }]
  { q with entries := q.entries ++ [ent], written := addWrap 32 q.written 1, blocks := blocks }

/-- Whether a write needs a new Pantry block. -/
def Queue.needsBlock (q : Queue) : Bool :=
  match q.blocks.getLast? with
  | some b => !(b.filled < blockEntries && !b.spilling)
  | none => true

/-- The oldest entry leaves the first block that holds one; a block left empty is freed, unless it is spilling (R356,
R358). -/
def takeFromBlocks : List Block → List Block
  | [] => []
  | b :: bs =>
    if b.held = 0 then b :: takeFromBlocks bs
    else if b.held = 1 && !b.spilling then bs
    else { b with held := b.held - 1 } :: bs

/-- The oldest entry leaves the queue. -/
def Queue.takeOne (q : Queue) : Queue :=
  if q.entries.isEmpty then q
  else if q.larder > 0 then { q with entries := q.entries.drop 1, larder := q.larder - 1 }
  else { q with entries := q.entries.drop 1, blocks := takeFromBlocks q.blocks }

/-- The `n` oldest entries leave the queue. -/
def Queue.take : Nat → Queue → Queue
  | 0, q => q
  | n + 1, q => Queue.take n q.takeOne

/-! ## Streams of a queue -/

/-- The stream slots open on a queue: session and slot. -/
def State.streamsOn (s : State) (q : Nat) : List (Nat × Nat) :=
  s.streams.filterMap fun x => match x.2 with
    | some st => if st.queue = q then some (x.1 / 8, x.1 % 8) else none
    | none => none

/-- How far one sequence number lies behind another, modulo 2^32 (R364). -/
def seqDist (a b : Nat) : Nat := (b + 2 ^ 32 - a) % 2 ^ 32

/-- The sent frontier S of a stream; it never lies before the front A (R366). -/
def Stream.frontier (st : Stream) (qu : Queue) : Nat :=
  if seqDist qu.front st.sent < 2 ^ 31 then st.sent else qu.front

/-- The entries of a queue before a sequence number. -/
def Queue.before (qu : Queue) (seq : Nat) : List Entry :=
  qu.entries.filter fun e => decide (seqDist qu.front e.seq < seqDist qu.front seq)

/-- Entries of a queue that are in flight on a stream (R349, R366). -/
def State.inFlight (s : State) (q : Nat) (qu : Queue) : Nat :=
  match s.streamsOn q with
  | (n, k) :: _ => match s.stream n k with
    | some st => (qu.before (st.frontier qu)).length
    | none => 0
  | [] => 0

/-! ## References and pins (R347, R352) -/

/-- The queue that an accepted object value names as an output: capture queues, sequence entries and urgent requests
whose raw or summary bit is set, chain lane outputs, the mapper result queue, the verdict queue and the engine receive queues
(R347). -/
def queueNamed (idx sub : Nat) (v : Nat) : Option Nat :=
  let plain := if v = 0xFFFFFFFF then none else some v
  if 0x3100 ≤ idx && idx ≤ 0x31FF && sub == 0x0D then plain
  else if 0x3200 ≤ idx && idx ≤ 0x3247 && (sub == 0x0F || (0x41 ≤ sub && sub ≤ 0x60)) then
    (if fieldOf v 7 2 = 0 then none else some (fieldOf v 34 20))
  else if 0x3300 ≤ idx && idx ≤ 0x3347 && 0x14 ≤ sub && sub ≤ 0x17 then
    (if fieldOf v 20 3 = 0 then none else some (fieldOf v 0 20))
  else if idx == 0x3400 && sub == 0x14 then plain
  else if idx == 0x3500 && sub == 0x03 then plain
  else if 0x3600 ≤ idx && idx ≤ 0x3603 && sub == 0x07 then plain
  else if 0x3610 ≤ idx && idx ≤ 0x3617 && sub == 0x06 then plain
  else if 0x3618 ≤ idx && idx ≤ 0x361F && sub == 0x05 then plain
  else if 0x3620 ≤ idx && idx ≤ 0x3627 && sub == 0x04 then plain
  else none

/-- The reference count of a queue number (R347). -/
def State.refs (s : State) (q : Nat) : Nat :=
  (s.objs.filter fun o => match o.2 with
    | some v => queueNamed (o.1 / 256) (o.1 % 256) v.toNat == some q
    | none => false).length + (s.disp.queuesNamed.filter (· == q)).length

/-- Whether the descriptor of a queue is pinned (R352). -/
def State.pinned (s : State) (q : Nat) : Bool :=
  isEventQueue q || decide (0 < s.refs q) || !(s.streamsOn q).isEmpty

/-- How many descriptors are pinned (0x2800:03). -/
def State.pinnedCount (s : State) : Nat := (s.queues.filter fun x => x.2.isSome && s.pinned x.1).length

/-- The check of a value that names a queue (R91, R112): the queue exists, no other session holds it, and its
descriptor can be pinned (R352). -/
def State.queueAbort (s : State) (who q : Nat) : Option Nat :=
  match s.queue q with
  | none => some 0x06090030
  | some _ => match s.holder clsQueue q with
    | some h => if h = who then
        (if s.pantry.larderReady && !s.pinned q && decide (16000 ≤ s.pinnedCount) then some 0x0F010809 else none)
        else some 0x0F010101
    | none => if s.pantry.larderReady && !s.pinned q && decide (16000 ≤ s.pinnedCount) then some 0x0F010809 else none

/-- The same for a value of which 0xFFFF_FFFF names none. -/
def State.queueRefAbort (s : State) (who v : Nat) : Option Nat :=
  if v = 0xFFFFFFFF then none else s.queueAbort who v

/-! ## Writing an entry -/

/-- Cause bit 0 when the free blocks fell below the watermark (R370). -/
def State.watermark (before s : State) : State :=
  let w := s.objN 0x2800 0x0D
  if w ≤ before.freeBlocks && s.freeBlocks < w then s.cause 0x2800 0 s.now else s

/-- A write of an entry is refused for a full queue (R354). -/
def State.refuseFull (s : State) (q : Nat) (qu : Queue) : State :=
  ((s.setQueue q (some { qu with refused := addWrap 32 qu.refused 1 })).countUp 0x2800 9).cause 0x2800 1 s.now

/-- A write of an entry is refused because no Pantry block is free (R355). -/
def State.refusePantry (s : State) (q : Nat) (qu : Queue) : State :=
  ((s.setQueue q (some { qu with refused := addWrap 32 qu.refused 1 })).countUp 0x2800 0x0A).cause 0x2800 2 s.now

/-- An entry is accepted. -/
def State.acceptEntry (s : State) (q : Nat) (qu : Queue) (e : NewEntry) : State :=
  State.watermark s (s.setQueue q (some (qu.append e s.now)))

/-- The queue system accepts or refuses one entry (R348, R354, R355, R363): the new state, and 0 or the code of the
refusal. A queue that does not exist takes nothing; its writer says what follows. -/
def State.offerEntry (s : State) (q : Nat) (e : NewEntry) : State × Nat :=
  match s.queue q with
  | none => (s, 0x06090030)
  | some qu =>
    if qu.damaged then (s, 0x0F01080A)
    else if qu.entries.length ≥ qu.capacity then
      let moving := s.inFlight q qu != 0 || qu.entries.isEmpty
      let less := { qu.takeOne with discarded := addWrap 32 qu.discarded 1 }
      if qu.policy != 1 then (s.refuseFull q qu, 0x0F010801)
      else if qu.needsBlock && s.freeBlocks == 0 then
        -- the oldest entry must be the last one left of a Pantry block that is not spilling, and not in flight
        match qu.blocks.find? fun b => b.held != 0 with
        | some b =>
          if !moving && qu.larder == 0 && b.held == 1 && !b.spilling then (s.acceptEntry q less e, 0)
          else (s.refusePantry q qu, 0x0F010802)
        | none => (s.refusePantry q qu, 0x0F010802)
      else if moving then (s.refuseFull q qu, 0x0F010801)
      else (s.acceptEntry q less e, 0)
    else if qu.needsBlock && s.freeBlocks == 0 then (s.refusePantry q qu, 0x0F010802)
    else (s.acceptEntry q qu e, 0)

/-- A device block writes an entry and drops it when it is refused; a missing or damaged queue is counted (R347, R355).
-/
def State.blockEntry (s : State) (q : Nat) (e : NewEntry) : State :=
  match s.queue q with
  | none => (s.countUp 0x2800 0x0B).cause 0x2800 5 s.now
  | some qu => if qu.damaged then (s.countUp 0x2800 0x0B).cause 0x2800 5 s.now else (s.offerEntry q e).1

/-- A device block writes to the queue that an object names, if it names one. -/
def State.blockEntryTo (s : State) (v : Nat) (e : NewEntry) : State :=
  if v = 0xFFFFFFFF then s else s.blockEntry v e

/-! ## Taking entries -/

/-- The `n` oldest entries are read (R349). -/
def State.readEntries (s : State) (q n : Nat) : State :=
  match s.queue q with
  | some qu =>
    let s := s.setQueue q (some { Queue.take n qu with read := addWrap 32 qu.read n })
    if isEventQueue q then s.settleSources else s
  | none => s

/-- Every entry is discarded; spilling blocks stay spilling for no queue (R346, R358). -/
def State.discardAll (s : State) (q : Nat) : State :=
  match s.queue q with
  | some qu =>
    let orphans := qu.spillingBlocks
    let spills := s.pantry.spills.map fun x => if x = some q then none else x
    let s := s.setQueue q (some { qu with entries := [], blocks := [], larder := 0,
                                          discarded := addWrap 32 qu.discarded qu.entries.length })
    let s := { s with pantry := { s.pantry with orphans := s.pantry.orphans + orphans, spills := spills } }
    if isEventQueue q then s.settleSources else s
  | none => s

/-! ## Entries as bytes -/

/-- An entry as its 32 bytes (R17). -/
def Entry.bytes (e : Entry) : Bytes :=
  natLe 8 e.stamp ++ natLe 2 e.tag ++ natLe 1 e.kind ++ natLe 1 e.flags ++ natLe 4 e.seq ++
    (e.payload ++ zeroBytes 16).take 16

/-- The position in the Larder of the entry that is number `p` among those ever written there (R359). -/
def larderPosition (q : Nat) (qu : Queue) (p : Nat) : Nat :=
  let segs := segmentsFor qu.capacity
  if segs = 0 then 0xFFFFF else (Config.larderSegment q (p / 2048 % segs)).toNat + p % 2048 * 2 ^ 20

/-- The number of the oldest Larder entry among those ever written there: the part runs without a gap to the entry before the first
one in Pantry, whatever errors have taken out of it (R359, R363). -/
def Queue.larderHead (qu : Queue) : Nat :=
  let seqAt := fun (l : List Entry) => (l.head?.map Entry.seq).getD qu.written
  qu.larderTail - (seqAt (qu.entries.drop qu.larder) + 2 ^ 32 - seqAt qu.entries) % 2 ^ 32

/-- The descriptor of a queue (R359). -/
def State.descriptor (s : State) (q : Nat) : Bytes :=
  match s.queue q with
  | none => []
  | some qu =>
    let ident := q + (if qu.damaged then 2 else 1) * 2 ^ 20 + qu.policy * 2 ^ 22 + bnat qu.larderBacked * 2 ^ 24 +
      bnat qu.overShare * 2 ^ 25 + bnat (!(s.streamsOn q).isEmpty) * 2 ^ 26 + bnat (s.pinned q) * 2 ^ 27
    let head := if qu.larder = 0 then 0xFFFFF else larderPosition q qu qu.larderHead
    let tail := if qu.larderBacked then larderPosition q qu qu.larderTail else 0xFFFFF
    natLe 4 ident ++ natLe 4 qu.capacity ++ natLe 4 qu.written ++ natLe 4 qu.read ++ natLe 4 qu.discarded ++
      natLe 2 qu.share ++ natLe 2 qu.owned ++ natLe 4 head ++ natLe 4 tail

/-- The oldest entry that is not in flight (R364). -/
def State.headEntry (s : State) (q : Nat) : Option Entry :=
  match s.queue q with
  | some qu => qu.entries[s.inFlight q qu]?
  | none => none

end Sys2Proof.Machine
end

