-- ==== Sys2Proof/Machine/Access.lean ====
section
/-!
DEFINITION. The checks that every write of an object passes, in the order of R442: the index and the subindex exist,
the direction, the session (R457), the length (R441), then readiness (R551) and mode refusals, claim refusals (R24)
and range refusals (R9). What a chapter checks besides stands with the effect of the write.
-/

namespace Sys2Proof.Machine

/-! ## Readiness (R551) -/

/-- The readiness bits that govern a request to an index. -/
def readyBits (idx sub : Nat) (write : Bool) : List Nat :=
  if idx < 0x2000 then (if write && (idx == 0x1010 || idx == 0x1011) then [3, 7] else [3])
  else if idx ≤ 0x20FF then [3]
  else if idx ≤ 0x21FF then
    (if write && (0x2110 ≤ idx && idx ≤ 0x2117 || idx == 0x2105 && (sub == 1 || sub == 3)) then [3, 7] else [3])
  else if idx ≤ 0x22FF then [16]
  else if idx ≤ 0x23FF then (if write then [9] else [3])
  else if idx ≤ 0x24FF then [17]
  else if idx ≤ 0x25FF then [19]
  else if idx ≤ 0x260F then [7]
  else if idx ≤ 0x26FF then [25, 7]
  else if idx ≤ 0x2701 then [22]
  else if idx == 0x2702 then [23]
  else if idx ≤ 0x272F then [21]
  else if idx ≤ 0x27FF then [22, 7]
  else if idx ≤ 0x28FF then [18]
  else if 0x4000 ≤ idx && idx ≤ 0x4FFF then [18]
  else if 0x3000 ≤ idx && idx ≤ 0x31FF then [11 + idx % 256 / 64]
  else if 0x3200 ≤ idx && idx ≤ 0x33FF then [24]
  else if 0x3400 ≤ idx && idx ≤ 0x35FF then [26]
  else if 0x3600 ≤ idx && idx ≤ 0x36FF then [27]
  else if 0x3700 ≤ idx && idx ≤ 0x37FF then [28]
  else [8]

/-- The readiness refusal of an object. -/
def State.readyAbort (s : State) (idx sub : Nat) (write : Bool) : Option Nat :=
  if (readyBits idx sub write).all s.ready then none else some 0x0F010002

/-- Whether the device does not leave SAFE: before the first lock, and with a failed Cellar (R326, R509). -/
def State.staysSafe (s : State) : Bool := !s.ready 9 || s.cellar.stage == 5

/-! ## Modes -/

/-- The modes in which writes of an index are accepted, where its chapter gives a mode rule: R34, R119, R149, R252,
R297, R321, R338, R369, R371, R444, R503, R504 and the rules beside each line. -/
def modeAllows (m : Mode) (idx sub v : Nat) : Bool :=
  if 0x3000 ≤ idx && idx ≤ 0x30FF then !m.early && m != .calibrate
  else if 0x3200 ≤ idx && idx ≤ 0x33FF then !m.early && m != .calibrate && m != .hold
  else if 0x2410 ≤ idx && idx ≤ 0x2413 then !m.early
  else if 0x2300 ≤ idx && idx ≤ 0x23FF then !m.early
  else if 0x2200 ≤ idx && idx ≤ 0x22FF then !m.early
  else if idx == 0x2805 then m == .idle
  else if 0x2800 ≤ idx && idx ≤ 0x28FF then !m.early
  else if 0x4000 ≤ idx && idx ≤ 0x4FFF then !m.early
  else if idx == 0x1010 || idx == 0x1011 then m == .safe || m == .idle
  else moreModes m idx sub v
where
  /-- Mode rules of the later chapters: R192, R293, R403, R426, R499, R505; and those of single commands: bind (R469),
  global calibration (R498) and map start (R185). -/
  moreModes (m : Mode) (idx sub v : Nat) : Bool :=
    if 0x3510 ≤ idx && idx ≤ 0x3513 then m != .load && m != .calibrate
    else if 0x2510 ≤ idx && idx ≤ 0x2517 then !m.early && m != .hold
    else if idx == 0x2710 || 0x2720 ≤ idx && idx ≤ 0x272F then !m.early
    else if 0x2740 ≤ idx && idx ≤ 0x2747 then m == .idle
    else if idx == 0x2104 && sub == 1 && v == 1 then m == .idle
    else if idx == 0x3400 && sub == 0x0A && v == 1 then m == .run || m == .throttle
    else if idx == 0x2610 && sub == 2 && v == 3 then m == .quiesce
    else if idx == 0x2610 || idx == 0x2611 then !m.early && m != .hold
    else if idx == 0x2640 then m == .idle || sub == 0
    else true

/-- Writes whose chapter sets mode and claim refusals in an order of its own, which their effect follows: the start of a
zone (R394) or a plan (R204), mode requests and the reset command (R513, R514, R525). -/
def ownOrder (idx sub v : Nat) : Bool :=
  (0x2720 ≤ idx && idx ≤ 0x272F && sub == 2 && v == 1) || (idx == 0x3500 && sub == 1 && v == 1) ||
    (idx == 0x2000 && (sub == 2 || sub == 3))

/-! ## Claims -/

/-- The four ports of a quad as claims (R120). -/
def quadClaims (q : Nat) : List (Nat × Nat) := (List.range 4).map fun k => (clsPort, 4 * q + k)

/-- The claims for a converter or its chain (R120, R149). -/
def convClaims (q : Nat) : List (Nat × Nat) := if q < 64 then quadClaims q else [(clsCycle, 0)]

/-- Whether a service-pin function is one of a CAN FD engine (R94). -/
def isCanFunction (f : Nat) : Bool := 0x10 ≤ f && f ≤ 0x12

/-- The claim of R95 for a write to a service pin whose present or requested function counts. -/
def State.pinClaim (s : State) (n : Nat) (requested : Nat) : List (Nat × Nat) :=
  if isCanFunction (s.objN (0x3700 + n) 1) || isCanFunction requested then
    (if n < 12 then [(clsCan, n / 3)] else [(clsCycle, 0)])
  else [(clsCycle, 0)]

/-- The claim for the configuration of a source (R319). -/
def State.sourceClaim (s : State) (n : Nat) : List (Nat × Nat) :=
  if n < 256 then [(clsPort, n)]
  else if n < 320 then quadClaims (n - 256)
  else if n < 328 then [(clsCycle, 0)]
  else if n < 344 then [(clsZone, n - 328)]
  else if n < 408 then [(clsZone, (n - 344) / 4)]
  else if n < 440 then s.pinClaim (n - 408) 0
  else if n < 444 then [(clsCan, n - 440)]
  else if n == 456 then [(clsMapper, 0)]
  else [(clsCycle, 0)]

/-- The queue that a window object names for an accessor (R343). -/
def State.windowQueue (s : State) (a : Accessor) (idx : Nat) : Nat :=
  s.own (accNum a) 0x2802 1 * 4096 + (idx - 0x4000)

/-- The resources whose claims a write of a claim object needs; `v` is the value written. A window object of a queue that
does not exist needs none: its write is refused with a code of its own (R373). -/
def State.claimNeeds (s : State) (a : Accessor) (idx sub : Nat) (v : Nat) : List (Nat × Nat) :=
  if 0x3000 ≤ idx && idx ≤ 0x30FF then
    (if sub == 0x20 || sub == 0x21 then quadClaims (idx % 256 / 4) else [(clsPort, idx % 256)])
  else if 0x3100 ≤ idx && idx ≤ 0x31FF then [(clsPort, idx % 256)]
  else if 0x3200 ≤ idx && idx ≤ 0x33FF then convClaims (idx % 256)
  else if idx == 0x3400 || 0x3410 ≤ idx && idx ≤ 0x341F then [(clsMapper, 0)]
  else if 0x3600 ≤ idx && idx ≤ 0x3603 then [(clsCan, idx - 0x3600)]
  else if 0x3610 ≤ idx && idx ≤ 0x3617 then [(clsLin, idx - 0x3610)]
  else if 0x3618 ≤ idx && idx ≤ 0x361F then [(clsSent, idx - 0x3618)]
  else if 0x3620 ≤ idx && idx ≤ 0x3627 then [(clsPwm, idx - 0x3620)]
  else if 0x3700 ≤ idx && idx ≤ 0x371F then s.pinClaim (idx - 0x3700) (if sub == 1 then v else 0)
  else if 0x2410 ≤ idx && idx ≤ 0x2413 then s.sourceClaim ((idx - 0x2410) * 128 + (sub - 1))
  else if 0x2720 ≤ idx && idx ≤ 0x272F then [(clsZone, idx - 0x2720)]
  else if 0x4000 ≤ idx && idx ≤ 0x4FFF then
    (if (s.queue (s.windowQueue a idx)).isSome then [(clsQueue, s.windowQueue a idx)] else [])
  else [(clsCycle, 0)]

/-- Where session 0 may write without the fixture cycle claim: the link settings in SAFE (R473), device control in SAFE
and HOLD (R513), the stores of R444 in SAFE, and what the later chapters give it. -/
def State.sessionZeroMay (s : State) (idx : Nat) : Bool :=
  if 0x1E00 ≤ idx && idx ≤ 0x1E10 then s.mode == .safe
  else if idx == 0x2000 then s.mode == .safe || s.mode == .hold
  else if idx == 0x1010 || idx == 0x1011 then s.mode == .safe
  else false

/-- Objects that are not of access claim but whose writes need an authority of the same kind: the stores of R444 and the
clearing of the battery keys (R422). A host key slot has an authority of its own, mode before claim (R458). -/
def needsAuthority (idx sub : Nat) : Bool :=
  (idx == 0x1010 && sub == 1) || (idx == 0x1011 && sub == 1) || (idx == 0x2701 && sub == 0x0A)

/-- The claim refusal of a write (R24). -/
def State.writeClaimAbort (s : State) (a : Accessor) (c : Card) (idx sub v : Nat) : Option Nat :=
  if c.acc == .claim || needsAuthority idx sub then
    if s.sessionOf a = 0 && s.sessionZeroMay idx then none
    else s.claimsAbort (s.sessionOf a) (s.claimNeeds a idx sub v)
  else none

/-! ## Sessions (R457) -/

/-- Whether a session is open. -/
def State.isOpen (s : State) (n : Nat) : Bool := (s.session n).stage == .open_

/-- What a session that is not open may still reach (R457). -/
def openlessMay (idx sub : Nat) (write : Bool) : Bool :=
  if write then idx == 0x2105 && (sub == 1 || sub == 3 || sub == 5)
  else (0x1000 ≤ idx && idx ≤ 0x1FFF) || (idx == 0x2000 && sub == 1) || idx == 0x2001 || idx == 0x2105

/-- The refusal of a request whose session is not open (R457), or, for KEK, is not session 0 (R421). -/
def State.sessionAbort (s : State) (a : Accessor) (idx sub : Nat) (write : Bool) : Option Nat :=
  if write && idx == 0x2701 && sub == 2 && s.sessionOf a != 0 then some 0x0F010001
  else if decide (s.sessionOf a < 8) && s.isOpen (s.sessionOf a) || openlessMay idx sub write then none
  else some 0x0F010001

/-- The readiness bit of a link (R551). -/
def linkBit (l : Link) : Nat :=
  match l with
  | .can0 => 4
  | .net0 => 5
  | .net1 => 6

/-- Whether a link answers (R551, R509, R455): while its readiness bit is set, in SAFE and LOAD only the SAFE link, and
CAN0 while NMT lets it serve and it is not bus-off. -/
def State.linkAnswers (s : State) (l : Link) : Bool :=
  s.ready (linkBit l) && (!s.mode.early || l == s.links.safeLink) &&
  (l != .can0 || s.links.nmt != .stopped && s.links.canState != 2)

/-- Whether the link of a requester answers; a core has none. -/
def State.linkServes (s : State) (a : Accessor) : Bool :=
  match a with
  | .core _ => true
  | .session n => s.linkAnswers (if n = (0 : Nat) then Link.can0 else (s.session n).link)

/-- Whether the device takes a request at all (R513, R551). -/
def State.serves (s : State) (a : Accessor) : Bool := s.mode.serves && s.linkServes a

/-! ## Values -/

/-- The value that bytes stand for under a type (R441). -/
def OType.value (ty : OType) (bs : Bytes) : Int :=
  if ty.signed then toSigned (8 * ty.size) (leNat bs) else leNat bs

/-- The bytes of a value of a type. -/
def OType.encode (ty : OType) (v : Int) : Bytes := natLe ty.size (toCode (8 * ty.size) v)

/-- The length refusal (R441). -/
def Card.lengthAbort (c : Card) (len : Nat) : Option Nat :=
  match c.ty with
  | .domain => if len = 0 ∧ c.mask = 1 then none else if (len : Int) < c.min ∨ c.max < len then some 0x06070010 else none
  | .str => if len > 255 then some 0x06070010 else none
  | ty => if len = ty.size then none else some 0x06070010

/-- Whether a chapter allows the length of a DOMAIN that lies in the range of its card (R441): claim and release lists in
entries of 8 bytes (R466, R467), memories and coefficients in words (R141, R297, R406), a LIN slave table in rows of 12
bytes (R231). -/
def chapterLength (idx len : Nat) : Bool :=
  if idx == 0x2102 then len % 8 == 0
  else if 0x2510 ≤ idx && idx ≤ 0x2517 || 0x2720 ≤ idx && idx ≤ 0x272F || 0x3300 ≤ idx && idx ≤ 0x33FF then len % 4 == 0
  else if 0x3610 ≤ idx && idx ≤ 0x3617 then len % 12 == 0
  else true

/-- The range refusals of R9, and those of R441 for BOOLEAN and REAL32. -/
def Card.rangeAbort (c : Card) (v : Int) : Option Nat :=
  match c.ty with
  | .bool => if v = 0 ∨ v = 1 then none else some 0x06090030
  | .real32 => if v.toNat / 2 ^ 23 % 256 = 255 then some 0x06090030 else none
  | .domain => none
  | .str => none
  | _ => if c.max < v then some 0x06090031 else if v < c.min then some 0x06090032 else none

/-- The value without the reserved bits (R10). -/
def Card.masked (c : Card) (v : Int) : Int := if c.mask = 0 then v else ((v.toNat &&& c.mask : Nat) : Int)

/-- Whether a DOMAIN or string write is taken as bytes. -/
def OType.isBytes : OType → Bool
  | .domain | .str => true
  | _ => false

/-! ## The checks of a write -/

/-- Whether the first write of a configuration stream has fewer bytes than its header (R416). -/
def State.shortStream (s : State) (idx sub len : Nat) : Bool :=
  idx == 0x2700 && sub == 1 && !(s.loader.session.isSome || s.loader.boot) && decide (len < 64)

/-- Steps 1 to 5 of R442 for a write of `len` bytes. -/
def State.headChecks (s : State) (a : Accessor) (idx sub len : Nat) : Except Refused Card := do
  refuseIf (cardsOf idx).isNone 0x06020000
  match cardOf idx sub with
  | none => refuse 0x06090011
  | some c =>
    refuseIf (c.acc == .ro || c.acc == .const) 0x06010002
    refuseWith (s.sessionAbort a idx sub true)
    refuseWith (c.lengthAbort len)
    refuseIf (c.ty.isBytes && !chapterLength idx len) 0x06070010
    refuseIf (s.shortStream idx sub len) 0x06070010
    return c

/-- Whether LOAD refuses a write of a configuration object: every session's but the loading one's (R21). DESIGN CHOICE (log
entry 130): the configuration objects are the writable ones of 0x2700 to 0x2702, save the stream itself, for which R416
gives the refusal. -/
def State.loadRefuses (s : State) (a : Accessor) (idx sub : Nat) : Bool :=
  s.mode == .load && decide (0x2700 ≤ idx ∧ idx ≤ 0x2702) && !(idx == 0x2700 && sub == 1) &&
    s.loader.session != some (s.sessionOf a)

/-- Readiness, mode and claim refusals (R442 step 6, R551). -/
def State.gateChecks (s : State) (a : Accessor) (c : Card) (idx sub v : Nat) : Check := do
  refuseWith (s.readyAbort idx sub true)
  if ownOrder idx sub v then return ()
  refuseIf (!modeAllows s.mode idx sub v || s.loadRefuses a idx sub) 0x0F010002
  refuseWith (s.writeClaimAbort a c idx sub v)

/-- A write of a value: every check, then the effect `k` on the value without its reserved bits. -/
def State.guardWrite (s : State) (a : Accessor) (idx sub : Nat) (bs : Bytes) (k : Int → Res) : Res := do
  let c ← s.headChecks a idx sub bs.length
  s.gateChecks a c idx sub (leNat bs)
  refuseWith (c.rangeAbort (c.ty.value bs))
  k (c.masked (c.ty.value bs))

/-- A write of a DOMAIN: every check that needs no content, then the effect `k` on its bytes. -/
def State.guardBytes (s : State) (a : Accessor) (idx sub : Nat) (bs : Bytes) (k : Bytes → Res) : Res := do
  let c ← s.headChecks a idx sub bs.length
  s.gateChecks a c idx sub 0
  k bs

/-- A session's lease is renewed now (R462). -/
def State.renew (s : State) (n : Nat) : State :=
  if s.isOpen n then s.setSession n { s.session n with renewed := s.now } else s

/-- A request of a session renews its lease (R462). -/
def State.hears (s : State) (a : Accessor) : State :=
  match a with
  | .session n => s.renew n
  | .core _ => s

/-- The session of a requester, if it is one; a step core has its own order. -/
def sessionIn (a : Accessor) : Option Nat :=
  match a with
  | .session n => some n.val
  | .core _ => none

/-- Whether the session of a requester ends once its accepted requests have completed: a request that comes now finds it not open
(R464). -/
def State.requesterEnds (s : State) (a : Accessor) : Bool :=
  match sessionIn a with
  | some n => (s.session n).ending
  | none => false

/-- Whether another request of the requester's session executes (R449). -/
def State.busyFor (s : State) (a : Accessor) : Bool :=
  match sessionIn a with
  | some n => s.executing n
  | none => false

/-- A write waits for the one of its session that executes, as the last of at most 16 (R449). -/
def State.queuesUp (s : State) (n : Nat) (w : Waiting) : State :=
  if (s.session n).waiting.length < 16 then s.holdsBack n w else s.send (.answer 0x0F010003 [])

/-- A write of an object at the instant `t`: taken only where the device serves its requester (R442), behind a request of its
session that executes (R449), and answered with success or with the code of its refusal. -/
def State.request (s : State) (t : Tk) (a : Accessor) (idx sub : Nat) (bs : Bytes) (f : State → Res) :
    Host.Outcome State Fault Refusal :=
  let s := s.advance t
  if !s.serves a then .next s
  else if s.requesterEnds a && !openlessMay idx sub true then .next (s.send (.answer 0x0F010001 []))
  else if s.busyFor a then .next ((s.hears a).queuesUp (s.sessionOf a) (.write idx sub bs))
  else (s.hears a).finish (s.sessionOf a) (f (s.hears a))

/-- A request that writes a value: its checks, then the effect `k`. -/
def State.requestValue (s : State) (t : Tk) (a : Accessor) (idx sub : Nat) (bs : Bytes) (k : State → Int → Res) :
    Host.Outcome State Fault Refusal :=
  s.request t a idx sub bs fun s => s.guardWrite a idx sub bs (k s)

/-- A request that writes the bytes of a DOMAIN: its checks, then the effect `k`. -/
def State.requestBytes (s : State) (t : Tk) (a : Accessor) (idx sub : Nat) (bs : Bytes) (k : State → Bytes → Res) :
    Host.Outcome State Fault Refusal :=
  s.request t a idx sub bs fun s => s.guardBytes a idx sub bs (k s)

end Sys2Proof.Machine
end

