-- ==== Sys2Proof/Machine/Ports.lean ====
section
/-!
DEFINITION. Port cells and their owners: who owns a port (R75, R76), the change of owner through park (R80 to R85), the
settling of a cell (R48, R49), what the cell does under its owner (R30, R31, R53 to R58), the effect of a write to the port
object (R50 to R64), faults (R67 to R70) and the status of the cell (R73).
-/

namespace Sys2Proof.Machine

/-! ## What the blocks enable -/

/-- Bit `p` of eight mask words that begin at a subindex. -/
def State.maskBit (s : State) (idx sub p : Nat) : Bool := bitOf (s.objN idx (sub + p / 32)) (p % 32)

/-- Whether the safety clamp is enabled for a port (R75). -/
def State.clampEnabled (s : State) (p : Nat) : Bool :=
  (s.port p).latched.isSome ||
  match s.mode with
  | .idle | .run | .throttle | .calibrate | .quiesce => false
  | _ => true

/-- The ports that a calibration unit isolates (R75, R489): those of a quad item. -/
def State.isolated (s : State) (p : Nat) : Bool :=
  s.mode == .calibrate ||
  match s.cal.unit with
  | some u => decide (u.item < 16) && u.die * 16 + u.item == p / 4
  | none => false

/-- Whether the mapper is enabled on a port (R158). -/
def State.mapperOn (s : State) (p : Nat) : Bool := s.objN 0x3400 1 == 1 && s.maskBit 0x3400 2 p

/-- Whether a sweep holds a port (R221). -/
def State.sweeping (s : State) (p : Nat) : Bool := (List.range 4).any fun m => (s.sweep m).ports.contains p

/-- The unit field of the protocol engine enabled on a port (R75). -/
def State.engineOn (s : State) (p : Nat) : Option Nat :=
  let on := fun (base unit : Nat) => (List.range 8).findSome? fun i =>
    if s.objN (base + i) 1 == 1 && s.objN (base + i) 2 == p then some (unit + i) else none
  (on 0x3610 0).orElse fun _ => (on 0x3618 0x10).orElse fun _ => on 0x3620 0x20

/-- The zone whose live port mask holds a port (R79, R387, R396). -/
def State.fabricOn (s : State) (p : Nat) : Option Nat :=
  (List.range 16).find? fun z =>
    let zn := s.zone z
    zn.live && zn.decl.portMask.any (fun x => x.val == p) &&
      !zn.maskLost.contains p

/-- The enabled owners of a port (R92), bit by bit. -/
def State.enabledOwners (s : State) (p : Nat) : Nat :=
  1 + bnat (s.fabricOn p).isSome * 2 + bnat (s.engineOn p).isSome * 4 + bnat (s.sweeping p) * 8 +
    bnat (s.mapperOn p) * 16 + bnat (s.isolated p) * 32 + bnat (s.clampEnabled p) * 64

/-- The owner that the enables give a port (R76). -/
def State.wantedOwner (s : State) (p : Nat) : Owner :=
  if s.clampEnabled p then { kind := .clamp, unit := 0 }
  else if s.isolated p then { kind := .isolation, unit := p / 4 }
  else if !s.bound || (s.holder clsPort p).isNone || s.cycle.releasing then { kind := .unheld, unit := 0 }
  else if s.mapperOn p then { kind := .mapper, unit := 0 }
  else if s.sweeping p then { kind := .sweeper, unit := 0 }
  else match s.engineOn p with
    | some u => { kind := .engine, unit := u }
    | none => match s.fabricOn p with
      | some z => { kind := .fabric, unit := z }
      | none => { kind := .static, unit := 0 }

/-- The codes of the owners (R75). -/
def OwnerKind.code : OwnerKind → Nat
  | .static => 0 | .fabric => 1 | .engine => 2 | .sweeper => 3 | .mapper => 4 | .isolation => 5 | .clamp => 6
  | .unheld => 7

/-- The cause codes of an owner change (R90). -/
def OwnerCause.code : OwnerCause → Nat
  | .enable => 0 | .disable => 1 | .fault => 2 | .claimEnded => 3 | .bind => 4 | .release => 5 | .modeChange => 6
  | .claimTaken => 7

/-! ## Settings in force (R33, R50, R70) -/

/-- A port without the writes that have not reached the cell: what an owner finds that takes the port now. -/
def State.loaded (s : State) (p : Nat) : State :=
  if (s.port p).held.isEmpty then s else s.setPort p { s.port p with held := [] }

/-- The value of a port setting that the cell has: the stored one, unless a write of it has not reached the cell. -/
def State.setting (s : State) (p sub : Nat) : Int :=
  match (s.port p).held.find? fun w => w.sub == sub with
  | some w => w.old
  | none => s.obj (0x3000 + p) sub

/-- An unsigned port setting that the cell has. -/
def State.settingN (s : State) (p sub : Nat) : Nat := (s.setting p sub).toNat

/-- Whether a port is in park: its park entry has come (R81, R83). -/
def State.parked (s : State) (p : Nat) : Bool :=
  match (s.port p).park with
  | some k => decide (k.entry ≤ s.now)
  | none => false

/-- Whether an owner of a kind works a port now. -/
def State.worksAs (s : State) (p : Nat) (k : OwnerKind) : Bool := (s.port p).owner.kind == k && !s.parked p

/-! ## Settling (R44, R48, R49) -/

/-- The full-scale column of R48, in tk, by range code. -/
def fullScaleTime (range : Nat) : Nat := [8000000, 800000, 160000, 48000, 40000, 40000].getD range 40000

/-- The range-change column of R48, in tk. -/
def rangeChangeTime (range : Nat) : Nat := [20000000, 2000000, 400000, 80000, 80000, 80000].getD range 80000

/-- The settling factor of the compensation field (R44). -/
def compFactor (control : Nat) : Nat := [1, 2, 5, 20].getD (fieldOf control 2 2) 1

/-- The full-scale time of a port, with its range and compensation. -/
def State.fullScale (s : State) (p : Nat) : Nat :=
  fullScaleTime (s.settingN p 4) * compFactor (s.settingN p 9)

/-- Whether a function forces voltage or current. -/
def isForce (f : Nat) : Bool := f == 1 || f == 2

/-- The settling time of an owner that begins to force a port: the full-scale column, twice for a current (R48, R83). The
mapper sets the loop for loads up to 10 nF (R160), so its times have the factor 2 of R44. DESIGN CHOICE (log entry 115): a
sweeper's times have the factor 1. -/
def State.forceSettling (s : State) (p : Nat) (o : Owner) : Nat :=
  match o.kind with
  | .sweeper => match (List.range 4).find? fun m => (s.sweep m).ports.contains p with
    | some m => fullScaleTime (s.sweep m).range * (if (s.sweep m).current then 2 else 1)
    | none => 0
  | .mapper => 2 * fullScaleTime (s.port p).point.range
  | _ => s.fullScale p * (if s.settingN p 1 == 2 then 2 else 1)

/-- The settling time of a function change (R49). -/
def State.functionSettling (s : State) (p old new : Nat) : Nat :=
  if isForce new then (if isForce old then s.fullScale p else 40000 + s.fullScale p)
  else if new == 4 || new == 6 then 12000
  else 8000

/-! ## What an owner does with the cell -/

/-- Whether the mapper refines, or has refined and not yet ended its map: it measures through the precision buses, its
amplifiers off (R177, R178). -/
def State.refining (s : State) : Bool :=
  s.map.phase == .refinement || (s.map.phase == .analysis && s.map.pass == 3 && !s.map.rounds.isEmpty)

/-- The function that an owner works a cell in, by the codes of 0x30pp:01: forcing (a map point in source mode forces a
voltage, R160), measuring, driving, receiving or LIN bus; Off for an owner that lets it rest (R53, R58, R222, R225 to R227,
R396). -/
def State.ownerFunction (s : State) (p : Nat) (o : Owner) : Nat :=
  match o.kind with
  | .static => s.settingN p 1
  | .mapper => if s.refining then 0 else 1
  | .sweeper => match (List.range 4).find? fun m => (s.sweep m).ports.contains p with
    | some m => if (s.sweep m).forces then (if (s.sweep m).current then 2 else 1) else 3
    | none => 0
  | .engine => if o.unit < 8 then 6 else 5
  | .fabric => if (s.port p).fabricOE then 4 else 5
  | _ => 0

/-- Whether an owner forces voltage or current on a port. -/
def State.ownerForces (s : State) (p : Nat) (o : Owner) : Bool := isForce (s.ownerFunction p o)

/-- Whether an owner drives a port: forces it, or drives it as Drive or LIN bus (R66). -/
def State.ownerDrives (s : State) (p : Nat) (o : Owner) : Bool :=
  s.ownerForces p o || s.ownerFunction p o == 4 || s.ownerFunction p o == 6

/-- The bus that an owner joins a port to (R60, R176, R222). -/
def State.ownerBus (s : State) (p : Nat) (o : Owner) : Option Nat :=
  match o.kind with
  | .static => let b := s.settingN p 0x10; if b < 8 then some b else none
  | .sweeper => (List.range 4).findSome? fun m => ((s.sweep m).buses.find? fun x => x.1 == p).map (·.2)
  | .mapper => if s.refining then
      (((s.map.rounds.getD s.map.round []).zipIdx).findSome? fun x =>
        if x.1.1 == p then some (2 * x.2) else if x.1.2 == p then some (2 * x.2 + 1) else none) else none
  | _ => none

/-- Whether an owner turns the receiver of a port on (R54, R82): the engines read it, and the safe state has it active; every
other owner leaves the analogue-mode bit of the port object in force (R159, R396; DESIGN CHOICE for the sweeper, log entry
116). -/
def State.ownerReceives (s : State) (p : Nat) (o : Owner) : Bool :=
  o.kind == .engine || o.kind == .unheld || !bitOf (s.settingN p 9) 6

/-- The function that the cell of a port works in now; Off in park (R81). -/
def State.cellFunction (s : State) (p : Nat) : Nat := if s.parked p then 0 else s.ownerFunction p (s.port p).owner

/-- The bus whose switch pair is closed at a port: in park, only one that the new owner also uses (R81, R83). -/
def State.busOf (s : State) (p : Nat) : Option Nat :=
  let c := s.port p
  match c.park with
  | some k => if k.entry ≤ s.now then k.bus else c.bus
  | none => c.bus

/-- Whether the static setting acts on a port (R33). -/
def State.staticActs (s : State) (p : Nat) : Bool := s.worksAs p .static

/-- Whether the sense check of a port runs (R43). -/
def State.senseRuns (s : State) (p : Nat) : Bool :=
  let sel := fieldOf (s.settingN p 9) 0 2
  s.staticActs p && isForce (s.settingN p 1) && (sel == 0 || sel == 2)

/-- Whether a port drives now (R66). -/
def State.driving (s : State) (p : Nat) : Bool := !s.parked p && s.ownerDrives p (s.port p).owner

/-- The current range in force at a port (R38, R160, R222). -/
def State.cellRange (s : State) (p : Nat) : Nat :=
  match (s.port p).owner.kind with
  | .mapper => (s.port p).point.range
  | .sweeper => match (List.range 4).find? fun m => (s.sweep m).ports.contains p && (s.sweep m).forces with
    | some m => (s.sweep m).range
    | none => s.settingN p 4
  | _ => s.settingN p 4

/-- The sweep that forces a port (R222). -/
def State.forcingSweep (s : State) (p : Nat) : Option Sweep :=
  if (s.port p).owner.kind == .sweeper then
    ((List.range 4).find? fun m => (s.sweep m).ports.contains p && (s.sweep m).forces).map s.sweep
  else none

/-- The measure select in force at a port (R45): a map point measures current (R159), and a port that a sweep forces its current,
or its sense voltage in current mode (R222). -/
def State.cellMeasure (s : State) (p : Nat) : Nat :=
  if (s.port p).owner.kind == .mapper then 0
  else match s.forcingSweep p with
    | some c => if c.current then 1 else 0
    | none => fieldOf (s.settingN p 9) 4 2

/-! ## What a lane shows to its converter (R102, R121 to R123) -/

/-- What the port shows now. -/
def State.portMark (s : State) (p : Nat) : LaneMark :=
  { since := s.now, range := s.cellRange p, measure := s.cellMeasure p, settleEnd := (s.port p).settlingEnd,
    moving := (s.port p).park.isSome }

/-- The marks that samples from an instant on still ask for: every later one, and the one before them. -/
def marksFrom (t : Tk) : List LaneMark → List LaneMark
  | [] => []
  | m :: ms => if m.since ≤ t then [m] else m :: marksFrom t ms

/-- The first instant of which a converter still asks: the first sample of the oldest conversion that its chain has not
taken whole. -/
def Converter.horizon (c : Converter) : Tk :=
  (c.rawLeft.map (·.conv.started)).foldl min ((c.done.map (·.started)).foldl min c.started)

/-- The port may show something else now: it is noted, at the park entry while a park is still ahead. -/
def State.noteMark (s : State) (p : Nat) : State :=
  let c := s.port p
  let at' := match c.park with
    | some k => max s.now k.entry
    | none => s.now
  let m := { s.portMark p with since := at' }
  match c.marks with
  | [] => s.setPort p { c with marks := [m] }
  | x :: xs =>
    if { x with since := at' } = m then s
    else s.setPort p { c with marks := { m with since := max at' x.since } :: marksFrom (s.conv (p / 4)).horizon (x :: xs) }

/-- The mark of a list in force at an instant. -/
def markAt (ms : List LaneMark) (t : Tk) : LaneMark :=
  match ms.find? fun m => m.since ≤ t with
  | some m => m
  | none => { since := 0 }

/-- Whether a condition of a mark holds at some instant from `first` to `last`; it is given the mark and the first instant of
that span at which the mark is in force. -/
def markedBetween (f : LaneMark → Tk → Bool) (first last : Tk) : List LaneMark → Bool
  | [] => f { since := 0 } first
  | m :: ms =>
    if m.since ≤ first then f m first
    else (decide (m.since ≤ last) && f m m.since) || markedBetween f first last ms

/-! ## Clamps -/

/-- A cell at which no clamp holds any more (R39 to R41). -/
def PortCell.unclamped (c : PortCell) : PortCell :=
  { c with sourceClamp := false, sinkClamp := false, voltageClamp := false, clampSince := none }

/-- The fabric's outputs at a cell (R396); where the fabric works the port, the driver is off without OE, and its current limit
holds no more. -/
def PortCell.fabricSets (c : PortCell) (d oe : Bool) : PortCell :=
  { (if oe || c.owner.kind != .fabric then c else c.unclamped) with fabricD := d, fabricOE := oe }

/-! ## Settling takes its course -/

/-- A change takes effect with a settling time: the bit is set and its end moves to the latest end (R49). -/
def PortCell.settles (c : PortCell) (at' time : Nat) : PortCell :=
  { c with settling := true, settlingEnd := if c.settling then max c.settlingEnd (at' + time) else at' + time }

/-- A change at a port takes effect with a settling time (R49). -/
def State.settle (s : State) (p at' time : Nat) : State := s.setPort p ((s.port p).settles at' time)

/-! ## What the cell does at the ball (R30, R31, R36, R38 to R40, R53, R58, R81) -/

/-- What ties the force ball of a port: the safe pull of 100 kilohms to 0 V, the clamp switch of 1 kilohm, the hold of 100
kilohms to the hold target, the LIN pull-up of 1 or 30 kilohms to a supply, or nothing. -/
inductive BallTie where
  | open_
  | safePull
  | clamp
  | hold (target : Int)
  | linPull (ohms : Nat) (supply : Int)
  deriving DecidableEq, Repr

/-- What a driver does at the ball: a driver level with its slew code (R53), or a LIN bus, dominant or left recessive
(R58). -/
inductive DriverOut where
  | off
  | level (uv : Int) (slew : Nat)
  | lin (dominant : Bool)
  deriving DecidableEq, Repr

/-- The level of the driver, or the state of the LIN bus: by the drive-low bit under the static setting, by D under the
fabric (R53, R58, R396); an engine drives its LIN bus by its own frames (R225). -/
def State.driverOut (s : State) (p : Nat) : DriverOut :=
  let c := s.port p
  let low := match c.owner.kind with
    | .fabric => !c.fabricD
    | .static => bitOf (s.settingN p 9) 11
    | _ => false
  match s.cellFunction p with
  | 4 => .level (s.setting p (if low then 0x0B else 0x0A)) (fieldOf (s.settingN p 9) 9 2)
  | 6 => .lin low
  | _ => .off

/-- The LIN pull-up that a port has in the function LIN bus: 1 kilohm, or 30 kilohms for a slave; the owner engine's role
takes the place of bit 13 (R58, R225). -/
def State.linPull (s : State) (p : Nat) : Nat :=
  let c := s.port p
  let slave := if c.owner.kind == .engine then s.objN (0x3610 + c.owner.unit) 3 == 1 else bitOf (s.settingN p 9) 13
  if slave then 30000 else 1000

/-- Whether a pin-path diagnosis of the quad converter is pending or running at a port (R127). -/
def State.diagnosing (s : State) (p : Nat) : Bool :=
  let v := s.objN (0x3200 + p / 4) 0x11
  fieldOf v 2 2 == 2 && fieldOf v 0 2 == p % 4 &&
    match (s.conv (p / 4)).slot with
    | .diagnosis _ _ _ => true
    | _ => false

/-- The route of the check source that has reached a quad (R50, R74). -/
def State.checkRoute (s : State) (q : Nat) : Nat := s.settingN (4 * q) 0x21

/-- Whether a route selects the pin path of a port (R74). -/
def routedTo (route p : Nat) : Bool := fieldOf route 2 2 == 2 && fieldOf route 0 2 == p % 4

/-- Whether the user's route in force selects the pin path of a port (R62). -/
def State.injects (s : State) (p : Nat) : Bool := routedTo (s.checkRoute (p / 4)) p

/-- Whether calibration uses the check source of a quad (R64, R488). -/
def State.checkInCal (s : State) (q : Nat) : Bool :=
  (match s.cal.unit with
    | some u => decide (u.item < 16) && u.die * 16 + u.item == q
    | none => false) || s.mode == .calibrate

/-- Whether the check source serves a running diagnosis of the quad converter, at its front end or its pin path (R62, R128). -/
def State.diagnosisInjects (s : State) (q : Nat) : Bool :=
  let point := fieldOf (s.objN (0x3200 + q) 0x11) 2 2
  (s.conv q).converting == .diagnosis && (point == 1 || point == 2)

/-- The point that the user's check source drives now (R62 to R64): `some true` for a lane's pin path, which only the static
setting of the target lets act, `some false` for its front end, which acts whatever owner the ports have (DEDUCED, log entry
143). -/
def State.userCheck (s : State) (q : Nat) : Option Bool :=
  let r := s.checkRoute q
  if s.checkInCal q || s.diagnosisInjects q then none
  else if fieldOf r 2 2 == 1 then some false
  else if fieldOf r 2 2 == 2 && s.staticActs (4 * q + fieldOf r 0 2) then some true
  else none

/-- Whether the pin path of a check source drives the ball of a port (R62): the user's, or a running diagnosis. -/
def State.pinPathDrives (s : State) (p : Nat) : Bool :=
  (s.injects p && s.userCheck (p / 4) == some true) || (s.diagnosing p && (s.conv (p / 4)).converting == .diagnosis)

/-- What ties the force ball (R30, R31, R58, R60, R62, R81, R178). -/
def State.ballTie (s : State) (p : Nat) : BallTie :=
  let c := s.port p
  if s.parked p then (match c.park with
    | some k => .hold k.hold
    | none => .open_)
  else if c.owner.kind == .clamp then .clamp
  else if s.cellFunction p == 6 then .linPull (s.linPull p) (s.setting p 0x11)
  else if s.cellFunction p == 0 && c.bus.isNone && !s.pinPathDrives p && c.owner.kind != .isolation then .safePull
  else .open_

/-- The lower of the two ranges during a range change, else the range in force (R50). -/
def State.limitRange (s : State) (p : Nat) : Nat :=
  match (s.port p).rangeEnd with
  | some e => if s.now < e then min (s.port p).rangeFrom (s.cellRange p) else s.cellRange p
  | none => s.cellRange p

/-- The full current of a range in pA (R38). -/
def rangePa (r : Nat) : Nat := 2000000 * 10 ^ r

/-- The current limits of the amplifier in pA, sourced and sunk: the clamp values applied to the limiting range (R39, R40,
R50), the clamps of a map point (R159, R164), or those of a sweep in voltage mode (R220). -/
def State.currentLimits (s : State) (p : Nat) : Nat × Nat :=
  let c := s.port p
  if c.owner.kind == .mapper then
    (rangePa (s.limitRange p) * c.point.clamp / 1000000, rangePa (s.limitRange p) * c.point.clamp / 1000000)
  else
    let (up, down) := match s.forcingSweep p with
      | some x => if x.current then (s.settingN p 5, s.settingN p 6) else (x.clamp1.toNat, x.clamp2.toNat)
      | none => (s.settingN p 5, s.settingN p 6)
    (rangePa (s.limitRange p) * up / 1000000, rangePa (s.limitRange p) * down / 1000000)

/-! ## Comparators (R54, R56, R58) -/

/-- The levels in tenths of a microvolt between which the receiver keeps its state: threshold less and plus half the
hysteresis, or 0.4 and 0.6 of the LIN supply level in the function LIN bus (R54, R58). -/
def State.receiverBand (s : State) (p : Nat) : Int × Int :=
  if s.cellFunction p == 6 then (4 * s.setting p 0x11, 6 * s.setting p 0x11)
  else
    let v : Int := s.settingN p 0x0C * 62500
    let half : Int := ([0, 50, 100, 200, 400, 800].getD (s.settingN p 0x0D) 0) * 5000
    (v - half, v + half)

/-- A comparator with hysteresis: it sets above `high`, clears below `low` and keeps its state between. -/
def compareBand (old : Bool) (low high v : Int) : Bool := if high < v then true else if v < low then false else old

/-- The receiver for what the ball shows. -/
def State.receiverNow (s : State) (p : Nat) (old : Bool) : Bool :=
  compareBand old (s.receiverBand p).1 (s.receiverBand p).2 (10 * (s.port p).forceUv)

/-- The input of the window comparators, their high and low limits and two limit steps, in one unit: microvolts for a
voltage, and 10^-6 pA x 4,096 for a current, whose limits are codes of 2.5 x range / 4,096 (R56). -/
def State.windowInputs (s : State) (p : Nat) : Int × Int × Int × Int :=
  let c := s.port p
  let m := s.cellMeasure p
  if m == 0 then
    let step : Int := 2500000 * rangePa (s.cellRange p)
    (c.currentPa * 1000000 * 4096, divNear (s.setting p 0x14 * 4096) 2500000 * step,
     divNear (s.setting p 0x15 * 4096) 2500000 * step, 2 * step)
  else (if m == 1 then c.senseUv else c.forceUv, s.setting p 0x0E, s.setting p 0x0F, 16000)

/-- The comparators of a port judge its inputs with the thresholds and limits in force. -/
def State.recompare (s : State) (p : Nat) : State :=
  let c := s.port p
  let (x, high, low, steps) := s.windowInputs p
  let c' := { c with receiver := s.receiverNow p c.receiver, windowAbove := compareBand c.windowAbove (high - steps) high x,
                     windowBelow := compareBand c.windowBelow (-low - steps) (-low) (-x) }
  if c' = c then s else s.setPort p c'

/-! ## Filters (R86 to R89) -/

/-- The object with the glitch and debounce times of a line, and the source it drives. -/
def lineObject : FilterLine → Nat × Nat × Nat
  | .port p => (0x3100 + p, 7, 8)
  | .pin n => (0x3700 + n, 5, 6)

/-- The source of a line (R57, R98). -/
def lineSource : FilterLine → Nat
  | .port p => p
  | .pin n => 408 + n

/-- The filter of a line. -/
def State.filter (s : State) : FilterLine → Filter
  | .port p => (s.port p).filter
  | .pin n => (s.pin n).filter

/-- A filter replaced. -/
def State.setFilter (s : State) (l : FilterLine) (f : Filter) : State :=
  match l with
  | .port p => s.setPort p { s.port p with filter := f }
  | .pin n => s.setPin n { s.pin n with filter := f }

/-- The glitch time of a line in tk (R86). -/
def State.glitchTime (s : State) (l : FilterLine) : Nat := s.objN (lineObject l).1 (lineObject l).2.1 * 4

/-- The debounce time of a line in tk (R87). -/
def State.debounceTime (s : State) (l : FilterLine) : Nat := s.objN (lineObject l).1 (lineObject l).2.2 * tkUs

/-- A pulse or a change is rejected: counted for a port (R86, R87). -/
def State.rejectEdge (s : State) (l : FilterLine) : State :=
  let s := s.setFilter l { s.filter l with skipped := (s.filter l).skipped + 1 }
  match l with
  | .port p => s.countUp (0x3100 + p) 0x0C
  | .pin _ => s

/-- The entries that a queue number has taken in; 0 where there is no such queue. -/
def State.taken (s : State) (q : Nat) : Nat := ((s.queue q).map (·.written)).getD 0

/-- The entry that captures an accepted pin edge (R90); what it counts starts again once it is written. -/
def State.captureEdge (s : State) (l : FilterLine) (stamp : Nat) (level afterPark late : Bool) (skipped : Nat) : State :=
  match l with
  | .pin _ => s
  | .port p =>
    if !bitOf (s.objN (0x3100 + p) 0x0E) 0 then s
    else
      let c := s.port p
      let payload := natLe 1 (bnat level) ++ natLe 1 (fieldOf (s.settingN p 9) 7 2) ++ natLe 1 c.owner.kind.code ++
        [0#8] ++ natLe 4 (s.objN (0x3100 + p) 0x0A) ++ natLe 4 skipped ++ zeroBytes 4
      let q := s.objN (0x3100 + p) 0x0D
      let t := s.blockEntryTo q
        { stamp := stamp, tag := p, kind := 1, flags := bnat afterPark + 2 * bnat late, payload := payload }
      if s.taken q = t.taken q then t else t.setFilter l { t.filter l with skipped := 0 }

/-- An edge is accepted at the level `level`, stamped at the original transition (R87, R88). -/
def State.acceptEdge (s : State) (l : FilterLine) (stamp accepted : Nat) (level late : Bool) : State :=
  let f := s.filter l
  let d := s.debounceTime l
  let s := s.setFilter l { f with level := level, afterPark := false, lastEdge := stamp,
                                  debounce := if d = 0 then none else some (accepted + d) }
  let s := match l with
    | .port p => (s.countUp (0x3100 + p) 0x0A).setObj (0x3100 + p) 0x0F stamp
    | .pin n => s.countUp (0x3700 + n) 7
  let s := s.captureEdge l stamp level f.afterPark late f.skipped
  let s := match l with
    | .pin n => if n = (12 : Nat) && level && s.objN 0x370C 1 == 0x20 then
        { s with timebase := { s.timebase with syncIn := some stamp } } else s
    | .port _ => s
  s.edge (lineSource l) stamp level

/-- The debounce window ends; a differing level gives one late edge (R87). -/
def State.endDebounce (s : State) (l : FilterLine) : State :=
  let f := s.filter l
  match f.debounce with
  | some e =>
    if s.now < e then s
    else
      let s := s.setFilter l { f with debounce := none }
      if f.glitch == f.level then s else s.acceptEdge l f.lastTransition e f.glitch true
  | none => s

/-- A window that ended before an instant has ended (R87). -/
def State.debounceBefore (s : State) (l : FilterLine) (t : Tk) : State :=
  match (s.filter l).debounce with
  | some e => if e < t then s.endDebounce l else s
  | none => s

/-- A level that has held for the glitch time passes the filter (R86); within a debounce window it is a change that is ignored,
else an edge where it differs from the accepted level (R87). -/
def State.acceptLevel (s : State) (l : FilterLine) : State :=
  let f := s.filter l
  let at' := f.since + s.glitchTime l
  if f.resync || f.raw == f.glitch || s.now < at' then s
  else
    let s := s.debounceBefore l at'
    let s := s.setFilter l { s.filter l with glitch := f.raw }
    if (s.filter l).debounce.any (fun e => at' < e) then s.rejectEdge l
    else if f.raw == (s.filter l).level then s
    else s.acceptEdge l f.since at' f.raw false

/-- After a restart, the first level that has held for the glitch time becomes the filtered level without an edge; a
level-sensed source sees it (R89). -/
def State.defineLevel (s : State) (l : FilterLine) : State :=
  let f := s.filter l
  if !f.resync || s.now < f.since + s.glitchTime l then s
  else
    let s := s.setFilter l { f with resync := false, glitch := f.raw, level := f.raw, debounce := none }
    let n := lineSource l
    let s := s.setLevel n f.raw f.since
    if f.raw then s.levelArrival n else s

/-- What is due at a line before a new change is looked at. -/
def State.lineDue (s : State) (l : FilterLine) : State := ((s.defineLevel l).acceptLevel l).endDebounce l

/-- The signal of a line takes a level now (R86). -/
def State.lineSignal (s : State) (l : FilterLine) (level : Bool) : State :=
  let s := s.lineDue l
  let f := s.filter l
  if f.raw == level then s
  else
    -- the last transition inside a debounce window stamps its late edge (R87)
    let s' := s.setFilter l { f with raw := level, since := s.now,
                                     lastTransition := if f.debounce.isSome then s.now else f.lastTransition }
    -- a change back before its acceptance is a rejected pulse
    if !f.resync && f.raw != f.glitch then s'.rejectEdge l else s'

/-- The filter and debounce of a line restart empty (R89, R98). -/
def State.restartFilter (s : State) (l : FilterLine) (raw afterPark : Bool) : State :=
  let f := s.filter l
  s.setFilter l { f with raw := raw, since := s.now, resync := true, debounce := none, afterPark := afterPark }

/-! ## The signal of a port -/

/-- Whether the receiver and the pin events of a port are masked: in park, while the safety clamp owns it, and under
calibration isolation (R31, R81, R489). -/
def State.masked (s : State) (p : Nat) : Bool :=
  s.parked p || (s.port p).owner.kind == .clamp || (s.port p).owner.kind == .isolation

/-- Whether the receiver of a port is powered and its output valid (R54, R55). DESIGN CHOICE (log entry 116): the
analogue-mode bit powers it down also under the static function Off. -/
def State.receiverOn (s : State) (p : Nat) : Bool :=
  s.ownerReceives p (s.port p).owner &&
    match (s.port p).receiverAt with
    | some e => decide (e ≤ s.now)
    | none => true

/-- The receiver output of a port (R54, R55, R73). -/
def State.receiverOut (s : State) (p : Nat) : Bool := (s.port p).receiver && s.receiverOn p && !s.masked p

/-- The event signal field in force (R57). -/
def State.eventSignal (s : State) (p : Nat) : Nat := fieldOf (s.settingN p 9) 7 2

/-- The signal that the event signal field selects (R57), as the comparators give it. -/
def State.rawSignal (s : State) (p : Nat) : Bool :=
  let c := s.port p
  match s.eventSignal p with
  | 0 => c.receiver && s.receiverOn p
  | 1 => c.windowAbove || c.windowBelow
  | 2 => c.windowAbove
  | _ => c.windowBelow

/-- The signal of a port, 0 while it is masked. -/
def State.portSignal (s : State) (p : Nat) : Bool := s.rawSignal p && !s.masked p

/-- Whether the filter of a port sees its signal: not while masked, and no receiver edge while the receiver is off (R31, R55,
R81). -/
def State.signalSeen (s : State) (p : Nat) : Bool := !s.masked p && (s.eventSignal p != 0 || s.receiverOn p)

/-- The signal of a port may have changed: its filter follows. A receiver that is off drops a change that the filter has not
accepted yet (R55). -/
def State.followPort (s : State) (p : PortNo) : State :=
  let l : FilterLine := .port p
  if s.masked p then s
  else if s.signalSeen p then s.lineSignal l (s.portSignal p)
  else s.setFilter l { s.filter l with raw := (s.filter l).glitch }

/-- The settings or the owner of a cell have changed: comparators, event signal and what its lane shows follow. -/
def State.cellFollows (s : State) (p : PortNo) : State := ((s.recompare p).followPort p).noteMark p

/-! ## Park (R81 to R84) -/

/-- The floors of R82 for a change to an owner; `amp` says whether the amplifier is on at park entry. -/
def State.parkFloor (s : State) (p : Nat) (new : Owner) : Nat :=
  let c := s.port p
  let t := s.loaded p
  let opens := match c.bus with
    | some b => t.ownerBus p new != some b
    | none => false
  let starts := !c.amp && t.ownerForces p new
  let clears := !s.ownerReceives p c.owner && t.ownerReceives p new
  max (if opens || clears then 8000 else 0) (if starts then 40000 else 0)

/-- The park length for a change to an owner (R68, R82). -/
def State.parkLength (s : State) (p : Nat) (new : Owner) : Nat :=
  if new.kind == .clamp then 800 else max (s.objN (0x3100 + p) 4 * 4) (s.parkFloor p new)

/-- The bus that a port keeps through a park to a new owner (R81). -/
def State.keptBus (s : State) (p : Nat) (new : Owner) : Option Nat :=
  match (s.port p).bus with
  | some b => if (s.loaded p).ownerBus p new = some b then some b else none
  | none => none

/-- A change of owner begins: the port will go into park 100 ns from now (R81, R83, R84). -/
def State.startPark (s : State) (p : Nat) (new : Owner) (cause : OwnerCause) : State :=
  let c := s.port p
  let entry := s.now + 400
  let hold := clampInt (-5000000) 26000000 (Config.ballVoltage s.fresh)
  let park : Park := { entry := entry, exit := entry + s.parkLength p new, oldOwner := c.owner, target := new,
                       cause := cause, retargeted := false, hold := hold, bus := s.keptBus p new }
  let s := (s.setPort p { c with park := some park, schedule := [], lastScheduled := none }).noteMark p
  ((s.nextFresh).countUp (0x3100 + p) 5).setObj (0x3100 + p) 6 entry

/-- Whether a change of owner takes a port to the safety clamp in a park of 200 ns, whatever park runs: a fault (R68, R70), or an
entry to HOLD (R519). -/
def State.clampsFast (s : State) (new : Owner) (cause : OwnerCause) : Bool :=
  new.kind == .clamp && (cause == .fault || s.mode == .hold)

/-- The highest enabled owner changes during a park (R84). A fault and HOLD take the port to the safety clamp 200 ns after the later
of the park entry and the change (R70, R519); every other change waits for the original exit. -/
def State.retarget (s : State) (p : Nat) (k : Park) (new : Owner) (cause : OwnerCause) : State :=
  let c := s.port p
  let exit := if s.clampsFast new cause then max k.entry s.now + 800
    else max (max k.exit (s.now + 800)) (if new.kind == .clamp then 0 else k.entry + s.parkFloor p new)
  let bus := if s.parked p && k.bus.isNone then none else s.keptBus p new
  s.setPort p { c with park := some { k with target := new, cause := cause, retargeted := true, exit := exit, bus := bus } }

/-- One port follows its enabled owners (R76, R80). -/
def State.settleOwner (s : State) (cause : OwnerCause) (p : Nat) : State :=
  let c := s.port p
  let w := s.wantedOwner p
  match c.park with
  | some k =>
    if k.target ≠ w then s.retarget p k w cause
    else if s.clampsFast w cause then s.setPort p { c with park := some { k with exit := min k.exit (max k.entry s.now + 800) } }
    else s
  | none => if c.owner = w then s else s.startPark p w cause

/-- Every port follows its enabled owners, at one instant (R77, R78). -/
def State.settleOwners (s : State) (cause : OwnerCause) : State := s.each (List.range 256) fun s p => s.settleOwner cause p

/-- Every port is clamped at once, without park: SAVE, a reset, and the modes before SAFE (R31, R32, R80). -/
def State.clampAll (s : State) : State :=
  { s with ports := s.ports.map fun x => (x.1, { x.2 with
      owner := { kind := .clamp, unit := 0 }, schedule := [], lastScheduled := none, park := none, bus := none, busNext := none, sourceClamp := false,
      sinkClamp := false, voltageClamp := false, clampSince := none, senseFallback := false, amp := false,
      rangeEnd := none }) }

/-- The entry that records a change of owner (R90). -/
def State.captureOwner (s : State) (p : Nat) (k : Park) : State :=
  if !bitOf (s.objN (0x3100 + p) 0x0E) 1 then s
  else
    let payload := natLe 1 k.oldOwner.kind.code ++ natLe 1 k.oldOwner.unit ++ natLe 1 k.target.kind.code ++
      natLe 1 k.target.unit ++ natLe 4 ((k.exit - k.entry) / 4) ++ natLe 4 (toCode 32 k.hold) ++ natLe 1 k.cause.code ++
      zeroBytes 3
    s.blockEntryTo (s.objN (0x3100 + p) 0x0D)
      { stamp := k.entry, tag := p, kind := 2, flags := bnat k.retargeted, payload := payload }

/-- The cell as a port leaves park to the owner of `k`: what the park has ended is gone, and the writes that waited act unless
the safety clamp has taken the port (R33, R70, R81). -/
def State.parkEnds (s : State) (p : Nat) (k : Park) : State :=
  let c := s.port p
  let t := if k.target.kind == .clamp then s else s.loaded p
  let bus := t.ownerBus p k.target
  t.setPort p { (t.port p).unclamped with
    park := none, owner := k.target, point := {}, lastParkExit := k.exit, rangeEnd := none, senseFallback := false, amp := t.ownerForces p k.target,
    receiverAt := if !s.ownerReceives p c.owner then none else c.receiverAt,
    bus := if k.bus = bus then k.bus else none,
    busNext := if k.bus = bus then none else bus.map fun b => (b, k.exit + 20000) }

/-- A port leaves park (R83): its owner shows, its filter restarts (R89), and what the owner forces or drives settles. -/
def State.leavePark (s : State) (p : PortNo) : State :=
  match (s.port p).park with
  | none => s
  | some k =>
    if s.now < k.exit then s
    else
      let s := ((s.parkEnds p k).captureOwner p k).recompare p
      let s := s.restartFilter (.port p) (s.portSignal p) true
      let s := if s.ownerForces p k.target then s.settle p k.exit (s.forceSettling p k.target)
        else if s.ownerDrives p k.target then s.settle p k.exit 12000
        else s
      s.noteMark p

/-! ## Rounding of settings (R35, R36, R38, R53, R56) -/

/-- The value of a port setting after rounding to the step of its circuit. -/
def roundSetting (sub : Nat) (v : Int) : Int :=
  if sub == 0x02 then -5000000 + divNear (divNear ((v + 5000000) * 262143) 31000000 * 31000000) 262143
  else if sub == 0x03 then divNear (divNear (v * 131071) 1000000 * 1000000) 131071
  else if sub == 0x0A || sub == 0x0B then divNear v 500 * 500
  else if sub == 0x0E || sub == 0x0F then divNear v 8000 * 8000
  else if sub == 0x14 || sub == 0x15 then divNear (divNear (v * 4096) 2500000 * 2500000) 4096
  else v

/-! ## Writes to the port object -/

/-- The refusals of a write to the port object that its chapter gives beyond modes, claims and ranges. DESIGN CHOICE (log entry
145): two limits are compared as they are written and as they are stored, the new one before its rounding. DESIGN CHOICE (log
entry 146): a function write is refused for a route into the pin path also while its injection is suspended (R63). -/
def State.portConflict (s : State) (p sub : Nat) (v : Int) : Option Nat :=
  let o := fun sub => s.obj (0x3000 + p) sub
  let n := v.toNat
  if sub == 0x01 then
    (if n != 0 && n != 3 && (o 0x10 != 0xFF || routedTo (s.objN (0x3000 + p / 4 * 4) 0x21) p || s.diagnosing p) then some 0x0F010301 else none)
  else if sub == 0x07 then (if v - o 0x08 < 100000 then some 0x0F010301 else none)
  else if sub == 0x08 then (if o 0x07 - v < 100000 then some 0x0F010301 else none)
  else if sub == 0x09 then (if fieldOf n 0 2 == 3 || fieldOf n 4 2 == 3 then some 0x06090030 else none)
  else if sub == 0x0A then (if v < o 0x0B then some 0x0F010301 else none)
  else if sub == 0x0B then (if o 0x0A < v then some 0x0F010301 else none)
  else if sub == 0x0E then (if v < o 0x0F then some 0x0F010301 else none)
  else if sub == 0x0F then (if o 0x0E < v then some 0x0F010301 else none)
  else if sub == 0x14 then (if v < o 0x15 then some 0x0F010301 else none)
  else if sub == 0x15 then (if o 0x14 < v then some 0x0F010301 else none)
  else if sub == 0x10 then
    (if 7 < n && n != 0xFF then some 0x06090030
     else if n != 0xFF && o 0x01 != 0 && o 0x01 != 3 then some 0x0F010301 else none)
  else if sub == 0x21 then
    (if fieldOf n 2 2 == 3 then some 0x06090030
     else if fieldOf n 2 2 == 2 && s.objN (0x3000 + p / 4 * 4 + fieldOf n 0 2) 1 != 0 &&
       s.objN (0x3000 + p / 4 * 4 + fieldOf n 0 2) 1 != 3 then some 0x0F010301 else none)
  else none

/-- A static function change takes effect at `at'` (R49, R52); the sense fallback holds on while the amplifier goes on forcing
(R42). -/
def State.applyFunction (s : State) (p old new at' : Nat) : State :=
  if old = new then s
  else
    let c := (s.port p).settles at' (s.functionSettling p old new)
    s.setPort p { c.unclamped with
      changedAt := at', changedFrom := old, amp := isForce new, senseFallback := c.senseFallback && isForce old && isForce new }

/-- The receiver of a port restarts at an instant, where the analogue-mode bit clears (R55). -/
def State.restartReceiver (s : State) (p : Nat) (old new : Int) (at' : Tk) : State :=
  if bitOf old.toNat 6 && !bitOf new.toNat 6 then s.setPort p { s.port p with receiverAt := some (at' + 8000) } else s

/-- A stored setting takes effect at the cell at `at'`; `old` and `new` are the values before and after the write.
DESIGN CHOICE (log entry 117): a write of the force voltage or force current settles anew also with its present value, where
function, range and compensation need a difference (R49). DESIGN CHOICE (log entry 147): a change of range, level or
compensation settles only while the function forces. DESIGN CHOICE (log entry 29): on a change of bus the new pair closes
4 microseconds after the write, with no close time of 5 microseconds on top (R60). -/
def State.applySetting (s : State) (p : PortNo) (sub : Nat) (old new : Int) (at' : Nat) : State :=
  let f := s.settingN p 1
  let s := if sub == 0x01 then s.applyFunction p old.toNat new.toNat at'
    else if sub == 0x02 then (if f == 1 then s.settle p at' (s.fullScale p) else s)
    else if sub == 0x03 then (if f == 2 then s.settle p at' (2 * s.fullScale p) else s)
    else if sub == 0x04 then
      (if isForce f && old != new then
        let time := rangeChangeTime new.toNat * compFactor (s.settingN p 9)
        s.setPort p { (s.port p).settles at' time with rangeEnd := some (at' + time), rangeFrom := old.toNat }
       else s)
    else if sub == 0x09 then
      let s := if isForce f && fieldOf old.toNat 2 2 != fieldOf new.toNat 2 2 then s.settle p at' (s.fullScale p) else s
      let s := s.restartReceiver p old new at'
      if s.senseRuns p && fieldOf new.toNat 0 2 == 2 then s
      else s.setPort p { s.port p with senseFallback := false }
    else if sub == 0x10 then
      let c := s.port p
      let b := if 0 ≤ new ∧ new < 8 then some new.toNat else none
      s.setPort p { c with bus := if c.bus = b then c.bus else none,
                           busNext := if c.bus = b then none
                             else b.map fun b => (b, at' + if c.bus.isSome then 16000 else 20000) }
    else s
  s.cellFollows p

/-- Whether a write to the port object waits before it reaches the cell: while a fault is latched (R70), during a range change
(R50), and, but for the check source of the quad, while the safety clamp holds the port or the port is in park (R33). -/
def State.writeWaits (s : State) (p sub : Nat) : Bool :=
  let c := s.port p
  c.latched.isSome || c.rangeEnd.any (fun e => s.now < e) ||
    (sub != 0x20 && sub != 0x21 && (s.parked p || c.owner.kind == .clamp))

/-- A stored write reaches the cell at `at'`: it acts where the static setting acts (R33); under another owner the receiver, the
comparators and the event signal follow the port object as far as that owner leaves them to it (R30, R159, R396). -/
def State.writeActs (s : State) (p : PortNo) (sub : Nat) (old new : Int) (at' : Tk) : State :=
  if s.staticActs p then s.applySetting p sub old new at'
  else
    let k := (s.port p).owner.kind
    (if sub == 0x09 && k != .engine && k != .unheld then s.restartReceiver p old new at' else s).cellFollows p

/-- An accepted write to the port object: the setting is stored at once, and waits where R50, R33 or R70 hold it back. -/
def State.portStore (s : State) (p : PortNo) (sub : Nat) (v : Int) : State :=
  let old := s.obj (0x3000 + p) sub
  let new := roundSetting sub v
  let s := s.setObj (0x3000 + p) sub new
  if s.writeWaits p sub then s.setPort p { s.port p with held := (s.port p).held ++ [{ sub := sub, old := old, new := new }] }
  else s.writeActs p sub old new s.now

/-- A write to the port object other than fault clear, after its checks. -/
def State.portWrite (s : State) (p : PortNo) (sub : Nat) (v : Int) : Res := do
  refuseWith (s.portConflict p sub v)
  return s.portStore p sub v

/-- The held writes of a range change take effect one after another at its completion `e`; those behind a further range change
wait for that one (R50). `fuel` bounds their number. -/
def State.releaseHeld (p : PortNo) (e : Tk) : Nat → State → State
  | 0, s => s
  | n + 1, s =>
    match (s.port p).held with
    | [] => s
    | w :: ws =>
      if (s.port p).rangeEnd.any (fun x => e < x) then s
      else ((s.setPort p { s.port p with held := ws }).writeActs p w.sub w.old w.new e).releaseHeld p e n

/-- The end of a range change (R50). Where a fault is latched or the port is clamped or in park, its writes go on waiting (R33,
R70). -/
def State.endRangeChange (s : State) (p : PortNo) : State :=
  let c := s.port p
  match c.rangeEnd with
  | some e =>
    if s.now < e then s
    else
      let s := s.setPort p { c with rangeEnd := none }
      if c.latched.isSome || s.parked p || c.owner.kind == .clamp then s else State.releaseHeld p e c.held.length s
  | none => s

/-! ## Faults (R66 to R70) -/

/-- The codes of the fault causes (R67). -/
def PortCause.code (c : PortCause) : Nat :=
  match c with
  | .clampTimeout => 1 | .senseOpen => 2 | .overtemperature => 3 | .ballOvervoltage => 4 | .dieCurrent => 5
  | .moduleCurrent => 6 | .rail => 7

/-- A cell detects a fault (R67, R68): it is counted and logged, and latched when the latch is clear. -/
def State.portFault (s : State) (p : Nat) (cause : PortCause) : State :=
  let owner := (s.port p).owner
  let s := s.countUp (0x3000 + p) 0x1C
  let s := s.logRec s.now p 4 [BitVec.ofNat 8 (PortCause.code cause), BitVec.ofNat 8 owner.kind.code]
  let c := s.port p
  if c.latched.isSome then s
  else (s.setPort p { c with latched := some cause }).settleOwner .fault p

/-- The faults of the current limits (R66): every driving port of the die, or of the module. -/
def State.currentLimit (s : State) (die : Option DieNo) : State :=
  let ports := (List.range 256).filter fun p => s.driving p &&
    match die with
    | some d => p / 64 == d.val
    | none => true
  s.each ports fun s p => s.portFault p (if die.isSome then .dieCurrent else .moduleCurrent)

/-- Whether the balls of a port lie within the rails (R67, R69). -/
def PortCell.ballsWithin (c : PortCell) : Bool :=
  [c.forceUv, c.senseUv].all fun v => decide (-6000000 ≤ v) && decide (v ≤ 28000000)

/-- A write of TRUE to fault clear (R69); `gone` says whether the cause of a sense, temperature or current fault has gone. -/
def State.clearFault (s : State) (p : PortNo) (v : Int) (gone : Bool) : Res :=
  if v = 0 then .ok s
  else match (s.port p).latched with
    | none => .ok s
    | some cause =>
      let ok := match cause with
        | .clampTimeout => true
        | .rail => false
        | .ballOvervoltage => (s.port p).ballsWithin
        | _ => gone
      if ok then .ok ((s.setPort p { s.port p with latched := none }).settleOwner .disable p)
      else refuse 0x0F010302

/-! ## What a port reads -/

/-- Whether a port is in the clamped state (R31). -/
def State.clampedState (s : State) (p : Nat) : Bool := s.worksAs p .clamp

/-- Whether a port rests in the safe state (R30). DESIGN CHOICE (log entry 118): with the static function Off a port whose bus
switch pair is closed is not in it, since the safe state has every bus switch open. -/
def State.safeState (s : State) (p : Nat) : Bool :=
  s.worksAs p .unheld || (s.staticActs p && s.settingN p 1 == 0 && (s.port p).bus.isNone)

/-- The status of a port (R73). DESIGN CHOICE (log entry 148): it is computed from the cell at reset too, where the card gives the
default 0x0400 and every port is clamped (R31). -/
def State.portStatus (s : State) (p : Nat) : Nat :=
  let c := s.port p
  let held := s.driving p
  bnat (s.staticActs p) + 2 * bnat c.settling + 4 * bnat (c.sourceClamp && held) + 8 * bnat (c.sinkClamp && held) +
    16 * bnat (c.voltageClamp && held) + 32 * bnat (c.senseFallback && s.senseRuns p) + 64 * bnat (s.receiverOut p) +
    128 * bnat c.windowAbove + 256 * bnat c.windowBelow + 512 * bnat c.latched.isSome +
    1024 * bnat (s.safeState p) + 2048 * bnat (s.clampedState p) + 4096 * bnat (s.busOf p).isSome

/-- The dissipation of a cell in 10^-15 W (R65). -/
def dissipation (uv na : Int) : Int := if 0 < na then (28000000 - uv) * na else (uv + 6000000) * (-na)

/-- The check status of a quad (R63, R64, R71, R128). DESIGN CHOICE (log entry 144): bit 0 tells of the user's injection and of a
diagnosis, not of what calibration injects. -/
def State.checkStatus (s : State) (q : Nat) : Nat :=
  bnat ((s.userCheck q).isSome || s.diagnosisInjects q) + 2 * bnat (s.checkInCal q)

/-- The event status of a port (R92): masked during park and in the clamped state; a park and the clamp leave no debounce
window. -/
def State.eventStatus (s : State) (p : PortNo) : Nat :=
  let f := (s.port p).filter
  bnat f.level + 2 * bnat (s.parked p || s.clampedState p) + 4 * bnat f.resync +
    8 * bnat (f.debounce.isSome && !s.masked p)

/-! ## The owner and event object (R91) -/

/-- A write to the owner and event object, after its checks. -/
def State.ownerObjectWrite (s : State) (a : Accessor) (p : PortNo) (sub : Nat) (v : Int) : Res := do
  if sub == 0x0D then refuseWith (s.queueRefAbort (s.sessionOf a) v.toNat)
  return s.setObj (0x3100 + p) sub v

/-- Steps 1 and 2 of R79, as the claim on a port ends: it leaves the masks of enabled blocks, and its settings return to their
defaults. DESIGN CHOICE (log entry 119): a protocol engine, whose port field has no value for none, loses its enable and keeps
its port number. -/
def State.portResets (s : State) (p : Nat) : State :=
  -- 1: the masks of enabled blocks
  let w := 2 + p / 32
  let s := if s.mapperOn p then s.setObj 0x3400 w (putBit (s.objN 0x3400 w) (p % 32) false : Nat) else s
  let s := s.each (List.range 4) fun s m =>
    s.setSweep m { s.sweep m with ports := (s.sweep m).ports.filter (· != p) }
  let s := s.each ((List.range 8).flatMap fun i => [0x3610 + i, 0x3618 + i, 0x3620 + i]) fun s idx =>
    if s.objN idx 1 == 1 && s.objN idx 2 == p then s.setObj idx 1 0 else s
  let s := s.each (List.range 16) fun s z =>
    if (s.zone z).live then s.setZone z { s.zone z with maskLost := p :: (s.zone z).maskLost } else s
  -- 2: the claim subindexes; the check source stays while another port of the quad is claimed
  let others := (List.range 4).any fun k => 4 * (p / 4) + k != p && (s.holder clsPort (4 * (p / 4) + k)).isSome
  let s := s.resetObjs (0x3000 + p) fun sub => isClaimSub (0x3000 + p) sub && sub != 0x20 && sub != 0x21
  let s := if others then s else s.resetObjs (0x3000 + p / 4 * 4) fun sub => sub == 0x20 || sub == 0x21
  ((s.resetClaimObjs (0x3100 + p)).loaded p).cellFollows (Fin.ofNat 256 p)

/-- The claim on a port ends (R79): masks, settings and owner. -/
def State.portClaimEnds (s : State) (cause : OwnerCause) (p : Nat) : State := (s.portResets p).settleOwner cause p

end Sys2Proof.Machine
end

