-- ==== Sys2Proof/Machine/Pins.lean ====
section
/-!
DEFINITION. Service pins SIO00 to SIO31 (R93 to R100): what a pad carries, its filter, its functions and its status.
-/

namespace Sys2Proof.Machine

/-- The pins a function is allowed on (R94). -/
def pinAllows (n f : Nat) : Bool :=
  if f ≤ 0x04 then true
  else if f == 0x10 then n < 12 && n % 3 == 0
  else if f == 0x11 then n < 12 && n % 3 == 1
  else if f == 0x12 then n < 12 && n % 3 == 2
  else if f == 0x20 || f == 0x21 then n == 12
  else if f == 0x22 || f == 0x23 then 13 ≤ n && n ≤ 16
  else if f == 0x30 then n == 17
  else if f == 0x31 then n == 18
  else if f == 0x32 then n == 19
  else false

/-- The function of a pin; before SAFE every pin is high-impedance (R93). -/
def State.pinFunction (s : State) (n : Nat) : Nat :=
  match s.mode with
  | .off | .keep | .wake => 0
  | _ => s.objN (0x3700 + n) 1

/-- Whether the invert bit of a pin applies (R100). -/
def State.pinInverts (s : State) (n : Nat) : Bool :=
  bitOf (s.objN (0x3700 + n) 2) 3 && decide (1 ≤ s.pinFunction n ∧ s.pinFunction n ≤ 4)

/-- The level that the function of a pin drives, if it drives the pad (R94, R97); no pin drives while VIO is absent
(R536). DESIGN CHOICE (log entry 151): TXD stays recessive also while an engine sends; the bits of a frame are not modelled.
In HOLD and SAVE every output but SIO18 and SIO19 does what it did at the entry, whatever is written meanwhile. -/
def State.pinDrives (s : State) (n : Nat) : Option Bool :=
  if s.power.vio.isNone then none else
  let c := s.pin n
  let f := s.pinFunction n
  let inv := s.pinInverts n
  let level := s.objN (0x3700 + n) 3 == 1
  let live := match f with
    | 0x02 => some (level != inv)
    | 0x03 => if level != inv then none else some false
    | 0x04 => if c.fabricOE then some (c.fabricD != inv) else none
    | 0x10 => some true
    | 0x12 => some (bitOf (s.objN (0x3600 + n / 3) 5) 4)
    | 0x21 => some (s.syncs && s.timebase.syncHigh.isSome)
    | 0x23 => some (s.trigOut (n - 13)).highUntil.isSome
    | _ => none
  if f == 0x31 then (if s.mode == .hold || s.mode == .save then some false else none)
  else if f == 0x32 then some (s.mode == .idle || s.mode == .run || s.mode == .throttle)
  else if s.mode == .hold || s.mode == .save then c.frozen.getD live
  else live

/-- The level at a pad (R100): the outside holds it, or the pin drives it, or a pull sets it; a floating pad has no
defined level, and every pad reads 0 while VIO is absent (R536). -/
def State.padLevel (s : State) (n : Nat) : Bool :=
  if s.power.vio.isNone then false else
  match (s.pin n).outside with
  | some l => l
  | none => match s.pinDrives n with
    | some l => l
    | none => match fieldOf (s.objN (0x3700 + n) 2) 0 2 with
      | 1 => true
      | 2 => false
      | _ => Config.floatingPad n s.now

/-- The input level of a pin, after polarity (0x37pp:04). -/
def State.inputLevel (s : State) (n : Nat) : Bool :=
  if s.pinFunction n == 0 then false else s.padLevel n != s.pinInverts n

/-- Whether a function is an input (R98). -/
def isInputFunction (f : Nat) : Bool := f == 0x01 || f == 0x11 || f == 0x20 || f == 0x22 || f == 0x30

/-- The signal that a pin sends into its filter (R98): the input level of an input function, the pad level as read back
of an output function. A fabric signal is an output while the fabric drives it (R94, R398). -/
def State.pinSignal (s : State) (n : Nat) : Bool :=
  if isInputFunction (s.pinFunction n) || (s.pinFunction n == 0x04 && (s.pinDrives n).isNone) then s.inputLevel n
  else s.padLevel n

/-- Whether a driven pad reads back the opposite level (R100). -/
def State.opposed (s : State) (n : Nat) : Bool :=
  match s.pinDrives n with
  | some l => s.padLevel n != l
  | none => false

/-- A pad may have changed: contention, the interlock's low time and the filter follow. While VIO is absent the pin reads 0
and no edge is counted (R536). -/
def State.followPin (s : State) (n : PinNo) : State :=
  let c := s.pin n
  let since := if s.opposed n then (c.opposedSince.orElse fun _ => some s.now) else none
  let low := if s.pinFunction n == 0x30 && !s.padLevel n then (c.lowSince.orElse fun _ => some s.now) else none
  let s := s.setPin n { c with opposedSince := since, contention := c.contention && since.isSome, lowSince := low }
  if s.pinFunction n == 0 then s.setFilter (.pin n) { s.filter (.pin n) with debounce := none }
  else if s.power.vio.isNone then
    (s.setFilter (.pin n) { s.filter (.pin n) with raw := false, since := s.now, glitch := false, level := false, resync := false,
                                                   debounce := none }).setLevel (408 + n) false s.now
  else s.lineSignal (.pin n) (s.pinSignal n)

/-- Every pin follows what drives it. -/
def State.followPins (s : State) : State := (List.finRange 32).foldl State.followPin s

/-- A pin begins to sense: its filter and debounce start empty (R98). -/
def State.startSensing (s : State) (n : PinNo) : State := s.restartFilter (.pin n) (s.pinSignal n) false

/-- A write to the object of a service pin, after its checks (R94, R95, R100). -/
def State.pinWrite (s : State) (n : PinNo) (sub : Nat) (v : Int) : Res := do
  if sub == 1 then refuseIf (!pinAllows n v.toNat) 0x06090030
  if sub == 2 then refuseIf (fieldOf v.toNat 0 2 == 3) 0x06090030
  let old := s.pinFunction n
  let s := s.setObj (0x3700 + n) sub v
  let s := if sub == 1 && n == 12 && v == 0x21 && old != 0x21 then s.syncSkips else s
  if sub == 1 && old == 0 && v != 0 then return (s.startSensing n).followPin n
  else return s.followPin n

/-- The status of a pin (R100). -/
def State.pinStatus (s : State) (n : Nat) : Nat :=
  let c := s.pin n
  bnat c.filter.level + 2 * bnat (s.pinDrives n).isSome + 4 * bnat c.contention + 8 * bnat c.filter.debounce.isSome

/-- On entry to HOLD or SAVE every output other than SIO18 and SIO19 keeps its level (R97). -/
def State.freezePins (s : State) : State :=
  s.each (List.range 32) fun s n => s.setPin n { s.pin n with frozen := some (s.pinDrives n) }

/-- On leaving HOLD the outputs follow their functions again: SYNC and the trigger outputs go low, and what waited at these rises
from here on (R336, R338). -/
def State.thawPins (s : State) : State :=
  let held := fun (n : Nat) => (s.pin n).frozen == some (some true)
  let s := if held 12 then { s with timebase := { s.timebase with syncLowSince := some s.now } } else s
  let s := s.each (List.range 4) fun s o =>
    let x := s.trigOut o
    s.setTrigOut o { x with waiting := x.waiting.map fun r => { r with arrived := max r.arrived s.now }
                            lowSince := if held (13 + o) then some s.now else x.lowSince }
  s.each (List.range 32) fun s n => s.setPin n { s.pin n with frozen := none }

/-- The mode changes, and every pin follows it: SIO19 shows a working mode (R97, R98, R100). -/
def State.modeBecomes (s : State) (m : Mode) (why : Nat) : State := (s.changeMode m why).followPins

end Sys2Proof.Machine
end

