-- ==== Sys2Proof/Machine/Flags.lean ====
section
/-!
DEFINITION. The flags of a step core: the fields of PSR (R257), what arithmetic, logic and shifts compute with their
flags (R268, R269), and the conditions of B (R271).
-/

namespace Sys2Proof.Machine

/-! ## PSR (R257) -/

/-- Negative. -/
def flagN : Nat := 0
/-- Zero. -/
def flagZ : Nat := 1
/-- Carry. -/
def flagC : Nat := 2
/-- Overflow, and refusal of a device instruction. -/
def flagV : Nat := 3
/-- Normal events enabled. -/
def flagNE : Nat := 4
/-- Fast events enabled. -/
def flagFE : Nat := 5
/-- Inside a normal handler. -/
def flagNA : Nat := 6
/-- Inside a fast handler. -/
def flagFA : Nat := 7

/-- A flag of PSR. -/
def Core.flag (c : Core) (i : Nat) : Bool := c.psr.getLsbD i

/-- A status word with one flag set or cleared. -/
def putFlag (w : Word) (i : Nat) (b : Bool) : Word :=
  if b then w ||| BitVec.ofNat 32 (2 ^ i) else w &&& ~~~(BitVec.ofNat 32 (2 ^ i))

/-- A flag of PSR set or cleared. -/
def Core.setFlag (c : Core) (i : Nat) (b : Bool) : Core := { c with psr := putFlag c.psr i b }

/-! ## Results with flags (R268) -/

/-- A result, with the carry and the overflow where the instruction changes them. -/
structure Alu where
  value : Word
  carry : Option Bool := none
  overflow : Option Bool := none
  deriving DecidableEq, Repr

/-- Addition: carry out of bit 31, signed overflow. -/
def aluAdd (a b : Word) : Alu :=
  { value := a + b, carry := some (decide (2 ^ 32 ≤ a.toNat + b.toNat)),
    overflow := some (a.msb == b.msb && (a + b).msb != a.msb) }

/-- Subtraction: carry is 1 when no borrow. -/
def aluSub (a b : Word) : Alu :=
  { value := a - b, carry := some (decide (b.toNat ≤ a.toNat)),
    overflow := some (a.msb != b.msb && (a - b).msb != a.msb) }

/-- A logic or multiply result: only N and Z follow. -/
def aluPlain (v : Word) : Alu := { value := v }

/-- A left shift; a nonzero amount sets the carry to the last bit shifted out. -/
def aluShl (a : Word) (n : Nat) : Alu :=
  { value := a <<< n, carry := if n = 0 then none else some (a.getLsbD (32 - n)) }

/-- A logical right shift. -/
def aluShr (a : Word) (n : Nat) : Alu :=
  { value := a >>> n, carry := if n = 0 then none else some (a.getLsbD (n - 1)) }

/-- An arithmetic right shift. -/
def aluSar (a : Word) (n : Nat) : Alu :=
  { value := a.sshiftRight n, carry := if n = 0 then none else some (a.getLsbD (n - 1)) }

/-- The high word of the signed product. -/
def mulHigh (a b : Word) : Word := BitVec.ofInt 32 ((a.toInt * b.toInt) / 2 ^ 32)

/-- The high word of the unsigned product. -/
def mulHighU (a b : Word) : Word := BitVec.ofNat 32 (a.toNat * b.toNat / 2 ^ 32)

/-- The signed quotient, truncated toward zero; -2^31 / -1 gives -2^31 (R269). -/
def divSigned (a b : Word) : Word := BitVec.ofInt 32 (a.toInt.tdiv b.toInt)

/-- The signed remainder with the sign of the dividend. -/
def remSigned (a b : Word) : Word := BitVec.ofInt 32 (a.toInt.tmod b.toInt)

/-- The flags of a result (R268). -/
def Core.setFlags (c : Core) (r : Alu) : Core :=
  let c := (c.setFlag flagN r.value.msb).setFlag flagZ (r.value == 0#32)
  let c := match r.carry with
    | some b => c.setFlag flagC b
    | none => c
  match r.overflow with
  | some b => c.setFlag flagV b
  | none => c

/-! ## Conditions (R271) -/

/-- Whether a condition of B holds. -/
def Core.holds (c : Core) (cond : Nat) : Bool :=
  let n := c.flag flagN
  let z := c.flag flagZ
  let cy := c.flag flagC
  let v := c.flag flagV
  match cond with
  | 0 => true
  | 1 => z
  | 2 => !z
  | 3 => n != v
  | 4 => n == v
  | 5 => !cy
  | 6 => cy
  | 7 => n
  | 8 => !n
  | 9 => v
  | 10 => !v
  | 11 => !z && n == v
  | 12 => z || n != v
  | 13 => cy && !z
  | 14 => !cy || z
  | _ => false

end Sys2Proof.Machine
end

