-- ==== Sys2Proof/Machine/Operands.lean ====
section
/-!
DEFINITION. The operands of step-core instructions: the banked register file (R256, R259), the instruction formats as
words (R266, R269 to R273), the words that are instructions (R267), and the operand word of ODR and ODW (R274).
-/

namespace Sys2Proof.Machine

/-! ## Registers -/

/-- Whether a register number is banked by PSR.FA (R259). -/
def isBanked (r : Nat) : Bool := 8 ≤ r && r ≤ 13

/-- A general register of the bank that PSR.FA selects. -/
def Core.reg (c : Core) (r : Reg) : Word :=
  if c.flag flagFA && isBanked r.val then (c.fast.toList.getD (r.val - 8) 0#32) else c.g.get r

/-- A general register of that bank takes a value. -/
def Core.setReg (c : Core) (r : Reg) (v : Word) : Core :=
  if c.flag flagFA && isBanked r.val then { c with fast := c.fast.setIfInBounds (r.val - 8) v }
  else { c with g := c.g.set r.val v }

/-! ## Formats (R266) -/

/-- Format R. -/
def wordR (op : Nat) (rd ra rb : Nat) : Word := BitVec.ofNat 32 (op + rd * 2 ^ 8 + ra * 2 ^ 12 + rb * 2 ^ 16)

/-- Format I. -/
def wordI (op : Nat) (rd ra : Nat) (imm : Imm16) : Word :=
  BitVec.ofNat 32 (op + rd * 2 ^ 8 + ra * 2 ^ 12 + imm.toNat * 2 ^ 16)

/-- Format B. -/
def wordB (cond : Nat) (off : BitVec 20) : Word := BitVec.ofNat 32 (0x30 + cond * 2 ^ 8 + off.toNat * 2 ^ 12)

/-- Format J. -/
def wordJ (off : BitVec 24) : Word := BitVec.ofNat 32 (0x31 + off.toNat * 2 ^ 8)

/-- Whether a word is an instruction (R267): a listed opcode, reserved bits and fields that must be 0 at 0, no condition
15. -/
def legalWord (w : Word) : Bool :=
  let v := w.toNat
  let op := fieldOf v 0 8
  let rd0 := fieldOf v 8 4 == 0
  let ra0 := fieldOf v 12 4 == 0
  let rb0 := fieldOf v 16 4 == 0
  let hi0 := fieldOf v 20 12 == 0
  if 0x01 ≤ op && op ≤ 0x0E || op == 0x29 then hi0
  else if op == 0x0F then hi0 && rd0
  else if op == 0x11 || 0x13 ≤ op && op ≤ 0x15 then true
  else if 0x16 ≤ op && op ≤ 0x18 then decide (fieldOf v 16 16 < 32)
  else if op == 0x1F then rd0
  else if op == 0x20 then ra0
  else if 0x21 ≤ op && op ≤ 0x28 then true
  else if op == 0x30 then fieldOf v 8 4 != 15
  else if op == 0x31 then true
  else if op == 0x32 then rd0 && rb0 && hi0
  else if op == 0x33 then rb0 && hi0
  else if op == 0x40 then ra0
  else if op == 0x41 then rd0
  else if op == 0x42 || op == 0x45 then decide (v < 256)
  else if op == 0x43 then rd0 && ra0
  else if op == 0x50 then true
  else if 0x51 ≤ op && op ≤ 0x53 then rd0 && hi0
  else if op == 0x54 || op == 0x56 then rb0 && hi0
  else if op == 0x55 then rd0 && rb0 && hi0
  else if op == 0x57 then ra0
  else false

/-! ## The operand word of ODR and ODW (R274) -/

/-- Subindex. -/
def operandSub (w : Word) : Nat := fieldOf w.toNat 0 8
/-- Index. -/
def operandIndex (w : Word) : Nat := fieldOf w.toNat 8 16
/-- Part. -/
def operandPart (w : Word) : Nat := fieldOf w.toNat 24 2
/-- Whether part and reserved bits are allowed. -/
def operandOk (w : Word) : Bool := decide (operandPart w < 2) && fieldOf w.toNat 26 6 == 0

end Sys2Proof.Machine
end

