-- ==== Sys2Proof/Machine/Chains.lean ====
section
/-!
DEFINITION. Decimation chains: what a lane does with a kept sample (R132 to R139), its outputs (R152, R153), coefficient
banks and cross-fades (R141 to R144), phase delays and synchronising resets (R145 to R148), configuration (R149, R150).
-/

namespace Sys2Proof.Machine

/-! ## The settings of a chain -/

/-- A setting of a chain. -/
def State.chainSet (s : State) (n sub : Nat) : Nat := s.objN (0x3300 + n) sub

/-- The fine decimation D (R137). -/
def State.fineDecimation (s : State) (n : Nat) : Nat :=
  s.chainSet n 3 * s.chainSet n 5 * s.chainSet n 7 * s.chainSet n 9

/-- The effective period of a converter (R103). -/
def State.effectivePeriod (s : State) (q : Nat) : Nat := s.objN (0x3200 + q) 0x18

/-- The span L of the fine path, in input samples (R138). -/
def State.fineSpan (s : State) (n : Nat) : Nat :=
  let o := s.chainSet n
  (if o 3 = 1 then 1 else o 2 * (o 3 - 1) + 1) + (o 4 - 1) * o 3 + (o 6 - 1) * o 3 * o 5 + (o 8 - 1) * o 3 * o 5 * o 7

/-- Twice the group delay G of the fine path, in input samples (R136, R138). -/
def State.groupDelay2 (s : State) (n : Nat) : Nat :=
  let o := s.chainSet n
  o 2 * (o 3 - 1) + (o 4 - 1) * o 3 + (o 6 - 1) * o 3 * o 5 + (o 8 - 1) * o 3 * o 5 * o 7

/-- The stated group delay (R139). -/
def State.statedDelay (s : State) (n : Nat) : Nat :=
  let d := s.fineDecimation n
  (s.fineSpan n + d - 1) / d - 1

/-- Whether a stage structure is valid (R137); `o` gives the settings by subindex, `p` is the programmed period. -/
def chainValid (o : Nat → Nat) (p : Nat) : Bool :=
  let d := o 3 * o 5 * o 7 * o 9
  decide (160 ≤ d * p) && decide (d * p ≤ 4000000000) && decide (o 4 + o 6 + o 8 ≤ 2048) &&
    (o 4 != 0 || o 5 == 1) && (o 6 != 0 || o 7 == 1) && (o 8 != 0 || o 9 == 1) &&
    decide ((o 4 * o 7 * o 9 + o 6 * o 9 + o 8) * 5 ≤ p * d)

/-! ## Filters -/

/-- The ends of Q1.31. -/
def saturate (v : Int) : Int := clampInt (-2147483648) 2147483647 v

/-- A fraction `v / den` of Q1.31 rounded once to 24 significant bits, ties away from zero, and whether the rounded number
leaves the range (R135, R136). -/
def round24 (v : Int) (den : Nat := 1) : Int × Bool :=
  let r := divNear v (256 * den) * 256
  (clampInt (-2147483648) 2147483392 r, decide (r < -2147483648 ∨ 2147483392 < r))

/-- The integrators of a comb take one input, first integrator first. -/
def integrate : Int → List Int → List Int
  | _, [] => []
  | x, i :: is => (i + x) :: integrate (i + x) is

/-- The comb stages with differential delay 1 take one input: their output and their new delays. -/
def combStages : Int → List Int → Int × List Int
  | x, [] => (x, [])
  | x, d :: ds => let (y, r) := combStages (x - d) ds; (y, x :: r)

/-- A comb of `order` stages and decimation `m` takes one input; every `m` inputs it gives an output with DC gain 1 within
2^-24, as a numerator over `combDen` (R135, R136). -/
def combStep (order m : Nat) (c : CombState) (x : Int) : CombState × Option Int :=
  let ints := integrate x (c.ints ++ List.replicate (order - c.ints.length) 0)
  let c := { c with ints := ints, count := c.count + 1 }
  if c.count < m then (c, none)
  else
    let (y, ds) := combStages (ints.getLast?.getD 0) (c.delays ++ List.replicate (order - c.delays.length) 0)
    let gain : Int := 2 ^ 48 + clampInt (-(2 ^ 24)) (2 ^ 24) (Config.combGain order m)
    ({ c with delays := ds, count := 0 }, some (y * gain))

/-- The denominator of an output of a comb. -/
def combDen (order m : Nat) : Nat := 2 ^ 48 * m ^ order

/-- The coefficients of a bank. -/
def State.bankCoefs (s : State) (n : Nat) (bk : Bank) : List Int :=
  let bs := s.blob (0x3300 + n) (match bk with | .a => 0x18 | .b => 0x19)
  (List.range (bs.length / 4)).map fun i => toSigned 32 (fieldLe bs (4 * i) 4)

/-- The sum of an FIR stage. -/
def firSum : List Int → List (Int × Bool) → Int
  | c :: cs, x :: xs => c * x.1 + firSum cs xs
  | _, _ => 0

/-- An FIR stage takes one input; every `m` inputs it gives an output, and says whether a saturated value is in it. A
stage of 0 taps passes its input on (R136). -/
def firStep (coefs : List Int) (taps m : Nat) (f : FirState) (x : Int × Bool) : FirState × Option (Int × Bool) :=
  if taps = 0 then (f, some x)
  else
    let f : FirState := { hist := (x :: f.hist).take taps, count := f.count + 1 }
    if f.count < m then (f, none)
    else
      let y := divNear (firSum (coefs.take taps) f.hist) (2 ^ 23)
      ({ f with count := 0 }, some (saturate y, f.hist.any (·.2) || decide (saturate y ≠ y)))

/-- The three FIR stages in order. -/
structure FirChain where
  s2 : FirState
  s3 : FirState
  s4 : FirState

/-- One output of S1 passes through the FIR stages (R136). -/
def State.firStages (s : State) (n : Nat) (bk : Bank) (f : FirChain) (x : Int × Bool) : FirChain × Option (Int × Bool) :=
  let o := s.chainSet n
  let cs := s.bankCoefs n bk
  let (s2, y) := firStep cs (o 4) (o 5) f.s2 x
  let f := { f with s2 := s2 }
  match y with
  | none => (f, none)
  | some y =>
    let (s3, y) := firStep (cs.drop (o 4)) (o 6) (o 7) f.s3 y
    let f := { f with s3 := s3 }
    match y with
    | none => (f, none)
    | some y =>
      let (s4, y) := firStep (cs.drop (o 4 + o 6)) (o 8) (o 9) f.s4 y
      ({ f with s4 := s4 }, y)

/-! ## Lanes -/

/-- A lane of a chain. -/
def Chain.lane (c : Chain) (l : Nat) : ChainLane := Table.get {} c.lanes l

/-- A lane replaced. -/
def State.setLane (s : State) (n l : Nat) (x : ChainLane) : State :=
  let c := s.chain n
  s.setChain n { c with lanes := Table.set {} c.lanes l x }

/-- The taps that name a lane and path (R399). -/
def State.tapsOn (s : State) (n l : Nat) (fine : Bool) : List (Nat × Nat) :=
  (List.range 16).flatMap fun z =>
    if !s.zoneLive z then [] else
      ((s.zone z).decl.taps.zipIdx).filterMap fun x =>
        if x.1.1.val == n && x.1.2.1.val == l && x.1.2.2 == fine then some (z, x.2) else none

/-- Whether a tap's item is an output. -/
def TapItem.isOutput : TapItem → Bool
  | .output .. => true
  | .restart _ => false

/-- A tap takes an output or a restart marker; an output that finds 16 buffered is dropped (R399). -/
def State.tapItem (s : State) (z k : Nat) (x : TapItem) : State :=
  let zn := s.zone z
  let items := Table.get [] zn.taps k
  if x.isOutput && decide (16 ≤ (items.filter TapItem.isOutput).length) then (s.countUp (0x2720 + z) 0x16).cause (0x2720 + z) 3 s.now
  else s.setZone z { zn with taps := Table.set [] zn.taps k (items ++ [x]) }

/-- Every tap on a lane and path takes an item; while the mapper holds the chain its taps receive nothing (R186). -/
def State.tapItems (s : State) (n l : Nat) (fine : Bool) (x : TapItem) : State :=
  if (s.chain n).mapperUse then s else (s.tapsOn n l fine).foldl (fun s z => s.tapItem z.1 z.2 x) s

/-- The state of a lane is set to zero (R133); its ready outputs are made already. The lag flag of a path holds on over a restart
before its first valid output (R146). -/
def State.clearLane (s : State) (n l : Nat) (restart : Option (Nat × Nat)) (lag : Bool) : State :=
  let x := (s.chain n).lane l
  s.setLane n l { restart := restart, lagCoarse := lag || x.lagCoarse && decide (x.coarseOuts ≤ 1)
                  lagFine := lag || x.lagFine && x.fineSettling, phaseLeft := s.chainSet n (0x20 + l), readyCoarse := x.readyCoarse,
                  readyFine := x.readyFine, markers := x.markers, nextFrom := x.nextFrom, drops := x.drops, fineSettling := true }

/-- The taps on a path get the marker of a restart, after the outputs that were made before it (R399). -/
def State.markRestart (s : State) (n l : Nat) (fine : Bool) (cause : Nat) : State :=
  let x := (s.chain n).lane l
  let ahead := (if fine then x.readyFine else x.readyCoarse).length
  if ahead = 0 then s.tapItems n l fine (.restart cause)
  else s.setLane n l { x with markers := x.markers ++ [(fine, ahead, cause)] }

/-- An output of a path is delivered: the markers right behind it come to the taps (R399). -/
def State.passMarkers (s : State) (n l : Nat) (fine : Bool) : State :=
  let x := (s.chain n).lane l
  let here := x.markers.filter fun m => m.1 == fine && m.2.1 == 1
  let left := (x.markers.filter fun m => m.1 != fine || m.2.1 != 1).map fun m => if m.1 == fine then (m.1, m.2.1 - 1, m.2.2) else m
  let s := if x.markers.isEmpty then s else s.setLane n l { x with markers := left }
  here.foldl (fun s m => s.tapItems n l fine (.restart m.2.2)) s

/-- A lane restarts: its state is cleared and cause bit 3 is set (R133, R154). -/
def State.restartLane (s : State) (n l cause missing stamp : Nat) (lag : Bool) : State :=
  let s := (s.clearLane n l (some (cause, missing)) lag).cause (0x3300 + n) 3 stamp
  (s.markRestart n l false cause).markRestart n l true cause

/-- The tag of a chain's entries (R152). -/
def chainTag (n l : Nat) : Nat := if n < 64 then 0x0100 + 4 * n + l else 0x04A0 + 4 * (n - 64) + l

/-- A chain writes an entry when the lane's output control selects its kind; while the mapper holds the chain it writes
none (R152, R186). -/
def State.chainEntry (s : State) (n l bit : Nat) (e : NewEntry) : State :=
  let ctl := s.chainSet n (0x14 + l)
  if !bitOf ctl bit || (s.chain n).mapperUse then s else s.blockEntry (fieldOf ctl 0 20) e

/-- The record of a restart, at the lane's first input after it (R152). -/
def State.restartRecord (s : State) (n l : Nat) (instant : Tk) : State :=
  let x := (s.chain n).lane l
  match x.restart with
  | none => s
  | some (cause, missing) =>
    let payload := natLe 1 cause ++ natLe 1 l ++ natLe 2 (min missing 65535) ++ natLe 4 (s.statedDelay n) ++
      natLe 2 (s.chainSet n (0x20 + l))
    (s.setLane n l { x with restart := none }).chainEntry n l 22
      { stamp := instant, tag := chainTag n l, kind := 0x22, flags := 0, payload := payload }

/-- The marks after one more input: number `i` for every flag that it has (R152). -/
def markInput (marks : List Nat) (i : Nat) (flags : List Bool) : List Nat :=
  (flags.zipIdx).map fun f => if f.1 then i else marks.getD f.2 0

/-- Whether any input among the newest `span`, up to number `i`, has flag `k`. -/
def markedIn (marks : List Nat) (i span k : Nat) : Bool := decide (0 < marks.getD k 0 ∧ i < marks.getD k 0 + span)

/-- The flags of a sample that reach outputs: bits 0 to 4, bridged, urgent, repeated. -/
def sampleMarks (x : Sample) (bridged : Bool) : List Bool :=
  (List.range 5).map (bitOf x.flags) ++ [bridged, x.urgent, x.repeated]

/-- The flags of R152 for an output. -/
def outFlags (marks : List Nat) (i span : Nat) (sat settlingOut lag : Bool) : Nat :=
  bitWord 8 fun k =>
    if k = 0 then markedIn marks i span 0 || sat
    else if k < 5 then markedIn marks i span k
    else if k = 5 then settlingOut
    else if k = 6 then markedIn marks i span 5
    else lag

/-- The instant that `c` stands for in half ticks less `g`, rounded down to a whole tick. -/
def stampHalf (c g : Nat) : Nat := (2 * c - g) / 2

/-- One input enters the coarse path (R135). -/
def State.feedCoarse (s : State) (n l : Nat) (x : Sample) (bridged : Bool) : State :=
  let p := s.effectivePeriod n
  let rc := s.chainSet n 1
  let ln := (s.chain n).lane l
  let i := ln.coarseIn + 1
  let marks := markInput ln.marksCoarse i (sampleMarks x bridged)
  let (c, y) := combStep 2 rc ln.coarse x.frac
  let ln := { ln with coarseIn := i, marksCoarse := marks, coarse := c }
  match y with
  | none => s.setLane n l ln
  | some y =>
    let k := ln.coarseOuts + 1
    let span := 2 * rc - 1
    let out : ChainOut :=
      { stamp := x.instant - (rc - 1) * p, frac := (round24 y (combDen 2 rc)).1,
        flags := outFlags marks i span (round24 y (combDen 2 rc)).2 (k == 1) (ln.lagCoarse && k ≤ 2),
        gain := x.gain, range := x.range, measure := x.measure, reference := x.reference, bank := (s.chain n).active,
        fading := false, repeated := markedIn marks i span 7, urgent := markedIn marks i span 6, index := min k 65535,
        settlingOut := k == 1 }
    s.setLane n l { ln with coarseOuts := k, readyCoarse := ln.readyCoarse ++ [out] }

/-- The bank or, in a fade, the fade at work at an instant; a sample from before the end of a fade still belongs to it (R142). -/
def Chain.bankAt (c : Chain) (t : Tk) : Bank × Option Fade :=
  match (c.fade.toList ++ c.pastFades).find? fun f => f.start ≤ t with
  | some f => if t < f.finish then (f.source, some f) else (f.target, none)
  | none => match (c.fade.toList ++ c.pastFades).getLast? with
    | some f => (f.source, none)
    | none => (c.active, none)

/-- A chain with a fade that it knows replaced by its new state. -/
def Chain.putFade (c : Chain) (f : Fade) : Chain :=
  let g := fun (x : Fade) => if x.start = f.start && x.target = f.target then f else x
  { c with fade := c.fade.map g, pastFades := c.pastFades.map g }

/-- One output of S1 goes through the FIR stages and, in a fade, blends the two banks from the same stage state, by `j` outputs
of the fade (R142): the output as a fraction of Q1.31, not rounded yet, by numerator and denominator. -/
def State.fineStages (s : State) (n : Nat) (f : FirChain) (t : Tk) (x : Int × Bool) (j : Nat) :
    FirChain × Option (Int × Nat × Bool) :=
  let (bk, fade) := (s.chain n).bankAt t
  let (f1, y) := s.firStages n bk f x
  match y, fade with
  | none, _ => (f1, none)
  | some y, none => (f1, some (y.1, 1, y.2))
  | some y, some fd =>
    match (s.firStages n fd.target f x).2 with
    | none => (f1, some (y.1, 1, y.2))
    | some z => (f1, some (y.1 * 2 ^ fd.k + j * (z.1 - y.1), 2 ^ fd.k, y.2 || z.2))

/-- One input enters the fine path (R136 to R139). -/
def State.feedFine (s : State) (n l : Nat) (x : Sample) (bridged : Bool) : State :=
  let p := s.effectivePeriod n
  let ch := s.chain n
  let ln := ch.lane l
  let i := ln.fineIn + 1
  let marks := markInput ln.marksFine i (sampleMarks x bridged)
  let m1 := s.chainSet n 3
  let order := s.chainSet n 2
  let (c, y) := if m1 = 1 then (ln.s1, some x.frac)
    else ((combStep order m1 ln.s1 x.frac).1, (combStep order m1 ln.s1 x.frac).2.map fun v => divNear v (combDen order m1))
  let ln := { ln with fineIn := i, marksFine := marks, s1 := c }
  match y with
  | none => s.setLane n l ln
  | some y =>
    let (bk, fade) := ch.bankAt x.instant
    let j := match fade with
      | some f => f.counts.getD l 0 + 1
      | none => 0
    let f : FirChain := { s2 := ln.s2, s3 := ln.s3, s4 := ln.s4 }
    let (f, out) := s.fineStages n f x.instant (saturate y, decide (saturate y ≠ y)) j
    let ln := { ln with s2 := f.s2, s3 := f.s3, s4 := f.s4 }
    match out with
    | none => s.setLane n l ln
    | some (v, den, sat) =>
      let k := ln.fineOuts + 1
      let span := s.fineSpan n
      let stated := s.statedDelay n
      let out : ChainOut :=
        { stamp := stampHalf x.instant (s.groupDelay2 n * p), frac := (round24 v den).1,
          flags := outFlags marks i span (sat || (round24 v den).2) (decide (k ≤ stated)) (ln.lagFine && decide (k ≤ stated + 1)),
          gain := x.gain, range := x.range, measure := x.measure, reference := x.reference,
          bank := match fade with
            | some fd => if 2 ^ fd.k ≤ 2 * j then fd.target else bk
            | none => bk,
          fading := fade.isSome, repeated := markedIn marks i span 7, urgent := markedIn marks i span 6,
          index := min k 65535, settlingOut := decide (k ≤ stated) }
      let s := s.setLane n l { ln with fineOuts := k, readyFine := ln.readyFine ++ [out],
                                       fineSettling := decide (k ≤ stated) }
      let s := match fade with
        | some fd => s.setChain n
            ((s.chain n).putFade { fd with counts := (List.range 4).map fun m => if m = l then j else fd.counts.getD m 0 })
        | none => s
      if k = stated + 1 then s.cause (0x3300 + n) 4 x.instant else s

/-- One input sample, kept or inserted, enters the paths it is routed to after the phase delay (R145). -/
def State.feedInput (s : State) (n l : Nat) (x : Sample) (bridged : Bool) : State :=
  let ln := (s.chain n).lane l
  if ln.phaseLeft > 0 then s.setLane n l { ln with phaseLeft := ln.phaseLeft - 1 }
  else
    let s := if x.toCoarse then s.feedCoarse n l x bridged else s
    if x.toFine then s.feedFine n l x bridged else s

/-- The missing grid instants before a sample (R134). -/
def State.missing (s : State) (n : Nat) (prev : Sample) (x : Sample) : Nat :=
  (x.instant - prev.instant) / s.effectivePeriod n - 1

/-- Whether a dropped sample of a lane lies before an instant (R146). -/
def ChainLane.droppedBefore (x : ChainLane) (t : Tk) : Bool := x.drops.any fun d => d < t

/-- A kept sample reaches its lane: a restart, a bridge, or neither; then the sample itself (R133, R134, R146). A drop before it
restarts the lane, whatever restart is still without its first input. DESIGN CHOICE (log entry 155): an inserted value enters the
paths that the sample before the gap was routed to. -/
def State.feedSample (s : State) (n l : Nat) (x : Sample) : State :=
  let ln := (s.chain n).lane l
  let s := if ln.droppedBefore x.instant then
      (s.restartRecord n l x.instant).restartLane n l 5 0 x.instant true
    else match ln.last with
    | none => s
    | some p =>
      let gap := s.missing n p x
      if s.chainSet n 0x1D < gap then s.restartLane n l 1 gap x.instant false
      else if p.gain != x.gain || p.measure != x.measure || p.range != x.range || p.reference != x.reference then
        s.restartLane n l 2 0 x.instant false
      else (List.range gap).foldl (fun s k =>
        s.feedInput n l { p with instant := p.instant + (k + 1) * s.effectivePeriod n } true) s
  let s := s.restartRecord n l x.instant
  let ln := (s.chain n).lane l
  (s.setLane n l { ln with last := some x, nextFrom := x.instant + 1, drops := ln.drops.filter (x.instant < ·) }).feedInput
    n l x false

/-! ## From the converter into the chain (R112, R132, R146)

A chain takes the kept samples of its converter's conversions, in the order of their instants. -/

/-- The number of samples that a run of samples on a grid has taken before an instant. -/
def samplesBefore (first p t : Nat) : Nat := if t < first then 0 else (t - first) / p + 1

/-- The instant of sample `i` of a conversion, after moves of its grid. -/
def Conversion.sampleAt (c : Conversion) (i : Nat) : Tk :=
  match c.regrids.find? fun g => g.1 ≤ i with
  | some g => g.2 + (i - g.1) * c.period
  | none => c.started + i * c.period

/-- The samples that a conversion takes up to an instant, if it takes them all. -/
def Conversion.upTo (c : Conversion) (t : Tk) : Nat :=
  match c.regrids.find? fun g => g.2 ≤ t with
  | some g => g.1 + samplesBefore g.2 c.period t
  | none => samplesBefore c.started c.period t

/-- Lane, route and gain of a sequence entry word (R112). -/
def entryLane (w : Nat) : Nat := fieldOf w 0 2
/-- Gain code. -/
def entryGain (w : Nat) : Nat := fieldOf w 2 3
/-- Chain route: bit 0 coarse, bit 1 fine. -/
def entryRoute (w : Nat) : Nat := fieldOf w 5 2
/-- Kept samples. -/
def entryCount (w : Nat) : Nat := fieldOf w 18 16

/-- What converts now as a conversion: the samples that it will take, if nothing cuts it. -/
def Converter.conversion (c : Converter) : Conversion :=
  { word := c.word, started := c.started, settles := c.settles, period := c.period, regrids := c.regrids,
    taken := c.settles + entryCount c.word, urgent := c.converting == .urgent, repeated := c.repeated, reference := 0 }

/-- The instant of sample `i` of what a converter converts. -/
def Converter.sampleAt (c : Converter) (i : Nat) : Tk := c.conversion.sampleAt i

/-- The samples of the running entry that a converter has taken up to an instant. -/
def Converter.takenAt (c : Converter) (t : Tk) : Nat := c.conversion.upTo t

/-- The conversions of a converter whose kept samples its chain takes or has still to take, oldest first; the samples of a
diagnosis never enter a chain (R132). -/
def State.conversions (s : State) (n : Nat) : List Conversion :=
  let c := s.conv n
  let now := { c.conversion with reference := s.objN (0x3200 + n) 3 }
  (c.done ++ if c.converting == .entry || c.converting == .urgent then [now] else []).filter fun v => entryRoute v.word != 0

/-- The first kept sample of a conversion at or after an instant: its number. -/
def Conversion.keptFrom (v : Conversion) (t : Tk) : Nat := max v.settles (if t = 0 then 0 else v.upTo (t - 1))

/-- The next kept sample of a lane: its conversion and its instant. -/
def State.nextSample (s : State) (n l : Nat) : Option (Conversion × Tk) :=
  let from_ := ((s.chain n).lane l).nextFrom
  let drops := ((s.chain n).lane l).drops
  (s.conversions n).findSome? fun v =>
    if entryLane v.word != l then none
    else ((List.range (drops.length + 1)).map (v.keptFrom from_ + ·)).findSome? fun i =>
      if i < v.taken && !drops.contains (v.sampleAt i) then some (v, v.sampleAt i) else none

/-- The marks that a lane of a converter looks at: those of its port, or of the bus source of its bus (R101, R219). -/
def State.laneMarks (s : State) (q l : Nat) : List LaneMark :=
  if q < 64 then (s.port (4 * q + l)).marks else (s.busSource (q - 64)).marks

/-- The range and the measure select that a lane shows at an instant; a bus converter has a range on lane L2 alone, and no
measure select (R101, R121). -/
def State.laneScaleAt (s : State) (q l : Nat) (t : Tk) : Nat × Nat :=
  let m := markAt (s.laneMarks q l) t
  if q < 64 then (m.range, m.measure) else (if l = 2 then m.range else 0, 0)

/-- The settling of a lane covers some instant from `first` to `last` (R123). -/
def State.laneSettled (s : State) (q l : Nat) (first last : Tk) : Bool :=
  markedBetween (fun m t => decide (t < m.settleEnd)) first last (s.laneMarks q l)

/-- The port of a lane is in park at some instant from `first` to `last` (R85, R123). -/
def State.laneMoved (s : State) (q l : Nat) (first last : Tk) : Bool :=
  decide (q < 64) && markedBetween (fun m _ => m.moving) first last (s.laneMarks q l)

/-- Whether a code is at an end of full scale (R102). -/
def codeAtEnd (c : Int) : Bool := c == -32768 || c == 32767

/-- Whether the reference of a converter settles at some instant from `first` to `last` (R107). -/
def Converter.refUnsettled (c : Converter) (first last : Tk) : Bool :=
  decide (first < c.referenceAt) && decide (c.referenceFrom ≤ last)

/-- The full scale of a lane at gain 1, in nV or in 10^-9 of range (R45, R101). -/
def laneFullScale (n l measure : Nat) : Nat :=
  if n < 64 then (if measure = 0 then 1250000000 else 32768000000)
  else if l = 2 then 1250000000 else if l = 3 then 1024000000 else 32768000000

/-- The full scale of a lane at gain 1 in the units of results: microvolts, or ppm of range (R45, R101). -/
def resultFullScale (q l measure : Nat) : Nat := laneFullScale q l measure / 1000

/-- What the reference of a converter scales its values by, over 2,048,000 (R106). -/
def State.referenceScale (s : State) (q reference : Nat) : Nat :=
  if reference = 1 then s.objN (0x3200 + q) 4 else 2048000

/-- What the stored offset and gain add to the numerator of a value (R102). -/
def State.correction (s : State) (q l gain measure range reference : Nat) (code : Int) : Int :=
  Config.calCorrection { gen := (s.calFigure (256 + q)).gen, conv := q, lane := l, gain := gain, measure := measure,
                         range := range, reference := reference } code

/-- A kept sample as it enters the chain: its code corrected under R102, as a Q1.31 fraction of the full scale at its gain, with
what the lane showed at its instant (R112, R123, R132). -/
def State.chainSample (s : State) (n l : Nat) (v : Conversion) (t : Tk) (code : Int) : Sample :=
  let (range, measure) := s.laneScaleAt n l t
  let full := resultFullScale n l measure * s.referenceScale n v.reference
  let frac := divNear ((code * full + s.correction n l (entryGain v.word) measure range v.reference code) * 65536) full
  { instant := t, frac := saturate frac, toCoarse := bitOf v.word 5, toFine := bitOf v.word 6,
    flags := bnat (codeAtEnd code) + 2 * bnat (s.laneSettled n l t t) + 4 * bnat (s.laneMoved n l v.started t) +
      8 * bnat ((s.conv n).refUnsettled t t) + 16 * bnat (v.reference == 2),
    urgent := v.urgent, repeated := v.repeated, gain := entryGain v.word, measure := measure, range := range,
    reference := v.reference }

/-- Conversions that the chain has taken whole are let go. -/
def State.letConversions (s : State) (n : Nat) : State :=
  let c := s.conv n
  let keep := c.done.filter fun v => decide (v.keptFrom ((s.chain n).lane (entryLane v.word)).nextFrom < v.taken)
  if keep.length = c.done.length then s else s.setConv n { c with done := keep }

/-- The code of the next kept sample of a lane reaches the chain, once it has left the pipeline (R104). -/
def State.feedCode (s : State) (n l : Nat) (code : Int) : State :=
  match s.nextSample n l with
  | some (v, t) =>
    if t + 12 * v.period ≤ s.now && decide (-32768 ≤ code) && decide (code ≤ 32767) then
      (s.feedSample n l (s.chainSample n l v t code)).letConversions n
    else s
  | none => s

/-- The codes of the next kept samples of a lane reach the chain in order. -/
def State.feedCodes (s : State) (n l : Nat) (codes : Codes) : State := codes.foldl (fun s c => s.feedCode n l c) s

/-- The kept samples of a lane that have left the pipeline and are not yet taken or dropped. -/
def State.laneWaiting (s : State) (n l : Nat) : Nat :=
  let x := (s.chain n).lane l
  (((s.conversions n).filter fun v => entryLane v.word == l).map fun v =>
    min v.taken (v.upTo (s.now - 12 * v.period)) - v.keptFrom x.nextFrom).sum - x.drops.length

/-- The samples that wait in the input queue of a chain: at VCORE 0.70 V or more every chain keeps up (R29, R146). DEDUCED (log
entry 136): kept samples that have left the pipeline wait until COARSE_OUTPUT or FINE_OUTPUT takes them. -/
def State.chainWaiting (s : State) (n : Nat) : Nat :=
  if 700 ≤ s.vcore then 0 else ((List.range 4).map (s.laneWaiting n)).sum

/-- The newest kept sample of a lane that has left the pipeline. -/
def State.newestArrived (s : State) (n l : Nat) : Option Tk :=
  ((s.conversions n).reverse.filter fun v => entryLane v.word == l).findSome? fun v =>
    let k := min v.taken (v.upTo (s.now - 12 * v.period))
    if v.settles < k then some (v.sampleAt (k - 1)) else none

/-- A sample of a lane finds the input queue full and is dropped (R146). -/
def State.dropSample (s : State) (n l : Nat) : State :=
  let x := (s.chain n).lane l
  match s.newestArrived n l with
  | some t =>
    if 256 < s.chainWaiting n && decide (x.nextFrom ≤ t) && !x.drops.contains t then
      ((s.setLane n l { x with drops := x.drops ++ [t] }).countUp (0x3300 + n) 0x0E).cause (0x3300 + n) 0 s.now
    else s
  | none => s

/-! ## Outputs (R152, R153) -/

/-- The calibrated value of an output, in nV or 10^-9 of range (R152). -/
def State.outValue (s : State) (n l : Nat) (o : ChainOut) : Int :=
  divNear (o.frac * (laneFullScale n l o.measure : Int) * (s.referenceScale n o.reference : Int))
    (2 ^ 31 * 2 ^ o.gain * 2048000)

/-- The code of a bank. -/
def bankCode : Bank → Nat
  | .a => 0
  | .b => 1

/-- The payload of kinds 0x20 and 0x21 (R152). -/
def State.outPayload (s : State) (n l : Nat) (o : ChainOut) : Bytes :=
  natLe 4 (toCode 32 o.frac) ++ natLe 8 (toCode 64 (s.outValue n l o)) ++ natLe 1 (l + 4 * o.gain + 32 * o.range) ++
    natLe 1 (o.measure + 4 * o.reference + 16 * bnat (o.bank == .b) + 32 * bnat o.fading + 64 * bnat o.repeated +
      128 * bnat o.urgent) ++ natLe 2 o.index

/-- The word of a newest-value object (R124, R153); `count` is the lane's result count. -/
def newestWord (value : Int) (bits count flags gain measure : Nat) : Nat :=
  toCode bits value + count % 65536 * 2 ^ 32 + flags * 2 ^ 48 + gain * 2 ^ 56 + measure * 2 ^ 59

/-- The result count of the next result after a newest-value object (R124). -/
def nextCount (v : Nat) : Nat := (fieldOf v 32 16 + 1) % 65536

/-- A chain output is delivered: to the newest-value objects, to its queue and to the taps. -/
def State.deliver (s : State) (n l : Nat) (fine : Bool) (o : ChainOut) : State :=
  let idx := 0x3300 + n
  let sub := if fine then 0x28 + l else 0x24 + l
  let tsub := if fine then 0x2C + l else 0x30 + l
  let word := newestWord o.frac 32 (nextCount (s.objN idx sub)) o.flags o.gain o.measure
  let s := ((s.staleSnaps (objKey idx sub)).setObj idx sub word).setObj idx tsub o.stamp
  let s := if bitOf (s.chainSet n (0x14 + l)) 23 && o.settlingOut then s
    else s.chainEntry n l (if fine then 21 else 20)
      { stamp := o.stamp, tag := chainTag n l, kind := if fine then 0x21 else 0x20, flags := o.flags,
        payload := s.outPayload n l o }
  s.tapItems n l fine (.output o.frac o.flags o.stamp o.index)

/-- The oldest ready output of a path is delivered. -/
def State.deliverNext (s : State) (n l : Nat) (fine : Bool) : State :=
  let ln := (s.chain n).lane l
  if fine then
    match ln.readyFine with
    | o :: os => ((s.setLane n l { ln with readyFine := os }).deliver n l true o).passMarkers n l true
    | [] => s
  else
    match ln.readyCoarse with
    | o :: os => ((s.setLane n l { ln with readyCoarse := os }).deliver n l false o).passMarkers n l false
    | [] => s

/-! ## Banks and fades (R141 to R144) -/

/-- A fade starts, or the request names the active bank and has no effect (R142). Ended fades are kept while a sample from before
their end is still to be taken. -/
def State.startSwap (s : State) (n : Nat) (bk : Bank) (at' : Tk) : State :=
  let c := s.chain n
  if c.active = bk then s
  else
    let p := s.effectivePeriod n
    let start := nextGrid (s.conv n).origin p at'
    let len := 2 ^ s.chainSet n 0x1C * s.fineDecimation n * p
    let old := c.pastFades.filter fun f =>
      (List.range 4).any fun l => match s.nextSample n l with
        | some (_, t) => decide (t < f.finish)
        | none => false
    s.setChain n { c with pastFades := old, fade := some { start := start, finish := start + len, source := c.active,
                                                           target := bk, k := s.chainSet n 0x1C, counts := [0, 0, 0, 0] } }

/-- The bank of a code. -/
def bankOf (v : Nat) : Bank := if v = 0 then .a else .b

/-- A swap request (R142, R143). -/
def State.swapWrite (s : State) (n : Nat) (v : Nat) : State :=
  let s := s.setObj (0x3300 + n) 0x1B v
  let c := s.chain n
  if c.fade.isSome then s.setChain n { c with heldSwap := some (bankOf v) } else s.startSwap n (bankOf v) s.now

/-- The running fade ends at an instant and a bank becomes active (R142). -/
def State.finishFade (s : State) (n : Nat) (bk : Bank) (at' : Tk) : State :=
  let c := s.chain n
  let s := s.setChain n { c with fade := none, pastFades := c.fade.toList ++ c.pastFades, heldSwap := none, active := bk }
  (s.setObj (0x3300 + n) 0x1A (bankCode bk)).cause (0x3300 + n) 2 at'

/-- The end of a fade; a held request then acts (R142, R143). -/
def State.fadeEnds (s : State) (n : Nat) : State :=
  let c := s.chain n
  match c.fade with
  | none => s
  | some f =>
    if s.now < f.finish then s
    else
      let s := s.finishFade n f.target f.finish
      match c.heldSwap with
      | some bk => s.startSwap n bk f.finish
      | none => s

/-- A restart of all four lanes ends a fade; a held request acts without one (R144). -/
def State.cutFade (s : State) (n : Nat) (at' : Tk) : State :=
  let c := s.chain n
  match c.fade with
  | none => s
  | some f => s.finishFade n (c.heldSwap.getD f.target) at'

/-- All four lanes restart at one instant: a fade ends, and no sample taken before the instant enters any more (R133, R144,
R148). -/
def State.restartChain (s : State) (n cause at' : Nat) : State :=
  let s := s.cutFade n at'
  let s := s.setChain n { s.chain n with pastFades := [] }
  let s := s.each (List.range 4) fun s l =>
    let s := s.restartLane n l cause 0 at' false
    let x := (s.chain n).lane l
    s.setLane n l { x with nextFrom := max x.nextFrom at' }
  s.letConversions n

/-- Whether the content of a bank write is in Q1.23 (R141). -/
def bankInRange (bs : Bytes) : Bool :=
  (List.range (bs.length / 4)).all fun i =>
    let v := toSigned 32 (fieldLe bs (4 * i) 4)
    decide (-8388608 ≤ v) && decide (v ≤ 8388607)

/-- A write of a bank (R141, R143). -/
def State.bankStore (s : State) (n : Nat) (bk : Bank) (bs : Bytes) : Res := do
  let c := s.chain n
  refuseIf (!bankInRange bs) 0x06090030
  refuseIf c.fade.isSome 0x0F010502
  refuseIf (c.active == bk) 0x0F010503
  let sub := match bk with | .a => 0x18 | .b => 0x19
  return s.setBlob (0x3300 + n) sub (bs ++ (s.blob (0x3300 + n) sub).drop bs.length)

/-! ## Synchronising resets (R147, R148) -/

/-- A sync event acts on a chain, or overruns (R147, R148). Where the event of the pending reset comes after it in the canonical
order, a later stamp or a command of the same stamp, that one is dropped in its place (R333, R334). -/
def State.syncRequest (s : State) (n : Nat) (stamp : Tk) (command : Bool) : State :=
  let c := s.chain n
  let taken := { c with sync := some (nextGrid 0 40 (stamp + 400)), syncEvent := (stamp, command) }
  let drops := fun (s : State) (at' : Tk) => (s.countUp (0x3300 + n) 0x12).cause (0x3300 + n) 5 at'
  if c.sync.isNone then s.setChain n taken
  else if stamp < c.syncEvent.1 || stamp == c.syncEvent.1 && !command && c.syncEvent.2 then
    drops (s.setChain n taken) c.syncEvent.1
  else drops s stamp

/-- A sync command with a group mask, for a session (R147). -/
def State.syncGroup (s : State) (who mask stamp : Nat) : State :=
  s.each (List.range 72) fun s n =>
    if (s.chainSet n 0x10 &&& mask &&& 0xFE) != 0 && (s.claimsAbort who (convClaims n)).isNone then
      s.syncRequest n stamp true
    else s

/-- A SYNC input edge, with its offset (R147, R335). -/
def State.syncEdge (s : State) (stamp : Tk) : State :=
  if !s.syncs then s
  else
    let at' := ((stamp : Int) - s.obj 0x2300 6).toNat
    s.each (List.range 72) fun s n => if bitOf (s.chainSet n 0x10) 0 then s.syncRequest n at' false else s

/-- The grid of a converter takes a new origin (R148): the last sample on the old grid is the last one at or before 40 tk ahead of
it, and the running entry goes on across it. An entry whose first sample lies later begins on the new grid. -/
def State.regrid (s : State) (q : Nat) (at' : Tk) : State :=
  let c := s.conv q
  let c' := { c with origin := at' }
  if c.converting == .nothing then s.setConv q c'
  else if at' < c.started + 40 then s.setConv q { c' with started := nextGrid at' c.period c.started }
  else s.setConv q { c' with regrids := (c.takenAt (at' - 40), at') :: c.regrids }

/-- The reset instant of a synchronising reset comes (R148). -/
def State.syncResetAt (s : State) (n : Nat) : State :=
  match (s.chain n).sync with
  | none => s
  | some ts =>
    if s.now < ts then s
    else
      let s := (s.setChain n { s.chain n with sync := none }).regrid n ts
      ((s.restartChain n 0 ts).setObj (0x3300 + n) 0x13 ts).cause (0x3300 + n) 1 ts

/-! ## Configuration (R149, R150) -/

/-- Whether a subindex restarts the chain and is locked while its converter works (R149). -/
def chainLocked (sub : Nat) : Bool := (1 ≤ sub && sub ≤ 9) || sub == 0x1D || (0x20 ≤ sub && sub ≤ 0x23)

/-- Whether an urgent request or a diagnosis of a converter is pending or running. -/
def State.slotBusy (s : State) (q : Nat) : Bool := (s.conv q).slot != .free

/-- Whether the configuration of a chain is locked (R149). -/
def State.chainIsLocked (s : State) (n : Nat) : Bool :=
  s.objN (0x3200 + n) 1 != 0 || s.slotBusy n || (s.chain n).mapperUse

/-- An accepted write of a configuration subindex (R137, R149). -/
def State.chainConfig (s : State) (n sub v : Nat) : Res := do
  refuseIf (s.chainIsLocked n) 0x0F010501
  let o := fun k => if k = sub then v else s.chainSet n k
  refuseIf (1 ≤ sub && sub ≤ 9 && !chainValid o (s.objN (0x3200 + n) 2)) 0x0F010504
  return (s.setObj (0x3300 + n) sub v).restartChain n 4 s.now

/-- A write to the chain object, after its checks: configuration, lane outputs, sync, swaps and plain settings. -/
def State.chainWrite (s : State) (a : Accessor) (n sub v : Nat) : Res :=
  if chainLocked sub then s.chainConfig n sub v
  else if 0x14 ≤ sub && sub ≤ 0x17 then do
    if fieldOf v 20 3 != 0 then refuseWith (s.queueAbort (s.sessionOf a) (fieldOf v 0 20))
    return s.setObj (0x3300 + n) sub v
  else if sub == 0x11 then .ok (s.syncGroup (s.sessionOf a) v s.now)
  else if sub == 0x1B then .ok (s.swapWrite n v)
  else if sub == 0x1E || sub == 0x1F then .ok (s.eventWrite (0x3300 + n) sub v)
  else .ok (s.setObj (0x3300 + n) sub v)

/-- The claims of a chain end (R150). -/
def State.chainClaimEnds (s : State) (n : Nat) : State :=
  let c := s.chain n
  let s := if c.fade.isSome then s.finishFade n .a s.now else s
  let s := s.setChain n { s.chain n with heldSwap := none, active := .a, pastFades := [] }
  let s := s.resetBlock (0x3300 + n)
  let s := ((s.setBlob (0x3300 + n) 0x18 []).setBlob (0x3300 + n) 0x19 []).setObj (0x3300 + n) 0x1A 0
  let s := s.restartChain n 6 s.now
  s.resetObjs (0x3300 + n) fun sub => 0x24 ≤ sub && sub ≤ 0x2B

/-- The status of a chain (R156). -/
def State.chainStatus (s : State) (n : Nat) : Nat :=
  let c := s.chain n
  let fading := match c.fade with
    | some f => decide (f.start ≤ s.now)
    | none => false
  bnat (decide (192 < s.chainWaiting n)) + 2 * bnat fading + 4 * bnat c.heldSwap.isSome + 8 * bnat c.sync.isSome +
    16 * bnat c.mapperUse + 32 * bitWord 4 (fun l => (c.lane l).fineSettling)

/-! ## The commands -/

/-- COARSE_OUTPUT: the codes of the lane's next kept samples reach the chain, and its oldest coarse output is delivered
(R132, R135). -/
def execCoarseOutput (t : Tk) (n : ChainNo) (l : Lane) (codes : Codes) (s : State) : Host.Outcome State Fault Refusal :=
  .next (((s.advance t).feedCodes n l codes).deliverNext n l false)

/-- FINE_OUTPUT: the codes of the lane's next kept samples reach the chain, and its oldest fine output is delivered (R132,
R139). -/
def execFineOutput (t : Tk) (n : ChainNo) (l : Lane) (codes : Codes) (s : State) : Host.Outcome State Fault Refusal :=
  .next (((s.advance t).feedCodes n l codes).deliverNext n l true)

/-- SAMPLE_DROPPED: below VCORE 0.70 V, the newest sample of a lane finds the input queue full (R29, R146); the lane restarts at
its next accepted sample. -/
def execSampleDropped (t : Tk) (n : ChainNo) (l : Lane) (s : State) : Host.Outcome State Fault Refusal :=
  .next ((s.advance t).dropSample n l)

/-- CHAIN_CONFIG_WRITE: a write to a configuration subindex of a chain (R149). -/
def execChainConfigWrite (t : Tk) (a : Accessor) (n : ChainNo) (sub v : Nat) (s : State) :
    Host.Outcome State Fault Refusal :=
  let bytes := natLe (if 0x20 ≤ sub ∨ sub ∈ [1, 3, 4, 6, 8] then 2 else 1) v
  s.request t a (0x3300 + n) sub bytes fun s =>
    if chainLocked sub then s.guardWrite a (0x3300 + n) sub bytes fun x => s.chainConfig n sub x.toNat else .ok s

/-- BANK_WRITE: a write of a coefficient bank (R141). -/
def execBankWrite (t : Tk) (a : Accessor) (n : ChainNo) (bank : Bank) (bytes : Bytes) (s : State) :
    Host.Outcome State Fault Refusal :=
  s.requestBytes t a (0x3300 + n) (match bank with | .a => 0x18 | .b => 0x19) bytes fun s bs => s.bankStore n bank bs

/-- SWAP_REQUEST: a write of the swap request (R142). -/
def execSwapRequest (t : Tk) (a : Accessor) (n : ChainNo) (v : Nat) (s : State) : Host.Outcome State Fault Refusal :=
  s.requestValue t a (0x3300 + n) 0x1B (natLe 1 v) fun s x => .ok (s.swapWrite n x.toNat)

/-- FADE_END: the fade reaches Tf + F (R142). -/
def execFadeEnd (t : Tk) (n : ChainNo) (s : State) : Host.Outcome State Fault Refusal := .next ((s.advance t).fadeEnds n)

/-- SYNC_COMMAND: a write of the sync command (R147). -/
def execSyncCommand (t : Tk) (a : Accessor) (n : ChainNo) (v : Nat) (s : State) : Host.Outcome State Fault Refusal :=
  s.requestValue t a (0x3300 + n) 0x11 (natLe 1 v) fun s x => .ok (s.syncGroup (s.sessionOf a) x.toNat s.now)

/-- SYNC_INPUT_EDGE: an accepted rising edge on SIO12 acts (R335). -/
def execSyncInputEdge (t stamp : Tk) (s : State) : Host.Outcome State Fault Refusal :=
  let s := s.advance t
  if s.timebase.syncIn = some stamp then
    .next ({ s with timebase := { s.timebase with syncIn := none } }.syncEdge stamp)
  else .next s

/-- SYNC_RESET: the reset instant of a pending synchronising reset (R148). -/
def execSyncReset (t : Tk) (n : ChainNo) (s : State) : Host.Outcome State Fault Refusal :=
  .next ((s.advance t).syncResetAt n)

end Sys2Proof.Machine
end

