-- ==== Sys2Proof/Machine/Converters.lean ====
section
/-!
DEFINITION. Converters and their sequences: the sample grid and its periods (R103), references (R107), entries and
passes (R108 to R112), triggers (R113, R114), urgent requests and diagnoses (R115 to R117, R127, R128), the stops of
R111, R119 and R120, and the result entries and objects (R121 to R124).
-/

namespace Sys2Proof.Machine

/-! ## The fields of a sequence entry (R112) -/

/-- Whether kept samples are written raw. -/
def entryRaw (w : Nat) : Bool := bitOf w 7
/-- Whether a summary is written. -/
def entrySummary (w : Nat) : Bool := bitOf w 8
/-- Whether the entry is splittable. -/
def entrySplit (w : Nat) : Bool := bitOf w 9
/-- The settle field. -/
def entrySettle (w : Nat) : Nat := fieldOf w 10 8
/-- The result queue. -/
def entryQueue (w : Nat) : Nat := fieldOf w 34 20

/-- The sequence entry `e` of a converter. -/
def State.entryWord (s : State) (q e : Nat) : Nat := s.objN (0x3200 + q) (0x41 + e)

/-- The refusals of an entry or urgent request by its fields and its queue (R112). -/
def State.entryAbort (s : State) (who w : Nat) : Option Nat :=
  if 5 < entryGain w || entryCount w == 0 then some 0x06090030
  else if entryRaw w || entrySummary w then s.queueAbort who (entryQueue w) else none

/-! ## What is converted -/

/-- Samples of what converts now: settle samples and kept ones. -/
def Converter.total (c : Converter) : Nat := c.settles + entryCount c.word

/-- The instant of the last kept sample (R108). -/
def Converter.endAt (c : Converter) : Tk := c.sampleAt (c.total - 1)

/-- The instant of the first kept sample. -/
def Converter.firstKept (c : Converter) : Tk := c.sampleAt c.settles

/-- The settle floor: at least 160 tk after a change of input (R109). -/
def Converter.settleFloor (c : Converter) : Nat := (160 + c.period - 1) / c.period

/-- The settle samples that an entry takes (R109). -/
def Converter.settlesFor (c : Converter) (w : Nat) : Nat :=
  if c.fresh || c.lastLane != entryLane w || c.lastGain != entryGain w then max (entrySettle w) c.settleFloor
  else entrySettle w

/-- A conversion of word `w` begins at an instant; a diagnosis takes the settle floor at each of its levels (R128). -/
def Converter.begin (c : Converter) (what : Converting) (w : Nat) (at' : Tk) : Converter :=
  { c with converting := what, word := w, started := at',
           settles := if what == .diagnosis then c.settleFloor else c.settlesFor w, regrids := [], rawTaken := 0 }

/-- Nothing converts any more: what converted has ended, and the boundary after it lies at an instant. -/
def Converter.rests (c : Converter) (at' : Tk) : Converter :=
  { c with converting := .nothing, boundary := at', lastLane := entryLane c.word, lastGain := entryGain c.word,
           fresh := c.converting != .entry }

/-- The boundary after what converts now: the grid instant after its last sample (R108). -/
def Converter.endBoundary (c : Converter) : Tk := c.sampleAt c.total

/-- Whether the entry that goes on with a pass still lay ahead of its first sample at an instant: what happens then finds its
boundary ahead (R111, R115). -/
def Converter.aheadAt (c : Converter) (t : Tk) : Bool :=
  c.converting == .entry && decide (t < c.started) && (c.entry != 0 || c.repeated)

/-- That entry has not begun. -/
def Converter.notBegun (c : Converter) : Converter :=
  { c with converting := .nothing, repeatNext := c.repeated, boundary := c.started }

/-- What converts now ends, or is cut, after `taken` samples: its kept samples go on their way into the chain and into raw
entries (R116, R121, R132). -/
def State.conversionEnds (s : State) (q taken : Nat) (cut : Bool) : State :=
  let c := s.conv q
  let v := { c.conversion with taken := taken, reference := s.objN (0x3200 + q) 3 }
  let next := c.settles + c.rawTaken
  let c := if entryRoute c.word != 0 && decide (c.settles < taken) && c.converting != .diagnosis then
    { c with done := c.done ++ [v] } else c
  s.setConv q (if entryRaw c.word && decide (next < taken) then
    { c with rawLeft := c.rawLeft ++ [{ conv := v, next := next, cut := cut }] } else c)

/-! ## Values (R102, R106, R122) -/

/-- The port of a lane of a quad converter. -/
def lanePort (q l : Nat) : Nat := 4 * q + l

/-- The denominator of a calibrated value. -/
def valueDen (gain : Nat) : Nat := 32768 * 2 ^ gain * 2048000

/-- The numerator of the calibrated value of a code, with the range and measure select of its lane: the scale, the reference and
the stored offset and gain (R102, R106). -/
def State.valueNum (s : State) (q l gain : Nat) (scale : Nat × Nat) (code : Int) : Int :=
  let r := s.objN (0x3200 + q) 3
  code * (resultFullScale q l scale.2 : Int) * (s.referenceScale q r : Int) + s.correction q l gain scale.2 scale.1 r code

/-- The calibrated value of a code. -/
def State.calibrated (s : State) (q l gain : Nat) (scale : Nat × Nat) (code : Int) : Int :=
  divNear (s.valueNum q l gain scale code) (valueDen gain)

/-- The mean of codes as a calibrated value (R122). -/
def State.meanValue (s : State) (q l gain : Nat) (scale : Nat × Nat) (codes : Codes) : Int :=
  divNear ((codes.map (s.valueNum q l gain scale)).sum) (valueDen gain * codes.length)

/-- Whether codes are 16-bit two's complement numbers (R102). -/
def codesOk (codes : Codes) : Bool := codes.all fun c => decide (-32768 ≤ c) && decide (c ≤ 32767)

/-! ## Flags (R123) -/

/-- The flags of a result taken with reference code `ref`, whose samples run from `first` to `finish`, of a conversion that began
at `start`. -/
def State.resultFlags (s : State) (q l ref : Nat) (codes : Codes) (start first finish : Tk) (urgent cut repeated : Bool) :
    Nat :=
  bitWord 8 fun b => match b with
    | 0 => codes.any codeAtEnd
    | 1 => s.laneSettled q l first finish
    | 2 => s.laneMoved q l start finish
    | 3 => (s.conv q).refUnsettled first finish
    | 4 => ref == 2
    | 5 => urgent
    | 6 => cut
    | _ => repeated

/-! ## Result entries and objects -/

/-- The tag of a converter's entries. -/
def convTag (q l : Nat) : Nat := if q < 64 then lanePort q l else 0x0480 + 4 * (q - 64) + l

/-- The payload of a summary (R122). -/
def State.summaryPayload (s : State) (q w index : Nat) (scale : Nat × Nat) (codes : Codes) : Bytes :=
  let l := entryLane w
  let g := entryGain w
  let v := s.calibrated q l g scale
  let lo := codes.foldl min (codes.headD 0)
  let hi := codes.foldl max (codes.headD 0)
  natLe 4 (toCode 32 (s.meanValue q l g scale codes)) ++ natLe 4 (toCode 32 (v lo)) ++ natLe 4 (toCode 32 (v hi)) ++
    natLe 2 codes.length ++ natLe 1 (l + 4 * g + 32 * scale.1) ++ natLe 1 (index + 64 * scale.2)

/-- The newest-result objects take a result (R124). -/
def State.newestResult (s : State) (q l gain measure flags first : Nat) (mean : Int) : State :=
  let idx := 0x3200 + q
  let w := newestWord mean 32 (nextCount (s.objN idx (0x20 + l))) flags gain measure
  ((s.staleSnaps (objKey idx (0x20 + l))).setObj idx (0x20 + l) w).setObj idx (0x24 + l) first

/-- What a converted entry or urgent request writes at its end (R122, R124): its values are in the range and measure select of
its first kept sample. -/
def State.writeResult (s : State) (q : Nat) (codes : Codes) : State :=
  let c := s.conv q
  let w := c.word
  let l := entryLane w
  let urgent := c.converting == .urgent
  let scale := s.laneScaleAt q l c.firstKept
  let flags := s.resultFlags q l (s.objN (0x3200 + q) 3) codes c.started c.firstKept c.endAt urgent false c.repeated
  let index := if urgent then 0x3F else c.entry
  let s := if entrySummary w then s.blockEntry (entryQueue w)
      { stamp := c.firstKept, tag := convTag q l, kind := 0x11, flags := flags,
        payload := s.summaryPayload q w index scale codes } else s
  s.newestResult q l (entryGain w) scale.2 flags c.firstKept (s.meanValue q l (entryGain w) scale codes)

/-- One raw entry (R121), with the range and measure select of its first sample and the reference of its conversion; `cut` says
whether it is the one being filled at a cut. -/
def State.rawEntry (s : State) (q : Nat) (v : Conversion) (next : Nat) (cut : Bool) (codes : Codes) : State :=
  let l := entryLane v.word
  let first := v.sampleAt next
  let scale := s.laneScaleAt q l first
  let flags := s.resultFlags q l v.reference codes v.started first (v.sampleAt (next + codes.length - 1)) v.urgent cut v.repeated
  let payload := ((codes.flatMap fun c => natLe 2 (toCode 16 c)) ++ zeroBytes 12).take 12 ++
    natLe 1 (l + 4 * entryGain v.word + 32 * codes.length) ++ natLe 1 (scale.1 + 8 * scale.2 + 32 * v.reference) ++
    natLe 2 v.period
  s.blockEntry (entryQueue v.word) { stamp := first, tag := convTag q l, kind := 0x10, flags := flags, payload := payload }

/-- The next raw entry of a converter is written with its codes: what an ended or cut entry left comes first, then six
samples of what converts now (R121). -/
def State.writeRaw (s : State) (q : Nat) (codes : Codes) : State :=
  let c := s.conv q
  if !codesOk codes then s
  else match c.rawLeft with
    | r :: rs =>
      let count := r.conv.taken - r.next
      if codes.length ≠ min 6 count then s
      else
        let rest := if count ≤ 6 then rs else { r with next := r.next + 6 } :: rs
        let s := s.rawEntry q r.conv r.next (r.cut && decide (count < 6)) codes
        s.setConv q { s.conv q with rawLeft := rest }
    | [] =>
      let working := c.converting == .entry || c.converting == .urgent
      let last := c.settles + c.rawTaken + 5
      if working && entryRaw c.word && codes.length = 6 && decide (last < c.total) && decide (c.sampleAt last ≤ s.now) then
        let s := s.rawEntry q { c.conversion with reference := s.objN (0x3200 + q) 3 } (c.settles + c.rawTaken) false codes
        s.setConv q { s.conv q with rawTaken := c.rawTaken + 6 }
      else s

/-! ## Periods and references (R103, R107, R248) -/

/-- The effective period that the programmed one and the governor give (R103, R248); 40 tk while a map holds the converter
(R170). -/
def State.periodWanted (s : State) (q : Nat) : Nat :=
  if (s.chain q).mapperUse then 40 else if s.gov.lowered then max (s.objN (0x3200 + q) 2) 60 else s.objN (0x3200 + q) 2

/-- A new effective period takes effect at an entry boundary; its instant is the origin of the new grid (R103), and the
chain's lanes restart (R133). -/
def State.applyPeriod (s : State) (q : Nat) (at' : Tk) : State :=
  let p := s.periodWanted q
  let c := { s.conv q with raised := decide (s.objN (0x3200 + q) 2 < p) }
  if p = s.effectivePeriod q then s.setConv q { c with nextPeriod := none, period := p }
  else
    let s := s.setConv q { c with nextPeriod := none, period := p, origin := at' }
    (s.setObj (0x3200 + q) 0x18 p).restartChain q 3 at'

/-- The period may have changed: at the next boundary of what converts (R103). DESIGN CHOICE (log entry 121): where nothing
converts there is no boundary, and the new period acts at once with this instant as the origin of its grid. -/
def State.periodChanged (s : State) (q : Nat) : State :=
  let c := s.conv q
  if c.converting == .nothing then s.applyPeriod q s.now
  else s.setConv q { c with nextPeriod := some (s.periodWanted q) }

/-- A reference settles for a time from now (R107). DESIGN CHOICE (log entry 122): where an older settling still runs, the later
of the two ends counts. -/
def State.settleReference (s : State) (q time : Nat) : State :=
  let c := s.conv q
  s.setConv q { c with refSettling := true, referenceFrom := if c.refSettling then c.referenceFrom else s.now,
                       referenceAt := max c.referenceAt (s.now + time) }

/-! ## Stops (R111, R119, R120) -/

/-- The code of a stop cause (R131). -/
def StopCause.code : StopCause → Nat
  | .command => 0 | .mode => 1 | .claim => 2 | .queue => 3

/-- A pending or running urgent request or diagnosis is aborted (R117, R127). -/
def State.abortSlot (s : State) (q : Nat) : State :=
  let c := s.conv q
  let c' := if c.converting == .urgent || c.converting == .diagnosis then c.rests (max c.boundary s.now) else c
  let s' := s.setConv q { c' with slot := .free, urgentStep := none }
  match c.slot with
  | .free => s
  | .request _ _ _ => (s'.setObj (0x3200 + q) 0x10 4).cause (0x3200 + q) 1 s.now
  | .diagnosis _ _ _ => (s'.setObj (0x3200 + q) 0x12 4).cause (0x3200 + q) 2 s.now

/-- The claim subindexes of a converter return to their defaults (R120): its reference is the internal one again, which has to
settle where another was selected (R107), and its period the programmed default (R103). -/
def State.convDefaults (s : State) (q : Nat) : State :=
  let other := s.objN (0x3200 + q) 3 != 0
  let s := s.resetBlock (0x3200 + q)
  (if other then s.settleReference q 2000000 else s).periodChanged q

/-- The sequence has stopped: no pass, no waiting triggers; for a mode or a claim the urgent request or diagnosis is aborted
too, and after a claim the settings return to their defaults (R111, R119, R120). -/
def State.sequenceStops (s : State) (q : Nat) (cause : StopCause) : State :=
  let c := s.conv q
  let k := c.takenAt s.now
  let s := if c.converting == .entry then
      (s.conversionEnds q k false).setConv q (((s.conversionEnds q k false).conv q).rests (c.sampleAt k)) else s
  let c := s.conv q
  let s := s.setConv q { c with passRunning := false, triggers := [], stop := none, lastStop := cause, entry := 0,
                                repeatNext := false, repeated := false, nextTimer := none }
  match cause with
  | .command | .queue => s
  | .mode => ((s.setObj (0x3200 + q) 1 0).abortSlot q).cause (0x3200 + q) 5 s.now
  | .claim => (((s.setObj (0x3200 + q) 1 0).abortSlot q).cause (0x3200 + q) 5 s.now).convDefaults q

/-- Whether an urgent request or diagnosis waits. -/
def UrgentSlot.waits : UrgentSlot → Bool
  | .free => false
  | .request w _ _ | .diagnosis w _ _ => w

/-- Which of two causes a stop takes: what a claim demands includes what a mode demands, and that what a command does. -/
def StopCause.with (a b : StopCause) : StopCause :=
  if a == .claim || b == .claim then .claim else if a == .mode || b == .mode then .mode else b

/-- A stop is asked for now; one that already waits for its boundary keeps it, with the wider of the two causes. -/
def Converter.stopping (c : Converter) (cause : StopCause) (now : Tk) : Converter :=
  match c.stop with
  | some old => { c with stop := some (old.with cause) }
  | none => { c with stop := some cause, startAt := now }

/-- The cause of a stop that acts at once. -/
def Converter.stopCause (c : Converter) (cause : StopCause) : StopCause := ((c.stop).map (·.with cause)).getD cause

/-- A converter stops for a mode or a claim: at the next boundary when something converts, else at once (R119, R120). What
waits then is aborted by the stop itself; an urgent request or diagnosis that already runs ends first. -/
def State.convStop (s : State) (q : Nat) (cause : StopCause) : State :=
  let c := s.conv q
  if c.converting == .nothing then s.sequenceStops q (c.stopCause cause) else s.setConv q (c.stopping cause s.now)

/-- A converter stops at once: in SAVE (R119), and in SAFE, where no converter samples (R104; DEDUCED, log entry 137). -/
def State.convHalt (s : State) (q : Nat) : State :=
  let s := if (s.conv q).converting == .entry then s else s.abortSlot q
  s.sequenceStops q ((s.conv q).stopCause .mode)

/-- The samples that an entry has taken at the first block boundary after an instant: a positive multiple of 256, whose boundary is
the grid instant after the last of them (R115). -/
def Converter.blockAfter (c : Converter) (t : Tk) : Nat := 256 * max 1 ((c.takenAt t + 255) / 256)

/-- Whether a splittable entry reaches, by now, a block boundary that follows `t`: the samples taken there (R115). -/
def Converter.blockReached (c : Converter) (t now : Tk) : Option Nat :=
  let k := c.blockAfter t
  if c.converting == .entry && entrySplit c.word && decide (k < c.total) && decide (c.sampleAt k ≤ now) then some k
  else none

/-- What waits in the urgent slot may run from an instant on (R115). -/
def UrgentSlot.readyBy (t : Tk) : UrgentSlot → UrgentSlot
  | .free => .free
  | .request w a r => .request w a (min r t)
  | .diagnosis w a r => .diagnosis w a (min r t)

/-- What converted has ended, and its boundary lies at an instant: what waits in the urgent slot may run there (R115), and a new
period takes effect (R103). -/
def State.atBoundary (s : State) (q : Nat) (at' : Tk) : State :=
  let c := s.conv q
  let s := s.setConv q { c.rests at' with slot := c.slot.readyBy at' }
  if c.nextPeriod.isSome then s.applyPeriod q at' else s

/-- A pending stop takes effect at its boundary (R111, R119, R120). -/
def State.stopAtBoundary (s : State) (q : Nat) : State :=
  let c := s.conv q
  match c.stop with
  | none => s
  | some cause =>
    if c.aheadAt c.startAt then (s.setConv q c.notBegun).sequenceStops q cause
    else if c.converting == .entry then (match c.blockReached c.startAt s.now with
      | some k => ((s.conversionEnds q k false).atBoundary q (c.sampleAt k)).sequenceStops q cause
      | none => s)
    else if c.converting == .nothing || cause == .command then s.sequenceStops q cause
    else s

/-! ## Entries and passes -/

/-- The last entry of a pass has ended (R108, R110). -/
def State.passEnds (s : State) (q : Nat) (at' : Tk) : State :=
  let c := s.conv q
  let s := s.setConv q { c with passRunning := false, entry := 0, passEnd := c.boundary, startAt := c.boundary }
  let s := s.countUp (0x3200 + q) 0x0E
  let s := if s.objN (0x3200 + q) 1 = 3 then s.setObj (0x3200 + q) 1 0 else s
  s.cause (0x3200 + q) 0 at'

/-- After a boundary the next entry of a running pass begins, unless a stop or an urgent request comes first (R108, R111,
R116). -/
def State.continuePass (s : State) (q : Nat) : State :=
  let c := s.conv q
  if c.passRunning && c.stop.isNone && !c.slot.waits && !c.calibrationUse then
    let w := s.entryWord q c.entry
    s.setConv q ({ c with repeated := c.repeatNext, repeatNext := false }.begin .entry w
      (nextGrid c.origin c.period c.boundary))
  else s

/-- Whether the running entry ends now with these codes of its kept samples. -/
def State.entryDone (s : State) (q : Nat) (codes : Codes) : Bool :=
  let c := s.conv q
  c.converting == .entry && decide (c.endAt ≤ s.now) && codes.length == entryCount c.word && codesOk codes

/-- The running entry has taken its last kept sample: its results are written, and the boundary stands (R108). -/
def State.entryEnds (s : State) (q : Nat) (codes : Codes) : State :=
  let c := s.conv q
  let s := ((s.writeResult q codes).conversionEnds q c.total false).atBoundary q c.endBoundary
  if c.entry + 1 < s.objN (0x3200 + q) 5 then s.setConv q { s.conv q with entry := c.entry + 1 } else s.passEnds q c.endAt

/-- The session whose claims a converter's writes need. -/
def State.convHolder (s : State) (q : Nat) : Nat :=
  ((if q < 64 then s.holder clsPort (4 * q) else s.holder clsCycle 0).getD 255)

/-- Whether the result queues of the used entries pass the second check of R112. -/
def State.passQueuesOk (s : State) (q : Nat) : Bool :=
  (List.range (s.objN (0x3200 + q) 5)).all fun e =>
    let w := s.entryWord q e
    !(entryRaw w || entrySummary w) || (s.queueAbort (s.convHolder q) (entryQueue w)).isNone

/-- The instant at which the next pass starts, if the run mode and the triggers give one (R110, R114): not before the converter is
free (R116 to R118), and for a trigger that came after its due instant after its arrival. -/
def State.passStartAt (s : State) (q : Nat) : Option Tk :=
  let c := s.conv q
  let grid := fun t => some (nextGrid c.origin c.period (max t c.boundary))
  match s.objN (0x3200 + q) 1 with
  | 1 | 3 => grid c.startAt
  | 2 => match c.triggers with
    | x :: _ =>
      let due := x.stamp + max (s.objN (0x3200 + q) 7) 400
      grid (max (if due < x.arrived then x.arrived + 1 else due) c.passEnd)
    | [] => none
  | _ => none

/-- The instant at which a waiting urgent request or diagnosis runs when no entry converts (R115). -/
def Converter.urgentAt (c : Converter) : Option Tk :=
  match c.slot with
  | .request true _ ready | .diagnosis true _ ready =>
    some (nextGrid c.origin c.period (if c.passRunning then c.boundary else max c.boundary ready))
  | _ => none

/-- A pass starts (R110, R112, R114); an urgent request due at the same instant runs first (R117). DESIGN CHOICE (log entry 123):
after a failed second check the run mode is 0x00 in the modes 0x01 and 0x03, in which no trigger would try again. -/
def State.passStarts (s : State) (q : Nat) : State :=
  let c := s.conv q
  match s.passStartAt q with
  | none => s
  | some at' =>
    let first := match c.urgentAt with
      | some u => decide (u ≤ at')
      | none => false
    if c.passRunning || c.converting != .nothing || c.stop.isSome || c.calibrationUse || first || s.now < at' then s
    else
      let c := { c with triggers := if s.objN (0x3200 + q) 1 = 2 then c.triggers.drop 1 else c.triggers }
      if s.passQueuesOk q then
        s.setConv q ({ c with passRunning := true, entry := 0, fresh := true, repeated := false }.begin .entry
          (s.entryWord q 0) at')
      else
        let s := s.setConv q { c with lastStop := .queue }
        if s.objN (0x3200 + q) 1 = 2 then s else s.setObj (0x3200 + q) 1 0

/-! ## Urgent requests and diagnoses -/

/-- The running entry is cut after `k` samples, and will be repeated (R116). -/
def State.cutsEntry (s : State) (q k : Nat) : State :=
  let at' := (s.conv q).sampleAt k
  let s := s.conversionEnds q k true
  s.setConv q { (s.conv q).rests at' with repeatNext := true }

/-- The word that a diagnosis converts: lane and gain of its command, 1,024 kept samples (R128). -/
def diagnosisWord (v : Nat) : Nat := fieldOf v 0 2 + fieldOf v 4 3 * 4 + 1024 * 2 ^ 18

/-- What waits in the urgent slot begins at an instant. -/
def State.beginUrgent (s : State) (q : Nat) (at' : Tk) : State :=
  let c := s.conv q
  match c.slot with
  | .request true t r =>
    (s.setConv q ({ c with slot := .request false t r, repeated := false }.begin .urgent (s.objN (0x3200 + q) 0x0F) at')).setObj
      (0x3200 + q) 0x10 2
  | .diagnosis true t r =>
    s.setConv q ({ c with slot := .diagnosis false t r, repeated := false }.begin .diagnosis
      (diagnosisWord (s.objN (0x3200 + q) 0x11)) at')
  | _ => s

/-- A waiting urgent request or diagnosis runs at the first instant of R115. -/
def State.urgentStarts (s : State) (q : Nat) : State :=
  let c := s.conv q
  if !c.slot.waits || c.calibrationUse || c.stop.isSome then s
  else match c.converting with
    | .nothing => match c.urgentAt with
      | some at' => if s.now < at' then s else s.beginUrgent q at'
      | none => s
    | .entry =>
      let t := match c.slot with
        | .request _ t _ | .diagnosis _ t _ => t
        | .free => 0
      if c.aheadAt t then (if s.now < c.started then s else (s.setConv q c.notBegun).beginUrgent q c.started)
      else match c.blockReached t s.now with
        | some k => (s.cutsEntry q k).beginUrgent q (c.sampleAt k)
        | none => s
    | _ => s

/-- The urgent conversion takes its last kept sample (R116, R124). -/
def State.urgentEnds (s : State) (q : Nat) (codes : Codes) : State :=
  let c := s.conv q
  let s := (s.writeResult q codes).conversionEnds q c.total false
  let s := s.setConv q { s.conv q with slot := .free, urgentStep := none }
  let s := (s.setObj (0x3200 + q) 0x10 3).atBoundary q c.endBoundary
  (s.cause (0x3200 + q) 1 c.endAt).continuePass q

/-- Whether an urgent conversion ends now with these codes. -/
def State.urgentDone (s : State) (q : Nat) (codes : Codes) : Bool :=
  let c := s.conv q
  c.converting == .urgent && decide (c.endAt ≤ s.now) && codes.length == entryCount c.word && codesOk codes

/-- The mode, mapper and slot refusals of an urgent request or a diagnosis (R115, R127, R186). -/
def State.slotAbort (s : State) (q : Nat) : Option Nat :=
  if (s.chain q).mapperUse then some 0x0F010401 else if s.slotBusy q then some 0x0F010402 else none

/-- The first instant at which what is accepted now may run when no entry converts: 400 tk from now, or at the boundary of what
has just taken its last sample (R115). -/
def Converter.slotReady (c : Converter) (now : Tk) : Tk := if now < c.boundary then min (now + 400) c.boundary else now + 400

/-- An urgent request is accepted (R115). -/
def State.urgentAccept (s : State) (q v : Nat) (step : Option Nat) : State :=
  let c := s.conv q
  let s := s.setConv q { c with slot := .request true s.now (c.slotReady s.now), urgentStep := step }
  (s.setObj (0x3200 + q) 0x0F v).setObj (0x3200 + q) 0x10 1

/-- A write of the urgent request (R112, R115). -/
def State.urgentWrite (s : State) (who q v : Nat) : Res := do
  refuseWith (s.entryAbort who v)
  refuseWith (s.slotAbort q)
  return s.urgentAccept q v none

/-- Whether the target of a pin-path diagnosis is Off or Measure only under its present owner (R127). -/
def State.pinPathOk (s : State) (p : Nat) : Bool := (s.cellFunction p == 0 || s.cellFunction p == 3) && !s.masked p

/-- A write of the diagnosis command (R127). -/
def State.diagnosisWrite (s : State) (q v : Nat) : Res := do
  let point := fieldOf v 2 2
  refuseIf (point == 0 || point == 3 || decide (5 < fieldOf v 4 3) || (point == 2 && decide (64 ≤ q))) 0x06090030
  refuseWith (s.slotAbort q)
  refuseIf (point == 2 && !s.pinPathOk (lanePort q (fieldOf v 0 2))) 0x0F010301
  let s := s.setConv q { s.conv q with slot := .diagnosis true s.now ((s.conv q).slotReady s.now) }
  return (s.setObj (0x3200 + q) 0x11 v).setObj (0x3200 + q) 0x12 1

/-- The three levels of a diagnosis in microvolts (R128). -/
def diagnosisLevels (gain : Nat) : List Int :=
  let f : Int := min 4095000 (32768000 / 2 ^ gain)
  [divNear f 10000 * 1000, divNear (5 * f) 10000 * 1000, divNear (9 * f) 10000 * 1000]

/-- When a diagnosis ends: three times 20 microseconds, the settle floor and 1,024 kept samples (R128). -/
def Converter.diagnosisEnd (c : Converter) : Tk :=
  c.started + 3 * (80000 + (c.settles + 1024) * c.period)

/-- A diagnosis ends with its three means, in microvolts (R128). -/
def State.diagnosisEnds (s : State) (q : Nat) (ms : List Int) : State :=
  let c := s.conv q
  let xs := diagnosisLevels (entryGain c.word)
  let sx := xs.sum
  let sy := ms.sum
  let sxx := (xs.map fun x => x * x).sum
  let sxy := (List.zipWith (· * ·) xs ms).sum
  let den := 3 * sxx - sx * sx
  let offset := divNear (sy * sxx - sx * sxy) den.toNat
  let gain := divNear ((3 * sxy - sx * sy - den) * 1000000) den.toNat
  let dev := (List.zipWith (fun x m => if x ≤ m then m - x else x - m) xs ms).foldl max 0
  let idx := 0x3200 + q
  let passed := decide (dev ≤ s.obj idx 0x16)
  let clip := clampInt (-2147483648) 2147483647
  let s := ((s.setObj idx 0x13 (clip offset)).setObj idx 0x14 (clip gain)).setObj idx 0x15 (clip dev)
  let s := s.setObj idx 0x12 (if passed then 2 else 3)
  let s := s.setConv q { c with slot := .free }
  ((s.atBoundary q c.diagnosisEnd).cause idx 2 c.diagnosisEnd).continuePass q

/-! ## Run mode and settings -/

/-- A write of the run mode (R110, R111, R186). DESIGN CHOICE (log entry 152): the run mode reads 0x00 from the stop write on, while
the pass still runs to its boundary. DESIGN CHOICE (log entry 153): a write of another code between passes begins that mode
anew: waiting triggers go, and the timer starts again. -/
def State.runModeWrite (s : State) (q v : Nat) : Res :=
  let c := s.conv q
  if v = 0 then
    let s := s.setObj (0x3200 + q) 1 0
    .ok (if c.passRunning || c.stop.isSome then s.setConv q (c.stopping .command s.now) else s.sequenceStops q .command)
  else if c.passRunning || (s.chain q).mapperUse then refuse 0x0F010401
  else
    let timer := v = 2 && fieldOf (s.objN (0x3200 + q) 6) 12 2 = 3
    .ok ((s.setObj (0x3200 + q) 1 v).setConv q
      { c with startAt := max c.boundary (s.now + 400), triggers := [], entry := 0, fresh := true,
               nextTimer := if timer then some s.now else none })

/-- A trigger command (R113, R186). -/
def State.triggerWrite (s : State) (q v : Nat) : Res :=
  if (s.chain q).mapperUse then refuse 0x0F010401
  else if v = 1 && s.objN (0x3200 + q) 1 = 2 then .ok (s.signal signalDepth (.trigger q s.now true s.now))
  else .ok s

/-- Whether the reference and the period of a converter are accepted now (R107). -/
def State.convAtRest (s : State) (q : Nat) : Bool := s.objN (0x3200 + q) 1 == 0 && !s.slotBusy q

/-- A write to the converter object, after its checks. -/
def State.convWrite (s : State) (a : Accessor) (q sub : Nat) (v : Int) : Res :=
  let n := v.toNat
  let idx := 0x3200 + q
  if sub == 1 then s.runModeWrite q n
  else if sub == 2 then do
    refuseIf (!s.convAtRest q) 0x0F010401
    return (s.setObj idx 2 v).periodChanged q
  else if sub == 3 then do
    refuseIf (!s.convAtRest q) 0x0F010401
    return (s.setObj idx 3 v).settleReference q (if n = 0 then 2000000 else 400000)
  else if sub == 4 then do
    refuseIf (!s.convAtRest q) 0x0F010401
    return (s.setObj idx 4 v).settleReference q 400000
  else if sub == 5 || sub == 6 then do
    refuseIf (s.objN idx 1 != 0) 0x0F010401
    return s.setObj idx sub v
  else if 0x41 ≤ sub then do
    refuseWith (s.entryAbort (s.sessionOf a) n)
    refuseIf (s.objN idx 1 != 0) 0x0F010401
    return s.setObj idx sub v
  else if sub == 8 then s.triggerWrite q n
  else if sub == 0x0F then s.urgentWrite (s.sessionOf a) q n
  else if sub == 0x11 then s.diagnosisWrite q n
  else if sub == 0x19 || sub == 0x1A then .ok (s.eventWrite idx sub n)
  else .ok (s.setObj idx sub v)

/-- The timer of a converter elapses (R113). -/
def State.timerTriggers (s : State) (q : Nat) : State :=
  let c := s.conv q
  match c.nextTimer with
  | some e =>
    if s.now < e || s.objN (0x3200 + q) 1 != 2 then s
    else (s.setConv q { c with nextTimer := some (e + s.objN (0x3200 + q) 9) }).signal signalDepth (.trigger q e false s.now)
  | none => s

/-- The reference of a converter is settled (R107). -/
def State.referenceSettles (s : State) (q : Nat) : State :=
  let c := s.conv q
  if c.refSettling && decide (c.referenceAt ≤ s.now) then s.setConv q { c with refSettling := false } else s

/-! ## What a converter reads -/

/-- The status of a converter (R131). DESIGN CHOICE (log entry 154): global calibration holds every converter until it ends. -/
def State.convStatus (s : State) (q : Nat) : Nat :=
  let c := s.conv q
  bnat c.passRunning + 2 * bnat (s.objN (0x3200 + q) 1 == 2 && !c.passRunning) +
    4 * bnat (c.converting == .urgent || c.converting == .diagnosis) + 8 * bnat (c.calibrationUse || s.cal.global) +
    16 * bnat (decide (s.objN (0x3200 + q) 2 < s.effectivePeriod q)) + 32 * bnat c.refSettling + 64 * c.lastStop.code

/-- The current entry (0x32qq:0D). DESIGN CHOICE (log entry 124): it reads 0xFF, none, whenever nothing converts, also right after
reset, where the card gives the default 0x00. -/
def State.currentEntry (s : State) (q : Nat) : Nat :=
  let c := s.conv q
  match c.converting with
  | .entry => c.entry
  | .nothing => 0xFF
  | _ => 0x3F

end Sys2Proof.Machine
end

