-- ==== Sys2Proof/Machine/Cellar.lean ====
section
/-!
DEFINITION. The Cellar's regions (R478), its root copies (R479), and its journal: items, heap units, records, and transactions
from their request to their commit or abandon record (R480 to R482).
-/

namespace Sys2Proof.Machine

/-! ## Regions (R478) -/

/-- Where a root copy lies. -/
def rootBase (copy : Nat) : Nat := copy * 0x8000

/-- Where the log ring lies, and its size. -/
def logBase : Nat := 0x10000
def logRegion : Nat := 0xF0000

/-- Where the journal lies, and its size. -/
def journalBase : Nat := 0x100000
def journalRegion : Nat := 0x200000

/-- Where a half lies, and its size. -/
def halfBase (half : Nat) : Nat := 0x300000 + half * 0x80000
def halfRegion : Nat := 0x80000

/-- Where the repair copy of a zone lies, and its size. -/
def repairBase (z : Nat) : Nat := 0x400000 + z * 0x80000
def repairRegion : Nat := 0x80000

/-- Where a heap unit lies, its size, and how many there are. -/
def heapBase (unit : Nat) : Nat := 0xC00000 + unit * 0x4000
def heapUnit : Nat := 0x4000
def heapCount : Nat := 1280

/-- Whether an address lies in a region. -/
def liesIn (base size addr : Nat) : Bool := decide (base ≤ addr) && decide (addr < base + size)

/-! ## Items and heap units -/

/-- The key of a stored item of a class (R487). -/
def itemKey (cls key : Nat) : Nat := cls * 2 ^ 32 + key

/-- A committed item; absent items read empty. -/
def State.item (s : State) (cls key : Nat) : Bytes := (Table.get none s.cellar.items (itemKey cls key)).getD []

/-- Whether an item is present. -/
def State.hasItem (s : State) (cls key : Nat) : Bool := (Table.get none s.cellar.items (itemKey cls key)).isSome

/-- Whether items of a class lie in the heap (R487). -/
def inHeap (cls : Nat) : Bool := cls == 4 || cls == 5 || cls == 6 || cls == 0x0A

/-- Heap units of 16 KiB that data takes. -/
def heapUnits (n : Nat) : Nat := (n + 16383) / 16384

/-- The free units for an extent: the lowest of those that are not taken (DESIGN CHOICE, log entry 167). -/
def freeUnits (taken : List Nat) (n : Nat) : List Nat :=
  ((List.range heapCount).filter fun u => !taken.contains u).take n

/-- Changes with the heap units of their extents; an item that is replaced keeps its old units until the commit (R481). -/
def placed : List Nat → List Stored → List (Stored × List Nat)
  | _, [] => []
  | taken, .blob cls k (some b) :: cs =>
    let us := if inHeap cls then freeUnits taken (heapUnits b.length) else []
    (.blob cls k (some b), us) :: placed (taken ++ us) cs
  | taken, c :: cs => (c, []) :: placed taken cs

/-- Heap units that committed items take. -/
def State.heapUsed (s : State) : Nat :=
  s.cellar.items.foldl (fun n x => match x.2 with
    | some b => if inHeap (x.1 / 2 ^ 32) then n + heapUnits b.length else n
    | none => n) 0

/-- Free heap units (0x2600:05). -/
def State.heapFree (s : State) : Nat :=
  heapCount - s.heapUsed - (match s.cellar.open_ with | some t => t.units | none => 0)

/-- Heap units that the extents of changes need. -/
def unitsOf (cs : List Stored) : Nat :=
  cs.foldl (fun n c => match c with
    | .blob cls _ (some b) => if inHeap cls then n + heapUnits b.length else n
    | _ => n) 0

/-! ## Records (R480) -/

/-- The bytes of a record with a body (R480). -/
def recordSize (body : Nat) : Nat := (20 + body + 7) / 8 * 8

/-- A journal record: its type, its class, the id of its transaction, its key and its body. -/
structure JournalRecord where
  type : Nat
  cls : Nat := 0
  txn : Nat
  key : Nat := 0
  body : Bytes := []
  deriving DecidableEq, Repr

/-- Bytes filled up with zeros to a multiple of 4, as the length of a body is. -/
def filled (bs : Bytes) : Bytes := bs ++ zeroBytes ((bs.length + 3) / 4 * 4 - bs.length)

/-- The bytes of a record: its head, its body, the CRC-32C over both, and zeros up to its size. -/
def JournalRecord.bytes (r : JournalRecord) : Bytes :=
  let w := natLe 1 r.type ++ natLe 1 r.cls ++ zeroBytes 2 ++ natLe 4 r.txn ++ natLe 4 r.key ++ natLe 4 r.body.length ++ r.body
  w ++ natLe 4 (crc32c w).toNat ++ zeroBytes (recordSize r.body.length - (20 + r.body.length))

/-- The body of an extent record: the length and the CRC-32C of the data, then the list of its heap units. -/
def extentBody (b : Bytes) (units : List Nat) : Bytes :=
  filled (natLe 4 b.length ++ natLe 4 (crc32c b).toNat ++ units.flatMap (natLe 2))

/-- The body of an item record that holds the value of an object. -/
def valueBody (k : Nat) (v : Int) : Bytes :=
  let size := match cardOf (k / 256 % 65536) (k % 256) with
    | some c => c.ty.size
    | none => 4
  filled (natLe size (v % (2 ^ (8 * size) : Nat)).toNat)

/-- The record of a change, if it has one: a repair copy is written in place, and the begin and the commit record of its
transaction say what it is (R481; log entry 167). -/
def changeRecord (id : Nat) : Stored × List Nat → List JournalRecord
  | (.value k (some v), _) => [{ type := 2, cls := 1, txn := id, key := k, body := valueBody k v }]
  | (.value k none, _) => [{ type := 4, cls := 1, txn := id, key := k }]
  | (.blob cls k none, _) => [{ type := 4, cls := cls, txn := id, key := k }]
  | (.blob cls k (some b), us) =>
    if inHeap cls then [{ type := 3, cls := cls, txn := id, key := k, body := extentBody b us }]
    else if cls = 7 then []
    else [{ type := 2, cls := cls, txn := id, key := k, body := filled b }]

/-- The records of a transaction as the journal holds them; the key of the begin record of a repair copy is its zone, and the commit
record counts every record of its transaction, itself among them (DESIGN CHOICE, log entry 167). -/
def JournalTxn.records (t : JournalTxn) : List JournalRecord :=
  let first : JournalRecord := { type := 1, txn := t.id, key := t.repair.getD 0 }
  match t.ending with
  | .cut => [first]
  | .abandoned => [first, { type := 6, txn := t.id }]
  | .committed cs =>
    let rs := cs.flatMap (changeRecord t.id)
    first :: rs ++ [{ type := 5, txn := t.id, body := natLe 4 (rs.length + 2) }]

/-- The bytes of the record of one change. -/
def changeSize : Stored → Nat
  | .value k (some _) => match cardOf (k / 256 % 65536) (k % 256) with
    | some c => recordSize ((c.ty.size + 3) / 4 * 4)
    | none => recordSize 4
  | .blob cls _ (some b) =>
    if inHeap cls then recordSize ((8 + 2 * heapUnits b.length + 3) / 4 * 4)
    else if cls = 7 then 0
    else recordSize ((b.length + 3) / 4 * 4)
  | .blob _ _ none => recordSize 0
  | .value _ none => recordSize 0

/-- The bytes of a transaction's records, begin and commit included; the body of a commit record is its count. -/
def txnSize (cs : List Stored) : Nat := recordSize 0 + recordSize 4 + (cs.map changeSize).sum

/-! ## Transactions (R481, R482) -/

/-- The zone whose repair copy a transaction writes. -/
def TxnFor.repairZone : TxnFor → Option Nat
  | .repair z => some z
  | _ => none

/-- A transaction begins: it takes the next id, and a repair copy's begin record makes the old copy invalid (R480,
R481). -/
def State.beginTxn (s : State) (t : Txn) : State :=
  let items := match t.why.repairZone with
    | some z => Table.set none s.cellar.items (itemKey 7 z) none
    | none => s.cellar.items
  { s with cellar := { s.cellar with open_ := some { t with id := s.cellar.nextId }, items := items,
                                     nextId := addWrap 32 s.cellar.nextId 1 } }

/-- A transaction's records end in the journal. -/
def Cellar.closed (c : Cellar) (t : Txn) (ending : TxnEnd) : Cellar :=
  let size := match ending with
    | .cut => recordSize 0
    | .abandoned => 2 * recordSize 0
    | .committed _ => t.size
  let j : JournalTxn := { id := t.id, start := c.journal, upTo := c.journal + size, repair := t.why.repairZone, ending := ending }
  { c with open_ := none, journal := j.upTo, records := c.records ++ [j] }

/-- The open transaction is abandoned: of its records the journal counts the begin and the abandon record (R482, R485; log
entry 134). -/
def State.abandonTxn (s : State) : State :=
  match s.cellar.open_ with
  | none => s
  | some t =>
    let s := { s with cellar := s.cellar.closed t .abandoned }
    (s.countUp 0x2600 8).cause 0x2600 1 s.now

/-- Bytes of journal above which the Cellar compacts between transactions (R484). -/
def journalHigh : Nat := 1572864

/-- Whether no transaction is open and none is kept from beginning: the Cellar is ready, and its journal asks for no
compaction first (R481, R484). -/
def State.cellarClear (s : State) : Bool :=
  s.cellar.open_.isNone && s.cellar.stage == 2 && decide (s.cellar.journal ≤ journalHigh)

/-- Whether the Cellar can begin a transaction that is requested now: none waits before it. -/
def State.cellarFree (s : State) : Bool := s.cellarClear && s.cellar.waiting.isEmpty

/-- A device-internal request for a transaction: it opens, or waits its turn (R481). A failed Cellar stores nothing
(R486). -/
def State.wantTxn (s : State) (why : TxnFor) (changes : List Stored) (reply : Option ReplyTo := none) : State :=
  let t : Txn := { why := why, changes := changes, units := unitsOf changes, size := txnSize changes, reply := reply }
  if s.cellar.stage == 5 then s
  else if s.cellarFree then s.beginTxn t
  else { s with cellar := { s.cellar with waiting := s.cellar.waiting ++ [t] } }

/-- A write refused for space: its transaction begins, is abandoned, signalled and logged (R482, R500, R528). -/
def State.refuseSpace (s : State) (t : Txn) : State :=
  let s := (s.beginTxn t).abandonTxn
  (s.cause 0x2600 2 s.now).logRec s.now 0x04E2 7 [3#8]

/-- A host write that needs a transaction: refused by a failed Cellar (R486; log entry 134), when
four wait (R481), or when its extents find no units (R482). The refusal for space leaves its own count. Its answer is owed
until the transaction ends (R450, R482). -/
def State.hostTxn (s : State) (why : TxnFor) (changes : List Stored) (full : Nat := 0x0F011001) :
    Res :=
  if s.cellar.stage == 5 then refuse (if full = 0x0F010005 then full else 0x08000000)
  else if !s.cellarFree && s.cellar.waiting.length ≥ 4 then refuse 0x0F011002
  else if s.cellarFree && s.heapFree < unitsOf changes then refuseAfter full (s.refuseSpace { why := why, changes := [] })
  else .ok (s.wantTxn why changes (some (.plain 255)))

/-- One change takes effect on what the Cellar holds. -/
def applyStored (c : Cellar) : Stored × List Nat → Cellar
  | (.value k v, _) => { c with values := Table.set none c.values k v }
  | (.blob cls k b, us) => { c with items := Table.set none c.items (itemKey cls k) b, heap := Table.set [] c.heap (itemKey cls k) us
                                    lost := c.lost.filter (· != itemKey cls k) }

/-- The next waiting transaction begins (R481); one whose extents find no units is left for its abandon record.
Compaction comes first where the journal asks for it between transactions (R484). -/
def State.nextTxn (s : State) : State :=
  match s.cellar.waiting with
  | t :: ts => if s.cellarClear then
      { s with cellar := { s.cellar with waiting := ts } }.beginTxn t else s
  | [] => s

/-- The commit record of the open transaction: every change takes effect together (R481). -/
def State.commitTxn (s : State) : State :=
  match s.cellar.open_ with
  | none => s
  | some t =>
    let cs := placed (s.cellar.heap.flatMap (·.2)) t.changes
    { s with cellar := (cs.foldl applyStored s.cellar).closed t (.committed cs) }.countUp 0x2600 7

/-- Whether a transaction for a purpose is open or waits. -/
def State.txnPending (s : State) (why : TxnFor) : Bool :=
  (match s.cellar.open_ with | some t => t.why == why | none => false) || s.cellar.waiting.any fun t => t.why == why

end Sys2Proof.Machine
end

