-- ==== Sys2Proof/Machine/PlanImage.lean ====
section
/-!
DEFINITION. Plan images as bytes: the header (R193), step records (R194), dependencies (R195), resources (R196), rules
(R197), action descriptors (R199, R220, R228) and the load checks (R198).
-/

namespace Sys2Proof.Machine

/-- The committed image of a plan slot. -/
def State.planImage (s : State) (slot : Nat) : Bytes := s.item 4 slot

/-! ## Header (R193) -/

/-- The plan id. -/
def planId (i : Bytes) : Nat := fieldLe i 4 4
/-- The step count. -/
def stepCount (i : Bytes) : Nat := fieldLe i 16 4
/-- Where the record of a step begins. -/
def stepAt (i : Bytes) (k : Nat) : Nat := fieldLe i 20 4 + 64 * k
/-- The offset and length of a section, by the byte of the header that names it. -/
def sectionAt (i : Bytes) (h : Nat) : Nat × Nat := (fieldLe i h 4, fieldLe i (h + 4) 4)
/-- A field of a step's record. -/
def stepField (i : Bytes) (k o n : Nat) : Nat := fieldLe i (stepAt i k + o) n

/-! ## Fields of a step (R194) -/

/-- Kind. -/
def stepKind (i : Bytes) (k : Nat) : Nat := stepField i k 0 1
/-- Flags. -/
def stepFlags (i : Bytes) (k : Nat) : Nat := stepField i k 1 1
/-- Priority. -/
def stepPriority (i : Bytes) (k : Nat) : Nat := stepField i k 2 1
/-- Retries. -/
def stepRetries (i : Bytes) (k : Nat) : Nat := stepField i k 3 1
/-- The energy claim in microjoule. -/
def stepClaim (i : Bytes) (k : Nat) : Nat := stepField i k 12 4
/-- The module peak in mA. -/
def stepPeak (i : Bytes) (k : Nat) : Nat := stepField i k 16 2
/-- A die peak in mA. -/
def stepDiePeak (i : Bytes) (k d : Nat) : Nat := stepField i k (18 + 2 * d) 2
/-- The timeout in microseconds. -/
def stepTimeout (i : Bytes) (k : Nat) : Nat := stepField i k 40 4
/-- The result queue word. -/
def stepQueue (i : Bytes) (k : Nat) : Nat := stepField i k 44 4
/-- The test id. -/
def stepTest (i : Bytes) (k : Nat) : Nat := stepField i k 48 4
/-- The action descriptor. -/
def stepAction (i : Bytes) (k : Nat) : Bytes := sliceBytes i ((sectionAt i 48).1 + stepField i k 32 4) (stepField i k 36 4)

/-- The dependencies of a step: the step depended on and the condition (R195). -/
def stepDeps (i : Bytes) (k : Nat) : List (Nat × Nat) :=
  (List.range (stepField i k 6 2)).map fun j =>
    let w := fieldLe i ((sectionAt i 24).1 + stepField i k 8 4 + 4 * j) 4
    (fieldOf w 0 16, fieldOf w 16 2)

/-- A rule (R197). -/
structure PlanRule where
  value : Nat
  op : Nat
  flags : Nat
  low : Int
  high : Int
  deriving DecidableEq, Repr

/-- The rules of a step. -/
def stepRules (i : Bytes) (k : Nat) : List PlanRule :=
  (List.range (stepField i k 26 2)).map fun j =>
    let o := (sectionAt i 40).1 + stepField i k 28 4 + 24 * j
    { value := fieldLe i o 2, op := fieldLe i (o + 2) 1, flags := fieldLe i (o + 3) 1,
      low := toSigned 64 (fieldLe i (o + 8) 8), high := toSigned 64 (fieldLe i (o + 16) 8) }

/-- A resource descriptor as one number; 0 for none (R196). -/
def descriptorWord (i : Bytes) (index : Nat) : Nat :=
  if index = 0xFFFF then 0 else fieldLe i ((sectionAt i 32).1 + 64 * index) 64

/-- The resources of a step as one number of 512 bits (R196). -/
def stepResources (i : Bytes) (k : Nat) : Nat := descriptorWord i (stepField i k 4 2)

/-- Whether a descriptor names a port. -/
def holdsPort (r p : Nat) : Bool := bitOf r p
/-- Whether a descriptor names a converter: quads from bit 256, buses from bit 320. -/
def holdsConv (r q : Nat) : Bool := bitOf r (256 + q)
/-- Whether a descriptor names a sweeper channel. -/
def holdsSweep (r m : Nat) : Bool := bitOf r (328 + m)
/-- Whether a descriptor names one step core. -/
def holdsCore (r : Nat) : Bool := bitOf r (8 * 45 + 5)
/-- Whether a descriptor names the net mapper. -/
def holdsMapper (r : Nat) : Bool := bitOf r (8 * 45 + 4)
/-- The bits of a descriptor that name resources, the step core apart: it names one of several. -/
def resourceMask : Nat := 2 ^ 384 - 1 - 2 ^ (8 * 45 + 5)

/-- The claims that a descriptor needs: ports, engines, the mapper and zones (R204). -/
def descriptorClaims (r : Nat) : List (Nat × Nat) :=
  let named := fun (cls bit n : Nat) => ((List.range n).filter fun j => bitOf r (bit + j)).map fun j => (cls, j)
  named clsPort 0 256 ++ named clsLin (8 * 42) 8 ++ named clsSent (8 * 43) 8 ++ named clsPwm (8 * 44) 8 ++
    named clsCan (8 * 45) 4 ++ named clsMapper (8 * 45 + 4) 1 ++ named clsZone (8 * 46) 16

/-! ## Load checks (R198) -/

/-- Whether sections lie inside an image and do not overlap. -/
def sectionsOk (len : Nat) (l : List (Nat × Nat)) : Bool :=
  let used := l.filter fun x => x.2 != 0
  used.all (fun x => decide (64 ≤ x.1) && decide (x.1 + x.2 ≤ len)) &&
    (used.zipIdx).all fun x => (used.drop (x.2 + 1)).all fun y =>
      decide (x.1.1 + x.1.2 ≤ y.1) || decide (y.1 + y.2 ≤ x.1.1)

/-- Whether a descriptor's reserved bits are 0. -/
def descriptorReservedOk (r : Nat) : Bool :=
  fieldOf r (8 * 41 + 4) 4 == 0 && fieldOf r (8 * 45 + 6) 2 == 0 && fieldOf r (8 * 48) 128 == 0

/-- Kinds, reserved fields and flags of a step (check 0x05). -/
def stepFormOk (i : Bytes) (k : Nat) : Bool :=
  let f := stepField i k
  decide (1 ≤ f 0 1 ∧ f 0 1 ≤ 7) && decide (f 1 1 < 16) && decide (f 3 1 ≤ 7) && f 52 12 == 0 &&
    (f 44 4 == 0xFFFFFFFF || decide (f 44 4 < 2 ^ 20))

/-- Offsets and indexes of a step (check 0x06). -/
def stepOffsetsOk (i : Bytes) (k : Nat) : Bool :=
  let f := stepField i k
  (f 4 2 == 0xFFFF || decide (64 * f 4 2 + 64 ≤ (sectionAt i 32).2)) &&
    decide (f 8 4 + 4 * f 6 2 ≤ (sectionAt i 24).2) && decide (f 28 4 + 24 * f 26 2 ≤ (sectionAt i 40).2) &&
    decide (f 32 4 + f 36 4 ≤ (sectionAt i 48).2) &&
    (f 0 1 != 6 || f 36 4 != 8 || decide (fieldLe (stepAction i k) 0 4 < (sectionAt i 56).2))

/-- The peaks of a step (check 0x08). -/
def stepPeaksOk (i : Bytes) (k : Nat) : Bool :=
  let d := (List.range 4).map (stepDiePeak i k)
  let m := stepPeak i k
  d.all (fun x => decide (x ≤ 1000)) && decide (m ≤ 2500) && d.all (fun x => decide (x ≤ m)) && decide (m ≤ d.sum)

/-- Records of a fixed size in a descriptor. -/
def recordsOf (n : Nat) (a : Bytes) : List Bytes := (List.range (a.length / n)).map fun j => sliceBytes a (n * j) n

/-- Whether the level and the clamps of a sweep lie in the ranges of the force amplifier (R36, R38 to R40, R219, R220): volts from
-5 V to +26 V, currents within the range, and the voltage clamps at least 100 mV apart. -/
def sweepLevelsOk (a : Bytes) : Bool :=
  let w := fun o => toSigned 32 (fieldLe a o 4)
  let within := fun (lo hi v : Int) => decide (lo ≤ v) && decide (v ≤ hi)
  let level := if fieldLe a 2 1 == 1 then within (-1000000) 1000000 else within (-5000000) 26000000
  level (w 4) && (fieldLe a 0 1 != 1 || level (w 8)) &&
    if fieldLe a 2 1 == 1 then within (-5000000) 26000000 (w 20) && within (-5000000) 26000000 (w 24) && decide (100000 ≤ w 20 - w 24)
    else within 10000 1100000 (fieldLe a 20 4) && within 10000 1100000 (fieldLe a 24 4)

/-- A sweep descriptor (R220). -/
def sweepOk (a : Bytes) : Bool :=
  let f := fieldLe a
  let ty := f 0 1
  let points := f 12 2
  (ty == 2 && a.length == 112 || (ty == 1 || ty == 3) && a.length == 48) && decide (f 1 1 ≤ 3) && decide (f 2 1 ≤ 1) &&
    (ty != 2 || f 2 1 == 0) && (ty != 3 || f 2 1 == 1) && decide (f 3 1 ≤ 5) && decide (1 ≤ points ∧ points ≤ 1024) &&
    (ty == 1 || points == 1) && f 14 2 != 0 && decide (f 30 1 ≤ 5) && decide (f 31 1 ≤ 3) && f 32 16 == 0 &&
    (ty != 1 || decide (1 ≤ f 29 1 ∧ f 28 1 % 4 + f 29 1 ≤ 4)) && (ty != 2 || f 48 32 &&& f 80 32 == 0) &&
    sweepLevelsOk a

/-- An exchange descriptor (R228). -/
def exchangeOk (a : Bytes) : Bool :=
  let f := fieldLe a
  a.length == 96 && decide (f 0 1 ≤ 3) && decide (f 1 1 < (if f 0 1 == 0 then 4 else 8)) &&
    (decide (f 0 1 < 2) || f 2 1 != 0) && f 3 1 == 0 && f 16 8 == 0 && (f 0 1 != 1 || decide (f 25 1 ≤ 8 ∧ f 26 1 ≤ 1))

/-- The action descriptor of a step (check 0x09). -/
def actionOk (kind : Nat) (a : Bytes) : Bool :=
  match kind with
  | 1 => a.length % 16 == 0 && (recordsOf 16 a).all fun r =>
      [1, 2, 4, 8].contains (fieldLe r 3 1) && fieldLe r 4 4 == 0
  | 2 => a.length % 16 == 0 && (recordsOf 16 a).all fun r =>
      let w := fieldLe r 8 8
      decide (fieldLe r 0 1 ≤ 71) && fieldLe r 1 7 == 0 && decide (fieldOf w 2 3 ≤ 5) && fieldOf w 18 16 != 0 && fieldOf w 54 10 == 0
  | 3 => sweepOk a
  | 4 => a.length == 8 && decide (fieldLe a 0 1 < 32) && decide (fieldLe a 1 1 ≤ 16) && decide (fieldLe a 2 1 ≤ 6) &&
      decide (4 ≤ fieldLe a 3 1 ∧ fieldLe a 3 1 ≤ 64) && fieldLe a 4 4 == 0
  | 5 => exchangeOk a
  | 6 => a.length == 8
  | 7 => a.length == 8 && (fieldLe a 4 2 == 0xFFFF || decide (fieldLe a 4 2 < 512)) && decide (fieldLe a 6 1 ≤ 2) &&
      fieldLe a 7 1 == 0
  | _ => false

/-- The first step that fails a check. -/
def firstStep (i : Bytes) (ok : Nat → Bool) : Option Nat := (List.range (stepCount i)).find? fun k => !ok k

/-- The first check to fail and the step it names; code 0 when every check passes (R198). -/
def loadCheck (i : Bytes) : Nat × Nat :=
  let n := stepCount i
  let sections := [24, 32, 40, 48, 56].map (sectionAt i)
  let resources := (List.range ((sectionAt i 32).2 / 64)).map (descriptorWord i)
  let reservedOk :=
    (List.range ((sectionAt i 24).2 / 4)).all (fun j => fieldLe i ((sectionAt i 24).1 + 4 * j + 2) 2 < 4) &&
      (List.range ((sectionAt i 40).2 / 24)).all fun j => fieldLe i ((sectionAt i 40).1 + 24 * j + 4) 4 == 0 &&
        fieldLe i ((sectionAt i 40).1 + 24 * j + 3) 1 < 4
  let step := fun (code : Nat) (ok : Nat → Bool) (rest : Nat × Nat) => match firstStep i ok with
    | some k => (code, k)
    | none => rest
  if !(decide (64 ≤ i.length ∧ i.length ≤ 6291456) && i.length == fieldLe i 8 4) then (1, 0xFFFF)
  else if fieldLe i 0 2 != 1 then (2, 0xFFFF)
  else if (crc32c (i.drop 64)).toNat != fieldLe i 12 4 then (3, 0xFFFF)
  else if !(decide (1 ≤ n ∧ n ≤ 65536) && sectionsOk i.length ((fieldLe i 20 4, 64 * n) :: sections) &&
    (sectionAt i 24).2 % 4 == 0 && (sectionAt i 32).2 % 64 == 0 && (sectionAt i 40).2 % 24 == 0) then (4, 0xFFFF)
  else if fieldLe i 2 2 != 0 || !resources.all descriptorReservedOk || !reservedOk then (5, 0xFFFF)
  else step 5 (stepFormOk i) (step 6 (stepOffsetsOk i)
    (step 7 (fun k => (stepDeps i k).all fun d => decide (d.1 < k)) (step 8 (stepPeaksOk i)
      (step 9 (fun k => actionOk (stepKind i k) (stepAction i k))
        (step 10 (fun k => (stepRules i k).all fun r => decide (1 ≤ r.op ∧ r.op ≤ 5)) (0, 0xFFFF))))))

/-! ## Writing an image (R192) -/

/-- Bytes of plan images stored, a slot apart. -/
def State.planBytes (s : State) (slot : Nat) : Nat :=
  ((List.range 4).map fun k => if k = slot then 0 else (s.planImage k).length).sum

/-- A write of a plan image (R192, R198); length 0 empties the slot. -/
def State.planStore (s : State) (slot : Nat) (i : Bytes) : Res := do
  refuseIf (s.disp.slot == some slot) 0x0F010702
  let (code, step) := if i.isEmpty then (0, 0xFFFF) else loadCheck i
  let s := s.setObj 0x3500 9 (code + step * 256 + slot * 2 ^ 24 : Nat)
  if code != 0 then refuseAfter 0x0F010701 s
  else
    refuseIf (decide (12582912 < s.planBytes slot + i.length)) 0x0F010704
    s.hostTxn (.plan slot) [.blob 4 slot (if i.isEmpty then none else some i)]

/-- The state of a plan slot (0x351s:02). -/
def State.slotState (s : State) (slot : Nat) : Nat :=
  if s.disp.slot = some slot then 2 else if s.txnPending (.plan slot) then 3
  else if s.hasItem 4 slot then 1 else 0

end Sys2Proof.Machine
end

