-- ==== Sys2Proof/Machine/Governor.lean ====
section
/-!
DEFINITION. The budget governor: its inputs (R234, R235), tokens and books (R237 to R242), allowances and the mapper's
grant (R243 to R245), VCORE (R246 to R248), levels (R249) and settlement (R240); and the current sums of the dispatcher
(R209).
-/

namespace Sys2Proof.Machine

/-! ## Steps in flight and what they hold -/

/-- The image of the running plan. -/
def State.runningImage (s : State) : Bytes :=
  match s.disp.slot with
  | some k => s.planImage k
  | none => []

/-- The steps in flight: from dispatch until their action has stopped (R207). -/
def State.inFlightSteps (s : State) : List (Nat × StepRec) :=
  s.disp.steps.filter fun x => x.2.stage == .inFlight && x.2.done.isNone

/-- The steps that are dispatched and have not yet their verdict: those in flight, and those whose action has just stopped. -/
def State.openSteps (s : State) : List (Nat × StepRec) := s.disp.steps.filter fun x => x.2.stage == .inFlight

/-- Everything that the steps in flight hold, as one descriptor word. -/
def State.heldResources (s : State) : Nat :=
  let i := s.runningImage
  s.inFlightSteps.foldl (fun w x => w ||| stepResources i x.1) 0

/-- Whether a map runs, the wait for its budget included (R187, R191). -/
def State.mapRunning (s : State) : Bool :=
  match s.map.phase with
  | .waiting | .pass1 | .pass2 | .refinement | .analysis => true
  | _ => false

/-! ## Currents (R209) -/

/-- The magnitude of a number. -/
def magnitude (v : Int) : Nat := v.natAbs

/-- The last sampled figures of a bus source. -/
def State.busFigure (s : State) (n : Nat) : Int × Int := Table.get (0, 0) s.gov.bus n

/-- The standing current of the module or of a die, in nA: ports and bus sources that no step in flight holds. -/
def State.standingCurrent (s : State) (die : Option Nat) : Nat :=
  let held := s.heldResources
  let here := fun d => match die with
    | some x => x == d
    | none => true
  (s.ports.map fun x => if here (x.1 / 64) && !holdsPort held x.1 then magnitude x.2.na else 0).sum +
    (s.gov.bus.map fun x => if here (x.1 / 2) && !holdsSweep held (x.1 / 2) then magnitude x.2.2 else 0).sum

/-- The grant of the running map: module, or a die, in mA (R245). -/
def State.mapGrant (s : State) (die : Option Nat) : Nat :=
  match die with
  | some d => s.map.dieGrants.getD d 0
  | none => s.map.grant

/-- Whether a map has its grants: it runs and does not wait for them (R244, R245). -/
def State.mapHasGrants (s : State) : Bool := s.mapRunning && s.map.phase != .waiting

/-- The peaks committed for the module or a die, in mA: steps in flight, the map's grants in place of its step's peaks,
and tails; `but` is left out (R209, R244, R245). -/
def State.committed (s : State) (die : Option Nat) (but : Option Nat) : Nat :=
  let i := s.runningImage
  let own := fun k => match die with
    | some d => stepDiePeak i k d
    | none => stepPeak i k
  let steps := s.openSteps.map fun x =>
    if some x.1 == but || (s.mapHasGrants && s.map.byStep == some x.1) then 0 else own x.1
  let tails := s.disp.tails.map fun t => if t.until_ ≤ s.now then 0 else match die with
    | some d => t.dies.getD d 0
    | none => t.module_
  steps.sum + tails.sum + (if s.mapHasGrants then s.mapGrant die else 0)

/-- The module allowance or a die's, in mA (R243). -/
def State.allowance (s : State) (die : Option Nat) : Nat :=
  match die with
  | some d => s.objN 0x2201 (0x0B + d)
  | none => s.objN 0x2201 0x0A

/-- Whether a current of `own` mA more fits (R209). -/
def State.currentFits (s : State) (die : Option Nat) (own : Nat) : Bool :=
  decide (s.standingCurrent die + (s.committed die none + own) * 1000000 ≤ s.allowance die * 1000000)

/-- The grant that the governor computes for the mapper, in mA, for the module or a die (R244). -/
def State.grantFor (s : State) (die : Option Nat) (but : Option Nat) : Nat :=
  let left := (s.allowance die * 1000000 - s.standingCurrent die - s.committed die but * 1000000) / 1000000
  match die with
  | some _ => left
  | none => min s.gov.share left

/-- The grants, module and dies, that the mapper objects show (R244, R254). -/
def State.setGrants (s : State) (module_ : Nat) (dies : List Nat) : State :=
  (List.range 4).foldl (fun s d => s.setObj 0x2201 (0x10 + d) (dies.getD d 0)) (s.setObj 0x2201 0x0F module_)

/-- At a decision instant the governor computes the grants of a waiting map (R244). -/
def State.showGrants (s : State) : State :=
  if s.map.phase == .waiting then
    s.setGrants (s.grantFor none s.map.byStep) ((List.range 4).map fun d => s.grantFor (some d) s.map.byStep)
  else s

/-! ## Reservations and settlement (R239, R240, R282) -/

/-- A reservation of microjoule, where the live bucket holds them (R239). -/
def State.reserve (s : State) (claim : Nat) : Option State :=
  if claim = 0 then some s
  else if (claim : Int) ≤ s.gov.bucket then
    some { s with gov := { s.gov with bucket := s.gov.bucket - claim, reserved := s.gov.reserved + claim } }
  else none

/-- Microjoule from 10^-19 J. -/
def microjoule (e : Int) : Int := divNear e 10000000000000

/-- The books at the end of a step with its claim and its actual energy; in SAVE nothing is settled (R240). -/
def State.settleEnergy (s : State) (claim : Nat) (energy : Int) : State :=
  if s.mode == .save then s
  else
    let e := microjoule energy
    let before := s.gov.bucket
    let s := { s with gov := { s.gov with reserved := s.gov.reserved - claim, bucket := s.gov.bucket + claim - e,
                                          consumed := s.gov.consumed + e } }
    let s := if 0 ≤ before ∧ s.gov.bucket < 0 then s.cause 0x2200 4 s.now else s
    if (claim : Int) < e then (s.setObj 0x2202 8 (s.obj 0x2202 8 + (e - claim))).cause 0x2200 5 s.now else s

/-! ## Samples (R234, R240, R241) -/

/-- The figure of a port or bus source is taken. -/
def State.takeFigure (s : State) (f : Figure) : State :=
  match f.src with
  | .port p => s.setPort p { s.port p with uv := f.uv, na := f.na }
  | .bus n => { s with gov := { s.gov with bus := Table.set (0, 0) s.gov.bus n.val (f.uv, f.na) } }

/-- The dissipation of ports and bus sources for which `p` and `b` hold, in 10^-15 W (R65). -/
def State.dissipated (s : State) (p b : Nat → Bool) : Int :=
  (s.ports.map fun x => if p x.1 then dissipation x.2.uv x.2.na else 0).sum +
    (s.gov.bus.map fun x => if b x.1 then dissipation x.2.1 x.2.2 else 0).sum

/-- The power that leaves through the balls, in 10^-15 W (R234). -/
def State.delivered (s : State) : Int :=
  (s.ports.map fun x => x.2.uv * x.2.na).sum + (s.gov.bus.map fun x => x.2.1 * x.2.2).sum

/-- The samples of one 100 microsecond instant: sensors, figures, and the energy of each step in flight. -/
def State.sampleFigures (s : State) (temps : Temps) (figs : Figures) : State :=
  let s := figs.foldl State.takeFigure s
  let i := s.runningImage
  let held := s.heldResources
  -- 10^-15 W over 100 microseconds is 10^-19 J
  let s := s.inFlightSteps.foldl (fun s x =>
    let r := stepResources i x.1
    s.setStep x.1 { x.2 with energy := x.2.energy + s.dissipated (holdsPort r) (fun n => holdsSweep r (n / 2)) }) s
  let free := s.dissipated (fun p => !holdsPort held p) (fun n => !holdsSweep held (n / 2))
  let all := s.dissipated (fun _ => true) (fun _ => true)
  { s with gov := { s.gov with temps := s.gov.temps ++ [temps], samples := s.gov.samples + 1,
                               poutSum := s.gov.poutSum + s.delivered, pportSum := s.gov.pportSum + all,
                               standing := s.gov.standing + free } }

/-! ## Temperatures (R18, R235) -/

/-- The die of a sensor: 0 to 3 the port dies, 4 the logic die. -/
def sensorDie (n : Nat) : Nat := if n < 12 then n / 3 else 4

/-- The mean of a sensor over the period; without a reading the last mean stands. -/
def State.sensorMean (s : State) (n : Nat) : Int :=
  if s.gov.temps.isEmpty then s.obj 0x2203 (1 + n)
  else divNear ((s.gov.temps.map fun l => l.getD n 0).sum) s.gov.temps.length

/-- Whether a mean lies in the range of R235. -/
def tempInRange (t : Int) : Bool := decide (-550 ≤ t) && decide (t ≤ 1750)

/-- The excluded sensors, by their means (R235). -/
def excludedSensors (means : List Int) : Nat :=
  bitWord 16 fun n =>
    let t := means.getD n 0
    let others := (List.range 16).filter fun m => m != n && sensorDie m == sensorDie n && tempInRange (means.getD m 0)
    !tempInRange t || (!others.isEmpty && others.all fun m => decide (200 < magnitude (t - means.getD m 0)))

/-- The hottest valid sensor among some, with its number. -/
def hottest (means : List Int) (excluded : Nat) (p : Nat → Bool) : Option (Int × Nat) :=
  ((List.range 16).filter fun n => p n && !bitOf excluded n).foldl (fun best n => match best with
    | some (t, m) => if t < means.getD n 0 then some (means.getD n 0, n) else some (t, m)
    | none => some (means.getD n 0, n)) none

/-- The temperature of a port die, from the objects of the last period (R234). -/
def State.dieTemp (s : State) (d : Nat) : Int :=
  let means := (List.range 16).map fun n => s.obj 0x2203 (1 + n)
  match hottest means (s.objN 0x2203 0x11) (fun n => sensorDie n == d) with
  | some (t, _) => t
  | none => s.obj (0x2620 + d) 4

/-! ## The period end (R233) -/

/-- The allowed power (R237). -/
def allowedPower (plim tset tmax : Int) : Int :=
  let pf := min 6000 plim
  if tmax ≤ tset - 100 then plim
  else if tset ≤ tmax then pf
  else plim - divTrunc ((plim - pf) * (tmax - (tset - 100))) 100

/-- The allowance of a die (R243). -/
def dieAllowance (ld : Int) (tset tdie : Int) : Int :=
  if tdie ≤ tset - 50 then ld
  else if tset ≤ tdie then divTrunc ld 2
  else divTrunc (ld * (100 - (tdie - (tset - 50)))) 100

/-- The VCORE target takes a value (R246). -/
def State.setTarget (s : State) (target : Nat) : State :=
  if target = s.objN 0x2201 3 then s
  else
    let s := { s with gov := { s.gov with vcoreFrom := s.vcore, vcoreSince := s.now } }
    (s.setObj 0x2201 3 target).cause 0x2200 2 s.now

/-- The floor of the target (R246). -/
def State.vcoreFloor (s : State) : Nat :=
  if s.mapRunning || (List.range 72).any fun q => decide (s.objN (0x3200 + q) 2 < 60 ∧ s.effectivePeriod q < 60)
  then 700 else 650

/-- Every converter follows the governor's rate (R248). -/
def State.ratesFollow (s : State) (lowered : Bool) : State :=
  let s := { s with gov := { s.gov with lowered := lowered } }
  (s.each (List.range 72) State.periodChanged).cause 0x2200 3 s.now

/-- Converters whose effective period the governor has raised (0x2201:15, R248). -/
def State.raisedConverters (s : State) : Nat :=
  ((List.range 72).filter fun q => (s.conv q).raised && decide (s.objN (0x3200 + q) 2 < s.effectivePeriod q)).length

/-- VCORE and converter rates at a period end (R246, R248). -/
def State.vcorePeriod (s : State) (tmax pd : Int) : State :=
  let tset := s.obj 0x2200 2
  let plim := s.obj 0x2200 1
  let run := s.objN 0x2200 3
  let above := if plim < pd then s.gov.overPower + 1 else 0
  let s := { s with gov := { s.gov with overPower := above } }
  let hot := decide (tset ≤ tmax) || decide (3 ≤ above)
  let target := s.objN 0x2201 3
  -- VCORE is again at 0.70 V or more: it comes from below, or the period is not hot
  let again := decide (700 ≤ s.vcore) && (!hot || decide (s.gov.vcoreFrom < 700))
  let restores := s.gov.lowered && again && decide (tmax ≤ tset - 30)
  let s := if hot then
      let s := if target = 700 && !s.mapRunning && !s.gov.lowered then s.ratesFollow true else s
      s.setTarget (min run (max s.vcoreFloor (target - 10)))
    else s.setTarget (min run (if tmax ≤ tset - 30 && pd ≤ plim then target + 10 else target))
  -- rates stay lowered where this period takes VCORE below 0.70 V (R29)
  if restores && (700).ble (State.objN s 0x2201 3) then s.ratesFollow false else s

/-- The level of a period (R249). -/
def State.levelNow (s : State) (tmax pa : Int) : Nat :=
  if s.raisedConverters ≠ 0 then 3
  else if s.objN 0x2201 3 < s.objN 0x2200 3 then 2
  else if pa < s.obj 0x2200 1 ∨ (1 ≤ s.objN 0x2201 1 ∧ s.obj 0x2200 2 - 120 < tmax) then 1
  else 0

/-- The level and, in RUN and THROTTLE, the mode (R249, R250). -/
def State.levelPeriod (s : State) (tmax pa : Int) : State :=
  let level := s.levelNow tmax pa
  let s := if level = s.objN 0x2201 1 then s else (s.setObj 0x2201 1 level).cause 0x2200 1 s.now
  if s.mode == .run && decide (1 ≤ level) then
    ((s.modeBecomes .throttle 0).countUp 0x2201 0x14).cause 0x2200 0 s.now
  else if s.mode == .throttle && level == 0 then (s.modeBecomes .run 0).cause 0x2200 0 s.now
  else s

/-- What a period end finds about the sensors, for the HOLD causes of R235 and R251. -/
structure PeriodFound where
  dieLost : Bool
  overTemp : Option Int
  tmax : Int

/-- Standing energy is charged, tokens are issued and the snapshot is taken (R238, R241, R242). -/
def State.booksPeriod (s : State) (rate : Int) : State :=
  let c := microjoule s.gov.standing
  let before := s.gov.bucket
  let after := before - c
  let issue := if after < s.obj 0x2200 4 then min rate (s.obj 0x2200 4 - after) else 0
  let s := { s with gov := { s.gov with bucket := after + issue, consumed := s.gov.consumed + c } }
  let s := s.setObj 0x2202 9 (s.obj 0x2202 9 + c)
  let s := if 0 ≤ before ∧ after < 0 then s.cause 0x2200 4 s.now else s
  let g := s.gov
  let s := (s.countUp 0x2202 1).setObj 0x2202 2 s.now
  let s := (s.setObj 0x2202 3 (g.bucket + g.reserved + g.consumed)).setObj 0x2202 4 g.bucket
  (s.setObj 0x2202 5 g.reserved).setObj 0x2202 6 g.consumed

/-- The end of a governor period, with the mean VSUP power in mW: everything but the HOLD causes (R233). -/
def State.periodEnds (s : State) (pv : Int) : State × PeriodFound :=
  let sampled := s.gov.samples
  let means := (List.range 16).map s.sensorMean
  let excluded := excludedSensors means
  let s := (List.range 16).foldl (fun s n => s.setObj 0x2203 (1 + n) (means.getD n 0)) s
  let s := if excluded ≠ 0 then s.cause 0x2200 9 s.now else s
  let s := s.setObj 0x2203 0x11 excluded
  let s := if sampled ≠ 0 && means.all tempInRange then
    s.setObj 0x2001 1 (putBit (s.objN 0x2001 1) 16 true : Nat) else s
  let ready := s.ready 16
  let wasMax := s.obj 0x2201 8
  let (tmax, hot) := (hottest means excluded fun _ => true).getD (wasMax, s.objN 0x2201 9)
  let pout := divNear s.gov.poutSum (sampled * 1000000000000)
  let pp := divNear s.gov.pportSum (sampled * 1000000000000)
  let pd := pv - pout
  let tset := s.obj 0x2200 2
  let pa := if ready then allowedPower (s.obj 0x2200 1) tset tmax else 0
  let rate := if ready then max 0 (pa - (pd - pp)) else 0
  let s := ((s.setObj 0x2201 8 tmax).setObj 0x2201 9 hot).setObj 0x2201 4 pa
  let s := ((s.setObj 0x2201 5 (max 0 pd)).setObj 0x2201 6 (max 0 pp)).setObj 0x2201 7 rate
  let s := s.booksPeriod rate
  let dies := (List.range 4).map fun d =>
    let t := ((hottest means excluded fun n => sensorDie n == d).map (·.1)).getD tmax
    if ready then dieAllowance (s.obj 0x2200 (6 + d)) tset t else 0
  let s := (List.range 4).foldl (fun s d => s.setObj 0x2201 (0x0B + d) (dies.getD d 0)) s
  let s := (List.range 4).foldl (fun s d => match hottest means excluded fun n => sensorDie n == d with
    | some (t, _) => s.setObj (0x2620 + d) 4 t
    | none => s) s
  let s := s.setObj 0x2201 0x0A (min (if ready then s.obj 0x2200 5 else 0) dies.sum)
  let s := if ready then s.vcorePeriod tmax pd else s
  let s := if tset ≤ tmax ∧ wasMax < tset then s.cause 0x2200 7 s.now else s
  let s := if ready then s.levelPeriod tmax pa else s
  let lost := (List.range 5).any fun d => ((List.range 16).filter fun n => sensorDie n == d).all (bitOf excluded)
  let top := if (List.range 16).any fun n => !bitOf excluded n && decide (1250 ≤ means.getD n 0) then some tmax else none
  ({ s with gov := { s.gov with temps := [], samples := 0, poutSum := 0, pportSum := 0, standing := 0, lastEnd := s.now,
                                share := s.objN 0x2200 0x0A, capacity := s.objN 0x2200 4, tset := tset } },
   { dieLost := lost, overTemp := top, tmax := tmax })

/-- Whether a period ends now: at whole multiples of 4,000,000 tk (R233). -/
def State.periodDue (s : State) : Bool := s.now % 4000000 == 0 && decide (s.gov.lastEnd < s.now)

/-! ## Writes (R252, R253) -/

/-- A write to the governor's settings, after its checks. -/
def State.governorWrite (s : State) (sub : Nat) (v : Int) : Res := do
  refuseIf (sub == 4 && s.disp.slot.isSome) 0x0F010705
  if sub == 0x0B || sub == 0x0C then return s.eventWrite 0x2200 sub v.toNat
  else if sub == 3 then return s.setObj 0x2200 3 (divNear v 10 * 10)
  else return s.setObj 0x2200 sub v

end Sys2Proof.Machine
end

