-- ==== Sys2Proof/Machine/Mapper.lean ====
section
/-!
DEFINITION. The net mapper: enabling (R158), starting a map and its budget (R170, R185, R244), excitation groups (R171,
R172), conductances and classification (R167, R168, R173, R174), refinement (R176 to R178), comparison (R182 to R184),
result entries (R181), holding converters and chains (R186), and aborts (R187).
-/

namespace Sys2Proof.Machine

/-! ## Fractions -/

/-- The sum of two fractions. -/
def Ratio.add (x y : Ratio) : Ratio :=
  if x.den = y.den then { num := x.num + y.num, den := x.den } else { num := x.num * y.den + y.num * x.den, den := x.den * y.den }

/-- A fraction times an integer. -/
def Ratio.scale (k : Int) (x : Ratio) : Ratio := { num := k * x.num, den := x.den }

/-- The sum of fractions. -/
def Ratio.sum (l : List Ratio) : Ratio :=
  match l with
  | [] => { num := 0, den := 1 }
  | x :: xs => xs.foldl Ratio.add x

/-- Whether a fraction is positive. -/
def Ratio.pos (g : Ratio) : Bool := decide (0 < g.num)

/-- The resistance 1 / g less `r` ohms, as the encoding of a REAL32 (R168). -/
def Ratio.ohms (g : Ratio) (r : Nat) : Nat := if 0 < g.num then real32 ((g.den : Int) - r * g.num) g.num.toNat else 0x7F800000

/-- Whether 1 / g less `r` ohms is at most `x` ohms. -/
def Ratio.atMost (g : Ratio) (r x : Nat) : Bool := decide (0 < g.num) && decide ((g.den : Int) ≤ (x + r) * g.num)

/-! ## Nets (R157) -/

/-- The set that holds a point. -/
def netOf (nets : List (List Nat)) (p : Nat) : List Nat := (nets.find? fun n => n.contains p).getD [p]

/-- Two points joined: their sets become one. -/
def joinNets (nets : List (List Nat)) (a b : Nat) : List (List Nat) :=
  let x := netOf nets a
  let y := netOf nets b
  if x == y then nets else (x ++ y) :: nets.filter fun n => n != x && n != y

/-- A number put in ascending order. -/
def insertNat (x : Nat) : List Nat → List Nat
  | [] => [x]
  | y :: ys => if x ≤ y then x :: y :: ys else y :: insertNat x ys

/-- A set in ascending order. -/
def sortNats (l : List Nat) : List Nat := l.foldl (fun r x => insertNat x r) []

/-- A set of points put in ascending order of lowest points. -/
def insertNet (x : List Nat) : List (List Nat) → List (List Nat)
  | [] => [x]
  | y :: ys => if x.headD 0 ≤ y.headD 0 then x :: y :: ys else y :: insertNet x ys

/-- The nets that links form over points, in ascending order of their lowest points (R157, R181). -/
def netsOf (points : List Nat) (links : List (Nat × Nat)) : List (List Nat) :=
  let raw := links.foldl (fun n l => joinNets n l.1 l.2) (points.map fun p => [p])
  (raw.map sortNats).foldl (fun r x => insertNet x r) []

/-- The number of the net that holds a point. -/
def netNumber (nets : List (List Nat)) (p : Nat) : Nat := (nets.findIdx? fun n => n.contains p).getD 0xFFFF

/-! ## Excitation groups (R171, R172) -/

/-- Items put in order of descending size, ties to the lower lowest point. -/
def insertBySize (x : Nat × List Nat) : List (Nat × List Nat) → List (Nat × List Nat)
  | [] => [x]
  | y :: ys => if y.2.length < x.2.length then x :: y :: ys else y :: insertBySize x ys

/-- Items taken two at a time. -/
def pairUp : List (Nat × List Nat) → List (List (Nat × List Nat))
  | a :: b :: r => [a, b] :: pairUp r
  | [a] => [[a]]
  | [] => []

/-- What a grouping is planned from: the head, the pairs and the first row (R171). -/
structure GroupPlan where
  head : Option (Nat × List Nat)
  pairs : List (List (Nat × List Nat))
  first : Nat

/-- The plan of a pass: the points of pass 1, the nets of pass 2. -/
def groupPlan (pass : Nat) (points : List Nat) (nets : List (List Nat)) : GroupPlan :=
  if pass = 1 then { head := none, pairs := pairUp (points.map fun p => (p, [p])), first := 0 }
  else
    match (nets.zipIdx).foldl (fun r x => insertBySize (x.2, x.1) r) [] with
    | h :: t => { head := some h, pairs := pairUp t, first := 2 }
    | [] => { head := none, pairs := [], first := 2 }

/-- The pairs of group `k` of `g`. -/
def GroupPlan.pairsOf (p : GroupPlan) (g k : Nat) : List (List (Nat × List Nat)) :=
  ((p.pairs.zipIdx).filter fun x => x.2 % g == k).map (·.1)

/-- The edge bound of a group over the ports for which `on` holds (R172). -/
def GroupPlan.bound (p : GroupPlan) (g k : Nat) (on : Nat → Bool) : Nat :=
  let size := fun (i : Nat × List Nat) => (i.2.filter on).length
  (match p.head with | some h => if k = 0 then size h else 0 | none => 0) +
    ((p.pairsOf g k).map fun pr => (pr.map size).foldl max 0).sum

/-- The items of group `k` with their rows. -/
def GroupPlan.rows (p : GroupPlan) (g k : Nat) : List (Nat × Nat) :=
  (match p.head with | some h => if k = 0 then [(h.1, 1)] else [] | none => []) ++
    ((p.pairsOf g k).zipIdx).flatMap fun x => (x.1.zipIdx).map fun i => (i.1.1, p.first + 2 * x.2 + i.2)

/-- Whether a group has rows up to 255 and fits allowances in mA; `ic` is in microampere (R172). -/
def GroupPlan.fits (p : GroupPlan) (g k ic grant : Nat) (dies : List Nat) : Bool :=
  (p.rows g k).all (fun r => decide (r.2 ≤ 255)) && decide (12 * ic * p.bound g k (fun _ => true) ≤ 10000 * grant) &&
    (List.range 4).all fun d => decide (12 * ic * p.bound g k (fun q => q / 64 == d) ≤ 10000 * dies.getD d 0)

/-- The least number of groups that fits, up to the group limit (R171). -/
def GroupPlan.groups (p : GroupPlan) (limit ic grant : Nat) (dies : List Nat) : Option Nat :=
  ((List.range limit).map (· + 1)).find? fun g => (List.range g).all fun k => p.fits g k ic grant dies

/-- The prediction for the largest group, in mA (R172). -/
def GroupPlan.peak (p : GroupPlan) (g ic : Nat) : Nat :=
  (divNear (12 * ic * (((List.range g).map fun k => p.bound g k fun _ => true).foldl max 0) : Nat) 10000).toNat

/-! ## Settings -/

/-- The ports of the mapper's mask. -/
def State.mapMask (s : State) : List Nat := (List.range 256).filter fun p => s.maskBit 0x3400 2 p

/-- Ic of a pass, in microampere (R172). -/
def State.mapIc (s : State) (pass : Nat) : Nat := if pass = 1 then 2000 else s.objN 0x3400 0x10

/-- The instants that a group lasts, in tk (R163). -/
def Map.groupTime (m : Map) : Nat := (m.periods + 1) * 256 * 2 ^ m.chip * tkUs

/-- The quads that hold a point. -/
def Map.quads (m : Map) : List Nat := (List.range 64).filter fun q => m.points.any fun p => p / 4 == q

/-- The converters and chains that a map holds (R186). -/
def Map.held (m : Map) : List Nat := m.quads ++ (if bitOf m.sel 2 then (List.range 8).map (64 + ·) else [])

/-! ## Codes, chips and lane slots (R161 to R164) -/

/-- Row `k`, chip `n` of the Sylvester Walsh-Hadamard matrix of order 256 (R161). -/
def hadamard (k n : Nat) : Int := if ((List.range 8).filter (bitOf (k &&& n))).length % 2 = 0 then 1 else -1

/-- Settle window and slot of each lane in grid instants, in a chip of length code `j` (R162). -/
def chipSlots (pass j : Nat) : Nat × Nat := if pass = 1 then (40 * 2 ^ j, 15 * 2 ^ j) else (60 * 2 ^ j, 10 * 2 ^ j)

/-- The kept samples of a lane in a chip, after the four settle samples of its slot (R162). -/
def chipKept (pass j : Nat) : Nat := (chipSlots pass j).2 - 4

/-- The current range of a pass (R162). -/
def passRange (pass : Nat) : Nat := if pass = 1 then 3 else 4

/-- The converter gain code of a pass (R162). -/
def passGain (pass : Nat) : Nat := if pass = 1 then 0 else 5

/-- The high and low chip level of a pass in microvolts (R164). -/
def State.chipLevels (s : State) (pass : Nat) : Int × Int :=
  if pass = 1 then (s.obj 0x3400 0x0E, -s.obj 0x3400 0x0E) else (s.obj 0x3400 0x0F, 0)

/-- The item that a point belongs to in a pass: itself, or its net (R164). -/
def Map.itemOf (m : Map) (pass p : Nat) : Nat := if pass = 1 then p else netNumber m.nets p

/-- The row of a point in the exciting group; none for a point that rests (R163, R171). -/
def Map.rowOf (m : Map) (p : Nat) : Option Nat :=
  ((m.groups.getD m.group []).find? fun r => r.1 == m.itemOf m.pass p).map (·.2)

/-- The chip that runs at an instant (R162). -/
def Map.chipAt (m : Map) (t : Tk) : Nat := (t - m.phaseStart) / (2 ^ m.chip * tkUs) % 256

/-- The level that a point forces now, in microvolts: its chip's level while its group excites, else 0.000 V (R159, R161,
R164). DESIGN CHOICE (log entry 127): the steps of the chips do not set the settling bit of the port; the settle window of R162
stands for it. -/
def State.pointLevel (s : State) (p : Nat) : Int :=
  let m := s.map
  if (m.phase == .pass1 || m.phase == .pass2) && decide (m.phaseStart ≤ s.now) then
    match m.rowOf p with
    | some k => if hadamard k (m.chipAt s.now) = 1 then (s.chipLevels m.pass).1 else (s.chipLevels m.pass).2
    | none => 0
  else 0

/-! ## The cells of the points (R159, R160, R165, R178) -/

/-- The points whose cells the mapper works. -/
def State.ownPoints (s : State) : List Nat := s.map.points.filter fun p => s.worksAs p .mapper

/-- A point changes its current range, make-before-break, with the loop set for loads up to 10 nF (R44, R50, R160, R165). -/
def State.pointToRange (s : State) (r p : Nat) : State :=
  let c := s.port p
  let time := 2 * rangeChangeTime r
  let s := s.setPort p { c with point := { range := r }, rangeFrom := c.point.range, rangeEnd := some (s.now + time) }
  (s.settle p s.now time).cellFollows (Fin.ofNat 256 p)

/-- Every point changes its range (R165). -/
def State.pointsToRange (s : State) (r : Nat) : State := s.each s.ownPoints fun s p => s.pointToRange r p

/-- The clamps of pass 2 take effect at a point (R164). -/
def State.pointClamps (s : State) (ppm p : Nat) : State :=
  s.setPort p { s.port p with point := { (s.port p).point with clamp := ppm } }

/-- A point's amplifier turns off for refinement (R178). -/
def State.pointOff (s : State) (p : Nat) : State :=
  let s := s.setPort p { s.port p with amp := false, sourceClamp := false, sinkClamp := false, voltageClamp := false,
                                       clampSince := none }
  (s.settle p s.now 8000).cellFollows (Fin.ofNat 256 p)

/-- A point returns to rest, without park: 0.000 V in the range of 2 mA, amplifier on, bus switches open (R159, R187); `excited`
names the points that forced another level. -/
def State.pointRests (s : State) (excited : List Nat) (p : Nat) : State :=
  let c := s.port p
  let time := if !c.amp then 40000 + 2 * fullScaleTime 3 else if c.point.range ≠ 3 then 2 * rangeChangeTime 3
    else if excited.contains p then 2 * fullScaleTime 3 else 0
  let s := s.setPort p { c with point := {}, rangeEnd := none, amp := true, bus := none, busNext := none }
  (if time = 0 then s else s.settle p s.now time).cellFollows (Fin.ofNat 256 p)

/-! ## Bus sources (R219) -/

/-- What a bus source shows to its bus converter is noted (R123, R219). -/
def State.noteSource (s : State) (n at' : Nat) : State :=
  let b := s.busSource n
  let m : LaneMark := { since := at', range := b.range, settleEnd := b.settleEnd }
  s.setBusSource n { b with marks := m :: marksFrom (s.conv (64 + n)).horizon b.marks }

/-- A bus source drives its bus in a mode, range and level from an instant on. It settles as a force amplifier does: from off,
after a change of mode, level or range, the longest where they come together; its level takes the steps of R36 and R38 (R48,
R49, R219). -/
def State.sourceDrives (s : State) (n : Nat) (current : Bool) (range : Nat) (level : Int) (at' : Tk) : State :=
  let b := s.busSource n
  let level := roundSetting (if current then 3 else 2) level
  let full := fullScaleTime range
  let mode := if !b.on then 40000 + full else if b.current != current then full else 0
  let amount := if b.on && b.current == current && b.level == level then 0 else if current then 2 * full else full
  let time := max mode (max amount (if b.range = range then 0 else rangeChangeTime range))
  (s.setBusSource n { b with on := true, current := current, range := range, level := level,
                             settleEnd := if time = 0 then b.settleEnd else max b.settleEnd (at' + time) }).noteSource n at'

/-- A bus source turns off, and its bus floats (R219, R221). -/
def State.sourceOff (s : State) (n : Nat) : State :=
  if (s.busSource n).on then
    (s.setBusSource n { s.busSource n with on := false, current := false, range := 0, level := 0, settleEnd := 0,
                                           clamp := false }).noteSource n s.now
  else s

/-! ## Enable (R158, R77) -/

/-- A write of TRUE to the mapper's enable. -/
def State.mapperEnables (s : State) (who : Nat) : Res := do
  refuseWith (s.claimsAbort who (s.mapMask.map fun p => (clsPort, p)))
  let s := s.setObj 0x3400 1 1
  let s := if s.map.phase == .disabled then { s with map := { s.map with phase := .ready } } else s
  return s.settleOwners .enable

/-! ## References (R182, R183) -/

/-- The records of a reference: kind, points and largest resistance. -/
def referenceRecords (b : Bytes) : List (Nat × Nat × Nat × Nat) :=
  (List.range ((b.length - 16) / 8)).map fun j =>
    let o := 16 + 8 * j
    (fieldLe b o 1, fieldLe b (o + 1) 1, fieldLe b (o + 2) 1, fieldLe b (o + 4) 4)

/-- Whether the bytes of a reference are valid (R182). -/
def referenceOk (b : Bytes) : Bool :=
  let rs := referenceRecords b
  let links := (rs.filter fun r => r.1 == 1).map fun r => (r.2.1, r.2.2.1)
  let ignored := (rs.filter fun r => r.1 == 2).map fun r => r.2.1
  decide (16 ≤ b.length) && b.length == 16 + 8 * fieldLe b 2 2 && fieldLe b 0 2 == 1 &&
    (crc32c (b.drop 16)).toNat == fieldLe b 4 4 && rs.all (fun r => r.1 == 1 || r.1 == 2) &&
    links.all (fun l => decide (l.1 < l.2)) && (links.zipIdx).all (fun x => !(links.drop (x.2 + 1)).contains x.1) &&
    links.all fun l => !ignored.contains l.1 && !ignored.contains l.2

/-- A write of a reference slot; length 0 empties it (R182, R191). -/
def State.referenceStore (s : State) (slot : Nat) (b : Bytes) : Res := do
  refuseIf (s.mapRunning && s.map.refSlot == slot + 1) 0x0F010601
  refuseIf (!b.isEmpty && !referenceOk b) 0x0F010605
  s.hostTxn (.reference slot) [.blob 6 slot (if b.isEmpty then none else some b)]

/-- Whether comparison can use a slot over the mask (R183). -/
def State.comparable (s : State) (slot : Nat) (mask : List Nat) : Bool :=
  slot != 0 && s.hasItem 6 (slot - 1) && (referenceRecords (s.item 6 (slot - 1))).all fun r =>
    mask.contains r.2.1 && (r.1 != 1 || mask.contains r.2.2.1)

/-! ## Starting (R185, R170, R244) -/

/-- Whether the sequence of a converter runs, to its boundary where it is stopped. -/
def State.sequenceRuns (s : State) (q : Nat) : Bool := s.objN (0x3200 + q) 1 != 0 || (s.conv q).passRunning

/-- Whether the converter or the chain of a quad is busy (R185, 0x0F01_0602). -/
def State.convBusy (s : State) (q : Nat) : Bool := s.sequenceRuns q || s.slotBusy q || (s.conv q).calibrationUse

/-- The refusals of a map start beyond its mode and its writer's claims. -/
def State.mapStartAbort (s : State) (who sel slot : Nat) : Option Nat :=
  let mask := s.mapMask
  let quads := (List.range 64).filter fun q => mask.any fun p => p / 4 == q
  let q := s.objN 0x3400 0x14
  if s.mapRunning then some 0x0F010601
  else if s.objN 0x3400 1 != 1 || !s.bound then some 0x0F010603
  else if mask.any (fun p => (s.port p).owner.kind != .mapper) then some 0x0F010604
  else if quads.any s.convBusy then some 0x0F010602
  else if bitOf sel 2 && ((List.range 8).any (fun n => s.sequenceRuns (64 + n)) ||
    (List.range 4).any fun m => (s.sweep m).step.isSome && !(s.sweep m).forces) then some 0x0F010602
  else if !bitOf sel 0 || ((bitOf sel 2 || bitOf sel 3) && mask.isEmpty) then some 0x0F010606
  else if bitOf sel 3 && !s.comparable slot mask then some 0x0F010606
  else s.queueRefAbort who q

/-! ## The end of a map -/

/-- An entry of the mapper (R181). -/
def mapEntry (stamp kind flags : Nat) (payload : Bytes) : NewEntry :=
  { stamp := stamp, tag := 0x0280, kind := kind, flags := flags, payload := payload }

/-- The header (R181). -/
def State.mapHeader (s : State) : NewEntry :=
  let m := s.map
  let slot := m.refSlot
  mapEntry m.start 0x30 0 (natLe 2 m.points.length ++ natLe 1 m.sel ++ natLe 1 m.chip ++ natLe 1 m.periods ++ natLe 1 m.g1 ++
    natLe 1 m.g2 ++ natLe 1 (if slot = 0 then 0xFF else slot - 1) ++
    natLe 4 (if slot = 0 then 0 else fieldLe (s.item 6 (slot - 1)) 8 4) ++ natLe 2 m.rounds.length)

/-- The summary (R181). -/
def State.mapSummary (s : State) (verdict cause diffs : Nat) : NewEntry :=
  let m := s.map
  mapEntry s.now 0x35 (bnat (cause != 0)) (natLe 2 m.nets.length ++ natLe 2 m.links.length ++ natLe 2 m.leaks.length ++
    natLe 2 diffs ++ natLe 1 verdict ++ natLe 1 cause ++ natLe 2 m.rounds.length ++ natLe 4 ((s.now - m.start) / tkUs))

/-- An entry goes to the mapper's result queue. -/
def State.mapWrites (s : State) (e : NewEntry) : State := s.blockEntryTo (s.objN 0x3400 0x14) e

/-- The map releases what it holds (R186, R245): its bus sources turn off, grids take the end as origin, lanes restart with
cause 0x04, and the grants enter a tail. -/
def State.mapReleases (s : State) : State :=
  let m := s.map
  let s := if s.refining then s.each (List.range 8) State.sourceOff else s
  let free := fun (s : State) q =>
    let s := s.setChain q { s.chain q with mapperUse := false }
    let p := s.periodWanted q
    let s := (s.setConv q { s.conv q with origin := s.now, period := p }).setObj (0x3200 + q) 0x18 p
    s.restartChain q 4 s.now
  let s : State := m.held.foldl free s
  -- a map that has not come to run leaves the peaks of its step instead
  let i := s.runningImage
  let (peak, dies) := match m.phase, m.byStep with
    | .waiting, some k => (stepPeak i k, (List.range 4).map (stepDiePeak i k))
    | _, _ => (m.grant, m.dieGrants)
  let s : State := { s with disp := { s.disp with tails := s.disp.tails ++
    [{ until_ := s.now + 400000, module_ := peak, dies := dies }] } }
  s.setGrants 0 []

/-- The step that runs the map has its values, and its action stops (R199). -/
def State.mapStepDone (s : State) (verdict diffs cause : Nat) : State :=
  match s.map.byStep with
  | none => s
  | some k =>
    let r := s.step k
    let m := s.map
    let vs : List Nat := [verdict, m.nets.length, m.links.length, m.leaks.length, diffs, (s.now - m.start) * 1000 / tkUs, cause]
    let values := (vs.zipIdx).map fun x => ({ index := x.2, value := x.1, flags := 0, stamp := none } : StepValue)
    if r.stage != .inFlight || r.done.isSome then s
    else s.setStep k { r with values := values, done := some (r.ending.getD (if cause = 0 then 0 else 9)), stoppedAt := s.now }

/-- A map has ended or aborted: objects, summary, rest of its points, cause bit 0 (R159, R181, R187, R188, R191). -/
def State.mapFinishes (s : State) (verdict diffs cause : Nat) : State :=
  let m := s.map
  let excited := s.ownPoints.filter fun p => s.pointLevel p != 0
  let s := s.mapWrites (s.mapSummary verdict cause diffs)
  let s := (if cause = 0 then s else s.setObj 0x3401 2 cause).setObj 0x3401 3 verdict
  let s := (s.countUp 0x3401 4).setObj 0x3401 6 ((s.now - m.start) / tkUs)
  let s := (s.setObj 0x3401 8 m.rounds.length).setObj 0x3401 0x0C diffs
  let s := s.mapReleases
  let s := s.mapStepDone verdict diffs cause
  let s := { s with map := { s.map with phase := if cause = 0 then .done else .aborted, byStep := none } }
  (s.each s.ownPoints (State.pointRests · excited ·)).cause 0x3400 0 s.now

/-- A running map aborts (R187); entry to SAVE writes nothing, and clamps the points (R32). -/
def State.mapAborts (s : State) (cause : Nat) : State :=
  if !s.mapRunning then s
  else if s.mode == .save then
    let s := s.mapReleases
    { (s.setObj 0x3401 2 cause) with map := { s.map with phase := .aborted, byStep := none } }
  else (s.mapWrites s.mapHeader).mapFinishes 3 0 cause

/-- A write of FALSE to the mapper's enable (R158). -/
def State.mapperDisables (s : State) : State :=
  let s := s.mapAborts 8
  let s := { s.setObj 0x3400 1 0 with map := { s.map with phase := .disabled } }
  s.settleOwners .disable

/-- A point faults, or a claim on a point ends (R187). -/
def State.mapLosesPoint (s : State) (p cause : Nat) : State := if s.map.points.contains p then s.mapAborts cause else s

/-! ## Start of a map (R170, R171, R244) -/

/-- Whether grants fit the first group of some grouping (R170). -/
def GroupPlan.firstFits (p : GroupPlan) (limit ic grant : Nat) (dies : List Nat) : Bool :=
  (List.range limit).any fun g => p.fits (g + 1) 0 ic grant dies

/-- The map takes the grants and its first group begins (R170, R171, R244). It goes on waiting where the grants do not fit a first
group; where they do and no number of groups fits, it aborts with cause 0x06. -/
def State.mapTryStart (s : State) : State :=
  let s := s.showGrants
  let m := s.map
  let grant := s.grantFor none m.byStep
  let dies := (List.range 4).map fun d => s.grantFor (some d) m.byStep
  let plan := groupPlan 1 m.points []
  match plan.groups (s.objN 0x3400 0x16) (s.mapIc 1) grant dies with
  | none => if plan.firstFits (s.objN 0x3400 0x16) (s.mapIc 1) grant dies then s.mapAborts 6 else s
  | some g =>
    let m := { m with phase := .pass1, pass := 1, group := 0, g1 := g, grant := grant, dieGrants := dies,
                      groups := (List.range g).map (plan.rows g), phaseStart := s.now + 80000 }
    let s : State := { s with map := m }
    let s := ((s.setObj 0x3401 7 g).setObj 0x3401 0x0D (plan.peak g (s.mapIc 1))).setObj 0x3401 0x0E grant
    if 1 < g then s.cause 0x3400 3 s.now else s

/-- A converter and its chain are held by the map, at an effective period of 40 tk (R170, R186). -/
def State.mapHolds (s : State) (q : Nat) : State := (s.setChain q { s.chain q with mapperUse := true }).applyPeriod q s.now

/-- A start is accepted (R181, R185), and VCORE is held at 0.70 V or more (R170). The objects that describe a map (0x3401:03
and :07 to :0C, :0E) begin again; the last abort and the last pass planned stay (R191; DESIGN CHOICE, log entry 125). -/
def State.mapStarts (s : State) (who sel slot chip periods : Nat) (step : Option Nat) : State :=
  let m : Map := { phase := .waiting, start := s.now, session := who, byStep := step, sel := sel, refSlot := slot, chip := chip,
                   periods := periods, points := s.mapMask, waitSince := s.now }
  let s := { s with map := m }
  let s := (m.held.foldl State.mapHolds s).setObj 0x3401 5 s.now
  let s := s.each [3, 7, 8, 9, 0x0A, 0x0B, 0x0C, 0x0E] fun s k => s.setObj 0x3401 k 0
  let s := (if s.objN 0x2201 3 < 700 then s.setTarget 700 else s).mapTryStart
  if s.map.phase == .waiting then (s.cause 0x3400 4 s.now).cause 0x2200 6 s.now else s

/-! ## Passes (R163, R166 to R168) -/

/-- An element of Y. -/
def yOf (l : List MapSum) (i j : Nat) : Ratio :=
  match l.find? fun x => x.item == i && x.code == j with
  | some x => x.y
  | none => { num := 0, den := 1 }

/-- The conductance between two items (R168). -/
def mapG (l : List MapSum) (i j : Nat) : Ratio :=
  let y := (yOf l i j).add (yOf l j i)
  { num := -y.num, den := 2 * y.den }

/-- The leakage of an item to the module's 0 V (R168). -/
def mapG0 (l : List MapSum) (items : List Nat) (i : Nat) : Ratio :=
  (yOf l i i).add (Ratio.sum ((items.filter fun j => j != i).map fun j => (mapG l i j).scale (-1)))

/-- The mean of the codes of a point's lane in a pass, as an exact calibrated value in ppm of the range (R102, R162). -/
def State.laneMean (s : State) (pass p : Nat) (codes : Codes) : Ratio :=
  { num := (codes.map (s.valueNum (p / 4) (p % 4) (passGain pass) (passRange pass, 0))).sum,
    den := valueDen (passGain pass) * codes.length }

/-- The rest current of a point before pass 1, in ppm of its range; none is subtracted in pass 2 (R166). -/
def Map.restOf (m : Map) (p : Nat) : Ratio :=
  if m.pass = 1 then ((m.rests.find? fun x => x.1 == p).map (·.2)).getD { num := 0, den := 1 } else { num := 0, den := 1 }

/-- The chips of a group that count: the lead-in period is discarded (R163). -/
def chipsCounted (x : PointSamples) : List Codes := x.chips.drop 256

/-- Y of one point with the code of a row (R166, R167): the sum over the averaged periods of its chip current times the row, over
N x 256 x A. A is A1, or half of E2 (R164). -/
def State.pointY (s : State) (x : PointSamples) (row : Nat) : Ratio :=
  let m := s.map
  let p := x.point.val
  let h := fun (j : Nat) => hadamard row (j % 256)
  let chips := ((chipsCounted x).zipIdx).map fun c => (s.laneMean m.pass p c.1).scale (h c.2)
  let rest := (m.restOf p).scale (-((List.range (chipsCounted x).length).map h).sum)
  let i := (Ratio.sum chips).add rest
  { num := i.num * (2 * 10 ^ passRange m.pass * m.pass), den := i.den * (1000000 * m.periods * 256 * (s.chipLevels m.pass).1.toNat) }

/-- The points of a measured item: a port, or the members of a net (R164, R167). -/
def Map.pointsOf (m : Map) (item : Nat) : List Nat := if m.pass = 1 then [item] else m.nets.getD item []

/-- The measured items of a pass. -/
def Map.items (m : Map) : List Nat := if m.pass = 1 then m.points else List.range m.nets.length

/-- The columns of Y that a group gives: every measured item with every code of the group, a net by the sum of its points
(R167). -/
def State.groupY (s : State) (samples : MapSamples) : List MapSum :=
  let m := s.map
  m.items.flatMap fun i => (m.groups.getD m.group []).map fun r =>
    { item := i, code := r.1, y := Ratio.sum ((samples.filter fun x => (m.pointsOf i).contains x.point.val).map (s.pointY · r.2)) }

/-- Whether a counted sample of a point over-ranges (R174). -/
def pointOver (x : PointSamples) : Bool := (chipsCounted x).any fun c => c.any codeAtEnd

/-- Whether samples are those of a group: one record for each point, with every kept sample of every chip (R162, R163). -/
def Map.samplesOk (m : Map) (samples : MapSamples) : Bool :=
  (samples.map fun x => x.point.val) == m.points && samples.all fun x =>
    x.chips.length == (m.periods + 1) * 256 && x.chips.all fun c => c.length == chipKept m.pass m.chip && codesOk c

/-- Whether rest currents are those of points of the map, with every point's before pass 1 (R166). -/
def Map.restsOk (m : Map) (rests : RestSamples) : Bool :=
  (rests.all fun x => m.points.contains x.1.val && codesOk x.2) &&
    (!(m.pass == 1 && m.group == 0) || m.points.all fun p => rests.any fun x => x.1.val == p && !x.2.isEmpty)

/-- The rest currents are averaged before pass 1 (R166). -/
def State.mapRests (s : State) (rests : RestSamples) : State :=
  if s.map.pass = 1 && s.map.group = 0 then
    { s with map := { s.map with rests := (rests.filter fun x => !x.2.isEmpty).map fun x =>
        (x.1.val, s.laneMean 1 x.1.val x.2) } }
  else s

/-- A pass has ended (R165, R188): where pass 2 follows pass 1 every point changes to the range of 20 mA, and after pass 2 it
returns to the range of 2 mA at 0.000 V. -/
def State.passDone (s : State) : State :=
  let one := s.map.pass == 1
  let s := { s with map := { s.map with phase := .analysis, phaseStart := s.now } }
  let s := if !one then s.pointsToRange 3 else if bitOf s.map.sel 1 then s.pointsToRange 4 else s
  s.cause 0x3400 (if one then 1 else 2) s.now

/-- The running group ends with what its points' lanes gave (R163, R167); an over-range of pass 1 is a foreign source (R174). -/
def State.mapGroupEnds (s : State) (rests : RestSamples) (samples : MapSamples) : State :=
  let m := s.map
  let one := m.phase == .pass1
  let hit := samples.filter pointOver
  if !(one || m.phase == .pass2) || s.now < m.phaseStart + (m.group + 1) * m.groupTime || !m.samplesOk samples || !m.restsOk rests then s
  else if one && !hit.isEmpty then s.mapAborts 7
  else
    let s := s.mapRests rests
    let y := s.groupY samples
    let m := s.map
    let m := if one then { m with sums1 := m.sums1 ++ y, group := m.group + 1 }
      else { m with sums2 := m.sums2 ++ y, overItems := m.overItems ++ hit.map fun x => netNumber m.nets x.point.val,
                    group := m.group + 1 }
    let s := { s with map := m }
    if m.group < m.groups.length then s else s.passDone

/-- The links that pass 1 found (R173), by point a, then point b. -/
def State.mapLinks (s : State) : List MapLink :=
  let m := s.map
  m.points.flatMap fun a => (m.points.filter fun b => decide (a < b)).filterMap fun b =>
    let g := mapG m.sums1 a b
    if 0 < g.num ∧ (1000 * g.den : Int) ≤ g.num * (s.objN 0x3400 0x11 + 500000) then some { a := a, b := b, g := g } else none

/-- The reported paths of pass 2 (R174). -/
def State.mapLeaks (s : State) : List MapLeak :=
  let m := s.map
  let items := List.range m.nets.length
  let riso := s.objN 0x3400 0x12 * 1000
  let judge := fun (a : Nat) (b : Option Nat) (g : Ratio) =>
    let sat := m.overItems.contains a || (match b with | some x => m.overItems.contains x | none => false)
    if g.atMost 50 riso then
      [({ a := a, b := b, g := g, cls := if g.atMost 50 100000 then 2 else 3, saturated := sat } : MapLeak)] else []
  items.flatMap fun a =>
    ((items.filter fun b => decide (a < b)).flatMap fun b => judge a (some b) (mapG m.sums2 a b)) ++
      judge a none (mapG0 m.sums2 items a)

/-! ## Refinement (R176 to R178) -/

/-- The number of rounds of refinement (R176). -/
def roundsOf (links : List (Nat × Nat)) : Nat :=
  let degree := ((List.range 256).map fun p => (links.filter fun l => l.1 == p || l.2 == p).length).foldl max 0
  if degree < (links.length + 3) / 4 then (links.length + 3) / 4 else max ((links.length + 3) / 4) (degree + 1)

/-- Whether two links have a point in common. -/
def linksMeet (x y : Nat × Nat) : Bool := x.1 == y.1 || x.1 == y.2 || x.2 == y.1 || x.2 == y.2

/-- Whether rounds are even: their sizes differ by one at most. -/
def roundsEven (rounds : List (List (Nat × Nat))) : Bool :=
  rounds.all fun x => rounds.all fun y => decide (x.length ≤ y.length + 1)

/-- Whether rounds are an equitable edge colouring of the links: each link in one round, at most four links and no point twice in
a round, and even rounds (R176). -/
def roundsValid (links : List (Nat × Nat)) (rounds : List (List (Nat × Nat))) : Bool :=
  rounds.flatten.length == links.length && links.all (fun l => (rounds.filter (·.contains l)).length == 1) &&
    roundsEven rounds && rounds.all fun r => decide (r.length ≤ 4) &&
      (r.zipIdx).all fun x => (r.drop (x.2 + 1)).all fun y => !linksMeet x.1 y

/-- The first equitable colouring in the order of rounds that extends what is placed already, if there is one. -/
def placeLinks (rounds : List (List (Nat × Nat))) : List (Nat × Nat) → Option (List (List (Nat × Nat)))
  | [] => if roundsEven rounds then some rounds else none
  | l :: ls => (List.range rounds.length).findSome? fun k =>
    let r := rounds.getD k []
    if decide (4 ≤ r.length) || r.any (linksMeet l) then none else placeLinks (rounds.set k (r ++ [l])) ls

/-- The rounds: a free choice among the equitable edge colourings of the links into K rounds (R176; log entry 14). Where the free
value is none of them it is the first one. -/
def planRounds (links : List (Nat × Nat)) : List (List (Nat × Nat)) :=
  let k := roundsOf links
  let free := (List.range k).map (Config.mapRound links)
  if roundsValid links free then free else (placeLinks (List.replicate k []) links).getD []

/-- The refinement current of a link, in 10 microampere (R178). -/
def linkCurrent (iref : Nat) (g : Ratio) : Nat :=
  let r1 : Int := (g.den : Int) - 500 * g.num
  let most : Int := if r1 ≤ g.num then 500000 else divTrunc (500000 * g.num) r1
  (min (iref : Int) most).toNat / 10

/-- The range of the bus source for a refinement current: the smallest one that holds it. DESIGN CHOICE (log entry 126): the
spec names no range. -/
def linkRange (i10 : Nat) : Nat := ((List.range 6).find? fun r => decide (i10 * 10000000 ≤ rangePa r)).getD 5

/-- The current of a link in ppm of its bus source's range. -/
def linkLevel (i10 : Nat) : Int := divNear (i10 * 10000000 * 1000000 : Nat) (rangePa (linkRange i10))

/-- The gain code of L3: the highest whose full scale is at least twice the current times max(R1, 1 ohm) (R178). -/
def linkGain (iref : Nat) (g : Ratio) : Nat :=
  let r1 : Int := (g.den : Int) - 500 * g.num
  let volts : Int := 2 * (linkCurrent iref g * 10) * max r1 g.num
  ((List.range 6).reverse.find? fun k => decide (volts * 2 ^ k ≤ 1024000 * g.num)).getD 0

/-- The links of the running round, with their loops. -/
def Map.loops (m : Map) : List (MapLink × Nat) :=
  ((m.rounds.getD m.round []).zipIdx).filterMap fun x => (m.links.find? fun l => (l.a, l.b) == x.1).map fun l => (l, x.2)

/-- The sign of a loop's current in a phase (R177). -/
def loopSign (loop phase : Nat) : Int := hadamard (loop + 1) phase

/-- A refinement round starts at `tr` (R176, R177): the switches of the round before open, the new pairs are commanded closed
2 microseconds later, and the sources of its loops drive from phase 1 on; BS2m + 1 returns the current at 0.000 V. -/
def State.roundStarts (s : State) (tr : Tk) : State :=
  let s := s.each s.ownPoints fun s p =>
    let next := (s.ownerBus p { kind := .mapper, unit := 0 }).map fun b => (b, tr + 8000 + 20000)
    (s.setPort p { s.port p with bus := none, busNext := next }).cellFollows (Fin.ofNat 256 p)
  let used := s.map.loops
  let s := used.foldl (fun s x =>
    let i := linkCurrent s.map.iref x.1.g
    (s.sourceDrives (2 * x.2) true (linkRange i) (linkLevel i) (tr + 32000)).sourceDrives (2 * x.2 + 1) false (linkRange i) 0
      (tr + 32000)) s
  s.each ((List.range 8).filter fun n => !used.any fun x => x.2 == n / 2) State.sourceOff

/-- The phase of a refinement round at an instant, from 0; none before phase 1 (R177). -/
def State.roundPhase (s : State) (t : Tk) : Option Nat :=
  let first := s.map.phaseStart + s.map.round * 512000 + 32000
  if s.map.phase == .refinement && decide (first ≤ t) then some (min 7 ((t - first) / 60000)) else none

/-- The level of a bus source now: in refinement its loop reverses it by the phase (R177, R219). -/
def State.sourceLevel (s : State) (n : Nat) : Int :=
  match s.roundPhase s.now with
  | some k => (s.busSource n).level * loopSign (n / 2) k
  | none => (s.busSource n).level

/-- Whether a bus source settles now (R49, R219): after it was set, and in refinement after each reversal of its current. -/
def State.sourceSettles (s : State) (n : Nat) : Bool :=
  let b := s.busSource n
  let turned := match s.roundPhase s.now with
    | some k => (List.range k).any fun j => b.level != 0 && loopSign (n / 2) j != loopSign (n / 2) (j + 1) &&
        decide (s.now < s.map.phaseStart + s.map.round * 512000 + 32000 + (j + 1) * 60000 + 2 * fullScaleTime b.range)
    | none => false
  b.on && (decide (s.now < b.settleEnd) || turned)

/-- Refinement begins, or the map aborts for want of current (R178): the amplifiers of all points turn off, and round 1 starts. -/
def State.mapRefines (s : State) : State :=
  let m := s.map
  let want := s.objN 0x3400 0x13
  let least := m.dieGrants.foldl min m.grant
  let iref := min want (least * 1000 / 8)
  if iref < 1000 then s.mapAborts 6
  else
    let rounds := planRounds (m.links.map fun l => (l.a, l.b))
    let m := { m with phase := .refinement, pass := 3, rounds := rounds, round := 0, iref := iref, phaseStart := s.now }
    let s := { s with map := m }.setObj 0x3401 8 rounds.length
    (s.each s.ownPoints State.pointOff).roundStarts s.now

/-- Pass 2 begins with its clamps, or the map aborts because no grouping fits (R164, R171). -/
def State.mapPass2 (s : State) : State :=
  let m := s.map
  let plan := groupPlan 2 m.points m.nets
  match plan.groups (s.objN 0x3400 0x16) (s.mapIc 2) m.grant m.dieGrants with
  | none => s.mapAborts 6
  | some g =>
    let m := { m with phase := .pass2, pass := 2, group := 0, g2 := g, groups := (List.range g).map (plan.rows g),
                      phaseStart := s.now }
    let s := ({ s with map := m }.setObj 0x3401 7 (m.g1 + 256 * g : Nat)).setObj 0x3401 0x0D (plan.peak g (s.mapIc 2))
    let s := s.each s.ownPoints fun s p => s.pointClamps (s.objN 0x3400 0x10 * 50) p
    if 1 < g then s.cause 0x3400 3 s.now else s

/-- After the passes: refinement, or the end of the map. -/
def State.mapAfterPasses (s : State) : State :=
  if bitOf s.map.sel 2 then s.mapRefines else { s with map := { s.map with pass := 3, phaseStart := s.now } }

/-- An analysis interval ends, once the points have changed their range (R165, R171, R173, R174). -/
def State.mapAnalysed (s : State) : State :=
  let m := s.map
  let changing := s.ownPoints.any fun p => match (s.port p).rangeEnd with
    | some e => decide (s.now < e)
    | none => false
  if m.phase != .analysis || changing then s
  else if m.pass = 1 then
    let links := s.mapLinks
    let nets := netsOf m.points (links.map fun l => (l.a, l.b))
    let s := { s with map := { m with links := links, nets := nets } }
    let s := (s.setObj 0x3401 9 nets.length).setObj 0x3401 0x0A links.length
    if bitOf m.sel 1 then s.mapPass2 else s.mapAfterPasses
  else if m.pass = 2 then
    let leaks := s.mapLeaks
    let s := { s with map := { m with leaks := leaks } }
    (s.setObj 0x3401 0x0B leaks.length).mapAfterPasses
  else s

/-- What a loop gave over its phases, demodulated by its row: the sum of the phase means with their signs (R177). -/
def State.demodulate (s : State) (loop lane gain range : Nat) (phases : List Codes) : Ratio :=
  Ratio.sum ((phases.zipIdx).map fun x =>
    ({ num := (x.1.map (s.valueNum (64 + 2 * loop) lane gain (range, 0))).sum, den := valueDen gain * x.1.length } : Ratio).scale
      (loopSign loop x.2))

/-- The Kelvin resistance of a loop in micro-ohm (R177): the demodulated voltage of L3, in microvolts, over the demodulated
current of L2, in ppm of the range; with no current it is a free value (log entry 13). DESIGN CHOICE (log entry 126): L2 has gain
x1. -/
def State.kelvin (s : State) (loop : Nat) (l : MapLink) (r : RoundResult) : Nat :=
  let range := linkRange (linkCurrent s.map.iref l.g)
  let v := s.demodulate loop 3 (linkGain s.map.iref l.g) range r.volts
  let i := s.demodulate loop 2 0 range r.amps
  if i.num = 0 then (Config.freeValue s.fresh).toNat % 2 ^ 32
  else
    let num := v.num * i.den * 10 ^ 12
    (clampInt 0 0xFFFFFFFE (divNear (if i.num < 0 then -num else num) (v.den * i.num.natAbs * 2 * 10 ^ range))).toNat

/-- Whether a loop's record is whole: eight phases of each lane, each with samples (R177). -/
def loopWhole (r : RoundResult) : Bool :=
  r.amps.length == 8 && r.volts.length == 8 && (r.amps ++ r.volts).all fun c => !c.isEmpty && codesOk c

/-- A link takes what its loop measured (R177, R178, R181). DEDUCED (log entry 156): rounds are numbered from 1. -/
def State.linkMeasured (s : State) (rs : RoundResults) (l : MapLink) : MapLink :=
  let m := s.map
  match m.loops.find? fun x => x.1.a == l.a && x.1.b == l.b, rs.find? fun r => r.a.val == l.a && r.b.val == l.b with
  | some x, some r =>
    { l with kelvin := some (s.kelvin x.2 l r, linkCurrent m.iref l.g, m.round + 1),
             overRange := (r.amps ++ r.volts).any fun c => c.any codeAtEnd }
  | _, _ => l

/-- A round ends with what every one of its loops measured (R177); the next one starts at that instant of the grid of rounds. -/
def State.mapRoundEnds (s : State) (rs : RoundResults) : State :=
  let m := s.map
  let tr := m.phaseStart + (m.round + 1) * 512000
  let given := m.loops.all fun x => rs.any fun r => r.a.val == x.1.a && r.b.val == x.1.b
  if m.phase != .refinement || s.now < tr || !given || !rs.all loopWhole then s
  else
    let m : Map := { m with links := m.links.map (s.linkMeasured rs), round := m.round + 1 }
    let s := { s.nextFresh with map := m }.roundStarts tr
    if m.round < m.rounds.length then s else { s with map := { m with phase := .analysis, phaseStart := s.now } }

/-! ## Comparison (R183, R184) -/

/-- A difference: type, point a, point b (none for 0 V), measured and limit as REAL32. -/
structure MapDiff where
  type : Nat
  a : Nat
  b : Option Nat
  measured : Nat
  limit : Nat
  deriving DecidableEq, Repr

/-- The parts of a set of points by the nets that hold them, the part of its lowest point first. -/
def partsOf (nets : List (List Nat)) (set : List Nat) : List (List Nat) :=
  (nets.map fun n => n.filter set.contains).filter fun p => !p.isEmpty

/-- R2 between the nets of two points; infinity where isolated (R184). -/
def State.mapR2 (s : State) (a b : Nat) : Nat :=
  let m := s.map
  let i := netNumber m.nets a
  let j := netNumber m.nets b
  match m.leaks.find? fun l => (l.a == i && l.b == some j) || (l.a == j && l.b == some i) with
  | some l => l.g.ohms 50
  | none => 0x7F800000

/-- The differences of the map against the selected reference, in order of type (R184). -/
def State.mapDiffs (s : State) : List MapDiff :=
  let m := s.map
  let rs := referenceRecords (s.item 6 (m.refSlot - 1))
  let links := rs.filter fun r => r.1 == 1
  let ignored := (rs.filter fun r => r.1 == 2).map fun r => r.2.1
  let points := m.points.filter fun p => !ignored.contains p
  let refNets := netsOf points (links.map fun r => (r.2.1, r.2.2.1))
  let nets := (m.nets.map fun n => n.filter points.contains).filter fun n => !n.isEmpty
  let pairs := fun (type : Nat) (sets nets : List (List Nat)) (value : Nat → Nat → Nat) => sets.flatMap fun set =>
    let ps := (partsOf nets set).foldl (fun r x => insertNet x r) []
    let a := (ps.headD []).headD 0
    (ps.drop 1).map fun p => ({ type := type, a := a, b := some (p.headD 0), measured := value a (p.headD 0), limit := 0 } : MapDiff)
  let opens := pairs 1 refNets nets s.mapR2
  let shorts := pairs 2 nets refNets fun _ _ => (Config.freeValue s.fresh).toNat % 2 ^ 32
  let linkOf := fun a b => m.links.find? fun l => l.a == a && l.b == b
  let highs := links.filterMap fun r => match linkOf r.2.1 r.2.2.1 with
    | some l => match l.kelvin with
      | some (k, _, _) => if r.2.2.2 != 0xFFFFFFFF && decide (r.2.2.2 < k) then
          some ({ type := 3, a := l.a, b := some l.b, measured := real32 k 1000000, limit := real32 r.2.2.2 1000000 } : MapDiff)
          else none
      | none => none
    | none => none
  let one := fun (ps : List Nat) => refNets.any fun n => ps.all n.contains
  let isos := m.leaks.filterMap fun l =>
    let na := (m.nets.getD l.a []).filter points.contains
    let low := fun (n : Nat) => (m.nets.getD n []).headD 0
    let d : MapDiff := { type := 4, a := low l.a, b := l.b.map low, measured := l.g.ohms 50, limit := real32 (s.objN 0x3400 0x12 * 1000 : Nat) 1 }
    match l.b with
    | none => if na.isEmpty then none else some d
    | some b =>
      let nb := (m.nets.getD b []).filter points.contains
      if na.isEmpty || nb.isEmpty || one (na ++ nb) then none else some d
  let unchecked := links.filterMap fun r =>
    if r.2.2.2 != 0xFFFFFFFF && netNumber nets r.2.1 == netNumber nets r.2.2.1 && (linkOf r.2.1 r.2.2.1).isNone then
      some ({ type := 5, a := r.2.1, b := some r.2.2.1, measured := (Config.freeValue s.fresh).toNat % 2 ^ 32,
              limit := real32 r.2.2.2 1000000 } : MapDiff) else none
  (opens ++ shorts ++ highs ++ isos ++ unchecked).foldl (fun (r : List MapDiff) d =>
    if r.any fun x => x.type != d.type && x.a == d.a && x.b == d.b then r else r ++ [d]) []

/-! ## Entries (R181) -/

/-- The entries of one net. -/
def netEntries (te n : Nat) (net : List Nat) : List NewEntry :=
  (List.range ((net.length + 11) / 12)).map fun j =>
    mapEntry te 0x31 0 (natLe 2 n ++ natLe 1 net.length ++ natLe 1 (12 * j) ++
      (((net.drop (12 * j)).take 12).flatMap fun p => natLe 1 p))

/-- The entry of one link. -/
def State.linkEntry (s : State) (l : MapLink) : NewEntry :=
  let n := netNumber s.map.nets l.a
  let big := decide (2 < (s.map.nets.getD n []).length)
  let (k, i, r) := l.kelvin.getD (0xFFFFFFFF, 0, 0xFFFF)
  mapEntry s.now 0x32 (bnat l.kelvin.isNone + 2 * bnat big + 4 * bnat l.overRange)
    (natLe 1 l.a ++ natLe 1 l.b ++ natLe 2 n ++ natLe 4 k ++ natLe 4 (real32 l.g.num l.g.den) ++ natLe 2 i ++ natLe 2 r)

/-- The entry of one leakage path. -/
def State.leakEntry (s : State) (l : MapLeak) : NewEntry :=
  mapEntry s.now 0x33 (bnat l.saturated) (natLe 2 l.a ++ natLe 2 (l.b.getD 0xFFFF) ++ natLe 4 (l.g.ohms 50) ++
    natLe 4 (real32 l.g.num l.g.den) ++ natLe 1 l.cls ++ natLe 1 (s.objN 0x3400 0x0F / 100000))

/-- The entry of one difference. -/
def State.diffEntry (s : State) (d : MapDiff) : NewEntry :=
  let net := netNumber s.map.nets
  mapEntry s.now 0x34 0 (natLe 1 d.type ++ natLe 1 d.a ++ natLe 1 (d.b.getD 0) ++ natLe 1 (bnat d.b.isNone) ++ natLe 4 d.measured ++
    natLe 4 d.limit ++ natLe 2 (net d.a) ++ natLe 2 (match d.b with | some b => net b | none => 0xFFFF))

/-- The matrix dump of a pass: every row item and every column, three columns an entry. -/
def State.dumpEntries (s : State) (pass : Nat) (items : List Nat) (l : List MapSum) : List NewEntry :=
  let y := fun i j => real32 (yOf l i j).num (yOf l i j).den
  items.flatMap fun i => (List.range ((items.length + 2) / 3)).map fun c =>
    let cols := (items.drop (3 * c)).take 3
    mapEntry s.now 0x36 0 (natLe 1 pass ++ natLe 1 i ++ natLe 1 (cols.headD 0) ++ natLe 1 cols.length ++
      cols.flatMap fun j => natLe 4 (y i j))

/-- Every entry of a completed map but the summary, in the order of R181. -/
def State.mapEntries (s : State) (diffs : List MapDiff) : List NewEntry :=
  let m := s.map
  let dump := if bitOf m.sel 4 then s.dumpEntries 1 m.points m.sums1 ++
    (if bitOf m.sel 1 then s.dumpEntries 2 (List.range m.nets.length) m.sums2 else []) else []
  [s.mapHeader] ++ dump ++ ((m.nets.zipIdx).flatMap fun n => netEntries s.now n.2 n.1) ++ m.links.map s.linkEntry ++
    m.leaks.map s.leakEntry ++ diffs.map s.diffEntry

/-- The map ends: comparison, entries, verdict (R181, R184). -/
def State.mapEnds (s : State) : State :=
  let m := s.map
  if m.phase != .analysis || m.pass != 3 then s
  else
    let diffs := if bitOf m.sel 3 then s.mapDiffs else []
    let verdict := if !bitOf m.sel 3 then 4 else if diffs.any fun d => d.type != 5 then 2 else 1
    let s := (s.mapEntries diffs).foldl State.mapWrites s
    s.nextFresh.mapFinishes verdict diffs.length 0

/-! ## Waiting for budget -/

/-- The grants fit while the map waits (R244). -/
def State.mapGranted (s : State) : State :=
  if s.map.phase == .waiting then s.mapTryStart else s

/-- The budget wait is over (R170). -/
def State.mapWaitOver (s : State) : State :=
  if s.map.phase == .waiting && decide (s.map.waitSince + s.objN 0x3400 0x17 * tkMs ≤ s.now) then s.mapAborts 5 else s

/-! ## Writes to the mapper object (R158, R185, R187, R189) -/

/-- The state of the mapper as read (R191). -/
def MapPhase.code : MapPhase → Nat
  | .disabled => 0 | .ready => 1 | .waiting => 2 | .pass1 => 3 | .pass2 => 4 | .refinement => 5 | .analysis => 6 | .done => 7
  | .aborted => 8

/-- A start command (R185). -/
def State.mapStart (s : State) (who : Nat) : Res := do
  refuseIf (!(s.mode == .run || s.mode == .throttle)) 0x0F010002
  let sel := s.objN 0x3400 0x0B
  refuseWith (s.mapStartAbort who sel (s.objN 0x3400 0x15))
  refuseWith (if bitOf sel 2 then s.claimAbort who clsCycle 0 else none)
  return s.mapStarts who sel (s.objN 0x3400 0x15) (s.objN 0x3400 0x0C) (s.objN 0x3400 0x0D) none

/-- A write to the mapper object, after its checks. -/
def State.mapperWrite (s : State) (who sub : Nat) (v : Nat) : Res :=
  if sub == 1 then (if v = 1 then (if s.objN 0x3400 1 = 1 then .ok s else s.mapperEnables who) else .ok s.mapperDisables)
  else if 2 ≤ sub && sub ≤ 9 then do
    refuseIf s.mapRunning 0x0F010601
    if s.objN 0x3400 1 == 1 then
      let joined := (List.range 32).filter fun b => bitOf v b && !bitOf (s.objN 0x3400 sub) b
      refuseWith (s.claimsAbort who (joined.map fun b => (clsPort, 32 * (sub - 2) + b)))
      let old := s.objN 0x3400 sub
      let s := s.setObj 0x3400 sub v
      return s.each (List.range 32) fun s b => s.settleOwner (if bitOf old b then .disable else .enable) (32 * (sub - 2) + b)
    else return s.setObj 0x3400 sub v
  else if sub == 0x0A then
    (if v = 1 then s.mapStart who else if v = 2 then .ok (s.mapAborts 1) else refuse 0x06090030)
  else if sub == 0x18 || sub == 0x19 then .ok (s.eventWrite 0x3400 sub v)
  else do
    refuseIf s.mapRunning 0x0F010601
    if sub == 0x14 then refuseWith (s.queueRefAbort who v)
    return s.setObj 0x3400 sub v

end Sys2Proof.Machine
end

