-- ==== Sys2Proof/Machine/Sweeps.lean ====
section
/-!
DEFINITION. The parametric sweeper: descriptors (R220), starting, levels and the end of a sweep (R221), what the three
types measure (R222), the channel object (R223).
-/

namespace Sys2Proof.Machine

/-! ## The descriptor (R220) -/

/-- Type: 1 IV, 2 insulation, 3 Kelvin. -/
def sweepType (a : Bytes) : Nat := fieldLe a 0 1
/-- Channel. -/
def sweepChannel (a : Bytes) : Nat := fieldLe a 1 1
/-- Whether current is forced. -/
def sweepCurrent (a : Bytes) : Bool := fieldLe a 2 1 == 1
/-- Number of levels. -/
def sweepPoints (a : Bytes) : Nat := fieldLe a 12 2
/-- Kept samples of one measurement. -/
def sweepSamples (a : Bytes) : Nat := fieldLe a 14 2
/-- Ports of the gang. -/
def sweepGang (a : Bytes) : Nat := fieldLe a 29 1

/-- The ports of a set of an insulation sweep. -/
def sweepSet (a : Bytes) (o : Nat) : List Nat := bitList 256 (fieldLe a o 32)

/-- The ports that a sweep takes (R221). -/
def sweepPorts (a : Bytes) : List Nat :=
  match sweepType a with
  | 1 => (List.range (sweepGang a)).map fun i => fieldLe a 28 1 + i
  | 2 => sweepSet a 48 ++ sweepSet a 80
  | _ => [fieldLe a 28 1, fieldLe a 29 1]

/-- The buses that a sweep joins its ports to (R222). -/
def sweepBuses (a : Bytes) : List (Nat × Nat) :=
  let m := sweepChannel a
  match sweepType a with
  | 1 => []
  | 2 => (sweepSet a 48).map (fun p => (p, 2 * m)) ++ (sweepSet a 80).map fun p => (p, 2 * m + 1)
  | _ => [(fieldLe a 28 1, 2 * m), (fieldLe a 29 1, 2 * m + 1)]

/-- Level `p` in microvolts or ppm of range (R221). -/
def sweepLevel (a : Bytes) (p : Nat) : Int :=
  let start := toSigned 32 (fieldLe a 4 4)
  let stop := toSigned 32 (fieldLe a 8 4)
  let n := sweepPoints a
  if n ≤ 1 then start else divNear (start * (n - 1 : Nat) + (stop - start) * p) (n - 1)

/-- A level in the units of R200: nV, or pA by the range of R38. -/
def sweepForced (a : Bytes) (v : Int) : Int := if sweepCurrent a then v * (2 * 10 ^ fieldLe a 3 1 : Nat) else v * 1000

/-- The settling time of a level of this sweep (R48, R49). -/
def sweepSettling (a : Bytes) : Nat := fullScaleTime (fieldLe a 3 1) * (if sweepCurrent a then 2 else 1)

/-- A clamp of the descriptor: ppm in voltage mode, microvolts in current mode (R220). -/
def sweepClamp (a : Bytes) (o : Nat) : Int := if sweepCurrent a then toSigned 32 (fieldLe a o 4) else fieldLe a o 4

/-- The descriptor of the sweep that a channel runs. -/
def State.sweepDesc (s : State) (m : Nat) : Bytes :=
  match (s.sweep m).step with
  | some k => stepAction s.runningImage k
  | none => []

/-! ## Levels -/

/-- A level is set now: the ports that force, or the bus sources, begin to settle (R49, R219). BS2m forces the level, reversed in
the second measurement of a Kelvin sweep, and BS2m + 1 holds 0.000 V (R222). -/
def State.sweepSetsLevel (s : State) (m : Nat) (a : Bytes) : State :=
  let c := s.sweep m
  if c.forces then s.each c.ports fun s p => (s.settle p s.now (sweepSettling a)).noteMark p
  else
    let level := sweepLevel a c.point
    (s.sourceDrives (2 * m) c.current c.range (if c.second then -level else level) s.now).sourceDrives (2 * m + 1) false c.range 0
      s.now

/-- A sweep starts for a step (R221). -/
def State.sweepStarts (s : State) (k : Nat) (a : Bytes) : State :=
  let m := sweepChannel a
  let one := sweepType a == 1
  let c : Sweep := { step := some k, ports := sweepPorts a, levelSetAt := s.now, forces := one, current := sweepCurrent a,
                     range := fieldLe a 3 1, clamp1 := sweepClamp a 20, clamp2 := sweepClamp a 24, buses := sweepBuses a }
  let s := (s.setSweep m c).settleOwners .enable
  if one then s else s.sweepSetsLevel m a

/-- Whether every port of a sweep is in its hands: out of park, with its bus switch closed. -/
def State.sweepOwns (s : State) (m : Nat) : Bool :=
  let c := s.sweep m
  c.ports.all fun p =>
    let x := s.port p
    x.park.isNone && x.owner.kind == .sweeper && (c.forces || x.bus == (c.buses.find? fun b => b.1 == p).map (·.2))

/-- The instant from which a level is measured: the later of the dwell and the settling (R221). -/
def State.sweepReadyAt (s : State) (m : Nat) (a : Bytes) : Tk :=
  let c := s.sweep m
  let set := c.ports.foldl (fun t p => max t (s.port p).lastParkExit) c.levelSetAt
  let settled := if c.forces then c.ports.foldl (fun t p => max t (s.port p).settlingEnd) 0
    else max (s.busSource (2 * m)).settleEnd (s.busSource (2 * m + 1)).settleEnd
  max (set + fieldLe a 16 4 * tkUs) settled

/-- The converter that measures: the quad's, or the bus converter of PB2m. -/
def sweepConv (a : Bytes) : Nat := if sweepType a = 1 then fieldLe a 28 1 / 4 else 64 + 2 * sweepChannel a

/-- The lanes that a measurement reads, each with its converter, in the order of R222: the gang's lanes; BC2m L2 and L0 and
BC2m + 1 L0; BC2m L3 and L2. -/
def sweepLanes (a : Bytes) : List (Nat × Nat) :=
  let b := 64 + 2 * sweepChannel a
  match sweepType a with
  | 1 => (List.range (sweepGang a)).map fun i => (sweepConv a, fieldLe a 28 1 % 4 + i)
  | 2 => [(b, 2), (b, 0), (b + 1, 0)]
  | _ => [(b, 3), (b, 2)]

/-- The instants of the first and of the last kept sample of lane `i` of a measurement: a converter reads its lanes in turn, two
converters read at once (R222). -/
def State.sweepWindow (s : State) (m : Nat) (a : Bytes) (i : Nat) : Tk × Tk :=
  let q := ((sweepLanes a).getD i (sweepConv a, 0)).1
  let c := s.conv q
  let earlier := (((sweepLanes a).take i).filter fun x => x.1 == q).length
  let first := nextGrid c.origin c.period (s.sweepReadyAt m a) + earlier * sweepSamples a * c.period
  (first, first + (sweepSamples a - 1) * c.period)

/-- The instant of the last kept sample of a measurement. -/
def State.sweepLastKept (s : State) (m : Nat) (a : Bytes) : Tk :=
  (List.range (sweepLanes a).length).foldl (fun t i => max t (s.sweepWindow m a i).2) 0

/-! ## Values (R222) -/

/-- A quotient of nV by pA in micro-ohm, rounded as R102; a value that INTEGER64 cannot hold, and a quotient by 0, is a
free value (log entry 13). -/
def State.microOhm (s : State) (v i : Int) : Int :=
  let r := if i < 0 then divNear (-v * 1000000000) i.natAbs else divNear (v * 1000000000) i.natAbs
  if i = 0 || decide (r < -2 ^ 63) || decide (2 ^ 63 ≤ r) then toSigned 64 (Config.freeValue s.fresh).toNat else r

/-- The value of a converter mean in the units of R200: nV, or pA by the range of its lane. -/
def stepUnits (q l : Nat) (scale : Nat × Nat) (mean : Int) : Int :=
  if (if q < 64 then scale.2 == 0 else l == 2) then mean * (2 * 10 ^ scale.1 : Nat) else mean * 1000

/-- What each lane of a measurement reads: its value in the units of R200, the flags of its result, bits 0 to 4 of R123, with
compliance, and the instant of its first kept sample (R217, R221). -/
def State.sweepRead (s : State) (m : Nat) (a : Bytes) (r : SweepReading) : List LaneRead :=
  (List.range (sweepLanes a).length).map fun i =>
    let (q, l) := (sweepLanes a).getD i (sweepConv a, 0)
    let codes := r.codes.getD i []
    let w := s.sweepWindow m a i
    let scale := s.laneScaleAt q l w.1
    { value := stepUnits q l scale (s.meanValue q l (fieldLe a 30 1) scale codes), stamp := w.1
      flags := s.resultFlags q l (s.objN (0x3200 + q) 3) codes w.1 w.1 w.2 false false false % 32 + 32 * bnat r.compliance }

/-- A value derived from results carries the flags of each and the stamp of the earliest (R200, R217). -/
def derivedValue (index : Nat) (v : Int) (from' : List LaneRead) : StepValue :=
  { index := index, value := v, flags := (from'.map LaneRead.flags).foldl (· ||| ·) 0
    stamp := (from'.map LaneRead.stamp).min? }

/-- The values of a measurement with what its lanes read (R222). The current and the voltage of a Kelvin sweep with reversal are
those of its first measurement, its resistance is derived from both; the forced level carries compliance alone (R221). -/
def State.sweepValues (s : State) (a : Bytes) (c : Sweep) (read : List LaneRead) (compliance : Bool) : List StepValue :=
  let lane := fun (l : List LaneRead) i => l.getD i { value := 0, flags := 0, stamp := 0 }
  let (x, y, z) := (lane read 0, lane read 1, lane read 2)
  match sweepType a with
  | 1 =>
    let n := sweepGang a
    let sum := (read.map LaneRead.value).sum
    [{ index := 2 * c.point, value := sweepForced a (sweepLevel a c.point) * (n : Int), flags := 32 * bnat compliance
       stamp := none },
     derivedValue (2 * c.point + 1) (if sweepCurrent a then divNear sum n else sum) read]
  | 2 =>
    let volts := y.value - z.value
    [derivedValue 0 volts [y, z], derivedValue 1 x.value [x],
     derivedValue 2 (if x.value ≤ 0 then 2 ^ 63 - 1 else s.microOhm volts x.value) read]
  | _ =>
    if c.second then
      let (x1, y1) := (lane c.first 0, lane c.first 1)
      [derivedValue 0 y1.value [y1], derivedValue 1 x1.value [x1],
       derivedValue 2 (s.microOhm (x1.value - x.value) (y1.value - y.value)) [x1, y1, x, y]]
    else [derivedValue 0 y.value [y], derivedValue 1 x.value [x], derivedValue 2 (s.microOhm x.value y.value) [x, y]]

/-- Whether a reading is one of this sweep: every lane with its kept samples (R220, R222). -/
def sweepReadOk (a : Bytes) (r : SweepReading) : Bool :=
  r.codes.length == (sweepLanes a).length && r.codes.all fun c => c.length == sweepSamples a && codesOk c

/-- Whether the reversed measurement follows this one (R222). -/
def sweepReverses (a : Bytes) (c : Sweep) : Bool := sweepType a == 3 && bitOf (fieldLe a 31 1) 1 && !c.second

/-- A level has been measured (R221, R222): its values, the next level or the end. -/
def State.sweepMeasured (s : State) (m : Nat) (r : SweepReading) : State :=
  let c := s.sweep m
  let a := s.sweepDesc m
  match c.step with
  | none => s
  | some k =>
    if c.ended.isSome || !s.sweepOwns m || s.now < s.sweepLastKept m a || !sweepReadOk a r then s
    else
      let read := s.sweepRead m a r
      let s := if r.compliance then s.cause (0x3520 + m) 1 s.now else s
      let s := if c.forces then s else s.each [0, 1] fun s j =>
        s.setBusSource (2 * m + j) { s.busSource (2 * m + j) with clamp := bitOf r.sourceClamps j }
      let stop := r.compliance && bitOf (fieldLe a 31 1) 0
      if sweepReverses a c && !stop then
        (s.setSweep m { c with second := true, first := read, levelSetAt := s.now }).sweepSetsLevel m a
      else
        let x := s.step k
        let s := s.nextFresh.setStep k { x with values := x.values ++ s.sweepValues a c read r.compliance }
        if stop then s.setSweep m { c with ended := some 0x11 }
        else if c.point + 1 < sweepPoints a then
          (s.setSweep m { c with point := c.point + 1, levelSetAt := s.now }).sweepSetsLevel m a
        else s.setSweep m { c with ended := some 0 }

/-! ## The end of a sweep (R221) -/

/-- A channel lets its ports go, turns its bus sources off and opens the switches. -/
def State.sweepStops (s : State) (m : Nat) : State :=
  let s := (s.sourceOff (2 * m)).sourceOff (2 * m + 1)
  ((s.setSweep m {}).settleOwners .disable).cause (0x3520 + m) 0 s.now

/-- The sweep of a channel ends, and with it the action of its step. -/
def State.sweepEnds (s : State) (m : Nat) : State :=
  let c := s.sweep m
  match c.ended, c.step with
  | some cause, some k =>
    let x := s.step k
    let s := s.sweepStops m
    if x.stage == .inFlight && x.done.isNone then s.setStep k { x with done := some cause, stoppedAt := s.now } else s
  | _, _ => s

/-- The status of the bus sources of a channel, whoever drives them (R219, R223). -/
def State.busSourceStatus (s : State) (m : Nat) : Nat :=
  let clamped := fun n => (s.busSource n).on && (s.busSource n).clamp
  bnat (s.sourceSettles (2 * m)) + 2 * bnat (s.sourceSettles (2 * m + 1)) + 4 * bnat (clamped (2 * m)) +
    8 * bnat (clamped (2 * m + 1))

end Sys2Proof.Machine
end

