-- ==== Sys2Proof/Machine/Protocols.lean ====
section
/-!
DEFINITION. The protocol engines: CAN FD (R224), LIN (R225), SENT (R226), PWM capture (R227), exchange steps (R228),
entries (R229), causes (R230) and the engine objects (R231).
-/

namespace Sys2Proof.Machine

/-! ## Exchange steps (R228) -/

/-- The classes of engines. -/
def exchangeClass (a : Bytes) : Nat := fieldLe a 0 1
/-- The engine of an exchange. -/
def exchangeEngine (a : Bytes) : Nat := fieldLe a 1 1

/-- The exchange steps in flight on an engine whose action runs. -/
def State.exchanges (s : State) (cls e : Nat) : List Nat :=
  let i := s.runningImage
  (s.inFlightSteps.filter fun x => x.2.done.isNone && stepKind i x.1 == 5 &&
    exchangeClass (stepAction i x.1) == cls && exchangeEngine (stepAction i x.1) == e).map (·.1)

/-- The action of a step stops with a cause (R199). -/
def State.actionStops (s : State) (k cause : Nat) : State :=
  let x := s.step k
  if x.stage == .inFlight && x.done.isNone then
    s.setStep k { x with done := some (x.ending.getD cause), stoppedAt := s.now } else s

/-- Plain values of a step, numbered from 0. -/
def plainValues (l : List Int) : List StepValue :=
  (l.zipIdx).map fun x => { index := x.2, value := x.1, flags := 0, stamp := none }

/-- The values of a step replaced, and its action stops with a cause. -/
def State.stepAnswers (s : State) (k : Nat) (vs : List Int) (cause : Nat) : State :=
  let x := s.step k
  if x.ending.isSome || x.done.isSome then s else (s.setStep k { x with values := plainValues vs }).actionStops k cause

/-- A span of tk in ns (R200). -/
def tkToNs (d : Nat) : Int := divNear d 4

/-! ## CAN FD (R224) -/

/-- The data lengths of a frame (R224). -/
def canLengths : List Nat := [0, 1, 2, 3, 4, 5, 6, 7, 8, 12, 16, 20, 24, 32, 48, 64]

/-- Whether an engine takes part in bus traffic. -/
def State.canOn (s : State) (e : Nat) : Bool := s.objN (0x3600 + e) 1 == 1 && (s.can e).state != .busOff

/-- The refusal of a frame to transmit (R224). -/
def State.canTransmitAbort (s : State) (e : Nat) (b : Bytes) : Option Nat :=
  let n := fieldLe b 4 1
  if !canLengths.contains n then some 0x06090030
  else if b.length != 8 + n then some 0x06070010
  else if (s.can e).transmit.isSome then some 0x0F010901
  else if !s.canOn e then some 0x0F010902
  else none

/-- The identifier word of a frame as an engine's options let it go out: an FD frame with option bit 0, a bit-rate switch with option
bit 1 and an FD frame. PRESUMED (log entry 157): the spec names the options alone. -/
def State.canWord (s : State) (e ident : Nat) : Nat :=
  let o := s.objN (0x3600 + e) 5
  let fd := bitOf ident 30 && bitOf o 0
  putBit (putBit ident 30 fd) 31 (fd && bitOf ident 31 && bitOf o 1)

/-- A frame waits for the bus. -/
def State.canSends (s : State) (e : Nat) (b : Bytes) (step : Option Nat) : State :=
  s.setCan e { s.can e with transmit := some (natLe 4 (s.canWord e (fieldLe b 0 4)) ++ b.drop 4, step) }

/-- A write of the transmit object (R224). -/
def State.canTransmits (s : State) (e : Nat) (b : Bytes) : Res :=
  match s.canTransmitAbort e b with
  | some c => refuse c
  | none => .ok (s.canSends e b none)

/-- The error state that counters give (ISO 11898-1); bus-off stays until recovery. -/
def canStateOf (old : CanState) (tec rxErr : Nat) : CanState :=
  if old == .busOff then .busOff else if 127 < tec || 127 < rxErr then .passive else .active

/-- The engine's counters take values (R231). -/
def CanEngine.count (c : CanEngine) (tec rxErr : Nat) : CanEngine :=
  { c with tec := tec, rxErr := rxErr, state := canStateOf c.state tec rxErr }

/-- The counters of an engine take values; a change of its error state is a cause (R230). -/
def State.canCounts (s : State) (e tec rxErr : Nat) : State :=
  let c := s.can e
  let s := s.setCan e (c.count tec rxErr)
  if (c.count tec rxErr).state = c.state then s else s.cause (0x3600 + e) 2 s.now

/-- The request of an exchange has left its engine: where the exchange has ended, its action stops (R205). -/
def State.requestGone (s : State) (step : Option Nat) : State :=
  match step with
  | some k => match (s.step k).ending with
    | some cause => s.actionStops k cause
    | none => s
  | none => s

/-- Whether an engine only listens: it sends nothing (R231). -/
def State.canListens (s : State) (e : Nat) : Bool := bitOf (s.objN (0x3600 + e) 5) 2

/-- Whether an engine sends a frame once only (R231). -/
def State.canOnce (s : State) (e : Nat) : Bool := bitOf (s.objN (0x3600 + e) 5) 3

/-- The pending frame has been sent (R224): its counters follow ISO 11898-1, and an exchange's request has ended. While the engine
only listens the frame stays pending (R231). -/
def State.canTransmitted (s : State) (e : Nat) : State :=
  let c := s.can e
  match c.transmit with
  | none => s
  | some (_, step) =>
    if !s.canOn e || s.canListens e then s
    else
      let s := (s.setCan e { c with transmit := none }).canCounts e (c.tec - 1) c.rxErr
      let s : State := match step with
        | some k =>
          let x := s.step k
          if x.ending.isNone && x.stage == .inFlight && x.done.isNone then s.setStep k { x with sentAt := s.now } else s
        | none => s
      (s.requestGone step).cause (0x3600 + e) 1 s.now

/-- Whether a frame passes an enabled acceptance filter, or no filter is enabled (R224, R231). -/
def State.canAccepts (s : State) (e ident : Nat) : Bool :=
  let fs := ((List.range 32).map fun i => s.objN (0x3600 + e) (0x10 + i)).filter fun f => bitOf f 31
  fs.isEmpty || fs.any fun f => bitOf f 29 == bitOf ident 29 &&
    fieldOf ident 0 29 &&& fieldOf f 32 29 == fieldOf f 0 29 &&& fieldOf f 32 29

/-- The entries of a received frame (R229). -/
def canEntries (e : Nat) (f : CanFrame) : List NewEntry :=
  let n := f.data.length
  let more := (n - 8 + 15) / 16
  let head := natLe 4 f.ident ++ natLe 1 n ++ [0#8] ++ natLe 2 more ++ (f.data ++ zeroBytes 8).take 8
  { stamp := f.start, tag := 0x0210 + e, kind := 0x50, flags := 0, payload := head } ::
    (List.range more).map fun j => { stamp := f.start, tag := 0x0210 + e, kind := 0x51, flags := 0,
                                     payload := (sliceBytes f.data (8 + 16 * j) 16 ++ zeroBytes 16).take 16 }

/-- An engine receives a frame (R224, R228); one that its options exclude it does not (PRESUMED, log entry 157). -/
def State.canReceives (s : State) (e : Nat) (f : CanFrame) : State :=
  if !s.canOn e || !canLengths.contains f.data.length || s.canWord e f.ident != f.ident then s
  else
    let c := s.can e
    let back := 119 + (Config.freeValue s.fresh).toNat % 9
    let rx := if 127 < c.rxErr then back else c.rxErr - 1
    let s := s.nextFresh.canCounts e c.tec rx
    let s := if s.canAccepts e f.ident then
      (canEntries e f).foldl (fun s x => s.blockEntryTo (s.objN (0x3600 + e) 7) x) s else s
    let i := s.runningImage
    let s := (s.exchanges 0 e).foldl (fun s k =>
      let a := stepAction i k
      let x := s.step k
      if x.sentAt = 0 || (f.ident ^^^ fieldLe a 8 4) &&& fieldLe a 12 4 != 0 then s
      else s.stepAnswers k ([(f.ident : Int), (f.data.length : Int), tkToNs (s.now - x.sentAt)] ++
        f.data.map fun (b : Byte) => (b.toNat : Int)) 0) s
    s.cause (0x3600 + e) 0 s.now

/-- The exchanges of an engine end with a protocol error, and a frame of theirs is withdrawn (R228). -/
def State.canExchangesFail (s : State) (e : Nat) (ks : List Nat) : State :=
  let c := s.can e
  let s : State := match c.transmit with
    | some (_, some k) => if ks.contains k then s.setCan e { c with transmit := none } else s
    | _ => s
  ks.foldl (fun s k => s.actionStops k 0x0B) s

/-- An engine goes bus-off (R224, R230). -/
def State.canGoesOff (s : State) (e : Nat) : State :=
  if !s.canOn e then s
  else
    let s := s.setCan e { s.can e with state := .busOff }
    ((s.canExchangesFail e (s.exchanges 0 e)).cause (0x3600 + e) 2 s.now).cause (0x3600 + e) 3 s.now

/-- The exchanges of an engine whose request has been sent and whose response is still to come. -/
def State.canAwaits (s : State) (e : Nat) : List Nat := (s.exchanges 0 e).filter fun k => (s.step k).sentAt != 0

/-- An error or a change of the error counters (R230). An error frame and a CRC error end the exchange (R228), a CRC error every
one that awaits an answer of the engine (DEDUCED, log entry 138). Without retransmission a frame that failed is given up (R231). An engine that only
listens keeps its counters (PRESUMED, log entry 128). -/
def State.canErrs (s : State) (e tec rxErr : Nat) (x : CanFault) : State :=
  if !s.canOn e then s
  else
    let c := s.can e
    let s := if s.canListens e then s else s.setCan e (c.count tec rxErr)
    let s : State := match c.transmit with
      | some (_, some k) => if x.frame && !s.canListens e then s.canExchangesFail e [k] else s
      | some (_, none) => if x.frame && s.canOnce e then s.setCan e { s.can e with transmit := none } else s
      | none => s
    let s := if x.crc then s.canExchangesFail e (s.canAwaits e) else s
    s.cause (0x3600 + e) 2 s.now

/-- Bus-off recovery is complete (R231). -/
def State.canRecovered (s : State) (e : Nat) : State :=
  if (s.can e).recovering then
    (s.setCan e { s.can e with state := .active, tec := 0, rxErr := 0, recovering := false }).cause (0x3600 + e) 2 s.now
  else s

/-- The status of a CAN FD engine (R231). -/
def State.canStatus (s : State) (e : Nat) : Nat :=
  let c := s.can e
  (match c.state with | .active => 0 | .passive => 1 | .busOff => 2) + c.tec % 256 * 2 ^ 8 + c.rxErr % 256 * 2 ^ 16 +
    bnat c.transmit.isSome * 2 ^ 24

/-- A write of a CAN FD engine's enable (R224). -/
def State.canEnables (s : State) (e v : Nat) : Res := do
  let pins := s.objN (0x3700 + 3 * e) 1 == 0x10 && s.objN (0x3700 + 3 * e + 1) 1 == 0x11
  refuseIf (v == 1 && !pins) 0x0F010903
  let s := if v = 0 then (s.setCan e { s.can e with transmit := none }).requestGone ((s.can e).transmit.bind (·.2)) else s
  return s.setObj (0x3600 + e) 1 v

/-- A write of recover (R231). -/
def State.canRecovers (s : State) (e v : Nat) : State :=
  if v = 1 && (s.can e).state == .busOff then s.setCan e { s.can e with recovering := true } else s

/-! ## Engines that own a port (R77, R225 to R227) -/

/-- Whether a port is in the mask of another enabled engine (R77). -/
def State.engineConflict (s : State) (idx p : Nat) : Bool :=
  (((List.range 24).map (0x3610 + ·)).filter (· != idx)).any fun j => s.objN j 1 == 1 && s.objN j 2 == p

/-- A write of such an engine's enable. -/
def State.engineEnables (s : State) (who idx v : Nat) : Res := do
  if v = 1 && s.objN idx 1 == 0 then
    let p := s.objN idx 2
    refuseWith (s.claimAbort who clsPort p)
    refuseIf (s.engineConflict idx p) 0x0F010303
    return (s.setObj idx 1 1).settleOwners .enable
  else if v = 0 && s.objN idx 1 == 1 then
    let s := if idx ≤ 0x3617 then
      (s.setLin (idx - 0x3610) {}).requestGone ((s.lin (idx - 0x3610)).header.bind (·.step)) else s
    return (s.setObj idx 1 0).settleOwners .disable
  else return s

/-! ## LIN (R225) -/

/-- A counter field of a status object rises and stays at its greatest value. -/
def State.saturate16 (s : State) (idx sub lo : Nat) : State :=
  let v := s.objN idx sub
  if fieldOf v lo 16 = 65535 then s else s.setObj idx sub (v + 2 ^ lo : Nat)

/-- The entry of a LIN frame (R229). -/
def linEntry (l : Nat) (start : Tk) (ident len status publisher : Nat) (data : Bytes) (latency : Nat) : NewEntry :=
  { stamp := start, tag := 0x0218 + l, kind := 0x52, flags := 0,
    payload := natLe 1 ident ++ natLe 1 len ++ natLe 1 status ++ natLe 1 publisher ++ (data ++ zeroBytes 8).take 8 ++
      natLe 4 latency }

/-- A bit time of a LIN engine in tk, rounded to the nearest (Protocol engines). -/
def State.linBit (s : State) (l : Nat) : Nat := (divNear 4000000000 (s.objN (0x3610 + l) 4)).toNat

/-- What a master's header lasts: the programmed break, its delimiter of one bit, the sync byte and the identifier (R225; PRESUMED
from ISO 17987, log entry 128). -/
def State.linHeaderTime (s : State) (l : Nat) : Nat := (s.objN (0x3610 + l) 5 + 21) * s.linBit l

/-- The record of a slave table for an identifier: length and data (R225, R231). -/
def State.slaveRecord (s : State) (l ident : Nat) : Option Bytes :=
  ((recordsOf 12 (s.blob (0x3610 + l) 7)).find? fun r => fieldLe r 0 1 == ident).map fun r =>
    sliceBytes r 4 (min 8 (fieldLe r 1 1))

/-- The response that an engine itself publishes to a header: a master's by the exchange step that sent it, a slave's by its table
(R225, R228). -/
def State.linResponse (s : State) (l ident : Nat) : Option Bytes :=
  if s.objN (0x3610 + l) 3 == 1 then s.slaveRecord l ident
  else match (s.lin l).header.bind (·.step) with
    | some k =>
      let a := stepAction s.runningImage k
      if fieldLe a 24 1 == ident && fieldLe a 25 1 != 0 then some (sliceBytes a 28 (fieldLe a 25 1)) else none
    | none => none

/-- The end of the header of a frame: a master has timed its own (R225). -/
def State.linHeaderEnd (s : State) (l : Nat) (f : LinFrame) : Tk :=
  match (s.lin l).header with
  | some h => if h.step.isSome then h.start + s.linHeaderTime l else f.headerEnd
  | none => f.headerEnd

/-- A LIN frame is complete (R225, R228, R229): its response is the one that the engine publishes, or what another node did. -/
def State.linReceives (s : State) (l : Nat) (f : LinFrame) : State :=
  if s.objN (0x3610 + l) 1 != 1 || 8 < f.data.length || 3 < f.checksum then s
  else
    let h := (s.lin l).header
    let own := s.linResponse l f.ident
    let data := own.getD f.data
    let latency := s.now - s.linHeaderEnd l f
    let s := s.setLin l {}
    let s := s.blockEntryTo (s.objN (0x3610 + l) 6)
      (linEntry l f.start f.ident data.length f.checksum (bnat own.isNone) data (latency / tkUs))
    let s := if f.checksum = 1 then s.saturate16 (0x3610 + l) 8 0
      else if f.checksum = 2 then s.saturate16 (0x3610 + l) 8 16 else s
    let s : State := match h with
      | some x => match x.step with
        | some k =>
          if x.ident != f.ident then s.setLin l { header := h }
          else if f.checksum = 2 || f.checksum = 3 || (s.step k).ending.isSome then s.requestGone (some k)
          else s.stepAnswers k ([(f.ident : Int), (data.length : Int), tkToNs latency] ++
            data.map fun (b : Byte) => (b.toNat : Int)) (if f.checksum = 1 then 0x0B else 0)
        | none => s
      | none => s
    s.cause (0x3610 + l) (if f.checksum = 2 then 3 else if f.checksum != 0 then 2 else if own.isSome then 1 else 0) s.now

/-- A slave receives a header (R225). -/
def State.linHeader (s : State) (l : Nat) (start : Tk) (ident : Nat) : State :=
  if s.objN (0x3610 + l) 1 == 1 && s.objN (0x3610 + l) 3 == 1 then
    s.setLin l { header := some { ident := ident, start := start, step := none } } else s

/-- No response follows a header (R230, R231), unless the engine itself publishes one (R225); the latency of its entry is a free
value (log entry 13). -/
def State.linMisses (s : State) (l : Nat) : State :=
  match (s.lin l).header with
  | none => s
  | some h =>
    if (s.linResponse l h.ident).isSome then s
    else
      let s := (s.setLin l {}).requestGone h.step
      let e := linEntry l h.start h.ident 0 2 1 [] ((Config.freeValue s.fresh).toNat % 2 ^ 32)
      let s := s.nextFresh.blockEntryTo (s.objN (0x3610 + l) 6) e
      (s.saturate16 (0x3610 + l) 8 16).cause (0x3610 + l) 3 s.now

/-! ## SENT (R226) -/

/-- Whether a calibration pulse is accepted: within 20 % of 56 nominal ticks, and within 1/64 of the accepted one before
(R226). -/
def State.calibrationOk (s : State) (r cal : Nat) : Bool :=
  let nominal := 56 * (s.objN (0x3618 + r) 3 * 400)
  decide (5 * cal ≤ 6 * nominal) && decide (4 * nominal ≤ 5 * cal) && match (s.sent r).lastCalibration with
    | some last => decide (64 * cal ≤ 65 * last) && decide (63 * last ≤ 64 * cal)
    | none => true

/-- Nibbles as a number, the first most significant. -/
def nibbleValue (l : List Nat) : Nat := l.foldl (fun v n => v * 16 + n % 16) 0

/-- Nibbles as bytes, the first in the high half of the first byte (R229). -/
def nibbleBytes : List Nat → Bytes
  | a :: b :: r => BitVec.ofNat 8 (a % 16 * 16 + b % 16) :: nibbleBytes r
  | [a] => [BitVec.ofNat 8 (a % 16 * 16)]
  | [] => []

/-- One step of the CRC of four bits, polynomial x^4 + x^3 + x^2 + 1 (SAE J2716). -/
def crc4Step (c : Nat) : Nat := [0, 13, 7, 10, 14, 3, 9, 4, 1, 12, 6, 11, 15, 2, 8, 5].getD (c % 16) 0

/-- The CRC nibble of data nibbles, seed 5; the recommended form takes a further nibble of 0, the legacy form does not (R226;
PRESUMED from SAE J2716, log entry 128). -/
def sentCrc (legacy : Bool) (l : List Nat) : Nat :=
  let c := l.foldl (fun c n => crc4Step c ^^^ (n % 16)) 5
  if legacy then c else crc4Step c

/-- Whether the format of a receiver takes a serial message: the short one, or an enhanced one (R226, R229, R231). -/
def serialTaken (format : Nat) (m : SentSerial) : Bool :=
  (fieldOf format 4 2 == 1 && m.format == 0) || (fieldOf format 4 2 == 2 && (m.format == 1 || m.format == 2))

/-- A SENT frame ends (R226, R228, R229). DEDUCED (log entry 139): a frame with another number of nibbles than the format gives
is rejected and counted as one whose calibration pulse is. -/
def State.sentReceives (s : State) (r : Nat) (f : SentFrame) : State :=
  let idx := 0x3618 + r
  let format := s.objN idx 4
  let crcOk := f.crc == sentCrc (bitOf format 6) f.nibbles
  if s.objN idx 1 != 1 then s
  else if !s.calibrationOk r f.calibration || f.nibbles.length ≠ fieldOf format 0 3 then (s.saturate16 idx 6 0).cause idx 2 s.now
  else
    let s := s.setSent r { lastCalibration := some f.calibration }
    let tick := (divNear f.calibration 56).toNat
    let s := s.blockEntryTo (s.objN idx 5)
      { stamp := f.start, tag := 0x0220 + r, kind := 0x53, flags := bnat (!crcOk) + 2 * bnat (bitOf format 3 && f.pauseMissing),
        payload := natLe 1 f.status ++ natLe 1 f.nibbles.length ++ (nibbleBytes f.nibbles ++ zeroBytes 3).take 3 ++
          natLe 1 f.crc ++ zeroBytes 2 ++ natLe 4 tick ++ zeroBytes 4 }
    let s : State := match f.serial with
      | some m => if !serialTaken format m then s else s.blockEntryTo (s.objN idx 5)
          { stamp := f.start, tag := 0x0220 + r, kind := 0x54, flags := 0,
            payload := natLe 2 m.id ++ natLe 2 m.data ++ natLe 1 m.format ++ natLe 1 m.crcStatus ++ zeroBytes 10 }
      | none => s
    let s := if crcOk then s else (s.saturate16 idx 6 16).cause idx 2 s.now
    let i := s.runningImage
    let s := (s.exchanges 2 r).foldl (fun s k =>
      let x := s.step k
      let taken := fieldLe (stepAction i k) 2 1 - x.left + 1
      let vs : List Int := [(f.status : Int), (nibbleValue f.nibbles : Int), (taken : Int), (bnat (!crcOk) : Int)]
      if !crcOk then s.stepAnswers k vs 0x0B
      else if x.left ≤ 1 then s.stepAnswers k vs 0
      else s.setStep k { x with left := x.left - 1 }) s
    s.cause idx 0 s.now

/-! ## PWM capture (R227) -/

/-- An averaged result (R227, R228, R229). -/
def State.pwmMeasures (s : State) (u : Nat) (r : PwmReading) : State :=
  let idx := 0x3620 + u
  if s.objN idx 1 != 1 || r.period = 0 || r.period < r.high || 2 ^ 32 ≤ r.period then s
  else
    let duty := (divNear (r.high * 1000000 : Nat) r.period).toNat
    let s := (s.staleSnaps (objKey idx 5)).setObj idx 5 (r.period + r.high * 2 ^ 32 : Nat)
    let s := s.blockEntryTo (s.objN idx 4)
      { stamp := r.firstEdge, tag := 0x0228 + u, kind := 0x55, flags := 0,
        payload := natLe 4 r.period ++ natLe 4 r.high ++ natLe 4 (s.objN idx 3) ++ natLe 4 duty }
    let s := (s.exchanges 3 u).foldl (fun s k =>
      let x := s.step k
      if x.left ≤ 1 then s.stepAnswers k [tkToNs r.period, tkToNs r.high, (duty : Int)] 0
      else s.setStep k { x with left := x.left - 1 }) s
    s.cause idx 0 s.now

/-! ## Exchanges: start, timeout and abort (R228, R205) -/

/-- An exchange step begins its action: the engine takes or refuses its request (R228). -/
def State.exchangeStarts (s : State) (k : Nat) (a : Bytes) : State :=
  let e := exchangeEngine a
  let s := s.setStep k { s.step k with left := fieldLe a 2 1, sentAt := 0 }
  let refused := fun (code : Nat) => s.stepAnswers k [(code : Int)] 0x10
  match exchangeClass a with
  | 0 =>
    let b := sliceBytes a 24 (8 + fieldLe a 28 1)
    match s.canTransmitAbort e b with
    | some c => refused c
    | none => s.canSends e b (some k)
  | 1 =>
    if s.objN (0x3610 + e) 1 != 1 || s.objN (0x3610 + e) 3 != 0 then refused 0x0F010902
    else if (s.lin e).header.isSome then refused 0x0F010901
    else s.setLin e { header := some { ident := fieldLe a 24 1, start := s.now, step := some k } }
  | _ => s

/-- An exchange gives up its engine: a frame not yet begun is cancelled; one on the bus completes (R205). A LIN frame is on the
bus from its header on; whether a pending CAN frame is on the bus is a free value (log entry 15). The action has stopped unless the
frame runs on. -/
def State.exchangeCancels (s : State) (k : Nat) (a : Bytes) : State × Bool :=
  let e := exchangeEngine a
  match exchangeClass a with
  | 0 => match (s.can e).transmit with
    | some (b, some j) =>
      if j != k then (s, true)
      else if s.canOn e && !s.canListens e && bitOf (Config.freeValue s.fresh).toNat 0 then
        (s.nextFresh.setCan e { s.can e with transmit := some (b, some k) }, false)
      else (s.nextFresh.setCan e { s.can e with transmit := none }, true)
    | _ => (s, true)
  | 1 => match (s.lin e).header with
    | some h => (s, h.step != some k)
    | none => (s, true)
  | _ => (s, true)

end Sys2Proof.Machine
end

