-- ==== Sys2Proof/Machine/EventCtl.lean ====
section
/-!
DEFINITION. The event controller: due sources, eligible targets and commits (R304 to R309), completions and strays
(R310, R311), vanished levels (R312), holders that go away (R318), configuration and subscriptions (R315, R319 to
R324).
-/

namespace Sys2Proof.Machine

/-! ## Eligible targets (R306) -/

/-- Whether a core executes instructions. -/
def Core.runs (c : Core) : Bool := c.stage == .routine || c.stage == .program

/-- Whether a core takes an event of a class into a handler (R284, R285). -/
def Core.takes (c : Core) (fast : Bool) : Bool :=
  if fast then c.flag flagFE && !c.flag flagFA && c.fastEvent.isNone
  else c.flag flagNE && !c.flag flagNA && !c.flag flagFA && c.normalEvent.isNone

/-- The class of a source (R323). -/
def State.sourceFast (s : State) (n : Nat) : Bool := bitOf (s.sourceConfig n) 2

/-- Whether the event queue of a session takes an entry. -/
def State.eventQueueTakes (s : State) (sess : Nat) : Bool :=
  s.isOpen sess &&
    (s.offerEntry (eventQueue sess) { stamp := 0, tag := 0, kind := 0x60, flags := 0, payload := [] }).2 == 0

/-- Whether a target is eligible for a source (R306). -/
def State.eligible (s : State) (n k : Nat) : Bool :=
  if k < 8 then
    let c := s.core k
    c.stage == .waiting || (c.runs && c.takes (s.sourceFast n))
  else s.eventQueueTakes (k - 8)

/-- The targets of a source in round-robin order after the one that last received it (R307). -/
def State.roundRobin (s : State) (n : Nat) : List Nat :=
  let last := (s.source n).lastTarget
  let ts := s.targets n
  ts.filter (fun k => decide (last < k)) ++ ts.filter fun k => decide (k ≤ last)

/-- The target to which a due source would be committed. -/
def State.chosenTarget (s : State) (n : Nat) : Option Nat := (s.roundRobin n).find? (s.eligible n)

/-- Whether source `m` comes before source `n` at one target (R308). -/
def State.sourceBefore (s : State) (m n : Nat) : Bool :=
  let x := s.source m
  let y := s.source n
  if s.sourceFast m != s.sourceFast n then s.sourceFast m
  else decide (x.first < y.first) || (x.first == y.first && decide (m < n))

/-! ## Completions (R310, R311) -/

/-- The completion of a source in service ends it. -/
def State.completeSource (s : State) (n : Nat) : State :=
  let src := s.source n
  let s := s.setSource n { src with stage := .idle, holder := none, risen := max src.risen s.now }
  let s := s.settleSource n false
  s.levelArrival n

/-- A completion is written by a target: 1 to 7 for the cores, 8 to 15 for the sessions. -/
def State.writeCompletion (s : State) (writer n : Nat) : State :=
  let src := s.source n
  if src.stage == .service && src.holder == some writer then s.completeSource n
  else (s.countUp 0x2400 3).setObj 0x2400 4 (n + writer * 2 ^ 16 : Nat)

/-- The sources that a target holds. -/
def State.heldSources (s : State) (k : Nat) : List Nat :=
  (s.sources.filter fun x => x.2.stage == .service && x.2.holder == some k).map (·.1)

/-- The completions of a holder that goes away (R318). -/
def State.completeHeld (s : State) (k : Nat) : State := (s.heldSources k).foldl State.completeSource s

/-! ## Commits (R307, R314) -/

/-- The entry of a delivery to a session queue (R314). -/
def State.deliveryEntry (s : State) (n sess : Nat) : NewEntry :=
  let src := s.source n
  let cfg := s.sourceConfig n
  { stamp := src.first, tag := 0x0400 + sess, kind := 0x60,
    flags := bnat (decide (1 < src.pending)) + 2 * bnat src.bypass + 4 * bnat src.vanished + 8 * bnat src.lostSince +
      16 * bnat (sensing cfg == 0),
    payload := natLe 2 n ++ natLe 1 (sensing cfg + 4 * bnat (s.sourceFast n)) ++ natLe 1 src.pending ++
      natLe 1 (bnat src.level) ++ zeroBytes 3 ++ natLe 8 src.last }

/-- A source is committed to a target: its books and its service (R307). -/
def State.serve (s : State) (n k : Nat) : State :=
  let src := s.source n
  let src := { src with deliveredCount := src.pending, delivered := addWrap 32 src.delivered src.pending, pending := 0,
                        stage := .service, holder := some k, holderFast := s.sourceFast n, service := src.first,
                        vanished := false, lastTarget := k, lostSince := false, bypass := false }
  (s.setSource n src).countUp 0x2400 7

/-- A core receives a delivery: it wakes from WAITE, and an entry into its handler is due where it takes the class (R280,
R306). -/
def Core.receive (c : Core) (n : Nat) (fast : Bool) : Core :=
  let enter := c.takes fast
  let c := match c.wait with
    | some (back, rd, _) => { (c.setReg rd (BitVec.ofNat 32 n)).setFlag flagZ false with wait := none, stage := back }
    | none => c
  if !enter then c else if fast then { c with fastEvent := some n } else { c with normalEvent := some n }

/-- A source is delivered to a target (R307, R310, R314). -/
def State.deliverTo (s : State) (n k : Nat) : State :=
  if k < 8 then (s.serve n k).setCore k ((s.core k).receive n (s.sourceFast n))
  else
    let e := s.deliveryEntry n (k - 8)
    let s := ((s.serve n k).offerEntry (eventQueue (k - 8)) e).1
    if sensing (s.sourceConfig n) == 0 then s else s.completeSource n

/-- The controller commits a due source (R307, R308); a source that must wait for another keeps its place. -/
def State.commitSource (s : State) (n : Nat) : State :=
  if !s.counting || (s.source n).stage != .due then s
  else match s.chosenTarget n with
    | none => s
    | some k =>
      let first := (s.sources.map (·.1)).any fun m =>
        m != n && (s.source m).stage == .due && s.chosenTarget m == some k && s.sourceBefore m n
      if first then s else s.deliverTo n k

/-- The time limit of a pending source elapses (R304). -/
def State.timeLimit (s : State) (n : Nat) : State := if s.counting then s.settleSource n false else s

/-- The level that a source presents (R299): the filtered level of its line, the one before the park until the filter has defined it
(R89), or that of its block. -/
def State.presented (s : State) (n : Nat) : Bool :=
  let line := fun (f : Filter) => if f.resync then (s.source n).level else f.level
  if n < 256 then line (s.port n).filter else if 408 ≤ n ∧ n < 440 then line (s.pin (n - 408)).filter else s.blockLevel n

/-- The level of a level-sensed source falls to 0 while it is pending or in service (R312). -/
def State.levelVanishes (s : State) (n : Nat) : State :=
  let src := s.source n
  if s.counting && src.level && !s.presented n && sensing (s.sourceConfig n) == 0 && (src.pending != 0 || src.stage == .service) then
    s.setLevel n false s.now
  else s

/-! ## Configuration and subscriptions (R315, R319 to R324) -/

/-- A source gains or loses targets, or takes new limits: a first target of a level source takes the level now (R300), and
the due rule applies again; only new limits (`relax`) let a source that is Due fall back to Pending (R304). -/
def State.reconfigured (s : State) (n : Nat) (hadTarget relax : Bool) : State :=
  let s := if !hadTarget && !(s.targets n).isEmpty then s.setSource n { s.source n with risen := max (s.source n).risen s.now }
    else s
  (s.settleSource n relax).levelArrival n

/-- The limits N and T of a configuration (R304, R323). -/
def limitsOf (cfg : Nat) : Nat × Nat := (fieldOf cfg 4 4, fieldOf cfg 16 16)

/-- A source takes a configuration. -/
def State.configured (s : State) (n : Nat) (v : Int) : State :=
  (s.setObj (0x2410 + n / 128) (n % 128 + 1) v).reconfigured n (!(s.targets n).isEmpty)
    (limitsOf (s.sourceConfig n) != limitsOf v.toNat)

/-- A write of a source's configuration (R319, R320, R323). -/
def State.sourceConfigure (s : State) (n v : Nat) : Res := do
  refuseIf (sourceReserved n) 0x06090030
  refuseIf (fieldOf v 4 4 == 0) 0x06090030
  refuseIf (bitOf v 8) 0x0F010B01
  return s.configured n v

/-- A configuration returns to its default when its claim ends (R321). -/
def State.sourceUnclaimed (s : State) (n : Nat) : State :=
  s.configured n (keyDefault (objKey (0x2410 + n / 128) (n % 128 + 1)))

/-- A write of a subscription word (R315, R324). -/
def State.subscribe (s : State) (sess word v : Nat) : Res := do
  refuseIf ((List.range 32).any fun b => bitOf v b && sourceReserved (32 * word + b)) 0x06090030
  let changed := (List.range 32).filter fun b => bitOf (s.own sess 0x2401 (0x10 + word)) b != bitOf v b
  let t := s.setOwn sess 0x2401 (0x10 + word) v
  return changed.foldl (fun t b => t.reconfigured (32 * word + b) (!(s.targets (32 * word + b)).isEmpty) false) t

/-- A completion written by a session (R310). -/
def State.sessionCompletes (s : State) (sess n : Nat) : State := s.writeCompletion (8 + sess) n

/-- A write of the books select captures the books of a source at one instant (R324). -/
def State.selectBooks (s : State) (sess n : Nat) : State :=
  let src := s.source n
  let o := fun (s : State) (sub v : Nat) => s.setOwn sess 0x2401 sub v
  o (o (o (o (o (o s 3 n) 4 s.now) 5 src.arrived) 6 src.delivered) 7 src.pending) 8 src.lost

/-- A session ends as a target: its held sources are completed, its subscriptions cleared, its event queue emptied
(R315). -/
def State.endSubscriptions (s : State) (sess : Nat) : State :=
  let s := s.completeHeld (8 + sess)
  let s := (List.range 16).foldl (fun s w => s.setOwn sess 0x2401 (0x10 + w) 0) s
  s.discardAll (eventQueue sess)

/-- Entry to IDLE from SAFE or LOAD: configurations at their default or persistent values, every source idle with books
at 0, no holder and no subscription (R321); a level source with a target whose level is 1 then counts its arrival (R300). -/
def State.resetEvents (s : State) : State :=
  let clear (x : Source) : Source :=
    { x with stage := .idle, holder := none, pending := 0, arrived := 0, delivered := 0, lost := 0, lostSince := false,
             bypass := false }
  let objs := s.objs.filter fun o =>
    let idx := o.1 / 256 % 65536
    !(0x2410 ≤ idx && idx ≤ 0x2413) && !(idx == 0x2401 && 0x10 ≤ o.1 % 256)
  let stored := s.cellar.values.filter fun o => let idx := o.1 / 256 % 65536; 0x2410 ≤ idx && idx ≤ 0x2413
  let s := { s with objs := objs, sources := (s.sources.map fun x => (x.1, clear x.2)).filter fun x => x.2 != {} }
  let s := stored.foldl (fun (s : State) o => match o.2 with | some v => s.setObjAt o.1 v | none => s) s
  (s.sources.map (·.1)).foldl (fun s n => s.levelArrival n) s

/-! ## What the controller reads (R322, R323) -/

/-- The code of a state of a source. -/
def SourceStage.code : SourceStage → Nat
  | .idle => 0 | .pending => 1 | .due => 2 | .service => 3

/-- The status of a source. -/
def State.sourceStatus (s : State) (n : Nat) : Nat :=
  let x := s.source n
  x.pending + 16 * bnat x.level + 32 * x.stage.code + 128 * bnat x.vanished + 256 * (x.holder.getD 0x1F) +
    8192 * bnat x.holderFast + 65536 * x.deliveredCount

/-- Sources in service, and sources pending or due. -/
def State.sourcesIn (s : State) (p : SourceStage → Bool) : Nat := (s.sources.filter fun x => p x.2.stage).length

end Sys2Proof.Machine
end

