-- ==== Sys2Proof/Machine/Cores.lean ====
section
/-!
DEFINITION. Step cores: their address space (R260 to R264), fetching (R272), starts, stops and resets (R261, R290,
R292), ends of routines and programs (R291), exceptions (R288), and entries into handlers and returns (R284 to R286).
-/

namespace Sys2Proof.Machine

/-! ## The address space (R260) -/

/-- The address that ends a routine or program (R291). -/
def endAddress : Word := 0xFFFFFFFC#32

/-- Where the plan code window begins. -/
def codeBase : Nat := 0x08000000

/-- Bytes of the plan code window: read-only, for SC1 to SC7 while a plan runs, up to the image length (R262). -/
def State.codeBytes (s : State) (n a len : Nat) : Option Bytes :=
  if n != 0 && decide (codeBase ≤ a) && decide (a + len ≤ 0x08600000) && s.disp.slot.isSome &&
    decide (a - codeBase + len ≤ s.runningImage.length) then some (sliceBytes s.runningImage (a - codeBase) len) else none

/-- Whether a core reaches the zone that WSEL selects (R264). -/
def State.zoneOpen (s : State) (n : Nat) : Bool :=
  let c := s.core n
  let z := fieldOf c.wsel.toNat 0 4
  bitOf c.wsel.toNat 31 && s.zoneLive z &&
    match c.step with
    | some k => bitOf (stepResources s.runningImage k) (8 * 46 + z)
    | none => s.holder clsZone z == some c.sess

/-- Where a data address of a core lies in memory, for the regions that are read and written; SC0 alone reaches the local
memories of all cores through their own range (R260, R294). -/
def State.dataAddress (s : State) (n a len : Nat) : Option Nat :=
  if a + len ≤ 0x100000 then some (localBase n + a)
  else if 0x10000000 ≤ a ∧ a + len ≤ 0x106E0000 then some (waveBase + (a - 0x10000000))
  else if 0x20000000 ≤ a ∧ a + len ≤ 0x20180000 ∧ s.zoneOpen n then
    some (zoneBase (fieldOf (s.core n).wsel.toNat 0 4) + (a - 0x20000000))
  else if n = 0 ∧ 0x40000000 ≤ a ∧ a + len ≤ 0x40800000 then some (localBase 0 + (a - 0x40000000))
  else none

/-- A word of a core's local memory, among those that hold a range, which ECC cannot correct (R261). -/
def State.badWord (s : State) (m len : Nat) : Option Nat := if m < waveBase then s.uncorrectable m len else none

/-- A read of a core's data space: the bytes and what the read leaves, or the code and address of its exception: an access
fault, or a word of local memory that cannot be corrected (R260, R261, R287). -/
def State.coreRead (s : State) (n a len : Nat) : Except (Nat × Nat) (Bytes × State) :=
  match s.dataAddress n a len with
  | some m => match s.badWord m len with
    | some w => .error (6, a + w - m)
    | none => .ok (s.eccBytes m len, s.afterRead m len)
  | none => match s.codeBytes n a len with
    | some b => .ok (b, s)
    | none => .error (3, a)

/-- A write to a core's data space, or the code and address of its exception. -/
def State.coreWrite (s : State) (n a : Nat) (bs : Bytes) : Except (Nat × Nat) State :=
  match s.dataAddress n a bs.length with
  | some m => .ok (s.eccWrite m bs)
  | none => .error (3, a)

/-- The word that a core fetches; none is a fetch fault, or a word that ECC cannot correct (R260, R261, R262, R272). -/
def State.fetch (s : State) (n : Nat) (pc : Word) : Option Word :=
  let a := pc.toNat
  if a % 4 ≠ 0 then none
  else if a + 4 ≤ 0x100000 then
    (if (s.uncorrectable (localBase n + a) 4).isSome then none
     else some (BitVec.ofNat 32 (leNat (s.readBytes (localBase n + a) 4))))
  else (s.codeBytes n a 4).map fun b => BitVec.ofNat 32 (leNat b)

/-- What the fetch of a core leaves: a corrected word is written back and counted (R261). -/
def State.fetched (s : State) (n : Nat) : State :=
  let a := (s.core n).pc.toNat
  if a + 4 ≤ 0x100000 then s.afterRead (localBase n + a) 4 else s

/-! ## Starts, stops and resets -/

/-- A core as it starts a routine or program (R290). -/
def Core.started (c : Core) (stage : CoreStage) (sess : Nat) (step : Option Nat) (arg test : Nat) (pc : Nat) : Core :=
  let g := (((Vector.replicate 16 0#32).set 1 (BitVec.ofNat 32 arg)).set 14 0x00100000#32).set 15 endAddress
  let g := match step with
    | some k => (g.set 2 (BitVec.ofNat 32 k)).set 3 (BitVec.ofNat 32 test)
    | none => g
  { c with g := g, fast := Vector.replicate 6 0#32, psr := 0#32, nvec := 0#32, fvec := 0#32, wsel := 0#32, sess := sess,
           step := step, tsr := none, wait := none, normalEvent := none, fastEvent := none, lastSess := sess,
           pc := BitVec.ofNat 32 pc, stage := stage }

/-- The local memory of a core is zeroed before it works for another session than its last (R261). -/
def State.freshMemory (s : State) (n sess : Nat) : State :=
  if (s.core n).lastSess = sess then s else s.eccClear (localBase n) 0x100000

/-- A core starts (R290, R292). -/
def State.startCore (s : State) (n : Nat) (stage : CoreStage) (sess : Nat) (step : Option Nat) (arg test pc : Nat) : State :=
  let s := s.freshMemory n sess
  s.setCore n ((s.core n).started stage sess step arg test pc)

/-- A core is reset: its held events are completed, registers, snapshots and staging register become 0 (R281, R292). -/
def State.resetCore (s : State) (n : Nat) : State :=
  let s := s.completeHeld n
  s.setCore n { lastSess := (s.core n).lastSess }

/-- A core stops: registers are kept, its held events are completed (R292). -/
def State.stopCore (s : State) (n : Nat) : State :=
  let s := s.setObj (0x2510 + n) 9 ((s.core n).g.get 0).toNat
  let s := s.completeHeld n
  s.setCore n { s.core n with wait := none, normalEvent := none, fastEvent := none, sess := 255, step := none,
                              stage := .stopped }

/-- Whether a core of SC1 to SC7 is free (R290). -/
def State.coreFree (s : State) (n : Nat) : Bool := n != 0 && (s.core n).stage == .stopped

/-- The cores that are free. -/
def State.freeCores (s : State) : List Nat := ((List.range 8).filter (· != 0)).filter s.coreFree

/-- The lowest-numbered free core. -/
def State.freeCore (s : State) : Option Nat := s.freeCores.head?

/-- The step that a core runs answers with a status and values (R203, R291). -/
def State.routineAnswers (s : State) (n : Nat) (values : List Int) (cause : Nat) : State :=
  match (s.core n).step with
  | some k => s.stepAnswers k values cause
  | none => s

/-- A jump to the end address ends the routine or program (R291, R292). -/
def State.coreEnds (s : State) (n : Nat) : State :=
  let c := s.core n
  let v := fun (i : Nat) => (c.g.toList.getD i 0#32).toInt
  let s := match c.step with
    | some _ =>
      let s := s.routineAnswers n ([if v 0 = 0 then v 1 else v 0] ++ [v 2, v 3, v 4, v 5, v 6]) (if v 0 = 0 then 0 else 0x0C)
      (s.countUp 0x2500 2).countUp (0x2510 + n) 0x0C
    | none => s
  s.stopCore n

/-- An exception stops a core before the faulting instruction has any effect (R288). -/
def State.coreException (s : State) (n code addr : Nat) : State :=
  let c := s.core n
  let idx := 0x2510 + n
  let g0 := c.g.get 0
  let s := ((s.setObj idx 6 code).setObj idx 7 c.pc.toNat).setObj idx 8 addr
  let s := s.setObj idx 9 g0.toNat
  let s := s.logRec s.now (0x0410 + n) 6 (natLe 1 code ++ zeroBytes 3 ++ natLe 4 c.pc.toNat)
  let s := s.routineAnswers n [g0.toInt] 0x0C
  let s := s.completeHeld n
  s.setCore n { c with wait := none, normalEvent := none, fastEvent := none, step := none, stage := .exception }

/-! ## Instructions -/

/-- The next instruction follows. -/
def Core.next (c : Core) : Core := { c with pc := c.pc + 4#32 }

/-- A core executes an instruction: its word stands at PC while the core runs (R266); otherwise the core does not execute
it. -/
def State.instruction (s : State) (t : Tk) (n : Nat) (w : Word) (f : State → State) : Host.Outcome State Fault Refusal :=
  let s := s.advance t
  .next (if (s.core n).runs && s.fetch n (s.core n).pc == some w then f (s.fetched n) else s)

/-- A jump; the end address ends the routine or program (R291). -/
def State.jumpTo (s : State) (n : Nat) (c : Core) (target : Word) : State :=
  if target = endAddress then (s.setCore n c).coreEnds n else s.setCore n { c with pc := target }

/-- A result goes to rd with its flags, and the next instruction follows. -/
def State.aluResult (s : State) (n : Nat) (rd : Reg) (r : Alu) : State :=
  s.setCore n (((s.core n).setReg rd r.value).setFlags r).next

/-- Only the flags of a result are kept. -/
def State.aluCompare (s : State) (n : Nat) (r : Alu) : State := s.setCore n ((s.core n).setFlags r).next

/-- The illegal-instruction exception of an instruction word. -/
def State.illegal (s : State) (n : Nat) (w : Word) : State := s.coreException n 1 w.toNat

/-! ## Special registers (R258) -/

/-- A special register as MFS reads it. -/
def State.specialRead (s : State) (n i : Nat) : Option Word :=
  let c := s.core n
  match i with
  | 0x00 => some c.psr
  | 0x01 => some c.epc
  | 0x02 => some c.epsr
  | 0x03 => some c.fepc
  | 0x04 => some c.fepsr
  | 0x05 => some c.esrc
  | 0x06 => some c.fsrc
  | 0x07 => some c.nvec
  | 0x08 => some c.fvec
  | 0x09 => some c.ost
  | 0x0A => some (BitVec.ofNat 32 n)
  | 0x0B => some (BitVec.ofNat 32 c.sess)
  | 0x0C => some (match c.step with | some k => BitVec.ofNat 32 k | none => 0xFFFFFFFF#32)
  | 0x0D => some c.wsel
  | _ => if 0x10 ≤ i && i ≤ 0x15 then some (c.fast.toList.getD (i - 0x10) 0#32) else none

/-- A status word written by MTS: the handler bits and the reserved bits do not take the write (R257). -/
def writePsr (old new : Word) : Word := (old &&& 0xC0#32) ||| (new &&& 0x3F#32)

/-- A saved status word keeps the eight fields of PSR. -/
def writeSaved (new : Word) : Word := new &&& 0xFF#32

/-- A special register written by MTS; none for an unlisted or read-only number. -/
def Core.specialWrite (c : Core) (i : Nat) (v : Word) : Option Core :=
  match i with
  | 0x00 => some { c with psr := writePsr c.psr v }
  | 0x01 => some { c with epc := v }
  | 0x02 => some { c with epsr := writeSaved v }
  | 0x03 => some { c with fepc := v }
  | 0x04 => some { c with fepsr := writeSaved v }
  | 0x07 => some { c with nvec := v &&& 0xFFFFFFFC#32 }
  | 0x08 => some { c with fvec := v &&& 0xFFFFFFFC#32 }
  | 0x0D => some { c with wsel := v &&& 0x8000000F#32 }
  | _ => if 0x10 ≤ i && i ≤ 0x15 then some { c with fast := c.fast.setIfInBounds (i - 0x10) v } else none

/-! ## Handlers (R284 to R286) -/

/-- Normal entry for a source. -/
def Core.normalEntry (c : Core) (n : Nat) : Core :=
  { c with epc := c.pc, epsr := c.psr, esrc := BitVec.ofNat 32 n, psr := putFlag (putFlag c.psr flagNE false) flagNA true,
           pc := c.nvec, normalEvent := none }

/-- Fast entry for a source. -/
def Core.fastEntry (c : Core) (n : Nat) : Core :=
  { c with fepc := c.pc, fepsr := c.psr, fsrc := BitVec.ofNat 32 n,
           psr := putFlag (putFlag (putFlag c.psr flagNE false) flagFE false) flagFA true, pc := c.fvec, fastEvent := none }

/-- A committed normal delivery is taken between instructions. -/
def State.entersNormal (s : State) (n : Nat) : State :=
  let c := s.core n
  match c.normalEvent with
  | some x => if c.runs && c.flag flagNE && !c.flag flagNA && !c.flag flagFA then s.setCore n (c.normalEntry x) else s
  | none => s

/-- A committed fast delivery is taken between instructions. -/
def State.entersFast (s : State) (n : Nat) : State :=
  let c := s.core n
  match c.fastEvent with
  | some x => if c.runs && c.flag flagFE && !c.flag flagFA then s.setCore n (c.fastEntry x) else s
  | none => s

/-- The normal sources that are due for a core whose RETI ends a normal handler, the first in order (R286, R308). -/
def State.backToBack (s : State) (n : Nat) : Option Nat :=
  let due := (s.sources.map (·.1)).filter fun m => s.counting && (s.source m).stage == .due && !s.sourceFast m &&
    ((s.roundRobin m).find? fun k => k == n || s.eligible m k) == some n
  due.find? fun m => due.all fun x => x == m || s.sourceBefore m x

/-- RETI (R286). A fast delivery committed before the RETI of a normal handler abandons it: the fast handler runs first, and its
return comes back to the RETI (R317). -/
def State.returns (s : State) (n : Nat) (w : Word) : State :=
  let c := s.core n
  if c.flag flagFA then s.setCore n { c with pc := c.fepc, psr := c.fepsr }
  else if c.flag flagNA then
    if c.fastEvent.isSome && c.flag flagFE then s else
    match if c.epsr.getLsbD flagNE then s.backToBack n else none with
    | some x => (s.serve x n).setCore n { c with esrc := BitVec.ofNat 32 x, pc := c.nvec }
    | none => s.setCore n { c with pc := c.epc, psr := c.epsr }
  else s.illegal n w

/-! ## Waiting (R280) -/

/-- WAITE stops a core until an event or a timeout. A delivery committed already ends it at once (log entry 44). -/
def State.coreWaits (s : State) (n : Nat) (rd : Reg) (timeout : Word) : State :=
  let c := s.core n
  let deadline := if timeout = 0#32 then none else some (s.now + timeout.toNat * tkUs)
  let w := { c.next with wait := some (c.stage, rd, deadline), stage := .waiting }
  match c.fastEvent, c.normalEvent with
  | some x, _ => s.setCore n ({ w with fastEvent := none }.receive x true)
  | none, some x => s.setCore n ({ w with normalEvent := none }.receive x false)
  | none, none => (s.setCore n w).settleSources

/-- The timeout of WAITE elapses. -/
def State.waitEnds (s : State) (n : Nat) : State :=
  let c := s.core n
  match c.wait with
  | some (back, rd, some d) =>
    if c.stage == .waiting && decide (d ≤ s.now) then
      s.setCore n { (c.setReg rd 0xFFFFFFFF#32).setFlag flagZ true with wait := none, stage := back }
    else s
  | _ => s

/-! ## The core object (R297) -/

/-- The state of a core as read. -/
def State.coreCode (s : State) (n : Nat) : Nat :=
  if n = 0 then 6
  else match (s.core n).stage with
    | .stopped => 0 | .routine => 1 | .program => 2 | .waiting => 3 | .exception => 4 | .supervisor => 6

/-- Whether a routine holds a core. -/
def Core.routine (c : Core) : Bool :=
  c.stage == .routine || (c.stage == .waiting && match c.wait with | some (b, _, _) => b == .routine | none => false)

/-- Cores not free (R296). -/
def State.coresBusy (s : State) : Nat := bitWord 8 fun n => !s.coreFree n

/-- A command to a core (R292, R294): its value is judged first (R442). -/
def State.coreCommand (s : State) (sess n v : Nat) : Res := do
  refuseIf (v == 0 || decide (3 < v)) 0x06090030
  refuseIf (n = 0) 0x0F010A01
  let c := s.core n
  refuseIf c.routine 0x0F010A02
  let idle := c.stage == .stopped || c.stage == .exception
  match v with
  | 1 =>
    refuseIf (!idle) 0x0F010A02
    return s.startCore n .program sess none (s.objN (0x2510 + n) 4) 0 (s.objN (0x2510 + n) 3)
  | 2 =>
    refuseIf idle 0x0F010A02
    return s.stopCore n
  | _ => return s.resetCore n

/-- A write of local memory (R297). -/
def State.localMemoryStore (s : State) (n : Nat) (b : Bytes) : Res := do
  refuseIf (n = 0) 0x0F010A01
  refuseIf (!((s.core n).stage == .stopped || (s.core n).stage == .exception)) 0x0F010A02
  return s.eccWrite (localBase n) b

/-- A write to a core object, after its checks: range refusals come before that of the supervisor (R294, R442). -/
def State.coreWriteObject (s : State) (sess n sub v : Nat) : Res := do
  if sub == 2 then s.coreCommand sess n v
  else
    refuseIf (sub == 3 && v % 4 != 0) 0x06090030
    refuseIf (n = 0) 0x0F010A01
    return s.setObj (0x2510 + n) sub v

/-- The cores that work for a session are reset at its end: a program runs, waits, or has stopped with an exception (R293,
R463); the routines end with their plan. -/
def State.endPrograms (s : State) (sess : Nat) : State :=
  ((List.range 8).filter fun n => n != 0 && (s.core n).sess == sess && !(s.core n).routine).foldl State.resetCore s

/-- Entry to HOLD or SAVE resets SC1 to SC7 (R293). -/
def State.resetCores (s : State) : State := ((List.range 8).filter (· != 0)).foldl State.resetCore s

/-- Local memories of SC1 to SC7 are zeroed at entry to IDLE from LOAD or SAFE (R261). -/
def State.zeroCores (s : State) : State := s.eccClear (localBase 1) 0x700000

end Sys2Proof.Machine
end

