-- ==== Sys2Proof/Machine/Plans.lean ====
section
/-!
DEFINITION. The dispatcher: starting and ending a plan (R204, R216), ready and skipped steps (R207, R215), the tests of
a step (R208 to R211), actions and how they stop (R199 to R203, R205), verdicts and their entries (R214, R217).
-/

namespace Sys2Proof.Machine

/-! ## Entries (R217) -/

/-- An entry of the dispatcher. -/
def planEntry (stamp kind flags : Nat) (payload : Bytes) : NewEntry :=
  { stamp := stamp, tag := 0x0200, kind := kind, flags := flags, payload := payload }

/-- A count that saturates at the greatest value of `n` bits. -/
def saturated (n v : Nat) : Nat := min v (2 ^ n - 1)

/-- A step verdict: step, verdict, cause, first failing rule and flags (R217). -/
structure StepVerdict where
  verdict : Nat
  cause : Nat
  rule : Nat := 0xFFFF
  flags : Nat := 0
  deriving DecidableEq, Repr

/-- The entry of a step verdict; a step with flag bit 3 writes none for a pass. -/
def State.writeVerdict (s : State) (k : Nat) (x : StepRec) (v : StepVerdict) (finish run deferred : Nat) : State :=
  let i := s.runningImage
  if bitOf (stepFlags i k) 3 && v.verdict == 1 then s
  else s.blockEntryTo (s.objN 0x3500 3)
    (planEntry finish 0x40 v.flags (natLe 2 k ++ natLe 1 v.verdict ++ natLe 1 v.cause ++ natLe 4 (stepTest i k) ++
      natLe 4 (run / tkUs) ++ natLe 2 v.rule ++ natLe 1 (x.attempt + 1) ++ natLe 1 (saturated 8 (deferred / 400000))))

/-! ## Rules (R197, R214) -/

/-- Whether a rule holds for a value. -/
def PlanRule.holds (r : PlanRule) (v : Int) : Bool :=
  match r.op with
  | 1 => decide (r.low ≤ v ∧ v ≤ r.high)
  | 2 => decide (v < r.low ∨ r.high < v)
  | 3 => decide (v = r.low)
  | 4 => decide (v ≠ r.low)
  | _ => toCode 64 v &&& toCode 64 r.high == toCode 64 r.low

/-- What a rule gives: nothing, or the verdict (2 fail, 3 error) and its cause. -/
def PlanRule.judge (r : PlanRule) (values : List StepValue) : Option (Nat × Nat) :=
  match values.find? fun v => v.index == r.value with
  | none => some (3, 0x0F)
  | some v =>
    if v.flags != 0 && !bitOf r.flags 1 then some (3, 0x0D)
    else if r.holds v.value then none
    else some (if bitOf r.flags 0 then 3 else 2, 1)

/-- The verdict of an ended action (R214). -/
def judgeStep (rules : List PlanRule) (values : List StepValue) (cause : Nat) : StepVerdict :=
  let found := rules.map fun r => r.judge values
  let first := (found.findIdx? Option.isSome).getD 0xFFFF
  let flagged := values.any fun v => v.flags != 0
  let err := found.findSome? fun x => match x with | some (3, c) => some c | _ => none
  let fail := found.findSome? fun x => match x with | some (2, c) => some c | _ => none
  let (verdict, why) := if cause != 0 then (3, cause) else match err, fail with
    | some c, _ => (3, c)
    | none, some c => (2, c)
    | none, none => (1, 0)
  { verdict := verdict, cause := why, rule := first, flags := 2 * bnat flagged }

/-- The entries of the values of a step with flag bit 2 (R217). -/
def State.writeValues (s : State) (k : Nat) (values : List StepValue) (finish : Nat) : State :=
  let i := s.runningImage
  let rules := stepRules i k
  if !bitOf (stepFlags i k) 2 then s
  else values.foldl (fun s v =>
    let failed := rules.any fun r => r.value == v.index && (r.judge values).isSome
    s.blockEntryTo (stepQueue i k) (planEntry (v.stamp.getD finish) 0x42 (v.flags + 64 * bnat failed)
      (natLe 2 k ++ natLe 2 v.index ++ natLe 8 (toCode 64 v.value) ++ natLe 4 (stepTest i k)))) s

/-! ## Ready and skipped steps (R195, R207, R215) -/

/-- What a dependency says now: met, still open, or never to be met. -/
inductive DepState where
  | met | open_ | lost
  deriving DecidableEq, Repr

/-- A dependency on an ended or unended step (R195); a skipped step meets none. -/
def depState (x : StepRec) (cond : Nat) : DepState :=
  if x.stage != .ended then .open_
  else if x.verdict = 5 then .lost
  else if match cond with
    | 0 => true
    | 1 => x.verdict == 1
    | 2 => x.verdict == 2 || x.verdict == 3
    | _ => x.verdict != 3 then .met else .lost

/-- A step is skipped: its entry is written (R215). -/
def State.skipStep (s : State) (k : Nat) : State :=
  let x := s.step k
  let s := s.setStep k { x with stage := .ended, verdict := 5, cause := 0x0E }
  s.writeVerdict k x { verdict := 5, cause := 0x0E } s.now 0 0

/-- One waiting step follows its dependencies. -/
def State.updateStep (s : State) (k : Nat) : State :=
  let x := s.step k
  if x.stage != .waiting then s
  else
    let ds := (stepDeps s.runningImage k).map fun d => depState (s.step d.1) d.2
    if ds.any (· == .lost) then s.skipStep k
    else if ds.all (· == .met) then s.setStep k { x with stage := .ready, readyAt := s.now, deferCause := 0, held := false }
    else s

/-- Every waiting step follows its dependencies; a step depends only on lower-numbered ones (R195). -/
def State.updateReady (s : State) : State :=
  if s.disp.slot.isNone || s.disp.stopped then s
  else s.each (List.range (stepCount s.runningImage)) State.updateStep

/-! ## The order and the tests (R208) -/

/-- Whether a step comes before another in the order. -/
def stepBefore (i : Bytes) (j k : Nat) : Bool :=
  decide (stepPriority i k < stepPriority i j) || (stepPriority i j == stepPriority i k && decide (j < k))

/-- The ready steps. -/
def State.readySteps (s : State) : List (Nat × StepRec) := s.disp.steps.filter fun x => x.2.stage == .ready

/-- Whether calibration holds a port, a converter, or a bus source of a descriptor (R208, cause 0x03; R489). -/
def State.calibrationHolds (s : State) (r : Nat) : Bool :=
  (List.range 256).any (fun p => holdsPort r p && s.isolated p) ||
    ((List.range 72).any fun q => holdsConv r q && (s.conv q).calibrationUse) ||
    match s.cal.unit with
    | some u => decide (16 ≤ u.item) && holdsSweep r u.die
    | none => false

/-- Whether a core is left for one more step: steps in flight that name a step core and run no routine on it hold one each
(R196). -/
def State.coreLeft (s : State) : Bool :=
  let holds := fun (x : Nat × StepRec) => holdsCore (stepResources s.runningImage x.1) &&
    !((List.range 8).any fun n => (s.core n).step == some x.1)
  decide ((s.inFlightSteps.filter holds).length < s.freeCores.length)

/-- The first test that a ready step fails; 0 when it passes every test (R208). -/
def State.stepTestCause (s : State) (k : Nat) : Nat :=
  let i := s.runningImage
  let r := stepResources i k
  if 256 ≤ s.inFlightSteps.length then 1
  else if r &&& s.heldResources &&& resourceMask != 0 || ((stepKind i k == 6 || holdsCore r) && !s.coreLeft) then 2
  else if s.calibrationHolds r then 3
  else if s.readySteps.any fun x => x.2.held && stepBefore i x.1 k then 4
  else if !s.currentFits none (stepPeak i k) then 5
  else if (List.range 4).any fun d => !s.currentFits (some d) (stepDiePeak i k d) then 6
  else if (s.reserve (stepClaim i k)).isNone then 7
  else 0

/-- Whether the dispatcher may dispatch now (R206, R216). -/
def State.dispatching (s : State) : Bool :=
  s.disp.slot.isSome && !s.disp.stopped && (s.mode == .run || s.mode == .throttle)

/-- At a decision instant every ready step takes the cause of the first test it fails (R208), and a waiting map its grants
(R244). -/
def State.judgeReady (s : State) : State :=
  let s := s.showGrants
  if !s.dispatching then s
  else s.readySteps.foldl (fun s x => s.setStep x.1 { s.step x.1 with deferCause := s.stepTestCause x.1 }) s

/-- Whether step `k` is the first in the order that passes every test. -/
def State.firstToGo (s : State) (k : Nat) : Bool :=
  let i := s.runningImage
  s.readySteps.all fun x => x.1 == k || !stepBefore i x.1 k || s.stepTestCause x.1 != 0

/-! ## The end of a plan (R216, R217) -/

/-- The plan ends when no step is in flight and none can be dispatched. -/
def State.planSettles (s : State) : State :=
  let d := s.disp
  match d.slot with
  | none => s
  | some slot =>
    if !s.openSteps.isEmpty || (!d.stopped && !s.readySteps.isEmpty) then s
    else
      let fails := s.objN 0x3501 0x12
      let errors := s.objN 0x3501 0x13
      let (verdict, cause) := match d.abortCause with
        | some c => (3, c)
        | none => (if errors ≠ 0 then 3 else if fails ≠ 0 then 2 else 1, d.firstCause)
      let run := (s.now - s.objN 0x3501 0x0B) / tkUs
      let e := planEntry s.now 0x41 (bnat d.abortCause.isSome + 2 * bnat d.stopOnFail)
        (natLe 1 verdict ++ natLe 1 cause ++ natLe 1 slot ++ [0#8] ++ natLe 4 (planId s.runningImage) ++ natLe 4 run ++
          natLe 2 (saturated 16 fails) ++ natLe 2 (saturated 16 errors))
      let s := s.blockEntryTo (s.objN 0x3500 3) e
      let s := (s.setObj 0x3501 9 verdict).setObj 0x3501 0x0A cause
      ({ s with disp := { tails := d.tails } }).cause 0x3500 0 s.now

/-! ## Stopping actions (R205) -/

/-- The core that runs a step. -/
def State.coreOf (s : State) (k : Nat) : Option Nat := (List.range 8).find? fun n => (s.core n).step == some k

/-- A measure step whose requests have finished or gone ends its action (R199, R205). -/
def State.measureSettles (s : State) (k : Nat) : State :=
  let x := s.step k
  if x.stage != .inFlight || x.done.isSome || stepKind s.runningImage k != 2 then s
  else
    let running := x.running.filter fun r => (s.conv r.2).urgentStep == some k
    let s := s.setStep k { x with running := running }
    if x.toRun.isEmpty && running.isEmpty then s.actionStops k 0 else s

/-- An action in flight is stopped with an error cause; `why` is the abort cause of a map that the step runs (R187, R205). -/
def State.stopAction (s : State) (k cause why : Nat) : State :=
  let i := s.runningImage
  let a := stepAction i k
  let x := s.step k
  if x.stage != .inFlight || x.done.isSome || x.ending.isSome then s
  else match stepKind i k with
    | 2 => (s.setStep k { x with ending := some cause, toRun := [], values := [] }).measureSettles k
    | 3 => (s.sweepStops (sweepChannel a)).actionStops k cause
    | 4 => ((s.setStep k { x with ending := some cause }).mapAborts why).actionStops k cause
    | 5 => match s.exchangeCancels k a with
      | (s, true) => s.actionStops k cause
      | (s, false) => s.setStep k { x with ending := some cause }
    | 6 => match s.coreOf k with
      | some n => (s.actionStops k cause).resetCore n
      | none => s.actionStops k cause
    | _ => s.actionStops k cause

/-- The abort cause of a map whose plan ends with a cause: HOLD, the end of claims with a lease, or the abort of the plan (R187,
R205, R206). -/
def mapCauseOf (cause : Nat) : Nat := if cause = 7 then 4 else if cause = 5 then 3 else 1

/-- The plan aborts: every step in flight ends with the cause, and nothing more is dispatched (R205, R206). -/
def State.planAborts (s : State) (cause : Nat) : State :=
  if s.disp.slot.isNone || s.disp.abortCause.isSome then s
  else
    let s := s.inFlightSteps.foldl (fun s x => s.stopAction x.1 cause (mapCauseOf cause)) s
    ({ s with disp := { s.disp with stopped := true, abortCause := some cause } }).planSettles

/-- Entry to SAVE: steps end without entries (R206). -/
def State.planHalts (s : State) : State :=
  { s with disp := { tails := s.disp.tails }, sweeps := [], busSources := [] }

/-- The claims whose end ends a step: those of its descriptor, and those of its converters (R120, R206). -/
def endingClaims (r : Nat) : List (Nat × Nat) :=
  descriptorClaims r ++ ((List.range 72).filter (holdsConv r)).flatMap convClaims

/-- A claim has ended: the steps in flight that need it end with cause 0x04, a map with 0x03 where the claim is on a point or on the
mapper (R187, R206). -/
def State.stepsLoseClaim (s : State) (cls n : Nat) : State :=
  let i := s.runningImage
  let why := if cls = clsMapper || (cls = clsPort && s.map.points.contains n) then 3 else 1
  (s.inFlightSteps.filter fun x => (endingClaims (stepResources i x.1)).contains (cls, n)).foldl
    (fun s x => s.stopAction x.1 4 why) s

/-- A port has faulted: the steps in flight that hold it end with cause 0x03, and a map of theirs with 0x02 where the port is
a point
(R187, R206). -/
def State.stepsLosePort (s : State) (p : Nat) : State :=
  let i := s.runningImage
  (s.inFlightSteps.filter fun x => holdsPort (stepResources i x.1) p).foldl
    (fun s x => s.stopAction x.1 3 (if s.map.points.contains p then 2 else 1)) s

/-! ## The end of a step (R214, R215) -/

/-- Whether an ended attempt is repeated (R215). -/
def retries (v : StepVerdict) : Bool :=
  v.verdict == 2 || (v.verdict == 3 && [0x01, 0x02, 0x0A, 0x0B, 0x0D].contains v.cause)

/-- The values of a step at its end: a wait step's is its elapsed time (R199). -/
def State.endValues (s : State) (k : Nat) (x : StepRec) : List StepValue :=
  if stepKind s.runningImage k == 7 then plainValues [tkToNs (x.stoppedAt - x.dispatchedAt)] else x.values

/-- The step has its last verdict: counts, the stop flag and the first cause (R216). -/
def State.countStep (s : State) (k : Nat) (v : StepVerdict) : State :=
  let f := stepFlags s.runningImage k
  let bad := v.verdict == 2 || v.verdict == 3
  let s := s.setStep k { s.step k with stage := .ended, verdict := v.verdict, cause := v.cause }
  let s := s.countUp 0x3501 5
  let s := if bitOf f 0 && v.verdict == 2 then s.countUp 0x3501 0x12 else s
  let s := if bitOf f 0 && v.verdict == 3 then s.countUp 0x3501 0x13 else s
  let s := if bitOf f 0 && bad && s.disp.firstCause = 0 then { s with disp := { s.disp with firstCause := v.cause } } else s
  if bitOf f 1 && bad && !s.disp.stopped then
    ({ s with disp := { s.disp with stopped := true, stopOnFail := true } }).cause 0x3500 4 s.now
  else s

/-- What follows the end of a step: other steps, and perhaps the end of the plan. -/
def State.afterStep (s : State) : State := s.updateReady.judgeReady.planSettles

/-- The action of a step has stopped: energy, tail, rules, verdict, retry (R209, R210, R214, R215). A measure step whose requests
have been aborted has stopped with them. -/
def State.stepEnds (s : State) (k : Nat) : State :=
  let i := s.runningImage
  let s := s.measureSettles k
  let x := s.step k
  match x.stage == .inFlight, x.done with
  | true, some cause =>
    let values := s.endValues k x
    let v := judgeStep (stepRules i k) values cause
    let again := retries v && decide (x.attempt < stepRetries i k) && !s.disp.stopped
    let v := { v with flags := v.flags + bnat again + 4 * bnat x.held }
    let s := s.settleEnergy (stepClaim i k + x.extra) x.energy
    let tail : Tail := { until_ := x.stoppedAt + 400000, module_ := stepPeak i k, dies := (List.range 4).map (stepDiePeak i k) }
    let s : State := if stepKind i k == 4 && cause != 0x10 then s
      else { s with disp := { s.disp with tails := s.disp.tails ++ [tail] } }
    let s := s.writeValues k values x.stoppedAt
    let s := s.writeVerdict k x v x.stoppedAt (x.stoppedAt - x.dispatchedAt) (x.dispatchedAt - x.readyAt)
    let s := if v.verdict == 2 then s.cause 0x3500 1 x.stoppedAt
      else if v.verdict == 3 then s.cause 0x3500 2 x.stoppedAt else s
    let s := if again then s.setStep k { attempt := x.attempt + 1, stage := .ready, readyAt := s.now } else s.countStep k v
    s.afterStep
  | _, _ => s

/-- A deferred step has waited too long: it ends with cause 0x08 and is not retried (R211). -/
def State.stepWaitsTooLong (s : State) (k : Nat) : State :=
  let x := s.step k
  if x.stage != .ready || x.deferCause == 0 || !s.dispatching || s.now < x.readyAt + s.objN 0x3500 5 * tkMs then s
  else
    let v : StepVerdict := { verdict := 3, cause := 8, flags := 4 * bnat x.held }
    let s := s.writeVerdict k x v s.now 0 (s.now - x.readyAt)
    ((s.cause 0x3500 2 s.now).countStep k v).afterStep

/-- A deferred step becomes held (R211). -/
def State.stepHolds (s : State) (k : Nat) : State :=
  let x := s.step k
  if x.stage != .ready || x.deferCause == 0 || x.held || !s.dispatching || s.now < x.readyAt + s.objN 0x3500 4 * tkUs then s
  else (s.setStep k { x with held := true }).cause 0x3500 3 s.now

/-- The timeout of a step elapses (R194). -/
def State.stepTimesOut (s : State) (k : Nat) : State :=
  let t := stepTimeout s.runningImage k
  let x := s.step k
  if x.stage != .inFlight || t = 0 || s.now < x.dispatchedAt + t * tkUs then s else s.stopAction k 2 1

/-- Peaks whose tail has ended no longer count (R209). -/
def State.tailsEnd (s : State) : State :=
  ({ s with disp := { s.disp with tails := s.disp.tails.filter fun t => decide (s.now < t.until_) } }).judgeReady

/-- The time of a wait step elapses (R199, R203). -/
def State.waitElapses (s : State) (k : Nat) : State :=
  let i := s.runningImage
  let x := s.step k
  if stepKind i k != 7 || s.now < x.dispatchedAt + fieldLe (stepAction i k) 0 4 * tkUs then s
  else s.actionStops k (if x.waitsFor.isSome then 2 else 0)

/-- The response timeout of an exchange elapses (R228). -/
def State.responseTimesOut (s : State) (k : Nat) : State :=
  let i := s.runningImage
  let x := s.step k
  if stepKind i k != 5 || s.now < x.dispatchedAt + fieldLe (stepAction i k) 4 4 * tkUs then s else s.stopAction k 0x0A 1

/-! ## Starting a plan (R204) -/

/-- The claims that a plan needs: the cycle, those of every descriptor, and its queues. -/
def State.planClaims (s : State) (i : Bytes) : List (Nat × Nat) :=
  let ds := (List.range ((sectionAt i 32).2 / 64)).map (descriptorWord i)
  let qs := s.objN 0x3500 3 :: (List.range (stepCount i)).map (stepQueue i)
  (clsCycle, 0) :: ds.flatMap descriptorClaims ++ (qs.filter (· != 0xFFFFFFFF)).map fun q => (clsQueue, q)

/-- A start of the plan in the selected slot. -/
def State.planStarts (s : State) (who : Nat) : Res := do
  let slot := s.objN 0x3500 2
  let i := s.planImage slot
  refuseIf (!(s.mode == .run || s.mode == .throttle)) 0x0F010002
  refuseIf s.disp.slot.isSome 0x0F010705
  refuseIf i.isEmpty 0x0F010703
  refuseWith (s.claimsAbort who (s.planClaims i))
  refuseIf ((List.range (stepCount i)).any fun k => decide (s.gov.capacity < stepClaim i k)) 0x0F010706
  let qs := ((List.range (stepCount i)).map (stepQueue i)).filter (· != 0xFFFFFFFF)
  -- the result queues that the start pins (R347, R352)
  refuseIf (s.pantry.larderReady && decide (16000 < s.pinnedCount + (qs.eraseDups.filter fun q => !s.pinned q).length)) 0x0F010809
  let s : State := { s with disp := { slot := some slot, session := who, tails := s.disp.tails, queuesNamed := qs } }
  let s := (s.setObj 0x3501 3 (planId i)).setObj 0x3501 0x0B s.now
  let s := [5, 9, 0x0A, 0x12, 0x13].foldl (fun (s : State) sub => s.setObj 0x3501 sub 0) s
  return s.updateReady.judgeReady

/-- A write of the dispatcher's command (R204, R205). -/
def State.planCommand (s : State) (who v : Nat) : Res :=
  if v = 1 then s.planStarts who else if v = 2 then .ok (s.planAborts 6) else refuse 0x06090030

/-- A write to the dispatcher object, after its checks (R232). -/
def State.dispatcherWrite (s : State) (who sub v : Nat) : Res :=
  if sub == 1 then s.planCommand who v
  else if sub == 6 || sub == 7 then .ok (s.eventWrite 0x3500 sub v)
  else do
    if sub == 3 then refuseWith (s.queueRefAbort who v)
    return s.setObj 0x3500 sub v

/-! ## Measure steps (R202) -/

/-- The refusal of a measure record. -/
def State.measureAbort (s : State) (q w : Nat) : Option Nat :=
  (s.claimsAbort s.disp.session (convClaims q)).orElse fun _ =>
    (s.entryAbort s.disp.session w).orElse fun _ => if (s.chain q).mapperUse then some 0x0F010401 else none

/-- The next record of a step for a converter runs when the urgent slot is free. -/
def State.measureGoes (s : State) (k q : Nat) : State :=
  let x := s.step k
  match x.toRun.find? fun r => r.2.1 == q with
  | none => s
  | some (i, _, w) =>
    if x.stage != .inFlight || x.done.isSome || x.running.any (fun r => r.2 == q) || s.slotBusy q then s
    else match s.measureAbort q w with
      | some code =>
        (s.setStep k { x with toRun := [], values := plainValues [(code : Int)], ending := some 0x10 }).measureSettles k
      | none => (s.urgentAccept q w (some k)).setStep k
          { x with toRun := x.toRun.filter fun r => r.1 != i, running := x.running ++ [(i, q)] }

/-- The urgent slot of a converter is free: the steps in flight that wait for it go on, in order of their numbers. -/
def State.measureContinues (s : State) (q : Nat) : State :=
  let s := s.inFlightSteps.foldl (fun s x => s.measureSettles x.1) s
  s.inFlightSteps.foldl (fun s x => s.measureGoes x.1 q) s

/-- A measure step begins its records. -/
def State.measureStarts (s : State) (k : Nat) (a : Bytes) : State :=
  let rs := ((recordsOf 16 a).zipIdx).map fun r => (r.2, fieldLe r.1 0 1, fieldLe r.1 8 8)
  let s := s.setStep k { s.step k with toRun := rs }
  let s := (rs.map fun r => r.2.1).eraseDups.foldl (fun s q => s.measureGoes k q) s
  s.measureSettles k

/-- The urgent request of a step is about to end with its codes: the step takes its value (R199, R202). -/
def State.measureTakes (s : State) (q : Nat) (codes : Codes) : State :=
  let c := s.conv q
  match c.urgentStep with
  | none => s
  | some k =>
    let x := s.step k
    let l := entryLane c.word
    match x.running.find? fun r => r.2 == q with
    | some (i, _) =>
      if x.ending.isSome || x.stage != .inFlight then s
      else
        let flags := s.resultFlags q l (s.objN (0x3200 + q) 3) codes c.started c.firstKept c.endAt true false false % 32
        let scale := s.laneScaleAt q l c.firstKept
        let v : StepValue := { index := i, value := stepUnits q l scale (s.meanValue q l (entryGain c.word) scale codes),
                               flags := flags, stamp := some c.firstKept }
        s.setStep k { x with values := x.values ++ [v] }
    | none => s

/-! ## Dispatch (R208, R199) -/

/-- A routine step begins on the lowest-numbered free core (R203, R290). -/
def State.routineStarts (s : State) (k : Nat) (a : Bytes) : State :=
  let i := s.runningImage
  match s.freeCore with
  | none => s
  | some n =>
    s.startCore n .routine s.disp.session (some k) (fieldLe a 4 4) (stepTest i k)
      (codeBase + (sectionAt i 56).1 + fieldLe a 0 4)

/-- A map step begins its map (R185, R199). -/
def State.mapStepStarts (s : State) (k : Nat) (a : Bytes) : State :=
  let sel := fieldLe a 0 1
  let who := s.disp.session
  let abort := (if bitOf sel 2 then s.claimAbort who clsCycle 0 else none).orElse fun _ =>
    s.mapStartAbort who sel (fieldLe a 1 1)
  match abort with
  | some c => s.stepAnswers k [(c : Int)] 0x10
  | none => s.mapStarts who sel (fieldLe a 1 1) (fieldLe a 2 1) (fieldLe a 3 1) (some k)

/-- A sweep step begins, where its ports can be enabled (R77, R221). -/
def State.sweepStepStarts (s : State) (k : Nat) (a : Bytes) : State :=
  let ps := sweepPorts a
  match s.claimsAbort s.disp.session (ps.map fun p => (clsPort, p)) with
  | some c => s.stepAnswers k [(c : Int)] 0x10
  | none => if ps.any s.sweeping then s.stepAnswers k [0x0F010303] 0x10 else s.sweepStarts k a

/-- The records of an object-write step (R201), each through `put`: accessor, index, subindex and bytes. A step that a record has
stopped, by an abort of its plan or by HOLD, applies no more of them (R205). -/
def State.objectRecords (s : State) (put : State → Accessor → Nat → Nat → Bytes → Res) (k : Nat) (sess : SessionNo) :
    Nat → List Bytes → State × Option (Nat × Nat)
  | _, [] => (s, none)
  | j, r :: rs =>
    if (s.step k).stage != .inFlight || (s.step k).done.isSome then (s, none)
    else match put s (.session sess) (fieldLe r 0 2) (fieldLe r 2 1) (sliceBytes r 8 (fieldLe r 3 1)) with
    | .ok s => s.objectRecords put k sess (j + 1) rs
    | .error e => (e.after.getD s, some (e.code, j))

/-- An object-write step runs. -/
def State.objectStepRuns (s : State) (put : State → Accessor → Nat → Nat → Bytes → Res) (k : Nat) (a : Bytes) : State :=
  match s.objectRecords put k (Fin.ofNat 8 s.disp.session) 0 (recordsOf 16 a) with
  | (s, none) => s.actionStops k 0
  | (s, some (code, j)) => s.stepAnswers k [(code : Int), (j : Int)] 0x10

/-- The action of a dispatched step begins (R199). -/
def State.actionStarts (s : State) (put : State → Accessor → Nat → Nat → Bytes → Res) (k : Nat) : State :=
  let i := s.runningImage
  let a := stepAction i k
  match stepKind i k with
  | 1 => s.objectStepRuns put k a
  | 2 => s.measureStarts k a
  | 3 => s.sweepStepStarts k a
  | 4 => s.mapStepStarts k a
  | 5 => s.exchangeStarts k a
  | 6 => s.routineStarts k a
  | _ =>
    let src := fieldLe a 4 2
    s.setStep k { s.step k with waitsFor := if src = 0xFFFF then none else some (src % 512 + 512 * fieldLe a 6 1) }

/-- A ready step is dispatched, or deferred with the cause of the first test it fails (R208). -/
def State.dispatchStep (s : State) (put : State → Accessor → Nat → Nat → Bytes → Res) (k : Nat) : State :=
  let i := s.runningImage
  let x := s.step k
  if !s.dispatching || x.stage != .ready then s
  else if s.stepTestCause k != 0 || !s.firstToGo k then s.judgeReady
  else match s.reserve (stepClaim i k) with
    | none => s.judgeReady
    | some s =>
      let s := s.setStep k { x with stage := .inFlight, dispatchedAt := s.now, deferCause := 0 }
      let s := match s.claimsAbort s.disp.session (endingClaims (stepResources i k)) with
        | some _ => s.actionStops k 4
        | none => s.actionStarts put k
      s.judgeReady

/-! ## What the dispatcher reads (R232) -/

/-- The deferred steps in their order: the first of them. -/
def State.firstDeferred (s : State) : Option (Nat × StepRec) :=
  let i := s.runningImage
  let ds := s.readySteps.filter fun x => x.2.deferCause != 0
  ds.find? fun x => ds.all fun y => y.1 == x.1 || stepBefore i x.1 y.1

/-- The state of the dispatcher. -/
def State.planState (s : State) : Nat :=
  if s.disp.slot.isSome then (if s.dispatching then 1 else 2) else if s.objN 0x3501 9 != 0 then 3 else 0

end Sys2Proof.Machine
end

