-- ==== Sys2Proof/Machine/Timebase.lean ====
section
/-!
DEFINITION. The timebase: loss of the reference and lock (R326 to R330), SYNC outputs (R336) and trigger outputs (R337,
R338).
-/

namespace Sys2Proof.Machine

/-! ## Reference and lock -/

/-- The status of the timebase (R340). -/
def State.timeStatus (s : State) : Nat :=
  let x := s.timebase
  bnat x.locked + 2 * bnat (!x.locked && x.holdover) + 4 * bnat (!x.locked && !x.holdover) + 8 * bnat x.present +
    16 * bnat x.calendarLost

/-- The reference is lost: the loss is counted, logged and signalled, and a locked timebase begins holdover (R327, R528); `edges`
says whether REFIN still shows edges. -/
def State.referenceLoses (s : State) (edges : Bool) : State :=
  let x := { s.timebase with present := edges }
  let s := { s with timebase := if x.locked then { x with locked := false, holdover := true, lostAt := s.now } else x }
  ((s.countUp 0x2300 3).logRec s.now 0x04E1 0x0A [1#8]).cause 0x2300 0 s.now

/-- Holdover has lasted 100 ms: the counter falls back to the internal oscillator (R327). -/
def State.holdoverExpires (s : State) : State :=
  let x := s.timebase
  if !x.locked && x.holdover && decide (x.lostAt + 100 * tkMs ≤ s.now) then
    { s with timebase := { x with holdover := false } }
  else s

/-- What the timebase is after a lock. -/
def Timebase.lock (x : Timebase) (now : Tk) : Timebase :=
  { x with locked := true, holdover := false, present := true, everLocked := true, lockedAt := now }

/-- The first lock after a reset: the counter moves to the next multiple of 40, and the calendar, in microseconds since
2000, gives the time of tk 0 (R326, R330): what was last written or read, as far as the device knows it, or else `reading`. -/
def State.firstLock (s : State) (reading : Nat) : State :=
  let s := { s with now := nextGrid 0 40 s.now }
  if s.timebase.calendarLost then s.setObj 0x2300 5 0
  else
    let c := s.timebase.calendar.getD ((reading - s.now / tkUs : Nat) : Int)
    { s with timebase := { s.timebase with calendar := some c } }.setObj 0x2300 5 c

/-- The timebase locks to REFIN (R326, R328, R330). The command brings what the VBAT calendar reads where nothing has told it since
the model began (DESIGN CHOICE, log entry 141). -/
def State.referenceLocks (s : State) (calendar : Nat) : State :=
  if s.timebase.locked then s
  else
    let s := if s.timebase.everLocked then s else s.firstLock calendar
    let s := ({ s with timebase := s.timebase.lock s.now }).setObj 0x2300 4 s.now
    (s.logRec s.now 0x04E1 0x0A [2#8]).cause 0x2300 1 s.now

/-- Whether lock has held for 10 ms (R328, R517). -/
def State.lockHolds (s : State) : Bool := s.timebase.locked && decide (s.timebase.lockedAt + 10 * tkMs ≤ s.now)

/-! ## SYNC output (R336) -/

/-- The pin of SYNC. -/
def syncPin : PinNo := 12

/-- Whether SYNC edges are scheduled and driven now. -/
def State.syncDrives (s : State) : Bool := s.syncs && s.objN 0x370C 1 == 0x21

/-- An instant put in ascending order. -/
def insertTk (x : Tk) : List Tk → List Tk
  | [] => [x]
  | y :: ys => if x < y then x :: y :: ys else y :: insertTk x ys

/-- An edge is commanded. -/
def State.syncCommands (s : State) (v : Nat) : State :=
  if v = 1 && s.syncDrives then
    { s with timebase := { s.timebase with syncEdges := insertTk (nextGrid 0 40 (s.now + 400)) s.timebase.syncEdges } }
  else s

/-- The output falls at the end of its pulse. -/
def State.syncFalls (s : State) : State :=
  match s.timebase.syncHigh with
  | some e =>
    if s.now < e then s
    else ({ s with timebase := { s.timebase with syncHigh := none, syncLowSince := some e } }).followPin syncPin
  | none => s

/-- The next edge scheduled: its instant, and whether it is a periodic one. -/
def Timebase.nextEdge (x : Timebase) : Option (Tk × Bool) :=
  match x.syncEdges, x.syncNext with
  | e :: _, some p => if p ≤ e then some (p, true) else some (e, false)
  | e :: _, none => some (e, false)
  | [], some p => some (p, true)
  | [], none => none

/-- The schedule without its next edge. -/
def Timebase.takeEdge (x : Timebase) (periodic : Bool) (period : Nat) : Timebase :=
  if periodic then { x with syncNext := x.syncNext.map (· + period) } else { x with syncEdges := x.syncEdges.drop 1 }

/-- Whether an edge at an instant falls in a pulse or less than 40 tk after one. -/
def Timebase.overlaps (x : Timebase) (at' : Tk) : Bool :=
  match x.syncHigh, x.syncLowSince with
  | some e, _ => decide (at' < e + 40)
  | none, some e => decide (at' < e + 40)
  | none, none => false

/-- A scheduled edge comes: it drives the pin and acts on this module's chains with offset 0, or is dropped. -/
def State.syncEdges (s : State) : State :=
  let s := s.syncFalls
  match s.timebase.nextEdge with
  | none => s
  | some (at', periodic) =>
    if s.now < at' then s
    else
      let s := { s with timebase := s.timebase.takeEdge periodic (s.objN 0x2300 8) }
      if !s.syncDrives then s
      else if s.timebase.overlaps at' then s.cause 0x2300 3 at'
      else
        let s := { s with timebase := { s.timebase with syncHigh := some (at' + s.objN 0x2300 9) } }
        let s := (s.setObj 0x2300 0x0A at').followPin syncPin
        let s := s.each (List.range 72) fun s n => if bitOf (s.chainSet n 0x10) 0 then s.syncRequest n at' false else s
        s.cause 0x2300 2 at'

/-- A write to the timebase object, after its checks. -/
def State.timebaseWrite (s : State) (sub : Nat) (v : Int) : Res :=
  let n := v.toNat
  if sub == 5 then
    .ok ({ s with timebase := { s.timebase with calendarLost := false, calendar := some v } }.setObj 0x2300 5 v)
  else if sub == 7 then .ok (s.syncCommands n)
  else if sub == 8 then
    if n != 0 && (n < 4000 || 0xFFFFFFFFFFFF < n || n % 40 != 0) then refuse 0x06090030
    else .ok ({ s with timebase := { s.timebase with syncNext := if n = 0 then none else some ((s.now / n + 1) * n) } }.setObj
      0x2300 8 v)
  else if sub == 0x0B || sub == 0x0C then .ok (s.eventWrite 0x2300 sub n)
  else .ok (s.setObj 0x2300 sub v)

/-! ## Trigger outputs (R337, R338) -/

/-- The pin of a trigger output. -/
def trigPin (o : Fin 4) : PinNo := ⟨13 + o.val, by omega⟩

/-- Whether a trigger output takes requests now. -/
def State.trigTakes (s : State) (o : Fin 4) : Bool := s.timing && s.objN (0x370D + o) 1 == 0x23

/-- A request by command or timer reaches a trigger output. -/
def State.trigRequest (s : State) (o : Fin 4) (stamp : Tk) (command : Bool) : State :=
  if s.trigTakes o then s.signal signalDepth (.request o stamp command s.now) else s

/-- The timer of a trigger output elapses. -/
def State.trigTimer (s : State) (o : Fin 4) : State :=
  let x := s.trigOut o
  match x.nextTimer with
  | some e =>
    if s.now < e || fieldOf (s.objN (0x2310 + o) 1) 12 2 != 3 then s
    else (s.setTrigOut o { x with nextTimer := some (e + s.objN (0x2310 + o) 4) }).trigRequest o e false
  | none => s

/-- A pulse has lasted its width. -/
def State.trigFalls (s : State) (o : Fin 4) : State :=
  let x := s.trigOut o
  match x.highUntil with
  | some e =>
    if s.now < e then s
    else (s.setTrigOut o { x with highUntil := none, lowSince := some e }).followPin (trigPin o)
  | none => s

/-- The first tk at which the oldest waiting request may raise the pin; the pulse before it is over. -/
def State.trigRiseAt (s : State) (o : Fin 4) : Option Tk :=
  let x := s.trigOut o
  match x.waiting, x.highUntil with
  | r :: _, none =>
    some (max (max (r.stamp + max (s.objN (0x2310 + o) 2) 400) r.arrived) (match x.lowSince with | some e => e + 40 | none => 0))
  | _, _ => none

/-- The oldest waiting request raises the pin; in HOLD, where the pin keeps its level, it waits (R97, log entry 76). -/
def State.trigRises (s : State) (o : Fin 4) : State :=
  let s := s.trigFalls o
  if s.mode == .hold then s else
  match s.trigRiseAt o with
  | none => s
  | some at' =>
    if s.now < at' then s
    else
      let x := s.trigOut o
      let s := s.setTrigOut o { x with waiting := x.waiting.drop 1, highUntil := some (at' + s.objN (0x2310 + o) 3) }
      ((s.countUp (0x2310 + o) 8).setObj (0x2310 + o) 9 at').followPin (trigPin o)

/-- A write to a trigger output object, after its checks. -/
def State.trigWrite (s : State) (o : Fin 4) (sub : Nat) (v : Int) : Res :=
  if sub == 5 then .ok (if v = 1 then s.trigRequest o s.now true else s)
  else
    let x := s.trigOut o
    let timer := if sub = 1 then (if fieldOf v.toNat 12 2 = 3 then some s.now else none) else x.nextTimer
    .ok ((s.setObj (0x2310 + o) sub v).setTrigOut o { x with waiting := [], nextTimer := timer })

/-- Entry to HOLD, after the pins have frozen: scheduled edges and waiting requests are cleared, and no pulse outlives it (R336,
R338). -/
def State.timingHolds (s : State) : State :=
  let s := { s with timebase := { s.timebase with syncEdges := [] } }
  s.each (List.range 4) fun s o =>
    let x := s.trigOut o
    s.setTrigOut o { x with waiting := [], highUntil := none, lowSince := if x.highUntil.isSome then some s.now else x.lowSince }

/-- The fixture cycle claim ends (R338). -/
def State.timingClaimEnds (s : State) : State :=
  let s := s.resetObjs 0x2300 fun sub => 7 ≤ sub && sub ≤ 9
  let s := { s with timebase := { s.timebase with syncNext := none } }
  s.each (List.range 4) fun s o =>
    (s.resetClaimObjs (0x2310 + o)).setTrigOut o { s.trigOut o with waiting := [], nextTimer := none }

end Sys2Proof.Machine
end

