-- ==== Sys2Proof/Machine/QueueOps.lean ====
section
/-!
DEFINITION. Queue commands: create, delete, flush, settings and removal (R344 to R346, R364, R374), spills (R357, R358),
the Larder (R360 to R363), streams and their datagrams (R365 to R369, R452).
-/

namespace Sys2Proof.Machine

/-! ## Datagrams of a session (R446, R448) -/

/-- The header of a datagram (R446). -/
def datagramHeader (op session flags seq reqId len : Nat) : Bytes :=
  natLe 1 1 ++ natLe 1 op ++ natLe 1 session ++ natLe 1 flags ++ natLe 8 seq ++ natLe 4 reqId ++ natLe 2 len ++ zeroBytes 6

/-- The tag of a datagram under a session key (R448). -/
def datagramTag (ks head payload : Bytes) : Bytes := (hmacSha256 ks (head ++ payload)).take 16

/-- Whether the link of a session serves (R463, R522): nothing goes out on another. -/
def State.sends (s : State) (n : Nat) : Bool := s.mode.serves && s.linkAnswers (s.session n).link

/-- Where the stream datagrams of a session go: the IP address of its OPEN, and the stream port that it named or, where that is 0,
its source port, which stands behind the address (R453, R474). -/
def Session.streamTo (x : Session) : Bytes × Nat :=
  let n := x.addr.length - 2
  (x.addr.take n, if x.streamPort = 0 then fieldLe x.addr n 2 else x.streamPort)

/-- A datagram of the device on port 18801 (R452, R453), with the session's next sequence number, where its link still serves. -/
def State.sendStream (s : State) (n k kind q : Nat) (payload : Bytes) : State :=
  let x := s.session n
  if !s.sends n then s else
  let tag := datagramTag x.ks (datagramHeader kind n k x.txSeq q payload.length) payload
  (s.setSession n { x with txSeq := x.txSeq + 1 }).send (.stream n k kind x.txSeq q payload tag x.streamTo.1 x.streamTo.2)

/-! ## Streams (R365 to R369) -/

/-- Why a stream closes (R452). -/
def closedBySlot : Nat := 1
/-- The claim on its queue has ended. -/
def closedByClaim : Nat := 2
/-- Its queue has been deleted. -/
def closedByDelete : Nat := 3
/-- Its session closes. -/
def closedBySession : Nat := 4

/-- A stream closes: kind 0x04 is sent once (R453). -/
def State.closeStream (s : State) (n k cause : Nat) : State :=
  match s.stream n k with
  | none => s
  | some st =>
    let front := match s.queue st.queue with | some qu => qu.front | none => 0
    (s.sendStream n k 4 st.queue (natLe 1 cause ++ zeroBytes 3 ++ natLe 4 front)).setStream n k none

/-- Every stream on a queue closes. -/
def State.closeStreamsOn (s : State) (q cause : Nat) : State :=
  (s.streamsOn q).foldl (fun s x => s.closeStream x.1 x.2 cause) s

/-- Every stream of a session closes (R369). -/
def State.closeStreamsOf (s : State) (n cause : Nat) : State :=
  s.each (List.range 8) fun s k => s.closeStream n k cause

/-- The claim on a queue ends (R369). -/
def State.queueClaimEnds (s : State) (q : Nat) : State := s.closeStreamsOn q closedByClaim

/-- A write of a stream slot by a session (R365). -/
def State.streamSlot (s : State) (who k v : Nat) : Res :=
  if v = 0xFFFFFFFF then .ok (s.closeStream who k closedBySlot)
  else if 0xFFFFF < v then refuse 0x06090031
  else do
    refuseWith (s.claimAbort who clsQueue v)
    refuseIf (who == 0) 0x0F010808
    match s.queue v with
    | none => refuse 0x06090030
    | some qu =>
      refuseIf qu.damaged 0x0F01080A
      refuseIf (!(s.streamsOn v).isEmpty) 0x0F010806
      refuseIf (s.pantry.larderReady && !s.pinned v && decide (16000 ≤ s.pinnedCount)) 0x0F010809
      let s := s.closeStream who k closedBySlot
      return s.setStream who k (some { queue := v, sent := qu.front, progressAt := s.now, opened := s.now })

/-- The stream of a slot with its queue; a damaged queue refuses (R363). -/
def State.liveStream (s : State) (n k : Nat) : Except Nat (Option (Stream × Queue)) :=
  match s.stream n k with
  | none => .ok none
  | some st => match s.queue st.queue with
    | none => .ok none
    | some qu => if qu.damaged then .error 0x0F01080A else .ok (some (st, qu))

/-- A credit grant (R366). -/
def State.streamGrant (s : State) (n k v : Nat) : Except Nat State :=
  match s.liveStream n k with
  | .error c => .error c
  | .ok none => .ok s
  | .ok (some (st, _)) =>
    if 1048576 < seqDist st.consumed st.granted + v then .error 0x06090031
    else .ok (s.setStream n k (some { st with granted := addWrap 32 st.granted v }))

/-- An acknowledgement reads every entry below it (R366). -/
def State.streamAck (s : State) (n k v : Nat) : Except Nat State :=
  match s.liveStream n k with
  | .error c => .error c
  | .ok none => .error 0x06090030
  | .ok (some (st, qu)) =>
    let d := seqDist qu.front v
    if d = 0 || seqDist qu.front (st.frontier qu) < d then .error 0x06090030
    else
      let s := s.readEntries st.queue (qu.before v).length
      let resend := match st.resend with
        | some r => if v = st.frontier qu then none else if seqDist qu.front r < d then some v else some r
        | none => none
      .ok (s.setStream n k (some { st with sent := st.frontier qu, progressAt := s.now, resend := resend }))

/-- A resend from the front, asked for or timed out (R366). -/
def State.streamResend (s : State) (n k v : Nat) : Except Nat State :=
  match s.liveStream n k with
  | .error c => .error c
  | .ok none => .ok s
  | .ok (some (st, qu)) =>
    if v = 0 || st.frontier qu = qu.front then .ok s
    else .ok (s.setStream n k (some { st with sent := st.frontier qu, resend := some qu.front, progressAt := s.now }))

/-- A refusal code of a stream operation as the refusal of a write. -/
def streamRes : Except Nat State → Res
  | .ok s => .ok s
  | .error c => refuse c

/-- The resend time passes without progress while entries are in flight (R366). -/
def State.resendTimesOut (s : State) (n k : Nat) : State :=
  match s.stream n k with
  | none => s
  | some st =>
    if !s.mode.serves || s.now < st.progressAt + s.own n 0x2803 0x2A * tkMs then s
    else match s.streamResend n k 1 with
      | .ok s => s
      | .error _ => s

/-- The entries that the next datagram of a stream holds, and whether they are sent again: entries asked for again come
first, then entries not yet sent as far as the credits reach (R366). -/
def State.nextDatagram (s : State) (n : Nat) (st : Stream) (qu : Queue) : List Entry × Bool :=
  let per := s.own n 0x2803 0x29
  let front := qu.front
  let sent := st.frontier qu
  match st.resend with
  | some r => (((qu.before sent).filter fun e => decide (seqDist front r ≤ seqDist front e.seq)).take per, true)
  | none => ((qu.entries.drop (qu.before sent).length).take (min per (seqDist st.consumed st.granted)), false)

/-- Whether a datagram of entries not sent before goes out now: it is full, or 50 microseconds have passed (R367). -/
def State.datagramDue (s : State) (n : Nat) (st : Stream) (es : List Entry) : Bool :=
  match es with
  | [] => false
  | e :: _ => decide (s.own n 0x2803 0x29 ≤ es.length) || decide (max e.writtenAt st.opened + 50 * tkUs ≤ s.now)

/-- A datagram of a stream goes out (R366, R367). -/
def State.streamSends (s : State) (n k : Nat) : State :=
  if !s.sends n then s else
  match s.liveStream n k with
  | .ok (some (st, qu)) =>
    let (es, again) := s.nextDatagram n st qu
    let last := match es.getLast? with | some e => addWrap 32 e.seq 1 | none => 0
    let payload := es.flatMap Entry.bytes
    if es.isEmpty then s
    else if again then
      (s.sendStream n k 1 st.queue payload).setStream n k
        (some { st with resend := if last = st.frontier qu then none else some last, progressAt := s.now })
    else if s.datagramDue n st es then
      (s.sendStream n k 1 st.queue payload).setStream n k
        (some { st with sent := last, consumed := addWrap 32 st.consumed es.length, progressAt := s.now })
    else s
  | _ => s

/-- The parts of a credit return, in order; the first that is refused is reported, and those before it stand (R452). -/
def State.creditReturns (s : State) (n k : Nat) (seq q : Nat) (payload : Bytes) : State :=
  let flags := fieldLe payload 8 1
  let ack : Except Nat State := if bitOf flags 0 then s.streamAck n k (fieldLe payload 4 4) else .ok s
  match ack with
  | .error c => s.sendStream n k 3 q (natLe 4 c ++ natLe 8 seq)
  | .ok s => match s.streamGrant n k (fieldLe payload 0 4) with
    | .error c => s.sendStream n k 3 q (natLe 4 c ++ natLe 8 seq)
    | .ok s => match s.streamResend n k (bnat (bitOf flags 1)) with
      | .error c => s.sendStream n k 3 q (natLe 4 c ++ natLe 8 seq)
      | .ok s => s

/-! ## The window object (R343 to R346, R364, R374) -/

/-- A queue ceases to exist: its streams close, its claim ends as a release, and its spilling blocks stay until their
Larder writes end (R346, R358, R369). -/
def State.deleteQueue (s : State) (q : Nat) : State :=
  let s := s.closeStreamsOn q closedByDelete
  let s := s.discardAll q
  let held := (s.holder clsQueue q).isSome
  let s := (s.setQueue q none).setHolder clsQueue q none
  if held then s.cause 0x2100 3 s.now else s

/-- Entry to SAFE or LOAD: every queue is deleted with its entries (R369). -/
def State.deleteQueues (s : State) : State := s.each (s.queues.map (·.1)) State.deleteQueue

/-- Entry to IDLE from SAFE or LOAD: the session event queues are created (R342). -/
def State.createEventQueues (s : State) : State :=
  s.each (List.range 8) fun s n => s.setQueue (eventQueue n)
    (some { capacity := 4096, share := 32, policy := 0, larderBacked := s.pantry.larderReady })

/-- The fields of a create (R374). -/
def createCapacity (v : Nat) : Nat := fieldOf v 0 32
/-- The share of a create. -/
def createShare (v : Nat) : Nat := fieldOf v 32 14
/-- The policy of a create. -/
def createPolicy (v : Nat) : Nat := fieldOf v 46 2

/-- Whether the fields of a create lie in their ranges (R374). -/
def createOk (v : Nat) : Bool :=
  decide (128 ≤ createCapacity v) && decide (createCapacity v ≤ 268435456) && createCapacity v % 128 == 0 &&
    decide (1 ≤ createShare v) && decide (createShare v ≤ 4096) && decide (createPolicy v < 2)

/-- The first of the conditions of R344 that refuses a create. -/
def State.createAbort (s : State) (q v : Nat) : Option Nat :=
  if !createOk v || (0xFFF0 ≤ q && q ≤ 0xFFF7) then some 0x06090030
  else if 0xFFFF < q && !s.pantry.larderReady then some 0x0F010805
  else if (s.queue q).isSome then some 0x0F010803
  else if s.pantry.larderReady && 0 < s.refs q && decide (16000 ≤ s.pinnedCount) then some 0x0F010809
  else if s.pantry.larderReady then
    (if s.pantry.space < s.larderReserved + segmentsFor (createCapacity v) * 65536 then some 0x0F010807 else none)
  else if 128 * createShare v < createCapacity v then some 0x0F010807
  else none

/-- The queue that a create makes. -/
def newQueue (v : Nat) (larder : Bool) : Queue :=
  { capacity := createCapacity v, share := createShare v, policy := createPolicy v, larderBacked := larder }

/-- A queue is created for a session (R344). -/
def State.createQueue (s : State) (who q v : Nat) : Res := do
  refuseWith (s.createAbort q v)
  return (s.setQueue q (some (newQueue v s.pantry.larderReady))).setHolder clsQueue q (some who)

/-- A settings write (R374). -/
def State.queueSettings (s : State) (q v : Nat) : Res :=
  match s.queue q with
  | none => refuse 0x06090030
  | some qu => do
    let share := fieldOf v 0 14
    refuseIf qu.damaged 0x0F01080A
    refuseIf (share == 0 || 4096 < share || 1 < fieldOf v 14 2) 0x06090030
    refuseIf (!qu.larderBacked && decide (share < qu.share) && decide (128 * share < qu.capacity)) 0x0F010807
    return s.setQueue q (some { qu with share := share, policy := fieldOf v 14 2 })

/-- The delete and flush commands (R346). -/
def State.queueCommand (s : State) (q v : Nat) : Res :=
  match s.queue q with
  | none => refuse 0x06090030
  | some qu =>
    if v = 1 then do
      refuseIf (isEventQueue q || (!qu.damaged && decide (0 < s.refs q))) 0x0F010804
      return s.deleteQueue q
    else if v = 2 then do
      refuseIf qu.damaged 0x0F01080A
      refuseIf (!(s.streamsOn q).isEmpty) 0x0F010806
      refuseIf (isEventQueue q) 0x0F010804
      return s.discardAll q
    else refuse 0x06090030

/-- A removal (R364). -/
def State.queueRemoval (s : State) (q v : Nat) : Res :=
  match s.queue q with
  | none => refuse 0x06090030
  | some qu => do
    let count := fieldOf v 32 16
    refuseIf qu.damaged 0x0F01080A
    refuseIf (!(s.streamsOn q).isEmpty) 0x0F010806
    refuseIf (count == 0) 0x06090030
    refuseIf (fieldOf v 0 32 != qu.front) 0x0F01080B
    refuseIf (decide (qu.entries.length < count)) 0x06090031
    return s.readEntries q count

/-- A write to the window object, after its checks. -/
def State.windowWrite (s : State) (a : Accessor) (idx sub v : Nat) : Res :=
  let q := s.windowQueue a idx
  if sub == 2 then s.createQueue (s.sessionOf a) q v
  else if sub == 3 then s.queueSettings q v
  else if sub == 4 then s.queueCommand q v
  else s.queueRemoval q v

/-! ## Persistent settings -/

/-- A setting that its chapter stores at each write, as one Cellar transaction (R444). -/
def State.persistWrite (s : State) (idx sub : Nat) (v : Int) : Res := do
  let s ← s.hostTxn .setting [.value (objKey idx sub) (some v)]
  return s.setObj idx sub v

/-! ## Spills (R357, R358) -/

/-- The queue that a spill takes a block of (R357). -/
def State.spillChoice (s : State) : Option Nat :=
  let best := fun (f : Queue → Nat) => s.queues.foldl (fun (b : Option (Nat × Nat)) x => match x.2 with
    | some qu => if qu.larderBacked && 0 < f qu && (match b with | some y => y.2 < f qu | none => true) then some (x.1, f qu) else b
    | none => b) none
  match best fun qu => qu.owned - qu.share with
  | some y => some y.1
  | none => if s.freeBlocks < s.objN 0x2800 0x0D then (best fun qu => qu.owned - 2).map (·.1) else none

/-- The oldest block of a queue that is neither spilling nor the newest begins to spill. -/
def spillBlock : List Block → List Block
  | [] => []
  | [b] => [b]
  | b :: c :: bs => if b.spilling then b :: spillBlock (c :: bs) else { b with spilling := true } :: c :: bs

/-- A spill starts. -/
def State.spillStarts (s : State) : State :=
  if 64 ≤ s.pantry.spills.length then s
  else match s.spillChoice with
    | none => s
    | some q => match s.queue q with
      | none => s
      | some qu =>
        let blocks := spillBlock qu.blocks
        if blocks = qu.blocks then s
        else
          let s := s.setQueue q (some { qu with blocks := blocks })
          { s with pantry := { s.pantry with spills := s.pantry.spills ++ [some q] } }.countUp 0x2800 7

/-- The oldest spilling block of a queue is acknowledged: its entries join the Larder part, or the spill was cancelled
because none was left (R357, R358). -/
def Queue.spilled (qu : Queue) : Queue × Bool :=
  match qu.blocks.find? fun b => b.spilling with
  | none => (qu, false)
  | some b =>
    let rest := qu.blocks.eraseP fun b => b.spilling
    if b.held = 0 then ({ qu with blocks := rest }, true)
    else ({ qu with blocks := rest, larder := qu.larder + b.held, larderTail := qu.larderTail + b.filled }, false)

/-- The oldest running spill is acknowledged. -/
def State.spillAcknowledged (s : State) : State :=
  match s.pantry.spills with
  | [] => s
  | x :: xs =>
    let s := { s with pantry := { s.pantry with spills := xs } }
    match x with
    | none => { s with pantry := { s.pantry with orphans := s.pantry.orphans - 1 } }
    | some q => match s.queue q with
      | none => s
      | some qu =>
        let s := s.setQueue q (some qu.spilled.1)
        if qu.spilled.2 then s.countUp 0x2800 8 else s

/-! ## The Larder (R360 to R363) -/

/-- The Larder changes its state (R361). -/
def State.larderState (s : State) (code : Nat) : State :=
  let old := s.objN 0x2800 6
  if old = code then s
  else ((s.setObj 0x2800 6 code).logRec s.now 0x04E6 0x0C [BitVec.ofNat 8 code]).cause 0x2800 3 s.now

/-- Training and test end (R360); in SAVE the queue system has stopped (R369). -/
def State.larderTrained (s : State) (ok : Bool) : State :=
  if s.mode == .save || s.objN 0x2800 6 != 1 || s.pantry.copying then s
  else if ok then { s with pantry := { s.pantry with copying := true } }
  else s.larderState 3

/-- The descriptor copy is complete: the Larder is ready, 384 blocks are freed and every queue is Larder-backed (R351). -/
def State.larderCopied (s : State) : State :=
  if s.mode == .save || !s.pantry.copying then s
  else
    let queues := s.queues.map fun x => (x.1, x.2.map fun qu => { qu with larderBacked := true })
    let s := { s with queues := queues,
                      pantry := { s.pantry with copying := false, larderReady := true, storeBlocks := 128 } }
    s.larderState 2

/-- A memory error in the Larder (R363). -/
def State.larderError (s : State) (h : LarderHit) : State :=
  if s.mode == .save || !s.pantry.larderReady then s
  else match h with
    | .corrected => s.countUp 0x2800 0x0C
    | .entry q seq =>
      match s.queue q with
      | none => s
      | some qu =>
        if (qu.entries.take qu.larder).any fun e => e.seq == seq then
          let s := s.setQueue q (some { qu with entries := qu.entries.eraseP fun e => e.seq == seq, larder := qu.larder - 1,
                                                discarded := addWrap 32 qu.discarded 1 })
          let s := if isEventQueue q then s.settleSources else s
          (s.countUp 0x2804 1).cause 0x2800 4 s.now
        else s
    | .descriptor q =>
      let s := match s.queue q with
        | none => s
        | some qu => s.setQueue q (some { qu with damaged := true })
      (s.countUp 0x2804 1).cause 0x2800 4 s.now

/-- A write to the Larder population object (R371). -/
def State.larderWrite (s : State) (sub : Nat) (v : Int) : Res := do
  let n := v.toNat
  refuseIf (sub == 2 && !([4800, 5200, 5600, 6000, 6400].contains n)) 0x06090030
  refuseIf (sub == 3 && !([4, 8, 16, 32].contains n)) 0x06090030
  refuseIf (sub == 5 && !([8, 16].contains n)) 0x06090030
  s.persistWrite 0x2805 sub v

/-- The Larder queue space that the stored population gives, in bytes (R362). -/
def State.larderSpace (s : State) : Nat := 2 * s.objN 0x2805 3 * 2 ^ 30 - 64 * 2 ^ 20

end Sys2Proof.Machine
end

