-- ==== Sys2Proof/Machine/Zones.lean ====
section
/-!
DEFINITION. Zones of the fabric: states and commands (R387, R388), drain and clamp (R389 to R392), start and lane release
(R394, R395), the links of a running zone (R396 to R402), modes and claims (R403, R404).
-/

namespace Sys2Proof.Machine

/-- The codes of the zone states (R387). -/
def ZoneStage.code : ZoneStage → Nat
  | .empty => 0 | .draining => 1 | .loading => 2 | .ready => 3 | .running => 4 | .failed => 5

/-- The object of a zone. -/
def zoneObj (z : Nat) : Nat := 0x2720 + z

/-- Bytes of a zone's block memory (R381). -/
def blockBytes : Nat := 1572864

/-- A zone whose cells are held in reset: each takes the reset value that the image gives it (R375). A broken input lasts until
the channel's next completed handshake (R391). -/
def Zone.cleared (z : Zone) (st : ZoneStage) : Zone :=
  if st = .running ∨ st = .draining then { z with stage := st }
  else { z with stage := st, rails := [], stages := [], elements := [], driven := [], blocked := [] }

/-- A zone changes its state: the change is stamped and signalled (R387). -/
def State.zoneStage (s : State) (z : Nat) (st : ZoneStage) : State :=
  ((s.setZone z ((s.zone z).cleared st)).setObj (zoneObj z) 0x1B s.now).cause (zoneObj z) 0 s.now

/-- A load fails with a code of R393. -/
def State.zoneFailure (s : State) (z code : Nat) : State :=
  (s.setObj (zoneObj z) 0x13 code).cause (zoneObj z) 5 s.now

/-- The block memory of a zone is zeroed, if that is still due (R388). -/
def State.zeroBlocks (s : State) (z : Nat) : State :=
  if (s.zone z).zeroing.isSome then
    (s.eccClear (zoneBase z) blockBytes).setZone z { s.zone z with zeroing := none }
  else s

/-- A zone without an image. -/
def Zone.bare (z : Zone) : Zone :=
  { z with imageId := 0, margin := 0, cells := 0, blocks := 0, decl := default, hasImage := false, repairDue := false }

/-- A zone goes to Empty: its image goes, and its block memory is to be zeroed (R387, R388). -/
def State.zoneEmpties (s : State) (z : Nat) : State :=
  let zn := (s.zone z).bare
  (s.setZone z { zn with next := .empty, zeroing := some (s.now + 200 * tkUs), clampedAt := none }).zoneStage z .empty

/-- A zone fails its load: Failed, with a code, its block memory to be zeroed (R387, R393, R419). -/
def State.zoneFails (s : State) (z code : Nat) : State :=
  let zn := (s.zone z).bare
  let s := s.setZone z { zn with next := .empty, zeroing := some (s.now + 200 * tkUs), clampedAt := none }
  (s.zoneStage z .failed).zoneFailure z code

/-- A zone goes to Loading (R388). -/
def State.zoneLoads (s : State) (z : Nat) : State :=
  let zn := (s.zone z).bare
  (s.setZone z { zn with next := .empty, zeroing := some (s.now + 200 * tkUs), clampedAt := none }).zoneStage z .loading

/-- A running zone begins to drain toward a state (R389). -/
def State.zoneDrains (s : State) (z : Nat) (goal : ZoneStage) : State :=
  let timeout := s.objN (zoneObj z) 4 * tkUs
  (s.setZone z { s.zone z with next := goal, drainAt := s.now + timeout, clampedAt := none }).zoneStage z .draining

/-! ## Borders (R384 to R386, R390 to R392, R395) -/

/-- The neighbour of a zone on a side: 0 north, 1 east, 2 south, 3 west (R384). -/
def neighbour (z side : Nat) : Option Nat :=
  match side with
  | 0 => if 4 ≤ z then some (z - 4) else none
  | 1 => if z % 4 < 3 then some (z + 1) else none
  | 2 => if z < 12 then some (z + 4) else none
  | _ => if 0 < z % 4 then some (z - 1) else none

/-- The sides of a zone with their neighbours. -/
def neighbours (z : Nat) : List (Nat × Nat) := (List.range 4).filterMap fun d => (neighbour z d).map fun y => (d, y)

/-- The side that faces another. -/
def facing (side : Nat) : Nat := (side + 2) % 4

/-- Whether a lane leaves the zone. -/
def outgoing : LaneRole → Bool
  | .outData | .outRequest | .outAcknowledge => true
  | _ => false

/-- The outgoing lane of the neighbour that an incoming lane is (R385). -/
def sourceLane (l : LaneRef) : LaneRef :=
  { l with side := Fin.ofNat 4 (facing l.side.val)
           role := match l.role with
             | .inData => .outData | .inRequest => .outRequest | .inAcknowledge => .outAcknowledge | r => r }

/-- The incoming lane of the neighbour that an outgoing lane is (R385). -/
def sinkLane (l : LaneRef) : LaneRef :=
  { l with side := Fin.ofNat 4 (facing l.side.val)
           role := match l.role with
             | .outData => .inData | .outRequest => .inRequest | .outAcknowledge => .inAcknowledge | r => r }

/-- The level of an outgoing lane at the border: what the zone drives once the lane is released, but for a request that a
drain blocks, else its clamp default; a request or acknowledge clamps to 0 (R386, R389). -/
def Zone.laneLevel (z : Zone) (l : LaneRef) : Bool :=
  if z.released.contains l then z.driven.contains l && !z.blocked.contains l
  else decide (l.role = .outData) && match z.defaults.find? fun x => x.1 == l with
    | some (_, some b) => b
    | some (_, none) => z.held.contains l
    | none => false

/-- The level that a zone receives on an incoming lane: 0 while the lane is clamped toward it (R390), else what the neighbour
drives or its clamp default (R386); a lane of which nothing drives or clamps a level reads 0 (R385). -/
def State.receivedLevel (s : State) (z : Nat) (l : LaneRef) : Bool :=
  match neighbour z l.side with
  | some y => (s.zone z).released.contains l && (s.zone y).laneLevel (sourceLane l)
  | none => false

/-- The level that crosses the border on a lane of a zone. -/
def State.borderLevel (s : State) (z : Nat) (l : LaneRef) : Bool :=
  if outgoing l.role then
    match neighbour z l.side with
    | some y => s.receivedLevel y (sinkLane l)
    | none => false
  else s.receivedLevel z l

/-- Whether a channel is open: its request or its acknowledge is 1 (R385). -/
def State.channelOpen (s : State) (z : Nat) (c : ChannelDecl) : Bool :=
  s.borderLevel z c.requestLane || s.borderLevel z c.acknowledgeLane

/-- The channels of a zone, by their place in its image. -/
def State.openChannels (s : State) (z : Nat) : List Nat :=
  ((s.zone z).decl.channels.zipIdx.filter fun x => s.channelOpen z x.1).map (·.2)

/-- Whether a broken input of a channel reads 1 (R391). -/
def State.brokenInput (s : State) (z : Nat) (c : ChannelDecl) : Bool :=
  c.receives && c.broken && (s.zone z).brokenInputs.contains c.requestLane

/-- The zone that counts a channel broken at the clamp of a zone: a neighbour of lower number that drains too and reaches its own
clamp instant now, else the zone (R392). -/
def State.countsBreak (s : State) (z y : Nat) : Nat :=
  let zn := s.zone y
  if y < z && zn.stage == .draining && zn.clampedAt.isNone && decide (zn.drainAt ≤ s.now) then y else z

/-- An open channel of a zone is broken: it is counted, signalled in the zone that receives on it, and the receiver's broken
input reads 1 (R391, R392). -/
def State.breakChannel (s : State) (z : Nat) (c : ChannelDecl) : State :=
  match neighbour z c.side with
  | none => s
  | some y =>
    let s := s.countUp (zoneObj (s.countsBreak z y)) 0x14
    let receiver := if c.receives then z else y
    let lane := if c.receives then c.requestLane else sinkLane c.requestLane
    let zn := s.zone receiver
    (s.setZone receiver { zn with brokenInputs := lane :: zn.brokenInputs.filter (· != lane) }).cause (zoneObj receiver) 1 s.now

/-- The channels of a zone that are open are broken (R391). -/
def State.breakChannels (s : State) (z : Nat) : State :=
  ((s.zone z).decl.channels.filter fun c => s.channelOpen z c).foldl (fun s c => s.breakChannel z c) s

/-- A zone whose lanes are clamped: each outgoing lane at its default, a data lane with the default hold at the level it had, and
each incoming lane at 0 (R386, R390). -/
def Zone.clamped (z : Zone) : Zone :=
  { z with held := z.decl.lanes.filter fun l => decide (l.role = .outData) && z.laneLevel l, released := [] }

/-- A zone is clamped (R390). A neighbour sees its clamp defaults; what a neighbour drives toward it stays with the neighbour: a
request it holds pending reaches the zone after its next start (R395). -/
def State.clampLanes (s : State) (z : Nat) : State := s.setZone z (s.zone z).clamped

/-- The links of a zone are cut: user event lines fall, pins go high-impedance, taps and schedules empty (R390). -/
def State.cutLinks (s : State) (z : Nat) : State :=
  let zn := s.zone z
  let s := s.setZone z { zn with taps := [], lines := [false, false, false, false] }
  let s := (List.range 4).foldl (fun s k => if zn.lines.getD k false then s.edge (344 + 4 * z + k) s.now false else s) s
  let s := (zn.decl.portMask.filter fun p => !zn.maskLost.contains p.val).foldl (fun s p =>
    s.setPort p { s.port p with fabricD := false, fabricOE := false, schedule := [], lastScheduled := none }) s
  zn.decl.pins.foldl (fun s (n : PinNo) => (s.setPin n { s.pin n with fabricD := false, fabricOE := false }).followPin n) s

/-- Whether a list names the channels of a zone that are open, in any order. -/
def State.namesOpen (s : State) (z : Nat) (opened : List Nat) : Bool :=
  opened.all (s.openChannels z).contains && (s.openChannels z).all opened.contains

/-- The clamp instant of a draining zone comes (R389 to R391): no channel is open, or the drain timeout has elapsed; `opened` names
the channels open. SAVE has stopped the fabric (R403). -/
def State.zoneClamps (s : State) (z : Nat) (opened : List Nat) : State :=
  let zn := s.zone z
  if zn.stage != .draining || zn.clampedAt.isSome || s.mode == .save || !s.namesOpen z opened ||
    (!opened.isEmpty && decide (s.now < zn.drainAt)) then s
  else
    let s := s.breakChannels z
    let s := s.setZone z { s.zone z with clampedAt := some s.now }
    let s := (s.clampLanes z).cutLinks z
    s.settleOwners .disable

/-- The lanes that a start releases at once: the outgoing data lanes of the zone (R395). -/
def State.releaseData (s : State) (z : Nat) : State :=
  s.setZone z { s.zone z with released := (s.zone z).decl.lanes.filter fun l => decide (l.role = .outData) }

/-- Whether the condition of R395 for the release of a lane holds. -/
def State.laneFree (s : State) (z : Nat) (l : LaneRef) : Bool :=
  (s.zone z).stage == .running && (s.zone z).decl.lanes.contains l &&
    match l.role with
    | .outData => true
    | .outRequest | .outAcknowledge => !(s.zone z).driven.contains l
    | role => match neighbour z l.side with
      | some y => (s.zone y).stage == .running && (role != .inAcknowledge || !(s.zone y).driven.contains (sourceLane l))
      | none => false

/-- A lane is released; a request held pending at the neighbour reaches the zone with its lane (R395). -/
def State.laneReleases (s : State) (z : Nat) (l : LaneRef) : State :=
  if s.mode != .save && s.laneFree z l && !(s.zone z).released.contains l then
    let s := s.setZone z { s.zone z with released := (s.zone z).released ++ [l] }
    match l.role, neighbour z l.side with
    | .inRequest, some y => s.setZone y { s.zone y with blocked := (s.zone y).blocked.filter (· != sourceLane l) }
    | _, _ => s
  else s

/-! ## Start, stop, erase (R388, R394) -/

/-- The modes in which zones start and load (R394, R416). -/
def Mode.fabric : Mode → Bool
  | .idle | .run | .throttle | .quiesce | .calibrate => true
  | _ => false

/-- The refusal of a command in a state of the zone (R388). -/
def ZoneStage.busyAbort : ZoneStage → Nat
  | .draining | .loading => 0x0F010C02
  | _ => 0x0F010C01

/-- Whether another running zone has a port in its live mask, or declares a service pin. -/
def State.fabricConflict (s : State) (z : Nat) (p : Zone → Bool) : Bool :=
  (List.range 16).any fun y => y != z && (s.zone y).live && p (s.zone y)

/-- The first condition of R394 that refuses a start by a session. -/
def State.zoneStartAbort (s : State) (who z : Nat) : Option Nat :=
  let zn := s.zone z
  let ports := zn.decl.portMask.map fun p => p.val
  let pins := zn.decl.pins.map fun p => p.val
  if zn.stage != .ready then some zn.stage.busyAbort
  else if !s.mode.fabric then some 0x0F010002
  else match s.claimsAbort who ((clsZone, z) :: ports.map fun p => (clsPort, p)) with
    | some c => some c
    | none =>
      if s.fabricConflict z fun y => ports.any fun p => y.decl.portMask.any (fun x => x.val == p) && !y.maskLost.contains p then
        some 0x0F010303
      else if pins.any (fun n => s.objN (0x3700 + n) 1 != 4) ||
        s.fabricConflict z (fun y => pins.any fun n => y.decl.pins.any fun x => x.val == n) then some 0x0F010C03
      else none

/-- A zone starts (R386, R395). -/
def State.zoneRuns (s : State) (z : Nat) : State :=
  let zn := s.zone z
  let s := s.setZone z { zn with maskLost := [], held := [], defaults := zn.decl.clampDefaults.filter fun x => zn.decl.lanes.contains x.1 }
  let s := (s.zoneStage z .running).releaseData z
  s.settleOwners .enable

/-- Command 0x01 by a session (R388, R394). -/
def State.zoneStart (s : State) (who z : Nat) : Res := do
  refuseWith (s.zoneStartAbort who z)
  return s.zoneRuns z

/-- Command 0x02 (R388). -/
def State.zoneStop (s : State) (z : Nat) : Res := do
  refuseIf ((s.zone z).stage != .running) (s.zone z).stage.busyAbort
  return s.zoneDrains z .ready

/-- The load of a zone stops for it: its later records are discarded (R417), and a stream that waited for its drain goes on
receiving (R437). -/
def State.dropLoad (s : State) (z : Nat) : State :=
  let l := s.loader
  if l.waitDrain == some z then ({ s with loader := { l with dropped := z :: l.dropped, waitDrain := none } }).setObj 0x2700 4 1
  else if l.parse.begun.contains z then { s with loader := { l with dropped := z :: l.dropped } }
  else s

/-- A zone is erased (R388), or loses its claim (R404); `code` is the failure code of a load in progress. -/
def State.zoneErased (s : State) (z code : Nat) : State :=
  match (s.zone z).stage with
  | .empty => s
  | .draining => (s.setZone z { s.zone z with next := .empty }).dropLoad z
  | .loading => ((s.zoneEmpties z).zoneFailure z code).dropLoad z
  | .ready => s.zoneEmpties z
  | .failed => s.zoneEmpties z
  | .running => s.zoneDrains z .empty

/-- Command 0x03 (R388). -/
def State.zoneErase (s : State) (z : Nat) : Res := do
  refuseIf ((s.zone z).stage == .empty) 0x0F010C01
  return s.zoneErased z 5

/-- A write to the zone object, after its checks. -/
def State.zoneWrite (s : State) (who z sub : Nat) (v : Int) : Res :=
  let n := v.toNat
  if sub == 2 then
    if n = 1 then s.zoneStart who z
    else if n = 2 then s.zoneStop z
    else if n = 3 then s.zoneErase z
    else refuse 0x06090030
  else if sub == 0x19 || sub == 0x1A then .ok (s.eventWrite (zoneObj z) sub n)
  else .ok (s.setObj (zoneObj z) sub v)

/-- A host write of the block-memory DOMAIN (R383). -/
def State.blockStore (s : State) (z : Nat) (b : Bytes) : Res := do
  let zn := s.zone z
  refuseIf (zn.stage != .ready && zn.stage != .running) 0x0F010C01
  return (s.zeroBlocks z).eccWrite (zoneBase z) b

/-- A host read of the block memory: empty in the states that refuse it (R383). -/
def State.blockReadable (s : State) (z : Nat) : Bool := (s.zone z).stage == .ready || (s.zone z).stage == .running

/-! ## Links of a running zone (R396 to R402) -/

/-- The fabric's input OWN for a port (R396). -/
def State.fabricOwns (s : State) (z p : Nat) : Bool := s.worksAs p .fabric && (s.port p).owner.unit == z

/-- The fabric's input R for a port: the receiver output, 0 while OWN is 0 (R396). -/
def State.fabricR (s : State) (z p : Nat) : Bool := s.fabricOwns z p && s.receiverOut p

/-- The fabric's input W for a port: window outside, 0 while OWN is 0 (R396). -/
def State.fabricW (s : State) (z p : Nat) : Bool := s.fabricOwns z p && ((s.port p).windowAbove || (s.port p).windowBelow)

/-- The fabric changes its outputs toward a ball (R396, R398). DEDUCED (log entry 161): OE makes the cell drive as in the function
Drive, and is no change of function whose settling R49 marks. -/
def State.fabricOutput (s : State) (z : Nat) (x : FabricPad) (d oe : Bool) : State :=
  if !s.zoneLive z then s
  else match x with
    | .port p =>
      if (s.zone z).decl.portMask.contains p && !(s.zone z).maskLost.contains p then
        s.setPort p ((s.port p).fabricSets d oe)
      else s
    | .pin n =>
      if (s.zone z).decl.pins.contains n then
        (s.setPin n { s.pin n with fabricD := d, fabricOE := oe }).followPin n
      else s

/-- The fabric pushes an entry into the schedule of a port (R397), which accepts or refuses it. A full schedule takes none: the
fabric's handshake waits, without an answer, and its entry comes with a later command (DEDUCED, log entry 140). -/
def State.scheduleArrives (s : State) (p : Nat) (due : Tk) (d oe : Bool) : State :=
  match s.fabricOn p with
  | none => s
  | some z =>
    let c := s.port p
    let refused := match c.lastScheduled with
      | some x => decide (due ≤ x)
      | none => false
    if !s.zoneLive z || c.schedule.length ≥ 8 then s
    else if refused then s.send (.schedule p false)
    else if due < s.now + 400 then
      let s := s.setPort p { c.fabricSets d oe with lastScheduled := some due }
      (s.send (.schedule p true)).countUp (zoneObj z) 0x18 |>.cause (zoneObj z) 6 s.now
    else (s.setPort p { c with schedule := c.schedule ++ [(due, d, oe)], lastScheduled := some due }).send (.schedule p true)

/-- The timebase applies the oldest entry of a schedule (R397). -/
def State.scheduleApplies (s : State) (p : Nat) : State :=
  let c := s.port p
  match c.schedule with
  | (due, d, oe) :: rest =>
    if s.now < due || !((s.fabricOn p).map s.zoneLive).getD false then s
    else s.setPort p { c.fabricSets d oe with schedule := rest }
  | [] => s

/-- The fabric takes the oldest output of a tap (R399). -/
def State.tapTakes (s : State) (z k : Nat) : State :=
  if !s.zoneLive z then s
  else
    let zn := s.zone z
    match Table.get [] zn.taps k with
    | x :: xs => (s.setZone z { zn with taps := Table.set [] zn.taps k xs }).send (.tapOutput z k x)
    | [] => s

/-- The refusal of an entry that user software writes (R278, R400). -/
def State.userEntryAbort (s : State) (who q kind : Nat) : Option Nat :=
  if 0xFFFFF < q || (s.queue q).isNone || kind < 0x80 then some 0x06090030
  else match s.holder clsQueue q with
    | some h => if h = who then none else some 0x0F010101
    | none => none

/-- User software writes an entry: the new state, and 0 or the code of the refusal (R278, R400). -/
def State.userEntry (s : State) (who q : Nat) (e : NewEntry) : State × Nat :=
  match s.userEntryAbort who q e.kind with
  | some c => (s, c)
  | none => s.offerEntry q e

/-- A write through a queue port of a zone (R400). -/
def State.queuePortWrites (s : State) (z k : Nat) (w : QueuePortWrite) : State :=
  if !s.zoneLive z || (s.zone z).decl.queuePorts ≤ k then s
  else
    let who := (s.holder clsZone z).getD 255
    let (s, code) := s.userEntry who w.queue
      { stamp := w.stamp.getD s.now, tag := 0x0300 + 16 * z + k, kind := w.kind % 256, flags := w.flags % 256,
        payload := (w.payload ++ zeroBytes 16).take 16 }
    let s := s.send (.fabric z code)
    if code = 0 then s else (s.countUp (zoneObj z) 0x17).cause (zoneObj z) 4 s.now

/-- A zone asks its time port (R401). -/
def State.timePort (s : State) (z : Nat) : State := if s.zoneLive z then s.send (.fabric z s.now) else s

/-- A user event line changes (R402). -/
def State.userLine (s : State) (z k : Nat) (level : Bool) : State :=
  let zn := s.zone z
  if !s.zoneLive z || zn.decl.userLines ≤ k || zn.lines.getD k false == level then s
  else (s.setZone z { zn with lines := zn.lines.set k level }).edge (344 + 4 * z + k) s.now level

/-! ## Clusters and stages (R375 to R377, R380, R382) -/

/-- The bytes of a frame; a frame never written is zero. -/
def State.frame (s : State) (f : Nat) : Bytes :=
  match Table.get [] s.frames f with
  | [] => zeroBytes 1024
  | b => b

/-- The frames that set the cells, clusters and routing of a zone (R408). -/
def State.cellFrames (s : State) (z : Nat) : Bytes := (List.range 480).flatMap fun i => s.frame (512 * z + i)

/-- The mode of a cluster (R376). -/
def State.clusterMode (s : State) (z k : Nat) : ClusterMode := Config.clusterMode (s.cellFrames z) k

/-- The units of logic of a cluster: 16 single-rail cells, or 8 dual-rail bits of two cells each (R376). -/
def clusterUnits (m : ClusterMode) : Nat := match m with | .bundled => 16 | .dualRail => 8

/-- The settings of a handshake cell (R375). -/
def State.cell (s : State) (z k : Nat) : CellConfig := Config.cell (s.cellFrames z) k

/-- The code of a dual-rail bit: 0 the spacer, 1 the value 0, 2 the value 1, 3 illegal (R380). Out of reset it is what the latches
of its two cells have as reset values, the false rail first (R375; DESIGN CHOICE, log entry 129). -/
def State.railCode (s : State) (z bit : Nat) : Nat :=
  match Table.get none (s.zone z).rails bit with
  | some c => c
  | none => bnat (s.cell z (2 * bit)).latchReset + 2 * bnat (s.cell z (2 * bit + 1)).latchReset

/-- The completion detection of a dual-rail cluster: `some true` when its eight bits hold values, `some false` when they
are all spacers; none while neither stands, so a stage that holds an illegal code stalls (R376, R380). -/
def State.completion (s : State) (z k : Nat) : Option Bool :=
  let codes := (List.range 8).map fun i => s.railCode z (8 * k + i)
  if codes.all fun c => c == 1 || c == 2 then some true
  else if codes.all (· == 0) then some false
  else none

/-- A dual-rail bit takes a code; each occurrence of the illegal one is a data error (R380). -/
def State.railsTake (s : State) (z bit code : Nat) : State :=
  if !s.zoneLive z || s.clusterMode z (bit / 8) != .dualRail then s
  else
    let t := s.setZone z { s.zone z with rails := Table.set none (s.zone z).rails bit (some code) }
    if code = 3 ∧ s.railCode z bit ≠ 3 then (t.countUp (zoneObj z) 0x15).cause (zoneObj z) 2 t.now else t

/-- The bytes of a word at a port of a block (R381). -/
def State.portBytes (s : State) (z block : Nat) (portB : Bool) : Nat := 2 ^ (Config.portWidth (s.cellFrames z) block portB).val

/-- The fabric reads a word through a port of a block: the answer carries the word and the port's error output (R381, R382).
-/
def State.blockReads (s : State) (z block : Nat) (portB : Bool) (index : Nat) : State :=
  let n := s.portBytes z block portB
  let a := zoneBase z + 16384 * block + n * index
  if !s.zoneLive z || 16384 ≤ n * index then s
  else
    let s := s.zeroBlocks z
    (s.afterRead a n).send (.blockRead z block portB index (leNat (s.eccBytes a n)) (s.uncorrectable a n).isSome)

/-- The fabric writes a word through a port of a block (R381). -/
def State.blockWrites (s : State) (z block : Nat) (portB : Bool) (index value : Nat) : State :=
  let n := s.portBytes z block portB
  if !s.zoneLive z || 16384 ≤ n * index then s
  else (s.zeroBlocks z).eccWrite (zoneBase z + 16384 * block + n * index) (natLe n value)

/-- What R376 allows a bundled-data stage: up to 63 data cells in at most four clusters, all in bundled-data mode. -/
def State.stageOk (s : State) (z : Nat) (x : BundledStage) : Bool :=
  let clusters := ((x.controller :: x.data).map (· / 16)).dedup
  decide (x.data.length ≤ 63) && decide ((x.data.map (· / 16)).dedup.length ≤ 4) &&
    clusters.all fun k => s.clusterMode z k == .bundled

/-- The rising delay of a delay line of `d` steps in picoseconds, typical at 0.90 V and 125 degrees (R377). -/
def risingDelay (d : Nat) : Nat := 100 + 25 * d

/-- The matched delay of a stage: the sum of the lines on its request path (R377). -/
def State.stageDelay (s : State) (z : Nat) (x : BundledStage) : Nat := (x.lines.map fun k => risingDelay (s.cell z k).delay).sum

/-- The next step of a four-phase handshake: request up, acknowledge up, request down, acknowledge down (R376, R385). -/
def nextPhase : HandshakePhase → HandshakePhase
  | .rest => .requested | .requested => .acknowledged | .acknowledged => .returning | .returning => .rest

/-- The latch of a stage is transparent until its controller has acknowledged (DESIGN CHOICE, log entry 129). -/
def latchClosed : HandshakePhase → Bool
  | .rest | .requested => false
  | .acknowledged | .returning => true

/-- Where the handshake of a stage stands: since the zone left reset, or as its image resets it (R375, R376). -/
def State.stagePhase (s : State) (z k : Nat) (x : BundledStage) : HandshakePhase :=
  (Table.get none (s.zone z).stages k).getD x.initial

/-- A bundled-data stage makes the next step of its handshake (R376). -/
def State.stageSteps (s : State) (z k : Nat) : State :=
  match (Config.stages (s.cellFrames z))[k]? with
  | some x =>
    if s.zoneLive z && s.stageOk z x then
      s.setZone z { s.zone z with stages := Table.set none (s.zone z).stages k (some (nextPhase (s.stagePhase z k x))) }
    else s
  | none => s

/-- A Muller C-element: it follows its inputs where they agree, and else keeps its output (R375). -/
def cElement (old : Bool) (inputs : BitVec 3) : Bool := inputs == 7#3 || (inputs != 0#3 && old)

/-- The output of a cell's function block: table F of the low four inputs, or, with both tables used as one, of five (R375). -/
def tableOutput (c : CellConfig) (inputs : BitVec 8) : Bool :=
  if c.joined && inputs.getLsbD 4 then c.g.getLsbD (inputs.toNat % 16) else c.f.getLsbD (inputs.toNat % 16)

/-- The completion element and the latch of a cell (R375). -/
def State.element (s : State) (z k : Nat) : Bool × Bool :=
  (Table.get none (s.zone z).elements k).getD ((s.cell z k).completionReset, (s.cell z k).latchReset)

/-- Whether the latch of a cell is transparent: by its own completion element, or by the controller of a stage it serves (R375,
R376; DESIGN CHOICE, log entry 129). -/
def State.latchOpen (s : State) (z k : Nat) (completion : Bool) : Bool :=
  if (s.cell z k).selfTimed then completion
  else (Config.stages (s.cellFrames z)).zipIdx.any fun x => x.1.data.contains k && !latchClosed (s.stagePhase z x.2 x.1)

/-- The inputs of a cell change: its completion element takes them with its inversions, and its latch, while transparent, the
output of its function block (R375; DESIGN CHOICE, log entry 129). -/
def State.cellChanges (s : State) (z k : Nat) (inputs : BitVec 8) (completion : BitVec 3) : State :=
  if !s.zoneLive z then s
  else
    let c := cElement (s.element z k).1 (completion ^^^ (s.cell z k).inverted)
    let l := if s.latchOpen z k c then tableOutput (s.cell z k) inputs else (s.element z k).2
    s.setZone z { s.zone z with elements := Table.set none (s.zone z).elements k (some (c, l)) }

/-- Whether the isolation cells of a border stop requests that rise now: a zone at either side drains (R389), or its neighbour
is not running (R395). -/
def State.stopsRequests (s : State) (z : Nat) (l : LaneRef) : Bool :=
  (s.zone z).stage == .draining || match neighbour z l.side with
    | some y => (s.zone y).stage != .running
    | none => true

/-- The channels on which a zone receives whose handshake is complete when an acknowledge of the zone falls: its request lane, for
each whose request is 0 (R385). -/
def State.completes (s : State) (z : Nat) (l : LaneRef) : List LaneRef :=
  ((s.zone z).decl.channels.filter fun c =>
    c.receives && c.acknowledgeLane == l && (s.zone z).laneLevel l && !s.receivedLevel z c.requestLane).map
      ChannelDecl.requestLane

/-- A running zone drives an outgoing lane (R385); a request that rises during a drain stays pending (R389). A handshake that is
complete ends the broken input of its channel (R391). -/
def State.drivesLane (s : State) (z : Nat) (l : LaneRef) (level : Bool) : State :=
  let zn := s.zone z
  if !s.zoneLive z || !outgoing l.role || !zn.decl.lanes.contains l then s
  else
    let others := zn.driven.filter (· != l)
    let rises := level && !zn.driven.contains l && decide (l.role = .outRequest) && s.stopsRequests z l
    let pending := zn.blocked.filter (· != l)
    s.setZone z { zn with driven := if level then l :: others else others
                          blocked := if rises then l :: pending else if level then zn.blocked else pending
                          brokenInputs := if level then zn.brokenInputs
                            else zn.brokenInputs.filter fun r => !(s.completes z l).contains r }

/-- What happens inside a running zone. -/
def State.fabricChanges (s : State) (z : Nat) (x : FabricChange) : State :=
  match x with
  | .rails bit code => s.railsTake z bit code
  | .blockRead b portB i => s.blockReads z b portB i
  | .blockWrite b portB i v => s.blockWrites z b portB i v
  | .handshake k => s.stageSteps z k
  | .lane l level => s.drivesLane z l level
  | .cell k inputs completion => s.cellChanges z k inputs completion

/-! ## Modes and claims (R403, R404) -/

/-- Entry to SAFE or LOAD resets a zone without drain: its open channels count as broken (R403), those of two zones in the lower
one, which is reset first (R392). -/
def State.zoneResets (s : State) (z : Nat) : State :=
  let zn := s.zone z
  let s := if zn.live then ((s.breakChannels z).clampLanes z).cutLinks z else s
  if zn.hasImage then
    let s := s.setZone z { s.zone z with next := .empty, clampedAt := none }
    if zn.stage == .ready then s else s.zoneStage z .ready
  else if zn.stage == .empty then s
  else s.zoneEmpties z

/-- Every zone is reset (R403). -/
def State.zonesReset (s : State) : State := s.each (List.range 16) State.zoneResets

/-- The claim on a zone ends (R404). -/
def State.zoneClaimEnds (s : State) (z : Nat) : State := (s.zoneErased z 6).resetBlock (zoneObj z)

/-! ## What the fabric reads (R405, R406) -/

/-- Zones for which a condition holds, bit by bit. -/
def State.zoneBits (s : State) (p : Zone → Bool) : Nat := bitWord 16 fun z => p (s.zone z)

/-- The live port mask of a zone. -/
def Zone.maskBit (z : Zone) (p : Nat) : Bool := z.decl.portMask.any (fun x => x.val == p) && !z.maskLost.contains p

end Sys2Proof.Machine
end

