-- ==== Sys2Proof/Machine/Replies.lean ====
section
/-!
DEFINITION. What the device sends on its links: datagrams of a session and the responses it keeps (R446 to R449), USDO
responses (R454), and the answers of requests that complete later (R450).
-/

namespace Sys2Proof.Machine

/-- A tagged datagram on port 18800 with the session's next sequence number (R446, R448). -/
def State.sendDatagram (s : State) (n op flags reqId : Nat) (payload : Bytes) : State :=
  let x := s.session n
  let tag := datagramTag x.ks (datagramHeader op n flags x.txSeq reqId payload.length) payload
  (s.setSession n { x with txSeq := x.txSeq + 1 }).send (.datagram n op flags x.txSeq reqId payload tag)

/-- A datagram without a tag, sequence 0 (R446). -/
def State.sendUntagged (s : State) (n op flags reqId : Nat) (payload : Bytes) : State :=
  s.send (.datagram n op flags 0 reqId payload [])

/-- A response: it is kept among the last 16 and sent (R447, R449). -/
def State.respond (s : State) (n op reqId flags : Nat) (payload : Bytes) : State :=
  let x := s.session n
  let kept := (x.kept ++ [{ reqId := reqId, opcode := op, flags := flags, payload := payload }])
  (s.setSession n { x with kept := kept.drop (kept.length - 16) }).sendDatagram n op flags reqId payload

/-- A response of success, or a refusal with its code (R446). -/
def State.respondCode (s : State) (n op reqId code : Nat) (payload : Bytes) : State :=
  if code = 0 then s.respond n op reqId 1 payload else s.respond n op reqId 3 (natLe 4 code)

/-- A USDO response, on the identifier of the node (R454). -/
def State.usdoAnswers (s : State) (code : Nat) (p : Bytes) : State := s.send (.usdo (0x580 + s.links.nodeId) code p)

/-- The answer of a request that has completed later; the lease, which did not run meanwhile, runs from here (R462). -/
def State.replyLater (s : State) (r : ReplyTo) (code : Nat) : State :=
  match r with
  | .plain n => (s.renew n).send (.answer code [])
  | .datagram n op reqId => if s.isOpen n then (s.renew n).respondCode n op reqId code [] else s
  | .usdo => (s.renew 0).usdoAnswers code []

end Sys2Proof.Machine
end

