-- ==== Sys2Proof/Machine/Loader.lean ====
section
/-!
DEFINITION. Configuration streams: header and segments (R409 to R413), records (R414, R415), receiving a stream (R416 to
R420), key policy and lockout (R423, R424), and loads from Cellar slots (R426, R427).
-/

namespace Sys2Proof.Machine

/-! ## Stream layout (R409 to R413) -/

/-- The length that a header states. -/
def streamLen (h : Bytes) : Nat := fieldLe h 4 4
/-- The flags of a header. -/
def streamFlags (h : Bytes) : Nat := fieldLe h 2 2
/-- The key source of a header. -/
def streamSource (h : Bytes) : Nat := fieldLe h 8 1
/-- The zone mask of a header, as a list. -/
def streamZones (h : Bytes) : List Nat := bitList 16 (fieldLe h 10 2)
/-- Whether a stream is encrypted. -/
def isEncrypted (h : Bytes) : Bool := bitOf (streamFlags h) 0
/-- Whether a stream has a rolling key. -/
def isRolling (h : Bytes) : Bool := bitOf (streamFlags h) 1
/-- Whether a stream configures the whole device. -/
def isWhole (h : Bytes) : Bool := bitOf (streamFlags h) 2

/-- Bytes of a full segment with its tag (R409). -/
def segmentBytes : Nat := 1048576 + 16

/-- Payload bytes with their tags. -/
def payloadSpan (h : Bytes) : Nat := streamLen h - 68

/-- Segments of an encrypted stream. -/
def segmentCount (h : Bytes) : Nat := (payloadSpan h + segmentBytes - 1) / segmentBytes

/-- Payload bytes once decrypted. -/
def payloadLength (h : Bytes) : Nat := if isEncrypted h then payloadSpan h - 16 * segmentCount h else payloadSpan h

/-- The offset of the first invalid field of a header (R410). -/
def headerFault (h : Bytes) : Option Nat :=
  let last := payloadSpan h - (segmentCount h - 1) * segmentBytes
  if fieldLe h 0 2 != 1 then some 0
  else if isRolling h && !isEncrypted h then some 2
  else if streamLen h < 68 || (isEncrypted h && decide (last ≤ 16)) then some 4
  else if 5 < streamSource h || (streamSource h == 0) == isEncrypted h then some 8
  else if 63 < fieldLe h 9 1 then some 9
  else none

/-- The key of a key source (R410, R421). -/
def KeyStore.streamKey (k : KeyStore) (src : Nat) : Option Bytes :=
  if src = 0 then some [] else if src = 1 then k.ek else (k.battery.getD (src - 2) none)

/-- The policy bit that a stream breaks (R423); the minimum security version has no bit. -/
def KeyStore.policyBreach (k : KeyStore) (h : Bytes) : Option (Option Nat) :=
  if bitOf k.policy 0 && !isEncrypted h then some (some 0)
  else if bitOf k.policy 1 && !isRolling h then some (some 1)
  else if bitOf k.policy 2 && 2 ≤ streamSource h then some (some 2)
  else if fieldLe h 9 1 < k.minVersion then some none
  else none

/-- The first cause with its detail for which a header fails (R419); no detail where the spec states none. -/
def State.headerFails (s : State) (h : Bytes) : Option (Nat × Option Nat) :=
  match headerFault h with
  | some o => some (1, some o)
  | none => if (s.keys.streamKey (streamSource h)).isNone then some (2, some (streamSource h))
    else (s.keys.policyBreach h).map fun b => (3, b)

/-- The fixed input of the KDF of R412 for a label and a context. -/
def kdfInput (label : String) (context : Bytes) : Bytes :=
  natBe 4 1 ++ strBytes label ++ [0#8] ++ context ++ natBe 4 0x100

/-- The key of a segment (R411, R412). -/
def segmentKey (h key : Bytes) (i : Nat) : Bytes :=
  if isRolling h then kdf108 key (kdfInput "ITDAR CFG" (sliceBytes h 12 4 ++ sliceBytes h 16 12 ++ natBe 4 i)) else key

/-- The nonce of a segment (R411). -/
def segmentNonce (h : Bytes) (i : Nat) : Bytes :=
  sliceBytes h 16 8 ++ natBe 4 ((beNat (sliceBytes h 24 4) + i) % 2 ^ 32)

/-- The span of a segment with its tag: its first byte in the stream, and its bytes. -/
def segmentSpan (h : Bytes) (i : Nat) : Nat × Nat :=
  (64 + i * segmentBytes, min segmentBytes (payloadSpan h - i * segmentBytes))

/-- Whether the tag of a complete segment passes (R411). -/
def segmentOk (h key bs : Bytes) (i : Nat) : Bool :=
  let (o, n) := segmentSpan h i
  let text := sliceBytes bs o (n - 16)
  gcmTag (segmentKey h key i) (segmentNonce h i) (h.take 64) text == sliceBytes bs (o + (n - 16)) 16

/-- The first complete segment, from a number on, whose tag fails. -/
def badSegment (h key bs : Bytes) (since : Nat) : Option Nat :=
  ((List.range (segmentCount h)).drop since).find? fun i =>
    decide ((segmentSpan h i).1 + (segmentSpan h i).2 ≤ bs.length) && !segmentOk h key bs i

/-- Segments that are complete in the bytes received. -/
def segmentsIn (h bs : Bytes) : Nat :=
  ((List.range (segmentCount h)).filter fun i => decide ((segmentSpan h i).1 + (segmentSpan h i).2 ≤ bs.length)).length

/-- The payload of the bytes received so far, decrypted (R409, R411). -/
def payloadOf (h key bs : Bytes) : Bytes :=
  if isEncrypted h then
    (List.range (segmentCount h)).flatMap fun i =>
      let (o, n) := segmentSpan h i
      gcmCrypt (segmentKey h key i) (segmentNonce h i) (sliceBytes bs o (n - 16))
  else sliceBytes bs 64 (payloadSpan h)

/-! ## Records (R414, R415) -/

/-- A record with its head. -/
structure CfgRecord where
  type : Nat
  zone : Nat
  body : Bytes
  deriving DecidableEq, Repr

/-- What stands at the front of the payload. -/
inductive NextRecord where
  | incomplete
  | bad (cause detail : Nat)
  | record (r : CfgRecord)
  deriving DecidableEq, Repr

/-- First frame and count of a frames record. -/
def CfgRecord.frames (r : CfgRecord) : List Nat :=
  (List.range (fieldLe r.body 2 2)).map fun i => 512 * r.zone + fieldLe r.body 0 2 + i

/-- The bytes of a record's head and body. -/
def CfgRecord.size (r : CfgRecord) : Nat := 8 + r.body.length

/-- Whether the head of a record is valid by itself (R414). -/
def headOk (type zone len : Nat) : Bool :=
  len % 4 == 0 &&
  match type with
  | 1 => decide (zone < 16) && len == 12
  | 2 => decide (zone < 16) && decide (4 ≤ len)
  | 3 => decide (zone < 16) && decide (4 ≤ len)
  | 0x0F => zone == 0xFF && len == 4
  | _ => false

/-- The check of a complete record against those before it (R415), which no longer applies to a dropped zone (R417). -/
def recordFault (h : Bytes) (p : Parse) (dropped : List Nat) (received : Nat) (r : CfgRecord) : Option (Nat × Nat) :=
  let bad : Option (Nat × Nat) := some (5, p.offset)
  match r.type with
  | 1 => if dropped.contains r.zone || ((streamZones h).contains r.zone && !p.begun.contains r.zone) then none else bad
  | 2 =>
    if r.body.length != 4 + 1024 * fieldLe r.body 2 2 then bad
    else if dropped.contains r.zone then none
    else if p.zone != some r.zone || 512 < fieldLe r.body 0 2 + fieldLe r.body 2 2 then bad
    else (r.frames.find? p.written.contains).map fun f => (8, f)
  | 3 =>
    if !dropped.contains r.zone && (p.zone != some r.zone || blockBytes < fieldLe r.body 0 4 + (r.body.length - 4)) then bad
    else none
  | _ => if p.offset + 12 = payloadLength h then none else some (0x0A, received)

/-- The next record of a payload. -/
def nextRecord (h payload : Bytes) (p : Parse) (dropped : List Nat) (received : Nat) : NextRecord :=
  let rest := payload.drop p.offset
  let len := fieldLe rest 4 4
  if rest.length < 8 then .incomplete
  else if !headOk (fieldLe rest 0 1) (fieldLe rest 1 1) len then .bad 5 p.offset
  else if rest.length < 8 + len then .incomplete
  else
    let r : CfgRecord := { type := fieldLe rest 0 1, zone := fieldLe rest 1 1, body := sliceBytes rest 8 len }
    match recordFault h p dropped received r with
    | some (c, d) => .bad c d
    | none => .record r

/-- A record is taken. -/
def Parse.take (p : Parse) (r : CfgRecord) : Parse :=
  let q := { p with offset := p.offset + r.size }
  match r.type with
  | 1 => { q with zone := some r.zone, begun := p.begun ++ [r.zone] }
  | 2 => { q with written := p.written ++ r.frames }
  | _ => q

/-- The checks of R418 at the last byte of a stream, with its last record. -/
def endFault (h bs : Bytes) (p : Parse) (dropped : List Nat) (last : NextRecord) : Option (Nat × Nat) :=
  let received := fieldLe bs (streamLen h - 4) 4
  if bs.length != streamLen h then some (0x0A, bs.length)
  else if (crc32c (bs.take (streamLen h - 4))).toNat != received then some (9, received)
  else match last with
    | .bad c d => some (c, d)
    | .incomplete => some (5, p.offset)
    | .record r =>
      if r.type != 0x0F || fieldLe r.body 0 4 != (streamZones h).length || (streamZones h).any (fun z => !p.begun.contains z)
      then some (5, p.offset)
      else ((p.begun.filter fun z => !dropped.contains z).findSome? fun z =>
        (List.range 512).find? (fun f => !p.written.contains (512 * z + f)) |>.map fun f => 512 * z + f).map fun f => (8, f)

/-- The records of a whole payload in turn, to the last one (R426). -/
def walkRecords (h payload : Bytes) : Nat → Parse → Parse × NextRecord
  | 0, p => (p, .incomplete)
  | fuel + 1, p =>
    match nextRecord h payload p [] (streamLen h) with
    | .record r => if r.type = 0x0F then (p, .record r) else walkRecords h payload fuel (p.take r)
    | x => (p, x)

/-- The check of a whole stream before it is stored in a Cellar slot (R426). -/
def State.streamFault (s : State) (bs : Bytes) : Option (Nat × Option Nat) :=
  let h := bs.take 64
  match s.headerFails h with
  | some x => some x
  | none =>
    let key := (s.keys.streamKey (streamSource h)).getD []
    if bs.length != streamLen h then some (0x0A, some bs.length)
    else
      let tag := if isEncrypted h then badSegment h key bs 0 else none
      match tag with
      | some i => some (4, some i)
      | none =>
        let w := walkRecords h (payloadOf h key bs) bs.length {}
        (endFault h bs w.1 [] w.2).map fun x => (x.1, some x.2)

/-! ## The loader (R416 to R420) -/

/-- The header of the open stream. -/
def Loader.header (l : Loader) : Bytes := l.bytes.take 64

/-- The next record of the open stream. -/
def Loader.next (l : Loader) : NextRecord :=
  nextRecord l.header (payloadOf l.header l.key l.bytes) l.parse l.dropped l.bytes.length

/-- Whether a stream is open. -/
def Loader.busy (l : Loader) : Bool := l.session.isSome || l.boot

/-- The write that is still being processed is answered. -/
def State.loaderAnswers (s : State) (code : Nat) : State :=
  match s.loader.owed with
  | some r => ({ s with loader := { s.loader with owed := none, lastWrite := s.now } }).replyLater r code
  | none => s

/-- The consecutive failures and the lockout after a failed tag (R424). The log records name the session of the stream (R528);
DESIGN CHOICE (log entry 131): they name 0xFF for a boot load, which has none. -/
def State.tagFails (s : State) (who : Nat) : State :=
  let n := s.keys.failures + 1
  let s := { s with keys := { s.keys with failures := n } }
  let s := s.wantTxn .counter [.blob 8 0 (some (natLe 4 n))]
  let s := s.logRec s.now 0x04E5 0x0B ([3#8, BitVec.ofNat 8 who, 0#8, 0#8] ++ natLe 4 n)
  if n < 8 then s
  else
    let span := min (60 * 2 ^ (n - 8)) 3600 * tkS
    let s := { s with keys := { s.keys with lockoutUntil := some (s.now + span) } }
    let s := (s.logRec s.now 0x04E5 0x0B ([4#8, BitVec.ofNat 8 who, 0#8, 0#8] ++ natLe 4 n)).cause 0x2700 2 s.now
    if n = 8 && bitOf s.keys.policy 3 then
      ({ s with keys := { s.keys with battery := [none, none, none, none] } }).cause 0x2700 3 s.now
    else s

/-- The open stream fails (R419). A zone that still drains for it ends Failed (DEDUCED, log entry 142); a detail that the spec
does not give is a free value (log entry 13). -/
def State.streamFails (s : State) (cause : Nat) (detail : Option Nat) : State :=
  if !s.loader.busy then s
  else
    let l := s.loader
    let s := (l.parse.begun.filter fun z => !l.dropped.contains z).foldl (fun s z =>
      if (s.zone z).stage == .loading then s.zoneFails z 1 else s) s
    let s := match l.waitDrain with
      | some z => s.setZone z { s.zone z with next := .failed }
      | none => s
    let d := detail.getD ((Config.freeValue s.fresh).toNat % 2 ^ 32)
    let s := if detail.isNone then s.nextFresh else s
    let s := if cause = 4 then s.tagFails (l.session.getD 0xFF) else s
    let s := (((s.setObj 0x2700 4 5).setObj 0x2700 5 0xFF).setObj 0x2700 7 cause).setObj 0x2700 8 d
    let s := s.loaderAnswers 0x0F010D02
    ({ s with loader := {} }).cause 0x2700 1 s.now

/-- Whether a record is to be processed before the bytes received are: one that is complete, but for the stream end, which is
checked at the last byte of the stream (R416, R418). -/
def Loader.working (l : Loader) : Bool :=
  match l.next with
  | .record r => r.type != 0x0F
  | _ => false

/-- After bytes or a record: an invalid record fails the stream, and so do bytes past its length once the records before them are
processed (R419); at the last byte the stream is checked (R418); else a write none of whose records is left is answered (R416). -/
def State.loaderSettles (s : State) : State :=
  let l := s.loader
  if !l.busy then s
  else match l.next with
    | .bad c d => s.streamFails c (some d)
    | _ =>
      if l.working then s
      else if streamLen l.header < l.bytes.length then s.streamFails 0x0A (some l.bytes.length)
      else if l.bytes.length = streamLen l.header then s.setObj 0x2700 4 3
      else s.loaderAnswers 0

/-- Bytes reach the open stream: the tags of segments now complete, then the records (R411, R416, R419). -/
def State.loaderFeeds (s : State) (bs : Bytes) : State :=
  let l := s.loader
  let all := l.bytes ++ bs
  let h := all.take 64
  let s := ({ s with loader := { l with bytes := all, lastWrite := s.now } }).setObj 0x2700 6 all.length
  if !isEncrypted h then s.loaderSettles
  else match badSegment h l.key all (segmentsIn h l.bytes) with
    | some i => s.streamFails 4 (some i)
    | none =>
      let passed := segmentsIn h all = segmentCount h && segmentsIn h l.bytes < segmentCount h
      let s := if passed && s.keys.failures != 0 then
          ({ s with keys := { s.keys with failures := 0 } }).wantTxn .counter [.blob 8 0 none] else s
      s.loaderSettles

/-- A stream begins with its header: for a whole device, LOAD begins and zones outside its mask become Empty (R416, R420).
DESIGN CHOICE (log entry 132): the failure cause and detail of an earlier stream read 0 from here on. -/
def State.streamBegins (s : State) (who : Option Nat) (fromSlot boot : Bool) (bs : Bytes) (owed : Option ReplyTo) (why : Nat) :
    State :=
  let h := bs.take 64
  let s := { s with loader := { session := who, fromSlot := fromSlot, boot := boot, owed := owed, lastWrite := s.now,
                                key := (s.keys.streamKey (streamSource h)).getD [] } }
  let s := (((s.setObj 0x2700 4 1).setObj 0x2700 5 (who.getD 0xFF)).setObj 0x2700 7 0).setObj 0x2700 8 0
  let s := if isWhole h || boot then
      (s.modeBecomes .load why).each (List.range 16) fun s z =>
        if (streamZones h).contains z || (s.zone z).stage == .empty then s else s.zoneEmpties z
    else s
  match s.headerFails h with
  | some (c, d) => (s.setObj 0x2700 6 bs.length).streamFails c d
  | none => s.loaderFeeds bs

/-- The first condition of R416 that refuses a write, before its bytes are looked at. DEDUCED (log entry 159): where the device does
not leave SAFE, a whole-device stream is refused as in another mode. -/
def State.streamAbort (s : State) (who : Nat) (bs : Bytes) (fromSlot : Bool) : Option Nat :=
  let l := s.loader
  if l.busy then
    if l.session != some who || l.fromSlot || fromSlot then some 0x0F010D01
    else if l.owed.isSome then some 0x0F010003
    else if !isWhole l.header && !s.mode.fabric then some 0x0F010002
    else none
  else
    let locked := match s.keys.lockoutUntil with
      | some e => decide (s.now < e)
      | none => false
    if locked && !fromSlot then some 0x0F010D03
    else if isWhole bs then
      (if s.mode != .safe || fromSlot || s.staysSafe then some 0x0F010002
       else if who = 0 then none else s.claimAbort who clsCycle 0)
    else if !s.mode.fabric then some 0x0F010002
    else none

/-- A write of stream data (R416): refused, failed, or taken; a write whose records are still to be processed is answered
when they are. -/
def State.streamWrite (s : State) (who : Nat) (bs : Bytes) : Res := do
  refuseWith (s.streamAbort who bs false)
  let s' := if s.loader.busy then s.loaderFeeds bs else s.streamBegins (some who) false false bs none (0x10 + who)
  if !s'.loader.busy then refuseAfter 0x0F010D02 s'
  else
    let waits := s'.loader.working || s'.loader.bytes.length == streamLen s'.loader.header
    return if waits then { s' with loader := { s'.loader with owed := some (.plain who) } } else s'

/-- A load of a Cellar slot by a session (R427). -/
def State.slotLoad (s : State) (who v : Nat) : Res := do
  refuseIf (7 < v) 0x06090031
  let bs := s.item 5 v
  refuseWith (s.streamAbort who (bs.take 64) true)
  let s' := s.streamBegins (some who) true false bs none (0x10 + who)
  if !s'.loader.busy then refuseAfter 0x0F010D02 s' else return s'

/-- A repair copy not yet committed is abandoned (R428). -/
def State.cancelRepair (s : State) (z : Nat) : State :=
  let s := s.setZone z { s.zone z with repairDue := false }
  let waiting := s.cellar.waiting.filter fun t => t.why != .repair z
  let s := { s with cellar := { s.cellar with waiting := waiting } }
  match s.cellar.open_ with
  | some t => if t.why = .repair z then s.abandonTxn.nextTxn else s
  | none => s

/-- The record at the front is taken. -/
def State.takeRecord (s : State) (r : CfgRecord) : State :=
  { s with loader := { s.loader with parse := s.loader.parse.take r } }

/-- A zone begin takes effect on a zone that is Loading. -/
def State.zoneBegins (s : State) (r : CfgRecord) : State :=
  let z := r.zone
  let s := s.cancelRepair z
  let s := s.setZone z { s.zone z with imageId := fieldLe r.body 0 4, margin := fieldLe r.body 4 2,
                                       blocks := fieldLe r.body 6 1, cells := fieldLe r.body 8 4 }
  let s := (s.takeRecord r).setObj 0x2700 4 1
  ({ s with loader := { s.loader with waitDrain := none } }).loaderSettles

/-- ZONE_BEGIN_RECORD: the claim, then the state of the zone (R417); the record waits for a repair of a frame of the zone
(R434) and for its drain. A zone that is Draining or Loading fails the stream (R417) and stays as it is (R388). -/
def State.zoneBeginRecord (s : State) : State :=
  let l := s.loader
  match l.next with
  | .record r =>
    let repairing := match s.scrub.repair with
      | some (f, _, _) => f / 512 == r.zone
      | none => false
    if !l.busy || r.type != 1 || repairing || l.waitDrain.isSome then s
    else if l.dropped.contains r.zone then (s.takeRecord r).loaderSettles
    else if !l.boot && !isWhole l.header && s.holder clsZone r.zone != l.session then s.streamFails 6 (some r.zone)
    else match (s.zone r.zone).stage with
      | .draining => s.streamFails 7 (some r.zone)
      | .loading => s.streamFails 7 (some r.zone)
      | .running =>
        let s := (s.zoneDrains r.zone .loading).setObj 0x2700 4 2
        { s with loader := { s.loader with waitDrain := some r.zone } }
      | _ => (s.zoneLoads r.zone).zoneBegins r
  | _ => s

/-- The golden signature of a frame (R417). -/
def frameSignature (f : Nat) (b : Bytes) : BitVec 32 := crc32c (natLe 2 f ++ b)

/-- A frame takes its bytes, and the Loft its signature in all three copies (R417). -/
def State.writeFrame (s : State) (f : Nat) (b : Bytes) : State :=
  let sig := some (frameSignature f b)
  { s with frames := Table.set [] s.frames f b, loft := Table.set [none, none, none] s.loft f [sig, sig, sig] }

/-- FRAMES_RECORD: frames are written, read back and signed; `mismatch` is the frame whose read-back differs (R417). -/
def State.framesRecord (s : State) (mismatch : Option Nat) : State :=
  let l := s.loader
  match l.next with
  | .record r =>
    if !l.busy || r.type != 2 || l.waitDrain.isSome then s
    else if l.dropped.contains r.zone then (s.takeRecord r).loaderSettles
    else
      let good := r.frames.takeWhile fun f => some f != mismatch
      let s := (good.zipIdx).foldl (fun s x => s.writeFrame x.1 (sliceBytes r.body (4 + 1024 * x.2) 1024)) s
      match r.frames.find? fun f => some f == mismatch with
      | some f => s.streamFails 0x10 (some f)
      | none => (s.takeRecord r).loaderSettles
  | _ => s

/-- BLOCK_MEMORY_RECORD: initial data of a loading zone (R414). -/
def State.blockRecord (s : State) : State :=
  let l := s.loader
  match l.next with
  | .record r =>
    if !l.busy || r.type != 3 || l.waitDrain.isSome then s
    else
      let s := if l.dropped.contains r.zone then s
        else (s.zeroBlocks r.zone).eccWrite (zoneBase r.zone + fieldLe r.body 0 4) (r.body.drop 4)
      (s.takeRecord r).loaderSettles
  | _ => s

/-- The link and border frames of a zone (R408). -/
def State.linkFrames (s : State) (z : Nat) : Bytes := (List.range 32).flatMap fun i => s.frame (512 * z + 480 + i)

/-- The lanes that an image declares on a side in a direction (R393). -/
def lanesOn (d : ZoneDecl) (side : Nat) (out : Bool) : List (Fin 128) :=
  (d.lanes.filter fun l => l.side.val == side && outgoing l.role == out).map LaneRef.lane

/-- Whether an image uses more than a zone holds (R393, code 0x03). -/
def imageExceeds (d : ZoneDecl) : Bool :=
  decide (8 < d.taps.length) || decide (16 < d.queuePorts) || decide (4 < d.userLines) ||
    (List.range 4).any fun k => decide (128 < (lanesOn d k true).length) || decide (128 < (lanesOn d k false).length)

/-- Whether a declaration of an image is invalid for its zone (R393, code 0x04). -/
def imageInvalid (d : ZoneDecl) (z : Nat) : Bool :=
  d.channels.any (fun c => (neighbour z c.side).isNone) || d.ports.any (fun p => decide (255 < p)) ||
    d.sioPins.any (fun n => decide (31 < n)) ||
    (List.range 4).any fun k => !decide (lanesOn d k true).Nodup || !decide (lanesOn d k false).Nodup

/-- The zone check of R393 that an image fails. -/
def zoneFault (n : Nat) (z : Zone) (d : ZoneDecl) : Option Nat :=
  if z.margin < 1100 then some 2
  else if 24576 < z.cells || 96 < z.blocks || imageExceeds d then some 3
  else if imageInvalid d n then some 4
  else none

/-- The zone checks of a zone whose stream has passed: Ready or Failed (R393). -/
def State.zoneChecks (s : State) (z : Nat) : State :=
  if (s.zone z).stage != .loading then s
  else
    let d := Config.zoneDecl (s.linkFrames z)
    match zoneFault z (s.zone z) d with
    | some c => s.zoneFails z c
    | none =>
      let s := s.zeroBlocks z
      (s.setZone z { s.zone z with decl := d, hasImage := true, maskLost := [], repairDue := true, readyAt := s.now }).zoneStage
        z .ready

/-- A zone that has become Ready starts by itself, as though its claiming session had started it (R393). -/
def State.autoStart (s : State) (z : Nat) : State :=
  if (s.zone z).stage == .ready && s.objN (zoneObj z) 3 == 1 then
    match s.holder clsZone z with
    | some w => match s.zoneStart w z with
      | .ok s => s
      | .error _ => s
    | none => s
  else s

/-- STREAM_END_RECORD: the checks of R418, then the zone checks of R393. -/
def State.streamEnds (s : State) : State :=
  let l := s.loader
  let last := match l.next with
    | .record r => r.type == 0x0F
    | _ => true
  if !l.busy || l.bytes.length != streamLen l.header || l.waitDrain.isSome || !last then s
  else match endFault l.header l.bytes l.parse l.dropped l.next with
    | some (c, d) => s.streamFails c (some d)
    | none =>
      let zones := l.parse.begun.filter fun z => !l.dropped.contains z
      let s := s.each zones State.zoneChecks
      let s := (s.loaderAnswers 0).setObj 0x2700 4 4
      let s := ({ s.setObj 0x2700 5 0xFF with loader := {} }).cause 0x2700 0 s.now
      s.each zones State.autoStart

/-- The abort command of the loader (R419, R437). -/
def State.loaderCommand (s : State) (who v : Nat) : Res := do
  refuseIf (v != 1) 0x06090030
  refuseIf (s.loader.session != some who) 0x0F010D01
  return s.streamFails 0x0B (some 0)

/-- No write arrives for the idle timeout (R419). -/
def State.streamIdles (s : State) : State :=
  let l := s.loader
  if l.session.isSome && !l.fromSlot && l.owed.isNone && decide (l.lastWrite + s.objN 0x2700 3 * tkMs ≤ s.now) then
    s.streamFails 0x0C (some 0)
  else s

/-- The holding session closes or its lease expires (R419). -/
def State.streamLosesSession (s : State) (n : Nat) : State :=
  if s.loader.session = some n then s.streamFails 0x0D (some n) else s

/-- The mode changes to one that ends an open stream (R419). -/
def State.streamLosesMode (s : State) (m : Mode) : State := s.streamFails 0x0E (some m.code)

/-! ## End of a drain (R390) -/

/-- One microsecond after the clamp every cell is reset and the zone takes its next state (R390). -/
def State.zoneResetDone (s : State) (z : Nat) : State :=
  let zn := s.zone z
  match zn.clampedAt with
  | none => s
  | some c =>
    if zn.stage != .draining || s.mode == .save || s.now < c + tkUs then s
    else match zn.next with
      | .loading =>
        let s := s.zoneLoads z
        if s.loader.waitDrain = some z then
          match s.loader.next with
          | .record r => s.zoneBegins r
          | _ => s
        else s
      | .ready => (s.setZone z { zn with clampedAt := none, next := .empty }).zoneStage z .ready
      | .failed => s.zoneFails z 1
      | _ => s.zoneEmpties z

/-! ## Cellar slots (R426) -/

/-- The bytes that a Cellar slot takes in the store: of its stream, or of one whose transaction is still to commit, the longer
(R426). -/
def State.slotSize (s : State) (k : Nat) : Nat :=
  (s.cellar.open_.toList ++ s.cellar.waiting).foldl (fun n t =>
    if t.why = .stream k then t.changes.foldl (fun n c =>
      match c with
      | .blob _ _ (some b) => max n b.length
      | _ => n) n else n) (s.item 5 k).length

/-- A write of a Cellar slot: every check of the stream, then one transaction (R426). -/
def State.slotStore (s : State) (slot : Nat) (bs : Bytes) : Res := do
  if bs.isEmpty then s.hostTxn (.stream slot) [.blob 5 slot none] 0x0F010D04
  else match s.streamFault bs with
    | some (c, _) => refuseAfter 0x0F010D02 (s.setObj 0x2700 7 c)
    | none =>
      let others := (List.range 8).foldl (fun n k => if k = slot then n else n + s.slotSize k) 0
      refuseIf (decide (6291456 < others + bs.length)) 0x0F010D04
      s.hostTxn (.stream slot) [.blob 5 slot (some bs)] 0x0F010D04

/-- The state of a Cellar slot (R440). -/
def State.streamSlotState (s : State) (slot : Nat) : Nat :=
  if s.txnPending (.stream slot) then 2 else if s.hasItem 5 slot then 1 else 0

end Sys2Proof.Machine
end

