-- ==== Sys2Proof/Machine/Keys.lean ====
section
/-!
DEFINITION. The key store (R421 to R425), the host key slots (R458), and the frame repair copies in the Cellar (R428).
-/

namespace Sys2Proof.Machine

/-! ## Keys (R421 to R425) -/

/-- The check value of a key; 0 when it is absent (R422). -/
def checkValue : Option Bytes → Nat
  | some k => fieldLe (hmacSha256 k (strBytes "KCV")) 0 4
  | none => 0

/-- A write of KEK: once, in SAFE (R421, R422). -/
def State.kekStore (s : State) (bs : Bytes) : Res := do
  refuseIf (s.mode != .safe) 0x0F010002
  refuseIf s.keys.kek.isSome 0x0F010D06
  return { s with keys := { s.keys with kek := some bs } }

/-- A wrapped key as written, or the refusal of R422. -/
def State.unwrapped (s : State) (bs : Bytes) : Except Refused Bytes :=
  match s.keys.kek with
  | none => refuse 0x0F010D05
  | some k => match keyUnwrap k bs with
    | none => refuse 0x0F010D07
    | some x => .ok x

/-- Mode and claim of a key write (R422). -/
def State.keyAuthority (s : State) (who : Nat) : Check := do
  refuseIf (s.mode != .idle) 0x0F010002
  refuseWith (s.claimAbort who clsCycle 0)

/-- A write of EK (R422). -/
def State.ekStore (s : State) (who : Nat) (bs : Bytes) : Res := do
  let k ← s.unwrapped bs
  refuseIf s.keys.ek.isSome 0x0F010D06
  s.keyAuthority who
  return { s with keys := { s.keys with ek := some k } }

/-- A write of a battery key slot; it ends the report of lost keys (R422, R425). -/
def State.batteryStore (s : State) (who k : Nat) (bs : Bytes) : Res := do
  if bs.isEmpty then refuseIf s.keys.kek.isNone 0x0F010D05
  let key ← if bs.isEmpty then .ok none else (s.unwrapped bs).map some
  s.keyAuthority who
  return { s with keys := { s.keys with battery := s.keys.battery.set k key, batteryLost := false } }

/-- A write of the policy: it sets bits and never clears one (R423). -/
def State.policyStore (s : State) (v : Nat) : Res := do
  refuseIf ((s.keys.policy &&& v) != s.keys.policy) 0x0F010D08
  return { s with keys := { s.keys with policy := v } }

/-- A write of the minimum security version: it never falls (R423). -/
def State.versionStore (s : State) (v : Nat) : Res := do
  refuseIf (decide (v < s.keys.minVersion)) 0x0F010D08
  return { s with keys := { s.keys with minVersion := v } }

/-- The battery keys are cleared (R425). -/
def State.clearBattery (s : State) (v : Nat) : State :=
  if v = 1 then ({ s with keys := { s.keys with battery := [none, none, none, none] } }).cause 0x2700 3 s.now else s

/-- Whether the lockout of R424 runs. -/
def State.lockedOut (s : State) : Bool :=
  match s.keys.lockoutUntil with
  | some e => decide (s.now < e)
  | none => false

/-- The lockout ends (R424). -/
def State.lockoutEnds (s : State) : State :=
  if s.lockedOut || s.unsupplied then s else { s with keys := { s.keys with lockoutUntil := none } }

/-- What is left of a span, in ms, rounded up. -/
def leftMs (until_ : Option Tk) (now : Tk) : Nat :=
  match until_ with
  | some e => (e - now + tkMs - 1) / tkMs
  | none => 0

/-- The key status word (R438). -/
def State.keyStatus (s : State) : Nat :=
  bnat s.keys.kek.isSome + 2 * bnat s.keys.ek.isSome +
    bitWord 4 (fun k => (s.keys.battery.getD k none).isSome) * 4 + 64 * bnat s.keys.batteryLost + 128 * bnat s.lockedOut

/-! ## Host keys (R458) -/

/-- An item as the last transaction that waits or is open will leave it; the committed item when none writes it. -/
def State.itemToBe (s : State) (cls key : Nat) : Bytes :=
  let changes := (match s.cellar.open_ with | some t => t.changes | none => []) ++ s.cellar.waiting.flatMap (·.changes)
  changes.foldl (fun b x => match x with
    | .blob c k v => if c = cls ∧ k = key then v.getD [] else b
    | _ => b) (s.item cls key)

/-- The link mask and the key of a host key slot's item: the mask, then the key if there is one. -/
def slotMask (item : Bytes) : Nat := if item.isEmpty then 7 else fieldLe item 0 1

/-- The key of a slot, if it holds one. -/
def State.hostKey (s : State) (h : Nat) : Option Bytes :=
  let i := s.item 9 h
  if i.length = 33 then some (i.drop 1) else none

/-- Whether the device is in provisioning state. -/
def State.provisioning (s : State) : Bool := (List.range 8).all fun h => (s.hostKey h).isNone

/-- Mode and claim of a write of a host key slot (R458). -/
def State.hostAuthority (s : State) (who : Nat) : Check := do
  refuseIf (s.mode != .idle && !(who == 0 && s.mode == .safe)) 0x0F010002
  refuseWith (if who = 0 then none else s.claimAbort who clsCycle 0)

/-- A write of a host key, or of length 0, which clears the slot (R458). -/
def State.hostKeyStore (s : State) (who h : Nat) (bs : Bytes) : Res := do
  if bs.isEmpty then refuseIf s.keys.kek.isNone 0x0F010D05
  let key ← if bs.isEmpty then .ok [] else s.unwrapped bs
  s.hostAuthority who
  s.hostTxn (.key h) [.blob 9 h (some (natLe 1 (slotMask (s.itemToBe 9 h)) ++ key))]

/-- A write of a link mask (R458). -/
def State.hostMaskStore (s : State) (who h v : Nat) : Res := do
  s.hostAuthority who
  s.hostTxn (.key h) [.blob 9 h (some (natLe 1 v ++ (s.itemToBe 9 h).drop 1))]

/-! ## Repair copies (R428) -/

/-- The key of the repair copies of a zone. -/
def repairKey (kek : Bytes) (z : Nat) : Bytes :=
  kdf108 kek (kdfInput "ITDAR RPR" (natBe 4 Config.serial.toNat ++ zeroBytes 12 ++ natBe 4 z))

/-- The nonce of a copy. -/
def repairNonce (z gen : Nat) : Bytes := natBe 4 z ++ natBe 8 gen

/-- The item of a repair copy: generation, CRC, tag when it is encrypted, and the region's content. -/
def repairItem (kek : Option Bytes) (z gen : Nat) (frames : Bytes) : Bytes :=
  match kek with
  | some k =>
    let text := gcmCrypt (repairKey k z) (repairNonce z gen) frames
    natLe 8 gen ++ natLe 4 (crc32c text).toNat ++
      gcmTag (repairKey k z) (repairNonce z gen) (natLe 1 z ++ natLe 8 gen) text ++ text
  | none => natLe 8 gen ++ natLe 4 (crc32c frames).toNat ++ frames

/-- The bytes of the 512 frames of a zone. -/
def frameBytes : Nat := 524288

/-- A frame as the committed repair copy of its zone holds it, if there is one. -/
def State.copyFrame (s : State) (f : Nat) : Option Bytes :=
  let z := f / 512
  if !s.hasItem 7 z then none
  else
    let i := s.item 7 z
    let o := f % 512 * 1024
    if i.length = 12 + frameBytes then some (sliceBytes i (12 + o) 1024)
    else match s.keys.kek with
      | some k => some (sliceBytes (gcmCrypt (repairKey k z) (repairNonce z (fieldLe i 0 8)) (i.drop 28)) o 1024)
      | none => none

/-- REPAIR_COPY_STORE: the copy of a zone that has become Ready is requested as one transaction (R428). -/
def State.repairCopies (s : State) (z : Nat) : State :=
  let zn := s.zone z
  let held := zn.stage == .ready || zn.stage == .running
  if !zn.repairDue || !held || s.mode == .save then s
  else
    let gen := Table.get 0 s.cellar.repairGens z + 1
    let frames := (List.range 512).flatMap fun i => s.frame (512 * z + i)
    let s := s.setZone z { zn with repairDue := false }
    let s := { s with cellar := { s.cellar with repairGens := Table.set 0 s.cellar.repairGens z gen } }
    s.wantTxn (.repair z) [.blob 7 z (some (repairItem s.keys.kek z gen frames))]

end Sys2Proof.Machine
end

