-- ==== Sys2Proof/Machine/Scrub.lean ====
section
/-!
DEFINITION. The Loft (R429) and the scrubber (R430 to R436), with SC0's supervision of it (R295).
-/

namespace Sys2Proof.Machine

/-! ## Votes -/

/-- The value on which at least two of three agree. -/
def vote {α : Type} [DecidableEq α] (l : List α) : Option α :=
  match l with
  | [a, b, c] => if a = b ∨ a = c then some a else if b = c then some b else none
  | _ => none

/-- The copies of a signature. -/
def State.loftCopies (s : State) (f : Nat) : List (Option (BitVec 32)) := Table.get [none, none, none] s.loft f

/-- All copies of a signature take a value. -/
def State.setLoft (s : State) (f : Nat) (v : Option (BitVec 32)) : State :=
  { s with loft := Table.set [none, none, none] s.loft f [v, v, v] }

/-- The golden signature of a frame, read as R429 states: a copy that differs is rewritten, and a signature of which all
copies differ comes from the committed repair copy. -/
def State.golden (s : State) (f : Nat) : State × Option (BitVec 32) :=
  let l := s.loftCopies f
  match vote l with
  | some (some v) =>
    if l.all (· == some v) then (s, some v)
    else (((s.setLoft f (some v)).countUp 0x2702 0x0B).cause 0x2702 2 s.now, some v)
  | _ => match s.copyFrame f with
    | some b => (s.setLoft f (some (frameSignature f b)), some (frameSignature f b))
    | none => (s, none)

/-! ## Sweeps (R430, R433) -/

/-- The voted value of each latch, and how many latches had a copy that differed. -/
def voteLatches (copies : List (List Nat)) : List Nat × Nat :=
  (List.range 5).foldl (fun r i =>
    let l := copies.map fun c => c.getD i 0
    let v := (vote l).getD (l.headD 0)
    (r.1 ++ [v], if l.all (· == v) then r.2 else r.2 + 1)) ([], 0)

/-- A range word covers a frame. -/
def rangeHolds (w f : Nat) : Bool := bitOf w 31 && decide (fieldOf w 0 13 ≤ f) && decide (f ≤ fieldOf w 16 13)

/-- Whether the sweep examines a frame. -/
def State.scrubs (s : State) (f : Nat) : Bool :=
  let stage := (s.zone (f / 512)).stage
  s.scrub.active.headD 0 == 1 && (s.scrub.active.drop 1).any (fun w => rangeHolds w f) &&
    (stage == .draining || stage == .ready || stage == .running)

/-- The next frame of the sweep. -/
def State.nextFrame (s : State) : Option Nat := ((List.range 8192).drop s.scrub.next).find? s.scrubs

/-- Whether the scrubber runs (R434, R507). -/
def State.scrubberRuns (s : State) : Bool := s.ready 23 && s.mode != .save && s.mode != .keep && s.mode != .off

/-- The next sweep starts: each latch takes its voted value, and each correction counts (R433). -/
def State.scrubStarts (s : State) : State :=
  let (v, n) := voteLatches s.scrub.copies
  let s := { s with scrub := { s.scrub with copies := [v, v, v], active := v, next := 0, sweepStart := s.now } }
  if n = 0 then s else (s.countUp 0x2702 0x0C n).cause 0x2702 3 s.now

/-- The end of a sweep (R430, R552). -/
def State.scrubSweepEnds (s : State) : State :=
  let c := s.scrub
  if !s.scrubberRuns || c.repair.isSome || s.nextFrame.isSome then s
  else
    let s := (s.countUp 0x2702 6).setObj 0x2702 7 ((s.now - c.sweepStart) / tkUs % 2 ^ 32 : Nat)
    let s := { s with scrub := { c with unrepairable := c.unrepairable && c.foundUnrepairable, foundUnrepairable := false,
                                        lastAdvance := s.now, sweepsSinceReset := c.sweepsSinceReset + 1 } }
    s.scrubStarts

/-! ## Examination and repair (R431, R432, R435) -/

/-- The bits in which two frames differ. -/
def bitsBetween (a b : Bytes) : Nat :=
  (List.zipWith (fun x y => (List.range 8).foldl (fun n i => n + bnat ((x ^^^ y).getLsbD i)) 0) a b).sum

/-- The entry of a repaired or unrepairable frame; its golden signature and the differing bits are free values where the
spec states none (log entry 13). -/
def State.scrubEntry (s : State) (f outcome : Nat) (found : Nat) (stamp : Tk) : State :=
  let free := (Config.freeValue s.fresh).toNat
  let golden := match (s.golden f).2 with
    | some g => g.toNat
    | none => fieldOf free 0 32
  let bits := match s.copyFrame f with
    | some b => min 65535 (bitsBetween b (s.frame f))
    | none => fieldOf free 32 16
  let payload := natLe 2 f ++ natLe 1 (f / 512) ++ natLe 1 outcome ++ natLe 4 found ++ natLe 4 golden ++ natLe 2 bits ++
    zeroBytes 2
  s.nextFresh.blockEntryTo (s.objN 0x2702 0x10) { stamp := stamp, tag := 0x04C0, kind := 0x70, flags := 0, payload := payload }

/-- A frame is unrepairable: its zone is erased (R432). -/
def State.frameLost (s : State) (f outcome found : Nat) (stamp : Tk) : State :=
  let s := s.scrubEntry f outcome found stamp
  let s := { s with scrub := { s.scrub with repair := none, unrepairable := true, foundUnrepairable := true } }
  let s := (s.countUp 0x2702 0x0A).cause 0x2702 1 s.now
  let s := s.logRec s.now 0x04C0 9 (natLe 2 f ++ natLe 1 outcome)
  s.zoneErased (f / 512) 5

/-- Upsets land: in words of memory, Loft copies and the scrubber's latches (R261, R382, R429, R433; log entry 104). -/
def State.takesUpsets (s : State) (u : Upsets) : State :=
  let s := u.words.foldl State.upset s
  let flip (l : List (Option (BitVec 32))) (k : Nat) (v : BitVec 32) := l.modify k fun x => x.map (· ^^^ v)
  let s := u.loft.foldl (fun s x =>
    { s with loft := Table.set [none, none, none] s.loft x.1 (flip (s.loftCopies x.1) x.2.1 x.2.2) }) s
  { s with scrub := { s.scrub with copies := u.latches.foldl (fun c x =>
      c.modify x.1 fun l => l.modify x.2.1 fun v => v ^^^ x.2.2.toNat) s.scrub.copies } }

/-- One frame is examined (R429, R430); `sram` is what an upset has left in the frame. -/
def State.frameCheck (s : State) (f : Nat) (sram : Option Bytes) : State :=
  if !s.scrubberRuns || s.scrub.repair.isSome || s.nextFrame != some f then s
  else
    let s := match sram with
      | some b => { s with frames := Table.set [] s.frames f b }
      | none => s
    let s := ({ s with scrub := { s.scrub with next := f + 1 } }).countUp 0x2702 8
    let found := (frameSignature f (s.frame f)).toNat
    match s.golden f with
    | (s, none) => s.frameLost f 3 found s.now
    | (s, some g) =>
      if g.toNat = found then s
      else if (s.copyFrame f).isNone then s.frameLost f 1 found s.now
      else { s with scrub := { s.scrub with repair := some (f, found, s.now) } }

/-- The rewrite of a frame has been read back; `ok` when it reads as it was written (R431, R432). A frame whose check fails holds
the copy that was written all the same (DESIGN CHOICE, log entry 162). A frame whose zone has left the sweep meanwhile is abandoned
(R434). -/
def State.frameRepaired (s : State) (ok : Bool) : State :=
  match s.scrub.repair with
  | none => s
  | some (f, found, stamp) =>
    if !s.scrubberRuns then s
    else if !s.scrubs f then { s with scrub := { s.scrub with repair := none } }
    else match s.copyFrame f with
      | none => s.frameLost f 1 found stamp
      | some b =>
        let (s, g) := s.golden f
        let rewrite := fun (s : State) => { s with frames := Table.set [] s.frames f b }
        if !ok || g != some (frameSignature f b) then rewrite (s.frameLost f 2 found stamp)
        else
          let s := rewrite (s.scrubEntry f 0 found stamp)
          let s := { s with scrub := { s.scrub with repair := none } }
          let s := ((s.countUp 0x2702 9).setObj 0x2702 0x0E f).setObj 0x2702 0x0F s.now
          s.cause 0x2702 0 s.now

/-! ## Settings and supervision -/

/-- A write of a scrubber setting (R430, R433, R435): ranges and enable reach the latches, and act at the next sweep
start. -/
def State.scrubWrite (s : State) (who sub : Nat) (v : Int) : Res := do
  let n := v.toNat
  if 2 ≤ sub && sub ≤ 5 then refuseIf (fieldOf n 16 13 < fieldOf n 0 13) 0x06090030
  if sub == 0x10 then refuseWith (s.queueRefAbort who n)
  if sub == 0x11 || sub == 0x12 then return s.eventWrite 0x2702 sub n
  let s := s.setObj 0x2702 sub v
  if sub ≤ 5 then
    return { s with scrub := { s.scrub with copies := s.scrub.copies.map fun c => c.set (sub - 1) n } }
  return s

/-- The persistent value of a scrubber setting, or its default (R433). -/
def State.storedSetting (s : State) (sub : Nat) : Int :=
  (Table.get none s.cellar.values (objKey 0x2702 sub)).getD (cardDefault 0x2702 sub)

/-- SC0 finds that the sweep counter has not advanced for more than 100 ms and resets the scrubber (R295, R433, R434);
the second component says that it did so within 1 s of a reset, which moves the device to HOLD. After a reset the 100 ms
count from the reset, while the record names the counter's own last advance (DEDUCED, log entry 63). -/
def State.stallCheck (s : State) : State × Bool :=
  let c := s.scrub
  if !s.scrubberRuns || decide (s.now ≤ c.sweepStart + 100 * tkMs) then (s, false)
  else
    let again := match c.lastReset with
      | some r => decide (s.now ≤ r + tkS)
      | none => false
    let stalled := s.objN 0x2702 6
    let vals := (List.range 5).map fun i => (s.storedSetting (i + 1)).toNat
    let s := s.logRec c.lastAdvance 0x04C0 9 (natLe 2 c.next ++ [0x10#8, 0#8] ++ natLe 4 stalled)
    let s := (List.range 5).foldl (fun s i => s.setObj 0x2702 (i + 1) (s.storedSetting (i + 1))) s
    let s := { s with scrub := { c with copies := [vals, vals, vals], repair := none, lastReset := some s.now,
                                        sweepsSinceReset := 0 } }
    let s := (s.scrubStarts.countUp 0x2702 0x0D).cause 0x2702 4 s.now
    (s, again)

end Sys2Proof.Machine
end

