-- ==== Sys2Proof/Machine/Calib.lean ====
section
/-!
DEFINITION. Calibration (R488 to R505): items and their units, runs, idleness, deadlines and preemption, verification and
quality figures, the storing of a run, and global calibration. Items of a die are numbered 0 to 15 for its quads and 16 to
19 for BC2d, BC2d+1, BS2d and BS2d+1.
-/

namespace Sys2Proof.Machine

/-! ## Items -/

/-- The number of an item. -/
def calItemNo : CalItem → Nat
  | .quad q => q
  | .bus k => 16 + k

/-- The ports of an item. -/
def itemPorts (d item : Nat) : List Nat := if item < 16 then (List.range 4).map fun k => 4 * (16 * d + item) + k else []

/-- The converter that an item holds (R489). -/
def itemConv (d item : Nat) : Nat := if item < 16 then 16 * d + item else 64 + 2 * d + item % 2

/-- An item as 0x262d:09 codes it. -/
def itemCode (d item : Nat) : Nat := if item < 16 then 16 * d + item else 0x40 + (item - 16)

/-- The units of an item in a run (R488, R494). -/
def CalRun.units (r : CalRun) (item : Nat) : List Nat :=
  if 16 ≤ item then [0]
  else if r.whole.contains item then List.range 9
  else ((List.range 4).filter fun k => r.ports.contains (4 * item + k)).map (5 + ·)

/-- The next unit of an item. -/
def CalRun.nextUnit (r : CalRun) (item : Nat) : Nat := (r.units item).getD (Table.get 0 r.unitsDone item) 0

/-- The circuits of an item: figures of ports, converters (256 on) and bus sources (512 on). -/
def itemFigures (d item : Nat) : List Nat :=
  if item < 16 then (256 + 16 * d + item) :: itemPorts d item
  else if item < 18 then [256 + itemConv d item] else [512 + 2 * d + item % 2]

/-- The die of a circuit. -/
def figureDie (i : Nat) : Nat :=
  if i < 256 then i / 64 else if i < 320 then (i - 256) / 16 else if i < 512 then (i - 320) / 2 else (i - 512) / 2

/-! ## Idleness (R490) -/

/-- Whether a converter meets the fourth condition. -/
def State.convIdle (s : State) (q : Nat) : Bool :=
  let c := s.conv q
  (s.objN (0x3200 + q) 1 == 0 || (s.objN (0x3200 + q) 1 == 2 && !c.passRunning)) && c.converting == .nothing &&
    c.slot == .free && !c.calibrationUse

/-- Whether a port lets its quad be idle. -/
def State.portIdle (s : State) (p : Nat) : Bool :=
  let c := s.port p
  let f := s.objN (0x3000 + p) 1
  c.latched.isNone && c.park.isNone &&
    (c.owner.kind == .unheld || (c.owner.kind == .static && (f == 0 || f == 3 || f == 5) && s.objN (0x3000 + p) 0x10 == 0xFF &&
      !s.injects p))

/-- Whether a running map holds a converter (R186). -/
def State.mapUses (s : State) (q : Nat) : Bool := s.mapRunning && s.map.held.contains q

/-- Whether an item of a die is idle. -/
def State.itemIdle (s : State) (d item : Nat) : Bool :=
  let q := itemConv d item
  let held := s.heldResources
  s.convIdle q && !s.mapUses q &&
    (if item < 16 then (itemPorts d item).all (fun p => s.portIdle p && !holdsPort held p) && !holdsConv held q
     else (s.sweep d).step.isNone)

/-! ## Runs (R491 to R493) -/

/-- A run becomes due, with the items that run whole and the ports of which only the in-situ step runs; one that is due or
running stays as it is. -/
def State.runDue (s : State) (d : Nat) (whole ports : List Nat) : State :=
  let r := s.calRun d
  if r.stage != 0 then s
  else
    let left := (List.range 20).filter fun i => whole.contains i || ports.any fun p => p / 4 == i
    s.setCalRun d { r with stage := 1, dueAt := s.now, left := left, whole := whole, ports := ports, unitsDone := [],
                           preempting := [], retryAt := none }

/-- Whether runs are made due and units start in the present mode (R499). -/
def State.calibrates (s : State) : Bool :=
  s.ready 25 && (s.mode == .idle || s.mode == .run || s.mode == .throttle) && !s.cal.global

/-- The check of every period end (R491). -/
def State.runsDue (s : State) : State :=
  if !s.calibrates then s
  else s.each (List.range 4) fun s d =>
    let r := s.calRun d
    let drift := s.obj 0x2610 8 == 1 && decide (s.obj 0x2610 1 < ((s.dieTemp d - r.tref).natAbs : Int))
    if drift || !r.hasSet || r.lastResult == 3 then s.runDue d (List.range 20) [] else s

/-- The retry interval has passed (R493, R494). -/
def State.runRetries (s : State) (d : Nat) : State :=
  let r := s.calRun d
  match r.retryAt with
  | some t => if s.calibrates && decide (t ≤ s.now) then s.runDue d r.retryItems r.retryPorts else s
  | none => s

/-- A die put in its place behind those whose run became due no later. -/
def State.insertRun (s : State) (d : Nat) : List Nat → List Nat
  | [] => [d]
  | x :: xs => if (s.calRun d).dueAt < (s.calRun x).dueAt then d :: x :: xs else x :: s.insertRun d xs

/-- Dies whose run is due or running, the one due earliest first, ties to the lower die (R492). -/
def State.runOrder (s : State) : List Nat :=
  (List.range 4).foldl (fun l d => if (s.calRun d).stage == 1 || (s.calRun d).stage == 2 then s.insertRun d l else l) []

/-- The instant of an item's deadline (R493). -/
def State.calDeadline (s : State) (r : CalRun) : Tk := r.startedAt + s.objN 0x2610 5 * tkMs

/-- The samples after which a preempting unit cuts the running entry; `some 0` between entries (R115, R116, R493). -/
def State.preemptAt (s : State) (d item : Nat) : Option Nat :=
  let q := itemConv d item
  let c := s.conv q
  if c.calibrationUse || s.mapUses q then none
  else match c.converting with
    | .nothing => some 0
    | .entry => if c.aheadAt (s.calDeadline (s.calRun d)) then some 0 else c.blockReached (s.calDeadline (s.calRun d)) s.now
    | _ => none

/-- The item whose next unit starts now: its die, its number, and the samples kept of an entry it preempts. -/
def State.nextItem (s : State) : Option (Nat × Nat × Option Nat) :=
  s.runOrder.findSome? fun d => (s.calRun d).left.findSome? fun i =>
    if s.itemIdle d i then some (d, i, none)
    else if (s.calRun d).preempting.contains i then (s.preemptAt d i).map fun k => (d, i, some k)
    else none

/-- A run starts: its marker is committed as a transaction of its own (R497). -/
def State.runStarts (s : State) (d : Nat) : State :=
  let r := s.calRun d
  if r.stage != 1 then s
  else
    let s := s.setCalRun d { r with stage := 2, startedAt := s.now, tStart := s.dieTemp d, mayPreempt := s.objN 0x2610 4 == 1,
                                    deferred := [], disturbed := [] }
    (s.wantTxn (.marker d) [.blob 3 d (some (natLe 1 d))]).cause 0x2610 0 s.now

/-- The next unit of an item starts: its quad is isolated and its converter held; `cut` is what it leaves of an entry that
it preempts (R489, R492, R493). -/
def State.unitBegins (s : State) (d i : Nat) (cut : Option Nat) : State :=
  let s := s.runStarts d
  let q := itemConv d i
  let s := match cut with
    | some k =>
      let c : Converter := s.conv q
      (if k ≠ 0 then s.cutsEntry q k else if c.converting == Converting.entry then s.setConv q c.notBegun else s).cause 0x2610 6 s.now
    | none => s
  let u : CalUnit := { die := d, item := i, unit := (s.calRun d).nextUnit i, startedAt := s.now, preempted := cut.isSome }
  let s := { s with cal := { s.cal with unit := some u } }
  let s := s.setConv q { s.conv q with calibrationUse := true }
  s.each (itemPorts d i) fun s p => s.settleOwner .enable p

/-- CALIBRATION_UNIT_START: the next unit starts (R489, R492). -/
def State.unitStarts (s : State) : State :=
  if !s.calibrates || s.cal.unit.isSome then s
  else match s.nextItem with
    | none => s
    | some (d, i, cut) => s.unitBegins d i cut

/-- The item past its deadline whose next unit takes an entry boundary of a converter (R118, R493). -/
def State.preempter (s : State) (q : Nat) : Option (Nat × Nat) :=
  if !s.calibrates || s.cal.unit.isSome || s.mapUses q then none
  else s.runOrder.findSome? fun d =>
    let r := s.calRun d
    (r.left.find? fun i => r.preempting.contains i && itemConv d i == q).map fun i => (d, i)

/-- At an entry boundary a unit that may preempt starts, or else the sequence goes on (R116, R118). -/
def State.sequenceGoesOn (s : State) (q : Nat) : State :=
  match s.preempter q with
  | some (d, i) => s.unitBegins d i (some 0)
  | none => s.continuePass q

/-- The running unit releases what it held (R118). -/
def State.unitLeaves (s : State) : State :=
  match s.cal.unit with
  | none => s
  | some u =>
    let q := itemConv u.die u.item
    let s := { s with cal := { s.cal with unit := none } }
    let c := s.conv q
    let s := (s.setConv q { c with calibrationUse := false, boundary := max c.boundary s.now, fresh := true }).continuePass q
    s.each (itemPorts u.die u.item) fun s p => s.settleOwner .disable p

/-- A running unit is abandoned and its values are discarded (R499). -/
def State.unitAbandoned (s : State) : State := s.unitLeaves

/-! ## Figures (R495, R496) -/

/-- The voltage that a verification forces, or reads against, in microvolts: 20 V at a port, the internal reference of
2.048 V at a converter (R106, R495). -/
def figureSpan (i : Nat) : Nat := if i < 256 then 20000000 else 2048000

/-- The limits Lo and Lg of a circuit; those of converters also bound bus sources (log entry 133). -/
def figureLimits (i : Nat) : Nat × Nat := if i < 256 then (1000, 100) else (500, 100)

/-- By how much the span of two readings misses the voltage between them, in microvolts: the gain error times that
voltage. -/
def spanError (i : Nat) (r : UnitResult) : Int := r.atFull - r.atZero - figureSpan i

/-- The gain error in whole ppm. -/
def gainError (i : Nat) (r : UnitResult) : Int := divNear (spanError i r * 1000000) (figureSpan i)

/-- The quality index. -/
def qualityIndex (i : Nat) (r : UnitResult) : Nat :=
  let (lo, lg) := figureLimits i
  255 - min 127 (127 * r.atZero.natAbs / lo) - min 128 (128 * ((spanError i r).natAbs * 1000000) / (lg * figureSpan i))

/-- Whether a circuit is out of limits. -/
def beyondLimits (i : Nat) (r : UnitResult) : Bool :=
  let (lo, lg) := figureLimits i
  decide (lo < r.atZero.natAbs) || decide (lg * figureSpan i < (spanError i r).natAbs * 1000000)

/-- A unit of an item passes: its circuits are deferred no more (R496). -/
def State.unitPasses (s : State) (d item : Nat) : State :=
  s.each (itemFigures d item) fun s i => s.setCalFigure i { s.calFigure i with deferred := false }

/-- A circuit is verified: its figures, or the rejection of its new values (R495). -/
def State.verified (s : State) (d item i : Nat) (r : UnitResult) : State :=
  let s := s.setCalFigure i { s.calFigure i with
    ro := r.atZero, ge := gainError i r, qi := qualityIndex i r, outOfLimits := beyondLimits i r }
  if !beyondLimits i r then s.unitPasses d item
  else
    let x := s.calRun d
    let s := s.setCalRun d { x with deferred := if x.deferred.contains item then x.deferred else x.deferred ++ [item] }
    (s.cause 0x2610 4 s.now).logRec s.now 0x04E3 8 (natLe 1 d ++ natLe 1 (itemCode d item) ++ [5#8])

/-- The circuit that a unit of an item verifies. -/
def unitFigure (d item unit : Nat) : Option Nat :=
  if 18 ≤ item then some (512 + 2 * d + item % 2)
  else if 16 ≤ item then some (256 + itemConv d item)
  else if unit = 0 then some (256 + 16 * d + item)
  else if unit < 5 then some (4 * (16 * d + item) + (unit - 1))
  else none

/-- Whether the in-situ step of a port runs (R494). -/
def State.inSituOn (s : State) (p : Nat) : Bool := bitOf (s.objN 0x2611 (1 + p / 32)) (p % 32)

/-- Whether a pin path is quiet (R494). -/
def State.pathQuiet (s : State) (r : PathReading) : Bool :=
  decide (r.mean.natAbs ≤ s.objN 0x2610 7) && decide (r.peak ≤ 2 * s.objN 0x2610 7)

/-- The in-situ step of a port ends (R494). -/
def State.inSitu (s : State) (d item p : Nat) (r : UnitResult) : State :=
  let quiet := s.pathQuiet r.path && s.pathQuiet r.residual
  let s := s.setCalFigure p { s.calFigure p with disturbed := !quiet }
  if quiet then s.unitPasses d item
  else
    let x := s.calRun d
    (s.setCalRun d { x with disturbed := x.disturbed ++ [p % 64] }).cause 0x2610 3 s.now

/-- What a unit found. -/
def State.unitFound (s : State) (d item unit : Nat) (r : UnitResult) : State :=
  match unitFigure d item unit with
  | some i => s.verified d item i r
  | none =>
    let p := 4 * (16 * d + item) + (unit - 5)
    if s.inSituOn p then s.inSitu d item p r else s.unitPasses d item

/-- An item's last unit has passed: the new values of its circuits that are within limits take effect (R497). -/
def State.itemCompletes (s : State) (d item : Nat) (whole : Bool) (tq : Int) : State :=
  let gen := s.cal.gens + 1
  let s := { s with cal := { s.cal with gens := gen } }
  s.each (itemFigures d item) fun s i =>
    let f := s.calFigure i
    if f.outOfLimits || (!whole && f.disturbed) then s
    else if whole then s.setCalFigure i { f with completed := true, deferred := false, tq := tq, gen := gen }
    else s.setCalFigure i { f with gen := gen }

/-- An item is deferred: its units left are dropped and its circuits keep every old value (R493). -/
def State.itemDeferred (s : State) (d item : Nat) : State :=
  let x := s.calRun d
  let s := s.setCalRun d { x with left := x.left.filter (· != item),
                                  deferred := if x.deferred.contains item then x.deferred else x.deferred ++ [item] }
  let s := s.each (itemFigures d item) fun s i => s.setCalFigure i { s.calFigure i with deferred := true }
  s.cause 0x2610 2 s.now

/-! ## Storing (R497, R505) -/

/-- The calendar time of now, in microseconds (R330). -/
def State.calendarNow (s : State) : Nat := s.objN 0x2300 5 + s.now / tkUs

/-- The record of a circuit in a set: its head and its coefficient block. -/
def State.calRecord (s : State) (d item status i size : Nat) : Bytes :=
  let f := s.calFigure i
  let head := natLe 1 item ++ natLe 1 status ++ natLe 2 (toCode 16 f.tq) ++ natLe 4 (toCode 32 f.ro) ++
    natLe 4 (toCode 32 f.ge) ++ natLe 1 f.qi ++ zeroBytes 3
  head ++ (Config.calCoefficients d item f.gen ++ zeroBytes size).take (size - 16)

/-- The status of a circuit of which no unit runs (R496). -/
def State.restStatus (s : State) (d i : Nat) : Nat :=
  let f := s.calFigure i
  let source := 320 ≤ i && i < 512 && (s.calFigure (512 + (i - 320))).outOfLimits
  if !(s.calRun d).hasSet || !f.completed then 1
  else if f.outOfLimits || source then 5
  else if f.deferred then 3
  else if f.disturbed && decide (i < 256) then 4
  else if s.objN 0x2610 1 < (s.dieTemp d - f.tq).natAbs then 2
  else 0

/-- The set of a die as its figures now are (R505); the head of a quad's record is its converter's. -/
def State.setBytes (s : State) (d : Nat) (tref : Int) : Bytes :=
  let quads := (List.range 16).flatMap fun k =>
    s.calRecord d (itemCode d k) (s.restStatus d (256 + 16 * d + k)) (256 + 16 * d + k) 2048
  let buses := (List.range 2).flatMap fun k =>
    s.calRecord d (0x40 + k) (s.restStatus d (320 + 2 * d + k)) (320 + 2 * d + k) 1024
  let body := quads ++ buses
  natLe 2 1 ++ natLe 1 d ++ [0#8] ++ natLe 4 Config.serial.toNat ++ natLe 8 s.calendarNow ++ natLe 2 (toCode 16 tref) ++
    zeroBytes 42 ++ natLe 4 (crc32c body).toNat ++ body

/-- A run whose items have all completed or been deferred ends: one transaction stores it, and the retry is set
(R493, R494, R497). -/
def State.runEnds (s : State) (d : Nat) : State :=
  let r := s.calRun d
  if r.stage != 2 || !r.left.isEmpty then s
  else
    let retry := if r.deferred.isEmpty && r.disturbed.isEmpty then none else some (s.now + s.objN 0x2610 6 * tkMs)
    let s := s.setCalRun d { r with stage := 3, retryAt := retry, retryItems := r.deferred, retryPorts := r.disturbed }
    s.wantTxn (.calSet d) [.blob 2 d (some (s.setBytes d r.tStart)), .blob 3 d none]

/-- The figures of a die become those of its committed set. -/
def State.figuresStored (s : State) (d : Nat) : State :=
  let here := s.cal.figures.filter fun x => figureDie x.1 == d
  { s with cal := { s.cal with stored := here.foldl (fun t x => Table.set {} t x.1 x.2) s.cal.stored } }

/-- The store of a run has committed (R497). -/
def State.runCommits (s : State) (d : Nat) : State :=
  let r := s.calRun d
  if r.stage != 3 then s
  else
    let result := if r.deferred.isEmpty then 1 else 2
    let s := s.setCalRun d { r with stage := 0, lastResult := result, hasSet := true, tref := r.tStart }
    ((s.figuresStored d).countUp (0x2620 + d) 6).cause 0x2610 1 s.now

/-- The store of a run was abandoned: the set before it stands, and the run counts as interrupted. -/
def State.runStoreFails (s : State) (d : Nat) : State :=
  let r := s.calRun d
  if r.stage != 3 then s else s.setCalRun d { r with stage := 0, lastResult := 3 }

/-- CALIBRATION_UNIT_END (R492, R495). -/
def State.unitEnds (s : State) (r : UnitResult) : State :=
  match s.cal.unit with
  | none => s
  | some u =>
    let d := u.die
    let s := s.unitLeaves
    let s := if !(s.calRun d).left.contains u.item then s
      else
        let s := s.unitFound d u.item u.unit r
        let x := s.calRun d
        let done := Table.get 0 x.unitsDone u.item + 1
        let s := s.setCalRun d { x with unitsDone := Table.set 0 x.unitsDone u.item done }
        if done < (x.units u.item).length then s
        else (s.itemCompletes d u.item (16 ≤ u.item || x.whole.contains u.item) x.tStart).setCalRun d
          { s.calRun d with left := x.left.filter (· != u.item) }
    (s.runEnds d).judgeReady

/-- CALIBRATION_DEADLINE (R493). -/
def State.deadlinePasses (s : State) (d item : Nat) : State :=
  let r := s.calRun d
  if r.stage != 2 || !r.left.contains item || r.preempting.contains item || s.now < s.calDeadline r then s
  else if r.mayPreempt then s.setCalRun d { r with preempting := r.preempting ++ [item] }
  else (s.itemDeferred d item).runEnds d

/-! ## Commands (R498, R499, R502) -/

/-- The command that runs dies. DESIGN CHOICE (log entry 160): a die whose run still stores its set is refused as one that runs. -/
def State.calibrateDies (s : State) : Res := do
  let dies := (List.range 4).filter fun d => bitOf (s.objN 0x2610 3) d
  refuseIf (dies.any fun d => (s.calRun d).stage != 0) 0x0F011003
  return s.each dies fun s d => s.runDue d (List.range 20) []

/-- The command that runs one quad, as a run of its die with that item. -/
def State.calibrateQuad (s : State) : Res := do
  let q := s.objN 0x2610 3
  refuseIf (63 < q) 0x06090030
  refuseIf ((s.calRun (q / 16)).stage != 0) 0x0F011003
  return s.runDue (q / 16) [q % 16] []

/-- The command that cancels due runs. -/
def State.cancelRuns (s : State) : State :=
  s.each (List.range 4) fun s d =>
    let r := s.calRun d
    if r.stage = 1 then s.setCalRun d { r with stage := 0, lastResult := 4, left := [] } else s

/-- The command that begins global calibration: QUIESCE, with no step in flight, no map and no unit (R498); a plan that waits
ends with the change of mode (R206). -/
def State.globalBegins (s : State) (who : Nat) : Res := do
  refuseIf (s.mode != .quiesce || !s.inFlightSteps.isEmpty || s.mapRunning || s.cal.unit.isSome) 0x0F010002
  let s := (s.modeBecomes .calibrate (0x10 + who)).planAborts 7
  let s := { s with cal := { s.cal with global := true } }
  let s := s.each (List.range 72) fun s q => s.convStop q .mode
  return s.settleOwners .enable

/-- A result of the global calibration. -/
def State.globalFound (s : State) (x : GlobalResult) : State :=
  let item := calItemNo x.item
  if item < 16 && 5 ≤ x.unit then s else s.unitFound x.die item x.unit x.r

/-- GLOBAL_CALIBRATION_END: every item of every die has been run; one transaction stores the four sets and deletes the
markers, every due run is satisfied, and the mode returns to QUIESCE (R498). -/
def State.globalEnds (s : State) (rs : GlobalResults) : State :=
  if s.mode != .calibrate || !s.cal.global then s
  else
    let s := s.each (List.range 4) fun s d =>
      s.setCalRun d { s.calRun d with tStart := s.dieTemp d, deferred := [], disturbed := [] }
    let s := rs.foldl State.globalFound s
    let s := s.each (List.range 4) fun s d =>
      s.each (List.range 20) fun s i =>
        if rs.any fun x => x.die.val == d && calItemNo x.item == i then s.itemCompletes d i true (s.calRun d).tStart else s
    let s := s.each (List.range 4) fun s d =>
      let r := s.calRun d
      let retry := if r.deferred.isEmpty then none else some (s.now + s.objN 0x2610 6 * tkMs)
      s.setCalRun d { r with stage := 3, left := [], retryAt := retry, retryItems := r.deferred, retryPorts := [] }
    let changes := (List.range 4).flatMap fun d =>
      [Stored.blob 2 d (some (s.setBytes d (s.calRun d).tStart)), Stored.blob 3 d none]
    let s := s.wantTxn .global changes
    let s := { s with cal := { s.cal with global := false } }
    (s.modeBecomes .quiesce 0).settleOwners .disable

/-- Entry to HOLD or SAVE discards the values of a global calibration (R498). -/
def State.globalDiscarded (s : State) : State := { s with cal := { s.cal with global := false } }

/-! ## Import (R505) -/

/-- The check of a set. -/
def setValid (d : Nat) (b : Bytes) : Bool :=
  b.length == 34880 && fieldLe b 0 2 == 1 && fieldLe b 2 1 == d && fieldLe b 4 4 == Config.serial.toNat &&
    fieldLe b 60 4 == (crc32c (b.drop 64)).toNat

/-- A write of a set. -/
def State.setImports (s : State) (d : Nat) (b : Bytes) : Res := do
  refuseIf (!setValid d b) 0x0F011004
  refuseIf ((s.calRun d).stage != 0) 0x0F011003
  s.hostTxn (.import_ d) [.blob 2 d (some b)]

/-- The figures that the head of a record gives. -/
def recordFigure (b : Bytes) (gen : Nat) : CalFigure :=
  { ro := toSigned 32 (fieldLe b 4 4), ge := toSigned 32 (fieldLe b 8 4), qi := fieldLe b 12 1,
    completed := fieldLe b 1 1 != 1, outOfLimits := fieldLe b 1 1 == 5, deferred := fieldLe b 1 1 == 3,
    disturbed := fieldLe b 1 1 == 4, tq := toSigned 16 (fieldLe b 2 2), gen := gen }

/-- The figures of a port after an import: its record's head gives the quad's, and the port's own lie in the coefficient
block, whose layout the spec leaves to Aethus: free values (log entry 13). -/
def freeFigure (n : Nat) (f : CalFigure) : CalFigure :=
  let v := (Config.freeValue n).toNat
  { f with ro := toSigned 11 (fieldOf v 0 11), ge := toSigned 7 (fieldOf v 11 7), qi := fieldOf v 18 8, disturbed := bitOf v 26,
           outOfLimits := bitOf v 27, deferred := bitOf v 28 }

/-- An imported set takes effect (R505). -/
def State.importCommits (s : State) (d : Nat) : State :=
  let b := s.item 2 d
  let gen := s.cal.gens + 1
  let s := { s with cal := { s.cal with gens := gen } }
  let s := s.each (List.range 16) fun s k =>
    let f := recordFigure (sliceBytes b (64 + 2048 * k) 2048) gen
    let s := s.setCalFigure (256 + 16 * d + k) f
    s.each (itemPorts d k) fun s p => (s.setCalFigure p (freeFigure s.fresh f)).nextFresh
  let s := s.each (List.range 2) fun s k =>
    s.setCalFigure (320 + 2 * d + k) (recordFigure (sliceBytes b (32832 + 1024 * k) 1024) gen)
  (s.setCalRun d { s.calRun d with hasSet := true, tref := toSigned 16 (fieldLe b 16 2) }).figuresStored d

/-! ## What reads show (R496, R502 to R504) -/

/-- Whether a unit of a circuit's item runs. -/
def State.inCalibration (s : State) (i : Nat) : Bool :=
  s.cal.global || match s.cal.unit with
    | some u => (itemFigures u.die u.item).contains i
    | none => false

/-- The status of a circuit: a port, or 256 + converter. -/
def State.calStatus (s : State) (i : Nat) : Nat := if s.inCalibration i then 6 else s.restStatus (figureDie i) i

/-- The next item of a die's run (0x262d:09). -/
def State.nextItemCode (s : State) (d : Nat) : Nat :=
  let r := s.calRun d
  if r.stage != 1 && r.stage != 2 then 0xFF
  else match r.left with
    | i :: _ => itemCode d i
    | [] => 0xFF

/-- A calibration write, after its checks (R502). -/
def State.calibrationWrite (s : State) (who sub : Nat) (v : Int) : Res :=
  let n := v.toNat
  if sub == 2 then
    (if n = 1 then s.calibrateDies else if n = 2 then s.calibrateQuad else if n = 3 then s.globalBegins who
     else if n = 4 then .ok s.cancelRuns else refuse 0x06090030)
  else if sub == 9 || sub == 0x0A then .ok (s.eventWrite 0x2610 sub n)
  else .ok (s.setObj 0x2610 sub v)

end Sys2Proof.Machine
end

