-- ==== Sys2Proof/Machine/CellarOps.lean ====
section
/-!
DEFINITION. The Cellar controller: commit and abandonment with what follows them (R481, R482), compaction (R484), the end
of its work in SAVE (R485), memory errors (R486) and replay (R483).
-/

namespace Sys2Proof.Machine

/-! ## Compaction (R484) -/

/-- Bytes of journal above which it compacts in IDLE. -/
def journalIdle : Nat := 262144

/-- SC0 checks the condition of compaction in IDLE, at each entry to IDLE and at the end of each transaction. -/
def State.compactCheck (s : State) : State :=
  let c := s.cellar
  let holds := s.mode == .idle && decide (journalIdle < c.journal) && c.open_.isNone && c.waiting.isEmpty && c.stage == 2
  { s with cellar := { c with compactSince := if holds then (c.compactSince.orElse fun _ => some s.now) else none } }

/-- Whether compaction may start now. -/
def State.compactDue (s : State) : Bool :=
  let c := s.cellar
  s.mode != .save && c.stage == 2 && c.open_.isNone && (decide (journalHigh < c.journal) ||
    (c.compactSince.isSome && s.mode == .idle && c.waiting.isEmpty))

/-- The contents of a half. -/
def Cellar.half (c : Cellar) (h : Nat) : Directory := c.halves.getD h {}

/-- The directory of a half as its bytes, whose layout the spec does not give. -/
def Directory.bytes (d : Directory) : Bytes :=
  Config.directoryBytes
    (d.values.filterMap (fun x => x.2.map fun v => (itemKey 1 x.1, valueBody x.1 v)) ++
      d.items.filterMap fun x => x.2.map fun b =>
        (x.1, if inHeap (x.1 / 2 ^ 32) then extentBody b (Table.get [] d.heap x.1) else filled b))

/-- A root copy. -/
def Cellar.root (c : Cellar) (k : Nat) : RootCopy := c.roots.getD k {}

/-- The 64 bytes of a root copy (R479). -/
def Cellar.rootBytes (c : Cellar) (k : Nat) : Bytes :=
  let r := c.root k
  let d := (c.half r.half).bytes
  let w := natLe 2 1 ++ natLe 1 r.half ++ zeroBytes 1 ++ natLe 4 r.generation ++ natLe 4 r.firstTxn ++ natLe 4 d.length ++
    natLe 4 (crc32c d).toNat ++ zeroBytes 40
  w ++ natLe 4 (crc32c w).toNat

/-- Whether the root CRC and the directory CRC of a copy both pass (R479). -/
def Cellar.rootValid (c : Cellar) (k : Nat) : Bool := (c.root k).sound && (c.half (c.root k).half).sound

/-- The valid root: of two valid copies the one of higher generation (R479). -/
def Cellar.inForce (c : Cellar) : Option Nat :=
  if c.rootValid 0 && c.rootValid 1 then some (if (c.root 0).generation < (c.root 1).generation then 1 else 0)
  else if c.rootValid 0 then some 0
  else if c.rootValid 1 then some 1
  else none

/-- Whether the directory of a half is as a compaction has written it, or is being written. -/
def Cellar.markHalf (c : Cellar) (h : Nat) (d : Directory) : Cellar := { c with halves := c.halves.set h d }

/-- COMPACTION_START: the inactive half is written from now on. -/
def State.compactStarts (s : State) : State :=
  if s.compactDue then
    let c := { s.cellar with stage := 3, compactSince := none }
    { s with cellar := c.markHalf (1 - c.activeHalf) { c.half (1 - c.activeHalf) with sound := false } }
  else s

/-- COMPACTION_END: the inactive half takes what the active half and the journal hold, the root copy that is not in force is
written, the root switches, and the journal counts as empty. -/
def State.compactEnds (s : State) : State :=
  let c := s.cellar
  if c.stage != 3 then s
  else
    let h := 1 - c.activeHalf
    let c := c.markHalf h { values := c.values, items := c.items, heap := c.heap }
    let r : RootCopy := { half := h, generation := addWrap 32 c.generation 1, firstTxn := c.nextId, sound := true }
    let k := if (c.root 0).half = c.activeHalf && (c.root 0).generation = c.generation && (c.root 0).sound then 1 else 0
    let s := { s with cellar := { c with stage := 2, activeHalf := h, generation := r.generation, firstTxn := r.firstTxn,
                                         roots := c.roots.set k r, journal := 0, records := [], badAt := none } }
    ((s.countUp 0x2600 0x0A).cause 0x2600 0 s.now).nextTxn

/-! ## The end of a transaction (R481, R482) -/

/-- What a commit sets off beyond the stored items. -/
def State.txnDone (s : State) (why : TxnFor) : State :=
  match why with
  | .calSet d => s.runCommits d
  | .global => s.each (List.range 4) State.runCommits
  | .import_ d => s.importCommits d
  | .stream slot => if s.hasItem 5 slot then s.cause 0x2700 4 s.now else s
  | _ => s

/-- What an abandonment sets off. -/
def State.txnLost (s : State) (why : TxnFor) : State :=
  match why with
  | .calSet d => s.runStoreFails d
  | .global => s.each (List.range 4) State.runStoreFails
  | _ => s

/-- Whether the extents of the open transaction find units in the heap. -/
def State.txnFits (s : State) (t : Txn) : Bool := decide (s.heapUsed + t.units ≤ heapCount)

/-- The host write that asked for a transaction is answered (R450, R482). -/
def State.txnAnswers (s : State) (t : Txn) (code : Nat) : State :=
  match t.reply with
  | some r => s.replyLater r code
  | none => s

/-- The refusal of a host write whose transaction finds no heap units (R426, R444, R482). -/
def TxnFor.fullCode : TxnFor → Nat
  | .store | .restore => 0x0F010005
  | .stream _ => 0x0F010D04
  | _ => 0x0F011001

/-- CELLAR_COMMIT; in SAVE the controller closes by itself (R485). -/
def State.cellarCommits (s : State) : State :=
  if s.mode = .save then s else
  match s.cellar.open_ with
  | none => s
  | some t => if s.txnFits t then (((s.commitTxn.txnDone t.why).txnAnswers t 0).nextTxn).compactCheck else s

/-- CELLAR_ABANDON: a failed read-back of a record, at a Cellar address, or a want of heap units. -/
def State.cellarAbandons (s : State) (reason : AbandonReason) : State :=
  if s.mode = .save then s else
  match s.cellar.open_ with
  | none => s
  | some t =>
    match reason with
    | .space =>
      if s.txnFits t then s
      else
        let s := (s.abandonTxn.cause 0x2600 2 s.now).logRec s.now 0x04E2 7 [3#8]
        (((s.txnLost t.why).txnAnswers t t.why.fullCode).nextTxn).compactCheck
    | .readBack addr =>
      let s := s.abandonTxn.logRec s.now 0x04E2 7 ([1#8, 0#8, 0#8, 0#8] ++ natLe 4 addr)
      (((s.txnLost t.why).txnAnswers t (match t.why with | .store | .restore => 0x0F010005 | _ => 0x08000000)).nextTxn).compactCheck

/-- Entry to SAVE: nothing waits or compacts any more (R485). -/
def State.cellarStops (s : State) : State :=
  { s with cellar := { s.cellar with waiting := [], compactSince := none,
                                     stage := if s.cellar.stage = 3 then 2 else s.cellar.stage } }

/-- The end of the Cellar's work in SAVE, within 1 ms of its entry: the open transaction is committed when all its other
records are written, which the spec leaves to the instant (log entry 12), or else abandoned (R485). The power record
takes the action of the log record (R528). -/
def State.cellarCloses (s : State) : State :=
  let (s, act) := match s.cellar.open_ with
    | none => (s, 0)
    | some t =>
      if Config.recordsWritten t.id && s.txnFits t then (s.commitTxn.txnDone t.why, 1)
      else (s.abandonTxn.txnLost t.why, 2)
  { s with power := { s.power with saveAction := act } }

/-! ## Errors (R486) -/

/-- An uncorrectable error is counted, signalled and logged. -/
def State.cellarFault (s : State) (addr : Nat) : State :=
  ((s.countUp 0x2600 0x0C).cause 0x2600 3 s.now).logRec s.now 0x04E2 7 ([2#8, 0#8, 0#8, 0#8] ++ natLe 4 addr)

/-- A record of the journal fails its CRC from now on (R483, R486). -/
def State.recordLost (s : State) (addr : Nat) : State :=
  let off := addr - journalBase
  if off < s.cellar.journal then
    { s with cellar := { s.cellar with badAt := some (min off (s.cellar.badAt.getD off)) } }
  else s

/-- No committed set is in force for a die. -/
def State.setAbsent (s : State) (d : Nat) : State :=
  let s := s.setCalRun d { s.calRun d with hasSet := false }
  { s with cal := { s.cal with stored := s.cal.stored.filter fun x => figureDie x.1 != d } }

/-- An item counts as absent. -/
def State.itemAbsent (s : State) (cls key : Nat) : State :=
  let c := s.cellar
  if cls = 1 then { s with cellar := { c with values := Table.set none c.values key none } }
  else
    let s := { s with cellar := { c with items := Table.set none c.items (itemKey cls key) none
                                         heap := Table.set [] c.heap (itemKey cls key) [] } }
    if cls = 2 then s.setAbsent key else s

/-- Whether a transaction of the journal changes an item, so that its directory entry is no longer what holds it. -/
def Cellar.journalled (c : Cellar) (cls key : Nat) : Bool :=
  c.records.any fun t => match t.ending with
    | .committed cs => cs.any fun x => match x.1 with
      | .value k _ => cls == 1 && k == key
      | .blob m k _ => m == cls && k == key
    | _ => false

/-- An item of the directory is lost: it counts as absent, unless the journal has a later one. -/
def State.itemLost (s : State) (cls key : Nat) : State :=
  let d := s.cellar.half s.cellar.activeHalf
  let d := if cls = 1 then { d with values := Table.set none d.values key none }
    else { d with items := Table.set none d.items (itemKey cls key) none, heap := Table.set [] d.heap (itemKey cls key) [] }
  let s := { s with cellar := s.cellar.markHalf s.cellar.activeHalf d }
  if s.cellar.journalled cls key then s else s.itemAbsent cls key

/-- The data of an item is lost: it counts as absent until it is written again. -/
def State.extentLost (s : State) (cls key : Nat) : State :=
  { s with cellar := { s.cellar with lost := itemKey cls key :: s.cellar.lost } }.itemAbsent cls key

/-- No root is left: the Cellar has failed, and the writes that wait for it are refused. -/
def State.cellarFails (s : State) : State :=
  let gone : List Txn := s.cellar.open_.toList ++ s.cellar.waiting
  let s := { s with cellar := { s.cellar with stage := 5, open_ := none, waiting := [] } }
  gone.foldl (fun s t => s.txnAnswers t 0x08000000) s

/-- A root copy is lost. -/
def Cellar.rootLost (c : Cellar) (k : Nat) : Cellar := { c with roots := c.roots.set k { c.root k with sound := false } }

/-- Whether the address of an error lies where the error is said to hit (R478). -/
def State.errorLies (s : State) : CellarHit → Bool
  | .corrected => true
  | .roots => true
  | .journal addr => liesIn journalBase journalRegion addr
  | .root k addr => liesIn (rootBase k) 64 addr
  | .item cls key addr =>
    let d := s.cellar.half s.cellar.activeHalf
    liesIn (halfBase s.cellar.activeHalf) halfRegion addr &&
      (if cls = 1 then (Table.get none d.values key).isSome else (Table.get none d.items (itemKey cls key)).isSome)
  | .extent cls key addr =>
    if cls = 7 then s.hasItem 7 key && liesIn (repairBase key) repairRegion addr
    else (Table.get [] s.cellar.heap (itemKey cls key)).any fun u => liesIn (heapBase u) heapUnit addr

/-- CELLAR_ECC_ERROR. -/
def State.cellarError (s : State) (h : CellarHit) : State :=
  if !s.errorLies h then s else
  match h with
  | .corrected => s.countUp 0x2600 0x0B
  | .journal addr => (s.cellarFault addr).recordLost addr
  | .item cls key addr => (s.cellarFault addr).itemLost cls key
  | .extent cls key addr => (s.cellarFault addr).extentLost cls key
  | .root k addr =>
    let s := s.cellarFault addr
    let s := { s with cellar := s.cellar.rootLost k }
    if (s.cellar.root (1 - k)).sound then s else s.cellarFails
  | .roots => { s with cellar := (s.cellar.rootLost 0).rootLost 1 }.cellarFault 0 |>.cellarFails

/-! ## Replay (R8, R483) -/

/-- Every committed persistent value replaces its default (R8, R473). -/
def State.applyValues (s : State) : State :=
  let s := s.cellar.values.foldl (fun s x => match x.2 with
    | some v => s.setObjAt x.1 v
    | none => s) s
  s.each [0x1E00, 0x1E01] fun s idx => if s.hasItem 1 (objKey idx 7) then s.setBlob idx 7 (s.item 1 (objKey idx 7)) else s

/-- The settings of a network link (R473). -/
def State.netSettings (s : State) (n : Nat) : NetSettings :=
  { address := s.objN (0x1E00 + n) 3, maskBits := s.objN (0x1E00 + n) 4, gateway := s.objN (0x1E00 + n) 5,
    dhcp := s.objN (0x1E00 + n) 6 == 1, address6 := s.blob (0x1E00 + n) 7, maskBits6 := s.objN (0x1E00 + n) 8 }

/-- What the link settings, the population and the timers are in this power-up (R360, R371, R473, R509). -/
def State.applySettings (s : State) : State :=
  let links := { s.links with nodeId := s.objN 0x1E10 1, enabled := [s.objN 0x1E00 1 == 1, s.objN 0x1E01 1 == 1],
                              nets := [s.netSettings 0, s.netSettings 1], bitRate := s.objN 0x1E10 2,
                              dataBitRate := s.objN 0x1E10 3,
                              safeLink := if s.objN 0x2000 0x0B = 1 && s.objN 0x1E00 1 == 1 then .net0 else .can0 }
  let s := { s with links := links,
                    pantry := { s.pantry with enabled := s.objN 0x2805 1 == 1, space := s.larderSpace },
                    power := { s.power with advance := s.objN 0x2000 0x0A == 0 } }
  let p := s.objN 0x2300 8
  let s := { s with timebase := { s.timebase with syncNext := if p = 0 then none else some ((s.now / p + 1) * p) } }
  let s := (List.range 4).foldl (fun s o =>
    if fieldOf (s.objN (0x2310 + o) 1) 12 2 = 3 then s.setTrigOut o { s.trigOut o with nextTimer := some s.now } else s) s
  let set : List Nat := [s.objN 0x2702 1, s.objN 0x2702 2, s.objN 0x2702 3, s.objN 0x2702 4, s.objN 0x2702 5]
  { s with scrub := { s.scrub with copies := [set, set, set], active := set } }

/-- The failure counters of the Cellar (R424, R460). -/
def State.applyCounters (s : State) : State :=
  let s := { s with keys := { s.keys with failures := fieldLe (s.item 8 0) 0 4 } }
  { s with keyFailures := (List.range 8).foldl (fun t h => Table.set 0 t h (fieldLe (s.item 8 (0x10 + h)) 0 4)) [] }

/-- The calibration sets and the markers without a later set (R497). -/
def State.applySets (s : State) : State :=
  let s := { s with cal := { s.cal with figures := s.cal.stored } }
  s.each (List.range 4) fun s d =>
    let r := s.calRun d
    let s := s.setCalRun d { r with hasSet := s.hasItem 2 d, tref := toSigned 16 (fieldLe (s.item 2 d) 16 2),
                                    lastResult := if s.hasItem 3 d then 3 else r.lastResult }
    if s.hasItem 3 d then s.cause 0x2610 5 s.now else s

/-- The changes of a transaction where a commit record closes it. -/
def JournalTxn.changes (t : JournalTxn) : List (Stored × List Nat) :=
  match t.ending with
  | .committed cs => cs
  | _ => []

/-- What the begin record of a transaction does: it makes the old repair copy of a zone invalid (R481). -/
def JournalTxn.begins (t : JournalTxn) : List (Stored × List Nat) := t.repair.toList.map fun z => (.blob 7 z none, [])

/-- Where an id stops replay: the first transaction below the root's first transaction, or below the one before it. -/
def idStop : Nat → List JournalTxn → Option Nat
  | _, [] => none
  | low, t :: ts => if t.id < low then some t.start else idStop t.id ts

/-- Where replay stops short of the end of the journal, if it does (R483). -/
def Cellar.replayStop (c : Cellar) : Option Nat :=
  match c.badAt, idStop c.firstTxn c.records with
  | some a, some b => some (min a b)
  | a, b => a.orElse fun _ => b

/-- What replay reads from a directory and from the journal up to an offset: each committed transaction before it takes effect,
and the transaction that it cuts is discarded. A repair copy that a lost transaction wrote stays invalid (R481, R483, R486; log
entry 134). -/
def Cellar.replayedTo (c : Cellar) (off : Nat) : Cellar :=
  let kept := c.records.filter fun t => t.upTo ≤ off
  let gone := c.records.filter fun t => off < t.upTo
  let cut := (gone.filter fun t => t.start + recordSize 0 ≤ off).map fun t => { t with upTo := off, ending := .cut }
  let d := c.half c.activeHalf
  let c' := (kept.flatMap (fun t => t.begins ++ t.changes) ++ gone.flatMap (·.begins)).foldl applyStored
    { c with values := d.values, items := d.items, heap := d.heap }
  { c.lost.foldl (fun x k => { x with items := Table.set none x.items k none, heap := Table.set [] x.heap k [] }) c' with
      records := kept ++ cut, journal := off, badAt := none, lost := c.lost }

/-- What replay finds under the valid root (R479, R483): what the Cellar held, or, where the root is another one or replay stops
short, what the directory and the journal give. Without a valid root the Cellar has failed (R486). -/
def Cellar.replayed (c : Cellar) : Cellar :=
  match c.inForce with
  | none => { c with stage := 5 }
  | some k =>
    let r := c.root k
    let c' := { c with activeHalf := r.half, generation := r.generation, firstTxn := r.firstTxn }
    let same := r.half == c.activeHalf && r.generation == c.generation && r.firstTxn == c.firstTxn
    if same && c.replayStop.isNone then c else c'.replayedTo (c'.replayStop.getD c.journal)

/-- The contents that replay finds are those of the Cellar: a die whose set is another one takes the figures of that set. -/
def State.replaysJournal (s : State) : State :=
  let old := s.cellar
  let s := { s with cellar := s.cellar.replayed }
  s.each (List.range 4) fun s d =>
    if Table.get none old.items (itemKey 2 d) == Table.get none s.cellar.items (itemKey 2 d) then s
    else if s.hasItem 2 d then s.importCommits d else s.setAbsent d

/-- CELLAR_REPLAY, but for its readiness bit: committed contents take effect, discarded transactions are counted. A
failed Cellar gives nothing (R486). -/
def State.replays (s : State) : State :=
  let s := if s.cellar.stage = 5 then s else s.replaysJournal
  if s.cellar.stage = 5 then s.applySettings
  else
    let s := s.applyValues.applySettings.applyCounters.applySets
    let dropped := (s.cellar.records.filter fun t => match t.ending with | .committed _ => false | _ => true).length
    let s := (s.setObj 0x2000 0x0C (fieldLe (s.item 0x0B 0) 0 4)).setObj 0x2600 9 dropped
    let s := if dropped = 0 then s else s.cause 0x2600 4 s.now
    let s := { s with cellar := { s.cellar with stage := 2 } }.nextTxn
    if s.pantry.enabled then s.larderState 1 else s

end Sys2Proof.Machine
end

