-- ==== Sys2Proof/Machine/Modes.lean ====
section
/-!
DEFINITION. Modes and faults: the error register (R552), HOLD and its causes (R517 to R521), the entries into IDLE and SAFE
(R509 to R511), the unbind of the fixture cycle (R26, R469), QUIESCE (R515, R516), mode requests (R513), SAVE (R522, R523)
and resets (R525, R526).
-/

namespace Sys2Proof.Machine

/-! ## The error register (R552) -/

/-- The codes of the HOLD causes (R517). -/
def HoldCause.code (c : HoldCause) : Nat :=
  match c with
  | .portRail => 1 | .coreRail => 2 | .interlock => 3 | .overtemperature => 4 | .sensorFault => 5 | .referenceLost => 6
  | .scrubberStall => 7 | .commanded => 8 | .overvoltage => 9

/-- Whether a cause is present. -/
def State.causePresent (s : State) (c : HoldCause) : Bool := s.power.causes.contains c

/-- The word of causes present (0x2000:06). -/
def State.causeWord (s : State) : Nat := bitWord 16 fun n => s.power.causes.any fun c => HoldCause.code c == n

/-- The bits of the error register whose conditions hold now. -/
def State.errorNow (s : State) : Nat :=
  bnat (s.mode == .hold) + 2 * bnat (s.ports.any fun x => x.2.latched.isSome) +
    4 * bnat (s.causePresent .portRail || s.causePresent .coreRail || s.causePresent .overvoltage) +
    8 * bnat (s.causePresent .overtemperature || s.causePresent .sensorFault) +
    16 * bnat (s.causePresent .referenceLost) + 128 * bnat s.scrub.unrepairable

/-- The error register as read: in HOLD each bit that has been set stays 1. -/
def State.errorRegister (s : State) : Nat := if s.mode == .hold then s.power.errorLatched ||| s.errorNow else s.errorNow

/-- In HOLD the bits that are set now stay set, before a condition clears. -/
def State.latchErrors (s : State) : State :=
  if s.mode == .hold then { s with power := { s.power with errorLatched := s.power.errorLatched ||| s.errorNow } } else s

/-! ## HOLD (R517 to R521) -/

/-- The unbind takes its instant (R469). -/
def State.unbindAt (s : State) (at' : Tk) : State :=
  if s.bound then (({ s with cycle := {} }).setObj 0x2104 5 at').cause 0x2100 4 at' else { s with cycle := {} }

/-- The unbind of an entry to HOLD acts once its instant has passed (R469). -/
def State.unbindDue (s : State) : State :=
  match s.cycle.unbindAt with
  | some e => if s.unbindPassed then s.unbindAt e else s
  | none => s

/-- A bound fixture cycle unbinds 2 microseconds after an entry to HOLD, when every port is clamped (R469, R519). -/
def State.unbindLater (s : State) : State :=
  { s with cycle := if s.bound then { s.cycle with releasing := true, toSafe := false, unbindAt := some (s.now + 8000) } else {} }

/-- The device enters HOLD for a cause (R519); `why` is the log record's cause of the mode change. -/
def State.enterHold (s : State) (c : HoldCause) (why : Nat) : State :=
  let s := s.freezePins
  let s := { s with power := { s.power with firstCause := some c, errorLatched := s.errorNow } }
  let s := (s.setObj 0x2000 7 (HoldCause.code c)).setObj 0x2000 8 s.now
  let s := (s.modeBecomes .hold why).cause 0x2000 1 s.now
  let s := (s.setObj 0x2000 4 0xFF).setObj 0x2000 5 0
  let s := (s.streamLosesMode .hold).globalDiscarded
  let s := s.each (List.range 72) fun s q => s.convStop q .mode
  let s := (s.unitAbandoned.planAborts 7).mapAborts 4
  let s := s.resetCores.timingHolds
  let s := s.settleOwners .modeChange
  s.unbindLater.followPins

/-- The record of a cause (R518, R528). -/
def State.causeRecord (s : State) (c : HoldCause) (meas : Int) : State :=
  let detail := natLe 2 (HoldCause.code c) ++ natLe 2 s.causeWord ++ natLe 4 (toCode 32 meas)
  (s.logRec s.now 0x04E0 3 detail).cause 0x2000 2 s.now

/-- A fault of the port rails latches on every port (R67, R517). -/
def State.railFaults (s : State) : State := s.each (List.range 256) fun s p => s.portFault p .rail

/-- The modes that a HOLD cause ends (R512). -/
def Mode.holds : Mode → Bool
  | .idle | .run | .throttle | .quiesce | .calibrate => true
  | _ => false

/-- A cause becomes present: it is recorded and logged, and the device enters HOLD where its mode allows (R514, R518). -/
def State.causeArises (s : State) (c : HoldCause) (meas : Int) : State :=
  let s := { s with power := { s.power with causes := s.power.causes ++ [c] } }
  let s := s.causeRecord c meas
  let s := if s.mode.holds then s.enterHold c 0 else s
  if c = .portRail then s.railFaults else s

/-- A HOLD cause arises with what was measured: in WAKE it waits for the entry to SAFE (R514); one that is already present
changes nothing. -/
def State.raiseCause (s : State) (c : HoldCause) (meas : Int) : State :=
  match s.mode with
  | .off | .keep | .save => s
  | .wake =>
    if s.power.wakeCauses.any fun x => x.1 == c then s
    else { s with power := { s.power with wakeCauses := s.power.wakeCauses ++ [(c, meas)] } }
  | _ => if s.causePresent c then s else s.causeArises c meas

/-- Whether SIO17 with its interlock function is low (R96). -/
def State.interlockLow (s : State) : Bool := s.objN 0x3711 1 == 0x30 && !s.inputLevel 17

/-- Whether every sensor of some die was excluded in the last period (R235). -/
def State.dieUnsensed (s : State) : Bool :=
  (List.range 5).any fun d => ((List.range 16).filter fun n => sensorDie n == d).all (bitOf (s.objN 0x2203 0x11))

/-- Whether what the device itself knows lets a cause end (R517). -/
def State.causeMayEnd (s : State) (c : HoldCause) : Bool :=
  match c with
  | .interlock => !s.interlockLow
  | .overtemperature => decide (s.obj 0x2201 8 ≤ s.gov.tset - 100)
  | .sensorFault => !s.dieUnsensed
  | .referenceLost => s.lockHolds
  | .scrubberStall => decide (2 ≤ s.scrub.sweepsSinceReset)
  | _ => true

/-- A cause is no longer present (R517, R521). -/
def State.clearCause (s : State) (c : HoldCause) : State :=
  if s.mode = .wake then
    (if s.causeMayEnd c then { s with power := { s.power with wakeCauses := s.power.wakeCauses.filter fun x => x.1 != c } } else s)
  else if s.causePresent c && s.causeMayEnd c then
    let s := s.latchErrors
    ({ s with power := { s.power with causes := s.power.causes.filter (· != c) } }).cause 0x2000 2 s.now
  else s

/-! ## Entries into IDLE and SAFE -/

/-- The IDLE gate (R508). -/
def idleGate : Nat := 0x1FEFFF8F

/-- The IDLE conditions (R510). -/
def State.idleReady (s : State) : Bool :=
  (s.objN 0x2001 1 &&& idleGate) == idleGate && s.ready (linkBit s.links.safeLink) && s.power.causes.isEmpty &&
    s.cellar.stage != 5

/-- Every converter takes a new grid, internal references settle and every lane restarts (R107, R133, R331). -/
def State.convertersEnterIdle (s : State) : State :=
  s.each (List.range 72) fun s q =>
    let s := s.setConv q { s.conv q with origin := nextGrid 0 4000 s.now }
    let s := if s.objN (0x3200 + q) 3 = 0 then s.settleReference q (5 * tkMs) else s
    s.restartChain q 7 s.now

/-- Entry into IDLE from SAFE or LOAD (R511). -/
def State.enterIdle (s : State) (why : Nat) : State :=
  let s := { s with power := { s.power with advance := false } }
  let s := s.modeBecomes .idle why
  let s := (s.zeroCores.convertersEnterIdle).createEventQueues
  ((s.resetEvents).settleOwners .modeChange).compactCheck

/-- IDLE from a mode in which the device already worked. -/
def State.returnToIdle (s : State) (why : Nat) : State :=
  (((s.modeBecomes .idle why).setObj 0x2000 4 0xFF).setObj 0x2000 5 0).compactCheck

/-- The boot count rises, the power-up record comes first of its boot, unless SC0 has no place to hold it, and the causes
that arose in WAKE are recorded (R509, R514, R529). -/
def State.powersUp (s : State) : State :=
  let s := { s with log := { s.log with booted := true } }
  let s := if s.cellarFailed then ((s.setObj 0x2000 0x0C 0).countUp 0x5000 7).flushLog
    else
      let n := addWrap 32 (s.objN 0x2000 0x0C) 1
      let s := (s.setObj 0x2000 0x0C n).wantTxn .counter [.blob 0x0B 0 (some (natLe 4 n))]
      let r : LogRecord :=
        { stamp := 0, tag := 0x04E0, kind := 1, flags := 0, boot := n,
          detail := natLe 2 s.power.resetCause ++ natLe 2 (s.power.vsupMv % 65536) ++ natLe 4 (s.objN 0x2600 9) }
      if s.logReady || s.log.held.length < 32 then { s with log := { s.log with held := r :: s.log.held } }.flushLog
      else s.countUp 0x5000 7
  let causes := s.power.wakeCauses
  let s := { s with power := { s.power with wakeCauses := [] } }
  causes.foldl (fun s x => s.raiseCause x.1 x.2) s

/-- Entry into SAFE (R369, R403, R512): no converter samples there (R104), and every pin with a function begins to sense
(R98). -/
def State.enterSafe (s : State) (why : Nat) : State :=
  let old := s.mode
  let s := if old = .load then s else s.unbindDue.streamLosesMode .safe
  -- the queues go while every link still serves, so that their streams tell of it
  let s := if old = .load || old = .wake then s else s.deleteQueues
  let s := ((s.modeBecomes .safe why).setObj 0x2000 4 0xFF).setObj 0x2000 5 0
  let s := match old with
    | .wake => s.powersUp
    | .load => s
    | _ => (s.zonesReset.unitAbandoned).each (List.range 72) State.convHalt
  let s := (s.settleOwners .modeChange).compactCheck
  ((List.finRange 32).foldl (fun s (n : PinNo) => if s.objN (0x3700 + n) 1 = 0 then s else s.startSensing n) s).followPins

/-- The device leaves WAKE when its minimum set is ready (R509). -/
def State.wakeEnds (s : State) : State :=
  if s.mode = .wake && !s.power.rstnLow && [0, 1, 2, 3, 7].all s.ready && s.ready (linkBit s.links.safeLink) then s.enterSafe 0
  else s

/-- A readiness bit sets and stays set (R507, R531). -/
def State.setReady (s : State) (bit : Nat) : State :=
  if s.ready bit then s
  else
    let s := (s.setObj 0x2001 1 (putBit (s.objN 0x2001 1) bit true : Nat)).cause 0x2000 3 s.now
    (if bit = 8 then s.flushLog else if bit = 23 then s.scrubStarts else s).wakeEnds

/-- Whether a function may report itself ready: those of the timebase, the Cellar, the governor and the Larder report with
the commands of their own (R236, R326, R351, R483), and the others where their supply and link stand (R507, R536). -/
def State.mayBeReady (s : State) (bit : Nat) : Bool :=
  !s.power.rstnLow && s.mode != .off && s.mode != .keep && s.mode != .save &&
  match bit with
  | 7 | 16 | 20 => false
  | 9 => s.timebase.everLocked
  | 4 | 28 => s.power.vio.isSome
  | 5 => s.links.enabled.getD 0 false
  | 6 => s.links.enabled.getD 1 false
  | 25 => s.ready 7
  | _ => true

/-- A LOAD ends when its stream has passed or failed (R511). -/
def State.loadSettles (s : State) : State :=
  if s.mode != .load || s.loader.busy then s
  else if s.objN 0x2700 4 = 4 then
    if s.idleReady then s.enterIdle 0
    else { s with power := { s.power with advance := true } }.enterSafe 0
  else { s with power := { s.power with advance := false } }.enterSafe 0

/-- Whether a valid boot slot waits to be loaded in this power-up (R427, R510). -/
def State.bootSlotWaits (s : State) : Bool :=
  s.power.bootLoad && decide (s.objN 0x2700 0x0C < 8) && s.hasItem 5 (s.objN 0x2700 0x0C)

/-- ADVANCE_TO_IDLE: with the advance flag set, the boot load, or else IDLE once its conditions hold (R510). -/
def State.advances (s : State) : State :=
  if s.mode != .safe || !s.power.advance || s.staysSafe then s
  else if s.bootSlotWaits then
    if s.ready 21 && s.ready 22 then
      let s := { s with power := { s.power with bootLoad := false } }
      (s.streamBegins none false true (s.item 5 (s.objN 0x2700 0x0C)) none 0).loadSettles
    else s
  else if s.idleReady then s.enterIdle 0
  else s

/-! ## Bind and unbind (R25, R26, R469) -/

/-- A bind by a session. -/
def State.binds (s : State) (who : Nat) : Res := do
  refuseIf (s.mode != .idle) 0x0F010002
  let s := { s with cycle := { boundBy := some who } }
  let s := s.modeBecomes (if 1 ≤ s.objN 0x2201 1 then .throttle else .run) (0x10 + who)
  let s := ((s.setObj 0x2104 4 s.now).countUp 0x2104 6).cause 0x2100 4 s.now
  return s.settleOwners .bind

/-- Whether some port is in park. -/
def State.anyPark (s : State) : Bool := s.ports.any fun x => x.2.park.isSome

/-- The unbind acts once no port is in park (R26, R514, R516). -/
def State.unbindSettles (s : State) : State :=
  let c := s.cycle
  if !c.releasing || c.unbindAt.isSome || s.anyPark then s
  else
    let s := s.unbindAt s.now
    if c.toSafe then s.enterSafe c.why
    else match s.mode with
      | .run | .throttle => s.returnToIdle c.why
      | .quiesce | .calibrate => s.setObj 0x2000 4 5
      | _ => s

/-- The unbind begins: a running map aborts with the release (R187), and every port returns to its safe state through
park. -/
def State.unbindBegins (s : State) (why : Nat) (toSafe : Bool) (cause : OwnerCause) : State :=
  if !s.bound then s
  else
    let s := { s with cycle := { s.cycle with releasing := true, why := why, toSafe := toSafe } }
    ((s.mapAborts 4).settleOwners cause).unbindSettles

/-- The release command of a session (R26, R469). -/
def State.fixtureReleases (s : State) (who : Nat) : Res := do
  refuseIf (s.bound && s.disp.slot.isSome) 0x0F010103
  return if s.cycle.releasing then s else s.unbindBegins (0x10 + who) false .release

/-- A write of 0x2104:01. -/
def State.cycleCommand (s : State) (who v : Nat) : Res :=
  if v = 1 then s.binds who else if v = 2 then s.fixtureReleases who else refuse 0x06090030

/-! ## QUIESCE (R515, R516) -/

/-- Whether the device is drained. -/
def State.drained (s : State) : Bool :=
  s.mode == .quiesce && s.inFlightSteps.isEmpty && !s.mapRunning && s.cal.unit.isNone &&
    (List.range 4).all (fun m => (s.sweep m).ports.isEmpty) && (List.range 8).all fun n => n == 0 || !(s.core n).routine

/-- QUIESCE_DRAINED. -/
def State.drains (s : State) : State :=
  if s.drained && s.objN 0x2000 5 == 0 then (s.setObj 0x2000 5 1).cause 0x2000 4 s.now else s

/-- The return to the working modes. -/
def State.resumes (s : State) (why : Nat) : State :=
  if s.bound then
    let s := s.modeBecomes (if 1 ≤ s.objN 0x2201 1 then .throttle else .run) why
    ((s.setObj 0x2000 4 0xFF).setObj 0x2000 5 0).judgeReady
  else s.returnToIdle why

/-- The entry to QUIESCE. -/
def State.quiesces (s : State) (why : Nat) : State :=
  ((s.setObj 0x2000 4 s.mode.code).modeBecomes .quiesce why).compactCheck

/-! ## Leaving HOLD (R520) -/

/-- Every latched rail fault clears. -/
def State.clearRails (s : State) : State :=
  s.each (List.range 256) fun s p =>
    if (s.port p).latched = some .rail then s.setPort p { s.port p with latched := none } else s

/-- HOLD is left for IDLE or SAFE; not while a cause is present, nor while the interlock input is low (R96, R520). -/
def State.leaveHold (s : State) (toSafe : Bool) (why : Nat) : Res := do
  refuseIf (!s.power.causes.isEmpty || s.interlockLow) 0x0F011102
  let s := { s with power := { s.power with errorLatched := 0 } }
  let s := s.clearRails.thawPins
  if toSafe then return (s.enterSafe why).followPins
  else return ((s.returnToIdle why).settleOwners .disable).followPins

/-! ## Mode requests (R513) -/

/-- The requests that R512 lists for a mode. -/
def Mode.takes (m : Mode) (v : Nat) : Bool :=
  match m with
  | .safe => v == 5
  | .idle => v == 3 || v == 9 || v == 0x0A
  | .run | .throttle => v == 9 || v == 0x0A
  | .quiesce => v == 3 || v == 6 || v == 0x0A
  | .calibrate => v == 0x0A
  | .hold => v == 3 || v == 5
  | _ => false

/-- The values of the mode request that the card lists. -/
def modeRequests : List Nat := [3, 5, 6, 9, 0x0A]

/-- The authority of R513. -/
def State.deviceAuthority (s : State) (who : Nat) : Option Nat :=
  if who = 0 && (s.mode == .safe || s.mode == .hold) then none else s.claimAbort who clsCycle 0

/-- A request 0x03: from IDLE at once; from QUIESCE when drained, through the unbind (R516); from HOLD (R520). -/
def State.requestSafe (s : State) (why : Nat) : Res :=
  match s.mode with
  | .hold => s.leaveHold true why
  | .quiesce =>
    if !s.drained then refuse 0x0F011101
    else
      let s := s.planAborts 7
      .ok (if s.bound then s.unbindBegins why true .modeChange else s.enterSafe why)
  | _ => .ok (s.enterSafe why)

/-- A request 0x05: from SAFE under the IDLE conditions (R510), or from HOLD (R520). -/
def State.requestIdle (s : State) (why : Nat) : Res :=
  if s.mode = .hold then s.leaveHold false why
  else if s.idleReady then .ok (s.enterIdle why) else refuse 0x0F011101

/-- A mode request, decided in the mode in force at its acceptance (R512, R513). -/
def State.modeRequest (s : State) (who v : Nat) : Res := do
  refuseIf (modeRequests.contains v && (!s.mode.takes v || s.cycle.toSafe)) 0x0F011101
  refuseWith (s.deviceAuthority who)
  let why := 0x10 + who
  if v = 3 then s.requestSafe why
  else if v = 5 then s.requestIdle why
  else if v = 6 then return s.resumes why
  else if v = 9 then return s.quiesces why
  else if v = 0x0A then
    let s := s.causeRecord .commanded 0
    return s.enterHold .commanded why
  else refuse 0x06090030

/-! ## Resets (R525, R526) -/

/-- The tk counter restarts from 0 (R329): lockouts go on with what is left of them, and ran only while VSUP was present (R424,
R460); the calendar has gone on (R330). -/
def State.rebase (s : State) : State :=
  let left := fun (e : Option Tk) => match e with
    | some e => if s.unsupplied then some e else if s.now < e then some (e - s.now) else none
    | none => none
  { s with now := 0, timebase := { s.timebase with calendar := s.timebase.calendar.map (· + (s.now / tkUs : Nat)) }, keys := { s.keys with lockoutUntil := left s.keys.lockoutUntil },
           keyLockouts := s.keyLockouts.filterMap fun x => (left x.2).map fun e => (x.1, some e) }

/-- What a reset or the loss of VSUP leaves: the Cellar, keys, the log, the calendar's state, the supplies and the
signals outside (R526). -/
def State.cold (s : State) (m : Mode) : State :=
  let s := s.rebase
  let c := s.cellar
  { State.reset with
    pending := s.pending, outbox := s.outbox, fresh := s.fresh, mode := m
    pins := s.pins.filterMap fun x => if x.2.outside.isSome then some (x.1, { outside := x.2.outside }) else none
    keys := s.keys, keyFailures := s.keyFailures, keyLockouts := s.keyLockouts
    cellar :=
      { (match c.open_ with | some t => c.closed t .cut | none => c) with
          waiting := [], compactSince := none, stage := if c.stage = 5 then 5 else 0 }
    cal := { stored := s.cal.stored, gens := s.cal.gens }
    timebase := { calendarLost := s.timebase.calendarLost, calendar := s.timebase.calendar }
    links := { moduleSignals := s.links.moduleSignals }
    log := { s.log with held := [], booted := false }
    power := { vsupGood := s.power.vsupGood, vsupMv := s.power.vsupMv, vbat := s.power.vbat, vio := s.power.vio,
               vioFell := s.power.vioFell, vioLast := s.power.vioLast, rstnLow := s.power.rstnLow,
               resetCause := s.power.resetCause, batteryGone := s.power.batteryGone, tap := s.power.tap } }

/-- The battery-backed store and the calendar are lost when VBAT and VSUP are both absent (R425). -/
def State.batteryEmpties (s : State) : State :=
  if s.power.vbat || s.power.vsupGood then s
  else { s with keys := { s.keys with battery := [none, none, none, none] }, power := { s.power with batteryGone := true },
                timebase := { s.timebase with calendarLost := true, calendar := none } }

/-- A power-up after the loss of the battery-backed store tells of it (R425). -/
def State.tellsBattery (s : State) : State :=
  if s.power.batteryGone then
    ({ s with keys := { s.keys with batteryLost := true }, power := { s.power with batteryGone := false } }).cause 0x2700 3 0
  else s

/-- The device enters WAKE after a reset, whose code is kept; the record of the transition is stamped 0 (R512, R525). -/
def State.wakes (s : State) (old : Mode) (cause : Nat) : State :=
  let s := s.cold .wake
  let s := { s with cellar := { s.cellar with stage := if s.cellar.stage = 5 then 5 else 1 } }
  let s := { s with power := { s.power with resetCause := cause } }.setObj 0x2000 9 cause
  let s := (s.setObj 0x2000 0x0E (putBit (s.objN 0x2000 0x0E) 0 true : Nat)).tellsBattery
  s.logRec 0 0x04E0 2 (natLe 1 old.code ++ natLe 1 Mode.wake.code)

/-- VSUP or the device is down: KEEP while VBAT stands, else OFF (R506, R512). -/
def State.goesDark (s : State) : State := (s.cold (if s.power.vbat then .keep else .off)).batteryEmpties

/-- Whether a mode is one from SAFE to HOLD. -/
def Mode.working : Mode → Bool
  | .off | .keep | .wake | .save => false
  | _ => true

/-- A reset by a source of R525: from SAFE to HOLD into WAKE; in WAKE through OFF or KEEP, back to WAKE while VSUP is good
and RSTN is high; without effect in SAVE (R512, R522). -/
def State.resets (s : State) (cause : Nat) : State :=
  if s.mode.working then s.wakes s.mode cause
  else if s.mode = .wake then
    let dark := s.goesDark
    if dark.power.rstnLow then { dark with power := { dark.power with resetCause := cause } } else dark.wakes dark.mode cause
  else s

/-- Whether the Cellar holds no open or waiting transaction. -/
def State.cellarIdle (s : State) : Bool := s.cellar.open_.isNone && s.cellar.waiting.isEmpty

/-- A commanded reset acts once the Cellar is idle, or after 100 ms (R525). -/
def State.resetSettles (s : State) : State :=
  match s.power.resetPending with
  | some e => if s.cellarIdle || decide (e ≤ s.now) then s.resets 4 else s
  | none => s

/-- The reset command: its modes, authority and value (R525). -/
def State.resetCommanded (s : State) (who v : Nat) : Except Refused State := do
  refuseIf (s.mode != .safe && s.mode != .idle && s.mode != .hold) 0x0F011101
  refuseWith (s.deviceAuthority who)
  refuseIf (v != 0x746F6F62) 0x06090030
  let s := s.logRec s.now 0x04E0 0x0D [BitVec.ofNat 8 who]
  return { s with power := { s.power with resetPending := some (s.now + 100 * tkMs) } }

/-- RSTN has been low for 1 microsecond (R525); it reads high while VIO is absent (R536), and in SAVE it only decides how the device
goes on after it (R522). -/
def State.rstnFalls (s : State) : State :=
  if s.power.vio.isNone then s
  else
    let s := { s with power := { s.power with rstnLow := true } }
    s.resets 3

/-- RSTN is high again: the device leaves reset (R525); the tk counter counts from here (R326). -/
def State.rstnRises (s : State) : State :=
  if !s.power.rstnLow then s
  else
    let s := { s with power := { s.power with rstnLow := false } }
    match s.mode with
    | .wake => s.rebase
    | .off | .keep => if s.power.vsupGood then s.wakes s.mode s.power.resetCause else s
    | _ => s

/-! ## Supplies (R506, R512, R522, R523) -/

/-- VSUP has become good at 4.4 V or more: power-up from OFF or KEEP; in SAVE it only decides how SAVE ends. -/
def State.vsupReturns (s : State) (mv : Nat) : State :=
  if mv < 4400 then s else
  let dark := s.mode == .off || s.mode == .keep
  let s := if dark then s.rebase else s
  let cause := if dark then 1 else s.power.resetCause
  let s := { s with power := { s.power with vsupGood := true, vsupMv := mv, resetCause := cause } }
  if dark && !s.power.rstnLow then s.wakes s.mode 1 else s

/-- Entry to SAVE (R522): what runs stops, and nothing is answered any more. -/
def State.enterSave (s : State) (mv : Nat) : State :=
  let old := s.mode
  let s := s.freezePins
  let power := { s.power with vsupGood := false, vsupMv := mv, saveAt := s.now, saveFrom := old, resetPending := none }
  let s := { s with mode := .save, power := power }
  let s := (s.setObj 0x2000 0x0F s.now).setObj 0x2000 0x0E (putBit (s.objN 0x2000 0x0E) 0 true : Nat)
  let s := ({ s with loader := { s.loader with owed := none } }).streamLosesMode .save
  let s := s.each (List.range 72) State.convHalt
  let s := (s.planHalts.mapAborts 4).resetCores
  let s := s.globalDiscarded.unitAbandoned
  let s := { s with scrub := { s.scrub with repair := none } }
  (s.cellarStops.clampAll).followPins

/-- The power-fail condition: VSUP below 4.2 V for 1 microsecond (R18, R506). -/
def State.powerFails (s : State) (mv : Nat) : State :=
  if 4200 ≤ mv then s
  else if s.mode.working then s.enterSave mv
  else
    let dark := s.mode == .off || s.mode == .keep
    let s := if dark then s.rebase else s
    let s := { s with power := { s.power with vsupGood := false, vsupMv := mv } }
    if s.mode = .wake then s.goesDark else if dark then s.batteryEmpties else s

/-- The log record of SAVE, stamped with its entry (R522, R528). -/
def State.saveRecord (s : State) : State :=
  s.logRec s.power.saveAt 0x04E0 5
    (natLe 1 s.power.saveFrom.code ++ natLe 1 s.power.saveAction ++ natLe 2 (s.power.vsupMv % 65536))

/-- SAVE has run to its end (R523). -/
def State.saveEnds (s : State) : State :=
  if s.mode != .save || decide (s.now < s.power.saveAt + 3 * tkMs) then s
  else
    let s := s.cellarCloses.saveRecord
    if s.power.vsupGood then s.wakes .save 2 else s.goesDark

/-- VSUP falls below 3.0 V in SAVE: the rails stop (R523). The Cellar has closed, and the record stands, when their
instants have come (R522); before 1 ms have passed either state of the open transaction may be the one that replay finds, a
free value (R485, log entry 13). -/
def State.saveCollapses (s : State) : State :=
  if s.mode != .save then s
  else
    let closed := decide (s.power.saveAt + tkMs ≤ s.now) || (Config.freeValue s.fresh).getLsbD 0
    let s := { s with power := { s.power with vsupGood := false } }.nextFresh
    let s := if closed then s.cellarCloses else s
    (if s.power.saveAt + 2500 * tkUs ≤ s.now then s.saveRecord else s).goesDark

/-- VBAT reaches 2.0 V. -/
def State.vbatRises (s : State) : State :=
  let s := { s with power := { s.power with vbat := true } }
  if s.mode = .off && !s.power.vsupGood then { s with mode := .keep } else s

/-- VBAT falls below 2.0 V. -/
def State.vbatFalls (s : State) : State :=
  let s := { s with power := { s.power with vbat := false } }
  if s.mode = .keep then s.goesDark else s

/-- The band that a VIO voltage lies in (R533). -/
def vioBand (mv : Nat) : Option Bool :=
  if 1710 ≤ mv && mv ≤ 1890 then some false else if 3135 ≤ mv && mv ≤ 3465 then some true else none

/-- Whether a change of VIO skips from one band to the other without having fallen below 1.2 V (R535). -/
def State.vioSkips (s : State) (mv : Nat) : Bool :=
  match vioBand mv, s.power.vioLast with
  | some b, some l => b != l && !s.power.vioFell
  | _, _ => false

/-- VIO takes a voltage (R535, R536). -/
def State.vioChanges (s : State) (mv : Nat) : State :=
  let band := vioBand mv
  let was := s.power.vio
  let fell := decide (mv < 1200) || (s.power.vioFell && band.isNone)
  let last := band.orElse fun _ => s.power.vioLast
  let s := { s with power := { s.power with vio := band, vioFell := fell, vioLast := last } }
  let s := if was.isSome && band.isNone && s.mode.working then { s with links := { s.links with canState := 2 } } else s
  let s := if band.isNone then s.rstnRises else s
  s.followPins

end Sys2Proof.Machine
end

