-- ==== Sys2Proof/Machine/Sessions.lean ====
section
/-!
DEFINITION. Sessions and claims: opening by challenge and proof (R459, R460), the end of a session (R462, R463), claim lists
and releases (R465 to R468, R475) and what the end of each claim does (R79, R120, R150, R187, R319, R338, R369, R404).
-/

namespace Sys2Proof.Machine

/-! ## The end of a claim -/

/-- The sources that the fixture cycle's claim configures (R319); a pin with a CAN FD function belongs to its engine (R95).
-/
def State.cycleSources (s : State) : List Nat :=
  (List.range 512).filter fun n =>
    (320 ≤ n && n < 328) || (408 ≤ n && n < 440 && s.sourceClaim n == [(clsCycle, 0)]) || (444 ≤ n && n != 456)

/-- The sources of the CAN FD pins of an engine. -/
def State.canSources (s : State) (e : Nat) : List Nat :=
  (440 + e) :: (List.range 12).filterMap fun n =>
    if n / 3 = e && isCanFunction (s.objN (0x3700 + n) 1) then some (408 + n) else none

/-- The configurations of sources return to their defaults (R321). -/
def State.sourcesUnclaimed (s : State) (l : List Nat) : State := s.each l State.sourceUnclaimed

/-- An engine is disabled. -/
def State.engineOff (s : State) (idx : Nat) : State :=
  match s.engineEnables 255 idx 0 with
  | .ok t => t
  | .error _ => s

/-- A CAN FD engine is disabled. -/
def State.canOff (s : State) (e : Nat) : State :=
  match s.canEnables e 0 with
  | .ok t => t
  | .error _ => s

/-- A converter and its chain lose the claims that R120 names. -/
def State.convLosesClaim (s : State) (q : Nat) : State := (s.convStop q .claim).chainClaimEnds q

/-- What the end of one claim does, beyond ports, converters and the fixture cycle's unbind (R467). -/
def State.claimEffect (s : State) (cls n : Nat) : State :=
  match cls with
  | 1 => (s.mapLosesPoint n 3).sourceUnclaimed n
  | 2 => (s.zoneClaimEnds n).sourcesUnclaimed ((328 + n) :: (List.range 4).map fun k => 344 + 4 * n + k)
  | 3 => s.queueClaimEnds n
  | 4 => (s.canOff n).sourcesUnclaimed (s.canSources n)
  | 5 => s.engineOff (0x3610 + n)
  | 6 => s.engineOff (0x3618 + n)
  | 7 => s.engineOff (0x3620 + n)
  | 8 => ((s.mapAborts 3).mapperDisables).sourceUnclaimed 456
  | _ => (s.each ((List.range 8).map (64 + ·)) State.convLosesClaim).timingClaimEnds.sourcesUnclaimed s.cycleSources

/-- Claims of a session end at one instant; those it does not hold are ignored (R467). Ports leave the masks and reach their
defaults before anything else parks them (R79). -/
def State.endClaims (s : State) (who : Nat) (rs : List (Nat × Nat)) : State :=
  let mine := rs.filter fun r => s.holder r.1 r.2 == some who
  let s := mine.foldl (fun s r => s.setHolder r.1 r.2 none) s
  let s := (mine.filter fun r => r.1 == clsPort).foldl (fun s r => s.portClaimEnds .claimEnded r.2) s
  let s := mine.foldl (fun s r => s.stepsLoseClaim r.1 r.2) s
  let s := mine.foldl (fun s r => s.claimEffect r.1 r.2) s
  let quads := ((mine.filter fun r => r.1 == clsPort).map fun r => r.2 / 4).eraseDups
  let s := quads.foldl (fun s q => (s.convLosesClaim q).sourceUnclaimed (256 + q)) s
  if mine.isEmpty then s else s.cause 0x2100 3 s.now

/-- Everything that a session holds. -/
def State.heldBy (s : State) (who : Nat) : List (Nat × Nat) :=
  (s.claims.filter fun x => x.2 == some who).map fun x => (x.1 / 2 ^ 20, x.1 % 2 ^ 20)

/-! ## Claim lists (R465, R466) -/

/-- An entry: class, first and last number. -/
structure ClaimEntry where
  cls : Nat
  first : Nat
  last : Nat
  word : Nat

/-- An entry of its word. -/
def claimEntry (w : Nat) : ClaimEntry := { cls := fieldOf w 0 8, first := fieldOf w 8 20, last := fieldOf w 32 20, word := w }

/-- The entries of a list. -/
def claimEntries (bs : Bytes) : List ClaimEntry :=
  (List.range (bs.length / 8)).map fun i => claimEntry (fieldLe bs (8 * i) 8)

/-- How many numbers a class has. -/
def classSize (cls : Nat) : Nat := [0, 256, 16, 0x100000, 4, 8, 8, 8, 1, 1].getD cls 0

/-- The queues that exist in a range. -/
def State.queuesIn (s : State) (a b : Nat) : List Nat :=
  (s.queues.filter fun x => x.2.isSome && decide (a ≤ x.1) && decide (x.1 ≤ b)).map (·.1)

/-- Whether an entry is valid for a session (R465, R466). -/
def State.entryValid (s : State) (who : Nat) (e : ClaimEntry) : Bool :=
  fieldOf e.word 28 4 == 0 && fieldOf e.word 52 12 == 0 && decide (e.first ≤ e.last) && decide (e.last < classSize e.cls) &&
    (e.cls != clsQueue || (
      (s.queuesIn e.first e.last).length == e.last + 1 - e.first &&
      (List.range 8).all fun n => n == who || decide (eventQueue n < e.first ∨ e.last < eventQueue n)))

/-- Whether another session holds a resource of an entry. -/
def State.heldElsewhere (s : State) (who : Nat) (e : ClaimEntry) : Bool :=
  s.claims.any fun x => x.1 / 2 ^ 20 == e.cls && decide (e.first ≤ x.1 % 2 ^ 20 ∧ x.1 % 2 ^ 20 ≤ e.last) &&
    match x.2 with
    | some h => h != who
    | none => false

/-- The resources of an entry that can be claimed: a session's own event queue is accepted without change. -/
def ClaimEntry.resources (e : ClaimEntry) : List (Nat × Nat) :=
  ((List.range (e.last + 1 - e.first)).map fun i => (e.cls, e.first + i)).filter fun r =>
    !(r.1 == clsQueue && isEventQueue r.2)

/-- A session takes claims; its ports follow their owners (R76). -/
def State.takeClaims (s : State) (who : Nat) (rs : List (Nat × Nat)) : State :=
  (rs.foldl (fun s r => s.setHolder r.1 r.2 (some who)) s).settleOwners .claimTaken

/-- The check of the entries of a list. -/
def State.listAbort (s : State) (who : Nat) (bs : Bytes) : Option Nat :=
  if (claimEntries bs).all (s.entryValid who) then none else some 0x06090030

/-- CLAIM (R466): all or nothing; after a refusal for another holder the query entry reads the first such entry. -/
def State.claims_ (s : State) (who : Nat) (bs : Bytes) : Res := do
  refuseWith (s.listAbort who bs)
  match (claimEntries bs).find? (s.heldElsewhere who) with
  | some e => refuseAfter 0x0F010101 (s.setOwn who 0x2103 1 (e.word &&& 0x000FFFFF0FFFFFFF))
  | none => return s.takeClaims who ((claimEntries bs).flatMap ClaimEntry.resources)

/-- Claims are released; the fixture cycle's goes through its release first (R467). -/
def State.releaseList (s : State) (who : Nat) (rs : List (Nat × Nat)) : Res := do
  let cycle := rs.contains (clsCycle, 0) && s.holder clsCycle 0 == some who && s.bound
  refuseIf (cycle && s.disp.slot.isSome) 0x0F010103
  let s := if cycle && !s.cycle.releasing then s.unbindBegins (0x10 + who) false .release else s
  return s.endClaims who rs

/-- RELEASE (R467). -/
def State.releases (s : State) (who : Nat) (bs : Bytes) : Res := do
  refuseWith (s.listAbort who bs)
  s.releaseList who ((claimEntries bs).flatMap ClaimEntry.resources)

/-- RELEASE_ALL (R467). -/
def State.releasesAll (s : State) (who v : Nat) : Res :=
  if v = 1 then s.releaseList who (s.heldBy who) else .ok s

/-- CLAIM_QUERY (R475): the holder of the entry's first resource is captured. -/
def State.queries (s : State) (who v : Nat) : State :=
  let e := claimEntry v
  (s.setOwn who 0x2103 1 v).setOwn who 0x2103 2 ((s.holder e.cls e.first).getD 0xFF)

/-! ## Leases and the end of a session (R462, R463) -/

/-- The lease that an opening is granted. -/
def grantedLease (asked : Nat) : Nat := if asked = 0 then 2000 else max 100 (min 60000 asked)

/-- What a session's number holds of its own returns to its defaults. -/
def State.clearOwn (s : State) (n : Nat) : State :=
  { s with objs := s.objs.filter fun o => o.1 / 2 ^ 24 != n + 1 }

/-- A session ends: the fixture cycle, streams, claims, events, programs, loader, transfer and number, in the order of
R463; `why` is the cause of a mode change (R528). -/
def State.endSession (s : State) (n why : Nat) : State :=
  if !s.isOpen n then s
  else
    let s := if s.holder clsCycle 0 = some n then
        let s := s.planAborts 5
        if s.cycle.releasing then s else s.unbindBegins why false .release
      else s
    let s := s.closeStreamsOf n closedBySession
    let s := s.endClaims n (s.heldBy n)
    let s := s.endSubscriptions n
    let s := ((s.endPrograms n).streamLosesSession n).loadSettles
    let s := if n = 0 then { s with links := { s.links with usdo := none } } else s
    ((s.clearOwn n).setSession n {}).cause 0x2100 1 s.now

/-- LEASE_EXPIRED (R27, R462). -/
def State.leaseExpires (s : State) (n : Nat) : State :=
  let x := s.session n
  if s.isOpen n && !s.executing n && decide (x.renewed + x.lease * tkMs ≤ s.now) then (s.countUp 0x2100 4).endSession n 0
  else s

/-- The remaining lease in ms. -/
def State.leaseLeft (s : State) (n : Nat) : Nat :=
  let x := s.session n
  if s.executing n then x.lease else (x.renewed + x.lease * tkMs - s.now) / tkMs

/-- CLOSE: refused while the session holds a bound cycle and a plan runs (R463). -/
def State.closeAbort (s : State) (n : Nat) : Option Nat :=
  if s.holder clsCycle 0 = some n && s.bound && s.disp.slot.isSome then some 0x0F010103 else none

/-! ## Opening a session (R458 to R461) -/

/-- The code of a link. -/
def linkCode (l : Link) : Nat :=
  match l with
  | .can0 => 0
  | .net0 => 1
  | .net1 => 2

/-- The label, session, link and nonces that a proof or a session key is computed over. -/
def openingText (label : String) (n link : Nat) (a b : Bytes) : Bytes :=
  strBytes label ++ natLe 1 0 ++ natLe 1 n ++ natLe 1 link ++ a ++ b

/-- The proof that the host owes. -/
def hostProof (key : Bytes) (n link : Nat) (hn dn : Bytes) : Bytes := hmacSha256 key (openingText "ITDAR SES" n link hn dn)
/-- The proof that the device gives. -/
def deviceProof (key : Bytes) (n link : Nat) (hn dn : Bytes) : Bytes := hmacSha256 key (openingText "ITDAR DEV" n link dn hn)
/-- The session key. -/
def sessionKey (key : Bytes) (n link : Nat) (hn dn : Bytes) : Bytes := hmacSha256 key (openingText "ITDAR KEY" n link hn dn)

/-- The device nonce that is drawn next. -/
def State.nonce (s : State) : Bytes := (List.range 16).map fun i => Config.deviceNonce s.fresh (BitVec.ofNat 8 i)

/-- Whether a key slot is locked out (R460). -/
def State.slotLocked (s : State) (h : Nat) : Bool :=
  match Table.get none s.keyLockouts h with
  | some e => decide (s.now < e)
  | none => false

/-- Whether the link mask of a slot admits a link (R458). -/
def State.linkAdmitted (s : State) (h link : Nat) : Bool := bitOf (slotMask (s.item 9 h)) link

/-- The refusal of an opening by its key slot: empty, not for this link, or locked out. -/
def State.slotRefusal (s : State) (h link : Nat) : Option Nat :=
  if 7 < h || (s.hostKey h).isNone || !s.linkAdmitted h link then some 0x0F010E03
  else if s.slotLocked h then some 0x0F010E04 else none

/-- An opening is refused: it is counted and signalled (R460). -/
def State.openingRefused (s : State) : State := (s.countUp 0x2100 2).cause 0x2100 2 s.now

/-- The lockout of a slot with a count of failures (R460). -/
def lockoutSpan (count : Nat) : Nat := min 3600 (60 * 2 ^ (count - 8)) * tkS

/-- A failure of a waiting opening counts against its key slot (R460). -/
def State.slotFails (s : State) (h : Nat) : State :=
  if 7 < h then s
  else
    let n := addWrap 32 (Table.get 0 s.keyFailures h) 1
    let s := { s with keyFailures := Table.set 0 s.keyFailures h n }
    let s := s.wantTxn .counter [.blob 8 (0x10 + h) (some (natLe 4 n))]
    let s := s.logRec s.now 0x04E5 0x0B (natLe 1 1 ++ natLe 1 h ++ natLe 2 0 ++ natLe 4 n)
    if n < 8 then s
    else
      let s := { s with keyLockouts := Table.set none s.keyLockouts h (some (s.now + lockoutSpan n)) }
      s.logRec s.now 0x04E5 0x0B (natLe 1 2 ++ natLe 1 h ++ natLe 2 0 ++ natLe 4 n)

/-- A waiting opening ends without a session: its number is free again. -/
def State.openingEnds (s : State) (n : Nat) : State :=
  let s := s.setSession n {}
  if n = 0 then s.setBlob 0x2105 2 [] else s

/-- A waiting opening fails its proof, or finds none in time (R460). -/
def State.openingFails (s : State) (n : Nat) : State :=
  ((s.slotFails (s.session n).slot).openingEnds n).openingRefused

/-- A session opens with its key; its per-session objects start at their defaults (R459, R474). -/
def State.sessionOpens (s : State) (n : Nat) (x : Session) : State :=
  let s := s.clearOwn n
  (s.setSession n { x with stage := .open_, opened := s.now, renewed := s.now }).cause 0x2100 0 s.now

/-- An accepted proof resets the count of its slot (R460). -/
def State.slotPasses (s : State) (h : Nat) : State :=
  if Table.get 0 s.keyFailures h = 0 then s
  else ({ s with keyFailures := Table.set 0 s.keyFailures h 0 }).wantTxn .counter [.blob 8 (0x10 + h) none]

/-- Whether an opening of a number waits for its proof, in time (R459). -/
def State.openingWaits (s : State) (n : Nat) : Bool :=
  (s.session n).stage == .reserved && decide (s.now < (s.session n).challengedAt + tkS)

/-- What a proof meets: the state it leaves, and the refusal or the key of the session. -/
def State.judgeProof (s : State) (n : Nat) (hp : Bytes) : State × Except Nat Bytes :=
  let x := s.session n
  let link := linkCode x.link
  if x.stage != .reserved then (s.openingRefused, .error 0x0F010E02)
  else match s.hostKey x.slot with
    | none => ((s.openingEnds n).openingRefused, .error 0x0F010E03)
    | some key =>
      if !s.openingWaits n || hp != hostProof key n link x.hn x.dn then (s.openingFails n, .error 0x0F010E02)
      else match s.slotRefusal x.slot link with
        | some c => ((s.openingEnds n).openingRefused, .error c)
        | none => (s.slotPasses x.slot, .ok key)

/-- A session of a proof that has passed. -/
def Session.keyed (x : Session) (n : Nat) (key : Bytes) : Session :=
  { x with ks := sessionKey key n (linkCode x.link) x.hn x.dn }

/-- Readiness of an opening (R551). -/
def State.openingReady (s : State) : Bool := s.ready 3 && s.ready 7

/-! ### CAN0 -/

/-- SESSION_OPEN_WRITE: an opening of session 0, or the provisioning session (R458 to R460). -/
def State.canOpens (s : State) (bs : Bytes) : Res := do
  let h := fieldLe bs 0 1
  if s.isOpen 0 then refuseAfter 0x0F010E05 s.openingRefused
  else if h = 0xFF && s.provisioning then
    let x : Session := { slot := 0xFF, lease := grantedLease (s.objN 0x2105 5) }
    return ((s.setBlob 0x2105 2 []).setBlob 0x2105 4 []).sessionOpens 0 x
  else match s.slotRefusal h 0 with
    | some c => refuseAfter c s.openingRefused
    | none =>
      let x : Session := { stage := .reserved, slot := h, hn := sliceBytes bs 1 16, dn := s.nonce, challengedAt := s.now,
                           lease := grantedLease (s.objN 0x2105 5) }
      return ((s.setSession 0 x).setBlob 0x2105 2 x.dn).nextFresh

/-- SESSION_PROOF_WRITE (R459, R460). -/
def State.canProves (s : State) (bs : Bytes) : Res :=
  let x := s.session 0
  match s.judgeProof 0 bs with
  | (t, .error c) => refuseAfter c t
  | (t, .ok key) =>
    let t := (t.setBlob 0x2105 2 []).setBlob 0x2105 4 (deviceProof key 0 0 x.hn x.dn)
    .ok (t.sessionOpens 0 (x.keyed 0 key))

/-! ### NET -/

/-- An untagged refusal of an opening (R460). -/
def State.refuseOpening (s : State) (d : Datagram) (code : Nat) : State := s.sendUntagged d.session d.opcode 3 d.reqId (natLe 4 code)

/-- The first condition of R460 that refuses an OPEN, with the slot it names. -/
def State.openAbort (s : State) (d : Datagram) : Option Nat :=
  if !s.openingReady then some 0x0F010002
  else if d.payload.length ≠ 24 then some 0x06070010
  else if ((List.range 8).filter fun n => n != 0 && (s.session n).stage == .free).isEmpty then some 0x0F010E01
  else s.slotRefusal (fieldLe d.payload 0 1) (linkCode d.link)

/-- Whether the header of an OPEN or a PROOF is as R446 lays it out: the version, sequence 0 and no tag, and in an OPEN the session
0xFF. DESIGN CHOICE (log entry 165): any other is discarded and counted. -/
def openingHeader (d : Datagram) : Bool :=
  d.version == 1 && d.seq == 0 && d.tag.isEmpty && decide (d.payload.length ≤ 1408) && (d.opcode != 1 || d.session == 0xFF)

/-- OPEN (R459 to R461): the lowest free session number is reserved, and CHALLENGE carries its nonce. -/
def State.netOpens (s : State) (d : Datagram) : State :=
  match s.openAbort d with
  | some c => (s.openingRefused).refuseOpening d c
  | none =>
    let n := (((List.range 8).filter fun n => n != 0 && (s.session n).stage == .free).head?).getD 0
    let p := d.payload
    let x : Session := { stage := .reserved, link := d.link, slot := fieldLe p 0 1, addr := d.addr, streamPort := fieldLe p 2 2,
                         lease := grantedLease (fieldLe p 4 4), hn := sliceBytes p 8 16, dn := s.nonce, challengedAt := s.now }
    ((s.setSession n x).nextFresh).sendUntagged n 2 1 d.reqId x.dn

/-- Whether a session's datagrams come from here. -/
def Session.matches_ (x : Session) (d : Datagram) : Bool := x.link == d.link && x.addr == d.addr

/-- PROOF (R459, R460): ACCEPT is the first datagram under the session key. -/
def State.netProves (s : State) (d : Datagram) : State :=
  let n := d.session
  let x := s.session n
  if x.stage != .reserved || n = 0 || !x.matches_ d then s.openingRefused.refuseOpening d 0x0F010E02
  else match s.judgeProof n d.payload with
    | (t, .error c) => t.refuseOpening d c
    | (t, .ok key) =>
      let dp := deviceProof key n (linkCode x.link) x.hn x.dn
      (t.sessionOpens n (x.keyed n key)).sendDatagram n 4 1 d.reqId (natLe 4 x.lease ++ dp)

/-- PROOF_TIMEOUT (R460). -/
def State.proofTimesOut (s : State) (n : Nat) : State :=
  if (s.session n).stage == .reserved && !s.openingWaits n then s.openingFails n else s

/-- KEY_SLOT_LOCKOUT_END (R460). -/
def State.slotUnlocks (s : State) (h : Nat) : State :=
  if s.slotLocked h || s.unsupplied then s else { s with keyLockouts := Table.set none s.keyLockouts h none }

end Sys2Proof.Machine
end

