-- ==== Sys2Proof/Machine/Reads.lean ====
section
/-!
DEFINITION. What an object reads (R443): the values that follow the state of a block are computed at the instant of the
read, every other value is the one the object holds. And the checks of a read (R442, R457, R551).
-/

namespace Sys2Proof.Machine

/-! ## Chapters 15 to 17: links, sessions, modes -/

/-- A version as its card allows it: at most 16 characters of a VISIBLE_STRING (R441, R472). -/
def versionString (b : Bytes) : Bytes := (b.filter fun x => decide (0x20 ≤ x.toNat) && decide (x.toNat ≤ 0x7E)).take 16

/-- The status of CAN0 (0x1E10:04). -/
def State.can0Status (s : State) : Nat :=
  let nmt := match s.links.nmt with | .preOperational => 0 | .operational => 1 | .stopped => 2
  s.links.canState + s.links.canTec % 256 * 2 ^ 8 + s.links.canRxErr % 256 * 2 ^ 16 + nmt * 2 ^ 24

/-- Identity, communication and link objects (R472, R473). -/
def State.liveIdentity (s : State) (idx sub : Nat) : Option Int :=
  if idx == 0x1001 then some s.errorRegister
  else if idx == 0x1018 && sub == 3 then some Config.revision.toNat
  else if idx == 0x1018 && sub == 4 then some Config.serial.toNat
  else if (idx == 0x1E00 || idx == 0x1E01) && sub == 2 then some (Config.mac (if idx == 0x1E00 then 0 else 1)).toNat
  else if (idx == 0x1E00 || idx == 0x1E01) && sub == 9 then
    some (bnat (s.links.blockLock.getD (idx - 0x1E00) false) + 2 * bnat (s.links.addressValid.getD (idx - 0x1E00) false))
  else if idx == 0x1E10 && sub == 4 then some s.can0Status
  else none

/-- The mode object (R22, R515, R517). -/
def State.liveMode (s : State) (sub : Nat) : Option Int :=
  if sub == 1 then some s.mode.code
  else if sub == 5 then some (bnat s.drained)
  else if sub == 6 then some s.causeWord
  else none

/-- Holders as nibbles, 0xF for none (0x2103). -/
def holderNibbles (l : List (Option Nat)) : Nat :=
  (l.zipIdx.map fun x => x.1.getD 15 * 16 ^ x.2).sum

/-- What a session holds (0x2102:04 to 0x2102:0E). DEDUCED (log entry 158): its own event queue counts (R314). -/
def State.liveHeld (s : State) (who sub : Nat) : Option Int :=
  let has := fun (cls : Nat) (n : Nat) => s.holder cls n == some who
  if 4 ≤ sub && sub ≤ 0x0B then some (bitWord 32 fun b => has clsPort (32 * (sub - 4) + b))
  else if sub == 0x0C then some (bitWord 16 (has clsZone))
  else if sub == 0x0D then
    some (bitWord 4 (has clsCan) + bitWord 8 (has clsLin) * 2 ^ 4 + bitWord 8 (has clsSent) * 2 ^ 12 +
      bitWord 8 (has clsPwm) * 2 ^ 20 + bnat (has clsMapper 0) * 2 ^ 28 + bnat (has clsCycle 0) * 2 ^ 29)
  else if sub == 0x0E then
    some ((s.claims.filter fun c => c.1 / 2 ^ 20 == clsQueue && c.2 == some who).length + bnat (s.isOpen who) : Nat)
  else none

/-- The holder map (0x2103); the query is the session's own (R475). -/
def State.liveHolders (s : State) (who sub : Nat) : Option Int :=
  if sub == 1 || sub == 2 then some (s.own who 0x2103 sub)
  else if 3 ≤ sub && sub ≤ 0x22 then
    some (holderNibbles ((List.range 8).map fun k => s.holder clsPort (8 * (sub - 3) + k)))
  else if sub == 0x23 then some (holderNibbles ((List.range 16).map (s.holder clsZone)))
  else if sub == 0x24 then some ((s.holder clsCycle 0).getD 0xFF)
  else none

/-- The object of a session (0x2108 + s). -/
def State.liveSession (s : State) (n sub : Nat) : Option Int :=
  let x := s.session n
  let stage := match x.stage with | .free => 0 | .reserved => 1 | .open_ => 2
  if sub == 1 then some (stage : Nat)
  else if sub == 2 then some (if x.stage == .free then 0xFF else (linkCode x.link : Nat))
  else if sub == 3 then some (if x.stage == .free then 0xFF else (x.slot : Nat))
  else if sub == 5 then some x.opened
  else if sub == 6 then some x.renewed
  else if sub == 7 then some (if x.stage == .open_ then (x.lease : Nat) else 0)
  else none

/-- A host key slot (0x2110 + h). -/
def State.liveKeySlot (s : State) (h sub : Nat) : Option Int :=
  if sub == 2 then some (slotMask (s.item 9 h))
  else if sub == 3 then some (checkValue (s.hostKey h))
  else if sub == 4 then some (Table.get (0 : Nat) s.keyFailures h : Nat)
  else if sub == 5 then some (leftMs (Table.get none s.keyLockouts h) s.now)
  else none

/-- Session and claim objects (R474 to R477); `who` is the session that reads. Once the instant of an unbind at the entry to HOLD
has passed, they tell of it (R469). -/
def State.liveSessions (s : State) (who idx sub : Nat) : Option Int :=
  if idx == 0x2100 then
    (if sub == 1 then some (bitWord 8 s.isOpen)
     else if sub == 6 && s.unbindPassed then some (s.objN 0x2100 6 ||| 16 : Nat) else none)
  else if idx == 0x2101 then
    (if sub == 1 then some who else if sub == 2 then some (s.session who).lease
     else if sub == 3 then some (s.leaseLeft who)
     else if sub == 4 then some (s.session who).waiting.length else none)
  else if idx == 0x2102 then s.liveHeld who sub
  else if idx == 0x2103 then s.liveHolders who sub
  else if idx == 0x2104 then
    (if sub == 2 then some (bnat (s.bound && !s.unbindPassed))
     else if sub == 3 then some (if s.unbindPassed then 0xFF else s.cycle.boundBy.getD 0xFF)
     else if sub == 5 && s.unbindPassed then s.cycle.unbindAt.map fun e => (e : Int) else none)
  else if 0x2108 ≤ idx && idx ≤ 0x210F then s.liveSession (idx - 0x2108) sub
  else if 0x2110 ≤ idx && idx ≤ 0x2117 then s.liveKeySlot (idx - 0x2110) sub
  else none

/-- Cellar and calibration (R500 to R504). -/
def State.liveCellar (s : State) (idx sub : Nat) : Option Int :=
  if idx == 0x2600 then
    (if sub == 1 then some s.cellar.stage else if sub == 2 then some s.cellar.activeHalf
     else if sub == 3 then some s.cellar.generation else if sub == 4 then some s.cellar.journal
     else if sub == 5 then some s.heapFree
     else if sub == 6 then some (match s.cellar.open_ with | some t => t.id | none => 0xFFFFFFFF) else none)
  else if 0x2620 ≤ idx && idx ≤ 0x2623 then
    let d := idx - 0x2620
    let r := s.calRun d
    if sub == 1 then some r.stage
    else if sub == 2 then some r.lastResult
    else if sub == 3 then some r.tref
    else if sub == 5 then some (fieldLe (s.item 2 d) 8 8)
    else if sub == 7 then some (bitWord 20 r.deferred.contains)
    else if sub == 8 then some (bitWord 64 r.disturbed.contains)
    else if sub == 9 then some (s.nextItemCode d)
    else none
  else if 0x2630 ≤ idx && idx ≤ 0x263B && sub != 0 then
    let i := if idx ≤ 0x2637 then 128 * (idx % 2) + (sub - 1) else 256 + (sub - 1)
    let f := s.calFigure i
    let kind := if idx ≤ 0x2637 then (idx - 0x2630) / 2 else idx - 0x2638
    some (if kind = 0 then f.ro else if kind = 1 then f.ge else if kind = 2 then (f.qi : Nat) else (s.calStatus i : Nat))
  else none

/-- The log (R527). -/
def State.liveLog (s : State) (a : Accessor) (sub : Nat) : Option Int :=
  let l := s.log
  if sub == 1 then some l.records.length
  else if sub == 2 then some l.oldest
  else if sub == 3 then some ((l.nextSeq + 2 ^ 32 - 1) % 2 ^ 32 * bnat (!l.records.isEmpty) : Nat)
  else if sub == 4 then some (s.own (accNum a) 0x5000 4)
  else if sub == 6 then some l.overwritten
  else none

/-! ## Chapters 8 to 14 -/

/-- Governor and timebase (R252, R253, R325 to R340). -/
def State.liveGovernor (s : State) (idx sub : Nat) : Option Int :=
  if idx == 0x2201 then (if sub == 2 then some s.vcore else if sub == 0x15 then some s.raisedConverters else none)
  else if idx == 0x2202 then (if sub == 7 then some s.gov.bucket else none)
  else if idx == 0x2300 then (if sub == 1 then some s.now else if sub == 2 then some s.timeStatus else none)
  else if 0x2310 ≤ idx && idx ≤ 0x2313 then
    (if sub == 6 then some (s.trigOut (idx - 0x2310)).waiting.length else none)
  else none

/-- The event controller and the step cores (R296, R297, R322, R324). -/
def State.liveEvents (s : State) (who idx sub : Nat) : Option Int :=
  if idx == 0x2400 then
    (if sub == 1 then some (s.sourcesIn (· == .service))
     else if sub == 2 then some (s.sourcesIn fun x => x == .pending || x == .due) else none)
  else if idx == 0x2401 then
    (if sub == 1 then some (0xFFF8 + who) else if sub == 0 || sub == 2 then none else some (s.own who 0x2401 sub))
  else if 0x2418 ≤ idx && idx ≤ 0x243B && sub != 0 then
    let n := idx % 4 * 128 + (sub - 1)
    let x := s.source n
    if idx ≤ 0x241B then some (s.sourceStatus n)
    else if idx ≤ 0x2423 then some x.arrived
    else if idx ≤ 0x242B then some x.delivered
    else if idx ≤ 0x2433 then some x.lost
    else some x.service
  else if idx == 0x2500 then (if sub == 1 then some s.coresBusy else none)
  else if 0x2510 ≤ idx && idx ≤ 0x2517 then
    let n := idx - 0x2510
    if sub == 1 then some (s.coreCode n)
    else if sub == 0x0A then some (s.core n).sess
    else if sub == 0x0B then some ((s.core n).step.getD 0xFFFFFFFF)
    else none
  else none

/-- The loader, the keys and the Cellar slots (R437 to R440). -/
def State.liveLoader (s : State) (idx sub : Nat) : Option Int :=
  if idx == 0x2700 then (if sub == 9 then some 0xFF else none)
  else if idx == 0x2701 then
    let k := s.keys
    if sub == 1 then some s.keyStatus
    else if sub == 8 then some k.policy
    else if sub == 9 then some k.minVersion
    else if sub == 0x0B then some k.failures
    else if sub == 0x0C then some (leftMs k.lockoutUntil s.now)
    else if sub == 0x0D then some (checkValue k.kek)
    else if sub == 0x0E then some (checkValue k.ek)
    else if 0x0F ≤ sub && sub ≤ 0x12 then some (checkValue (k.battery.getD (sub - 0x0F) none))
    else none
  else if 0x2740 ≤ idx && idx ≤ 0x2747 then
    let h := s.item 5 (idx - 0x2740)
    if sub == 2 then some (s.streamSlotState (idx - 0x2740))
    else if sub == 3 then some h.length
    else if sub == 4 then some (fieldLe h 12 4)
    else if sub == 5 then some (fieldLe h 10 2)
    else none
  else none

/-- The fabric and its zones (R405, R406). -/
def State.liveZones (s : State) (idx sub : Nat) : Option Int :=
  if idx == 0x2710 then
    (if sub == 1 then some (s.zoneBits fun z => z.stage == .draining || z.stage == .running)
     else if sub == 2 then some (s.zoneBits fun z => z.stage == .draining || z.stage == .ready || z.stage == .running)
     else if sub == 3 then some (s.zones.map fun z => if z.2.hasImage then z.2.cells else 0).sum else none)
  else
    let z := s.zone (idx - 0x2720)
    if sub == 1 then some (ZoneStage.code z.stage)
    else if sub == 5 then some (if z.stage == .draining then (ZoneStage.code z.next : Nat) else 0)
    else if sub == 6 then some z.imageId
    else if sub == 7 then some z.margin
    else if sub == 8 then some z.cells
    else if sub == 9 then some z.blocks
    else if 0x0A ≤ sub && sub ≤ 0x11 then some (bitWord 32 fun b => z.maskBit (32 * (sub - 0x0A) + b))
    else if sub == 0x12 then some (bitWord 32 fun b => z.decl.pins.any fun p => p.val == b)
    else none

/-- Queues and streams (R350 to R374). DESIGN CHOICE (log entry 150): the counts of queues and of pinned blocks are those of the
queues that exist, 0 before the entry to IDLE creates the event queues (R342), where the cards give the default 8. -/
def State.liveQueues (s : State) (who idx sub : Nat) : Option Int :=
  if idx == 0x2800 then
    (if sub == 1 then
       some (s.freeBlocks + s.ownedBlocks * 2 ^ 16 + s.spillingBlocks * 2 ^ 32 + s.pantry.storeBlocks * 2 ^ 40)
     else if sub == 2 then some s.queues.length
     else if sub == 3 then some s.pinnedCount
     else if sub == 4 then some (if s.pantry.larderReady then s.pantry.space else 0)
     else if sub == 5 then some s.larderReserved else none)
  else if idx == 0x2803 then
    if 1 ≤ sub && sub ≤ 8 then some (match s.stream who (sub - 1) with | some st => st.queue | none => 0xFFFFFFFF)
    else if 0x11 ≤ sub && sub ≤ 0x18 then
      some (match s.stream who (sub - 0x11) with | some st => st.granted + st.consumed * 2 ^ 32 | none => 0)
    else if 0x19 ≤ sub && sub ≤ 0x20 then
      some (match s.stream who (sub - 0x19) with
        | some st => (match s.queue st.queue with | some qu => qu.front | none => 0)
        | none => 0)
    else if sub == 0x29 || sub == 0x2A then some (s.own who 0x2803 sub)
    else none
  else none

/-- The window object (R373). -/
def State.liveWindow (s : State) (a : Accessor) (idx sub : Nat) : Option Int :=
  let q := s.windowQueue a idx
  if sub == 1 then some q
  else if sub == 0x0A then some (s.refs q)
  else if sub == 0x0B then some (match s.streamsOn q with | x :: _ => x.1 | [] => 0xFF)
  else match s.queue q with
    | none => none
    | some qu =>
      if sub == 2 then some (qu.capacity + qu.share * 2 ^ 32 + qu.policy * 2 ^ 46)
      else if sub == 3 then some (qu.share + qu.policy * 2 ^ 14)
      else if sub == 6 then some qu.entries.length
      else if sub == 7 then some qu.refused
      else if sub == 0x0C then some ((qu.larder + blockEntries - 1) / blockEntries)
      else none

/-! ## Chapters 2 to 7 -/

/-- Ports, service pins, converters and chains. -/
def State.liveCells (s : State) (idx sub : Nat) : Option Int :=
  if idx ≤ 0x30FF then
    let p := idx - 0x3000
    if sub == 0x18 then some (s.portStatus p)
    else if sub == 0x19 then some (match (s.port p).latched with | some c => (PortCause.code c : Nat) | none => 0)
    else if sub == 0x1B then some (real32 (dissipation (s.port p).uv (s.port p).na) (10 ^ 15))
    else if sub == 0x22 then some (s.checkStatus (p / 4))
    else none
  else if idx ≤ 0x31FF then
    let p : PortNo := Fin.ofNat 256 idx
    let o := (s.port p).owner
    if sub == 1 then some (OwnerKind.code o.kind)
    else if sub == 2 then some o.unit
    else if sub == 3 then some (s.enabledOwners p)
    else if sub == 9 then some (s.eventStatus p)
    else none
  else if idx ≤ 0x32FF then
    let q := idx - 0x3200
    if sub == 0x0A then some (s.conv q).triggers.length
    else if sub == 0x0C then some (s.convStatus q)
    else if sub == 0x0D then some (s.currentEntry q)
    else if sub == 0x18 then some (s.effectivePeriod q)
    else none
  else
    let n := idx - 0x3300
    if sub == 0x0A then some (s.fineDecimation n)
    else if sub == 0x0B then some (real32 (4 * 10 ^ 9) (s.fineDecimation n * s.effectivePeriod n))
    else if sub == 0x0C then some (s.statedDelay n)
    else if sub == 0x0D then some (s.groupDelay2 n)
    else if sub == 0x0F then some (s.chainStatus n)
    else none

/-- The plan objects (R232). -/
def State.livePlans (s : State) (idx sub : Nat) : Option Int :=
  if idx == 0x3500 then (if sub == 8 then some (12582912 - s.planBytes 4 : Nat) else none)
  else if idx == 0x3501 then
    let mA := fun (x : Nat) => (x + 500000) / 1000000
    if sub == 1 then some s.planState
    else if sub == 2 then some (s.disp.slot.getD 0xFF)
    else if sub == 4 then some s.inFlightSteps.length
    else if sub == 6 then some (s.readySteps.filter fun x => x.2.deferCause != 0).length
    else if sub == 7 then some (match s.firstDeferred with | some x => x.1 | none => 0xFFFFFFFF)
    else if sub == 8 then some (match s.firstDeferred with | some x => x.2.deferCause | none => 0)
    else if sub == 0x0C then some (mA (s.standingCurrent none))
    else if 0x0D ≤ sub && sub ≤ 0x10 then some (mA (s.standingCurrent (some (sub - 0x0D))))
    else if sub == 0x11 then some (s.committed none none)
    else none
  else if idx ≤ 0x3513 then
    let i := s.planImage (idx - 0x3510)
    if sub == 2 then some (s.slotState (idx - 0x3510))
    else if sub == 3 then some i.length
    else if sub == 4 then some (planId i)
    else if sub == 5 then some (stepCount i)
    else none
  else
    let m := idx - 0x3520
    let c := s.sweep m
    if sub == 1 then some (bnat c.step.isSome)
    else if sub == 2 then some (c.step.getD 0xFFFFFFFF)
    else if sub == 3 then some c.point
    else if sub == 4 then some (s.busSourceStatus m)
    else none

/-- The mapper, its references, the engines and the service pins. -/
def State.liveUnits (s : State) (idx sub : Nat) : Option Int :=
  if idx == 0x3401 then (if sub == 1 then some (MapPhase.code s.map.phase) else none)
  else if 0x3410 ≤ idx && idx ≤ 0x341F then
    let b := s.item 6 (idx - 0x3410)
    if sub == 2 then some (fieldLe b 2 2) else if sub == 3 then some (fieldLe b 8 4) else none
  else if 0x3500 ≤ idx && idx ≤ 0x3523 then s.livePlans idx sub
  else if 0x3600 ≤ idx && idx ≤ 0x3603 then (if sub == 8 then some (s.canStatus (idx - 0x3600)) else none)
  else if 0x3700 ≤ idx && idx ≤ 0x371F then
    (if sub == 4 then some (bnat (s.inputLevel (idx - 0x3700)))
     else if sub == 8 then some (s.pinStatus (idx - 0x3700)) else none)
  else none

/-! ## A read -/

/-- The value that follows the state of a block, where an object has one. -/
def State.live (s : State) (a : Accessor) (idx sub : Nat) : Option Int :=
  let who := s.sessionOf a
  if sub == 0 && idx != 0x1001 then none
  else if idx < 0x2000 then s.liveIdentity idx sub
  else if idx == 0x2000 then s.liveMode sub
  else if idx ≤ 0x20FF then none
  else if idx ≤ 0x21FF then s.liveSessions who idx sub
  else if idx ≤ 0x23FF then s.liveGovernor idx sub
  else if idx ≤ 0x25FF then s.liveEvents who idx sub
  else if idx ≤ 0x26FF then s.liveCellar idx sub
  else if 0x2710 ≤ idx && idx ≤ 0x272F then s.liveZones idx sub
  else if idx ≤ 0x27FF then s.liveLoader idx sub
  else if idx == 0x2802 then some (s.own (accNum a) 0x2802 1)
  else if idx ≤ 0x2FFF then s.liveQueues who idx sub
  else if idx ≤ 0x33FF then s.liveCells idx sub
  else if idx ≤ 0x3FFF then s.liveUnits idx sub
  else if idx ≤ 0x4FFF then s.liveWindow a idx sub
  else s.liveLog a sub

/-- The value that an object reads. -/
def State.readValue (s : State) (a : Accessor) (idx sub : Nat) : Int := (s.live a idx sub).getD (s.obj idx sub)

/-- The bytes that a DOMAIN or string reads (R451). -/
def State.readBlob (s : State) (a : Accessor) (idx sub : Nat) : Bytes :=
  if idx == 0x1008 then strBytes "IZ-7256"
  else if idx == 0x1009 then versionString Config.hardwareVersion
  else if idx == 0x100A then versionString Config.firmwareVersion
  else if 0x2108 ≤ idx && idx ≤ 0x210F then (s.session (idx - 0x2108)).addr
  else if 0x2510 ≤ idx && idx ≤ 0x2517 then s.eccBytes (localBase (idx - 0x2510)) 0x100000
  else if idx == 0x2640 then s.item 2 (sub - 1)
  else if 0x2720 ≤ idx && idx ≤ 0x272F then s.eccBytes (zoneBase (idx - 0x2720)) blockBytes
  else if 0x2740 ≤ idx && idx ≤ 0x2747 then s.item 5 (idx - 0x2740)
  else if 0x3300 ≤ idx && idx ≤ 0x33FF then
    s.blob idx sub ++ zeroBytes (8192 - (s.blob idx sub).length)
  else if 0x3410 ≤ idx && idx ≤ 0x341F then s.item 6 (idx - 0x3410)
  else if 0x3510 ≤ idx && idx ≤ 0x3513 then s.planImage (idx - 0x3510)
  else if 0x4000 ≤ idx && idx ≤ 0x4FFF then
    if sub == 5 then s.descriptor (s.windowQueue a idx)
    else match s.headEntry (s.windowQueue a idx) with
      | some e => e.bytes
      | none => []
  else if idx == 0x5000 then s.log.readFrom (s.own (accNum a) 0x5000 4)
  else s.blob idx sub

/-- What reading the bytes of a DOMAIN from an offset leaves behind: words of memory with ECC are corrected or counted
(R261, R382). -/
def State.domainHasRead (s : State) (idx offset len : Nat) : State :=
  if 0x2510 ≤ idx && idx ≤ 0x2517 then s.afterRead (localBase (idx - 0x2510) + offset) (min len (0x100000 - offset))
  else if 0x2720 ≤ idx && idx ≤ 0x272F then s.afterRead (zoneBase (idx - 0x2720) + offset) (min len (blockBytes - offset))
  else s

/-- The refusals of a read that a chapter gives beyond R442 and R551: block memory in its states (R383), and a damaged
queue (R363). -/
def State.readConflict (s : State) (a : Accessor) (idx sub : Nat) : Option Nat :=
  if 0x2720 ≤ idx && idx ≤ 0x272F && sub == 0x1D then
    (if s.blockReadable (idx - 0x2720) then none else some 0x0F010C01)
  else if 0x4000 ≤ idx && idx ≤ 0x4FFF && sub == 8 then
    match s.queue (s.windowQueue a idx) with
    | some qu => if qu.damaged then some 0x0F01080A else none
    | none => none
  else none

/-- The checks of a read (R442): the card of the object it reads. -/
def State.readChecks (s : State) (a : Accessor) (idx sub : Nat) : Except Refused Card := do
  refuseIf (cardsOf idx).isNone 0x06020000
  match cardOf idx sub with
  | none => refuse 0x06090011
  | some c =>
    refuseIf (c.acc == .wo) 0x06010001
    refuseWith (s.sessionAbort a idx sub false)
    refuseWith (s.readyAbort idx sub false)
    refuseWith (s.readConflict a idx sub)
    return c

/-- A read: the card of the object and the bytes it reads (R441, R443). -/
def State.readObject (s : State) (a : Accessor) (idx sub : Nat) : Except Refused (Card × Bytes) := do
  let c ← s.readChecks a idx sub
  return (c, if c.ty.isBytes then s.readBlob a idx sub else c.ty.encode (s.readValue a idx sub))

end Sys2Proof.Machine
end

