-- ==== Sys2Proof/Machine/Dictionary.lean ====
section
/-!
DEFINITION. What a write of an object does once its common checks have passed (R442, R443): each index goes to the chapter
that owns it. And the stores of R444.
-/

namespace Sys2Proof.Machine

/-! ## Storing every setting (R444) -/

/-- Subindexes that act as commands, or clear causes, and hold no setting. -/
def isCommandSub (idx sub : Nat) : Bool :=
  (idx == 0x1010 || idx == 0x1011) || (idx == 0x2000 && sub == 2) || (idx == 0x2104 && sub == 1) ||
  (idx == 0x2300 && sub == 7) || (0x2310 ≤ idx && idx ≤ 0x2313 && sub == 5) ||
  (0x2510 ≤ idx && idx ≤ 0x2517 && sub == 2) || (idx == 0x2610 && sub == 2) ||
  (0x2720 ≤ idx && idx ≤ 0x272F && sub == 2) ||
  match blockSubs idx with
  | some (_, cau) => sub == cau
  | none => false

/-- Indexes that hold storable objects: the ranges of R444 without the interfaces of sessions and the host key slots. -/
def storableIndex (idx : Nat) : Bool :=
  (0x1000 ≤ idx && idx ≤ 0x27FF || idx == 0x2800 || 0x3700 ≤ idx && idx ≤ 0x371F) &&
  !([0x2101, 0x2102, 0x2401].contains idx) && !(0x2110 ≤ idx && idx ≤ 0x2117)

/-- The storable subindexes of an index. -/
def storableSubs (idx : Nat) : List Nat :=
  ((cardsOf idx).getD []).flatMap fun c =>
    if (c.acc == .claim || c.acc == .rw) && !c.ty.isBytes then
      ((List.range (c.hi + 1 - c.lo)).map fun k => c.lo + k).filter fun sub => !isCommandSub idx sub
    else []

/-- The keys of every storable object, in ascending order. -/
def storableKeys : List Nat :=
  cardGroups.flatMap fun g => ((List.range (g.last + 1 - g.first)).map fun k => g.first + k).flatMap fun idx =>
    if storableIndex idx then (storableSubs idx).map (objKey idx) else []

/-- The static IPv6 addresses of NET0 and NET1, which R473 makes storable. DEDUCED (log entry 166): R444 excludes DOMAINs, of which
these two would else never take effect. -/
def State.storableBlobs (s : State) : List Stored :=
  [0x1E00, 0x1E01].map fun idx => .blob 1 (objKey idx 7) (some (s.blob idx 7))

/-- A write of 0x1010:01: the present value of every storable object as one transaction. -/
def State.storesAll (s : State) (v : Nat) : Res := do
  refuseIf (v != 0x65766173) 0x06090030
  refuseIf s.cellarFailed 0x0F010005
  s.hostTxn .store ((storableKeys.map fun k => .value k (some (s.objAt k))) ++ s.storableBlobs) 0x0F010005

/-- A write of 0x1011:01: every persistent object value is deleted. -/
def State.restoresAll (s : State) (v : Nat) : Res := do
  refuseIf (v != 0x64616F6C) 0x06090030
  refuseIf s.cellarFailed 0x0F010005
  s.hostTxn .restore ((s.cellar.values.map fun x => .value x.1 none) ++
    [0x1E00, 0x1E01].map fun idx => .blob 1 (objKey idx 7) none) 0x0F010005

/-! ## Engines (R231) -/

/-- The range refusal of a sample point, 50 to 95 % (R9, R231). -/
def percentAbort (v : Nat) : Option Nat := if 95 < v then some 0x06090031 else if v < 50 then some 0x06090032 else none

/-- A write to a CAN FD engine, after its checks. -/
def State.canWrite (s : State) (who e sub : Nat) (v : Int) : Res := do
  let n := v.toNat
  let idx := 0x3600 + e
  if sub == 1 then s.canEnables e n
  else if sub == 9 then return s.canRecovers e n
  else if sub == 0x0A || sub == 0x0B then return s.eventWrite idx sub n
  else
    if sub == 4 then refuseWith ((percentAbort (fieldOf n 0 8)).orElse fun _ => percentAbort (fieldOf n 8 8))
    if sub == 7 then refuseWith (s.queueRefAbort who n)
    refuseIf ((sub == 2 || sub == 3) && s.objN idx 1 == 1) 0x0F010901
    let s := s.setObj idx sub v
    return if sub == 5 && e < 4 then s.followPin (Fin.ofNat 32 (3 * e + 2)) else s

/-- The subindexes of a LIN, SENT or PWM engine: those that are locked while it is enabled, its receive queue and its
event select. -/
def engineSubs (idx : Nat) : List Nat × Nat × Nat :=
  if idx ≤ 0x3617 then ([2, 3, 4], 6, 9) else if idx ≤ 0x361F then ([2, 4], 5, 7) else ([2], 4, 6)

/-- A format of a SENT receiver: one to six nibbles, and a serial format of the card. -/
def sentFormatOk (n : Nat) : Bool := 1 ≤ fieldOf n 0 3 && fieldOf n 0 3 ≤ 6 && fieldOf n 4 2 != 3

/-- A write to a LIN, SENT or PWM engine, after its checks. -/
def State.engineWrite (s : State) (who idx sub : Nat) (v : Int) : Res := do
  let n := v.toNat
  let (locked, queue, event) := engineSubs idx
  if sub == 1 then s.engineEnables who idx n
  else if sub == event || sub == event + 1 then return s.eventWrite idx sub n
  else
    if sub == 2 then refuseWith (s.claimAbort who clsPort n)
    refuseIf (0x3618 ≤ idx && idx ≤ 0x361F && sub == 4 && !sentFormatOk n) 0x06090030
    if sub == queue then refuseWith (s.queueRefAbort who n)
    refuseIf (locked.contains sub && s.objN idx 1 == 1) 0x0F010901
    return s.setObj idx sub v

/-! ## The device, sessions and streams -/

/-- A write to the mode object, after its checks (R512, R525, R531). -/
def State.deviceWrite (s : State) (who sub : Nat) (v : Int) : Res := do
  let n := v.toNat
  if sub == 2 then s.modeRequest who n
  else if sub == 3 then
    let s ← s.resetCommanded who n
    return s.resetSettles
  else if sub == 0x0D || sub == 0x0E then return s.eventWrite 0x2000 sub n
  else
    refuseIf (sub == 0x0B && decide (1 < n)) 0x06090030
    return s.setObj 0x2000 sub v

/-- A write of a session's own lease: it acts from the write (R462, R474). -/
def State.leaseWrite (s : State) (who n : Nat) : State :=
  s.setSession who { s.session who with lease := n, renewed := s.now }

/-- A write to the session, claim and opening objects, after its checks (R458 to R477). -/
def State.sessionWrite (s : State) (who idx sub : Nat) (v : Int) : Res := do
  let n := v.toNat
  if idx == 0x2100 then return s.unbindDue.eventWrite 0x2100 sub n
  else if idx == 0x2101 then return s.leaseWrite who n
  else if idx == 0x2102 then s.releasesAll who n
  else if idx == 0x2103 then return s.queries who n
  else if idx == 0x2104 then s.cycleCommand who n
  else if idx == 0x2105 then
    refuseIf (n != 0 && decide (n < 100)) 0x06090032
    return s.setObj 0x2105 5 v
  else s.hostMaskStore who (idx - 0x2110) n

/-- A write to the stream object of a session, after its checks (R365 to R367, R372). -/
def State.streamObjectWrite (s : State) (who sub n : Nat) : Res :=
  if sub ≤ 8 then s.streamSlot who (sub - 1) n
  else if sub ≤ 0x10 then streamRes (s.streamGrant who (sub - 9) n)
  else if 0x19 ≤ sub && sub ≤ 0x20 then streamRes (s.streamAck who (sub - 0x19) n)
  else if 0x21 ≤ sub && sub ≤ 0x28 then streamRes (s.streamResend who (sub - 0x21) n)
  else .ok (s.setOwn who 0x2803 sub n)

/-- A write to the event controller's session interface, after its checks (R310, R315, R324). -/
def State.eventInterfaceWrite (s : State) (who sub n : Nat) : Res :=
  if sub == 2 then .ok (s.sessionCompletes who n)
  else if sub == 3 then .ok (s.selectBooks who n)
  else s.subscribe who (sub - 0x10) n

/-- What a request to the loader leaves, LOAD ended where its stream has ended (R511). -/
def loadAfter : Res → Res
  | .ok t => .ok t.loadSettles
  | .error e => .error { e with after := e.after.map State.loadSettles }

/-- A write to the loader, the keys and the scrubber, after its checks (R419, R422 to R427, R433, R436). -/
def State.loaderWrite (s : State) (who idx sub : Nat) (v : Int) : Res := do
  let n := v.toNat
  if idx == 0x2700 then
    if sub == 2 then loadAfter (s.loaderCommand who n)
    else if sub == 9 then loadAfter (s.slotLoad who n)
    else if sub == 0x0A || sub == 0x0B then return s.eventWrite 0x2700 sub n
    else if sub == 0x0C then
      refuseIf (decide (7 < n) && n != 0xFF) 0x06090030
      s.persistWrite 0x2700 0x0C v
    else return s.setObj 0x2700 sub v
  else if idx == 0x2701 then
    if sub == 8 then s.policyStore n
    else if sub == 9 then s.versionStore n
    else return s.clearBattery n
  else s.scrubWrite who sub v

/-! ## Every write of a value -/

/-- Writes below 0x3000, after their checks. -/
def State.lowWrite (s : State) (a : Accessor) (idx sub : Nat) (v : Int) : Res := do
  let who := s.sessionOf a
  let n := v.toNat
  if idx == 0x1010 then s.storesAll n
  else if idx == 0x1011 then s.restoresAll n
  else if idx < 0x2000 then
    refuseIf (idx == 0x1017 && n != 0 && decide (n < 10)) 0x06090032
    return s.setObj idx sub v
  else if idx == 0x2000 then s.deviceWrite who sub v
  else if idx ≤ 0x21FF then s.sessionWrite who idx sub v
  else if idx ≤ 0x22FF then s.governorWrite sub v
  else if idx == 0x2300 then s.timebaseWrite sub v
  else if idx ≤ 0x23FF then s.trigWrite (Fin.ofNat 4 idx) sub v
  else if idx == 0x2401 then s.eventInterfaceWrite who sub n
  else if idx ≤ 0x24FF then s.sourceConfigure ((idx - 0x2410) * 128 + (sub - 1)) n
  else if idx ≤ 0x25FF then s.coreWriteObject who (idx - 0x2510) sub n
  else if idx == 0x2600 then return s.eventWrite 0x2600 sub n
  else if idx == 0x2610 then s.calibrationWrite who sub v
  else if idx ≤ 0x26FF then return s.setObj idx sub v
  else if idx ≤ 0x2702 then s.loaderWrite who idx sub v
  else if idx ≤ 0x27FF then s.zoneWrite who (idx - 0x2720) sub v
  else if idx == 0x2800 then
    return if sub == 0x0E || sub == 0x0F then s.eventWrite 0x2800 sub n else s.setObj 0x2800 sub v
  else if idx == 0x2802 then return s.setOwn (accNum a) 0x2802 1 n
  else if idx == 0x2803 then s.streamObjectWrite who sub n
  else s.larderWrite sub v

/-- A write of fault clear through the dictionary: of a fault whose cause the model does not follow, whether it has gone is
a free value (R69, log entry 13). -/
def State.faultWrite (s : State) (p : PortNo) (v : Int) : Res :=
  (s.latchErrors.nextFresh).clearFault p v ((Config.freeValue s.fresh).getLsbD 0)

/-- Writes from 0x3000 on, after their checks. -/
def State.highWrite (s : State) (a : Accessor) (idx sub : Nat) (v : Int) : Res :=
  let who := s.sessionOf a
  let n := v.toNat
  if idx ≤ 0x30FF then
    (if sub == 0x1A then s.faultWrite (Fin.ofNat 256 idx) v else s.portWrite (Fin.ofNat 256 idx) sub v)
  else if idx ≤ 0x31FF then s.ownerObjectWrite a (Fin.ofNat 256 idx) sub v
  else if idx ≤ 0x32FF then s.convWrite a (idx - 0x3200) sub v
  else if idx ≤ 0x33FF then s.chainWrite a (idx - 0x3300) sub n
  else if idx == 0x3400 then s.mapperWrite who sub n
  else if idx == 0x3500 then s.dispatcherWrite who sub n
  else if 0x3520 ≤ idx && idx ≤ 0x3523 then .ok (s.eventWrite idx sub n)
  else if idx ≤ 0x3603 then s.canWrite who (idx - 0x3600) sub v
  else if idx ≤ 0x3627 then s.engineWrite who idx sub v
  else if idx ≤ 0x371F then s.pinWrite (Fin.ofNat 32 idx) sub v
  else if idx ≤ 0x4FFF then s.windowWrite a idx sub n
  else .ok (s.setOwn (accNum a) 0x5000 4 n)

/-- The effect of an accepted write of a value. -/
def State.valueWrite (s : State) (a : Accessor) (idx sub : Nat) (v : Int) : Res :=
  if idx < 0x3000 then s.lowWrite a idx sub v else s.highWrite a idx sub v

/-! ## Every write of a DOMAIN -/

/-- Bytes with 0 at the places that a condition names. -/
def clearedWhere (f : Nat → Bool) (bs : Bytes) : Bytes := bs.zipIdx.map fun x => if f x.2 then 0#8 else x.1

/-- A DOMAIN as the device takes it: its reserved bytes are 0, whatever was written (R10). They are byte 3 of each record of a
slave table, and bytes 5 to 7 of a frame (R224, R231). -/
def reservedCleared (idx sub : Nat) (bs : Bytes) : Bytes :=
  if 0x3610 ≤ idx && idx ≤ 0x3617 && sub == 7 then clearedWhere (fun i => i % 12 == 3) bs
  else if 0x3600 ≤ idx && idx ≤ 0x3603 && sub == 6 then clearedWhere (fun i => decide (5 ≤ i) && decide (i < 8)) bs
  else bs

/-- The effect of an accepted write of a DOMAIN. -/
def State.domainWrite (s : State) (a : Accessor) (idx sub : Nat) (bs : Bytes) : Res := do
  let who := s.sessionOf a
  let bs := reservedCleared idx sub bs
  if idx == 0x2102 then (if sub == 1 then s.claims_ who bs else s.releases who bs)
  else if idx == 0x2105 then (if sub == 1 then s.canOpens bs else s.canProves bs)
  else if 0x2110 ≤ idx && idx ≤ 0x2117 then s.hostKeyStore who (idx - 0x2110) bs
  else if 0x2510 ≤ idx && idx ≤ 0x2517 then s.localMemoryStore (idx - 0x2510) bs
  else if idx == 0x2640 then s.setImports (sub - 1) bs
  else if idx == 0x2700 then loadAfter (s.streamWrite who bs)
  else if idx == 0x2701 then
    (if sub == 2 then s.kekStore bs else if sub == 3 then s.ekStore who bs else s.batteryStore who (sub - 4) bs)
  else if 0x2720 ≤ idx && idx ≤ 0x272F then s.blockStore (idx - 0x2720) bs
  else if 0x2740 ≤ idx && idx ≤ 0x2747 then s.slotStore (idx - 0x2740) bs
  else if 0x3300 ≤ idx && idx ≤ 0x33FF then s.bankStore (idx - 0x3300) (if sub == 0x18 then .a else .b) bs
  else if 0x3410 ≤ idx && idx ≤ 0x341F then s.referenceStore (idx - 0x3410) bs
  else if 0x3510 ≤ idx && idx ≤ 0x3513 then s.planStore (idx - 0x3510) bs
  else if 0x3600 ≤ idx && idx ≤ 0x3603 then return (← s.canTransmits (idx - 0x3600) bs).setBlob idx sub bs
  else return s.setBlob idx sub bs

/-! ## A write of an object -/

/-- Whether an object is written as bytes. -/
def isByteObject (idx sub : Nat) : Bool :=
  match cardOf idx sub with
  | some c => c.ty.isBytes
  | none => false

/-- A write of an object by a session or step core: the checks of R442, then its effect. -/
def State.writeObject (s : State) (a : Accessor) (idx sub : Nat) (bs : Bytes) : Res :=
  if isByteObject idx sub then s.guardBytes a idx sub bs fun b => s.domainWrite a idx sub b
  else s.guardWrite a idx sub bs fun v => s.valueWrite a idx sub v

/-- A write within a plan step or by a step core (R201, R277), through the same engine; what completes later owes no
answer. -/
def State.put (s : State) (a : Accessor) (idx sub : Nat) (bs : Bytes) : Res :=
  match s.writeObject a idx sub bs with
  | .ok t => .ok (if s.owes t then s.owedTo t none else t)
  | .error e => .error e

end Sys2Proof.Machine
end

