-- ==== Sys2Proof/Machine/Transport.lean ====
section
/-!
DEFINITION. The requests of hosts on their links: the Itdar object transport on NET0 and NET1 (R445 to R453), and CAN0 with
its USDO server, NMT and heartbeat (R454 to R456).
-/

namespace Sys2Proof.Machine

/-! ## Datagrams as they arrive (R446, R448) -/

/-- The object of the link a datagram arrives on. -/
def linkObject (l : Link) : Nat :=
  match l with
  | .net1 => 0x1E01
  | _ => 0x1E00

/-- The tag that a datagram owes under the key of its session (R448). -/
def State.tagFor (s : State) (d : Datagram) : Bytes :=
  datagramTag (s.session d.session).ks
    (datagramHeader d.opcode d.session d.flags d.seq d.reqId d.payload.length) d.payload

/-- Whether a sequence number is new: neither accepted before nor 64 or more below the highest accepted (R448). -/
def Session.freshSeq (x : Session) (seq : Nat) : Bool := decide (x.highest < seq + 64) && !x.accepted.contains seq

/-- The sequence numbers accepted once one more is. -/
def Session.takeSeq (x : Session) (seq : Nat) : Session :=
  let top := max x.highest seq
  { x with highest := top, accepted := (seq :: x.accepted).filter fun n => decide (top < n + 64) }

/-- Whether the session of a datagram is open. -/
def State.datagramOpen (s : State) (d : Datagram) : Bool := decide (d.session < 8) && s.isOpen d.session

/-- Whether the device accepts a datagram of a session (R446, R448). -/
def State.authentic (s : State) (d : Datagram) : Bool :=
  s.datagramOpen d && (s.session d.session).matches_ d && d.version == 1 && decide (d.payload.length ≤ 1408) &&
  d.tag == s.tagFor d && (s.session d.session).freshSeq d.seq

/-- A datagram is discarded without an answer, and counted (R448, R473). -/
def State.discards (s : State) (d : Datagram) : State := (s.countUp 0x2100 3).countUp (linkObject d.link) 0x0B

/-- A datagram is accepted: it is counted, its number is taken and the lease renewed (R448, R462, R473). -/
def State.takesDatagram (s : State) (d : Datagram) : State :=
  let s := (s.countUp (linkObject d.link) 0x0A).renew d.session
  s.setSession d.session ((s.session d.session).takeSeq d.seq)

/-- The untagged notice that the session is not open (R457). -/
def State.notices (s : State) (d : Datagram) : State := s.sendUntagged d.session d.opcode 0x0B d.reqId (natLe 4 0x0F010001)

/-- Whether a datagram reads an object that a session which is not open may reach (R457): such a request is not refused
for its session, but its tag cannot pass. -/
def readsOpenly (d : Datagram) : Bool :=
  (d.opcode == 0x10 || d.opcode == 0x12) && openlessMay (fieldLe d.payload 0 2) (fieldLe d.payload 2 1) false

/-! ## Reads and writes (R447) -/

/-- The type codes of READ. -/
def OType.netCode : OType → Nat
  | .bool => 0x01
  | .i8 => 0x02
  | .i16 => 0x03
  | .i32 => 0x04
  | .u8 => 0x05
  | .u16 => 0x06
  | .u32 => 0x07
  | .real32 => 0x08
  | .str => 0x09
  | .domain => 0x0F
  | .i64 => 0x15
  | .u64 => 0x1B

/-- The index and subindex with which a payload begins. -/
def datagramIndex (d : Datagram) : Nat := fieldLe d.payload 0 2
/-- The subindex. -/
def datagramSub (d : Datagram) : Nat := fieldLe d.payload 2 1

/-- The accessor of a session number. -/
def asSession (n : Nat) : Accessor := .session (Fin.ofNat 8 n)

/-- The payload of the response to a READ. -/
def readPayload (c : Card) (bs : Bytes) : Bytes :=
  if c.ty.isBytes then natLe 1 c.ty.netCode ++ natLe 4 bs.length
  else natLe 1 c.ty.netCode ++ natLe 1 bs.length ++ zeroBytes 2 ++ bs ++ zeroBytes (8 - bs.length)

/-- A request of a session that is answered at once: its payload, or its refusal. -/
def State.answers (s : State) (d : Datagram) (r : Except Refused (State × Bytes)) : State :=
  match r with
  | .ok (t, p) => (s.accepted t).respondCode d.session d.opcode d.reqId 0 p
  | .error e => (e.after.getD s).respondCode d.session d.opcode d.reqId e.code []

/-- A write of a session is answered, now or when it completes (R450). -/
def State.answersWrite (s : State) (d : Datagram) (r : Res) : State :=
  match r with
  | .ok t =>
    if s.owes t then s.owedTo (s.accepted t) (some (.datagram d.session d.opcode d.reqId))
    else (s.accepted t).respondCode d.session d.opcode d.reqId 0 []
  | .error e => (e.after.getD s).respondCode d.session d.opcode d.reqId e.code []

/-- KEEPALIVE: the remaining lease and the mode. -/
def State.netKeepalive (s : State) (d : Datagram) : State :=
  s.respondCode d.session d.opcode d.reqId 0 (natLe 4 (s.leaseLeft d.session) ++ natLe 1 s.mode.code)

/-- READ. -/
def State.netRead (s : State) (d : Datagram) : State :=
  s.answers d (do
    refuseIf (d.payload.length != 3) 0x06070010
    let r ← s.readObject (asSession d.session) (datagramIndex d) (datagramSub d)
    return (s, readPayload r.1 r.2))

/-- WRITE of 1 to 8 bytes. -/
def State.netWrite (s : State) (d : Datagram) : State :=
  let len := fieldLe d.payload 3 1
  s.answersWrite d (do
    refuseIf (d.payload.length != 16 || len == 0 || decide (8 < len)) 0x06070010
    s.writeObject (asSession d.session) (datagramIndex d) (datagramSub d) (sliceBytes d.payload 8 len))

/-- DOMAIN READ: up to 1,024 bytes at an offset, from one instant (R451). -/
def State.netDomainRead (s : State) (d : Datagram) : State :=
  let len := fieldLe d.payload 8 2
  s.answers d (do
    refuseIf (d.payload.length != 10 || len == 0 || decide (1024 < len)) 0x06070010
    let r ← s.readObject (asSession d.session) (datagramIndex d) (datagramSub d)
    return (s.domainHasRead (datagramIndex d) (fieldLe d.payload 4 4) len,
      natLe 4 r.2.length ++ sliceBytes r.2 (fieldLe d.payload 4 4) len))

/-! ## DOMAIN transfers (R451) -/

/-- The refusal of a Cellar write while four requests wait (R481). -/
def State.cellarCrowded (s : State) : Option Nat :=
  if !s.cellarFree && decide (4 ≤ s.cellar.waiting.length) then some 0x0F011002 else none

/-- The code with which a check refuses. -/
def checkCode (c : Check) : Option Nat :=
  match c with
  | .ok _ => none
  | .error e => some e.code

/-- What a chapter refuses in a write of `len` bytes without looking at them, beyond R442's common checks. -/
def State.domainConflict (s : State) (who idx sub len : Nat) : Option Nat :=
  let held (bad : Bool) (code : Nat) : Option Nat := if bad then some code else none
  let first (l : List (Option Nat)) : Option Nat := (l.filterMap id).head?
  if 0x2110 ≤ idx && idx ≤ 0x2117 then
    first [held s.keys.kek.isNone 0x0F010D05, checkCode (s.hostAuthority who), s.cellarCrowded]
  else if 0x2510 ≤ idx && idx ≤ 0x2517 then
    let n := idx - 0x2510
    first [held (n == 0) 0x0F010A01,
           held (!((s.core n).stage == .stopped || (s.core n).stage == .exception)) 0x0F010A02]
  else if idx == 0x2640 then first [held ((s.calRun (sub - 1)).stage != 0) 0x0F011003, s.cellarCrowded]
  else if idx == 0x2700 then
    if s.loader.busy then
      first [held (s.loader.session != some who || s.loader.fromSlot) 0x0F010D01, held s.loader.owed.isSome 0x0F010003,
             held (!isWhole s.loader.header && !s.mode.fabric) 0x0F010002]
    else first [held s.lockedOut 0x0F010D03, held (!s.mode.fabric && (s.mode != .safe || s.staysSafe)) 0x0F010002]
  else if idx == 0x2701 then
    if sub == 2 then first [held (s.mode != .safe) 0x0F010002, held s.keys.kek.isSome 0x0F010D06]
    else first [held s.keys.kek.isNone 0x0F010D05, held (sub == 3 && s.keys.ek.isSome) 0x0F010D06,
                checkCode (s.keyAuthority who)]
  else if 0x2720 ≤ idx && idx ≤ 0x272F then
    let st := (s.zone (idx - 0x2720)).stage
    held (st != .ready && st != .running) 0x0F010C01
  else if 0x2740 ≤ idx && idx ≤ 0x2747 then
    let others := (List.range 8).foldl (fun n k => if k = idx - 0x2740 then n else n + s.slotSize k) 0
    first [held (decide (6291456 < others + len)) 0x0F010D04,
           s.cellarCrowded]
  else if 0x3300 ≤ idx && idx ≤ 0x33FF then
    let c := s.chain (idx - 0x3300)
    first [held c.fade.isSome 0x0F010502, held (c.active == (if sub == 0x18 then .a else .b)) 0x0F010503]
  else if 0x3410 ≤ idx && idx ≤ 0x341F then
    first [held (s.mapRunning && s.map.refSlot == idx - 0x3410 + 1) 0x0F010601, s.cellarCrowded]
  else if 0x3510 ≤ idx && idx ≤ 0x3513 then
    first [held (s.disp.slot == some (idx - 0x3510)) 0x0F010702,
           held (decide (12582912 < s.planBytes (idx - 0x3510) + len)) 0x0F010704, s.cellarCrowded]
  else if 0x3600 ≤ idx && idx ≤ 0x3603 then
    first [held (s.can (idx - 0x3600)).transmit.isSome 0x0F010901, held (!s.canOn (idx - 0x3600)) 0x0F010902]
  else none

/-- The checks of a DOMAIN write at its begin, under R442 with its total length (R451). -/
def State.beginChecks (s : State) (a : Accessor) (idx sub len : Nat) : Check := do
  let c ← s.headChecks a idx sub len
  s.gateChecks a c idx sub 0
  refuseWith (s.domainConflict (s.sessionOf a) idx sub len)

/-- DOMAIN BEGIN: it abandons an open transfer; a length that the device cannot buffer is refused (R451). -/
def State.netDomainBegin (s : State) (d : Datagram) : State :=
  let n := d.session
  let s := s.setSession n { s.session n with transfer := none }
  s.answers d (do
    refuseIf (d.payload.length != 8) 0x06070010
    s.beginChecks (asSession n) (datagramIndex d) (datagramSub d) (fieldLe d.payload 4 4)
    refuseIf (decide (Config.transferBuffer < fieldLe d.payload 4 4)) 0x05040005
    let x : Transfer := { id := d.reqId, idx := (datagramIndex d), sub := (datagramSub d), total := fieldLe d.payload 4 4 }
    return (s.setSession n { s.session n with transfer := some x }, []))

/-- Bytes placed at an offset of a transfer; a byte sent twice takes its last value, and bytes beyond the total count for
nothing. -/
def Transfer.place (x : Transfer) (offset : Nat) (bs : Bytes) : Transfer :=
  { x with bytes := (bs.zipIdx).foldl (fun t b => if offset + b.2 < x.total then Table.set none t (offset + b.2) (some b.1) else t)
                      x.bytes }

/-- DOMAIN SEGMENT; it gets no response, and one that names a transfer which is not open is discarded. -/
def State.netDomainSegment (s : State) (d : Datagram) : State :=
  let n := d.session
  let bs := d.payload.drop 8
  match (s.session n).transfer with
  | none => s
  | some x =>
    if x.id != fieldLe d.payload 0 4 || bs.isEmpty || decide (1024 < bs.length) then s
    else s.setSession n { s.session n with transfer := some (x.place (fieldLe d.payload 4 4) bs) }

/-- The lowest offset that is missing in a transfer. -/
def Transfer.missing (x : Transfer) : Option Nat := (List.range x.total).find? fun i => (Table.get none x.bytes i).isNone

/-- The bytes of a transfer. -/
def Transfer.content (x : Transfer) : Bytes := x.bytes.filterMap fun e => e.2

/-- DOMAIN END: the write, or the first missing offset; one that names a transfer which is not open is discarded. -/
def State.netDomainEnd (s : State) (d : Datagram) : State :=
  let n := d.session
  match (s.session n).transfer with
  | none => s
  | some x =>
    if x.id != fieldLe d.payload 0 4 || d.payload.length != 4 then s
    else match x.missing with
      | some i => s.respond n d.opcode d.reqId 5 (natLe 4 i)
      | none =>
        let s := s.setSession n { s.session n with transfer := none }
        s.answersWrite d (s.writeObject (asSession n) x.idx x.sub x.content)

/-- CLOSE (R463): the streams close first, and the response goes out before the session's key does. -/
def State.netClose (s : State) (d : Datagram) : State :=
  let n := d.session
  match s.closeAbort n with
  | some c => s.respondCode n d.opcode d.reqId c []
  | none => ((s.closeStreamsOf n closedBySession).respondCode n d.opcode d.reqId 0 []).endSession n (0x10 + n)

/-! ## One request after another (R449) -/

/-- The effect of an accepted request, by its opcode (R447). -/
def State.netExecutes (s : State) (d : Datagram) : State :=
  if d.opcode = 0x05 then s.netClose d
  else if d.opcode = 0x06 then s.netKeepalive d
  else if d.opcode = 0x10 then s.netRead d
  else if d.opcode = 0x11 then s.netWrite d
  else if d.opcode = 0x12 then s.netDomainRead d
  else if d.opcode = 0x13 then s.netDomainBegin d
  else if d.opcode = 0x14 then s.netDomainSegment d
  else if d.opcode = 0x15 then s.netDomainEnd d
  else s.respondCode d.session d.opcode d.reqId 0x05040001 []

/-- Whether a request repeats one that is executing or waits. -/
def State.underWay (s : State) (d : Datagram) : Bool :=
  (s.owedReplies.any fun r => match r with | .datagram n _ id => n == d.session && id == d.reqId | _ => false) ||
  (s.session d.session).waiting.any fun w => match w with | .datagram e => e.reqId == d.reqId | _ => false

/-- An accepted request of a session (R449): a repeat is answered again or discarded, the others execute one at a time.
Segments are no requests with a response, and none is kept of them. -/
def State.netTakes (s : State) (d : Datagram) : State :=
  let x := s.session d.session
  match if d.opcode = 0x14 then none else x.kept.find? fun k => k.reqId == d.reqId with
  | some k => s.sendDatagram d.session k.opcode k.flags k.reqId k.payload
  | none =>
    if !s.executing d.session then s.netExecutes d
    else if d.opcode != 0x14 && s.underWay d then s
    else if x.waiting.length < 16 then s.holdsBack d.session (.datagram d)
    else if d.opcode = 0x14 then s
    else s.respondCode d.session d.opcode d.reqId 0x0F010003 []

/-! ## USDO on CAN0 (R454, R456) -/

/-- The open transfer of the USDO server replaced. -/
def State.usdoSet (s : State) (x : Option UsdoTransfer) : State := { s with links := { s.links with usdo := x } }

/-- The greatest number of bytes in an expedited transfer or a segment (log entry 40). -/
def usdoChunk : Nat := 56

/-- A USDO write is answered, now or when it completes. -/
def State.usdoAnswersWrite (s : State) (r : Res) : State :=
  match r with
  | .ok t => if s.owes t then s.owedTo (s.accepted t) (some .usdo) else (s.accepted t).usdoAnswers 0 []
  | .error e => (e.after.getD s).usdoAnswers e.code []

/-- What a segment of a transfer meets before its own checks: no session, in which the transfer is not the session's own any more
(R464), or no transfer. -/
def State.usdoSegmentAbort (s : State) : Option Nat :=
  match s.links.usdo with
  | none => some (if s.isOpen 0 then 0x05040001 else 0x0F010001)
  | some x => if s.isOpen 0 || openlessMay x.idx x.sub (!x.upload) then none else some 0x0F010001

/-- The effect of a USDO request of session 0; a new transfer abandons an open one. -/
def State.usdoExecutes (s : State) (u : UsdoRequest) : State :=
  let a : Accessor := .session 0
  match u with
  | .upload idx sub =>
    let s := s.usdoSet none
    match s.readObject a idx sub with
    | .error e => (e.after.getD s).usdoAnswers e.code []
    | .ok (_, bs) =>
      if bs.length ≤ usdoChunk then (s.accepted s).usdoAnswers 0 bs
      else
        let x : UsdoTransfer := { idx := idx, sub := sub, upload := true, total := bs.length, bytes := bs, toggle := false,
                                  lastFrame := s.now }
        ((s.accepted (s.domainHasRead idx 0 bs.length)).usdoSet (some x)).usdoAnswers 0 (natLe 4 bs.length)
  | .uploadSegment toggle =>
    match s.usdoSegmentAbort, s.links.usdo with
    | some c, _ => (s.usdoSet none).usdoAnswers c []
    | none, none => s
    | none, some x =>
      if !x.upload then s.usdoAnswers 0x05040001 []
      else if x.toggle != toggle then (s.usdoSet none).usdoAnswers 0x05030000 []
      else
        let rest := x.bytes.drop usdoChunk
        let y : UsdoTransfer := { x with bytes := rest, toggle := !x.toggle, lastFrame := s.now }
        (s.usdoSet (if rest.isEmpty then none else some y)).usdoAnswers 0 (x.bytes.take usdoChunk)
  | .download idx sub bytes =>
    let s := s.usdoSet none
    if usdoChunk < bytes.length then s.usdoAnswers 0x05040001 [] else s.usdoAnswersWrite (s.writeObject a idx sub bytes)
  | .downloadBegin idx sub size =>
    let s := s.usdoSet none
    match s.beginChecks a idx sub size with
    | .error e => (e.after.getD s).usdoAnswers e.code []
    | .ok _ =>
      let x : UsdoTransfer := { idx := idx, sub := sub, upload := false, total := size, bytes := [], toggle := false,
                                lastFrame := s.now }
      (s.usdoSet (some x)).usdoAnswers 0 []
  | .downloadSegment toggle bytes last =>
    match s.usdoSegmentAbort, s.links.usdo with
    | some c, _ => (s.usdoSet none).usdoAnswers c []
    | none, none => s
    | none, some x =>
      if x.upload || decide (usdoChunk < bytes.length) then s.usdoAnswers 0x05040001 []
      else if x.toggle != toggle then (s.usdoSet none).usdoAnswers 0x05030000 []
      else
        let all := x.bytes ++ bytes
        if x.total < all.length || (last && all.length != x.total) then (s.usdoSet none).usdoAnswers 0x06070010 []
        else if last then (s.usdoSet none).usdoAnswersWrite ((s.usdoSet none).writeObject a x.idx x.sub all)
        else
          let y : UsdoTransfer := { x with bytes := all, toggle := !x.toggle, lastFrame := s.now }
          (s.usdoSet (some y)).usdoAnswers 0 []
  | .other => s.usdoAnswers 0x05040001 []

/-- Whether a USDO request reaches an object that a session which is not open may reach (R457). -/
def usdoOpenless (u : UsdoRequest) : Bool :=
  match u with
  | .upload idx sub => openlessMay idx sub false
  | .download idx sub _ | .downloadBegin idx sub _ => openlessMay idx sub true
  | .other => true
  | _ => false

/-- A USDO request arrives on the identifier of the node (R454): it belongs to session 0 and renews its lease (R456, R462). While
session 0 only completes its accepted requests, it finds the session not open (R464). -/
def State.usdoArrives (s : State) (x : UsdoFrame) : State :=
  let u := x.request
  if !(s.mode.serves && s.linkAnswers .can0) || x.ident != 0x600 + s.links.nodeId then s
  else if (s.session 0).ending then (if usdoOpenless u then s.usdoExecutes u else s.usdoAnswers 0x0F010001 [])
  else
    let s := s.renew 0
    if !s.executing 0 then s.usdoExecutes u
    else if (s.session 0).waiting.length < 16 then s.holdsBack 0 (.usdo u)
    else s.usdoAnswers 0x0F010003 []

/-- USDO_TIMEOUT: a segmented transfer has seen no frame for 1,000 ms (R454). -/
def State.usdoTimesOut (s : State) : State :=
  match s.links.usdo with
  | none => s
  | some x => if x.lastFrame + tkS ≤ s.now then (s.usdoSet none).usdoAnswers 0x05040000 [] else s

/-! ## Requests that have waited -/

/-- The requests of a session that waited execute in turn, until one completes later again (R449). -/
def State.drainWaiting (s : State) (n : Nat) : State :=
  let l := (s.session n).waiting
  (l.foldl (fun (s : State) w =>
    if s.executing n then s.holdsBack n w
    else match w with
      | .datagram d => if s.isOpen n then s.netExecutes d else s
      | .usdo u => s.usdoExecutes u
      | .write idx sub bs => s.finished n (s.writeObject (asSession n) idx sub bs))
    (s.setSession n { s.session n with waiting := [] }))

/-- A session that NMT has ended closes once its accepted requests have completed (R455, R463). -/
def State.endsNow (s : State) (n : Nat) : State :=
  if (s.session n).ending && !s.executing n && (s.session n).waiting.isEmpty then s.endSession n 0 else s

/-- Every session whose executing request has completed goes on with those that wait. -/
def State.transportSettles (s : State) : State :=
  s.each (List.range 8) fun s n =>
    (if s.executing n || (s.session n).waiting.isEmpty then s else s.drainWaiting n).endsNow n

/-- A datagram arrives on port 18800 (R446 to R449, R457 to R461). -/
def State.datagramArrives (s : State) (d : Datagram) : State :=
  if d.link == .can0 || !(s.mode.serves && s.linkAnswers d.link) then s
  else if d.opcode = 0x01 then (if openingHeader d then s.netOpens d else s.discards d)
  else if d.opcode = 0x03 then (if openingHeader d then s.netProves d else s.discards d)
  else if s.authentic d then (s.takesDatagram d).netTakes d
  else if !s.datagramOpen d && !readsOpenly d then (s.discards d).notices d
  else s.discards d

/-- A credit return arrives on port 18801 (R448, R452); a kind that the device does not take is discarded. -/
def State.creditArrives (s : State) (d : Datagram) : State :=
  if d.link == .can0 || !(s.mode.serves && s.linkAnswers d.link) then s
  else if !s.authentic d || d.opcode != 2 || d.payload.length != 12 || decide (7 < d.flags) then s.discards d
  else (s.takesDatagram d).creditReturns d.session d.flags d.seq d.reqId d.payload

/-! ## NMT and heartbeat (R454, R455) -/

/-- NMT sets CAN0 to a state in which the USDO server serves, or to stopped. -/
def State.nmtSets (s : State) (x : NmtState) : State := { s with links := { s.links with nmt := x } }

/-- CAN0 restarts with the values of 0x1E10, and session 0 ends (R455), after the requests that were accepted before (R463). -/
def State.nmtResets (s : State) : State :=
  let s := (s.setSession 0 { s.session 0 with ending := s.isOpen 0 }).endsNow 0
  { s with links := { s.links with nodeId := s.objN 0x1E10 1, bitRate := s.objN 0x1E10 2, dataBitRate := s.objN 0x1E10 3,
                                   nmt := .preOperational, usdo := none, canState := 0, canTec := 0, canRxErr := 0, lastHeartbeat := s.now } }

/-- The state byte of a heartbeat. -/
def NmtState.byte : NmtState → Nat
  | .stopped => 0x04
  | .operational => 0x05
  | .preOperational => 0x7F

/-- HEARTBEAT: one is due every period of 0x1017 while CAN0 is up. -/
def State.beats (s : State) : State :=
  let p := s.objN 0x1017 0
  if p = 0 || !s.mode.serves || !s.ready 4 || s.links.canState == 2 || decide (s.now < s.links.lastHeartbeat + p * tkMs) then s
  else
    ({ s with links := { s.links with lastHeartbeat := s.now } }).send (.heartbeat (0x700 + s.links.nodeId) s.links.nmt.byte)

/-! ## The state of the links (R537) -/

/-- Whether an IPv4 address is that of a NET link: the static one, or the one that a DHCPv4 server has granted (R445, R473). -/
def NetSettings.owns (x : NetSettings) (a : BitVec 32) : Bool := (!x.dhcp || x.leased) && a.toNat == x.address

/-- Whether an IPv6 address is that of a NET link: its link-local or its static one (R445). -/
def NetSettings.owns6 (x : NetSettings) (n : Fin 2) (a : Bytes) : Bool :=
  a == Config.linkLocal n || !x.address6.isEmpty && a == x.address6

/-- A frame arrives on a NET link (R445): the link answers for its own addresses, takes a granted address where DHCPv4 is on, and
discards and counts what it does not take. -/
def State.frameArrives (s : State) (n : Fin 2) (f : NetFrame) : State :=
  let x := s.links.nets.getD n {}
  let mac := (Config.mac n).toNat
  if !(s.mode.serves && s.linkAnswers (if n = 0 then .net0 else .net1)) then s
  else match f with
    | .arp a => if x.owns a then s.send (.neighbour n (natBe 4 a.toNat) mac) else s
    | .solicit a => if x.owns6 n a then s.send (.neighbour n a mac) else s
    | .echo4 a p => if x.owns a then s.send (.echo n p) else s
    | .echo6 a p => if x.owns6 n a then s.send (.echo n p) else s
    | .lease a m g =>
      if x.dhcp then
        let y : NetSettings := { x with address := a.toNat, maskBits := m, gateway := g.toNat, leased := true }
        { s with links := { s.links with nets := s.links.nets.set n y } }
      else s
    | .vlan | .jumbo | .fragment => s.countUp (0x1E00 + n) 0x0B

/-- A change of a host link: block lock counts while the module is present, sees light and transmits. -/
def State.linkChanges (s : State) (x : LinkChange) : State :=
  match x with
  | .net n blockLock addressValid moduleAbsent los txFault =>
    let lock := blockLock && !moduleAbsent && !los && !txFault
    { s with links := { s.links with blockLock := s.links.blockLock.set n lock,
                                     addressValid := s.links.addressValid.set n addressValid,
                                     moduleSignals := s.links.moduleSignals.set n (moduleAbsent, los, txFault) } }
  | .can errorState tec rxErr =>
    { s with links := { s.links with canState := errorState, canTec := tec, canRxErr := rxErr } }
  | .frame n f => s.frameArrives n f

/-- NETn_TXDIS: low while the link is enabled and the device is not in SAVE (R537). -/
def State.netTxDisable (s : State) (n : Nat) : Bool := s.objN (0x1E00 + n) 1 != 1 || s.mode == .save

/-- CAN0_STBY: low while CAN0 serves (R537). -/
def State.can0Standby (s : State) : Bool := !(s.mode.serves && s.linkAnswers .can0)

/-! ## The test-access port (R538) -/

/-- The codes under which the model keeps what the test-access port has selected: bypass, the identity register and the
boundary scan register. -/
def tapBypass : Nat := 0
/-- The identity register. -/
def tapIdcode : Nat := 1
/-- SAMPLE/PRELOAD. -/
def tapSample : Nat := 2
/-- EXTEST. -/
def tapExtest : Nat := 3

/-- IDCODE as it reads. -/
def idcodeValue : Nat := 0x27256A7F

/-- The test-access port takes an instruction; EXTEST at any time but while RSTN is low acts as BYPASS. -/
def State.tapTakesCode (s : State) (code : Nat) : State :=
  let code := if code == tapExtest && !s.power.rstnLow then tapBypass else code
  let s := { s with power := { s.power with tap := code } }
  if code == tapIdcode then s.send (.tap idcodeValue) else s

end Sys2Proof.Machine
end

