-- ==== Sys2Proof/Machine/PortCmds.lean ====
section
/-!
DEFINITION. The commands of port cells, port ownership and service pins (R29 to R100), and the write of any object (R442).
A command that reports an event acts when its condition holds at its instant; otherwise only time passes (log entry 1).
-/

namespace Sys2Proof.Machine

/-- Requests that have waited go on, and LOAD ends, where a command has completed what they waited for (R449, R511); an unbind
whose instant has passed acts (R469). -/
def State.letGo (s : State) : State := s.unbindDue.loadSettles.transportSettles

/-- The same of an outcome. -/
def afterwards : Host.Outcome State Fault Refusal → Host.Outcome State Fault Refusal
  | .next s => .next s.letGo
  | o => o

/-- OBJECT_WRITE: a write of any object by a session or step core (R442). -/
def execObjectWrite (t : Tk) (a : Accessor) (idx sub : Nat) (bytes : Bytes) (s : State) : Host.Outcome State Fault Refusal :=
  afterwards (s.request t a idx sub bytes fun s => s.writeObject a idx sub bytes)

/-! ## Port settings (R33, R49 to R52, R60) -/

/-- FUNCTION_CHANGE: a write of the function (R52). -/
def execFunctionChange (t : Tk) (a : Accessor) (p : PortNo) (v : Nat) (s : State) : Host.Outcome State Fault Refusal :=
  s.requestValue t a (0x3000 + p) 1 (natLe 1 v) fun s x => s.portWrite p 1 x

/-- FORCE_LEVEL_WRITE: a write of the force voltage, or of the force current (R35, R51). -/
def execForceLevelWrite (t : Tk) (a : Accessor) (p : PortNo) (current : Bool) (v : Int) (s : State) :
    Host.Outcome State Fault Refusal :=
  s.requestValue t a (0x3000 + p) (if current then 3 else 2) (natLe 4 (toCode 32 v)) fun s x =>
    s.portWrite p (if current then 3 else 2) x

/-- RANGE_CHANGE: a write of the current range (R50). -/
def execRangeChange (t : Tk) (a : Accessor) (p : PortNo) (v : Nat) (s : State) : Host.Outcome State Fault Refusal :=
  s.requestValue t a (0x3000 + p) 4 (natLe 1 v) fun s x => s.portWrite p 4 x

/-- RANGE_CHANGE_COMPLETE: the held writes take effect (R50). -/
def execRangeChangeComplete (t : Tk) (p : PortNo) (s : State) : Host.Outcome State Fault Refusal :=
  .next ((s.advance t).endRangeChange p)

/-- The settling bit of a port clears at the latest end of its changes (R49). -/
def State.settled (s : State) (p : Nat) : State :=
  let c := s.port p
  if c.settlingEnd ≤ s.now then s.setPort p { c with settling := false } else s

/-- SETTLING_END (R49). -/
def execSettlingEnd (t : Tk) (p : PortNo) (s : State) : Host.Outcome State Fault Refusal := .next ((s.advance t).settled p)

/-- BUS_CONNECTION_WRITE: a write of the bus connection (R60, R61). -/
def execBusConnectionWrite (t : Tk) (a : Accessor) (p : PortNo) (v : Nat) (s : State) : Host.Outcome State Fault Refusal :=
  s.requestValue t a (0x3000 + p) 0x10 (natLe 1 v) fun s x => s.portWrite p 0x10 x

/-- The switch pair commanded for a port closes (R59, R60). -/
def State.busCloses (s : State) (p : Nat) : State :=
  let c := s.port p
  match c.busNext with
  | some (b, at') => if at' ≤ s.now then s.setPort p { c with bus := some b, busNext := none } else s
  | none => s

/-- BUS_SWITCH_CLOSED (R60). -/
def execBusSwitchClosed (t : Tk) (p : PortNo) (s : State) : Host.Outcome State Fault Refusal := .next ((s.advance t).busCloses p)

/-! ## Clamps, the sense check and faults (R39 to R43, R66 to R69) -/

/-- What a fault of a port does (R67, R68, R187, R206); a fault of the rails is a fault of every port and a HOLD cause. -/
def State.portFails (s : State) (p : Nat) (cause : PortCause) : State :=
  if !s.mode.working then s
  else if cause = .rail then s.raiseCause .portRail 0
  else ((s.portFault p cause).stepsLosePort p).mapLosesPoint p 2

/-- The clamps that hold at a port (R39 to R41); none holds at a port that is not driven. DESIGN CHOICE (log entry 149): one clamp
that follows another without a gap goes on with its time. -/
def State.clampsChange (s : State) (p : Nat) (source sink voltage : Bool) : State :=
  let c := s.port p
  if !s.driving p then s.setPort p c.unclamped
  else
    let since := if source || sink || voltage then (c.clampSince.orElse fun _ => some s.now) else none
    s.setPort p { c with sourceClamp := source, sinkClamp := sink, voltageClamp := voltage, clampSince := since }

/-- CLAMP_STATE_CHANGE (R39, R40). -/
def execClampStateChange (t : Tk) (p : PortNo) (source sink voltage : Bool) (s : State) : Host.Outcome State Fault Refusal :=
  .next ((s.advance t).clampsChange p source sink voltage)

/-- Whether a clamp has held longer than the clamp timeout of a port whose clamp fault is enabled (R41). -/
def State.clampTimedOut (s : State) (p : Nat) : Bool :=
  let limit := s.settingN p 0x12
  s.driving p && bitOf (s.settingN p 9) 12 && limit != 0 &&
    match (s.port p).clampSince with
    | some t0 => decide (t0 + limit * tkMs < s.now)
    | none => false

/-- CLAMP_TIMEOUT (R41). -/
def execClampTimeout (t : Tk) (p : PortNo) (s : State) : Host.Outcome State Fault Refusal :=
  let s := s.advance t
  .next (if s.clampTimedOut p then s.portFails p .clampTimeout else s)

/-- An open sense faults the port, or switches regulation to the force ball (R42, R43). -/
def State.senseOpens (s : State) (p : Nat) : State :=
  if !s.senseRuns p then s
  else match fieldOf (s.settingN p 9) 0 2 with
    | 0 => s.portFails p .senseOpen
    | 2 => s.setPort p { s.port p with senseFallback := true }
    | _ => s

/-- SENSE_OPEN (R43). -/
def execSenseOpen (t : Tk) (p : PortNo) (s : State) : Host.Outcome State Fault Refusal := .next ((s.advance t).senseOpens p)

/-- The sense check has passed for 10 ms: remote sense resumes (R42). -/
def State.sensePasses (s : State) (p : Nat) : State :=
  if s.senseRuns p then s.setPort p { s.port p with senseFallback := false } else s

/-- SENSE_CHECK_PASS (R42). -/
def execSenseCheckPass (t : Tk) (p : PortNo) (s : State) : Host.Outcome State Fault Refusal := .next ((s.advance t).sensePasses p)

/-- PORT_FAULT (R67). -/
def execPortFault (t : Tk) (p : PortNo) (cause : PortCause) (s : State) : Host.Outcome State Fault Refusal :=
  .next ((s.advance t).portFails p cause)

/-- The ports that a current limit faults: those that drive, of one die or of the module (R66). -/
def State.limitedPorts (s : State) (die : Option DieNo) : List Nat :=
  (List.range 256).filter fun p => s.driving p &&
    match die with
    | some d => p / 64 == d.val
    | none => true

/-- DIE_CURRENT_LIMIT: the limit of a die, or of the module (R66). -/
def execDieCurrentLimit (t : Tk) (die : Option DieNo) (s : State) : Host.Outcome State Fault Refusal :=
  let s := s.advance t
  .next (s.each (s.limitedPorts die) fun s p => s.portFails p (if die.isSome then .dieCurrent else .moduleCurrent))

/-- FAULT_CLEAR: a write of fault clear (R69); `gone` says whether the cause of a fault that the cell itself measures has
gone. -/
def execFaultClear (t : Tk) (a : Accessor) (p : PortNo) (v : Nat) (gone : Bool) (s : State) : Host.Outcome State Fault Refusal :=
  s.requestValue t a (0x3000 + p) 0x1A (natLe 1 v) fun s x => s.latchErrors.clearFault p x gone

/-! ## The signals of ports and pins (R54 to R57, R81, R86 to R89, R98) -/

/-- An edge is suppressed: counted for the port and for its next pin-edge entry (R81, R90). -/
def State.suppressEdge (s : State) (p : PortNo) : State :=
  let l : FilterLine := .port p
  (s.setFilter l { s.filter l with skipped := (s.filter l).skipped + 1 }).countUp (0x3100 + p) 0x0B

/-- The comparators of a port may have changed, from the signal `old`: its filter follows, or the edge is suppressed in park and
under the safety clamp (R81). Before SAFE the cells are not supplied. -/
def State.signalMoves (s : State) (p : PortNo) (old : Bool) : State :=
  if !s.mode.working then s
  else if s.parked p || (s.port p).owner.kind == .clamp then (if s.rawSignal p == old then s else s.suppressEdge p)
  else s.followPort p

/-- A change at the ball of a port or at a pad. -/
def State.signalChanges (s : State) : SignalChange → State
  | .ball p f v i =>
    ((s.setPort p { s.port p with forceUv := f, senseUv := v, currentPa := i }).recompare p).signalMoves p (s.rawSignal p)
  | .pad n level => (s.setPin n { s.pin n with outside := level }).followPin n

/-- PIN_SIGNAL_CHANGE (R54, R56, R86, R98). -/
def execPinSignalChange (t : Tk) (x : SignalChange) (s : State) : Host.Outcome State Fault Refusal :=
  .next ((s.advance t).signalChanges x)

/-- The restart of a receiver is over: its output is valid, with the level that its ball gives it; inside the hysteresis band,
where no state was kept, with `level` (R54, R55). DESIGN CHOICE (log entry 120): a receiver that restarts at a level other than
the one the filter has gives an ordinary edge of that instant. -/
def State.receiverValid (s : State) (p : PortNo) (level : Bool) : State :=
  match (s.port p).receiverAt with
  | some e =>
    if e ≤ s.now then
      (s.setPort p { s.port p with receiverAt := none, receiver := s.receiverNow p level }).signalMoves p (s.rawSignal p)
    else s
  | none => s

/-- RECEIVER_RESTART_DONE (R55). -/
def execReceiverRestartDone (t : Tk) (p : PortNo) (level : Bool) (s : State) : Host.Outcome State Fault Refusal :=
  .next ((s.advance t).receiverValid p level)

/-- Whether the filter of a line works now: not that of a port whose signal is masked or whose receiver is off, nor that of a pin
without a function. -/
def State.lineWorks (s : State) (l : FilterLine) : Bool :=
  s.mode.working &&
    match l with
    | .port p => s.signalSeen p
    | .pin n => s.pinFunction n != 0 && s.power.vio.isSome

/-- GLITCH_FILTER_ACCEPT: a level has held for the glitch time (R86, R87). -/
def execGlitchFilterAccept (t : Tk) (l : FilterLine) (s : State) : Host.Outcome State Fault Refusal :=
  let s := s.advance t
  .next (if s.lineWorks l then s.acceptLevel l else s)

/-- DEBOUNCE_WINDOW_END (R87). -/
def execDebounceWindowEnd (t : Tk) (l : FilterLine) (s : State) : Host.Outcome State Fault Refusal :=
  let s := s.advance t
  .next (if s.lineWorks l then s.endDebounce l else s)

/-- RESYNC_LEVEL_DEFINED: the first level after a restart has held for the glitch time (R89). -/
def execResyncLevelDefined (t : Tk) (l : FilterLine) (s : State) : Host.Outcome State Fault Refusal :=
  let s := s.advance t
  .next (if s.lineWorks l then s.defineLevel l else s)

/-! ## Park (R83) -/

/-- PARK_EXIT: the port has its new owner; an unbind that waited for the last park acts (R26, R83, R469). -/
def execParkExit (t : Tk) (p : PortNo) (s : State) : Host.Outcome State Fault Refusal :=
  .next ((s.advance t).leavePark p).unbindSettles

/-! ## Service pins (R94 to R100) -/

/-- SERVICE_PIN_FUNCTION_WRITE: a write of a pin's function (R94, R95). -/
def execServicePinFunctionWrite (t : Tk) (a : Accessor) (n : PinNo) (v : Nat) (s : State) : Host.Outcome State Fault Refusal :=
  s.requestValue t a (0x3700 + n) 1 (natLe 1 v) fun s x => s.pinWrite n 1 x

/-- SIO17 with the interlock function has been low for 10 microseconds (R96). -/
def State.interlockTrips (s : State) : State :=
  match (s.pin 17).lowSince with
  | some t0 => if t0 + 40000 ≤ s.now && s.pinFunction 17 == 0x30 then s.raiseCause .interlock 0 else s
  | none => s

/-- INTERLOCK_TRIP (R96). -/
def execInterlockTrip (t : Tk) (s : State) : Host.Outcome State Fault Refusal := .next (s.advance t).interlockTrips

/-- A driven pad has read back the opposite level for 1 microsecond (R100). -/
def State.contends (s : State) (n : Nat) : State :=
  let c := s.pin n
  match c.opposedSince with
  | some t0 => if t0 + 4000 ≤ s.now then s.setPin n { c with contention := true } else s
  | none => s

/-- CONTENTION_DETECT (R100). -/
def execContentionDetect (t : Tk) (n : PinNo) (s : State) : Host.Outcome State Fault Refusal := .next ((s.advance t).contends n)

end Sys2Proof.Machine
end

