-- ==== Sys2Proof/Machine/ConvCmds.lean ====
section
/-!
DEFINITION. The commands of converters and sequences (R101 to R131), and the event select and event causes of every block
(R129, R299).
-/

namespace Sys2Proof.Machine

/-! ## Run modes (R110, R111) -/

/-- RUN_MODE_STOP: a write of run mode 0x00 (R111). -/
def execRunModeStop (t : Tk) (a : Accessor) (c : ConvNo) (s : State) : Host.Outcome State Fault Refusal :=
  s.requestValue t a (0x3200 + c) 1 (natLe 1 0) fun s x => s.runModeWrite c x.toNat

/-- RUN_MODE_CONTINUOUS: a write of run mode 0x01 (R110). -/
def execRunModeContinuous (t : Tk) (a : Accessor) (c : ConvNo) (s : State) : Host.Outcome State Fault Refusal :=
  s.requestValue t a (0x3200 + c) 1 (natLe 1 1) fun s x => s.runModeWrite c x.toNat

/-- RUN_MODE_TRIGGERED: a write of run mode 0x02 (R110). -/
def execRunModeTriggered (t : Tk) (a : Accessor) (c : ConvNo) (s : State) : Host.Outcome State Fault Refusal :=
  s.requestValue t a (0x3200 + c) 1 (natLe 1 2) fun s x => s.runModeWrite c x.toNat

/-- RUN_MODE_ONE_PASS: a write of run mode 0x03 (R110). -/
def execRunModeOnePass (t : Tk) (a : Accessor) (c : ConvNo) (s : State) : Host.Outcome State Fault Refusal :=
  s.requestValue t a (0x3200 + c) 1 (natLe 1 3) fun s x => s.runModeWrite c x.toNat

/-- SEQUENCE_STOPPED: a pending stop reaches its boundary (R111, R119). -/
def execSequenceStopped (t : Tk) (c : ConvNo) (s : State) : Host.Outcome State Fault Refusal :=
  .next (((s.advance t).stopAtBoundary c).measureContinues c)

/-! ## Passes and entries (R108 to R124) -/

/-- PASS_START (R114). -/
def execPassStart (t : Tk) (c : ConvNo) (s : State) : Host.Outcome State Fault Refusal := .next ((s.advance t).passStarts c)

/-- ENTRY_END: the running entry has taken its last kept sample; `codes` are its kept samples (R108, R122). -/
def execEntryEnd (t : Tk) (c : ConvNo) (codes : Codes) (s : State) : Host.Outcome State Fault Refusal :=
  let s := s.advance t
  .next (if s.entryDone c codes then (s.entryEnds c codes).sequenceGoesOn c else s)

/-- RAW_ENTRY_WRITE: the next raw entry of the converter, with its codes (R121). -/
def execRawEntryWrite (t : Tk) (c : ConvNo) (codes : Codes) (s : State) : Host.Outcome State Fault Refusal :=
  .next ((s.advance t).writeRaw c codes)

/-- TIMER_TRIGGER (R113). -/
def execTimerTrigger (t : Tk) (c : ConvNo) (s : State) : Host.Outcome State Fault Refusal := .next ((s.advance t).timerTriggers c)

/-- TRIGGER_COMMAND: a write of the trigger command (R113). -/
def execTriggerCommand (t : Tk) (a : Accessor) (c : ConvNo) (v : Nat) (s : State) : Host.Outcome State Fault Refusal :=
  s.requestValue t a (0x3200 + c) 8 (natLe 1 v) fun s x => s.triggerWrite c x.toNat

/-! ## Urgent requests and diagnosis (R115 to R117, R127, R128) -/

/-- URGENT_REQUEST: a write of the urgent request (R115). -/
def execUrgentRequest (t : Tk) (a : Accessor) (c : ConvNo) (v : Nat) (s : State) : Host.Outcome State Fault Refusal :=
  s.requestValue t a (0x3200 + c) 0x0F (natLe 8 v) fun s x => s.urgentWrite (s.sessionOf a) c x.toNat

/-- URGENT_START: what waits in the urgent slot runs (R115, R116). -/
def execUrgentStart (t : Tk) (c : ConvNo) (s : State) : Host.Outcome State Fault Refusal := .next ((s.advance t).urgentStarts c)

/-- URGENT_END: the urgent request has taken its last kept sample; a measure step takes its value and goes on (R116,
R202). -/
def execUrgentEnd (t : Tk) (c : ConvNo) (codes : Codes) (s : State) : Host.Outcome State Fault Refusal :=
  let s := s.advance t
  .next (if s.urgentDone c codes then ((s.measureTakes c codes).urgentEnds c codes).measureContinues c else s)

/-- DIAGNOSIS_COMMAND: a write of the diagnosis command (R127). -/
def execDiagnosisCommand (t : Tk) (a : Accessor) (c : ConvNo) (v : Nat) (s : State) : Host.Outcome State Fault Refusal :=
  s.requestValue t a (0x3200 + c) 0x11 (natLe 2 v) fun s x => s.diagnosisWrite c x.toNat

/-- DIAGNOSIS_END: the three means in microvolts are there (R128). -/
def execDiagnosisEnd (t : Tk) (c : ConvNo) (m0 m1 m2 : Int) (s : State) : Host.Outcome State Fault Refusal :=
  let s := s.advance t
  let x := s.conv c
  .next (if x.converting == .diagnosis && decide (x.diagnosisEnd ≤ s.now) then
    (s.diagnosisEnds c [m0, m1, m2]).measureContinues c else s)

/-- REFERENCE_SETTLED (R107). -/
def execReferenceSettled (t : Tk) (c : ConvNo) (s : State) : Host.Outcome State Fault Refusal :=
  .next ((s.advance t).referenceSettles c)

/-! ## Event select and event causes (R129, R299) -/

/-- The bytes that a value of an object takes. -/
def objectSize (idx sub : Nat) : Nat :=
  match cardOf idx sub with
  | some c => c.ty.size
  | none => 1

/-- EVENT_SELECT_WRITE: a write of the event select of a block; another object is no event select. -/
def execEventSelectWrite (t : Tk) (a : Accessor) (idx sub v : Nat) (s : State) : Host.Outcome State Fault Refusal :=
  if (blockSubs idx).map (·.1) = some sub then
    s.requestValue t a idx sub (natLe (objectSize idx sub) v) fun s x => s.valueWrite a idx sub x
  else .next (s.advance t)

/-- EVENT_CAUSES_CLEAR: a write of the event causes of a block, whose ones clear (R129). -/
def execEventCausesClear (t : Tk) (a : Accessor) (idx sub v : Nat) (s : State) : Host.Outcome State Fault Refusal :=
  if (blockSubs idx).map (·.2) = some sub then
    s.requestValue t a idx sub (natLe (objectSize idx sub) v) fun s x => s.valueWrite a idx sub x
  else .next (s.advance t)

end Sys2Proof.Machine
end

