-- ==== Sys2Proof/Machine/MapCmds.lean ====
section
/-!
DEFINITION. The commands of the net mapper (R157 to R191).
-/

namespace Sys2Proof.Machine

/-- MAPPER_ENABLE: a write of TRUE to the mapper's enable (R158, R159). -/
def execMapperEnable (t : Tk) (a : Accessor) (s : State) : Host.Outcome State Fault Refusal :=
  s.requestValue t a 0x3400 1 (natLe 1 1) fun s x => s.mapperWrite (s.sessionOf a) 1 x.toNat

/-- MAPPER_DISABLE: a write of FALSE; a running map aborts with cause 0x08 (R158, R187). -/
def execMapperDisable (t : Tk) (a : Accessor) (s : State) : Host.Outcome State Fault Refusal :=
  s.requestValue t a 0x3400 1 (natLe 1 0) fun s _ => .ok s.mapperDisables

/-- MAP_START: a write of the start command (R185). -/
def execMapStart (t : Tk) (a : Accessor) (s : State) : Host.Outcome State Fault Refusal :=
  s.requestValue t a 0x3400 0x0A (natLe 1 1) fun s _ => s.mapStart (s.sessionOf a)

/-- MAP_ABORT_COMMAND: a write of the abort command (R187). -/
def execMapAbortCommand (t : Tk) (a : Accessor) (s : State) : Host.Outcome State Fault Refusal :=
  s.requestValue t a 0x3400 0x0A (natLe 1 2) fun s _ => .ok (s.mapAborts 1)

/-- MAP_BUDGET_GRANTED: the grants of a waiting map fit (R170, R244). -/
def execMapBudgetGranted (t : Tk) (s : State) : Host.Outcome State Fault Refusal := .next (s.advance t).mapGranted

/-- MAP_BUDGET_WAIT_EXPIRED (R170). -/
def execMapBudgetWaitExpired (t : Tk) (s : State) : Host.Outcome State Fault Refusal := .next (s.advance t).mapWaitOver

/-- MAP_GROUP_END: what the lanes of the points gave in the running group (R162, R163, R167). -/
def execMapGroupEnd (t : Tk) (rests : RestSamples) (samples : MapSamples) (s : State) : Host.Outcome State Fault Refusal :=
  .next ((s.advance t).mapGroupEnds rests samples)

/-- MAP_ANALYSIS_END: the analysis of a pass is done (R165, R171, R173, R174). -/
def execMapAnalysisEnd (t : Tk) (s : State) : Host.Outcome State Fault Refusal := .next (s.advance t).mapAnalysed

/-- MAP_ROUND_END: what the loops of a refinement round measured (R176, R177). -/
def execMapRoundEnd (t : Tk) (rs : RoundResults) (s : State) : Host.Outcome State Fault Refusal :=
  .next ((s.advance t).mapRoundEnds rs)

/-- MAP_END: comparison, entries and verdict (R181, R184). -/
def execMapEnd (t : Tk) (s : State) : Host.Outcome State Fault Refusal := .next (s.advance t).mapEnds

/-- REFERENCE_WRITE: a write of a reference slot (R182). -/
def execReferenceWrite (t : Tk) (a : Accessor) (slot : Fin 16) (bytes : Bytes) (s : State) :
    Host.Outcome State Fault Refusal :=
  s.requestBytes t a (0x3410 + slot) 1 bytes fun s b => s.referenceStore slot b

end Sys2Proof.Machine
end

