-- ==== Sys2Proof/Machine/PlanCmds.lean ====
section
/-!
DEFINITION. The commands of test plans, the dispatcher and sweeps (R192 to R223).
-/

namespace Sys2Proof.Machine

/-- PLAN_IMAGE_WRITE: a write of a plan slot (R192, R198). -/
def execPlanImageWrite (t : Tk) (a : Accessor) (slot : Fin 4) (bytes : Bytes) (s : State) : Host.Outcome State Fault Refusal :=
  s.requestBytes t a (0x3510 + slot) 1 bytes fun s b => s.planStore slot b

/-- PLAN_START: a write of the start command (R204). -/
def execPlanStart (t : Tk) (a : Accessor) (s : State) : Host.Outcome State Fault Refusal :=
  s.requestValue t a 0x3500 1 (natLe 1 1) fun s x => s.dispatcherWrite (s.sessionOf a) 1 x.toNat

/-- PLAN_ABORT: a write of the abort command (R205). -/
def execPlanAbort (t : Tk) (a : Accessor) (s : State) : Host.Outcome State Fault Refusal :=
  s.requestValue t a 0x3500 1 (natLe 1 2) fun s x => s.dispatcherWrite (s.sessionOf a) 1 x.toNat

/-- DISPATCH: a decision instant at which a ready step may go (R208). -/
def execDispatch (t : Tk) (k : StepNo) (s : State) : Host.Outcome State Fault Refusal :=
  .next ((s.advance t).dispatchStep State.put k)

/-- STEP_END: the action of a step has stopped (R214). -/
def execStepEnd (t : Tk) (k : StepNo) (s : State) : Host.Outcome State Fault Refusal := .next ((s.advance t).stepEnds k)

/-- STEP_TIMEOUT (R194). -/
def execStepTimeout (t : Tk) (k : StepNo) (s : State) : Host.Outcome State Fault Refusal := .next ((s.advance t).stepTimesOut k)

/-- STEP_HELD (R211). -/
def execStepHeld (t : Tk) (k : StepNo) (s : State) : Host.Outcome State Fault Refusal := .next ((s.advance t).stepHolds k)

/-- STEP_BUDGET_WAIT_EXPIRED (R211). -/
def execStepBudgetWaitExpired (t : Tk) (k : StepNo) (s : State) : Host.Outcome State Fault Refusal :=
  .next ((s.advance t).stepWaitsTooLong k)

/-- PEAK_TAIL_END (R209). -/
def execPeakTailEnd (t : Tk) (s : State) : Host.Outcome State Fault Refusal := .next (s.advance t).tailsEnd

/-- WAIT_STEP_ELAPSED (R203). -/
def execWaitStepElapsed (t : Tk) (k : StepNo) (s : State) : Host.Outcome State Fault Refusal :=
  .next ((s.advance t).waitElapses k)

/-- SWEEP_LEVEL_MEASURED (R221, R222). -/
def execSweepLevelMeasured (t : Tk) (m : Fin 4) (r : SweepReading) (s : State) : Host.Outcome State Fault Refusal :=
  .next ((s.advance t).sweepMeasured m r)

/-- SWEEP_END (R221). -/
def execSweepEnd (t : Tk) (m : Fin 4) (s : State) : Host.Outcome State Fault Refusal := .next ((s.advance t).sweepEnds m)

end Sys2Proof.Machine
end

