-- ==== Sys2Proof/Machine/EngineCmds.lean ====
section
/-!
DEFINITION. The commands of the protocol engines (R224 to R231).
-/

namespace Sys2Proof.Machine

/-- CAN_ENABLE: a write of a CAN FD engine's enable (R224). -/
def execCanEnable (t : Tk) (a : Accessor) (e : Fin 4) (v : Nat) (s : State) : Host.Outcome State Fault Refusal :=
  s.requestValue t a (0x3600 + e) 1 (natLe 1 v) fun s x => s.canEnables e x.toNat

/-- CAN_TRANSMIT: a write of the transmit object (R224). -/
def execCanTransmit (t : Tk) (a : Accessor) (e : Fin 4) (bytes : Bytes) (s : State) : Host.Outcome State Fault Refusal :=
  s.requestBytes t a (0x3600 + e) 6 bytes fun s b => s.domainWrite a (0x3600 + e) 6 b

/-- CAN_FRAME_TRANSMITTED (R224). -/
def execCanFrameTransmitted (t : Tk) (e : Fin 4) (s : State) : Host.Outcome State Fault Refusal :=
  .next ((s.advance t).canTransmitted e)

/-- CAN_FRAME_RECEIVED (R224, R229). -/
def execCanFrameReceived (t : Tk) (e : Fin 4) (f : CanFrame) (s : State) : Host.Outcome State Fault Refusal :=
  .next ((s.advance t).canReceives e f)

/-- CAN_BUS_OFF (R224, R230). -/
def execCanBusOff (t : Tk) (e : Fin 4) (s : State) : Host.Outcome State Fault Refusal := .next ((s.advance t).canGoesOff e)

/-- CAN_RECOVER: a write of recover (R231). -/
def execCanRecover (t : Tk) (a : Accessor) (e : Fin 4) (v : Nat) (s : State) : Host.Outcome State Fault Refusal :=
  s.requestValue t a (0x3600 + e) 9 (natLe 1 v) fun s x => .ok (s.canRecovers e x.toNat)

/-- CAN_ERROR: an error on the bus, or a change of the error counters: an error frame, or a CRC error in a received frame (R228,
R230). -/
def execCanError (t : Tk) (e : Fin 4) (tec rxErr : Nat) (kind : CanFault) (s : State) : Host.Outcome State Fault Refusal :=
  .next ((s.advance t).canErrs e tec rxErr kind)

/-- BUS_OFF_RECOVERY_COMPLETE (R231). -/
def execBusOffRecoveryComplete (t : Tk) (e : Fin 4) (s : State) : Host.Outcome State Fault Refusal :=
  .next ((s.advance t).canRecovered e)

/-- LIN_ENABLE: a write of a LIN engine's enable (R225). -/
def execLinEnable (t : Tk) (a : Accessor) (l : Fin 8) (v : Nat) (s : State) : Host.Outcome State Fault Refusal :=
  s.requestValue t a (0x3610 + l) 1 (natLe 1 v) fun s x => s.engineEnables (s.sessionOf a) (0x3610 + l) x.toNat

/-- LIN_FRAME_RECEIVED (R225, R229). -/
def execLinFrameReceived (t : Tk) (l : Fin 8) (f : LinFrame) (s : State) : Host.Outcome State Fault Refusal :=
  .next ((s.advance t).linReceives l f)

/-- LIN_HEADER_RECEIVED: a slave receives a header, whose frame began at `start` (R225). -/
def execLinHeaderReceived (t start : Tk) (l : Fin 8) (ident : Nat) (s : State) : Host.Outcome State Fault Refusal :=
  .next ((s.advance t).linHeader l start ident)

/-- LIN_MISSING_RESPONSE (R231). -/
def execLinMissingResponse (t : Tk) (l : Fin 8) (s : State) : Host.Outcome State Fault Refusal :=
  .next ((s.advance t).linMisses l)

/-- SENT_ENABLE: a write of a SENT receiver's enable (R226). -/
def execSentEnable (t : Tk) (a : Accessor) (r : Fin 8) (v : Nat) (s : State) : Host.Outcome State Fault Refusal :=
  s.requestValue t a (0x3618 + r) 1 (natLe 1 v) fun s x => s.engineEnables (s.sessionOf a) (0x3618 + r) x.toNat

/-- SENT_FRAME_RECEIVED (R226, R229). -/
def execSentFrameReceived (t : Tk) (r : Fin 8) (f : SentFrame) (s : State) : Host.Outcome State Fault Refusal :=
  .next ((s.advance t).sentReceives r f)

/-- PWM_ENABLE: a write of a PWM capture unit's enable (R227). -/
def execPwmEnable (t : Tk) (a : Accessor) (u : Fin 8) (v : Nat) (s : State) : Host.Outcome State Fault Refusal :=
  s.requestValue t a (0x3620 + u) 1 (natLe 1 v) fun s x => s.engineEnables (s.sessionOf a) (0x3620 + u) x.toNat

/-- PWM_RESULT (R227, R229). -/
def execPwmResult (t : Tk) (u : Fin 8) (r : PwmReading) (s : State) : Host.Outcome State Fault Refusal :=
  .next ((s.advance t).pwmMeasures u r)

/-- PROTOCOL_RESPONSE_TIMEOUT (R228). -/
def execProtocolResponseTimeout (t : Tk) (k : StepNo) (s : State) : Host.Outcome State Fault Refusal :=
  .next ((s.advance t).responseTimesOut k)

end Sys2Proof.Machine
end

