-- ==== Sys2Proof/Machine/CoreAlu.lean ====
section
/-!
DEFINITION. The arithmetic, logic, memory, control and system instructions of the step cores (R265 to R272). An instruction
acts when its word stands at PC of a core that runs (log entry 41).
-/

namespace Sys2Proof.Machine

/-! ## Shared operations -/

/-- An instruction of format R that writes a result of two registers with its flags (R268, R269). -/
def State.aluR (s : State) (n : Nat) (rd ra rb : Reg) (f : Word → Word → Alu) : State :=
  s.aluResult n rd (f ((s.core n).reg ra) ((s.core n).reg rb))

/-- A division; a divisor of 0 raises exception 0x05 (R269). -/
def State.divides (s : State) (n : Nat) (rd ra rb : Reg) (f : Word → Word → Word) : State :=
  let c := s.core n
  if c.reg rb = 0#32 then s.coreException n 5 0 else s.aluResult n rd (aluPlain (f (c.reg ra) (c.reg rb)))

/-- A 16-bit immediate extended with its sign. -/
def sext (imm : Imm16) : Word := imm.signExtend 32
/-- A 16-bit immediate extended with zeros. -/
def zext (imm : Imm16) : Word := imm.zeroExtend 32

/-- An instruction of format I that writes a result of a register and a word with its flags. -/
def State.aluI (s : State) (n : Nat) (rd ra : Reg) (b : Word) (f : Word → Word → Alu) : State :=
  s.aluResult n rd (f ((s.core n).reg ra) b)

/-- The data address of a memory instruction (R270). -/
def Core.address (c : Core) (ra : Reg) (imm : Imm16) : Nat := (c.reg ra + sext imm).toNat

/-- A load of `size` bytes: an exception, or the value extended into rd (R270). -/
def State.loads (s : State) (n : Nat) (rd ra : Reg) (imm : Imm16) (size : Nat) (ext : Nat → Word) : State :=
  let c := s.core n
  let a := c.address ra imm
  if a % size != 0 then s.coreException n 2 a
  else match s.coreRead n a size with
    | .error (x, y) => s.coreException n x y
    | .ok (bs, s) => s.setCore n (c.setReg rd (ext (leNat bs))).next

/-- A store of the low `size` bytes of rd (R270). -/
def State.stores (s : State) (n : Nat) (rd ra : Reg) (imm : Imm16) (size : Nat) : State :=
  let c := s.core n
  let a := c.address ra imm
  if a % size != 0 then s.coreException n 2 a
  else match s.coreWrite n a (natLe size (c.reg rd).toNat) with
    | .error (x, y) => s.coreException n x y
    | .ok s => s.setCore n c.next

/-- XCHG: the word at ra and rb change places, the old word into rd (R265, R270). -/
def State.exchangesWord (s : State) (n : Nat) (rd ra rb : Reg) : State :=
  let c := s.core n
  let a := (c.reg ra).toNat
  if a % 4 != 0 then s.coreException n 2 a
  else match s.coreRead n a 4 with
    | .error (x, y) => s.coreException n x y
    | .ok (bs, t) => match t.coreWrite n a (natLe 4 (c.reg rb).toNat) with
      | .error (x, y) => s.coreException n x y
      | .ok u => u.setCore n (c.setReg rd (BitVec.ofNat 32 (leNat bs))).next

/-- A branch to an offset in words from the branch itself (R266, R271). -/
def Core.branchTarget {k : Nat} (c : Core) (off : BitVec k) : Word := c.pc + 4#32 * off.signExtend 32

/-! ## Arithmetic and logic (R269) -/

/-- ADD. -/
def execAdd (t : Tk) (c : CoreNo) (rd ra rb : Reg) (s : State) : Host.Outcome State Fault Refusal :=
  s.instruction t c (wordR 0x01 rd ra rb) fun s => s.aluR c rd ra rb aluAdd

/-- SUB. -/
def execSub (t : Tk) (c : CoreNo) (rd ra rb : Reg) (s : State) : Host.Outcome State Fault Refusal :=
  s.instruction t c (wordR 0x02 rd ra rb) fun s => s.aluR c rd ra rb aluSub

/-- AND. -/
def execAnd (t : Tk) (c : CoreNo) (rd ra rb : Reg) (s : State) : Host.Outcome State Fault Refusal :=
  s.instruction t c (wordR 0x03 rd ra rb) fun s => s.aluR c rd ra rb fun x y => aluPlain (x &&& y)

/-- OR. -/
def execOr (t : Tk) (c : CoreNo) (rd ra rb : Reg) (s : State) : Host.Outcome State Fault Refusal :=
  s.instruction t c (wordR 0x04 rd ra rb) fun s => s.aluR c rd ra rb fun x y => aluPlain (x ||| y)

/-- XOR. -/
def execXor (t : Tk) (c : CoreNo) (rd ra rb : Reg) (s : State) : Host.Outcome State Fault Refusal :=
  s.instruction t c (wordR 0x05 rd ra rb) fun s => s.aluR c rd ra rb fun x y => aluPlain (x ^^^ y)

/-- SHL: the amount is rb mod 32. -/
def execShl (t : Tk) (c : CoreNo) (rd ra rb : Reg) (s : State) : Host.Outcome State Fault Refusal :=
  s.instruction t c (wordR 0x06 rd ra rb) fun s => s.aluR c rd ra rb fun x y => aluShl x (y.toNat % 32)

/-- SHR. -/
def execShr (t : Tk) (c : CoreNo) (rd ra rb : Reg) (s : State) : Host.Outcome State Fault Refusal :=
  s.instruction t c (wordR 0x07 rd ra rb) fun s => s.aluR c rd ra rb fun x y => aluShr x (y.toNat % 32)

/-- SAR. -/
def execSar (t : Tk) (c : CoreNo) (rd ra rb : Reg) (s : State) : Host.Outcome State Fault Refusal :=
  s.instruction t c (wordR 0x08 rd ra rb) fun s => s.aluR c rd ra rb fun x y => aluSar x (y.toNat % 32)

/-- MUL: the low word of the product. -/
def execMul (t : Tk) (c : CoreNo) (rd ra rb : Reg) (s : State) : Host.Outcome State Fault Refusal :=
  s.instruction t c (wordR 0x09 rd ra rb) fun s => s.aluR c rd ra rb fun x y => aluPlain (x * y)

/-- MULH: the high word of the signed product. -/
def execMulh (t : Tk) (c : CoreNo) (rd ra rb : Reg) (s : State) : Host.Outcome State Fault Refusal :=
  s.instruction t c (wordR 0x0A rd ra rb) fun s => s.aluR c rd ra rb fun x y => aluPlain (mulHigh x y)

/-- MULHU: the high word of the unsigned product. -/
def execMulhu (t : Tk) (c : CoreNo) (rd ra rb : Reg) (s : State) : Host.Outcome State Fault Refusal :=
  s.instruction t c (wordR 0x0B rd ra rb) fun s => s.aluR c rd ra rb fun x y => aluPlain (mulHighU x y)

/-- DIV: signed, truncated toward zero. -/
def execDiv (t : Tk) (c : CoreNo) (rd ra rb : Reg) (s : State) : Host.Outcome State Fault Refusal :=
  s.instruction t c (wordR 0x0C rd ra rb) fun s => s.divides c rd ra rb divSigned

/-- DIVU: the unsigned quotient. -/
def execDivu (t : Tk) (c : CoreNo) (rd ra rb : Reg) (s : State) : Host.Outcome State Fault Refusal :=
  s.instruction t c (wordR 0x0D rd ra rb) fun s => s.divides c rd ra rb fun x y => x / y

/-- REM: the signed remainder with the sign of ra. -/
def execRem (t : Tk) (c : CoreNo) (rd ra rb : Reg) (s : State) : Host.Outcome State Fault Refusal :=
  s.instruction t c (wordR 0x0E rd ra rb) fun s => s.divides c rd ra rb remSigned

/-- CMP: the flags of ra - rb. -/
def execCmp (t : Tk) (c : CoreNo) (ra rb : Reg) (s : State) : Host.Outcome State Fault Refusal :=
  s.instruction t c (wordR 0x0F 0 ra rb) fun s => s.aluCompare c (aluSub ((s.core c).reg ra) ((s.core c).reg rb))

/-- ADDI. -/
def execAddi (t : Tk) (c : CoreNo) (rd ra : Reg) (imm : Imm16) (s : State) : Host.Outcome State Fault Refusal :=
  s.instruction t c (wordI 0x11 rd ra imm) fun s => s.aluI c rd ra (sext imm) aluAdd

/-- ANDI. -/
def execAndi (t : Tk) (c : CoreNo) (rd ra : Reg) (imm : Imm16) (s : State) : Host.Outcome State Fault Refusal :=
  s.instruction t c (wordI 0x13 rd ra imm) fun s => s.aluI c rd ra (zext imm) fun x y => aluPlain (x &&& y)

/-- ORI. -/
def execOri (t : Tk) (c : CoreNo) (rd ra : Reg) (imm : Imm16) (s : State) : Host.Outcome State Fault Refusal :=
  s.instruction t c (wordI 0x14 rd ra imm) fun s => s.aluI c rd ra (zext imm) fun x y => aluPlain (x ||| y)

/-- XORI. -/
def execXori (t : Tk) (c : CoreNo) (rd ra : Reg) (imm : Imm16) (s : State) : Host.Outcome State Fault Refusal :=
  s.instruction t c (wordI 0x15 rd ra imm) fun s => s.aluI c rd ra (zext imm) fun x y => aluPlain (x ^^^ y)

/-- SHLI. -/
def execShli (t : Tk) (c : CoreNo) (rd ra : Reg) (sh : Fin 32) (s : State) : Host.Outcome State Fault Refusal :=
  s.instruction t c (wordI 0x16 rd ra (BitVec.ofNat 16 sh)) fun s => s.aluResult c rd (aluShl ((s.core c).reg ra) sh)

/-- SHRI. -/
def execShri (t : Tk) (c : CoreNo) (rd ra : Reg) (sh : Fin 32) (s : State) : Host.Outcome State Fault Refusal :=
  s.instruction t c (wordI 0x17 rd ra (BitVec.ofNat 16 sh)) fun s => s.aluResult c rd (aluShr ((s.core c).reg ra) sh)

/-- SARI. -/
def execSari (t : Tk) (c : CoreNo) (rd ra : Reg) (sh : Fin 32) (s : State) : Host.Outcome State Fault Refusal :=
  s.instruction t c (wordI 0x18 rd ra (BitVec.ofNat 16 sh)) fun s => s.aluResult c rd (aluSar ((s.core c).reg ra) sh)

/-- CMPI: the flags of ra - sext(imm). -/
def execCmpi (t : Tk) (c : CoreNo) (ra : Reg) (imm : Imm16) (s : State) : Host.Outcome State Fault Refusal :=
  s.instruction t c (wordI 0x1F 0 ra imm) fun s => s.aluCompare c (aluSub ((s.core c).reg ra) (sext imm))

/-- LUI: no flag changes. -/
def execLui (t : Tk) (c : CoreNo) (rd : Reg) (imm : Imm16) (s : State) : Host.Outcome State Fault Refusal :=
  s.instruction t c (wordI 0x20 rd 0 imm) fun s => s.setCore c ((s.core c).setReg rd (zext imm <<< (16 : Nat))).next

/-! ## Memory (R270) -/

/-- LDW. -/
def execLdw (t : Tk) (c : CoreNo) (rd ra : Reg) (imm : Imm16) (s : State) : Host.Outcome State Fault Refusal :=
  s.instruction t c (wordI 0x21 rd ra imm) fun s => s.loads c rd ra imm 4 (BitVec.ofNat 32)

/-- LDH: sign-extended. -/
def execLdh (t : Tk) (c : CoreNo) (rd ra : Reg) (imm : Imm16) (s : State) : Host.Outcome State Fault Refusal :=
  s.instruction t c (wordI 0x22 rd ra imm) fun s => s.loads c rd ra imm 2 fun v => (BitVec.ofNat 16 v).signExtend 32

/-- LDHU: zero-extended. -/
def execLdhu (t : Tk) (c : CoreNo) (rd ra : Reg) (imm : Imm16) (s : State) : Host.Outcome State Fault Refusal :=
  s.instruction t c (wordI 0x23 rd ra imm) fun s => s.loads c rd ra imm 2 (BitVec.ofNat 32)

/-- LDB: sign-extended. -/
def execLdb (t : Tk) (c : CoreNo) (rd ra : Reg) (imm : Imm16) (s : State) : Host.Outcome State Fault Refusal :=
  s.instruction t c (wordI 0x24 rd ra imm) fun s => s.loads c rd ra imm 1 fun v => (BitVec.ofNat 8 v).signExtend 32

/-- LDBU: zero-extended. -/
def execLdbu (t : Tk) (c : CoreNo) (rd ra : Reg) (imm : Imm16) (s : State) : Host.Outcome State Fault Refusal :=
  s.instruction t c (wordI 0x25 rd ra imm) fun s => s.loads c rd ra imm 1 (BitVec.ofNat 32)

/-- STW. -/
def execStw (t : Tk) (c : CoreNo) (rd ra : Reg) (imm : Imm16) (s : State) : Host.Outcome State Fault Refusal :=
  s.instruction t c (wordI 0x26 rd ra imm) fun s => s.stores c rd ra imm 4

/-- STH. -/
def execSth (t : Tk) (c : CoreNo) (rd ra : Reg) (imm : Imm16) (s : State) : Host.Outcome State Fault Refusal :=
  s.instruction t c (wordI 0x27 rd ra imm) fun s => s.stores c rd ra imm 2

/-- STB. -/
def execStb (t : Tk) (c : CoreNo) (rd ra : Reg) (imm : Imm16) (s : State) : Host.Outcome State Fault Refusal :=
  s.instruction t c (wordI 0x28 rd ra imm) fun s => s.stores c rd ra imm 1

/-- XCHG. -/
def execXchg (t : Tk) (c : CoreNo) (rd ra rb : Reg) (s : State) : Host.Outcome State Fault Refusal :=
  s.instruction t c (wordR 0x29 rd ra rb) fun s => s.exchangesWord c rd ra rb

/-! ## Branches, jumps and the system (R271, R272) -/

/-- B. -/
def execB (t : Tk) (c : CoreNo) (cond : Cond) (off : BitVec 20) (s : State) : Host.Outcome State Fault Refusal :=
  s.instruction t c (wordB cond off) fun s =>
    let x := s.core c
    if x.holds cond then s.jumpTo c x (x.branchTarget off) else s.setCore c x.next

/-- CALL: G15 takes the return address. -/
def execCall (t : Tk) (c : CoreNo) (off : BitVec 24) (s : State) : Host.Outcome State Fault Refusal :=
  s.instruction t c (wordJ off) fun s =>
    let x := s.core c
    s.jumpTo c (x.setReg 15 (x.pc + 4#32)) (x.branchTarget off)

/-- JR: a jump to the end address ends the routine or program (R291). -/
def execJr (t : Tk) (c : CoreNo) (ra : Reg) (s : State) : Host.Outcome State Fault Refusal :=
  s.instruction t c (wordR 0x32 0 ra 0) fun s => s.jumpTo c (s.core c) ((s.core c).reg ra)

/-- JALR: ra is read before rd is written. -/
def execJalr (t : Tk) (c : CoreNo) (rd ra : Reg) (s : State) : Host.Outcome State Fault Refusal :=
  s.instruction t c (wordR 0x33 rd ra 0) fun s =>
    let x := s.core c
    s.jumpTo c (x.setReg rd (x.pc + 4#32)) (x.reg ra)

/-- MFS: an unlisted number raises exception 0x01 (R258). -/
def execMfs (t : Tk) (c : CoreNo) (rd : Reg) (imm : Imm16) (s : State) : Host.Outcome State Fault Refusal :=
  s.instruction t c (wordI 0x40 rd 0 imm) fun s =>
    match s.specialRead c imm.toNat with
    | some v => s.setCore c ((s.core c).setReg rd v).next
    | none => s.illegal c (wordI 0x40 rd 0 imm)

/-- MTS: an unlisted or read-only number raises exception 0x01 (R258). -/
def execMts (t : Tk) (c : CoreNo) (imm : Imm16) (ra : Reg) (s : State) : Host.Outcome State Fault Refusal :=
  s.instruction t c (wordI 0x41 0 ra imm) fun s =>
    match (s.core c).specialWrite imm.toNat ((s.core c).reg ra) with
    | some x => s.setCore c x.next
    | none => s.illegal c (wordI 0x41 0 ra imm)

/-- RETI (R286). -/
def execReti (t : Tk) (c : CoreNo) (s : State) : Host.Outcome State Fault Refusal :=
  s.instruction t c (wordR 0x42 0 0 0) fun s => s.returns c (wordR 0x42 0 0 0)

/-- TRAP: exception 0x07 with the immediate (R287). -/
def execTrap (t : Tk) (c : CoreNo) (imm : Imm16) (s : State) : Host.Outcome State Fault Refusal :=
  s.instruction t c (wordI 0x43 0 0 imm) fun s => s.coreException c 7 imm.toNat

/-- NOP. -/
def execNop (t : Tk) (c : CoreNo) (s : State) : Host.Outcome State Fault Refusal :=
  s.instruction t c (wordR 0x45 0 0 0) fun s => s.setCore c (s.core c).next

/-! ## Words that are no instruction, and addresses that cannot be fetched (R267, R272) -/

/-- A core that runs meets a word that is no instruction (R267). -/
def State.meetsIllegal (s : State) (n : Nat) : State :=
  match (s.core n).runs, s.fetch n (s.core n).pc with
  | true, some w => if legalWord w then s else (s.fetched n).illegal n w
  | _, _ => s

/-- ILLEGAL_INSTRUCTION (R267). -/
def execIllegalInstruction (t : Tk) (c : CoreNo) (s : State) : Host.Outcome State Fault Refusal :=
  .next ((s.advance t).meetsIllegal c)

/-- The exception of a core that cannot fetch at PC: a word of local memory that cannot be corrected, or a fetch fault
(R261, R287). -/
def State.fetchException (s : State) (n : Nat) : Nat :=
  let a := (s.core n).pc.toNat
  if a % 4 = 0 && decide (a + 4 ≤ 0x100000) then 6 else 4

/-- A core that runs cannot fetch at PC (R260, R261, R262, R272). -/
def State.meetsFetchFault (s : State) (n : Nat) : State :=
  let c := s.core n
  if c.runs && (s.fetch n c.pc).isNone then s.coreException n (s.fetchException n) c.pc.toNat else s

/-- FETCH_FAULT (R272). -/
def execFetchFault (t : Tk) (c : CoreNo) (s : State) : Host.Outcome State Fault Refusal :=
  .next ((s.advance t).meetsFetchFault c)

end Sys2Proof.Machine
end

