-- ==== Sys2Proof/Machine/CoreDev.lean ====
section
/-!
DEFINITION. The device instructions of the step cores (R273 to R283), entries into handlers (R284, R285), the commands of
the core object (R292, R297), and SC0's supervision of the scrubber (R295).
-/

namespace Sys2Proof.Machine

/-! ## How a device instruction ends (R275) -/

/-- A device instruction is refused: V := 1 and OST := the code. -/
def Core.refused (c : Core) (code : Nat) : Core :=
  let c := (c.setFlag flagV true).next
  { c with ost := BitVec.ofNat 32 code }

/-- A device instruction succeeds: V := 0 and OST := 0. -/
def Core.succeeded (c : Core) : Core :=
  let c := (c.setFlag flagV false).next
  { c with ost := 0#32 }

/-- The core `n` goes on with `f` after its instruction has turned `s` into `t`; a core that its own instruction has reset
(R292, R293) stays as that reset left it. -/
def State.goesOn (s t : State) (n : Nat) (f : Core → Core) : State :=
  let c := s.core n
  let d := t.core n
  if d.g = c.g ∧ d.fast = c.fast ∧ d.pc = c.pc then t.setCore n (f d) else t

/-! ## Reads (R275, R276) -/

/-- The timestamp subindex of a newest-result object whose snapshot is kept per lane or unit (R126, R153, R276): 0 where
there is none; `none` for every other object. -/
def laneValue (idx sub : Nat) : Option Nat :=
  if 0x3200 ≤ idx ∧ idx ≤ 0x3247 ∧ 0x20 ≤ sub ∧ sub ≤ 0x23 then some (sub + 4)
  else if 0x3300 ≤ idx ∧ idx ≤ 0x3347 ∧ 0x24 ≤ sub ∧ sub ≤ 0x27 then some (sub + 0x0C)
  else if 0x3300 ≤ idx ∧ idx ≤ 0x3347 ∧ 0x28 ≤ sub ∧ sub ≤ 0x2B then some (sub + 4)
  else if 0x3620 ≤ idx ∧ idx ≤ 0x3627 ∧ sub = 5 then some 0
  else none

/-- The newest-result subindex that a newest-timestamp object belongs to. -/
def laneStamp (idx sub : Nat) : Option Nat :=
  if 0x3200 ≤ idx ∧ idx ≤ 0x3247 ∧ 0x24 ≤ sub ∧ sub ≤ 0x27 then some (sub - 4)
  else if 0x3300 ≤ idx ∧ idx ≤ 0x3347 ∧ 0x30 ≤ sub ∧ sub ≤ 0x33 then some (sub - 0x0C)
  else if 0x3300 ≤ idx ∧ idx ≤ 0x3347 ∧ 0x2C ≤ sub ∧ sub ≤ 0x2F then some (sub - 4)
  else none

/-- The low word of a 64-bit number. -/
def lowWord (v : Nat) : Word := BitVec.ofNat 32 v
/-- The high word of a 64-bit number. -/
def highWord (v : Nat) : Word := BitVec.ofNat 32 (v / 2 ^ 32)
/-- A live high word read with no snapshot of its lane: bit 62 of the object is 1 (R126). -/
def unpaired (v : Nat) : Word := putFlag (highWord v) 30 true

/-- The snapshot of a lane that a core holds: whether a newer result exists, the high word, and the timestamp. -/
def Core.laneSnap (c : Core) (idx sub : Nat) : Option (Bool × Word × Nat) := Table.get none c.laneSnaps (objKey idx sub)

/-- A part of a 64-bit object whose live value is `v`, and what the core then holds; `ts` is the live timestamp of its
lane. -/
def Core.reads64 (c : Core) (idx sub part v ts : Nat) : Core × Word :=
  match laneValue idx sub, laneStamp idx sub with
  | some _, _ =>
    if part = 0 then
      ({ c with laneSnaps := Table.set none c.laneSnaps (objKey idx sub) (some (false, highWord v, ts)) }, lowWord v)
    else match c.laneSnap idx sub with
      | some (newer, h, _) => (c, putFlag h 31 newer)
      | none => (c, unpaired v)
  | none, some own =>
    match c.laneSnap idx own with
    | some (_, _, stamp) => (c, if part = 0 then lowWord stamp else highWord stamp)
    | none => (c, if part = 0 then lowWord v else unpaired v)
  | none, none =>
    if part = 0 then ({ c with snapshot := some (objKey idx sub, highWord v) }, lowWord v)
    else match c.snapshot with
      | some (k, h) => (c, if k = objKey idx sub then h else highWord v)
      | none => (c, highWord v)

/-- The row of the object that an operand word names, whose part it may name (R274, R275). -/
def operandCard (w : Word) : Except Refused Card := do
  refuseIf (!operandOk w) 0x06010000
  refuseIf (cardsOf (operandIndex w)).isNone 0x06020000
  match cardOf (operandIndex w) (operandSub w) with
  | none => refuse 0x06090011
  | some k =>
    refuseIf (k.ty.isBytes || operandPart w == 1 && k.ty.size != 8) 0x06010000
    return k

/-- What an ODR of an operand word reads, and what the core then holds. -/
def State.coreReads (s : State) (n : CoreNo) (w : Word) : Except Refused (Core × Word) := do
  let k ← operandCard w
  let idx := operandIndex w
  let sub := operandSub w
  let (_, bs) ← s.readObject (.core n) idx sub
  let c := s.core n
  if k.ty.size = 8 then
    return c.reads64 idx sub (operandPart w) (leNat bs)
      (match laneValue idx sub with | some 0 => 0 | some ts => s.objN idx ts | none => 0)
  else return (c, BitVec.ofInt 32 (k.ty.value bs))

/-- ODR (R275, R276). -/
def State.coreOdr (s : State) (n : CoreNo) (rd : Reg) (w : Word) : State :=
  match s.coreReads n w with
  | .ok (c, v) => s.setCore n (c.setReg rd v).succeeded
  | .error r => s.setCore n ((s.core n).refused r.code)

/-! ## Writes (R275, R277) -/

/-- The refusal of a number that does not fit a small type. -/
def OType.fitAbort (ty : OType) (v : Word) : Option Nat :=
  match ty with
  | .bool => if v.toNat < 2 then none else some 0x06090030
  | .u8 => if v.toNat < 2 ^ 8 then none else some 0x06090031
  | .u16 => if v.toNat < 2 ^ 16 then none else some 0x06090031
  | .i8 => if 2 ^ 7 ≤ v.toInt then some 0x06090031 else if v.toInt < -2 ^ 7 then some 0x06090032 else none
  | .i16 => if 2 ^ 15 ≤ v.toInt then some 0x06090031 else if v.toInt < -2 ^ 15 then some 0x06090032 else none
  | _ => none

/-- The bytes that a part-0 ODW writes to an object of a type: a 64-bit object takes the staging register above ra. -/
def OType.odwBytes (ty : OType) (staging v : Word) : Bytes :=
  if ty.size = 8 then natLe 4 v.toNat ++ natLe 4 staging.toNat else natLe ty.size v.toNat

/-- A part-0 ODW under every check of a write by the session of the core. -/
def State.corePuts (s : State) (n : CoreNo) (k : Card) (idx sub : Nat) (v : Word) : Res := do
  let bs := k.ty.odwBytes (s.core n).staging v
  let c ← s.headChecks (.core n) idx sub bs.length
  s.gateChecks (.core n) c idx sub (if k.ty.size = 8 then leNat bs else v.toNat)
  refuseWith (k.ty.fitAbort v)
  s.put (.core n) idx sub bs

/-- ODW (R275, R277); the part-0 write of a 64-bit object clears the staging register. -/
def State.coreOdw (s : State) (n : CoreNo) (v w : Word) : State :=
  match operandCard w with
  | .error r => s.setCore n ((s.core n).refused r.code)
  | .ok k =>
    if operandPart w = 1 then
      let c := (s.core n).succeeded
      s.setCore n { c with staging := v }
    else
      let clear := fun (c : Core) => if k.ty.size = 8 then { c with staging := 0#32 } else c
      match s.corePuts n k (operandIndex w) (operandSub w) v with
      | .ok t => s.goesOn t n fun c => clear c.succeeded
      | .error r => s.goesOn (r.after.getD s) n fun c => clear (c.refused r.code)

/-! ## Queues (R278, R279) -/

/-- The exception of a record address of QPUT and QGET, if it raises one: its code and address. -/
def recordException (a : Nat) : Option (Nat × Nat) :=
  if a % 32 ≠ 0 then some (2, a) else if a + 32 ≤ 0x100000 then none else some (3, a)

/-- The exception of QPUT: its record address, or a word of the record that cannot be corrected (R261, R278). -/
def State.putException (s : State) (n : CoreNo) (a : Nat) : Option (Nat × Nat) :=
  match recordException a with
  | some x => some x
  | none => (s.badWord (localBase n + a) 32).map fun w => (6, w - localBase n)

/-- QPUT. -/
def State.corePutsEntry (s : State) (n : CoreNo) (q addr : Word) : State :=
  match s.putException n addr.toNat with
  | some (x, y) => s.coreException n x y
  | none =>
    let b := s.eccBytes (localBase n + addr.toNat) 32
    let s := s.afterRead (localBase n + addr.toNat) 32
    let e : NewEntry :=
      { stamp := s.now, tag := 0x0410 + n, kind := leNat (sliceBytes b 10 1), flags := leNat (sliceBytes b 11 1),
        payload := b.drop 16 }
    let (t, code) := s.userEntry (s.core n).sess q.toNat e
    s.goesOn t n fun c => if code = 0 then c.succeeded else c.refused code

/-- The refusals of QGET, and the queue it reads. -/
def State.getAbort (s : State) (who q : Nat) : Except Refused Queue := do
  match s.queue q with
  | none => refuse 0x06090030
  | some qu =>
    refuseIf ((s.holder clsQueue q).isSome && s.holder clsQueue q != some who) 0x0F010101
    refuseIf qu.damaged 0x0F01080A
    refuseIf (!(s.streamsOn q).isEmpty) 0x0F010806
    return qu

/-- QGET. -/
def State.coreGetsEntry (s : State) (n : CoreNo) (q addr : Word) : State :=
  match recordException addr.toNat with
  | some (x, y) => s.coreException n x y
  | none =>
    match s.getAbort (s.core n).sess q.toNat with
    | .error r => s.setCore n ((s.core n).refused r.code)
    | .ok qu =>
      match qu.entries with
      | [] => s.setCore n ((s.core n).setFlag flagZ true).succeeded
      | e :: _ =>
        let t := (s.eccWrite (localBase n + addr.toNat) e.bytes).readEntries q.toNat 1
        s.goesOn t n fun c => (c.setFlag flagZ false).succeeded

/-! ## The budget and time (R282, R283) -/

/-- A number limited to what a register holds as signed. -/
def clampWord (v : Int) : Word := BitVec.ofInt 32 (max (-2 ^ 31) (min (2 ^ 31 - 1) v))

/-- BREQ. -/
def State.coreReserves (s : State) (n : CoreNo) (rd : Reg) (amount : Nat) : State :=
  let c := s.core n
  match c.step with
  | none => s.setCore n (c.refused 0x0F010A03)
  | some k =>
    let done := fun (s : State) (z : Bool) =>
      s.setCore n (((c.setReg rd (clampWord s.gov.bucket)).setFlag flagZ z).succeeded)
    if amount = 0 then done s false
    else match s.reserve amount with
      | some t =>
        let x := t.step k
        done (t.setStep k { x with extra := x.extra + amount }) false
      | none => done s true

/-- TSR; any immediate but 0 and 1 raises exception 0x01. -/
def State.coreTime (s : State) (n : CoreNo) (rd : Reg) (imm : Imm16) : State :=
  let c := s.core n
  match imm.toNat with
  | 0 =>
    let c := (c.setReg rd (lowWord s.now)).next
    s.setCore n { c with tsr := some (highWord s.now) }
  | 1 => s.setCore n (c.setReg rd (c.tsr.getD (highWord s.now))).next
  | _ => s.illegal n (wordI 0x57 rd 0 imm)

/-! ## The device instructions (R273) -/

/-- ODR: the operand word is ra + zext(imm). -/
def execOdr (t : Tk) (c : CoreNo) (rd ra : Reg) (imm : Imm16) (s : State) : Host.Outcome State Fault Refusal :=
  s.instruction t c (wordI 0x50 rd ra imm) fun s => s.coreOdr c rd ((s.core c).reg ra + zext imm)

/-- ODW: ra is written to the object that rb names. -/
def execOdw (t : Tk) (c : CoreNo) (ra rb : Reg) (s : State) : Host.Outcome State Fault Refusal :=
  s.instruction t c (wordR 0x51 0 ra rb) fun s => s.coreOdw c ((s.core c).reg ra) ((s.core c).reg rb)

/-- QPUT: the record at rb goes to queue ra. -/
def execQput (t : Tk) (c : CoreNo) (ra rb : Reg) (s : State) : Host.Outcome State Fault Refusal :=
  s.instruction t c (wordR 0x52 0 ra rb) fun s => s.corePutsEntry c ((s.core c).reg ra) ((s.core c).reg rb)

/-- QGET: the oldest entry of queue ra goes to the record at rb. -/
def execQget (t : Tk) (c : CoreNo) (ra rb : Reg) (s : State) : Host.Outcome State Fault Refusal :=
  s.instruction t c (wordR 0x53 0 ra rb) fun s => s.coreGetsEntry c ((s.core c).reg ra) ((s.core c).reg rb)

/-- WAITE (R280). -/
def execWaite (t : Tk) (c : CoreNo) (rd ra : Reg) (s : State) : Host.Outcome State Fault Refusal :=
  s.instruction t c (wordR 0x54 rd ra 0) fun s => s.coreWaits c rd ((s.core c).reg ra)

/-- WAITE_TIMEOUT (R280). -/
def execWaiteTimeout (t : Tk) (c : CoreNo) (s : State) : Host.Outcome State Fault Refusal := .next ((s.advance t).waitEnds c)

/-- A completion written by a core; a value above 511 raises exception 0x01 (R281). -/
def State.coreCompletes (s : State) (n : CoreNo) (ra : Reg) : State :=
  let v := ((s.core n).reg ra).toNat
  if 511 < v then s.illegal n (wordR 0x55 0 ra 0)
  else
    let s := s.writeCompletion n v
    s.setCore n (s.core n).next

/-- ECMP (R281). -/
def execEcmp (t : Tk) (c : CoreNo) (ra : Reg) (s : State) : Host.Outcome State Fault Refusal :=
  s.instruction t c (wordR 0x55 0 ra 0) fun s => s.coreCompletes c ra

/-- BREQ (R282). -/
def execBreq (t : Tk) (c : CoreNo) (rd ra : Reg) (s : State) : Host.Outcome State Fault Refusal :=
  s.instruction t c (wordR 0x56 rd ra 0) fun s => s.coreReserves c rd ((s.core c).reg ra).toNat

/-- TSR (R283). -/
def execTsr (t : Tk) (c : CoreNo) (rd : Reg) (imm : Imm16) (s : State) : Host.Outcome State Fault Refusal :=
  s.instruction t c (wordI 0x57 rd 0 imm) fun s => s.coreTime c rd imm

/-! ## Entries into handlers -/

/-- NORMAL_ENTRY (R284). -/
def execNormalEntry (t : Tk) (c : CoreNo) (s : State) : Host.Outcome State Fault Refusal := .next ((s.advance t).entersNormal c)

/-- FAST_ENTRY (R285). -/
def execFastEntry (t : Tk) (c : CoreNo) (s : State) : Host.Outcome State Fault Refusal := .next ((s.advance t).entersFast c)

/-! ## The core object (R292, R297) -/

/-- A write of the command of a core. -/
def State.commandsCore (s : State) (t : Tk) (a : Accessor) (c : CoreNo) (v : Nat) : Host.Outcome State Fault Refusal :=
  s.requestValue t a (0x2510 + c) 2 (natLe 1 v) fun s x => s.coreWriteObject (s.sessionOf a) c 2 x.toNat

/-- CORE_START. -/
def execCoreStart (t : Tk) (a : Accessor) (c : CoreNo) (s : State) : Host.Outcome State Fault Refusal := s.commandsCore t a c 1

/-- CORE_STOP. -/
def execCoreStop (t : Tk) (a : Accessor) (c : CoreNo) (s : State) : Host.Outcome State Fault Refusal := s.commandsCore t a c 2

/-- CORE_RESET. -/
def execCoreReset (t : Tk) (a : Accessor) (c : CoreNo) (s : State) : Host.Outcome State Fault Refusal := s.commandsCore t a c 3

/-- LOCAL_MEMORY_WRITE: a write of the local memory of a core. -/
def execLocalMemoryWrite (t : Tk) (a : Accessor) (c : CoreNo) (bytes : Bytes) (s : State) :
    Host.Outcome State Fault Refusal :=
  s.requestBytes t a (0x2510 + c) 5 bytes fun s b => s.localMemoryStore c b

/-- SC0 checks the scrubber: a second stall within 1 s of a reset is a HOLD cause (R295, R434). -/
def State.supervisesScrubber (s : State) : State :=
  let (t, again) := s.stallCheck
  if again then t.raiseCause .scrubberStall 0 else t

/-- SCRUBBER_STALL_CHECK (R295). -/
def execScrubberStallCheck (t : Tk) (s : State) : Host.Outcome State Fault Refusal :=
  .next (s.advance t).supervisesScrubber

end Sys2Proof.Machine
end

