-- ==== Sys2Proof/Machine/TimeCmds.lean ====
section
/-!
DEFINITION. The commands of the event controller (R298 to R324) and of the timebase (R325 to R340). A command that reports
an event acts when its condition holds at its instant; otherwise only time passes (log entry 1).
-/

namespace Sys2Proof.Machine

/-- A write of a number to the object `idx`:`sub` of `size` bytes, whose effect after the common checks is `k` (R442). -/
def State.writes (s : State) (t : Tk) (a : Accessor) (idx sub size v : Nat) (k : State → Nat → Res) :
    Host.Outcome State Fault Refusal :=
  s.requestValue t a idx sub (natLe size v) fun s x => k s x.toNat

/-- The same for a command that may complete or end what other requests wait for (R449, R511). -/
def State.writesAndSettles (s : State) (t : Tk) (a : Accessor) (idx sub size v : Nat) (k : State → Nat → Res) :
    Host.Outcome State Fault Refusal :=
  afterwards (s.writes t a idx sub size v k)

/-! ## The event controller -/

/-- EVENT_TIME_LIMIT (R304). -/
def execEventTimeLimit (t : Tk) (n : SourceNo) (s : State) : Host.Outcome State Fault Refusal :=
  .next ((s.advance t).timeLimit n)

/-- EVENT_COMMIT (R307). -/
def execEventCommit (t : Tk) (n : SourceNo) (s : State) : Host.Outcome State Fault Refusal :=
  .next ((s.advance t).commitSource n)

/-- LEVEL_VANISHED (R312). -/
def execLevelVanished (t : Tk) (n : SourceNo) (s : State) : Host.Outcome State Fault Refusal :=
  .next ((s.advance t).levelVanishes n)

/-- SESSION_COMPLETION: a write of 0x2401:02 (R310). -/
def execSessionCompletion (t : Tk) (a : Accessor) (v : Nat) (s : State) : Host.Outcome State Fault Refusal :=
  s.writes t a 0x2401 2 2 v fun s x => s.eventInterfaceWrite (s.sessionOf a) 2 x

/-- SOURCE_CONFIGURATION_WRITE (R323). -/
def execSourceConfigurationWrite (t : Tk) (a : Accessor) (n : SourceNo) (v : Nat) (s : State) :
    Host.Outcome State Fault Refusal :=
  s.writes t a (0x2410 + n / 128) (n % 128 + 1) 4 v fun s x => s.sourceConfigure n x

/-- SUBSCRIPTION_WRITE (R315). -/
def execSubscriptionWrite (t : Tk) (a : Accessor) (word : Fin 16) (v : Nat) (s : State) : Host.Outcome State Fault Refusal :=
  s.writes t a 0x2401 (0x10 + word) 4 v fun s x => s.eventInterfaceWrite (s.sessionOf a) (0x10 + word) x

/-- BOOKS_SELECT (R324). -/
def execBooksSelect (t : Tk) (a : Accessor) (v : Nat) (s : State) : Host.Outcome State Fault Refusal :=
  s.writes t a 0x2401 3 2 v fun s x => s.eventInterfaceWrite (s.sessionOf a) 3 x

/-! ## The reference (R326 to R330) -/

/-- Whether the timebase runs: in WAKE and the modes after it, out of reset (R326, R526). -/
def State.ticks (s : State) : Bool := (s.mode == .wake || s.mode.working) && !s.power.rstnLow

/-- The reference is lost (R327); after the first lock it is a HOLD cause (R514, R517). -/
def State.losesReference (s : State) (edges : Bool) : State :=
  if !s.ticks then s
  else
    let s := s.referenceLoses edges
    if s.timebase.everLocked then s.raiseCause .referenceLost 0 else s

/-- REFERENCE_LOST (R327). -/
def execReferenceLost (t : Tk) (edges : Bool) (s : State) : Host.Outcome State Fault Refusal :=
  .next ((s.advance t).losesReference edges).letGo

/-- HOLDOVER_EXPIRED (R327). -/
def execHoldoverExpired (t : Tk) (s : State) : Host.Outcome State Fault Refusal := .next (s.advance t).holdoverExpires

/-- The timebase locks, and reports itself ready with its first lock (R326, R507). -/
def State.locksReference (s : State) (calendar : Nat) : State :=
  if s.ticks then (s.referenceLocks calendar).setReady 9 else s

/-- REFERENCE_LOCKED (R328). -/
def execReferenceLocked (t : Tk) (calendar : Nat) (s : State) : Host.Outcome State Fault Refusal :=
  .next ((s.advance t).locksReference calendar)

/-- LOCK_HELD: the cause reference lost is no longer present (R328, R517). -/
def execLockHeld (t : Tk) (s : State) : Host.Outcome State Fault Refusal := .next ((s.advance t).clearCause .referenceLost)

/-- EPOCH_WRITE (R330). -/
def execEpochWrite (t : Tk) (a : Accessor) (v : Nat) (s : State) : Host.Outcome State Fault Refusal :=
  s.writes t a 0x2300 5 8 v fun s x => s.timebaseWrite 5 x

/-! ## SYNC and trigger outputs (R336 to R338) -/

/-- SYNC_OUTPUT_COMMAND (R336). -/
def execSyncOutputCommand (t : Tk) (a : Accessor) (v : Nat) (s : State) : Host.Outcome State Fault Refusal :=
  s.writes t a 0x2300 7 1 v fun s x => s.timebaseWrite 7 x

/-- SYNC_OUTPUT_EDGE (R336). -/
def execSyncOutputEdge (t : Tk) (s : State) : Host.Outcome State Fault Refusal := .next (s.advance t).syncEdges

/-- SYNC_PULSE_END (R336). -/
def execSyncPulseEnd (t : Tk) (s : State) : Host.Outcome State Fault Refusal := .next (s.advance t).syncFalls

/-- TRIGGER_OUTPUT_COMMAND (R337). -/
def execTriggerOutputCommand (t : Tk) (a : Accessor) (o : Fin 4) (v : Nat) (s : State) : Host.Outcome State Fault Refusal :=
  s.writes t a (0x2310 + o) 5 1 v fun s x => s.trigWrite o 5 x

/-- TRIGGER_OUTPUT_TIMER (R337). -/
def execTriggerOutputTimer (t : Tk) (o : Fin 4) (s : State) : Host.Outcome State Fault Refusal := .next ((s.advance t).trigTimer o)

/-- TRIGGER_OUTPUT_RISE (R337). -/
def execTriggerOutputRise (t : Tk) (o : Fin 4) (s : State) : Host.Outcome State Fault Refusal := .next ((s.advance t).trigRises o)

/-- TRIGGER_OUTPUT_FALL (R337). -/
def execTriggerOutputFall (t : Tk) (o : Fin 4) (s : State) : Host.Outcome State Fault Refusal := .next ((s.advance t).trigFalls o)

end Sys2Proof.Machine
end

