-- ==== Sys2Proof/Machine/QueueCmds.lean ====
section
/-!
DEFINITION. The commands of the queue system: queues and their windows (R341 to R359), the Larder (R360 to R363), streams
(R364 to R369) and credit returns (R452). A command that reports an event acts when its condition holds at its instant;
otherwise only time passes (log entry 1).
-/

namespace Sys2Proof.Machine

/-! ## The window (R343, R373, R374) -/

/-- QUEUE_CREATE (R344). -/
def execQueueCreate (t : Tk) (a : Accessor) (o : WindowOffset) (v : Nat) (s : State) : Host.Outcome State Fault Refusal :=
  s.writes t a (0x4000 + o) 2 8 v fun s x => s.windowWrite a (0x4000 + o) 2 x

/-- QUEUE_DELETE (R346). -/
def execQueueDelete (t : Tk) (a : Accessor) (o : WindowOffset) (s : State) : Host.Outcome State Fault Refusal :=
  s.writes t a (0x4000 + o) 4 1 1 fun s x => s.windowWrite a (0x4000 + o) 4 x

/-- QUEUE_FLUSH (R346). -/
def execQueueFlush (t : Tk) (a : Accessor) (o : WindowOffset) (s : State) : Host.Outcome State Fault Refusal :=
  s.writes t a (0x4000 + o) 4 1 2 fun s x => s.windowWrite a (0x4000 + o) 4 x

/-- QUEUE_SETTINGS_WRITE (R374). -/
def execQueueSettingsWrite (t : Tk) (a : Accessor) (o : WindowOffset) (v : Nat) (s : State) : Host.Outcome State Fault Refusal :=
  s.writes t a (0x4000 + o) 3 2 v fun s x => s.windowWrite a (0x4000 + o) 3 x

/-- QUEUE_REMOVE (R364). -/
def execQueueRemove (t : Tk) (a : Accessor) (o : WindowOffset) (v : Nat) (s : State) : Host.Outcome State Fault Refusal :=
  s.writes t a (0x4000 + o) 9 8 v fun s x => s.windowWrite a (0x4000 + o) 9 x

/-! ## Entries and spills (R348, R357) -/

/-- A device block writes an entry while the queue system works (R348, R369, R522). -/
def State.entryArrives (s : State) (q : Nat) (e : NewEntry) : State := if s.mode.working then s.blockEntry q e else s

/-- ENTRY_WRITE (R348). -/
def execEntryWrite (t : Tk) (q : QueueNo) (e : NewEntry) (s : State) : Host.Outcome State Fault Refusal :=
  .next ((s.advance t).entryArrives q e)

/-- SPILL_START (R357). -/
def execSpillStart (t : Tk) (s : State) : Host.Outcome State Fault Refusal :=
  .next (if s.mode.working then (s.advance t).spillStarts else s.advance t)

/-- SPILL_ACK (R357). -/
def execSpillAck (t : Tk) (s : State) : Host.Outcome State Fault Refusal :=
  .next (if s.mode.working then (s.advance t).spillAcknowledged else s.advance t)

/-! ## Streams (R365 to R367) -/

/-- STREAM_OPEN (R365). -/
def execStreamOpen (t : Tk) (a : Accessor) (k : Fin 8) (v : Nat) (s : State) : Host.Outcome State Fault Refusal :=
  s.writes t a 0x2803 (1 + k) 4 v fun s x => s.streamObjectWrite (s.sessionOf a) (1 + k) x

/-- STREAM_CLOSE: 0xFFFFFFFF closes (R365). -/
def execStreamClose (t : Tk) (a : Accessor) (k : Fin 8) (s : State) : Host.Outcome State Fault Refusal :=
  s.writes t a 0x2803 (1 + k) 4 0xFFFFFFFF fun s x => s.streamObjectWrite (s.sessionOf a) (1 + k) x

/-- CREDIT_GRANT (R366). -/
def execCreditGrant (t : Tk) (a : Accessor) (k : Fin 8) (v : Nat) (s : State) : Host.Outcome State Fault Refusal :=
  s.writes t a 0x2803 (9 + k) 4 v fun s x => s.streamObjectWrite (s.sessionOf a) (9 + k) x

/-- STREAM_ACKNOWLEDGEMENT (R366). -/
def execStreamAcknowledgement (t : Tk) (a : Accessor) (k : Fin 8) (v : Nat) (s : State) : Host.Outcome State Fault Refusal :=
  s.writes t a 0x2803 (0x19 + k) 4 v fun s x => s.streamObjectWrite (s.sessionOf a) (0x19 + k) x

/-- RESEND_REQUEST (R366). -/
def execResendRequest (t : Tk) (a : Accessor) (k : Fin 8) (v : Nat) (s : State) : Host.Outcome State Fault Refusal :=
  s.writes t a 0x2803 (0x21 + k) 1 v fun s x => s.streamObjectWrite (s.sessionOf a) (0x21 + k) x

/-- RESEND_TIMEOUT (R366). -/
def execResendTimeout (t : Tk) (n : SessionNo) (k : Fin 8) (s : State) : Host.Outcome State Fault Refusal :=
  .next ((s.advance t).resendTimesOut n k)

/-- DATAGRAM_SEND (R366, R367). -/
def execDatagramSend (t : Tk) (n : SessionNo) (k : Fin 8) (s : State) : Host.Outcome State Fault Refusal :=
  .next ((s.advance t).streamSends n k)

/-- CREDIT_RETURN (R452). -/
def execCreditReturn (t : Tk) (d : Datagram) (s : State) : Host.Outcome State Fault Refusal :=
  .next ((s.advance t).creditArrives d)

/-! ## The Larder (R351, R360, R363) -/

/-- LARDER_TRAINING_DONE (R360). -/
def execLarderTrainingDone (t : Tk) (ok : Bool) (s : State) : Host.Outcome State Fault Refusal :=
  .next ((s.advance t).larderTrained ok)

/-- The descriptor copy completes and the Larder reports itself ready (R351, R507). -/
def State.copiesDescriptors (s : State) : State := if s.pantry.copying && s.mode != .save then s.larderCopied.setReady 20 else s

/-- DESCRIPTOR_COPY_DONE (R351). -/
def execDescriptorCopyDone (t : Tk) (s : State) : Host.Outcome State Fault Refusal := .next (s.advance t).copiesDescriptors

/-- LARDER_ECC_ERROR (R363). -/
def execLarderEccError (t : Tk) (h : LarderHit) (s : State) : Host.Outcome State Fault Refusal :=
  .next ((s.advance t).larderError h)

end Sys2Proof.Machine
end

