-- ==== Sys2Proof/Machine/ZoneCmds.lean ====
section
/-!
DEFINITION. The commands of the fabric and its zones (R375 to R407). A command that reports an event acts when its
condition holds at its instant; otherwise only time passes (log entry 1).
-/

namespace Sys2Proof.Machine

/-! ## Zone commands (R388, R394) -/

/-- A write of the command of a zone. -/
def State.commandsZone (s : State) (t : Tk) (a : Accessor) (z : ZoneNo) (v : Nat) : Host.Outcome State Fault Refusal :=
  s.writesAndSettles t a (0x2720 + z) 2 1 v fun s x => s.zoneWrite (s.sessionOf a) z 2 x

/-- ZONE_START (R394). -/
def execZoneStart (t : Tk) (a : Accessor) (z : ZoneNo) (s : State) : Host.Outcome State Fault Refusal := s.commandsZone t a z 1

/-- ZONE_STOP (R388). -/
def execZoneStop (t : Tk) (a : Accessor) (z : ZoneNo) (s : State) : Host.Outcome State Fault Refusal := s.commandsZone t a z 2

/-- ZONE_ERASE (R388). -/
def execZoneErase (t : Tk) (a : Accessor) (z : ZoneNo) (s : State) : Host.Outcome State Fault Refusal := s.commandsZone t a z 3

/-! ## Draining, resets and lanes -/

/-- ZONE_CLAMP: `opened` names the channels still open (R389 to R391). -/
def execZoneClamp (t : Tk) (z : ZoneNo) (opened : List Nat) (s : State) : Host.Outcome State Fault Refusal :=
  .next ((s.advance t).zoneClamps z opened)

/-- ZONE_RESET_DONE (R390). -/
def execZoneResetDone (t : Tk) (z : ZoneNo) (s : State) : Host.Outcome State Fault Refusal :=
  .next ((s.advance t).zoneResetDone z).letGo

/-- BLOCK_MEMORY_ZEROED (R388). -/
def execBlockMemoryZeroed (t : Tk) (z : ZoneNo) (s : State) : Host.Outcome State Fault Refusal :=
  .next ((s.advance t).zeroBlocks z)

/-- LANE_RELEASE (R395). -/
def execLaneRelease (t : Tk) (z : ZoneNo) (lane : LaneRef) (s : State) : Host.Outcome State Fault Refusal :=
  .next ((s.advance t).laneReleases z lane)

/-! ## What a running zone does -/

/-- FABRIC_PORT_OUTPUT_CHANGE (R396, R398). -/
def execFabricPortOutputChange (t : Tk) (z : ZoneNo) (x : FabricPad) (d oe : Bool) (s : State) :
    Host.Outcome State Fault Refusal :=
  .next ((s.advance t).fabricOutput z x d oe)

/-- SCHEDULE_ENTRY_ARRIVAL (R397). -/
def execScheduleEntryArrival (t : Tk) (p : PortNo) (due : Tk) (d oe : Bool) (s : State) : Host.Outcome State Fault Refusal :=
  .next ((s.advance t).scheduleArrives p due d oe)

/-- SCHEDULE_ENTRY_APPLY (R397). -/
def execScheduleEntryApply (t : Tk) (p : PortNo) (s : State) : Host.Outcome State Fault Refusal :=
  .next ((s.advance t).scheduleApplies p)

/-- TAP_OUTPUT_TAKEN (R399). -/
def execTapOutputTaken (t : Tk) (z : ZoneNo) (k : Fin 8) (s : State) : Host.Outcome State Fault Refusal :=
  .next ((s.advance t).tapTakes z k)

/-- QUEUE_PORT_WRITE (R400). -/
def execQueuePortWrite (t : Tk) (z : ZoneNo) (k : Fin 16) (w : QueuePortWrite) (s : State) : Host.Outcome State Fault Refusal :=
  .next ((s.advance t).queuePortWrites z k w)

/-- TIME_PORT_REQUEST (R401). -/
def execTimePortRequest (t : Tk) (z : ZoneNo) (s : State) : Host.Outcome State Fault Refusal := .next ((s.advance t).timePort z)

/-- USER_EVENT_LINE_CHANGE (R402). -/
def execUserEventLineChange (t : Tk) (z : ZoneNo) (k : Fin 4) (level : Bool) (s : State) : Host.Outcome State Fault Refusal :=
  .next ((s.advance t).userLine z k level)

/-- DUAL_RAIL_ERROR: a dual-rail bit takes the illegal code (R380). The same command brings what else happens inside a
zone (DESIGN CHOICE, log entry 129). -/
def execDualRailError (t : Tk) (x : ZoneChange) (s : State) : Host.Outcome State Fault Refusal :=
  .next ((s.advance t).fabricChanges x.zone x.change)

/-- BLOCK_MEMORY_WRITE (R383). -/
def execBlockMemoryWrite (t : Tk) (a : Accessor) (z : ZoneNo) (bytes : Bytes) (s : State) : Host.Outcome State Fault Refusal :=
  s.requestBytes t a (0x2720 + z) 0x1D bytes fun s b => s.blockStore z b

/-- The replica stage of a zone measures its speed, per mille (R379). -/
def State.speedMeasured (s : State) (z permille : Nat) : State :=
  if s.mode.working then s.setObj (zoneObj z) 0x1C (permille % 65536 : Nat) else s

/-- ZONE_SPEED_MEASURE (R379). -/
def execZoneSpeedMeasure (t : Tk) (z : ZoneNo) (permille : Nat) (s : State) : Host.Outcome State Fault Refusal :=
  .next ((s.advance t).speedMeasured z permille)

end Sys2Proof.Machine
end

