-- ==== Sys2Proof/Machine/LoadCmds.lean ====
section
/-!
DEFINITION. The commands of the configuration loader (R408 to R420), the keys (R421 to R425), the Cellar slots and repair
copies (R426 to R428), and the scrubber (R429 to R436). A command that reports an event acts when its condition holds at
its instant; otherwise only time passes (log entry 1).
-/

namespace Sys2Proof.Machine

/-- A write of bytes to the DOMAIN `idx`:`sub`, whose effect after the common checks is `k` (R442). -/
def State.writesBytes (s : State) (t : Tk) (a : Accessor) (idx sub : Nat) (bytes : Bytes) (k : State → Bytes → Res) :
    Host.Outcome State Fault Refusal :=
  s.requestBytes t a idx sub bytes fun s b => k s b

/-! ## The stream (R416 to R419) -/

/-- STREAM_DATA_WRITE (R416). -/
def execStreamDataWrite (t : Tk) (a : Accessor) (bytes : Bytes) (s : State) : Host.Outcome State Fault Refusal :=
  afterwards (s.writesBytes t a 0x2700 1 bytes fun s b => loadAfter (s.streamWrite (s.sessionOf a) b))

/-- ZONE_BEGIN_RECORD (R417). -/
def execZoneBeginRecord (t : Tk) (s : State) : Host.Outcome State Fault Refusal := .next (s.advance t).zoneBeginRecord.letGo

/-- FRAMES_RECORD: `mismatch` is a frame whose read-back differs (R417). -/
def execFramesRecord (t : Tk) (mismatch : Option Nat) (s : State) : Host.Outcome State Fault Refusal :=
  .next ((s.advance t).framesRecord mismatch).letGo

/-- BLOCK_MEMORY_RECORD (R414). -/
def execBlockMemoryRecord (t : Tk) (s : State) : Host.Outcome State Fault Refusal := .next (s.advance t).blockRecord.letGo

/-- STREAM_END_RECORD (R418). -/
def execStreamEndRecord (t : Tk) (s : State) : Host.Outcome State Fault Refusal := .next (s.advance t).streamEnds.letGo

/-- STREAM_ABORT (R419). -/
def execStreamAbort (t : Tk) (a : Accessor) (s : State) : Host.Outcome State Fault Refusal :=
  s.writesAndSettles t a 0x2700 2 1 1 fun s x => s.loaderWrite (s.sessionOf a) 0x2700 2 x

/-- STREAM_IDLE_TIMEOUT (R419). -/
def execStreamIdleTimeout (t : Tk) (s : State) : Host.Outcome State Fault Refusal := .next (s.advance t).streamIdles.letGo

/-! ## Keys (R421 to R425) -/

/-- KEK_WRITE (R421). -/
def execKekWrite (t : Tk) (a : Accessor) (bytes : Bytes) (s : State) : Host.Outcome State Fault Refusal :=
  s.writesBytes t a 0x2701 2 bytes fun s b => s.kekStore b

/-- EK_WRITE (R422). -/
def execEkWrite (t : Tk) (a : Accessor) (bytes : Bytes) (s : State) : Host.Outcome State Fault Refusal :=
  s.writesBytes t a 0x2701 3 bytes fun s b => s.ekStore (s.sessionOf a) b

/-- BATTERY_KEY_WRITE (R422). -/
def execBatteryKeyWrite (t : Tk) (a : Accessor) (k : Fin 4) (bytes : Bytes) (s : State) : Host.Outcome State Fault Refusal :=
  s.writesBytes t a 0x2701 (4 + k) bytes fun s b => s.batteryStore (s.sessionOf a) k b

/-- POLICY_WRITE (R423). -/
def execPolicyWrite (t : Tk) (a : Accessor) (v : Nat) (s : State) : Host.Outcome State Fault Refusal :=
  s.writes t a 0x2701 8 1 v fun s x => s.loaderWrite (s.sessionOf a) 0x2701 8 x

/-- MINIMUM_SECURITY_VERSION_WRITE (R423). -/
def execMinimumSecurityVersionWrite (t : Tk) (a : Accessor) (v : Nat) (s : State) : Host.Outcome State Fault Refusal :=
  s.writes t a 0x2701 9 1 v fun s x => s.loaderWrite (s.sessionOf a) 0x2701 9 x

/-- CLEAR_BATTERY_KEYS (R425). -/
def execClearBatteryKeys (t : Tk) (a : Accessor) (v : Nat) (s : State) : Host.Outcome State Fault Refusal :=
  s.writes t a 0x2701 0x0A 1 v fun s x => s.loaderWrite (s.sessionOf a) 0x2701 0x0A x

/-- LOCKOUT_END (R424). -/
def execLockoutEnd (t : Tk) (s : State) : Host.Outcome State Fault Refusal := .next (s.advance t).lockoutEnds

/-! ## Cellar slots and repair copies (R426 to R428) -/

/-- STREAM_SLOT_WRITE (R426). -/
def execStreamSlotWrite (t : Tk) (a : Accessor) (slot : Fin 8) (bytes : Bytes) (s : State) : Host.Outcome State Fault Refusal :=
  s.writesBytes t a (0x2740 + slot) 1 bytes fun s b => s.slotStore slot b

/-- CELLAR_LOAD (R427). -/
def execCellarLoad (t : Tk) (a : Accessor) (v : Nat) (s : State) : Host.Outcome State Fault Refusal :=
  s.writesAndSettles t a 0x2700 9 1 v fun s x => s.loaderWrite (s.sessionOf a) 0x2700 9 x

/-- REPAIR_COPY_STORE (R428). -/
def execRepairCopyStore (t : Tk) (z : ZoneNo) (s : State) : Host.Outcome State Fault Refusal :=
  .next ((s.advance t).repairCopies z)

/-! ## The scrubber (R429 to R436) -/

/-- SCRUBBER_FRAME_CHECK: `u` is what upsets have left in the frame and elsewhere (R430, log entry 104). -/
def execScrubberFrameCheck (t : Tk) (f : FrameNo) (u : Upsets) (s : State) : Host.Outcome State Fault Refusal :=
  .next (((s.advance t).takesUpsets u).frameCheck f u.frame).letGo

/-- FRAME_REPAIR (R431, R432). -/
def execFrameRepair (t : Tk) (ok : Bool) (s : State) : Host.Outcome State Fault Refusal :=
  .next ((s.advance t).frameRepaired ok).letGo

/-- SCRUBBER_SWEEP_END (R430); in HOLD the error register keeps what it shows (R552). -/
def execScrubberSweepEnd (t : Tk) (s : State) : Host.Outcome State Fault Refusal :=
  .next (s.advance t).latchErrors.scrubSweepEnds

end Sys2Proof.Machine
end

