-- ==== Sys2Proof/Machine/SessionCmds.lean ====
section
/-!
DEFINITION. The commands of sessions and the transport (R445 to R464), of claims and the fixture cycle (R25, R26, R465 to
R470), of host keys (R458), and of the stores of every setting (R444). A command that reports an event acts when its
condition holds at its instant; otherwise only time passes (log entry 1).
-/

namespace Sys2Proof.Machine

/-! ## Openings (R459, R460) -/

/-- OPEN: a datagram of that opcode (R459). -/
def execOpenDatagram (t : Tk) (d : Datagram) (s : State) : Host.Outcome State Fault Refusal :=
  .next ((s.advance t).datagramArrives d)

/-- PROOF: a datagram of that opcode (R459). -/
def execProof (t : Tk) (d : Datagram) (s : State) : Host.Outcome State Fault Refusal := .next ((s.advance t).datagramArrives d)

/-- SESSION_OPEN_WRITE: the opening of session 0 on CAN0 (R459). -/
def execSessionOpenWrite (t : Tk) (bytes : Bytes) (s : State) : Host.Outcome State Fault Refusal :=
  s.writesBytes t (.session 0) 0x2105 1 bytes fun s b => s.canOpens b

/-- SESSION_PROOF_WRITE: the proof of session 0 on CAN0 (R459, R460). -/
def execSessionProofWrite (t : Tk) (bytes : Bytes) (s : State) : Host.Outcome State Fault Refusal :=
  s.writesBytes t (.session 0) 0x2105 3 bytes fun s b => s.canProves b

/-- PROOF_TIMEOUT (R460). -/
def execProofTimeout (t : Tk) (n : SessionNo) (s : State) : Host.Outcome State Fault Refusal :=
  .next ((s.advance t).proofTimesOut n)

/-- KEY_SLOT_LOCKOUT_END (R460). -/
def execKeySlotLockoutEnd (t : Tk) (h : Fin 8) (s : State) : Host.Outcome State Fault Refusal :=
  .next ((s.advance t).slotUnlocks h)

/-! ## Datagrams of an open session (R446 to R451, R463) -/

/-- CLOSE (R463). -/
def execClose (t : Tk) (d : Datagram) (s : State) : Host.Outcome State Fault Refusal :=
  .next ((s.advance t).datagramArrives d).letGo

/-- KEEPALIVE (R447). -/
def execKeepalive (t : Tk) (d : Datagram) (s : State) : Host.Outcome State Fault Refusal :=
  .next ((s.advance t).datagramArrives d)

/-- READ (R447). -/
def execRead (t : Tk) (d : Datagram) (s : State) : Host.Outcome State Fault Refusal := .next ((s.advance t).datagramArrives d)

/-- WRITE (R447). -/
def execWrite (t : Tk) (d : Datagram) (s : State) : Host.Outcome State Fault Refusal :=
  .next ((s.advance t).datagramArrives d).letGo

/-- DOMAIN_READ (R451). -/
def execDomainRead (t : Tk) (d : Datagram) (s : State) : Host.Outcome State Fault Refusal :=
  .next ((s.advance t).datagramArrives d)

/-- DOMAIN_BEGIN (R451). -/
def execDomainBegin (t : Tk) (d : Datagram) (s : State) : Host.Outcome State Fault Refusal :=
  .next ((s.advance t).datagramArrives d)

/-- DOMAIN_SEGMENT (R451). -/
def execDomainSegment (t : Tk) (d : Datagram) (s : State) : Host.Outcome State Fault Refusal :=
  .next ((s.advance t).datagramArrives d)

/-- DOMAIN_END (R451). -/
def execDomainEnd (t : Tk) (d : Datagram) (s : State) : Host.Outcome State Fault Refusal :=
  .next ((s.advance t).datagramArrives d).letGo

/-! ## CAN0 (R454 to R456) -/

/-- USDO_REQUEST (R454). -/
def execUsdoRequest (t : Tk) (u : UsdoFrame) (s : State) : Host.Outcome State Fault Refusal :=
  .next ((s.advance t).usdoArrives u).letGo

/-- USDO_TIMEOUT (R454). -/
def execUsdoTimeout (t : Tk) (s : State) : Host.Outcome State Fault Refusal := .next (s.advance t).usdoTimesOut

/-- NMT_STOPPED (R455). -/
def execNmtStopped (t : Tk) (s : State) : Host.Outcome State Fault Refusal :=
  .next (if s.ready 4 then (s.advance t).nmtSets .stopped else s.advance t)

/-- NMT_OPERATIONAL: Pre-operational or Operational (R455). -/
def execNmtOperational (t : Tk) (operational : Bool) (s : State) : Host.Outcome State Fault Refusal :=
  .next (if s.ready 4 then (s.advance t).nmtSets (if operational then .operational else .preOperational) else s.advance t)

/-- NMT_RESET (R455). -/
def execNmtReset (t : Tk) (s : State) : Host.Outcome State Fault Refusal :=
  .next (if s.ready 4 then (s.advance t).nmtResets.letGo else s.advance t)

/-- HEARTBEAT (R454). -/
def execHeartbeat (t : Tk) (s : State) : Host.Outcome State Fault Refusal := .next (s.advance t).beats

/-- HOST_LINK_STATE_CHANGE (R537). -/
def execHostLinkStateChange (t : Tk) (x : LinkChange) (s : State) : Host.Outcome State Fault Refusal :=
  .next ((s.advance t).linkChanges x)

/-! ## Leases and claims (R462, R465 to R470, R475) -/

/-- LEASE_EXPIRED (R462). -/
def execLeaseExpired (t : Tk) (n : SessionNo) (s : State) : Host.Outcome State Fault Refusal :=
  .next ((s.advance t).leaseExpires n).letGo

/-- CLAIM (R466). -/
def execClaim (t : Tk) (a : Accessor) (bytes : Bytes) (s : State) : Host.Outcome State Fault Refusal :=
  s.writesBytes t a 0x2102 1 bytes fun s b => s.claims_ (s.sessionOf a) b

/-- RELEASE (R467). -/
def execRelease (t : Tk) (a : Accessor) (bytes : Bytes) (s : State) : Host.Outcome State Fault Refusal :=
  afterwards (s.writesBytes t a 0x2102 2 bytes fun s b => s.releases (s.sessionOf a) b)

/-- RELEASE_ALL (R467). -/
def execReleaseAll (t : Tk) (a : Accessor) (v : Nat) (s : State) : Host.Outcome State Fault Refusal :=
  s.writesAndSettles t a 0x2102 3 1 v fun s x => s.releasesAll (s.sessionOf a) x

/-- CLAIM_QUERY (R475). -/
def execClaimQuery (t : Tk) (a : Accessor) (v : Nat) (s : State) : Host.Outcome State Fault Refusal :=
  s.writes t a 0x2103 1 8 v fun s x => .ok (s.queries (s.sessionOf a) x)

/-! ## The fixture cycle (R25, R26, R469) -/

/-- BIND (R469). -/
def execBind (t : Tk) (a : Accessor) (s : State) : Host.Outcome State Fault Refusal :=
  s.writes t a 0x2104 1 1 1 fun s x => s.cycleCommand (s.sessionOf a) x

/-- FIXTURE_RELEASE (R26, R469). -/
def execFixtureRelease (t : Tk) (a : Accessor) (s : State) : Host.Outcome State Fault Refusal :=
  s.writesAndSettles t a 0x2104 1 1 2 fun s x => s.cycleCommand (s.sessionOf a) x

/-! ## Host keys and stores (R444, R458) -/

/-- HOST_KEY_WRITE (R458). -/
def execHostKeyWrite (t : Tk) (a : Accessor) (h : Fin 8) (bytes : Bytes) (s : State) : Host.Outcome State Fault Refusal :=
  s.writesBytes t a (0x2110 + h) 1 bytes fun s b => s.hostKeyStore (s.sessionOf a) h b

/-- STORE (R444). -/
def execStore (t : Tk) (a : Accessor) (v : Nat) (s : State) : Host.Outcome State Fault Refusal :=
  s.writes t a 0x1010 1 4 v fun s x => s.storesAll x

/-- RESTORE_DEFAULTS (R444). -/
def execRestoreDefaults (t : Tk) (a : Accessor) (v : Nat) (s : State) : Host.Outcome State Fault Refusal :=
  s.writes t a 0x1011 1 4 v fun s x => s.restoresAll x

end Sys2Proof.Machine
end

