-- ==== Sys2Proof/Machine/CellarCmds.lean ====
section
/-!
DEFINITION. The commands of the Cellar (R479 to R487) and of calibration (R488 to R505). A command that reports an event
acts when its condition holds at its instant; otherwise only time passes (log entry 1).
-/

namespace Sys2Proof.Machine

/-! ## The Cellar -/

/-- A reset that waits for the Cellar, and requests that wait for it, go on (R449, R525). -/
def State.cellarGoesOn (s : State) : State := s.letGo.resetSettles

/-- CELLAR_COMMIT (R481). -/
def execCellarCommit (t : Tk) (s : State) : Host.Outcome State Fault Refusal := .next (s.advance t).cellarCommits.cellarGoesOn

/-- CELLAR_ABANDON (R482). -/
def execCellarAbandon (t : Tk) (reason : AbandonReason) (s : State) : Host.Outcome State Fault Refusal :=
  .next ((s.advance t).cellarAbandons reason).cellarGoesOn

/-- The replay of a power-up: in WAKE, once, out of reset; the Cellar then reports itself ready (R483, R507). -/
def State.replaysOnce (s : State) : State :=
  if s.mode = .wake && !s.power.rstnLow && !s.ready 7 then s.replays.setReady 7 else s

/-- CELLAR_REPLAY (R483). -/
def execCellarReplay (t : Tk) (s : State) : Host.Outcome State Fault Refusal := .next (s.advance t).replaysOnce

/-- COMPACTION_START (R484). -/
def execCompactionStart (t : Tk) (s : State) : Host.Outcome State Fault Refusal := .next (s.advance t).compactStarts

/-- COMPACTION_END (R484). -/
def execCompactionEnd (t : Tk) (s : State) : Host.Outcome State Fault Refusal := .next (s.advance t).compactEnds

/-- CELLAR_ECC_ERROR (R486). -/
def execCellarEccError (t : Tk) (h : CellarHit) (s : State) : Host.Outcome State Fault Refusal :=
  .next ((s.advance t).cellarError h).cellarGoesOn

/-! ## Calibration runs and units -/

/-- CALIBRATION_UNIT_START (R489, R492). -/
def execCalibrationUnitStart (t : Tk) (s : State) : Host.Outcome State Fault Refusal := .next (s.advance t).unitStarts

/-- CALIBRATION_UNIT_END (R492 to R497). -/
def execCalibrationUnitEnd (t : Tk) (r : UnitResult) (s : State) : Host.Outcome State Fault Refusal :=
  .next ((s.advance t).unitEnds r)

/-- CALIBRATION_DEADLINE (R493). -/
def execCalibrationDeadline (t : Tk) (d : DieNo) (i : CalItem) (s : State) : Host.Outcome State Fault Refusal :=
  .next ((s.advance t).deadlinePasses d (calItemNo i))

/-- CALIBRATION_RETRY (R493). -/
def execCalibrationRetry (t : Tk) (d : DieNo) (s : State) : Host.Outcome State Fault Refusal :=
  .next ((s.advance t).runRetries d)

/-! ## Calibration commands (R491, R498, R502, R505) -/

/-- A write of the calibration command. -/
def State.commandsCalibration (s : State) (t : Tk) (a : Accessor) (v : Nat) : Host.Outcome State Fault Refusal :=
  s.writes t a 0x2610 2 1 v fun s x => s.calibrationWrite (s.sessionOf a) 2 x

/-- CALIBRATE_DIES (R491). -/
def execCalibrateDies (t : Tk) (a : Accessor) (s : State) : Host.Outcome State Fault Refusal := s.commandsCalibration t a 1

/-- CALIBRATE_QUAD (R502). -/
def execCalibrateQuad (t : Tk) (a : Accessor) (s : State) : Host.Outcome State Fault Refusal := s.commandsCalibration t a 2

/-- GLOBAL_CALIBRATION (R498). -/
def execGlobalCalibration (t : Tk) (a : Accessor) (s : State) : Host.Outcome State Fault Refusal := s.commandsCalibration t a 3

/-- CANCEL_DUE_RUNS (R502). -/
def execCancelDueRuns (t : Tk) (a : Accessor) (s : State) : Host.Outcome State Fault Refusal := s.commandsCalibration t a 4

/-- GLOBAL_CALIBRATION_END (R498). -/
def execGlobalCalibrationEnd (t : Tk) (rs : GlobalResults) (s : State) : Host.Outcome State Fault Refusal :=
  .next ((s.advance t).globalEnds rs)

/-- SET_IMPORT (R505). -/
def execSetImport (t : Tk) (a : Accessor) (d : DieNo) (bytes : Bytes) (s : State) : Host.Outcome State Fault Refusal :=
  s.writesBytes t a 0x2640 (1 + d) bytes fun s b => s.setImports d b

end Sys2Proof.Machine
end

