-- ==== Sys2Proof/Machine/PowerCmds.lean ====
section
/-!
DEFINITION. The commands of supplies and resets (R506 to R509, R522 to R526, R536), of modes and HOLD (R510 to R521), of
the governor's clock (R233 to R251), and of the test-access port (R538). A command that reports an event acts when its
condition holds at its instant; otherwise only time passes (log entry 1).
-/

namespace Sys2Proof.Machine

/-! ## Supplies -/

/-- VSUP_GOOD (R506). -/
def execVsupGood (t : Tk) (mv : Nat) (s : State) : Host.Outcome State Fault Refusal := .next ((s.advance t).vsupReturns mv)

/-- POWER_FAIL (R506, R522). -/
def execPowerFail (t : Tk) (mv : Nat) (s : State) : Host.Outcome State Fault Refusal := .next ((s.advance t).powerFails mv)

/-- SAVE_END (R523). -/
def execSaveEnd (t : Tk) (s : State) : Host.Outcome State Fault Refusal := .next (s.advance t).saveEnds

/-- SAVE_SUPPLY_COLLAPSE (R523). -/
def execSaveSupplyCollapse (t : Tk) (s : State) : Host.Outcome State Fault Refusal := .next (s.advance t).saveCollapses

/-- VBAT_PRESENT (R512). -/
def execVbatPresent (t : Tk) (s : State) : Host.Outcome State Fault Refusal := .next (s.advance t).vbatRises

/-- VBAT_LOST (R425, R512). -/
def execVbatLost (t : Tk) (s : State) : Host.Outcome State Fault Refusal := .next (s.advance t).vbatFalls

/-- VIO_CHANGE (R536); a move from one band to the other without a fall below 1.2 V is outside the operating conditions
(R535). -/
def execVioChange (t : Tk) (mv : Nat) (s : State) : Host.Outcome State Fault Refusal :=
  if s.vioSkips mv then .fault .vioBandSkipped else .next ((s.advance t).vioChanges mv)

/-! ## Start-up (R507 to R511) -/

/-- A function reports itself ready where it may. -/
def State.reportsReady (s : State) (bit : Nat) : State := if s.mayBeReady bit then s.setReady bit else s

/-- READINESS_SET (R507). -/
def execReadinessSet (t : Tk) (bit : Fin 29) (s : State) : Host.Outcome State Fault Refusal :=
  .next ((s.advance t).reportsReady bit)

/-- ADVANCE_TO_IDLE (R510). -/
def execAdvanceToIdle (t : Tk) (s : State) : Host.Outcome State Fault Refusal := .next (s.advance t).advances

/-! ## Mode requests (R512 to R520) -/

/-- A write of the mode request. -/
def State.requestsMode (s : State) (t : Tk) (a : Accessor) (v : Nat) : Host.Outcome State Fault Refusal :=
  s.writesAndSettles t a 0x2000 2 1 v fun s x => s.modeRequest (s.sessionOf a) x

/-- MODE_REQUEST_SAFE (R516, R520). -/
def execModeRequestSafe (t : Tk) (a : Accessor) (s : State) : Host.Outcome State Fault Refusal := s.requestsMode t a 3

/-- MODE_REQUEST_IDLE (R510, R520). -/
def execModeRequestIdle (t : Tk) (a : Accessor) (s : State) : Host.Outcome State Fault Refusal := s.requestsMode t a 5

/-- MODE_REQUEST_RESUME (R516). -/
def execModeRequestResume (t : Tk) (a : Accessor) (s : State) : Host.Outcome State Fault Refusal := s.requestsMode t a 6

/-- MODE_REQUEST_QUIESCE (R515). -/
def execModeRequestQuiesce (t : Tk) (a : Accessor) (s : State) : Host.Outcome State Fault Refusal := s.requestsMode t a 9

/-- MODE_REQUEST_HOLD (R519). -/
def execModeRequestHold (t : Tk) (a : Accessor) (s : State) : Host.Outcome State Fault Refusal := s.requestsMode t a 0x0A

/-- QUIESCE_DRAINED (R515). -/
def execQuiesceDrained (t : Tk) (s : State) : Host.Outcome State Fault Refusal := .next (s.advance t).drains

/-- A HOLD cause arises from outside; the commanded one arises with its request alone (R517, R519). -/
def State.causeComes (s : State) (c : HoldCause) (meas : Int) : State :=
  match c with
  | .commanded => s
  | _ => s.raiseCause c meas

/-- HOLD_CAUSE (R514, R517 to R519). -/
def execHoldCause (t : Tk) (c : HoldCause) (meas : Int) (s : State) : Host.Outcome State Fault Refusal :=
  .next ((s.advance t).causeComes c meas).letGo

/-- HOLD_CAUSE_CLEARED (R517). -/
def execHoldCauseCleared (t : Tk) (c : HoldCause) (s : State) : Host.Outcome State Fault Refusal :=
  .next ((s.advance t).clearCause c)

/-! ## Resets (R525, R526) -/

/-- RESET_COMMAND: a write of 0x2000:03 (R525). -/
def execResetCommand (t : Tk) (a : Accessor) (v : Nat) (s : State) : Host.Outcome State Fault Refusal :=
  match s.writes t a 0x2000 3 4 v fun s x => s.resetCommanded (s.sessionOf a) x with
  | .next u => .next u.resetSettles
  | o => o

/-- RSTN_LOW (R525). -/
def execRstnLow (t : Tk) (s : State) : Host.Outcome State Fault Refusal := .next (s.advance t).rstnFalls

/-- RSTN_RELEASE (R525). -/
def execRstnRelease (t : Tk) (s : State) : Host.Outcome State Fault Refusal := .next (s.advance t).rstnRises

/-- WATCHDOG_EXPIRED (R525). -/
def execWatchdogExpired (t : Tk) (s : State) : Host.Outcome State Fault Refusal := .next ((s.advance t).resets 5)

/-- CORE_BROWN_OUT (R525). -/
def execCoreBrownOut (t : Tk) (s : State) : Host.Outcome State Fault Refusal := .next ((s.advance t).resets 6)

/-! ## The governor (R233 to R251) -/

/-- PORT_FIGURES_SAMPLED (R234), while the governor runs (R236, R240). -/
def execPortFiguresSampled (t : Tk) (temps : Temps) (figs : Figures) (s : State) : Host.Outcome State Fault Refusal :=
  .next (if s.ticks then (s.advance t).sampleFigures temps figs else s.advance t)

/-- What a period end finds becomes a HOLD cause: overtemperature (R251), or a die without a valid sensor (R235). -/
def State.periodCauses (s : State) (f : PeriodFound) : State :=
  let s := match f.overTemp with
    | some t => if s.causePresent .overtemperature then s else (s.cause 0x2200 8 s.now).raiseCause .overtemperature t
    | none => s
  if f.dieLost then s.raiseCause .sensorFault f.tmax else s

/-- A governor period ends, with the mean VSUP power in mW: the books, what they set off, and what waits for them (R208,
R233, R491, R525). -/
def State.governs (s : State) (pv : Int) : State :=
  if !(s.ticks && s.periodDue) then s
  else
    let was := s.ready 16
    let (u, found) := s.periodEnds pv
    let u := if u.ready 16 && !was then u.cause 0x2000 3 u.now else u
    (u.periodCauses found).runsDue.judgeReady.resetSettles

/-- GOVERNOR_PERIOD_END (R233). -/
def execGovernorPeriodEnd (t : Tk) (pv : Int) (s : State) : Host.Outcome State Fault Refusal :=
  .next ((s.advance t).governs pv).letGo

/-! ## The test-access port (R538) -/

/-- BYPASS. -/
def execBypass (t : Tk) (s : State) : Host.Outcome State Fault Refusal := .next ((s.advance t).tapTakesCode tapBypass)

/-- IDCODE. -/
def execIdcode (t : Tk) (s : State) : Host.Outcome State Fault Refusal := .next ((s.advance t).tapTakesCode tapIdcode)

/-- SAMPLE_PRELOAD. -/
def execSamplePreload (t : Tk) (s : State) : Host.Outcome State Fault Refusal := .next ((s.advance t).tapTakesCode tapSample)

/-- EXTEST. -/
def execExtest (t : Tk) (s : State) : Host.Outcome State Fault Refusal := .next ((s.advance t).tapTakesCode tapExtest)

end Sys2Proof.Machine
end

