-- ==== Sys2Proof/Machine/Dispatch.lean ====
section
/-!
DEFINITION. One arm per command: a direct call of its meaning. What a command does to everything but the queue of
waiting commands.
-/

namespace Sys2Proof.Machine

open Sys2Proof

def exec (i : Instr) (s : State) : Host.Outcome State Fault Refusal :=
  match i with
  | .objectWrite t a idx sub bytes => Sys2Proof.Machine.execObjectWrite t a idx sub bytes s
  | .functionChange t a p v => Sys2Proof.Machine.execFunctionChange t a p v s
  | .forceLevelWrite t a p current v => Sys2Proof.Machine.execForceLevelWrite t a p current v s
  | .rangeChange t a p v => Sys2Proof.Machine.execRangeChange t a p v s
  | .rangeChangeComplete t p => Sys2Proof.Machine.execRangeChangeComplete t p s
  | .settlingEnd t p => Sys2Proof.Machine.execSettlingEnd t p s
  | .busConnectionWrite t a p v => Sys2Proof.Machine.execBusConnectionWrite t a p v s
  | .busSwitchClosed t p => Sys2Proof.Machine.execBusSwitchClosed t p s
  | .clampTimeout t p => Sys2Proof.Machine.execClampTimeout t p s
  | .senseOpen t p => Sys2Proof.Machine.execSenseOpen t p s
  | .senseCheckPass t p => Sys2Proof.Machine.execSenseCheckPass t p s
  | .portFault t p cause => Sys2Proof.Machine.execPortFault t p cause s
  | .dieCurrentLimit t die => Sys2Proof.Machine.execDieCurrentLimit t die s
  | .faultClear t a p v gone => Sys2Proof.Machine.execFaultClear t a p v gone s
  | .receiverRestartDone t p level => Sys2Proof.Machine.execReceiverRestartDone t p level s
  | .parkExit t p => Sys2Proof.Machine.execParkExit t p s
  | .pinSignalChange t x => Sys2Proof.Machine.execPinSignalChange t x s
  | .glitchFilterAccept t l => Sys2Proof.Machine.execGlitchFilterAccept t l s
  | .debounceWindowEnd t l => Sys2Proof.Machine.execDebounceWindowEnd t l s
  | .resyncLevelDefined t l => Sys2Proof.Machine.execResyncLevelDefined t l s
  | .servicePinFunctionWrite t a n v => Sys2Proof.Machine.execServicePinFunctionWrite t a n v s
  | .interlockTrip t => Sys2Proof.Machine.execInterlockTrip t s
  | .contentionDetect t n => Sys2Proof.Machine.execContentionDetect t n s
  | .runModeStop t a c => Sys2Proof.Machine.execRunModeStop t a c s
  | .sequenceStopped t c => Sys2Proof.Machine.execSequenceStopped t c s
  | .runModeContinuous t a c => Sys2Proof.Machine.execRunModeContinuous t a c s
  | .runModeTriggered t a c => Sys2Proof.Machine.execRunModeTriggered t a c s
  | .runModeOnePass t a c => Sys2Proof.Machine.execRunModeOnePass t a c s
  | .passStart t c => Sys2Proof.Machine.execPassStart t c s
  | .entryEnd t c codes => Sys2Proof.Machine.execEntryEnd t c codes s
  | .rawEntryWrite t c codes => Sys2Proof.Machine.execRawEntryWrite t c codes s
  | .timerTrigger t c => Sys2Proof.Machine.execTimerTrigger t c s
  | .triggerCommand t a c v => Sys2Proof.Machine.execTriggerCommand t a c v s
  | .urgentRequest t a c v => Sys2Proof.Machine.execUrgentRequest t a c v s
  | .urgentStart t c => Sys2Proof.Machine.execUrgentStart t c s
  | .urgentEnd t c codes => Sys2Proof.Machine.execUrgentEnd t c codes s
  | .diagnosisCommand t a c v => Sys2Proof.Machine.execDiagnosisCommand t a c v s
  | .diagnosisEnd t c m0 m1 m2 => Sys2Proof.Machine.execDiagnosisEnd t c m0 m1 m2 s
  | .referenceSettled t c => Sys2Proof.Machine.execReferenceSettled t c s
  | .eventSelectWrite t a idx sub v => Sys2Proof.Machine.execEventSelectWrite t a idx sub v s
  | .eventCausesClear t a idx sub v => Sys2Proof.Machine.execEventCausesClear t a idx sub v s
  | .coarseOutput t n l xs => Sys2Proof.Machine.execCoarseOutput t n l xs s
  | .fineOutput t n l xs => Sys2Proof.Machine.execFineOutput t n l xs s
  | .sampleDropped t n l => Sys2Proof.Machine.execSampleDropped t n l s
  | .chainConfigWrite t a n sub v => Sys2Proof.Machine.execChainConfigWrite t a n sub v s
  | .bankWrite t a n bank bytes => Sys2Proof.Machine.execBankWrite t a n bank bytes s
  | .swapRequest t a n v => Sys2Proof.Machine.execSwapRequest t a n v s
  | .fadeEnd t n => Sys2Proof.Machine.execFadeEnd t n s
  | .syncCommand t a n v => Sys2Proof.Machine.execSyncCommand t a n v s
  | .syncInputEdge t stamp => Sys2Proof.Machine.execSyncInputEdge t stamp s
  | .syncReset t n => Sys2Proof.Machine.execSyncReset t n s
  | .mapperEnable t a => Sys2Proof.Machine.execMapperEnable t a s
  | .mapperDisable t a => Sys2Proof.Machine.execMapperDisable t a s
  | .mapStart t a => Sys2Proof.Machine.execMapStart t a s
  | .mapAbortCommand t a => Sys2Proof.Machine.execMapAbortCommand t a s
  | .mapBudgetGranted t => Sys2Proof.Machine.execMapBudgetGranted t s
  | .mapBudgetWaitExpired t => Sys2Proof.Machine.execMapBudgetWaitExpired t s
  | .mapGroupEnd t rests samples => Sys2Proof.Machine.execMapGroupEnd t rests samples s
  | .mapAnalysisEnd t => Sys2Proof.Machine.execMapAnalysisEnd t s
  | .mapRoundEnd t rs => Sys2Proof.Machine.execMapRoundEnd t rs s
  | .mapEnd t => Sys2Proof.Machine.execMapEnd t s
  | .referenceWrite t a slot bytes => Sys2Proof.Machine.execReferenceWrite t a slot bytes s
  | .planImageWrite t a slot bytes => Sys2Proof.Machine.execPlanImageWrite t a slot bytes s
  | .planStart t a => Sys2Proof.Machine.execPlanStart t a s
  | .planAbort t a => Sys2Proof.Machine.execPlanAbort t a s
  | .dispatch t k => Sys2Proof.Machine.execDispatch t k s
  | .stepEnd t k => Sys2Proof.Machine.execStepEnd t k s
  | .stepTimeout t k => Sys2Proof.Machine.execStepTimeout t k s
  | .stepHeld t k => Sys2Proof.Machine.execStepHeld t k s
  | .stepBudgetWaitExpired t k => Sys2Proof.Machine.execStepBudgetWaitExpired t k s
  | .peakTailEnd t => Sys2Proof.Machine.execPeakTailEnd t s
  | .waitStepElapsed t k => Sys2Proof.Machine.execWaitStepElapsed t k s
  | .sweepLevelMeasured t m r => Sys2Proof.Machine.execSweepLevelMeasured t m r s
  | .sweepEnd t m => Sys2Proof.Machine.execSweepEnd t m s
  | .canEnable t a e v => Sys2Proof.Machine.execCanEnable t a e v s
  | .canTransmit t a e bytes => Sys2Proof.Machine.execCanTransmit t a e bytes s
  | .canFrameTransmitted t e => Sys2Proof.Machine.execCanFrameTransmitted t e s
  | .canFrameReceived t e f => Sys2Proof.Machine.execCanFrameReceived t e f s
  | .canBusOff t e => Sys2Proof.Machine.execCanBusOff t e s
  | .canRecover t a e v => Sys2Proof.Machine.execCanRecover t a e v s
  | .linEnable t a l v => Sys2Proof.Machine.execLinEnable t a l v s
  | .linFrameReceived t l f => Sys2Proof.Machine.execLinFrameReceived t l f s
  | .sentEnable t a r v => Sys2Proof.Machine.execSentEnable t a r v s
  | .sentFrameReceived t r f => Sys2Proof.Machine.execSentFrameReceived t r f s
  | .pwmEnable t a u v => Sys2Proof.Machine.execPwmEnable t a u v s
  | .pwmResult t u r => Sys2Proof.Machine.execPwmResult t u r s
  | .protocolResponseTimeout t k => Sys2Proof.Machine.execProtocolResponseTimeout t k s
  | .governorPeriodEnd t pv => Sys2Proof.Machine.execGovernorPeriodEnd t pv s
  | .add t c rd ra rb => Sys2Proof.Machine.execAdd t c rd ra rb s
  | .sub t c rd ra rb => Sys2Proof.Machine.execSub t c rd ra rb s
  | .and t c rd ra rb => Sys2Proof.Machine.execAnd t c rd ra rb s
  | .or t c rd ra rb => Sys2Proof.Machine.execOr t c rd ra rb s
  | .xor t c rd ra rb => Sys2Proof.Machine.execXor t c rd ra rb s
  | .shl t c rd ra rb => Sys2Proof.Machine.execShl t c rd ra rb s
  | .shr t c rd ra rb => Sys2Proof.Machine.execShr t c rd ra rb s
  | .sar t c rd ra rb => Sys2Proof.Machine.execSar t c rd ra rb s
  | .mul t c rd ra rb => Sys2Proof.Machine.execMul t c rd ra rb s
  | .mulh t c rd ra rb => Sys2Proof.Machine.execMulh t c rd ra rb s
  | .mulhu t c rd ra rb => Sys2Proof.Machine.execMulhu t c rd ra rb s
  | .div t c rd ra rb => Sys2Proof.Machine.execDiv t c rd ra rb s
  | .divu t c rd ra rb => Sys2Proof.Machine.execDivu t c rd ra rb s
  | .rem t c rd ra rb => Sys2Proof.Machine.execRem t c rd ra rb s
  | .cmp t c ra rb => Sys2Proof.Machine.execCmp t c ra rb s
  | .addi t c rd ra imm => Sys2Proof.Machine.execAddi t c rd ra imm s
  | .andi t c rd ra imm => Sys2Proof.Machine.execAndi t c rd ra imm s
  | .ori t c rd ra imm => Sys2Proof.Machine.execOri t c rd ra imm s
  | .xori t c rd ra imm => Sys2Proof.Machine.execXori t c rd ra imm s
  | .shli t c rd ra sh => Sys2Proof.Machine.execShli t c rd ra sh s
  | .shri t c rd ra sh => Sys2Proof.Machine.execShri t c rd ra sh s
  | .sari t c rd ra sh => Sys2Proof.Machine.execSari t c rd ra sh s
  | .cmpi t c ra imm => Sys2Proof.Machine.execCmpi t c ra imm s
  | .lui t c rd imm => Sys2Proof.Machine.execLui t c rd imm s
  | .ldw t c rd ra imm => Sys2Proof.Machine.execLdw t c rd ra imm s
  | .ldh t c rd ra imm => Sys2Proof.Machine.execLdh t c rd ra imm s
  | .ldhu t c rd ra imm => Sys2Proof.Machine.execLdhu t c rd ra imm s
  | .ldb t c rd ra imm => Sys2Proof.Machine.execLdb t c rd ra imm s
  | .ldbu t c rd ra imm => Sys2Proof.Machine.execLdbu t c rd ra imm s
  | .stw t c rd ra imm => Sys2Proof.Machine.execStw t c rd ra imm s
  | .sth t c rd ra imm => Sys2Proof.Machine.execSth t c rd ra imm s
  | .stb t c rd ra imm => Sys2Proof.Machine.execStb t c rd ra imm s
  | .xchg t c rd ra rb => Sys2Proof.Machine.execXchg t c rd ra rb s
  | .b t c cond off => Sys2Proof.Machine.execB t c cond off s
  | .call t c off => Sys2Proof.Machine.execCall t c off s
  | .jr t c ra => Sys2Proof.Machine.execJr t c ra s
  | .jalr t c rd ra => Sys2Proof.Machine.execJalr t c rd ra s
  | .mfs t c rd imm => Sys2Proof.Machine.execMfs t c rd imm s
  | .mts t c imm ra => Sys2Proof.Machine.execMts t c imm ra s
  | .reti t c => Sys2Proof.Machine.execReti t c s
  | .trap t c imm => Sys2Proof.Machine.execTrap t c imm s
  | .nop t c => Sys2Proof.Machine.execNop t c s
  | .odr t c rd ra imm => Sys2Proof.Machine.execOdr t c rd ra imm s
  | .odw t c ra rb => Sys2Proof.Machine.execOdw t c ra rb s
  | .qput t c ra rb => Sys2Proof.Machine.execQput t c ra rb s
  | .qget t c ra rb => Sys2Proof.Machine.execQget t c ra rb s
  | .waite t c rd ra => Sys2Proof.Machine.execWaite t c rd ra s
  | .waiteTimeout t c => Sys2Proof.Machine.execWaiteTimeout t c s
  | .ecmp t c ra => Sys2Proof.Machine.execEcmp t c ra s
  | .breq t c rd ra => Sys2Proof.Machine.execBreq t c rd ra s
  | .tsr t c rd imm => Sys2Proof.Machine.execTsr t c rd imm s
  | .normalEntry t c => Sys2Proof.Machine.execNormalEntry t c s
  | .fastEntry t c => Sys2Proof.Machine.execFastEntry t c s
  | .coreStart t a c => Sys2Proof.Machine.execCoreStart t a c s
  | .coreStop t a c => Sys2Proof.Machine.execCoreStop t a c s
  | .coreReset t a c => Sys2Proof.Machine.execCoreReset t a c s
  | .localMemoryWrite t a c bytes => Sys2Proof.Machine.execLocalMemoryWrite t a c bytes s
  | .scrubberStallCheck t => Sys2Proof.Machine.execScrubberStallCheck t s
  | .eventTimeLimit t n => Sys2Proof.Machine.execEventTimeLimit t n s
  | .eventCommit t n => Sys2Proof.Machine.execEventCommit t n s
  | .levelVanished t n => Sys2Proof.Machine.execLevelVanished t n s
  | .sessionCompletion t a v => Sys2Proof.Machine.execSessionCompletion t a v s
  | .sourceConfigurationWrite t a n v => Sys2Proof.Machine.execSourceConfigurationWrite t a n v s
  | .subscriptionWrite t a word v => Sys2Proof.Machine.execSubscriptionWrite t a word v s
  | .booksSelect t a v => Sys2Proof.Machine.execBooksSelect t a v s
  | .referenceLost t edges => Sys2Proof.Machine.execReferenceLost t edges s
  | .holdoverExpired t => Sys2Proof.Machine.execHoldoverExpired t s
  | .referenceLocked t calendar => Sys2Proof.Machine.execReferenceLocked t calendar s
  | .lockHeld t => Sys2Proof.Machine.execLockHeld t s
  | .epochWrite t a v => Sys2Proof.Machine.execEpochWrite t a v s
  | .syncOutputCommand t a v => Sys2Proof.Machine.execSyncOutputCommand t a v s
  | .syncOutputEdge t => Sys2Proof.Machine.execSyncOutputEdge t s
  | .syncPulseEnd t => Sys2Proof.Machine.execSyncPulseEnd t s
  | .triggerOutputCommand t a o v => Sys2Proof.Machine.execTriggerOutputCommand t a o v s
  | .triggerOutputTimer t o => Sys2Proof.Machine.execTriggerOutputTimer t o s
  | .triggerOutputRise t o => Sys2Proof.Machine.execTriggerOutputRise t o s
  | .triggerOutputFall t o => Sys2Proof.Machine.execTriggerOutputFall t o s
  | .queueCreate t a o v => Sys2Proof.Machine.execQueueCreate t a o v s
  | .queueDelete t a o => Sys2Proof.Machine.execQueueDelete t a o s
  | .queueFlush t a o => Sys2Proof.Machine.execQueueFlush t a o s
  | .queueSettingsWrite t a o v => Sys2Proof.Machine.execQueueSettingsWrite t a o v s
  | .entryWrite t q e => Sys2Proof.Machine.execEntryWrite t q e s
  | .spillStart t => Sys2Proof.Machine.execSpillStart t s
  | .spillAck t => Sys2Proof.Machine.execSpillAck t s
  | .queueRemove t a o v => Sys2Proof.Machine.execQueueRemove t a o v s
  | .streamOpen t a k v => Sys2Proof.Machine.execStreamOpen t a k v s
  | .streamClose t a k => Sys2Proof.Machine.execStreamClose t a k s
  | .creditGrant t a k v => Sys2Proof.Machine.execCreditGrant t a k v s
  | .streamAcknowledgement t a k v => Sys2Proof.Machine.execStreamAcknowledgement t a k v s
  | .resendRequest t a k v => Sys2Proof.Machine.execResendRequest t a k v s
  | .resendTimeout t n k => Sys2Proof.Machine.execResendTimeout t n k s
  | .datagramSend t n k => Sys2Proof.Machine.execDatagramSend t n k s
  | .creditReturn t d => Sys2Proof.Machine.execCreditReturn t d s
  | .larderTrainingDone t ok => Sys2Proof.Machine.execLarderTrainingDone t ok s
  | .descriptorCopyDone t => Sys2Proof.Machine.execDescriptorCopyDone t s
  | .larderEccError t h => Sys2Proof.Machine.execLarderEccError t h s
  | .zoneStart t a z => Sys2Proof.Machine.execZoneStart t a z s
  | .zoneStop t a z => Sys2Proof.Machine.execZoneStop t a z s
  | .zoneErase t a z => Sys2Proof.Machine.execZoneErase t a z s
  | .zoneClamp t z opened => Sys2Proof.Machine.execZoneClamp t z opened s
  | .zoneResetDone t z => Sys2Proof.Machine.execZoneResetDone t z s
  | .blockMemoryZeroed t z => Sys2Proof.Machine.execBlockMemoryZeroed t z s
  | .laneRelease t z lane => Sys2Proof.Machine.execLaneRelease t z lane s
  | .scheduleEntryApply t p => Sys2Proof.Machine.execScheduleEntryApply t p s
  | .queuePortWrite t z k w => Sys2Proof.Machine.execQueuePortWrite t z k w s
  | .timePortRequest t z => Sys2Proof.Machine.execTimePortRequest t z s
  | .userEventLineChange t z k level => Sys2Proof.Machine.execUserEventLineChange t z k level s
  | .dualRailError t x => Sys2Proof.Machine.execDualRailError t x s
  | .blockMemoryWrite t a z bytes => Sys2Proof.Machine.execBlockMemoryWrite t a z bytes s
  | .zoneSpeedMeasure t z permille => Sys2Proof.Machine.execZoneSpeedMeasure t z permille s
  | .streamDataWrite t a bytes => Sys2Proof.Machine.execStreamDataWrite t a bytes s
  | .zoneBeginRecord t => Sys2Proof.Machine.execZoneBeginRecord t s
  | .framesRecord t mismatch => Sys2Proof.Machine.execFramesRecord t mismatch s
  | .blockMemoryRecord t => Sys2Proof.Machine.execBlockMemoryRecord t s
  | .streamEndRecord t => Sys2Proof.Machine.execStreamEndRecord t s
  | .streamAbort t a => Sys2Proof.Machine.execStreamAbort t a s
  | .streamIdleTimeout t => Sys2Proof.Machine.execStreamIdleTimeout t s
  | .kekWrite t a bytes => Sys2Proof.Machine.execKekWrite t a bytes s
  | .ekWrite t a bytes => Sys2Proof.Machine.execEkWrite t a bytes s
  | .batteryKeyWrite t a k bytes => Sys2Proof.Machine.execBatteryKeyWrite t a k bytes s
  | .policyWrite t a v => Sys2Proof.Machine.execPolicyWrite t a v s
  | .minimumSecurityVersionWrite t a v => Sys2Proof.Machine.execMinimumSecurityVersionWrite t a v s
  | .clearBatteryKeys t a v => Sys2Proof.Machine.execClearBatteryKeys t a v s
  | .lockoutEnd t => Sys2Proof.Machine.execLockoutEnd t s
  | .streamSlotWrite t a slot bytes => Sys2Proof.Machine.execStreamSlotWrite t a slot bytes s
  | .cellarLoad t a v => Sys2Proof.Machine.execCellarLoad t a v s
  | .repairCopyStore t z => Sys2Proof.Machine.execRepairCopyStore t z s
  | .scrubberFrameCheck t f u => Sys2Proof.Machine.execScrubberFrameCheck t f u s
  | .frameRepair t ok => Sys2Proof.Machine.execFrameRepair t ok s
  | .scrubberSweepEnd t => Sys2Proof.Machine.execScrubberSweepEnd t s
  | .openDatagram t d => Sys2Proof.Machine.execOpenDatagram t d s
  | .proof t d => Sys2Proof.Machine.execProof t d s
  | .sessionOpenWrite t bytes => Sys2Proof.Machine.execSessionOpenWrite t bytes s
  | .sessionProofWrite t bytes => Sys2Proof.Machine.execSessionProofWrite t bytes s
  | .proofTimeout t n => Sys2Proof.Machine.execProofTimeout t n s
  | .close t d => Sys2Proof.Machine.execClose t d s
  | .keepalive t d => Sys2Proof.Machine.execKeepalive t d s
  | .read t d => Sys2Proof.Machine.execRead t d s
  | .write t d => Sys2Proof.Machine.execWrite t d s
  | .domainRead t d => Sys2Proof.Machine.execDomainRead t d s
  | .domainBegin t d => Sys2Proof.Machine.execDomainBegin t d s
  | .domainSegment t d => Sys2Proof.Machine.execDomainSegment t d s
  | .domainEnd t d => Sys2Proof.Machine.execDomainEnd t d s
  | .usdoRequest t u => Sys2Proof.Machine.execUsdoRequest t u s
  | .usdoTimeout t => Sys2Proof.Machine.execUsdoTimeout t s
  | .nmtStopped t => Sys2Proof.Machine.execNmtStopped t s
  | .nmtOperational t operational => Sys2Proof.Machine.execNmtOperational t operational s
  | .nmtReset t => Sys2Proof.Machine.execNmtReset t s
  | .heartbeat t => Sys2Proof.Machine.execHeartbeat t s
  | .leaseExpired t n => Sys2Proof.Machine.execLeaseExpired t n s
  | .claim t a bytes => Sys2Proof.Machine.execClaim t a bytes s
  | .release t a bytes => Sys2Proof.Machine.execRelease t a bytes s
  | .releaseAll t a v => Sys2Proof.Machine.execReleaseAll t a v s
  | .claimQuery t a v => Sys2Proof.Machine.execClaimQuery t a v s
  | .bind t a => Sys2Proof.Machine.execBind t a s
  | .fixtureRelease t a => Sys2Proof.Machine.execFixtureRelease t a s
  | .hostKeyWrite t a h bytes => Sys2Proof.Machine.execHostKeyWrite t a h bytes s
  | .store t a v => Sys2Proof.Machine.execStore t a v s
  | .restoreDefaults t a v => Sys2Proof.Machine.execRestoreDefaults t a v s
  | .cellarCommit t => Sys2Proof.Machine.execCellarCommit t s
  | .cellarAbandon t reason => Sys2Proof.Machine.execCellarAbandon t reason s
  | .cellarReplay t => Sys2Proof.Machine.execCellarReplay t s
  | .compactionStart t => Sys2Proof.Machine.execCompactionStart t s
  | .compactionEnd t => Sys2Proof.Machine.execCompactionEnd t s
  | .cellarEccError t h => Sys2Proof.Machine.execCellarEccError t h s
  | .calibrationUnitStart t => Sys2Proof.Machine.execCalibrationUnitStart t s
  | .calibrationUnitEnd t r => Sys2Proof.Machine.execCalibrationUnitEnd t r s
  | .calibrationDeadline t d item => Sys2Proof.Machine.execCalibrationDeadline t d item s
  | .calibrationRetry t d => Sys2Proof.Machine.execCalibrationRetry t d s
  | .calibrateDies t a => Sys2Proof.Machine.execCalibrateDies t a s
  | .calibrateQuad t a => Sys2Proof.Machine.execCalibrateQuad t a s
  | .globalCalibration t a => Sys2Proof.Machine.execGlobalCalibration t a s
  | .globalCalibrationEnd t rs => Sys2Proof.Machine.execGlobalCalibrationEnd t rs s
  | .cancelDueRuns t a => Sys2Proof.Machine.execCancelDueRuns t a s
  | .setImport t a d bytes => Sys2Proof.Machine.execSetImport t a d bytes s
  | .vsupGood t mv => Sys2Proof.Machine.execVsupGood t mv s
  | .powerFail t mv => Sys2Proof.Machine.execPowerFail t mv s
  | .saveEnd t => Sys2Proof.Machine.execSaveEnd t s
  | .vbatPresent t => Sys2Proof.Machine.execVbatPresent t s
  | .vbatLost t => Sys2Proof.Machine.execVbatLost t s
  | .vioChange t mv => Sys2Proof.Machine.execVioChange t mv s
  | .readinessSet t bit => Sys2Proof.Machine.execReadinessSet t bit s
  | .advanceToIdle t => Sys2Proof.Machine.execAdvanceToIdle t s
  | .modeRequestSafe t a => Sys2Proof.Machine.execModeRequestSafe t a s
  | .modeRequestIdle t a => Sys2Proof.Machine.execModeRequestIdle t a s
  | .modeRequestResume t a => Sys2Proof.Machine.execModeRequestResume t a s
  | .modeRequestQuiesce t a => Sys2Proof.Machine.execModeRequestQuiesce t a s
  | .modeRequestHold t a => Sys2Proof.Machine.execModeRequestHold t a s
  | .holdCause t c meas => Sys2Proof.Machine.execHoldCause t c meas s
  | .holdCauseCleared t c => Sys2Proof.Machine.execHoldCauseCleared t c s
  | .quiesceDrained t => Sys2Proof.Machine.execQuiesceDrained t s
  | .resetCommand t a v => Sys2Proof.Machine.execResetCommand t a v s
  | .rstnLow t => Sys2Proof.Machine.execRstnLow t s
  | .watchdogExpired t => Sys2Proof.Machine.execWatchdogExpired t s
  | .coreBrownOut t => Sys2Proof.Machine.execCoreBrownOut t s
  | .bypass t => Sys2Proof.Machine.execBypass t s
  | .idcode t => Sys2Proof.Machine.execIdcode t s
  | .samplePreload t => Sys2Proof.Machine.execSamplePreload t s
  | .extest t => Sys2Proof.Machine.execExtest t s
  | .clampStateChange t p source sink voltage => Sys2Proof.Machine.execClampStateChange t p source sink voltage s
  | .canError t e tec rxErr kind => Sys2Proof.Machine.execCanError t e tec rxErr kind s
  | .busOffRecoveryComplete t e => Sys2Proof.Machine.execBusOffRecoveryComplete t e s
  | .linHeaderReceived t start l ident => Sys2Proof.Machine.execLinHeaderReceived t start l ident s
  | .linMissingResponse t l => Sys2Proof.Machine.execLinMissingResponse t l s
  | .fabricPortOutputChange t z x d oe => Sys2Proof.Machine.execFabricPortOutputChange t z x d oe s
  | .scheduleEntryArrival t p due d oe => Sys2Proof.Machine.execScheduleEntryArrival t p due d oe s
  | .tapOutputTaken t z k => Sys2Proof.Machine.execTapOutputTaken t z k s
  | .keySlotLockoutEnd t h => Sys2Proof.Machine.execKeySlotLockoutEnd t h s
  | .hostLinkStateChange t x => Sys2Proof.Machine.execHostLinkStateChange t x s
  | .rstnRelease t => Sys2Proof.Machine.execRstnRelease t s
  | .saveSupplyCollapse t => Sys2Proof.Machine.execSaveSupplyCollapse t s
  | .portFiguresSampled t temps figs => Sys2Proof.Machine.execPortFiguresSampled t temps figs s
  | .illegalInstruction t c => Sys2Proof.Machine.execIllegalInstruction t c s
  | .fetchFault t c => Sys2Proof.Machine.execFetchFault t c s

end Sys2Proof.Machine
end

