-- ==== Sys2Proof/WellFormed.lean ====
section
/-!
DEFINITION. Well-formed commands. The operands of `Instr` that are plain numbers or lists carry the widths of the fields
they stand for; a term whose operand does not fit its field stands for no command of the IZ-7256.
-/

namespace Sys2Proof

/-- Whether a number fits a field of `n` bits. -/
def fits (n v : Nat) : Bool := decide (v < 2 ^ n)

/-- Whether an integer fits a two's-complement field of `n` bits. -/
def fitsSigned (n : Nat) (v : Int) : Bool := decide (-(2 ^ (n - 1) : Int) ≤ v) && decide (v < (2 ^ (n - 1) : Int))

/-- An object address: a 16-bit index and an 8-bit subindex (R5, R20). -/
def addressWf (idx sub : Nat) : Bool := fits 16 idx && fits 8 sub

/-- A converter code is a 16-bit two's complement number (R102). -/
def codeWf (c : Int) : Bool := fitsSigned 16 c

/-- What one point gives in a group of the net mapper: codes in rest and in every chip (R163, R166). -/
def pointSamplesWf (x : PointSamples) : Bool := x.chips.all fun c => c.all codeWf

/-- What one loop gives in a round of the refinement: codes in each of its eight phases (R177). -/
def roundResultWf (x : RoundResult) : Bool :=
  x.amps.length == 8 && x.volts.length == 8 && (x.amps ++ x.volts).all fun c => c.all codeWf

/-- What a sweep measured at one level: codes, and a bit for each of the two bus sources (R222). -/
def sweepReadingWf (r : SweepReading) : Bool := r.codes.all (fun c => c.all codeWf) && fits 2 r.sourceClamps

/-- A new queue entry: 16-bit tag, kind and flags of a byte, and 16 bytes of payload (R17). -/
def entryWf (e : NewEntry) : Bool := fits 16 e.tag && fits 8 e.kind && fits 8 e.flags && e.payload.length == 16

/-- A write through a fabric queue port (R400). -/
def queuePortWriteWf (w : QueuePortWrite) : Bool := fits 20 w.queue && fits 8 w.kind && fits 8 w.flags && w.payload.length == 16

/-- A CAN FD frame holds at most 64 bytes (R224). -/
def canFrameWf (f : CanFrame) : Bool := fits 32 f.ident && decide (f.data.length ≤ 64)

/-- A LIN frame: a six-bit identifier, at most eight bytes and a checksum status of R229. -/
def linFrameWf (f : LinFrame) : Bool := fits 6 f.ident && decide (f.data.length ≤ 8) && decide (f.checksum ≤ 3)

/-- A SENT frame: one to six nibbles and nibbles for its status and CRC (R226). -/
def sentFrameWf (f : SentFrame) : Bool :=
  fits 4 f.status && fits 4 f.crc && f.nibbles.all (fits 4) && decide (1 ≤ f.nibbles.length) && decide (f.nibbles.length ≤ 6)

/-- The header and tag of a datagram (R446, R448). -/
def datagramWf (d : Datagram) : Bool :=
  fits 8 d.version && fits 8 d.opcode && fits 8 d.session && fits 8 d.flags && fits 64 d.seq && fits 32 d.reqId &&
  fits 16 d.payload.length && (d.tag.length == 0 || d.tag.length == 16)

/-- A USDO request names an object (R454). -/
def usdoWf : UsdoRequest → Bool
  | .upload idx sub => addressWf idx sub
  | .download idx sub _ => addressWf idx sub
  | .downloadBegin idx sub _ => addressWf idx sub
  | .uploadSegment _ => true
  | .downloadSegment _ _ _ => true
  | .other => true

/-- The operands of a command fit their fields. -/
def Instr.wf : Instr → Bool
  | .objectWrite _ _ i j _ => addressWf i j
  | .functionChange _ _ _ v => fits 8 v
  | .forceLevelWrite _ _ _ _ v => fitsSigned 32 v
  | .rangeChange _ _ _ v => fits 8 v
  | .busConnectionWrite _ _ _ v => fits 8 v
  | .faultClear _ _ _ v _ => fits 1 v
  | .servicePinFunctionWrite _ _ _ v => fits 8 v
  | .entryEnd _ _ codes => codes.all codeWf
  | .rawEntryWrite _ _ codes => codes.all codeWf
  | .urgentEnd _ _ codes => codes.all codeWf
  | .triggerCommand _ _ _ v => fits 1 v
  | .urgentRequest _ _ _ v => fits 64 v
  | .diagnosisCommand _ _ _ v => fits 16 v
  | .eventSelectWrite _ _ i j v => addressWf i j && fits 16 v
  | .eventCausesClear _ _ i j v => addressWf i j && fits 16 v
  | .coarseOutput _ _ _ codes => codes.all codeWf
  | .fineOutput _ _ _ codes => codes.all codeWf
  | .mapGroupEnd _ rests xs => (rests.all fun x => x.2.all codeWf) && xs.all pointSamplesWf
  | .mapRoundEnd _ rs => rs.all roundResultWf
  | .sweepLevelMeasured _ _ r => sweepReadingWf r
  | .chainConfigWrite _ _ _ j v => fits 8 j && fits 64 v
  | .swapRequest _ _ _ v => fits 8 v
  | .syncCommand _ _ _ v => fits 1 v
  | .canEnable _ _ _ v => fits 1 v
  | .canRecover _ _ _ v => fits 1 v
  | .canFrameReceived _ _ f => canFrameWf f
  | .linEnable _ _ _ v => fits 1 v
  | .linFrameReceived _ _ f => linFrameWf f
  | .linHeaderReceived _ _ _ ident => fits 6 ident
  | .sentEnable _ _ _ v => fits 1 v
  | .sentFrameReceived _ _ f => sentFrameWf f
  | .pwmEnable _ _ _ v => fits 1 v
  | .sessionCompletion _ _ v => fits 16 v
  | .sourceConfigurationWrite _ _ _ v => fits 32 v
  | .subscriptionWrite _ _ _ v => fits 32 v
  | .booksSelect _ _ v => fits 16 v
  | .epochWrite _ _ v => fits 64 v
  | .syncOutputCommand _ _ v => fits 1 v
  | .triggerOutputCommand _ _ _ v => fits 1 v
  | .queueCreate _ _ _ v => fits 64 v
  | .queueSettingsWrite _ _ _ v => fits 16 v
  | .queueRemove _ _ _ v => fits 64 v
  | .entryWrite _ _ e => entryWf e
  | .streamOpen _ _ _ v => fits 32 v
  | .creditGrant _ _ _ v => fits 32 v
  | .streamAcknowledgement _ _ _ v => fits 32 v
  | .resendRequest _ _ _ v => fits 1 v
  | .creditReturn _ d => datagramWf d
  | .queuePortWrite _ _ _ w => queuePortWriteWf w
  | .policyWrite _ _ v => fits 8 v
  | .minimumSecurityVersionWrite _ _ v => fits 8 v
  | .clearBatteryKeys _ _ v => fits 1 v
  | .cellarLoad _ _ v => fits 8 v
  | .openDatagram _ d => datagramWf d
  | .proof _ d => datagramWf d
  | .close _ d => datagramWf d
  | .keepalive _ d => datagramWf d
  | .read _ d => datagramWf d
  | .write _ d => datagramWf d
  | .domainRead _ d => datagramWf d
  | .domainBegin _ d => datagramWf d
  | .domainSegment _ d => datagramWf d
  | .domainEnd _ d => datagramWf d
  | .usdoRequest _ u => fits 11 u.ident && usdoWf u.request
  | .releaseAll _ _ v => fits 1 v
  | .claimQuery _ _ v => fits 64 v
  | .store _ _ v => fits 32 v
  | .restoreDefaults _ _ v => fits 32 v
  | .resetCommand _ _ v => fits 32 v
  | .portFiguresSampled _ temps _ => temps.length == 16
  | _ => true

end Sys2Proof
end

