-- ==== Sys2Proof/Safety.lean ====
section
/-!
DEFINITION. The terms in which claims about the block are made: what every reachable state keeps, when a request is
accepted and what its acceptance leaves, when a step core executes an instruction, and the safety of a run.
-/

namespace Sys2Proof.Machine

/-! ## What every step keeps -/

/-- The registers of a core whose bits are reserved, or of which the low bits read as 0 (R257, R258): PSR and the saved
status words have eight bits, handler addresses are multiples of 4, and WSEL has a zone and an enable. -/
def Core.ok (c : Core) : Bool :=
  c.psr &&& 0xFFFFFF00#32 == 0#32 && c.epsr &&& 0xFFFFFF00#32 == 0#32 && c.fepsr &&& 0xFFFFFF00#32 == 0#32 &&
  c.nvec &&& 3#32 == 0#32 && c.fvec &&& 3#32 == 0#32 && c.wsel &&& 0x7FFFFFF0#32 == 0#32

/-- A queue never holds more entries than its capacity (R354). -/
def Queue.ok (q : Option Queue) : Bool :=
  match q with
  | some x => decide (x.entries.length ≤ x.capacity)
  | none => true

/-- The invariant of the block: memory is in its canonical form, the reserved bits of the core registers are 0 (R257,
R258), no source counts more than 15 pending arrivals (R302, R313), no converter and no trigger output holds more than
four waiting triggers (R114, R337), no queue more entries than its capacity (R354), the log ring no more than 30,720
records (R527) and SC0 no more than 32 (R529), and no more than 64 spills run (R357). -/
structure State.Inv (s : State) : Prop where
  memory : Memory.wf s.mem = true
  cores : ∀ x ∈ s.cores, x.2.ok = true
  sources : ∀ x ∈ s.sources, x.2.pending ≤ 15
  triggers : ∀ x ∈ s.convs, x.2.triggers.length ≤ 4
  requests : ∀ x ∈ s.trigOuts, x.2.waiting.length ≤ 4
  queues : ∀ x ∈ s.queues, Queue.ok x.2 = true
  records : s.log.records.length ≤ logSize
  held : s.log.held.length ≤ 32
  spills : s.pantry.spills.length ≤ 64

/-! ## What a command changes -/

/-- The parts of the state, by the name of their field. -/
inductive Part where
  | pending | now | mode | objs | blobs | mem | flips | ports | pins | convs | chains | map | disp | sweeps | busSources | cans | lins
  | sents | gov | cores | sources | timebase | trigOuts | queues | pantry | streams | zones | loader | frames | loft
  | keys | scrub | sessions | links | claims | cycle | keyFailures | keyLockouts | cellar | cal | power | log
  | outbox | fresh
  deriving DecidableEq, Repr

/-- Two states are alike in a part. -/
def Part.same (s u : State) : Part → Prop
  | .pending => u.pending = s.pending
  | .now => u.now = s.now
  | .mode => u.mode = s.mode
  | .objs => u.objs = s.objs
  | .blobs => u.blobs = s.blobs
  | .mem => u.mem = s.mem
  | .flips => u.flips = s.flips
  | .ports => u.ports = s.ports
  | .pins => u.pins = s.pins
  | .convs => u.convs = s.convs
  | .chains => u.chains = s.chains
  | .map => u.map = s.map
  | .disp => u.disp = s.disp
  | .sweeps => u.sweeps = s.sweeps
  | .busSources => u.busSources = s.busSources
  | .cans => u.cans = s.cans
  | .lins => u.lins = s.lins
  | .sents => u.sents = s.sents
  | .gov => u.gov = s.gov
  | .cores => u.cores = s.cores
  | .sources => u.sources = s.sources
  | .timebase => u.timebase = s.timebase
  | .trigOuts => u.trigOuts = s.trigOuts
  | .queues => u.queues = s.queues
  | .pantry => u.pantry = s.pantry
  | .streams => u.streams = s.streams
  | .zones => u.zones = s.zones
  | .loader => u.loader = s.loader
  | .frames => u.frames = s.frames
  | .loft => u.loft = s.loft
  | .keys => u.keys = s.keys
  | .scrub => u.scrub = s.scrub
  | .sessions => u.sessions = s.sessions
  | .links => u.links = s.links
  | .claims => u.claims = s.claims
  | .cycle => u.cycle = s.cycle
  | .keyFailures => u.keyFailures = s.keyFailures
  | .keyLockouts => u.keyLockouts = s.keyLockouts
  | .cellar => u.cellar = s.cellar
  | .cal => u.cal = s.cal
  | .power => u.power = s.power
  | .log => u.log = s.log
  | .outbox => u.outbox = s.outbox
  | .fresh => u.fresh = s.fresh

/-- `u` is as `s` was in every part but those listed: the frame of a command. -/
def Changes (l : List Part) (s u : State) : Prop := ∀ p, l.contains p = false → p.same s u

/-! ## Requests -/

/-- The state in which an accepted request acts: its instant has come, and the lease of its session is renewed (R443,
R462). -/
def State.heard (s : State) (t : Tk) (a : Accessor) : State := (s.advance t).hears a

/-- What a request that is answered at once leaves: its effect, and an answer of success (R442); in SAFE the advance flag
is cleared (R510). -/
def State.answered (s u : State) : State := (s.accepted u).send (.answer 0 [])

/-- What a refused request leaves: an answer with its abort code (R442). -/
def State.refusedWith (s : State) (code : Nat) : State := s.send (.answer code [])

/-- Whether a request acts at once: its session is not about to end (R464), and no other request of it executes (R449). -/
def State.turnOf (s : State) (a : Accessor) : Bool := !s.requesterEnds a && !s.busyFor a

/-- A write of `bytes` to an object passes every check of R442 that its card and chapter give: the requester is served and acts at
once, the object exists and is writable, the session is open, the length fits, and readiness, mode, claim and range do not refuse it.
-/
structure TakesWrite (s : State) (t : Tk) (a : Accessor) (idx sub : Nat) (bytes : Bytes) (c : Card) : Prop where
  served : (s.advance t).serves a = true
  turn : (s.advance t).turnOf a = true
  found : cardOf idx sub = some c
  writable : c.acc ≠ .ro ∧ c.acc ≠ .const
  session : (s.heard t a).sessionAbort a idx sub true = none
  length : c.lengthAbort bytes.length = none ∧ (c.ty.isBytes = true → chapterLength idx bytes.length = true)
  whole : (s.heard t a).shortStream idx sub bytes.length = false
  ready : (s.heard t a).readyAbort idx sub true = none
  mode : ownOrder idx sub (leNat bytes) = false →
    modeAllows (s.heard t a).mode idx sub (leNat bytes) = true ∧ (s.heard t a).loadRefuses a idx sub = false
  claim : ownOrder idx sub (leNat bytes) = false → (s.heard t a).writeClaimAbort a c idx sub (leNat bytes) = none
  range : c.rangeAbort (c.ty.value bytes) = none

/-- The same for a DOMAIN or a string, whose content its chapter judges. -/
structure TakesBytes (s : State) (t : Tk) (a : Accessor) (idx sub : Nat) (bytes : Bytes) (c : Card) : Prop where
  served : (s.advance t).serves a = true
  turn : (s.advance t).turnOf a = true
  found : cardOf idx sub = some c
  writable : c.acc ≠ .ro ∧ c.acc ≠ .const
  session : (s.heard t a).sessionAbort a idx sub true = none
  length : c.lengthAbort bytes.length = none ∧ (c.ty.isBytes = true → chapterLength idx bytes.length = true)
  whole : (s.heard t a).shortStream idx sub bytes.length = false
  ready : (s.heard t a).readyAbort idx sub true = none
  mode : ownOrder idx sub 0 = false →
    modeAllows (s.heard t a).mode idx sub 0 = true ∧ (s.heard t a).loadRefuses a idx sub = false
  claim : ownOrder idx sub 0 = false → (s.heard t a).writeClaimAbort a c idx sub 0 = none

/-- The value that a write of `bytes` gives an object: its reserved bits are dropped (R10). -/
def Card.written (c : Card) (bytes : Bytes) : Int := c.masked (c.ty.value bytes)

/-! ## Instructions -/

/-- A step core executes an instruction at an instant: it runs, and the instruction's word stands at PC (R266, R272). -/
def State.executes (s : State) (t : Tk) (n : Nat) (w : Word) : Prop :=
  ((s.advance t).core n).runs = true ∧ (s.advance t).fetch n ((s.advance t).core n).pc = some w

/-- The state in which the instruction at PC acts: its instant has come, and the fetch has corrected its word where ECC had to
(R261). -/
def State.acting (s : State) (t : Tk) (n : Nat) : State := (s.advance t).fetched n

/-! ## Safe runs -/

/-- A step that neither faults nor refuses. -/
def goesOn (o : Host.Outcome State Fault Refusal) : Prop := ∃ u, o = .next u

/-- The state after a number of steps, as long as every step goes on. -/
def afterSteps : Nat → State → Option State
  | 0, s => some s
  | n + 1, s => match step s with
    | .next u => afterSteps n u
    | _ => none

/-- A run from a state is safe when none of its steps stops. -/
def State.safe (s : State) : Prop := ∀ n, (afterSteps n s).isSome = true

end Sys2Proof.Machine
end

