-- ==== Sys2Proof/Certificates/Slice0/Obligations.lean ====
section
/-!
DEFINITION. The statements about the block, for the provers. Unless a docstring says otherwise, a statement about a command
whose effect is not to be refused gives its next state, `exec c s = .next u`; `Changes l s u` says which parts of the state may
differ, and a clause without it leaves open what it does not state of `u`.
-/

open Sys2Proof Sys2Proof.Machine

/-! ## The block -/

/-- Step runs the command at the front of the queue on the state with the rest of the queue; an empty queue idles (the
model's choice, log entry 2). -/
def Obligations.StepRunsTheFrontCommand : Prop :=
  (∀ (c : Instr) (rest : List Instr) (s : State),
    step { s with pending := c :: rest } = exec c { s with pending := rest }) ∧
  ∀ s : State, s.pending = [] → step s = .next s

/-- No command is refused, and only VIO_CHANGE can fault: outside the operating conditions of R535. -/
def Obligations.EveryCommandGoesOn : Prop :=
  ∀ (c : Instr) (s : State), goesOn (exec c s) ∨ (∃ t mv, c = .vioChange t mv) ∧ exec c s = .fault .vioBandSkipped

/-- A command leaves the commands that wait behind it alone. -/
def Obligations.CommandsKeepTheQueue : Prop :=
  ∀ (c : Instr) (s u : State), exec c s = .next u → u.pending = s.pending

/-- The invariant of the block holds after every step from a state in which it holds. -/
def Obligations.StepKeepsInvariant : Prop :=
  ∀ s u : State, s.Inv → step s = .next u → u.Inv

/-- The invariant holds after reset. -/
def Obligations.ResetHasInvariant : Prop := State.reset.Inv

/-! ## Port cells -/

/-- The time that R49 gives a change of static function from `old` to `new`, in tk. -/
def Sys2Proof.Machine.State.changeTime (s : State) (p old new : Nat) : Nat :=
  if new = 1 ∨ new = 2 then (if old = 1 ∨ old = 2 then s.fullScale p else 40000 + s.fullScale p)
  else if new = 4 ∨ new = 6 then 12000 else 8000

/-- A setting of a port on which the static setting does not act is stored, rounded to the step of its circuit (R33,
R35): function, force voltage, force current, current range and bus connection. The write of a setting that does not
reach the cell now, in park, under the safety clamp or during a range change, is stored and held for it (R33, R50, R70).
A change of the function of a port whose static setting acts, outside a range change: the port settles for the time of
R49, the change is dated, and the clamp flags clear; the sense fallback stays while the amplifier goes on forcing (R42,
R52). Writes to a port whose static setting acts, outside a range change: a level of the present function settles for
the full-scale time, twice that for a current (R49, R51), also when it is the present level (the model's choice, log
entry 117); a new range settles for its range-change time (R50); a new bus opens the old pair at once and closes the new
one 4 or 5 microseconds later (R60; 4 microseconds where a pair must open first is the model's choice, log entry 29).
What a changed setting leaves behind at its cell beyond the setting (R54 to R57): comparators, filter and what the lane
shows follow; nothing else of the cell, no other cell and no setting of a port changes. -/
def Obligations.PortSettingsAct : Prop :=
  ((∀ s t a (p : PortNo) v c, TakesWrite s t a (0x3000 + p) 1 (natLe 1 v) c → (s.advance t).staticActs p = false →
    (s.advance t).writeWaits p 1 = false → s.portConflict p 1 (c.written (natLe 1 v)) = none →
    exec (.functionChange t a p v) s =
      .next ((s.heard t a).answered (((s.heard t a).setObj (0x3000 + p) 1 (c.written (natLe 1 v))).cellFollows p))) ∧
  (∀ s t a (p : PortNo) cur v c, TakesWrite s t a (0x3000 + p) (if cur then 3 else 2) (natLe 4 (toCode 32 v)) c →
    (s.advance t).staticActs p = false → (s.advance t).writeWaits p (if cur then 3 else 2) = false →
    exec (.forceLevelWrite t a p cur v) s = .next ((s.heard t a).answered (((s.heard t a).setObj (0x3000 + p)
      (if cur then 3 else 2) (roundSetting (if cur then 3 else 2) (c.written (natLe 4 (toCode 32 v))))).cellFollows p))) ∧
  (∀ s t a (p : PortNo) v c, TakesWrite s t a (0x3000 + p) 4 (natLe 1 v) c → (s.advance t).staticActs p = false →
    (s.advance t).writeWaits p 4 = false →
    exec (.rangeChange t a p v) s =
      .next ((s.heard t a).answered (((s.heard t a).setObj (0x3000 + p) 4 (c.written (natLe 1 v))).cellFollows p))) ∧
  (∀ s t a (p : PortNo) v c, TakesWrite s t a (0x3000 + p) 0x10 (natLe 1 v) c → (s.advance t).staticActs p = false →
    (s.advance t).writeWaits p 0x10 = false → s.portConflict p 0x10 (c.written (natLe 1 v)) = none →
    exec (.busConnectionWrite t a p v) s =
      .next ((s.heard t a).answered (((s.heard t a).setObj (0x3000 + p) 0x10 (c.written (natLe 1 v))).cellFollows p))) ∧
  (∀ s t a (p : PortNo) v c, TakesWrite s t a (0x3000 + p) 4 (natLe 1 v) c → (s.advance t).writeWaits p 4 = true →
    exec (.rangeChange t a p v) s = .next ((s.heard t a).answered
      (((s.heard t a).setObj (0x3000 + p) 4 (c.written (natLe 1 v))).setPort p
        { s.port p with held := (s.port p).held ++
            [{ sub := 4, old := s.obj (0x3000 + p) 4, new := c.written (natLe 1 v) }] }))) ∧
  ∀ s t a (p : PortNo) v c, TakesWrite s t a (0x3000 + p) 1 (natLe 1 v) c → (s.advance t).writeWaits p 1 = true →
    s.portConflict p 1 (c.written (natLe 1 v)) = none →
    exec (.functionChange t a p v) s = .next ((s.heard t a).answered
      (((s.heard t a).setObj (0x3000 + p) 1 (c.written (natLe 1 v))).setPort p
        { s.port p with held := (s.port p).held ++
            [{ sub := 1, old := s.obj (0x3000 + p) 1, new := c.written (natLe 1 v) }] }))) ∧
  (∀ s t a (p : PortNo) v c old new, TakesWrite s t a (0x3000 + p) 1 (natLe 1 v) c →
    (s.advance t).staticActs p = true → (s.advance t).writeWaits p 1 = false →
    s.portConflict p 1 (c.written (natLe 1 v)) = none →
    s.obj (0x3000 + p) 1 = (old : Nat) → c.written (natLe 1 v) = (new : Nat) → old ≠ new →
    exec (.functionChange t a p v) s = .next ((s.heard t a).answered
      ((((s.heard t a).setObj (0x3000 + p) 1 new).setPort p
        { (s.port p).settles (max s.now t) (s.changeTime p old new) with
          changedAt := max s.now t, changedFrom := old, sourceClamp := false, sinkClamp := false,
          voltageClamp := false, clampSince := none, amp := isForce new,
          senseFallback := (s.port p).senseFallback && isForce old && isForce new }).cellFollows p))) ∧
  ((∀ s t a (p : PortNo) cur v c, TakesWrite s t a (0x3000 + p) (if cur then 3 else 2) (natLe 4 (toCode 32 v)) c →
    (s.advance t).staticActs p = true → (s.advance t).writeWaits p (if cur then 3 else 2) = false →
    s.settingN p 1 = (if cur then 2 else 1) →
    exec (.forceLevelWrite t a p cur v) s = .next ((s.heard t a).answered ((((s.heard t a).setObj (0x3000 + p)
      (if cur then 3 else 2) (roundSetting (if cur then 3 else 2) (c.written (natLe 4 (toCode 32 v))))).setPort p
        ((s.port p).settles (max s.now t) ((if cur then 2 else 1) * s.fullScale p))).cellFollows p))) ∧
  (∀ s t a (p : PortNo) v c, TakesWrite s t a (0x3000 + p) 4 (natLe 1 v) c →
    (s.advance t).staticActs p = true → (s.advance t).writeWaits p 4 = false →
    isForce (s.settingN p 1) = true → s.obj (0x3000 + p) 4 ≠ c.written (natLe 1 v) →
    let time := rangeChangeTime (c.written (natLe 1 v)).toNat * compFactor (s.settingN p 9)
    exec (.rangeChange t a p v) s = .next ((s.heard t a).answered
      ((((s.heard t a).setObj (0x3000 + p) 4 (c.written (natLe 1 v))).setPort p
        { (s.port p).settles (max s.now t) time with
          rangeEnd := some (max s.now t + time), rangeFrom := (s.obj (0x3000 + p) 4).toNat }).cellFollows p))) ∧
  ∀ s t a (p : PortNo) v c b, TakesWrite s t a (0x3000 + p) 0x10 (natLe 1 v) c → c.written (natLe 1 v) = b → 0 ≤ b → b < 8 →
    (s.advance t).staticActs p = true → (s.advance t).writeWaits p 0x10 = false →
    s.portConflict p 0x10 b = none → (s.port p).bus ≠ some b.toNat →
    exec (.busConnectionWrite t a p v) s = .next ((s.heard t a).answered
      ((((s.heard t a).setObj (0x3000 + p) 0x10 b).setPort p
        { s.port p with bus := none, busNext := some (b.toNat, max s.now t +
            if (s.port p).bus.isSome then 16000 else 20000) }).cellFollows p))) ∧
  (∀ (s : State) (p : PortNo), ∃ f m r x y,
    (s.cellFollows p).port p =
      { s.port p with filter := f, marks := m, receiver := r, windowAbove := x, windowBelow := y } ∧
    (∀ q : Nat, q ≠ p → (s.cellFollows p).port q = s.port q) ∧
    (∀ q j : Nat, q < 256 → j < 256 → (s.cellFollows p).obj (0x3000 + q) j = s.obj (0x3000 + q) j) ∧
    Changes [.objs, .ports, .pins, .convs, .disp, .sources, .timebase, .trigOuts, .queues] s (s.cellFollows p))

/-- Bus connections and functions exclude each other (R61): a connection is accepted while the function is Off or
Measure only, and refused under any other; a function other than these two is refused while a connection stands. -/
def Obligations.BusConnectionNeedsIdleFunction : Prop :=
  (∀ s t a (p : PortNo) v c b, TakesWrite s t a (0x3000 + p) 0x10 (natLe 1 v) c → c.written (natLe 1 v) = b →
    0 ≤ b → b < 8 ∨ b = 0xFF → s.obj (0x3000 + p) 1 = 0 ∨ s.obj (0x3000 + p) 1 = 3 →
    ∃ u, exec (.busConnectionWrite t a p v) s = .next ((s.heard t a).answered u) ∧ u.obj (0x3000 + p) 0x10 = b) ∧
  (∀ s t a (p : PortNo) v c b, TakesWrite s t a (0x3000 + p) 0x10 (natLe 1 v) c → c.written (natLe 1 v) = b →
    0 ≤ b → b < 8 → s.obj (0x3000 + p) 1 ≠ 0 → s.obj (0x3000 + p) 1 ≠ 3 →
    exec (.busConnectionWrite t a p v) s = .next ((s.heard t a).refusedWith 0x0F010301)) ∧
  ∀ s t a (p : PortNo) v c f, TakesWrite s t a (0x3000 + p) 1 (natLe 1 v) c → c.written (natLe 1 v) = f → 0 ≤ f →
    f ≠ 0 → f ≠ 3 → s.obj (0x3000 + p) 0x10 ≠ 0xFF →
    exec (.functionChange t a p v) s = .next ((s.heard t a).refusedWith 0x0F010301)

/-- Changes at a port that end with time: a range change without held writes, settling (R49, R50), and a switch pair
that closes (R60). Before their instants only time passes. The held write of a level takes effect at the end of the
range change, at the instant of that end (R50). -/
def Obligations.PortChangesEnd : Prop :=
  ((∀ s t (p : PortNo) e, (s.port p).rangeEnd = some e → max s.now t < e →
    exec (.rangeChangeComplete t p) s = .next (s.advance t)) ∧
  (∀ s t (p : PortNo) e, (s.port p).rangeEnd = some e → e ≤ max s.now t → (s.port p).held = [] →
    exec (.rangeChangeComplete t p) s = .next ((s.advance t).setPort p { s.port p with rangeEnd := none })) ∧
  (∀ s t (p : PortNo), exec (.settlingEnd t p) s = .next (if (s.port p).settlingEnd ≤ max s.now t then
    (s.advance t).setPort p { s.port p with settling := false } else s.advance t)) ∧
  ∀ s t (p : PortNo) b e, (s.port p).busNext = some (b, e) →
    exec (.busSwitchClosed t p) s = .next (if e ≤ max s.now t then
      (s.advance t).setPort p { s.port p with bus := some b, busNext := none } else s.advance t)) ∧
  (∀ s t (p : PortNo) e old new, (s.port p).rangeEnd = some e → e ≤ max s.now t → (s.advance t).staticActs p = true →
    (s.port p).latched = none → (s.port p).held = [{ sub := 2, old := old, new := new }] → s.objN (0x3000 + p) 1 = 1 →
    exec (.rangeChangeComplete t p) s = .next (((s.advance t).setPort p
      ({ s.port p with rangeEnd := none, held := [] }.settles e
        (fullScaleTime (s.objN (0x3000 + p) 4) * compFactor (s.objN (0x3000 + p) 9)))).cellFollows p))

/-- Nothing but the cell of a port watches it: no running map has it, and no step is in flight. -/
def Sys2Proof.Machine.State.unwatched (s : State) (p : Nat) : Prop := s.map.points.contains p = false ∧ s.inFlightSteps = []

/-- What a fault leaves at a port (R67, R68): the fault is counted, logged and latched, the first cause stays, and the
settings of the port stay. -/
structure Sys2Proof.Machine.State.Faulted (s u : State) (p : Nat) (cause : PortCause) : Prop where
  latched : (u.port p).latched = ((s.port p).latched.orElse fun _ => some cause)
  counted : u.obj (0x3000 + p) 0x1C = addWrap 32 (s.objN (0x3000 + p) 0x1C) 1
  owner : (u.port p).owner = (s.port p).owner
  frame : Changes [.now, .objs, .ports, .log, .fresh] s u

/-- The clamps of a driven port show, with the instant since which one holds, and none holds at a port that is not
driven; the sense check, where it runs, falls back to the force ball or resumes remote sense (R39 to R43). A port fault,
a clamp past its timeout, and an open sense without fallback latch the port (R41, R43, R67, R68). A current limit faults
every port that drives, of the die or of the module, and no other (R66). Fault clear of a port whose cause has gone: the
latch opens and the port follows its enabled owners (R69); the cause of a ball overvoltage has gone once both balls lie
within the rails; TRUE while the cause lasts is refused, FALSE changes nothing. -/
def Obligations.PortFaultsLatch : Prop :=
  ((∀ s t (p : PortNo) so si vo, (s.advance t).driving p = true →
    exec (.clampStateChange t p so si vo) s = .next ((s.advance t).setPort p { s.port p with
      sourceClamp := so, sinkClamp := si, voltageClamp := vo,
      clampSince := if so || si || vo then ((s.port p).clampSince.orElse fun _ => some (max s.now t)) else none })) ∧
  (∀ s t (p : PortNo) so si vo, (s.advance t).driving p = false →
    exec (.clampStateChange t p so si vo) s = .next ((s.advance t).setPort p { s.port p with
      sourceClamp := false, sinkClamp := false, voltageClamp := false, clampSince := none })) ∧
  (∀ s t (p : PortNo), (s.advance t).senseRuns p = true → fieldOf (s.settingN p 9) 0 2 = 2 →
    exec (.senseOpen t p) s = .next ((s.advance t).setPort p { s.port p with senseFallback := true })) ∧
  ∀ s t (p : PortNo), (s.advance t).senseRuns p = true →
    exec (.senseCheckPass t p) s = .next ((s.advance t).setPort p { s.port p with senseFallback := false })) ∧
  ((∀ s t (p : PortNo) cause, s.mode.working = true → cause ≠ .rail → s.unwatched p →
    ∃ u, exec (.portFault t p cause) s = .next u ∧ s.Faulted u p cause) ∧
  (∀ s t (p : PortNo), s.mode.working = true → (s.advance t).clampTimedOut p = true → s.unwatched p →
    ∃ u, exec (.clampTimeout t p) s = .next u ∧ s.Faulted u p .clampTimeout) ∧
  ∀ s t (p : PortNo), s.mode.working = true → (s.advance t).senseRuns p = true →
    fieldOf (s.settingN p 9) 0 2 = 0 → s.unwatched p → ∃ u, exec (.senseOpen t p) s = .next u ∧ s.Faulted u p .senseOpen) ∧
  (∀ s t (die : Option DieNo), s.mode.working = true → s.inFlightSteps = [] → s.map.points = [] →
    ∃ u, exec (.dieCurrentLimit t die) s = .next u ∧ Changes [.now, .objs, .ports, .log, .fresh] s u ∧
      ∀ p < 256, (u.port p).latched = if (s.advance t).driving p ∧ (∀ d, die = some d → p / 64 = d) then
        ((s.port p).latched.orElse fun _ => some (if die.isSome then .dieCurrent else .moduleCurrent))
        else (s.port p).latched) ∧
  ((∀ s t a (p : PortNo) cause gone c, TakesWrite s t a (0x3000 + p) 0x1A (natLe 1 1) c → c.written (natLe 1 1) = 1 →
    s.mode ≠ .hold → (s.port p).latched = some cause → (match cause with | .clampTimeout => true | .ballOvervoltage => (s.port p).ballsWithin | .rail => false | _ => gone) = true →
    exec (.faultClear t a p 1 gone) s = .next ((s.heard t a).answered
      (((s.heard t a).setPort p { s.port p with latched := none }).settleOwner .disable p))) ∧
  (∀ s t a (p : PortNo) cause c, TakesWrite s t a (0x3000 + p) 0x1A (natLe 1 1) c → c.written (natLe 1 1) = 1 →
    s.mode ≠ .hold → (s.port p).latched = some cause → cause ≠ .clampTimeout →
    cause ≠ .ballOvervoltage ∨ (s.port p).ballsWithin = false →
    exec (.faultClear t a p 1 false) s = .next ((s.heard t a).refusedWith 0x0F010302)) ∧
  ∀ s t a (p : PortNo) gone c, TakesWrite s t a (0x3000 + p) 0x1A (natLe 1 0) c → c.written (natLe 1 0) = 0 →
    s.mode ≠ .hold → exec (.faultClear t a p 0 gone) s = .next ((s.heard t a).answered (s.heard t a)))

/-! ## Signals, filters and park -/

/-- A filter with nothing on its way: the level that arrives is the accepted one. -/
def Sys2Proof.Machine.Filter.quiet (f : Filter) : Prop := f.resync = false ∧ f.debounce = none ∧ f.glitch = f.raw ∧ f.level = f.raw

/-- Nothing but one port cell, and the time, has changed. -/
def Sys2Proof.Machine.State.onlyPort (s u : State) (p : Nat) (c : PortCell) : Prop :=
  u.port p = c ∧ (∀ q : Nat, q ≠ p → u.port q = s.port q) ∧ Changes [.now, .ports] s u

/-- Nothing but one service pin, and the time, has changed. -/
def Sys2Proof.Machine.State.onlyPin (s u : State) (n : Nat) (c : PinCell) : Prop :=
  u.pin n = c ∧ (∀ q : Nat, q ≠ n → u.pin q = s.pin q) ∧ Changes [.now, .pins] s u

/-- A change at the ball of a port that is not masked, or at the pad of an input: the level that a comparator gives
beyond its threshold and hysteresis, or its limit, arrives at a quiet filter now, where the event signal takes it (R54,
R56, R57, R86, R98); under mask the change is suppressed and counted (R81). A receiver restart that is over makes the
receiver valid with what its ball gives it, or inside the hysteresis band with the level of the command (R54, R55);
where the event signal takes it, that level arrives at a quiet filter as any other (R57; the model's choice, log entry
120). Before its instant only time passes. A level that has held for the glitch time is accepted with the stamp of its
transition and opens the debounce window; a window that ends with the accepted level gives no edge; the first level
after a restart gives none either (R86 to R89). -/
def Obligations.SignalsPassTheFilters : Prop :=
  ((∀ s t (p : PortNo) f v i, s.mode.working = true → (s.advance t).signalSeen p = true → (s.port p).filter.quiet →
    s.eventSignal p = 0 → (s.advance t).receiverOn p = true → (s.port p).filter.raw = false →
    ((s.advance t).receiverBand p).2 < 10 * f →
    ∃ u, exec (.pinSignalChange t (.ball p f v i)) s = .next u ∧ s.onlyPort u p { s.port p with
      forceUv := f, senseUv := v, currentPa := i, receiver := true
      windowAbove := (u.port p).windowAbove, windowBelow := (u.port p).windowBelow
      filter := { (s.port p).filter with raw := true, since := max s.now t } }) ∧
  (∀ s t (p : PortNo) f v i, s.mode.working = true → (s.advance t).signalSeen p = true → (s.port p).filter.quiet →
    s.eventSignal p = 2 → s.cellMeasure p = 1 → (s.port p).filter.raw = false → s.setting p 0x0E < v →
    ∃ u, exec (.pinSignalChange t (.ball p f v i)) s = .next u ∧ s.onlyPort u p { s.port p with
      forceUv := f, senseUv := v, currentPa := i, receiver := (u.port p).receiver
      windowAbove := true, windowBelow := (u.port p).windowBelow
      filter := { (s.port p).filter with raw := true, since := max s.now t } }) ∧
  (∀ s t (p : PortNo) f v i, s.mode.working = true → (s.advance t).signalSeen p = true → (s.port p).filter.quiet →
    s.eventSignal p = 3 → s.cellMeasure p = 1 → (s.port p).filter.raw = false → v < s.setting p 0x0F →
    ∃ u, exec (.pinSignalChange t (.ball p f v i)) s = .next u ∧ s.onlyPort u p { s.port p with
      forceUv := f, senseUv := v, currentPa := i, receiver := (u.port p).receiver
      windowAbove := (u.port p).windowAbove, windowBelow := true
      filter := { (s.port p).filter with raw := true, since := max s.now t } }) ∧
  (∀ s t (n : PinNo) level, s.power.vio.isSome = true → s.pinFunction n = 1 → s.pinInverts n = false →
    s.pinDrives n = none → (s.pin n).filter.quiet → level ≠ (s.pin n).filter.raw →
    ∃ u, exec (.pinSignalChange t (.pad n (some level))) s = .next u ∧ s.onlyPin u n { s.pin n with
      outside := some level, opposedSince := none, contention := false, lowSince := none,
      filter := { (s.pin n).filter with raw := level, since := max s.now t } }) ∧
  ∀ s t (p : PortNo) f v i, s.mode.working = true → (s.advance t).parked p = true →
    s.eventSignal p = 2 → s.cellMeasure p = 1 → (s.port p).windowAbove = false → s.setting p 0x0E < v →
    ∃ u, exec (.pinSignalChange t (.ball p f v i)) s = .next u ∧
      u.port p = { s.port p with
        forceUv := f, senseUv := v, currentPa := i, receiver := (u.port p).receiver
        windowAbove := true, windowBelow := (u.port p).windowBelow
        filter := { (s.port p).filter with skipped := (s.port p).filter.skipped + 1 } } ∧
      u.objs = (s.setObj (0x3100 + p) 0x0B (addWrap 32 (s.objN (0x3100 + p) 0x0B) 1)).objs ∧
      Changes [.now, .ports, .objs] s u) ∧
  ((∀ s t (p : PortNo) level e l, (s.port p).receiverAt = some e → e ≤ max s.now t → s.mode.working = true →
    (s.advance t).masked p = false → (s.port p).filter.quiet → s.eventSignal p = 0 →
    s.ownerReceives p (s.port p).owner = true → (s.advance t).receiverNow p level = l →
    l ≠ (s.port p).filter.raw →
    ∃ u, exec (.receiverRestartDone t p level) s = .next u ∧ s.onlyPort u p { s.port p with
      receiverAt := none, receiver := l, filter := { (s.port p).filter with raw := l, since := max s.now t } }) ∧
  (∀ s t (p : PortNo) level e l, (s.port p).receiverAt = some e → e ≤ max s.now t → s.mode.working = true →
    (s.advance t).masked p = false → (s.port p).filter.quiet → s.eventSignal p = 0 →
    s.ownerReceives p (s.port p).owner = true → (s.advance t).receiverNow p level = l →
    l = (s.port p).filter.raw →
    ∃ u, exec (.receiverRestartDone t p level) s = .next u ∧ s.onlyPort u p { s.port p with receiverAt := none, receiver := l }) ∧
  ∀ s t (p : PortNo) level e, (s.port p).receiverAt = some e → max s.now t < e →
    exec (.receiverRestartDone t p level) s = .next (s.advance t)) ∧
  ((∀ s t (l : FilterLine), (s.advance t).lineWorks l = true → (s.filter l).resync = false → (s.filter l).debounce = none →
    (s.filter l).raw ≠ (s.filter l).glitch → (s.filter l).raw ≠ (s.filter l).level →
    (s.filter l).since + s.glitchTime l ≤ max s.now t →
    ∃ u, exec (.glitchFilterAccept t l) s = .next u ∧ (u.filter l).level = (s.filter l).raw ∧
      (u.filter l).glitch = (s.filter l).raw ∧ (u.filter l).lastEdge = (s.filter l).since ∧
      (u.filter l).debounce = (if s.debounceTime l = 0 then none
        else some ((s.filter l).since + s.glitchTime l + s.debounceTime l)) ∧
      Changes [.now, .objs, .ports, .pins, .convs, .disp, .sources, .timebase, .trigOuts, .queues] s u) ∧
  (∀ s t (l : FilterLine) e, (s.advance t).lineWorks l = true → (s.filter l).debounce = some e → e ≤ max s.now t →
    (s.filter l).glitch = (s.filter l).level →
    exec (.debounceWindowEnd t l) s = .next ((s.advance t).setFilter l { s.filter l with debounce := none })) ∧
  ∀ s t (l : FilterLine), (s.advance t).lineWorks l = true → (s.filter l).resync = true → (s.filter l).raw = false →
    (s.filter l).since + s.glitchTime l ≤ max s.now t → (s.source (lineSource l)).level = false →
    exec (.resyncLevelDefined t l) s = .next (((s.advance t).setFilter l { s.filter l with
      resync := false, glitch := false, level := false, debounce := none }).setSource (lineSource l)
        { s.source (lineSource l) with level := false }))

/-! ## Service pins -/

/-- SIO12 that becomes the SYNC output skips the edges whose instants are past (R336). -/
def Sys2Proof.Machine.State.takesSync (s : State) (old n : Nat) (f : Int) : State :=
  if n = 12 ∧ f = 0x21 ∧ old ≠ 0x21 then s.syncSkips else s

/-! ## Converters and sequences -/

/-- A cause of a block that the event select leaves out: its bit sets and nothing else happens (R129). -/
def Sys2Proof.Machine.State.unselected (s : State) (idx sel bit : Nat) : Prop :=
  (∃ cau, blockSubs idx = some (sel, cau)) ∧ bitOf (s.objN idx sel) bit = false

/-- Nothing but the record of one converter, and the time, has changed. -/
def Sys2Proof.Machine.State.onlyConv (s u : State) (q : Nat) (c : Converter) : Prop :=
  u.conv q = c ∧ (∀ p : Nat, p ≠ q → u.conv p = s.conv p) ∧ Changes [.now, .convs] s u

/-- Run modes (R110, R111): a mode starts a converter at rest no earlier than 400 tk after the write, and a triggered
one with a timer counts from the write; a stop of a running pass waits for its boundary, a stop that already waits stays
what it is, and with no pass a stop ends the sequence at once. A converter that is in use refuses a new run mode with
0x0F010401 (R111, R186). Stops, triggers and references of a converter: a commanded stop between entries ends the pass
and drops the waiting triggers, and a step that waits for the converter goes on (R111, R202); a trigger command and the
timer add a trigger in canonical order, and the timer sets its next instant (R113, R114); a reference is settled at its
instant (R107). A fifth waiting trigger is lost and counted, and sets cause bit 3 (R113). -/
def Obligations.ConvertersRunAndStop : Prop :=
  ((∀ s t a (q : ConvNo) c, TakesWrite s t a (0x3200 + q) 1 (natLe 1 0) c → c.written (natLe 1 0) = 0 →
    (s.conv q).passRunning = false → (s.conv q).stop = none → (s.conv q).converting ≠ .entry →
    exec (.runModeStop t a q) s = .next ((s.heard t a).answered (((s.heard t a).setObj (0x3200 + q) 1 0).setConv q
      { s.conv q with triggers := [], stop := none, lastStop := .command, entry := 0, repeatNext := false,
                      repeated := false, nextTimer := none }))) ∧
  (∀ s t a (q : ConvNo) c, TakesWrite s t a (0x3200 + q) 1 (natLe 1 0) c → c.written (natLe 1 0) = 0 →
    (s.conv q).passRunning = true → (s.conv q).stop = none →
    exec (.runModeStop t a q) s = .next ((s.heard t a).answered (((s.heard t a).setObj (0x3200 + q) 1 0).setConv q
      { s.conv q with stop := some .command, startAt := max s.now t }))) ∧
  (∀ s t a (q : ConvNo) c old, TakesWrite s t a (0x3200 + q) 1 (natLe 1 0) c → c.written (natLe 1 0) = 0 →
    (s.conv q).stop = some old →
    exec (.runModeStop t a q) s = .next ((s.heard t a).answered (((s.heard t a).setObj (0x3200 + q) 1 0).setConv q
      { s.conv q with stop := some old }))) ∧
  (∀ s t a (q : ConvNo) c, TakesWrite s t a (0x3200 + q) 1 (natLe 1 1) c → c.written (natLe 1 1) = 1 →
    (s.conv q).passRunning = false → (s.chain q).mapperUse = false →
    exec (.runModeContinuous t a q) s = .next ((s.heard t a).answered (((s.heard t a).setObj (0x3200 + q) 1 1).setConv q
      { s.conv q with startAt := max (s.conv q).boundary (max s.now t + 400), triggers := [], entry := 0, fresh := true,
                      nextTimer := none }))) ∧
  (∀ s t a (q : ConvNo) c, TakesWrite s t a (0x3200 + q) 1 (natLe 1 2) c → c.written (natLe 1 2) = 2 →
    (s.conv q).passRunning = false → (s.chain q).mapperUse = false →
    exec (.runModeTriggered t a q) s = .next ((s.heard t a).answered (((s.heard t a).setObj (0x3200 + q) 1 2).setConv q
      { s.conv q with startAt := max (s.conv q).boundary (max s.now t + 400), triggers := [], entry := 0, fresh := true,
                      nextTimer := if fieldOf (s.objN (0x3200 + q) 6) 12 2 = 3 then some (max s.now t) else none }))) ∧
  ∀ s t a (q : ConvNo) c, TakesWrite s t a (0x3200 + q) 1 (natLe 1 3) c → c.written (natLe 1 3) = 3 →
    (s.conv q).passRunning = false → (s.chain q).mapperUse = false →
    exec (.runModeOnePass t a q) s = .next ((s.heard t a).answered (((s.heard t a).setObj (0x3200 + q) 1 3).setConv q
      { s.conv q with startAt := max (s.conv q).boundary (max s.now t + 400), triggers := [], entry := 0, fresh := true,
                      nextTimer := none }))) ∧
  (∀ s t a (q : ConvNo) c, TakesWrite s t a (0x3200 + q) 1 (natLe 1 1) c → c.written (natLe 1 1) = 1 →
    (s.conv q).passRunning = true ∨ (s.chain q).mapperUse = true →
    exec (.runModeContinuous t a q) s = .next ((s.heard t a).refusedWith 0x0F010401)) ∧
  ((∀ s t (q : ConvNo), (s.conv q).stop = some .command → (s.conv q).converting = .nothing →
    exec (.sequenceStopped t q) s = .next (((s.advance t).setConv q { s.conv q with
      passRunning := false, triggers := [], stop := none, lastStop := .command, entry := 0, repeatNext := false,
      repeated := false, nextTimer := none }).measureContinues q)) ∧
  (∀ s t a (q : ConvNo) v c, TakesWrite s t a (0x3200 + q) 8 (natLe 1 v) c → c.written (natLe 1 v) = 1 →
    (s.chain q).mapperUse = false → s.objN (0x3200 + q) 1 = 2 → (s.conv q).triggers.length < 4 →
    exec (.triggerCommand t a q v) s = .next ((s.heard t a).answered ((s.heard t a).setConv q { s.conv q with
      triggers := insertTrigger { stamp := max s.now t, command := true, arrived := max s.now t }
        (s.conv q).triggers }))) ∧
  (∀ s t (q : ConvNo) e, (s.conv q).nextTimer = some e → e ≤ max s.now t → s.objN (0x3200 + q) 1 = 2 →
    (s.conv q).triggers.length < 4 → max s.now t ≤ e + max (s.objN (0x3200 + q) 7) 400 →
    ∃ u, exec (.timerTrigger t q) s = .next u ∧ s.onlyConv u q { s.conv q with
      nextTimer := some (e + s.objN (0x3200 + q) 9),
      triggers := insertTrigger { stamp := e, command := false, arrived := max s.now t } (s.conv q).triggers }) ∧
  ∀ s t (q : ConvNo), (s.conv q).refSettling = true → (s.conv q).referenceAt ≤ max s.now t →
    exec (.referenceSettled t q) s = .next ((s.advance t).setConv q { s.conv q with refSettling := false })) ∧
  (∀ s t a (q : ConvNo) v c, TakesWrite s t a (0x3200 + q) 8 (natLe 1 v) c → c.written (natLe 1 v) = 1 →
    (s.chain q).mapperUse = false → s.objN (0x3200 + q) 1 = 2 → 4 ≤ (s.conv q).triggers.length →
    s.unselected (0x3200 + q) 0x19 3 →
    ∃ u, exec (.triggerCommand t a q v) s = .next ((s.heard t a).answered u) ∧ u.convs = s.convs ∧
      u.obj (0x3200 + q) 0x0B = addWrap 32 (s.objN (0x3200 + q) 0x0B) 1 ∧ bitOf (u.objN (0x3200 + q) 0x1A) 3 = true ∧
      Changes [.objs] (s.heard t a) u)

/-- A pass starts, with entry 0, at its instant: the first grid instant at or after its start instant, or after the
delay of the trigger that it takes from those waiting; the sequence starts fresh (R108, R109, R110, R114). An entry
without summary and raw samples that takes its last kept sample writes the newest result of its lane, in the range and
the measure select of its first kept sample, and the next entry of the pass begins on the grid (R108, R121, R124). The
last raw entry that an ended entry left is written with its codes, and nothing is left (R121). -/
def Obligations.PassesConvertEntries : Prop :=
  (∀ s t (q : ConvNo) at', s.passStartAt q = some at' → at' ≤ max s.now t → (s.conv q).passRunning = false →
    (s.conv q).converting = .nothing → (s.conv q).stop = none → (s.conv q).calibrationUse = false →
    (s.conv q).slot = .free → s.passQueuesOk q = true →
    exec (.passStart t q) s = .next ((s.advance t).setConv q ({ s.conv q with
      triggers := if s.objN (0x3200 + q) 1 = 2 then (s.conv q).triggers.drop 1 else (s.conv q).triggers
      passRunning := true, entry := 0, fresh := true, repeated := false }.begin .entry (s.entryWord q 0) at'))) ∧
  (∀ s t (q : ConvNo) codes scale, (s.conv q).converting = .entry → (s.conv q).endAt ≤ max s.now t →
    codes.length = entryCount (s.conv q).word → codesOk codes = true → entrySummary (s.conv q).word = false →
    entryRaw (s.conv q).word = false → (s.conv q).nextPeriod = none → (s.conv q).passRunning = true →
    (s.conv q).stop = none → (s.conv q).slot = .free → (s.conv q).calibrationUse = false → s.preempter q = none →
    (s.conv q).entry + 1 < s.objN (0x3200 + q) 5 →
    s.laneScaleAt q (entryLane (s.conv q).word) (s.conv q).firstKept = scale →
    ∃ u, exec (.entryEnd t q codes) s = .next u ∧ Changes [.now, .objs, .convs, .cores] s u ∧
      u.obj (0x3200 + q) (0x24 + entryLane (s.conv q).word) = (s.conv q).firstKept ∧
      u.obj (0x3200 + q) (0x20 + entryLane (s.conv q).word) =
        newestWord (s.meanValue q (entryLane (s.conv q).word) (entryGain (s.conv q).word) scale codes) 32
          (nextCount (s.objN (0x3200 + q) (0x20 + entryLane (s.conv q).word)))
          ((s.advance t).resultFlags q (entryLane (s.conv q).word) (s.objN (0x3200 + q) 3) codes (s.conv q).started (s.conv q).firstKept
            (s.conv q).endAt false false (s.conv q).repeated)
          (entryGain (s.conv q).word) scale.2 ∧
      (u.conv q).converting = .entry ∧ (u.conv q).entry = (s.conv q).entry + 1 ∧
      (u.conv q).word = s.entryWord q ((s.conv q).entry + 1) ∧
      (u.conv q).started = nextGrid (s.conv q).origin (s.conv q).period (s.conv q).endBoundary) ∧
  (∀ s t (q : ConvNo) codes r, (s.conv q).rawLeft = [r] → r.conv.taken - r.next ≤ 6 → codes.length = r.conv.taken - r.next →
    codesOk codes = true →
    let u := (s.advance t).rawEntry q r.conv r.next (r.cut && decide (codes.length < 6)) codes
    exec (.rawEntryWrite t q codes) s = .next (u.setConv q { u.conv q with rawLeft := [] }))

/-- Urgent requests (R115, R116): an accepted one waits in the free slot and may run 400 tk later, or at the boundary of
an entry that has just taken its last sample; it runs between passes at the first grid instant from which it may; at its
last kept sample the slot is free again and its status is done. Diagnoses (R127, R128): one at the front end, or on the
pin path of a port that is Off or Measure only, is accepted, waits in the free slot and its status is 1; with its three
means it ends with its offset, its gain error and its worst deviation, passed when the deviation is within the limit.
The event select of a converter takes its value, ones written to the event causes clear those bits, and the source of
the block follows with one edge when its level changes by the write (R129, R299). -/
def Obligations.UrgentRequestsAndDiagnoses : Prop :=
  ((∀ s t a (q : ConvNo) v c x, TakesWrite s t a (0x3200 + q) 0x0F (natLe 8 v) c → c.written (natLe 8 v) = (x : Nat) →
    (s.heard t a).entryAbort (s.sessionOf a) x = none → s.slotAbort q = none →
    exec (.urgentRequest t a q v) s = .next ((s.heard t a).answered ((((s.heard t a).setConv q { s.conv q with
      slot := .request true (max s.now t) (if max s.now t < (s.conv q).boundary then min (max s.now t + 400) (s.conv q).boundary
        else max s.now t + 400), urgentStep := none }).setObj (0x3200 + q) 0x0F x).setObj (0x3200 + q) 0x10 1))) ∧
  (∀ s t (q : ConvNo) t0 r, (s.conv q).slot = .request true t0 r → (s.conv q).converting = .nothing →
    (s.conv q).calibrationUse = false → (s.conv q).stop = none → (s.conv q).passRunning = false →
    nextGrid (s.conv q).origin (s.conv q).period (max (s.conv q).boundary r) ≤ max s.now t →
    exec (.urgentStart t q) s = .next (((s.advance t).setConv q
      ({ s.conv q with slot := .request false t0 r, repeated := false }.begin .urgent (s.objN (0x3200 + q) 0x0F)
        (nextGrid (s.conv q).origin (s.conv q).period (max (s.conv q).boundary r)))).setObj (0x3200 + q) 0x10 2)) ∧
  ∀ s t (q : ConvNo) codes, (s.conv q).converting = .urgent → (s.conv q).endAt ≤ max s.now t →
    codes.length = entryCount (s.conv q).word → codesOk codes = true → entrySummary (s.conv q).word = false →
    entryRaw (s.conv q).word = false → (s.conv q).nextPeriod = none → (s.conv q).passRunning = false →
    (s.conv q).urgentStep = none → s.unselected (0x3200 + q) 0x19 1 → s.inFlightSteps = [] →
    ∃ u, exec (.urgentEnd t q codes) s = .next u ∧ Changes [.now, .objs, .convs, .cores] s u ∧
      (u.conv q).slot = .free ∧ (u.conv q).converting = .nothing ∧ (u.conv q).boundary = (s.conv q).endBoundary ∧
      u.obj (0x3200 + q) 0x10 = 3 ∧ bitOf (u.objN (0x3200 + q) 0x1A) 1 = true ∧
      u.obj (0x3200 + q) (0x24 + entryLane (s.conv q).word) = (s.conv q).firstKept) ∧
  ((∀ s t a (q : ConvNo) v c x, TakesWrite s t a (0x3200 + q) 0x11 (natLe 2 v) c → c.written (natLe 2 v) = (x : Nat) →
    fieldOf x 2 2 = 1 ∨ fieldOf x 2 2 = 2 ∧ (q : Nat) < 64 ∧ (s.advance t).pinPathOk (lanePort q (fieldOf x 0 2)) = true →
    fieldOf x 4 3 ≤ 5 → s.slotAbort q = none →
    exec (.diagnosisCommand t a q v) s = .next ((s.heard t a).answered ((((s.heard t a).setConv q { s.conv q with
      slot := .diagnosis true (max s.now t) (if max s.now t < (s.conv q).boundary then
        min (max s.now t + 400) (s.conv q).boundary else max s.now t + 400) }).setObj (0x3200 + q) 0x11 x).setObj (0x3200 + q) 0x12 1))) ∧
  ∀ s t (q : ConvNo) (e : Int), (s.conv q).converting = .diagnosis → (s.conv q).diagnosisEnd ≤ max s.now t →
    (s.conv q).passRunning = false → (s.conv q).nextPeriod = none → (s.conv q).urgentStep = none →
    entryGain (s.conv q).word = 0 → 0 ≤ e → e ≤ 1000 → s.unselected (0x3200 + q) 0x19 2 →
    s.inFlightSteps = [] →
    ∃ u, exec (.diagnosisEnd t q (410000 + e) (2048000 + e) (3686000 + e)) s = .next u ∧
      Changes [.now, .objs, .convs] s u ∧ (u.conv q).slot = .free ∧ (u.conv q).converting = .nothing ∧
      u.obj (0x3200 + q) 0x13 = e ∧ u.obj (0x3200 + q) 0x14 = 0 ∧ u.obj (0x3200 + q) 0x15 = e ∧
      u.obj (0x3200 + q) 0x12 = (if e ≤ s.obj (0x3200 + q) 0x16 then 2 else 3)) ∧
  ((∀ s t a (q : ConvNo) v c x, TakesWrite s t a (0x3200 + q) 0x19 (natLe (objectSize (0x3200 + q) 0x19) v) c →
    c.written (natLe (objectSize (0x3200 + q) 0x19) v) = (x : Nat) →
    exec (.eventSelectWrite t a (0x3200 + q) 0x19 v) s = .next ((s.heard t a).answered
      (((s.heard t a).setObj (0x3200 + q) 0x19 x).followLevel (256 + q) (max s.now t)))) ∧
  (∀ s t a (q : ConvNo) v c x, TakesWrite s t a (0x3200 + q) 0x1A (natLe (objectSize (0x3200 + q) 0x1A) v) c →
    c.written (natLe (objectSize (0x3200 + q) 0x1A) v) = (x : Nat) →
    exec (.eventCausesClear t a (0x3200 + q) 0x1A v) s = .next ((s.heard t a).answered
      (((s.heard t a).setObj (0x3200 + q) 0x1A (clearBits 16 (s.objN (0x3200 + q) 0x1A) x)).followLevel (256 + q)
        (max s.now t)))) ∧
  ∀ s t a idx sub v, (blockSubs idx).map (·.1) ≠ some sub → exec (.eventSelectWrite t a idx sub v) s = .next (s.advance t))

/-! ## Decimation chains -/

/-- The first kept sample of a lane after a restart, within the phase delay, enters corrected and only counts the delay
down (R102, R132, R145); below VCORE 0.70 V the newest sample that finds the 256 places of the input queue full is
dropped, is counted, sets cause bit 0, and leaves the lane a restart at its next accepted sample; at 0.70 V or more none
is dropped (R29, R146). A chain output that is ready is delivered to the newest-value objects of its lane and path,
which count it (R124, R152, R153); here no entry is selected and no tap names the lane. -/
def Obligations.ChainsGiveOutputs : Prop :=
  ((∀ s t (n : ChainNo) (l : Lane) code v x, s.nextSample n l = some (v, x) → x + 12 * v.period ≤ max s.now t →
    -32768 ≤ code → code ≤ 32767 → ((s.chain n).lane l).last = none → ((s.chain n).lane l).drops = [] →
    ((s.chain n).lane l).restart = none → 0 < ((s.chain n).lane l).phaseLeft → ((s.chain n).lane l).readyCoarse = [] →
    ∃ u, exec (.coarseOutput t n l [code]) s = .next u ∧ Changes [.now, .chains, .convs] s u ∧
      (u.chain n).lane l = { (s.chain n).lane l with
        last := some (s.chainSample n l v x code), nextFrom := x + 1
        phaseLeft := ((s.chain n).lane l).phaseLeft - 1 }) ∧
  (∀ s t (n : ChainNo) (l : Lane) x, (s.advance t).newestArrived n l = some x → 256 < (s.advance t).chainWaiting n →
    ((s.chain n).lane l).nextFrom ≤ x → x ∉ ((s.chain n).lane l).drops → s.unselected (0x3300 + n) 0x1E 0 →
    ∃ u, exec (.sampleDropped t n l) s = .next u ∧ Changes [.now, .objs, .chains] s u ∧
      (u.chain n).lane l = { (s.chain n).lane l with drops := ((s.chain n).lane l).drops ++ [x] } ∧
      u.obj (0x3300 + n) 0x0E = addWrap 32 (s.objN (0x3300 + n) 0x0E) 1 ∧ bitOf (u.objN (0x3300 + n) 0x1F) 0 = true) ∧
  ∀ s t (n : ChainNo) (l : Lane), 700 ≤ s.vcore → exec (.sampleDropped t n l) s = .next (s.advance t)) ∧
  ((∀ s t (n : ChainNo) (l : Lane) o os, ((s.chain n).lane l).readyCoarse = o :: os →
    bitOf (s.objN (0x3300 + n) (0x14 + l)) 20 = false → s.tapsOn n l false = [] →
    ∃ u, exec (.coarseOutput t n l []) s = .next u ∧ ((u.chain n).lane l).readyCoarse = os ∧
      u.obj (0x3300 + n) (0x24 + l) =
        newestWord o.frac 32 (nextCount (s.objN (0x3300 + n) (0x24 + l))) o.flags o.gain o.measure ∧
      u.obj (0x3300 + n) (0x30 + l) = o.stamp ∧ Changes [.now, .objs, .chains, .cores] s u) ∧
  ∀ s t (n : ChainNo) (l : Lane) o os, ((s.chain n).lane l).readyFine = o :: os →
    bitOf (s.objN (0x3300 + n) (0x14 + l)) 21 = false → s.tapsOn n l true = [] →
    ∃ u, exec (.fineOutput t n l []) s = .next u ∧ ((u.chain n).lane l).readyFine = os ∧
      u.obj (0x3300 + n) (0x28 + l) =
        newestWord o.frac 32 (nextCount (s.objN (0x3300 + n) (0x28 + l))) o.flags o.gain o.measure ∧
      u.obj (0x3300 + n) (0x2C + l) = o.stamp ∧ Changes [.now, .objs, .chains, .cores] s u)

/-- The cross-fade of R142 to a bank, asked for at an instant: from the next grid instant of the converter on, for
2^(subindex 0x1C) outputs of the fine path. -/
def Sys2Proof.Machine.State.fadeTo (s : State) (n : Nat) (bank : Bank) (now : Tk) : Fade :=
  { start := nextGrid (s.conv n).origin (s.objN (0x3200 + n) 0x18) now,
    finish := nextGrid (s.conv n).origin (s.objN (0x3200 + n) 0x18) now +
      2 ^ s.objN (0x3300 + n) 0x1C * s.fineDecimation n * s.objN (0x3200 + n) 0x18,
    source := (s.chain n).active, target := bank, k := s.objN (0x3300 + n) 0x1C, counts := [0, 0, 0, 0] }

/-- Configuration and banks of a chain: a configuration write at rest restarts all four lanes with cause 4, and is
refused while the converter works (R149); the inactive bank takes coefficients outside a fade (R141), the active one
refuses. Swaps (R142): a request for the other bank starts a cross-fade on the next grid instant, 2^sub 0x1C fine
outputs long; at its end the target is the active bank and cause bit 2 is set. Synchronising resets (R147, R148): a sync
command with a group mask, by a session that holds the claims, and a SYNC input edge make a reset pending in every chain
they reach, at the first multiple of 40 tk at least 400 tk later; at that instant the grid of the converter takes a new
origin and all four lanes restart. -/
def Obligations.ChainsAreSet : Prop :=
  ((∀ s t a (n : ChainNo) sub v c x,
    chainLocked sub = true →
    TakesWrite s t a (0x3300 + n) sub (natLe (if 0x20 ≤ sub ∨ sub ∈ [1, 3, 4, 6, 8] then 2 else 1) v) c →
    c.written (natLe (if 0x20 ≤ sub ∨ sub ∈ [1, 3, 4, 6, 8] then 2 else 1) v) = (x : Nat) →
    s.chainIsLocked n = false → (sub ≤ 9 →
      chainValid (fun k => if k = sub then x else s.objN (0x3300 + n) k) (s.objN (0x3200 + n) 2) = true) →
    (s.chain n).fade = none → s.unselected (0x3300 + n) 0x1E 3 →
    (∀ l, s.tapsOn n l false = [] ∧ s.tapsOn n l true = []) →
    ∃ u, exec (.chainConfigWrite t a n sub v) s = .next ((s.heard t a).answered u) ∧
      Changes [.objs, .convs, .chains] (s.heard t a) u ∧ u.obj (0x3300 + n) sub = x ∧
      ∀ l < 4, ((u.chain n).lane l).restart = some (4, 0) ∧ ((u.chain n).lane l).coarseIn = 0 ∧
        ((u.chain n).lane l).last = none) ∧
  (∀ s t a (n : ChainNo) sub v c, chainLocked sub = true →
    TakesWrite s t a (0x3300 + n) sub (natLe (if 0x20 ≤ sub ∨ sub ∈ [1, 3, 4, 6, 8] then 2 else 1) v) c →
    s.chainIsLocked n = true →
    exec (.chainConfigWrite t a n sub v) s = .next ((s.heard t a).refusedWith 0x0F010501)) ∧
  (∀ s t a (n : ChainNo) bytes c, TakesBytes s t a (0x3300 + n) 0x19 bytes c → bytes.length % 4 = 0 →
    bytes.length ≤ 8192 → bankInRange bytes = true → (s.chain n).fade = none → (s.chain n).active = .a →
    exec (.bankWrite t a n .b bytes) s = .next ((s.heard t a).answered ((s.heard t a).setBlob (0x3300 + n) 0x19
      (bytes ++ (s.blob (0x3300 + n) 0x19).drop bytes.length)))) ∧
  ∀ s t a (n : ChainNo) bytes c, TakesBytes s t a (0x3300 + n) 0x18 bytes c → bytes.length % 4 = 0 →
    bytes.length ≤ 8192 → bankInRange bytes = true → (s.chain n).fade = none → (s.chain n).active = .a →
    exec (.bankWrite t a n .a bytes) s = .next ((s.heard t a).refusedWith 0x0F010503)) ∧
  ((∀ s t a (n : ChainNo) c, TakesWrite s t a (0x3300 + n) 0x1B (natLe 1 1) c → c.written (natLe 1 1) = 1 →
    (s.chain n).fade = none → (s.chain n).active = .a →
    ∃ past, exec (.swapRequest t a n 1) s = .next ((s.heard t a).answered (((s.heard t a).setObj (0x3300 + n) 0x1B 1).setChain n
      { s.chain n with pastFades := past, fade := some (s.fadeTo n .b (max s.now t)) }))) ∧
  (∀ s t a (n : ChainNo) c, TakesWrite s t a (0x3300 + n) 0x1B (natLe 1 0) c → c.written (natLe 1 0) = 0 →
    (s.chain n).fade = none → (s.chain n).active = .a →
    exec (.swapRequest t a n 0) s = .next ((s.heard t a).answered ((s.heard t a).setObj (0x3300 + n) 0x1B 0))) ∧
  ∀ s t (n : ChainNo) f, (s.chain n).fade = some f → f.finish ≤ max s.now t → (s.chain n).heldSwap = none →
    s.unselected (0x3300 + n) 0x1E 2 →
    ∃ u, exec (.fadeEnd t n) s = .next u ∧ Changes [.now, .objs, .chains] s u ∧
      u.chain n = { s.chain n with fade := none, pastFades := f :: (s.chain n).pastFades, heldSwap := none,
                                   active := f.target } ∧
      u.obj (0x3300 + n) 0x1A = bankCode f.target ∧ bitOf (u.objN (0x3300 + n) 0x1F) 2 = true) ∧
  ((∀ s t a (n : ChainNo) v c x, TakesWrite s t a (0x3300 + n) 0x11 (natLe 1 v) c → c.written (natLe 1 v) = (x : Nat) →
    (∀ m, (s.chain m).sync = none) →
    ∃ u, exec (.syncCommand t a n v) s = .next ((s.heard t a).answered u) ∧ Changes [.chains] (s.heard t a) u ∧
      ∀ m < 72, u.chain m =
        if (s.objN (0x3300 + m) 0x10 &&& x &&& 0xFE) ≠ 0 ∧ s.claimsAbort (s.sessionOf a) (convClaims m) = none then
          { s.chain m with sync := some (nextGrid 0 40 (max s.now t + 400)), syncEvent := (max s.now t, true) }
        else s.chain m) ∧
  (∀ s t stamp, s.timebase.syncIn = some stamp → s.syncs = true → s.obj 0x2300 6 = 0 → (∀ m, (s.chain m).sync = none) →
    ∃ u, exec (.syncInputEdge t stamp) s = .next u ∧ Changes [.now, .timebase, .chains] s u ∧ u.timebase.syncIn = none ∧
      ∀ m < 72, u.chain m = if bitOf (s.objN (0x3300 + m) 0x10) 0 then
          { s.chain m with sync := some (nextGrid 0 40 (stamp + 400)), syncEvent := (stamp, false) }
        else s.chain m) ∧
  ∀ s t (n : ChainNo) ts, (s.chain n).sync = some ts → ts ≤ max s.now t → (s.chain n).fade = none →
    s.unselected (0x3300 + n) 0x1E 1 → s.unselected (0x3300 + n) 0x1E 3 →
    (∀ l, s.tapsOn n l false = [] ∧ s.tapsOn n l true = []) →
    ∃ u, exec (.syncReset t n) s = .next u ∧ Changes [.now, .objs, .convs, .chains] s u ∧ (u.chain n).sync = none ∧
      (u.conv n).origin = ts ∧ u.obj (0x3300 + n) 0x13 = ts ∧ bitOf (u.objN (0x3300 + n) 0x1F) 1 = true ∧
      ∀ l < 4, ((u.chain n).lane l).restart = some (0, 0) ∧ ((u.chain n).lane l).last = none)

/-! ## The net mapper -/

/-- A port whose park is over has its new owner (R83). A port whose enabled owners name another owner goes into park,
from the next 0.1 microsecond on and for the length of R83, and keeps its owner meanwhile; with the owner it has wanted
it is left alone (R76, R78, R81). -/
def Obligations.PortsChangeOwnersThroughPark : Prop :=
  (∀ s t (p : PortNo) k, (s.port p).park = some k → k.exit ≤ max s.now t → s.cycle.releasing = false →
    ∃ u, exec (.parkExit t p) s = .next u ∧ (u.port p).owner = k.target ∧ (u.port p).park = none ∧
      (u.port p).lastParkExit = k.exit ∧ (u.port p).rangeEnd = none ∧
      Changes [.now, .objs, .ports, .pins, .convs, .disp, .sources, .trigOuts, .queues] s u) ∧
  ((∀ (s : State) cause p, (s.port p).park = none → (s.port p).owner ≠ s.wantedOwner p →
    ∃ k, ((s.settleOwner cause p).port p).park = some k ∧ k.entry = s.now + 400 ∧ k.target = s.wantedOwner p ∧
      k.exit = s.now + 400 + s.parkLength p (s.wantedOwner p) ∧ k.cause = cause ∧ k.oldOwner = (s.port p).owner ∧
      ((s.settleOwner cause p).port p).owner = (s.port p).owner ∧
      (∀ q, q ≠ p → (s.settleOwner cause p).port q = s.port q) ∧
      (s.settleOwner cause p).obj (0x3100 + p) 6 = (s.now + 400 : Nat) ∧
      Changes [.objs, .ports, .fresh] s (s.settleOwner cause p)) ∧
  ∀ (s : State) cause p, (s.port p).park = none → (s.port p).owner = s.wantedOwner p → s.settleOwner cause p = s)

/-- What a request whose answer waits for its Cellar transaction leaves: its effect, with the session that is owed the
answer (R450, R482). -/
def Sys2Proof.Machine.State.answersLater (s u : State) (who : Nat) : State :=
  s.owedTo (s.accepted u) (some (.plain who))

/-- Enabling the mapper with the claims of its mask makes it ready and gives it its ports; disabling it, with no map
running, takes them away (R158); a reference that is not valid is refused (R182). A valid reference, or none, for a slot
that no running map uses goes to the Cellar: its transaction opens where the Cellar is free and the heap has room, or
waits its turn, and the answer waits for the transaction (R182, R450, R481). A map start that nothing refuses begins a
map of the selected analyses with the settings of its start: it holds the converters of its points and counts from this
instant; while it waits it takes the grants as soon as a grouping fits, in the least number of groups, each at the
excitation currents of R172, and gives up after the budget wait; where the grants fit a first group and no grouping it
aborts at once (R170, R171, R185, R187). The course of a map: the samples of a group give its columns of Y, and the last
group of pass 2 opens its analysis, with the points on their way to the range of 2 mA (R163, R165, R167); an over-range
in pass 1, the abort command, and the end of the analysis end the map (R174, R184, R187); the analysis of pass 1 finds
the links and nets once the points have their range (R165, R173); a refinement round ends with the Kelvin values it
measured (R177). -/
def Obligations.MapsRunToTheirEnd : Prop :=
  ((∀ s t a c, TakesWrite s t a 0x3400 1 (natLe 1 1) c → s.map.phase = .disabled → s.objN 0x3400 1 = 0 →
    (s.heard t a).claimsAbort (s.sessionOf a) ((s.heard t a).mapMask.map fun p => (clsPort, p)) = none →
    exec (.mapperEnable t a) s = .next ((s.heard t a).answered (State.settleOwners
      { (s.heard t a).setObj 0x3400 1 1 with map := { s.map with phase := .ready } } .enable))) ∧
  (∀ s t a c, TakesWrite s t a 0x3400 1 (natLe 1 0) c → s.map.phase = .disabled ∨ s.map.phase = .ready →
    exec (.mapperDisable t a) s = .next ((s.heard t a).answered (State.settleOwners
      { (s.heard t a).setObj 0x3400 1 0 with map := { s.map with phase := .disabled } } .disable))) ∧
  ∀ s t a (slot : Fin 16) bytes c, TakesBytes s t a (0x3410 + slot) 1 bytes c → s.map.phase = .ready → bytes ≠ [] →
    referenceOk bytes = false →
    exec (.referenceWrite t a slot bytes) s = .next ((s.heard t a).refusedWith 0x0F010605)) ∧
  ((∀ s t a (slot : Fin 16) bytes c, TakesBytes s t a (0x3410 + slot) 1 bytes c → s.map.phase = .ready →
    bytes = [] ∨ referenceOk bytes = true → s.cellarFree = true →
    unitsOf [.blob 6 slot (if bytes.isEmpty then none else some bytes)] ≤ s.heapFree → s.loader.owed = none →
    ∃ u txn, exec (.referenceWrite t a slot bytes) s = .next u ∧
      txn.why = .reference slot ∧ txn.changes = [.blob 6 slot (if bytes.isEmpty then none else some bytes)] ∧
      txn.reply = some (.plain (s.sessionOf a)) ∧ u.cellar.open_ = some txn ∧ u.cellar.waiting = [] ∧
      Changes [.cellar, .power] (s.heard t a) u ∧ u.power = ((s.heard t a).accepted (s.heard t a)).power) ∧
  ∀ s t a (slot : Fin 16) bytes c, TakesBytes s t a (0x3410 + slot) 1 bytes c → s.map.phase = .ready →
    bytes = [] ∨ referenceOk bytes = true → s.cellarFree = false → s.cellar.stage ≠ 5 → s.cellar.waiting.length < 4 →
    s.loader.owed = none →
    ∃ u txn, exec (.referenceWrite t a slot bytes) s = .next u ∧
      txn.why = .reference slot ∧ txn.changes = [.blob 6 slot (if bytes.isEmpty then none else some bytes)] ∧
      txn.reply = some (.plain (s.sessionOf a)) ∧ u.cellar.waiting = s.cellar.waiting ++ [txn] ∧
      Changes [.cellar, .power] (s.heard t a) u ∧ u.power = ((s.heard t a).accepted (s.heard t a)).power) ∧
  ((∀ s t a c, TakesWrite s t a 0x3400 0x0A (natLe 1 1) c → s.mode = .run ∨ s.mode = .throttle →
    (s.heard t a).mapStartAbort (s.sessionOf a) (s.objN 0x3400 0x0B) (s.objN 0x3400 0x15) = none →
    bitOf (s.objN 0x3400 0x0B) 2 = false ∨ (s.heard t a).claimAbort (s.sessionOf a) clsCycle 0 = none →
    ∃ u, exec (.mapStart t a) s = .next ((s.heard t a).answered u) ∧ u.map.start = max s.now t ∧
      u.map.session = s.sessionOf a ∧ u.map.sel = s.objN 0x3400 0x0B ∧ u.map.points = s.mapMask ∧ u.map.byStep = none ∧
      (u.map.phase = .waiting ∨ u.map.phase = .pass1 ∧ u.map.phaseStart = max s.now t + 80000 ∨
        u.map.phase = .aborted ∧ u.obj 0x3401 2 = 6) ∧
      Changes [.objs, .ports, .pins, .convs, .chains, .map, .disp, .busSources, .gov, .sources, .timebase, .trigOuts, .queues,
        .zones] (s.heard t a) u) ∧
  (∀ s t g, s.map.phase = .waiting →
    (groupPlan 1 s.map.points []).groups (s.objN 0x3400 0x16) (s.mapIc 1) ((s.advance t).grantFor none s.map.byStep)
      ((List.range 4).map fun d => (s.advance t).grantFor (some d) s.map.byStep) = some g →
    ∃ u, exec (.mapBudgetGranted t) s = .next u ∧ u.map = { s.map with
        phase := .pass1, pass := 1, group := 0, g1 := g, phaseStart := max s.now t + 80000,
        groups := (List.range g).map ((groupPlan 1 s.map.points []).rows g),
        grant := (s.advance t).grantFor none s.map.byStep,
        dieGrants := (List.range 4).map fun d => (s.advance t).grantFor (some d) s.map.byStep } ∧
      u.obj 0x3401 7 = g ∧ Changes [.now, .objs, .convs, .map, .disp, .sources, .trigOuts] s u) ∧
  (∀ s t, s.map.phase = .waiting → max s.now t < s.map.waitSince + s.objN 0x3400 0x17 * 4000000 →
    exec (.mapBudgetWaitExpired t) s = .next (s.advance t)) ∧
  ∀ s t, s.map.phase = .waiting → s.map.waitSince + s.objN 0x3400 0x17 * 4000000 ≤ max s.now t → s.mode ≠ .save →
    ∃ u, exec (.mapBudgetWaitExpired t) s = .next u ∧ u.map = { s.map with phase := .aborted, byStep := none } ∧
      u.obj 0x3401 2 = 5 ∧ Changes [.now, .objs, .ports, .pins, .convs, .chains, .map, .disp, .busSources, .sources, .timebase,
        .trigOuts, .queues, .zones] s u) ∧
  ((∀ s t rests samples, s.map.phase = .pass1 ∨ s.map.phase = .pass2 →
    max s.now t < s.map.phaseStart + (s.map.group + 1) * s.map.groupTime →
    exec (.mapGroupEnd t rests samples) s = .next (s.advance t)) ∧
  (∀ s t rests samples, s.map.phase = .pass1 → s.map.phaseStart + (s.map.group + 1) * s.map.groupTime ≤ max s.now t →
    s.map.samplesOk samples = true → s.map.restsOk rests = true → samples.all (fun x => !pointOver x) = true →
    s.map.group + 1 < s.map.groups.length →
    exec (.mapGroupEnd t rests samples) s = .next { s.advance t with map := { (s.mapRests rests).map with
      group := s.map.group + 1, sums1 := s.map.sums1 ++ (s.mapRests rests).groupY samples } }) ∧
  (∀ s t rests samples, s.map.phase = .pass2 → s.map.pass = 2 →
    s.map.phaseStart + (s.map.group + 1) * s.map.groupTime ≤ max s.now t →
    s.map.samplesOk samples = true → s.map.restsOk rests = true →
    s.map.groups.length ≤ s.map.group + 1 →
    ∃ u, exec (.mapGroupEnd t rests samples) s = .next u ∧ u.map = { s.map with
        group := s.map.group + 1, phase := .analysis, phaseStart := max s.now t
        overItems := s.map.overItems ++ (samples.filter pointOver).map fun x => netNumber s.map.nets x.point.val
        sums2 := s.map.sums2 ++ s.groupY samples } ∧
      (∀ p ∈ (s.advance t).ownPoints, (u.port p).point = { range := 3 } ∧
        (u.port p).rangeEnd = some (max s.now t + 2 * rangeChangeTime 3)) ∧
      bitOf (u.objN 0x3400 0x19) 2 = true ∧
      Changes [.now, .objs, .ports, .pins, .convs, .map, .disp, .sources, .timebase, .trigOuts, .queues] s u) ∧
  (∀ s t rests samples, s.map.phase = .pass1 → s.map.phaseStart + (s.map.group + 1) * s.map.groupTime ≤ max s.now t →
    s.map.samplesOk samples = true → s.map.restsOk rests = true → samples.any pointOver = true → s.mode ≠ .save →
    ∃ u, exec (.mapGroupEnd t rests samples) s = .next u ∧ u.map = { s.map with phase := .aborted, byStep := none } ∧
      u.obj 0x3401 2 = 7) ∧
  (∀ s t a c, TakesWrite s t a 0x3400 0x0A (natLe 1 2) c → s.mapRunning = true → s.mode ≠ .save →
    ∃ u, exec (.mapAbortCommand t a) s = .next ((s.heard t a).answered u) ∧
      u.map = { s.map with phase := .aborted, byStep := none } ∧ u.obj 0x3401 2 = 1 ∧
      Changes [.objs, .ports, .pins, .convs, .chains, .map, .disp, .busSources, .sources, .timebase, .trigOuts, .queues,
        .zones] (s.heard t a) u) ∧
  (∀ s t, s.map.phase = .analysis → s.map.pass = 3 →
    ∃ u, exec (.mapEnd t) s = .next u ∧ u.map = { s.map with phase := .done, byStep := none } ∧
      (bitOf s.map.sel 3 = false → u.obj 0x3401 3 = 4) ∧
      Changes [.now, .objs, .ports, .pins, .convs, .chains, .map, .disp, .busSources, .sources, .timebase, .trigOuts, .queues,
        .zones, .fresh] s u) ∧
  (∀ s t, s.map.phase = .analysis → s.map.pass = 1 → bitOf s.map.sel 1 = false → bitOf s.map.sel 2 = false →
    (∀ p ∈ (s.advance t).ownPoints, (s.port p).rangeEnd = none) →
    ∃ u, exec (.mapAnalysisEnd t) s = .next u ∧ u.map = { s.map with
        links := s.mapLinks, nets := netsOf s.map.points (s.mapLinks.map fun l => (l.a, l.b)), pass := 3,
        phaseStart := max s.now t } ∧
      u.objN 0x3401 0x0A = s.mapLinks.length ∧ Changes [.now, .objs, .map] s u) ∧
  ∀ s t rs, s.map.phase = .refinement → s.map.phaseStart + (s.map.round + 1) * 512000 ≤ max s.now t →
    s.map.loops.all (fun x => rs.any fun (r : RoundResult) => r.a.val == x.1.a && r.b.val == x.1.b) = true →
    rs.all loopWhole = true → s.map.round + 1 < s.map.rounds.length →
    ∃ u, exec (.mapRoundEnd t rs) s = .next u ∧
      u.map = { s.map with links := s.map.links.map (s.linkMeasured rs), round := s.map.round + 1 } ∧
      Changes [.now, .objs, .ports, .pins, .convs, .map, .disp, .busSources, .sources, .timebase, .trigOuts, .queues,
        .fresh] s u)

/-! ## Plans and the dispatcher -/

/-- A valid plan image, or none, for a slot that does not run and with room for it, goes to the Cellar, at once where
the Cellar is free and the heap has room, or in its turn, and its load result shows success; the answer waits for the
transaction (R192, R450, R481). An image that fails a check is refused, and the load result names the check (R198). A
plan starts in RUN or THROTTLE, when none runs, its slot holds an image, the writer's session holds what it needs, the
queues it names fit the 16,000 pinned ones and no step claims more energy than the bucket can hold (R204); an abort with
no step in flight ends it with verdict 3 and cause 6 (R205, R216). -/
def Obligations.PlansStart : Prop :=
  ((∀ s t a (slot : Fin 4) bytes c, TakesBytes s t a (0x3510 + slot) 1 bytes c → s.disp.slot ≠ some slot.val →
    bytes = [] ∨ loadCheck bytes = (0, 0xFFFF) → s.planBytes slot + bytes.length ≤ 12582912 →
    s.cellarFree = true → unitsOf [.blob 4 slot (if bytes.isEmpty then none else some bytes)] ≤ s.heapFree →
    ∃ u txn, exec (.planImageWrite t a slot bytes) s = .next u ∧
      txn.why = .plan slot ∧ txn.changes = [.blob 4 slot (if bytes.isEmpty then none else some bytes)] ∧
      txn.reply = some (.plain (s.sessionOf a)) ∧ u.cellar.open_ = some txn ∧ u.cellar.waiting = [] ∧
      u.objs = (s.setObj 0x3500 9 (0xFFFF00 + slot.val * 2 ^ 24 : Nat)).objs ∧
      Changes [.cellar, .power, .objs] (s.heard t a) u) ∧
  (∀ s t a (slot : Fin 4) bytes c, TakesBytes s t a (0x3510 + slot) 1 bytes c → s.disp.slot ≠ some slot.val →
    bytes = [] ∨ loadCheck bytes = (0, 0xFFFF) → s.planBytes slot + bytes.length ≤ 12582912 →
    s.cellarFree = false → s.cellar.stage ≠ 5 → s.cellar.waiting.length < 4 →
    ∃ u txn, exec (.planImageWrite t a slot bytes) s = .next u ∧
      txn.why = .plan slot ∧ txn.changes = [.blob 4 slot (if bytes.isEmpty then none else some bytes)] ∧
      txn.reply = some (.plain (s.sessionOf a)) ∧ u.cellar.waiting = s.cellar.waiting ++ [txn] ∧
      u.objs = (s.setObj 0x3500 9 (0xFFFF00 + slot.val * 2 ^ 24 : Nat)).objs ∧
      Changes [.cellar, .power, .objs] (s.heard t a) u) ∧
  ∀ s t a (slot : Fin 4) bytes c code k, TakesBytes s t a (0x3510 + slot) 1 bytes c → s.disp.slot ≠ some slot.val →
    bytes ≠ [] → loadCheck bytes = (code, k) → code ≠ 0 →
    exec (.planImageWrite t a slot bytes) s = .next (((s.heard t a).setObj 0x3500 9
      (code + k * 256 + slot.val * 2 ^ 24 : Nat)).refusedWith 0x0F010701)) ∧
  ((∀ s t a c, TakesWrite s t a 0x3500 1 (natLe 1 1) c → s.mode = .run ∨ s.mode = .throttle → s.disp.slot = none →
    s.planImage (s.objN 0x3500 2) ≠ [] →
    (s.heard t a).claimsAbort (s.sessionOf a) (s.planClaims (s.planImage (s.objN 0x3500 2))) = none →
    (∀ k < stepCount (s.planImage (s.objN 0x3500 2)), stepClaim (s.planImage (s.objN 0x3500 2)) k ≤ s.gov.capacity) →
    (s.pantry.larderReady = true → (s.heard t a).pinnedCount + ((((List.range (stepCount (s.planImage (s.objN 0x3500 2)))).map
      (stepQueue (s.planImage (s.objN 0x3500 2)))).filter (· != 0xFFFFFFFF)).eraseDups.filter fun q =>
        !(s.heard t a).pinned q).length ≤ 16000) →
    ∃ u, exec (.planStart t a) s = .next ((s.heard t a).answered u) ∧ u.disp.slot = some (s.objN 0x3500 2) ∧
      u.disp.session = s.sessionOf a ∧ u.disp.stopped = false ∧ u.disp.abortCause = none ∧ u.disp.tails = s.disp.tails ∧
      Changes [.objs, .convs, .disp, .sources, .trigOuts, .queues] (s.heard t a) u) ∧
  ∀ s t a c slot, TakesWrite s t a 0x3500 1 (natLe 1 2) c → s.disp.slot = some slot → s.disp.abortCause = none →
    s.openSteps = [] → s.objN 0x3500 3 = 0xFFFFFFFF → s.unselected 0x3500 6 0 →
    exec (.planAbort t a) s = .next ((s.heard t a).answered (State.setObj
      { ((s.heard t a).setObj 0x3501 9 3).setObj 0x3501 0x0A 6 with disp := { tails := s.disp.tails } }
      0x3500 7 (putBit (s.objN 0x3500 7) 0 true : Nat))))

/-- A ready step that passes every test, first in the order, is dispatched: its claim is reserved and its action begins,
for a wait step the wait for its edge; one that does not pass, or is not the first, stays ready, with the test that it
fails (R203, R207, R208). The time of a wait step, and the timeout of a step in flight, stop its action (R194, R203,
R205): without an awaited edge a wait step stops without error, a wait for an edge that has not come with cause 2, as at
a timeout. Before, only time passes. -/
def Obligations.StepsRunInTime : Prop :=
  ((∀ s t (k : StepNo) r, s.dispatching = true → (s.step k).stage = .ready → (s.advance t).stepTestCause k = 0 →
    (s.advance t).firstToGo k = true → (s.advance t).reserve (stepClaim s.runningImage k) = some r →
    (s.advance t).claimsAbort s.disp.session (endingClaims (stepResources s.runningImage k)) = none →
    exec (.dispatch t k) s = .next (((r.setStep k { s.step k with
      stage := .inFlight, dispatchedAt := max s.now t, deferCause := 0 }).actionStarts State.put k).judgeReady)) ∧
  (∀ s t (k : StepNo), s.dispatching = true → (s.step k).stage = .ready → (s.advance t).stepTestCause k = 0 →
    (s.advance t).firstToGo k = true → stepClaim s.runningImage k = 0 → stepKind s.runningImage k = 7 →
    (s.advance t).claimsAbort s.disp.session (endingClaims (stepResources s.runningImage k)) = none →
    fieldLe (stepAction s.runningImage k) 4 2 = 0xFFFF →
    ∃ u, exec (.dispatch t k) s = .next u ∧ (u.step k).stage = .inFlight ∧ (u.step k).dispatchedAt = max s.now t ∧
      (u.step k).waitsFor = none ∧ (u.step k).done = (s.step k).done ∧ Changes [.now, .objs, .disp] s u) ∧
  ∀ s t (k : StepNo), s.dispatching = true → (s.step k).stage = .ready →
    (s.advance t).stepTestCause k ≠ 0 ∨ (s.advance t).firstToGo k = false →
    ∃ u, exec (.dispatch t k) s = .next u ∧ (u.step k).stage = .ready ∧
      (u.step k).deferCause = (s.advance t).stepTestCause k ∧ Changes [.now, .objs, .disp] s u) ∧
  ((∀ s t (k : StepNo), stepKind s.runningImage k = 7 → (s.step k).stage = .inFlight → (s.step k).done = none →
    (s.step k).ending = none →
    exec (.waitStepElapsed t k) s = .next (
      if max s.now t < (s.step k).dispatchedAt + fieldLe (stepAction s.runningImage k) 0 4 * 4000 then s.advance t
      else (s.advance t).setStep k { s.step k with
        done := some (if (s.step k).waitsFor.isSome then 2 else 0), stoppedAt := max s.now t })) ∧
  (∀ s t (k : StepNo), (s.step k).stage = .inFlight → stepTimeout s.runningImage k ≠ 0 →
    exec (.stepTimeout t k) s = .next (
      if max s.now t < (s.step k).dispatchedAt + stepTimeout s.runningImage k * 4000 then s.advance t
      else (s.advance t).stopAction k 2 1)) ∧
  ∀ s t (k : StepNo), stepKind s.runningImage k = 7 → (s.step k).stage = .inFlight → (s.step k).done = none →
    (s.step k).ending = none → stepTimeout s.runningImage k ≠ 0 →
    exec (.stepTimeout t k) s = .next (
      if max s.now t < (s.step k).dispatchedAt + stepTimeout s.runningImage k * 4000 then s.advance t
      else (s.advance t).setStep k { s.step k with done := some 2, stoppedAt := max s.now t }))

/-! ## Sweeps -/

/-- A step whose action has stopped is judged by its rules on its values (R214): it ends with that verdict and cause, or
is ready for another attempt (R215), unless the plan ends with it. A deferred step that waits too long ends with error
cause 8; one that is deferred for long enough is held, with cause bit 3 (R211); peaks whose tail has ended no longer
count (R209). The last level of a sweep, measured without compliance, ends it and gives its values, with their flags and
stamps, to its step; the end of a sweep frees the channel, turns its bus sources off and stops the action of its step
(R200, R221, R222). -/
def Obligations.StepsAndSweepsEnd : Prop :=
  ((∀ s t (k : StepNo) cause, s.disp.slot.isSome = true → (s.step k).stage = .inFlight → (s.step k).done = some cause →
    ∃ u, exec (.stepEnd t k) s = .next u ∧ Changes [.now, .objs, .convs, .disp, .gov, .sources, .trigOuts, .queues] s u ∧
      let v := judgeStep (stepRules s.runningImage k) (s.endValues k (s.step k)) cause
      (u.disp.slot = none ∨ (u.step k).stage = .ended ∧ (u.step k).verdict = v.verdict ∧ (u.step k).cause = v.cause ∨
        retries v = true ∧ (u.step k).stage = .ready ∧ (u.step k).attempt = (s.step k).attempt + 1)) ∧
  (∀ s t (k : StepNo), s.dispatching = true → (s.step k).stage = .ready → (s.step k).deferCause ≠ 0 →
    (s.step k).readyAt + s.objN 0x3500 5 * 4000000 ≤ max s.now t →
    ∃ u, exec (.stepBudgetWaitExpired t k) s = .next u ∧
      Changes [.now, .objs, .convs, .disp, .sources, .trigOuts, .queues] s u ∧
      (u.disp.slot = none ∨ (u.step k).stage = .ended ∧ (u.step k).verdict = 3 ∧ (u.step k).cause = 8)) ∧
  (∀ s t (k : StepNo), s.dispatching = true → (s.step k).stage = .ready → (s.step k).deferCause ≠ 0 →
    (s.step k).held = false → (s.step k).readyAt + s.objN 0x3500 4 * 4000 ≤ max s.now t → s.unselected 0x3500 6 3 →
    exec (.stepHeld t k) s = .next (((s.advance t).setStep k { s.step k with held := true }).setObj 0x3500 7
      (putBit (s.objN 0x3500 7) 3 true : Nat))) ∧
  ∀ s t, ∃ u, exec (.peakTailEnd t) s = .next u ∧ Changes [.now, .objs, .disp] s u ∧
    u.disp = { s.disp with tails := s.disp.tails.filter fun x => decide (max s.now t < x.until_), steps := u.disp.steps } ∧
    (s.disp.slot = none → u.disp.steps = s.disp.steps)) ∧
  ((∀ s t (m : Fin 4) r k, (s.sweep m).step = some k → (s.sweep m).ended = none → s.sweepOwns m = true →
    s.sweepLastKept m (s.sweepDesc m) ≤ max s.now t → sweepReadOk (s.sweepDesc m) r = true →
    r.compliance = false → sweepReverses (s.sweepDesc m) (s.sweep m) = false →
    sweepPoints (s.sweepDesc m) ≤ (s.sweep m).point + 1 →
    ∃ u, exec (.sweepLevelMeasured t m r) s = .next u ∧ (u.sweep m).ended = some 0 ∧
      (u.step k).values = (s.step k).values ++
        s.sweepValues (s.sweepDesc m) (s.sweep m) (s.sweepRead m (s.sweepDesc m) r) false ∧
      Changes [.now, .disp, .sweeps, .busSources, .fresh] s u) ∧
  ∀ s t (m : Fin 4) k cause, (s.sweep m).step = some k → (s.sweep m).ended = some cause →
    (s.step k).stage = .inFlight → (s.step k).done = none →
    ∃ u, exec (.sweepEnd t m) s = .next u ∧ u.sweep m = {} ∧ (u.step k).done = some cause ∧
      (u.step k).stoppedAt = max s.now t ∧ (u.busSource (2 * m)).on = false ∧ (u.busSource (2 * m + 1)).on = false ∧
      Changes [.now, .objs, .ports, .convs, .disp, .sweeps, .busSources, .sources, .trigOuts, .fresh] s u)

/-! ## Protocol engines -/

/-- A cause bit set in a block whose event causes are at a subindex, and nothing else (R129). -/
def Sys2Proof.Machine.State.caused (s : State) (idx cau bit : Nat) : State :=
  s.setObj idx cau (putBit (s.objN idx cau) bit true : Nat)

/-- An engine takes new counters; where its error state changes with them, cause bit 2 is set (R230). -/
def Sys2Proof.Machine.State.canCounted (s : State) (e : Nat) (c : CanEngine) : State :=
  if c.state = (s.can e).state then s.setCan e c else (s.setCan e c).caused (0x3600 + e) 0x0B 2

/-- A CAN FD engine with its pins turns on and off, dropping its pending frame; without them it is refused (R224). A
frame of a valid length, its reserved bytes cleared, waits for the bus of an engine that is on, as an FD frame and with
a bit-rate switch where the options allow (PRESUMED, log entry 157), and one frame at a time (R224); recover begins a
recovery that, complete, leaves the engine active with its counters at 0 (R231). What a CAN FD engine that is on does on
its bus, with no exchange on it and no result queue: a frame sent frees its buffer (cause bit 1), a frame received sets
bit 0 unless the options for FD and for the bit-rate switch exclude it (PRESUMED, log entry 157), both set bit 2 where
the counters change the error state, an error gives the counters, and the error state that they mean, with bit 2, and
gives up the frame that failed where frames are sent once only; bus-off sets bits 2 and 3 and ends bus traffic (R224,
R230, R231). An engine that only listens sends nothing and keeps its counters (R231; the counters are PRESUMED, log
entry 128); one that is off does nothing. -/
def Obligations.CanEnginesExchangeFrames : Prop :=
  ((∀ s t a (e : Fin 4) c, TakesWrite s t a (0x3600 + e) 1 (natLe 1 1) c → c.written (natLe 1 1) = 1 →
    s.objN (0x3700 + 3 * e) 1 = 0x10 → s.objN (0x3700 + 3 * e + 1) 1 = 0x11 →
    exec (.canEnable t a e 1) s = .next ((s.heard t a).answered ((s.heard t a).setObj (0x3600 + e) 1 1))) ∧
  (∀ s t a (e : Fin 4) c, TakesWrite s t a (0x3600 + e) 1 (natLe 1 1) c → c.written (natLe 1 1) = 1 →
    s.objN (0x3700 + 3 * e) 1 ≠ 0x10 →
    exec (.canEnable t a e 1) s = .next ((s.heard t a).refusedWith 0x0F010903)) ∧
  (∀ s t a (e : Fin 4) c, TakesWrite s t a (0x3600 + e) 1 (natLe 1 0) c → c.written (natLe 1 0) = 0 →
    (∀ b k, (s.can e).transmit = some (b, some k) → (s.step k).ending = none) →
    exec (.canEnable t a e 0) s = .next ((s.heard t a).answered
      (((s.heard t a).setCan e { s.can e with transmit := none }).setObj (0x3600 + e) 1 0))) ∧
  (∀ s t a (e : Fin 4) bytes c b, TakesBytes s t a (0x3600 + e) 6 bytes c → reservedCleared (0x3600 + e) 6 bytes = b →
    s.canTransmitAbort e b = none →
    exec (.canTransmit t a e bytes) s = .next ((s.heard t a).answered (((s.heard t a).setCan e { s.can e with
      transmit := some (natLe 4 (s.canWord e (fieldLe b 0 4)) ++ b.drop 4, none) }).setBlob (0x3600 + e) 6 b))) ∧
  (∀ s t a (e : Fin 4) bytes c b, TakesBytes s t a (0x3600 + e) 6 bytes c → reservedCleared (0x3600 + e) 6 bytes = b →
    b.length = 8 + fieldLe b 4 1 → fieldLe b 4 1 ∈ canLengths → (s.can e).transmit.isSome = true →
    exec (.canTransmit t a e bytes) s = .next ((s.heard t a).refusedWith 0x0F010901)) ∧
  (∀ s t a (e : Fin 4) c, TakesWrite s t a (0x3600 + e) 9 (natLe 1 1) c → c.written (natLe 1 1) = 1 →
    (s.can e).state = .busOff →
    exec (.canRecover t a e 1) s = .next ((s.heard t a).answered
      ((s.heard t a).setCan e { s.can e with recovering := true }))) ∧
  ∀ s t (e : Fin 4), (s.can e).recovering = true → s.unselected (0x3600 + e) 0x0A 2 →
    exec (.busOffRecoveryComplete t e) s = .next (((s.advance t).setCan e
      { s.can e with state := .active, tec := 0, rxErr := 0, recovering := false }).caused (0x3600 + e) 0x0B 2)) ∧
  ((∀ s t (e : Fin 4) bytes, (s.can e).transmit = some (bytes, none) → s.canOn e = true → s.canListens e = false →
    s.unselected (0x3600 + e) 0x0A 1 → s.unselected (0x3600 + e) 0x0A 2 →
    exec (.canFrameTransmitted t e) s = .next (((s.advance t).canCounted e
      { s.can e with transmit := none, tec := (s.can e).tec - 1,
                     state := canStateOf (s.can e).state ((s.can e).tec - 1) (s.can e).rxErr }).caused (0x3600 + e) 0x0B 1)) ∧
  (∀ s t (e : Fin 4), s.canListens e = true → exec (.canFrameTransmitted t e) s = .next (s.advance t)) ∧
  (∀ s t (e : Fin 4) f, s.canOn e = true → f.data.length ∈ canLengths → s.objN (0x3600 + e) 7 = 0xFFFFFFFF →
    s.canWord e f.ident = f.ident → s.inFlightSteps = [] → (s.can e).rxErr ≤ 127 → s.unselected (0x3600 + e) 0x0A 0 →
    s.unselected (0x3600 + e) 0x0A 2 →
    exec (.canFrameReceived t e f) s = .next (((s.advance t).nextFresh.canCounted e
      { s.can e with rxErr := (s.can e).rxErr - 1,
                     state := canStateOf (s.can e).state (s.can e).tec ((s.can e).rxErr - 1) }).caused (0x3600 + e) 0x0B 0)) ∧
  (∀ s t (e : Fin 4) f, s.canWord e f.ident ≠ f.ident → exec (.canFrameReceived t e f) s = .next (s.advance t)) ∧
  (∀ s t (e : Fin 4) tec rx frame crc, s.canOn e = true → s.canListens e = false → s.inFlightSteps = [] →
    (∀ b k, (s.can e).transmit ≠ some (b, some k)) → s.unselected (0x3600 + e) 0x0A 2 →
    exec (.canError t e tec rx ⟨frame, crc⟩) s = .next (((s.advance t).setCan e
      { s.can e with tec := tec, rxErr := rx, state := canStateOf (s.can e).state tec rx
                     transmit := if frame && s.canOnce e then none else (s.can e).transmit }).caused (0x3600 + e) 0x0B 2)) ∧
  (∀ s t (e : Fin 4) tec rx crc, s.canOn e = true → s.canListens e = true → s.inFlightSteps = [] →
    (s.can e).transmit = none → s.unselected (0x3600 + e) 0x0A 2 →
    exec (.canError t e tec rx ⟨false, crc⟩) s = .next ((s.advance t).caused (0x3600 + e) 0x0B 2)) ∧
  (∀ s t (e : Fin 4), s.canOn e = true → s.inFlightSteps = [] → (s.can e).transmit = none →
    s.unselected (0x3600 + e) 0x0A 2 → s.unselected (0x3600 + e) 0x0A 3 →
    exec (.canBusOff t e) s = .next ((((s.advance t).setCan e { s.can e with state := .busOff }).caused (0x3600 + e) 0x0B 2).caused
      (0x3600 + e) 0x0B 3)) ∧
  ∀ s t (e : Fin 4) f tec rx frame crc, s.canOn e = false →
    exec (.canFrameReceived t e f) s = .next (s.advance t) ∧ exec (.canError t e tec rx ⟨frame, crc⟩) s = .next (s.advance t) ∧
    exec (.canBusOff t e) s = .next (s.advance t) ∧ exec (.canFrameTransmitted t e) s = .next (s.advance t))

/-- The enable command of an engine that takes a port: 0 LIN engine, 1 SENT receiver, 2 PWM capture unit. -/
def Sys2Proof.Machine.enableOf (t : Tk) (a : Accessor) (v : Nat) : Nat × Fin 8 → Instr
  | (0, l) => .linEnable t a l v
  | (1, r) => .sentEnable t a r v
  | (_, u) => .pwmEnable t a u v

/-- LIN engines, SENT receivers and PWM capture units take their port when they are enabled, if the session holds it and
no other engine has it, and let it go when they are disabled (R77, R225 to R227). Engines that receive, with no exchange
on them and no result queue (R225 to R227, R230): a LIN header waits for its response; a LIN frame, its checksum right,
sets cause bit 1 where the engine published its response and bit 0 otherwise, a missing response of another node bit 3
with its count; a SENT frame after an accepted calibration pulse, with its CRC right (PRESUMED from SAE J2716, log entry
128), sets bit 0, a pulse that is not accepted bit 2 with its count; a PWM result stands in its object, with bit 0. -/
def Obligations.PortEnginesReceive : Prop :=
  ((∀ s t a (k : Fin 3) (n : Fin 8) c, TakesWrite s t a (0x3610 + 8 * k + n) 1 (natLe 1 1) c →
    c.written (natLe 1 1) = 1 → s.objN (0x3610 + 8 * k + n) 1 = 0 →
    (s.heard t a).claimAbort (s.sessionOf a) clsPort (s.objN (0x3610 + 8 * k + n) 2) = none →
    s.engineConflict (0x3610 + 8 * k + n) (s.objN (0x3610 + 8 * k + n) 2) = false →
    exec (enableOf t a 1 (k, n)) s = .next ((s.heard t a).answered
      (((s.heard t a).setObj (0x3610 + 8 * k + n) 1 1).settleOwners .enable))) ∧
  (∀ s t a (k : Fin 3) (n : Fin 8) c, TakesWrite s t a (0x3610 + 8 * k + n) 1 (natLe 1 1) c →
    c.written (natLe 1 1) = 1 → s.objN (0x3610 + 8 * k + n) 1 = 0 →
    (s.heard t a).claimAbort (s.sessionOf a) clsPort (s.objN (0x3610 + 8 * k + n) 2) = none →
    s.engineConflict (0x3610 + 8 * k + n) (s.objN (0x3610 + 8 * k + n) 2) = true →
    exec (enableOf t a 1 (k, n)) s = .next ((s.heard t a).refusedWith 0x0F010303)) ∧
  ∀ s t a (k : Fin 3) (n : Fin 8) c, TakesWrite s t a (0x3610 + 8 * k + n) 1 (natLe 1 0) c →
    c.written (natLe 1 0) = 0 → s.objN (0x3610 + 8 * k + n) 1 = 1 →
    (∀ h j, k = 0 → (s.lin n).header = some h → h.step = some j → (s.step j).ending = none) →
    exec (enableOf t a 0 (k, n)) s = .next ((s.heard t a).answered
      ((State.setObj (if k = 0 then (s.heard t a).setLin n {} else s.heard t a) (0x3610 + 8 * k + n) 1 0).settleOwners .disable))) ∧
  ((∀ s t start (l : Fin 8) ident, s.objN (0x3610 + l) 1 = 1 → s.objN (0x3610 + l) 3 = 1 →
    exec (.linHeaderReceived t start l ident) s = .next ((s.advance t).setLin l
      { header := some { ident := ident, start := start, step := none } })) ∧
  (∀ s t (l : Fin 8) f, s.objN (0x3610 + l) 1 = 1 → f.data.length ≤ 8 → f.checksum = 0 →
    (∀ h, (s.lin l).header = some h → h.step = none) → s.objN (0x3610 + l) 6 = 0xFFFFFFFF →
    s.unselected (0x3610 + l) 9 (if (s.linResponse l f.ident).isSome then 1 else 0) →
    exec (.linFrameReceived t l f) s = .next (((s.advance t).setLin l {}).caused (0x3610 + l) 0x0A
      (if (s.linResponse l f.ident).isSome then 1 else 0))) ∧
  (∀ s t (l : Fin 8) h, (s.lin l).header = some h → h.step = none → s.linResponse l h.ident = none →
    s.objN (0x3610 + l) 6 = 0xFFFFFFFF → fieldOf (s.objN (0x3610 + l) 8) 16 16 ≠ 65535 → s.unselected (0x3610 + l) 9 3 →
    exec (.linMissingResponse t l) s = .next (((((s.advance t).setLin l {}).nextFresh).setObj (0x3610 + l) 8
      (s.objN (0x3610 + l) 8 + 65536 : Nat)).caused (0x3610 + l) 0x0A 3)) ∧
  (∀ s t (r : Fin 8) f, s.objN (0x3618 + r) 1 = 1 → f.nibbles.length = fieldOf (s.objN (0x3618 + r) 4) 0 3 →
    s.calibrationOk r f.calibration = true → f.crc = sentCrc (bitOf (s.objN (0x3618 + r) 4) 6) f.nibbles →
    s.objN (0x3618 + r) 5 = 0xFFFFFFFF → s.inFlightSteps = [] → s.unselected (0x3618 + r) 7 0 →
    exec (.sentFrameReceived t r f) s = .next (((s.advance t).setSent r { lastCalibration := some f.calibration }).caused
      (0x3618 + r) 8 0)) ∧
  (∀ s t (r : Fin 8) f, s.objN (0x3618 + r) 1 = 1 → f.nibbles.length = fieldOf (s.objN (0x3618 + r) 4) 0 3 →
    s.calibrationOk r f.calibration = false → fieldOf (s.objN (0x3618 + r) 6) 0 16 ≠ 65535 → s.unselected (0x3618 + r) 7 2 →
    exec (.sentFrameReceived t r f) s = .next (((s.advance t).setObj (0x3618 + r) 6
      (s.objN (0x3618 + r) 6 + 1 : Nat)).caused (0x3618 + r) 8 2)) ∧
  (∀ s t (u : Fin 8) r, s.objN (0x3620 + u) 1 = 1 → 0 < r.period → r.period < 2 ^ 32 → r.high ≤ r.period →
    s.objN (0x3620 + u) 4 = 0xFFFFFFFF → s.inFlightSteps = [] → s.unselected (0x3620 + u) 6 0 →
    ∃ v, exec (.pwmResult t u r) s = .next v ∧ v.objs = (((s.setObj (0x3620 + u) 5
      (r.period + r.high * 2 ^ 32 : Nat)).caused (0x3620 + u) 7 0)).objs ∧ Changes [.now, .objs, .cores] s v) ∧
  ∀ s t (k : StepNo), stepKind s.runningImage k = 5 → exchangeClass (stepAction s.runningImage k) = 3 →
    (s.step k).stage = .inFlight → (s.step k).done = none → (s.step k).ending = none →
    exec (.protocolResponseTimeout t k) s = .next (
      if max s.now t < (s.step k).dispatchedAt + fieldLe (stepAction s.runningImage k) 4 4 * 4000 then s.advance t
      else (s.advance t).setStep k { s.step k with done := some 0x0A, stoppedAt := max s.now t }))

/-! ## Step cores: instructions -/

/-- What an instruction with its effect in its own core leaves: a register of the active bank with its value (or none), the
flags that follow a result (N, Z, and C and V where they change; or none), PC at the next word; everything else of the core,
the other bank, the other cores and the rest of the device as before (R257, R259, R266, R268). -/
structure Sys2Proof.Machine.State.CoreGoes (s u : State) (n : Nat) (rd : Option (Reg × Word))
    (flags : Option (Word × Option Bool × Option Bool)) : Prop where
  written : ∀ r v, rd = some (r, v) → (u.core n).reg r = v
  kept : ∀ r, (∀ v, rd ≠ some (r, v)) → (u.core n).reg r = (s.core n).reg r
  bank : ∀ r : Reg, isBanked r = true → (if (s.core n).flag flagFA then (u.core n).g.get r = (s.core n).g.get r
    else (u.core n).fast = (s.core n).fast)
  result : ∀ v cf vf, flags = some (v, cf, vf) → (u.core n).flag flagN = v.msb ∧ (u.core n).flag flagZ = (v == 0#32) ∧
    (u.core n).flag flagC = cf.getD ((s.core n).flag flagC) ∧ (u.core n).flag flagV = vf.getD ((s.core n).flag flagV)
  flagsKept : ∀ i, i < 32 → (4 ≤ i ∨ flags = none) → (u.core n).flag i = (s.core n).flag i
  next : (u.core n).pc = (s.core n).pc + 4#32
  rest : { u.core n with g := (s.core n).g, fast := (s.core n).fast, pc := (s.core n).pc, psr := (s.core n).psr } = s.core n
  others : ∀ m, m ≠ n → u.core m = s.core m
  frame : Changes [.now, .cores] s u

/-- The register forms of R269 with the value of their result, and the carry and overflow where they change them. -/
def Sys2Proof.Machine.registerForms (t : Tk) (c : CoreNo) (rd ra rb : Reg) (x y : Word) :
    List (Instr × Word × Word × Option Bool × Option Bool) :=
  let n := y.toNat % 32
  let last := fun (i : Nat) => if n = 0 then none else some (x.getLsbD i)
  [(.add t c rd ra rb, wordR 0x01 rd ra rb, x + y, some (decide (2 ^ 32 ≤ x.toNat + y.toNat)),
      some (decide (x.toInt + y.toInt < -2 ^ 31 ∨ 2 ^ 31 ≤ x.toInt + y.toInt))),
   (.sub t c rd ra rb, wordR 0x02 rd ra rb, x - y, some (decide (y.toNat ≤ x.toNat)),
      some (decide (x.toInt - y.toInt < -2 ^ 31 ∨ 2 ^ 31 ≤ x.toInt - y.toInt))),
   (.and t c rd ra rb, wordR 0x03 rd ra rb, x &&& y, none, none),
   (.or t c rd ra rb, wordR 0x04 rd ra rb, x ||| y, none, none),
   (.xor t c rd ra rb, wordR 0x05 rd ra rb, x ^^^ y, none, none),
   (.shl t c rd ra rb, wordR 0x06 rd ra rb, x <<< n, last (32 - n), none),
   (.shr t c rd ra rb, wordR 0x07 rd ra rb, x >>> n, last (n - 1), none),
   (.sar t c rd ra rb, wordR 0x08 rd ra rb, x.sshiftRight n, last (n - 1), none),
   (.mul t c rd ra rb, wordR 0x09 rd ra rb, BitVec.ofInt 32 (x.toInt * y.toInt), none, none),
   (.mulh t c rd ra rb, wordR 0x0A rd ra rb, BitVec.ofInt 32 (x.toInt * y.toInt / 2 ^ 32), none, none),
   (.mulhu t c rd ra rb, wordR 0x0B rd ra rb, BitVec.ofNat 32 (x.toNat * y.toNat / 2 ^ 32), none, none)]

/-- The divisions of R269, for a divisor that is not 0. -/
def Sys2Proof.Machine.divisionForms (t : Tk) (c : CoreNo) (rd ra rb : Reg) (x y : Word) : List (Instr × Word × Word) :=
  [(.div t c rd ra rb, wordR 0x0C rd ra rb, BitVec.ofInt 32 (x.toInt.tdiv y.toInt)),
   (.divu t c rd ra rb, wordR 0x0D rd ra rb, BitVec.ofNat 32 (x.toNat / y.toNat)),
   (.rem t c rd ra rb, wordR 0x0E rd ra rb, BitVec.ofInt 32 (x.toInt.tmod y.toInt))]

/-- The immediate forms of R269: `v` is the immediate with its sign, `z` with zeros, `k` a shift amount. -/
def Sys2Proof.Machine.immediateForms (t : Tk) (c : CoreNo) (rd ra : Reg) (imm : Imm16) (k : Fin 32) (x : Word) :
    List (Instr × Word × Word × Option Bool × Option Bool) :=
  let v := imm.signExtend 32
  let z := imm.zeroExtend 32
  let last := fun (i : Nat) => if k.val = 0 then none else some (x.getLsbD i)
  [(.addi t c rd ra imm, wordI 0x11 rd ra imm, x + v, some (decide (2 ^ 32 ≤ x.toNat + v.toNat)),
      some (decide (x.toInt + v.toInt < -2 ^ 31 ∨ 2 ^ 31 ≤ x.toInt + v.toInt))),
   (.andi t c rd ra imm, wordI 0x13 rd ra imm, x &&& z, none, none),
   (.ori t c rd ra imm, wordI 0x14 rd ra imm, x ||| z, none, none),
   (.xori t c rd ra imm, wordI 0x15 rd ra imm, x ^^^ z, none, none),
   (.shli t c rd ra k, wordI 0x16 rd ra (BitVec.ofNat 16 k), x <<< k.val, last (32 - k), none),
   (.shri t c rd ra k, wordI 0x17 rd ra (BitVec.ofNat 16 k), x >>> k.val, last (k - 1), none),
   (.sari t c rd ra k, wordI 0x18 rd ra (BitVec.ofNat 16 k), x.sshiftRight k, last (k - 1), none)]

/-- Arithmetic and logic of a core that executes the instruction: the result goes to rd, the flags follow it as R268
says, PC goes to the next word, and nothing else changes (R268, R269). The comparisons leave only the flags of a
difference (R268, R269). -/
def Obligations.CoreArithmeticAndCompares : Prop :=
  ((∀ s t (c : CoreNo) (rd ra rb : Reg), ∀ f ∈ registerForms t c rd ra rb ((s.core c).reg ra) ((s.core c).reg rb),
    s.executes t c f.2.1 → ∃ u, exec f.1 s = .next u ∧ (s.acting t c).CoreGoes u c (some (rd, f.2.2.1)) (some f.2.2)) ∧
  (∀ s t (c : CoreNo) (rd ra rb : Reg), (s.core c).reg rb ≠ 0#32 →
    ∀ f ∈ divisionForms t c rd ra rb ((s.core c).reg ra) ((s.core c).reg rb),
    s.executes t c f.2.1 → ∃ u, exec f.1 s = .next u ∧ (s.acting t c).CoreGoes u c (some (rd, f.2.2)) (some (f.2.2, none, none))) ∧
  (∀ s t (c : CoreNo) (rd ra : Reg) imm k, ∀ f ∈ immediateForms t c rd ra imm k ((s.core c).reg ra),
    s.executes t c f.2.1 → ∃ u, exec f.1 s = .next u ∧ (s.acting t c).CoreGoes u c (some (rd, f.2.2.1)) (some f.2.2)) ∧
  (∀ s t (c : CoreNo) (rd : Reg) (imm : Imm16), s.executes t c (wordI 0x20 rd 0 imm) →
    ∃ u, exec (.lui t c rd imm) s = .next u ∧ (s.acting t c).CoreGoes u c (some (rd, imm.zeroExtend 32 <<< 16)) none) ∧
  (∀ s t (c : CoreNo), s.executes t c (wordR 0x45 0 0 0) →
    ∃ u, exec (.nop t c) s = .next u ∧ (s.acting t c).CoreGoes u c none none)) ∧
  ((∀ s t (c : CoreNo) (ra rb : Reg) x y, (s.core c).reg ra = x → (s.core c).reg rb = y →
    s.executes t c (wordR 0x0F 0 ra rb) → ∃ u, exec (.cmp t c ra rb) s = .next u ∧
      (s.acting t c).CoreGoes u c none (some (x - y, some (decide (y.toNat ≤ x.toNat)),
        some (decide (x.toInt - y.toInt < -2 ^ 31 ∨ 2 ^ 31 ≤ x.toInt - y.toInt))))) ∧
  ∀ s t (c : CoreNo) (ra : Reg) (imm : Imm16) x y, (s.core c).reg ra = x → imm.signExtend 32 = y →
    s.executes t c (wordI 0x1F 0 ra imm) → ∃ u, exec (.cmpi t c ra imm) s = .next u ∧
      (s.acting t c).CoreGoes u c none (some (x - y, some (decide (y.toNat ≤ x.toNat)),
        some (decide (x.toInt - y.toInt < -2 ^ 31 ∨ 2 ^ 31 ≤ x.toInt - y.toInt)))))

/-- The loads of R270 with their size, and how they extend the value they read. -/
def Sys2Proof.Machine.loadForms (t : Tk) (c : CoreNo) (rd ra : Reg) (imm : Imm16) :
    List (Instr × Word × Nat × (Nat → Word)) :=
  [(.ldw t c rd ra imm, wordI 0x21 rd ra imm, 4, BitVec.ofNat 32),
   (.ldh t c rd ra imm, wordI 0x22 rd ra imm, 2, fun v => (BitVec.ofNat 16 v).signExtend 32),
   (.ldhu t c rd ra imm, wordI 0x23 rd ra imm, 2, BitVec.ofNat 32),
   (.ldb t c rd ra imm, wordI 0x24 rd ra imm, 1, fun v => (BitVec.ofNat 8 v).signExtend 32),
   (.ldbu t c rd ra imm, wordI 0x25 rd ra imm, 1, BitVec.ofNat 32)]

/-- The stores of R270 with their size. -/
def Sys2Proof.Machine.storeForms (t : Tk) (c : CoreNo) (rd ra : Reg) (imm : Imm16) : List (Instr × Word × Nat) :=
  [(.stw t c rd ra imm, wordI 0x26 rd ra imm, 4), (.sth t c rd ra imm, wordI 0x27 rd ra imm, 2),
   (.stb t c rd ra imm, wordI 0x28 rd ra imm, 1)]

/-- Loads and stores at an aligned address that the core reaches (R260, R270): a load writes its register alone and no
memory; a store writes the bytes from its address on, and every other byte of memory stays; XCHG does both. A word of
local memory that ECC cannot correct raises an exception instead; one that it corrects is corrected by the read (R261,
R287). -/
def Obligations.CoreMemory : Prop :=
  (∀ s t (c : CoreNo) (rd ra : Reg) imm a m, ((s.core c).reg ra + imm.signExtend 32).toNat = a →
    ∀ f ∈ loadForms t c rd ra imm, s.executes t c f.2.1 → a % f.2.2.1 = 0 →
    (s.acting t c).dataAddress c a f.2.2.1 = some m → (s.acting t c).badWord m f.2.2.1 = none →
    ∃ u, exec f.1 s = .next u ∧ ((s.acting t c).afterRead m f.2.2.1).CoreGoes u c
      (some (rd, f.2.2.2 (leNat ((s.acting t c).eccBytes m f.2.2.1)))) none) ∧
  (∀ s t (c : CoreNo) (rd ra : Reg) imm a m, ((s.core c).reg ra + imm.signExtend 32).toNat = a →
    ∀ f ∈ storeForms t c rd ra imm, s.executes t c f.2.1 → a % f.2.2 = 0 →
    (s.acting t c).dataAddress c a f.2.2 = some m →
    ∃ u, exec f.1 s = .next u ∧
      (s.acting t c).CoreGoes { u with mem := s.mem, flips := (s.acting t c).flips } c none none ∧
      u.readBytes m f.2.2 = natLe f.2.2 ((s.core c).reg rd).toNat ∧ u.flippedIn m f.2.2 = [] ∧
      ∀ x, x < m ∨ m + f.2.2 ≤ x → u.readByte x = s.readByte x) ∧
  ∀ s t (c : CoreNo) (rd ra rb : Reg) a m, ((s.core c).reg ra).toNat = a → s.executes t c (wordR 0x29 rd ra rb) →
    a % 4 = 0 → (s.acting t c).dataAddress c a 4 = some m → (s.acting t c).badWord m 4 = none →
    ∃ u, exec (.xchg t c rd ra rb) s = .next u ∧
      ((s.acting t c).afterRead m 4).CoreGoes
        { u with mem := s.mem, flips := ((s.acting t c).afterRead m 4).flips } c
        (some (rd, BitVec.ofNat 32 (leNat ((s.acting t c).eccBytes m 4)))) none ∧
      u.readBytes m 4 = natLe 4 ((s.core c).reg rb).toNat ∧ ∀ x, x < m ∨ m + 4 ≤ x → u.readByte x = s.readByte x

/-- Branches and jumps to an address that does not end the program (R271, R272): B counts in words from itself and goes
on when its condition does not hold, CALL and JALR leave the return address, JALR reading ra first. A jump to the end
address ends a program: the core stops with its registers, and its object has G0 (R291, R292). -/
def Obligations.CoreControl : Prop :=
  ((∀ s t (c : CoreNo) cond off, s.executes t c (wordB cond off) → (s.core c).holds cond = true →
    (s.core c).pc + 4#32 * off.signExtend 32 ≠ endAddress →
    exec (.b t c cond off) s = .next ((s.acting t c).setCore c
      { s.core c with pc := (s.core c).pc + 4#32 * off.signExtend 32 })) ∧
  (∀ s t (c : CoreNo) cond off, s.executes t c (wordB cond off) → (s.core c).holds cond = false →
    exec (.b t c cond off) s = .next ((s.acting t c).setCore c { s.core c with pc := (s.core c).pc + 4#32 })) ∧
  (∀ s t (c : CoreNo) off, s.executes t c (wordJ off) → (s.core c).pc + 4#32 * off.signExtend 32 ≠ endAddress →
    exec (.call t c off) s = .next ((s.acting t c).setCore c
      { s.core c with g := (s.core c).g.set 15 ((s.core c).pc + 4#32), pc := (s.core c).pc + 4#32 * off.signExtend 32 })) ∧
  (∀ s t (c : CoreNo) (ra : Reg), s.executes t c (wordR 0x32 0 ra 0) → (s.core c).reg ra ≠ endAddress →
    exec (.jr t c ra) s = .next ((s.acting t c).setCore c { s.core c with pc := (s.core c).reg ra })) ∧
  ∀ s t (c : CoreNo) (rd ra : Reg), s.executes t c (wordR 0x33 rd ra 0) → (s.core c).reg ra ≠ endAddress →
    exec (.jalr t c rd ra) s = .next ((s.acting t c).setCore c
      { (s.core c).setReg rd ((s.core c).pc + 4#32) with pc := (s.core c).reg ra })) ∧
  (∀ s t (c : CoreNo) (ra : Reg), s.executes t c (wordR 0x32 0 ra 0) → (s.core c).reg ra = endAddress →
    (s.core c).step = none → s.heldSources c = [] →
    exec (.jr t c ra) s = .next (((s.acting t c).setObj (0x2510 + c) 9 ((s.core c).g.get 0).toNat).setCore c
      { s.core c with wait := none, normalEvent := none, fastEvent := none, sess := 255, stage := .stopped }))

/-- What an exception leaves, in a core without a step and without events (R288): the core stops with its registers and PC
as they were before the instruction; its object has the code, PC, the address and G0. -/
structure Sys2Proof.Machine.State.Excepted (s u : State) (n code addr : Nat) : Prop where
  core : u.core n = { s.core n with wait := none, normalEvent := none, fastEvent := none, step := none, stage := .exception }
  others : ∀ m, m ≠ n → u.core m = s.core m
  code : u.obj (0x2510 + n) 6 = code
  pc : u.obj (0x2510 + n) 7 = (s.core n).pc.toNat
  address : u.obj (0x2510 + n) 8 = addr
  g0 : u.obj (0x2510 + n) 9 = ((s.core n).g.get 0).toNat
  frame : Changes [.now, .cores, .objs, .log] s u

/-- Special registers and returns (R257, R258, R286): MFS reads a listed register; MTS writes one, PSR but for its
handler bits, handler addresses as multiples of 4; RETI restores from the fast registers inside a fast handler, from the
normal ones inside a normal handler, where it waits for a fast delivery that is committed before it (R317). The
exceptions of R287 in such a core: 1 a word that is no instruction, an unlisted special register, RETI outside a
handler; 2 a misaligned and 3 an unreachable data address; 4 a fetch fault; 5 a divisor of 0; 6 a word of local memory
that ECC cannot correct; 7 TRAP with its immediate. -/
def Obligations.CoreSystemAndExceptions : Prop :=
  ((∀ s t (c : CoreNo) (rd : Reg) (imm : Imm16) v, s.executes t c (wordI 0x40 rd 0 imm) →
    (s.acting t c).specialRead c imm.toNat = some v →
    ∃ u, exec (.mfs t c rd imm) s = .next u ∧ (s.acting t c).CoreGoes u c (some (rd, v)) none) ∧
  (∀ s t (c : CoreNo) (ra : Reg), s.executes t c (wordI 0x41 0 ra 0) →
    exec (.mts t c 0 ra) s = .next ((s.acting t c).setCore c { s.core c with
      pc := (s.core c).pc + 4#32
      psr := ((s.core c).psr &&& 0xC0#32) ||| ((s.core c).reg ra &&& 0x3F#32) })) ∧
  (∀ s t (c : CoreNo) (ra : Reg), s.executes t c (wordI 0x41 0 ra 7) →
    exec (.mts t c 7 ra) s = .next ((s.acting t c).setCore c { s.core c with
      pc := (s.core c).pc + 4#32
      nvec := (s.core c).reg ra &&& 0xFFFFFFFC#32 })) ∧
  (∀ s t (c : CoreNo), s.executes t c (wordR 0x42 0 0 0) → (s.core c).flag flagFA = true →
    exec (.reti t c) s = .next ((s.acting t c).setCore c { s.core c with pc := (s.core c).fepc, psr := (s.core c).fepsr })) ∧
  (∀ s t (c : CoreNo), s.executes t c (wordR 0x42 0 0 0) → (s.core c).flag flagFA = false → (s.core c).flag flagNA = true →
    (s.core c).fastEvent.isSome = true → (s.core c).flag flagFE = true → exec (.reti t c) s = .next (s.acting t c)) ∧
  ∀ s t (c : CoreNo), s.executes t c (wordR 0x42 0 0 0) → (s.core c).flag flagFA = false → (s.core c).flag flagNA = true →
    (s.core c).epsr.getLsbD flagNE = false → (s.core c).fastEvent = none ∨ (s.core c).flag flagFE = false →
    exec (.reti t c) s = .next ((s.acting t c).setCore c { s.core c with pc := (s.core c).epc, psr := (s.core c).epsr })) ∧
  (∀ s t (c : CoreNo), (s.core c).step = none → s.heldSources c = [] →
    (∀ w, (s.core c).runs = true → (s.advance t).fetch c (s.core c).pc = some w → legalWord w = false →
      ∃ u, exec (.illegalInstruction t c) s = .next u ∧ (s.acting t c).Excepted u c 1 w.toNat) ∧
    (∀ (rd : Reg) (imm : Imm16), s.executes t c (wordI 0x40 rd 0 imm) → (s.acting t c).specialRead c imm.toNat = none →
      ∃ u, exec (.mfs t c rd imm) s = .next u ∧ (s.acting t c).Excepted u c 1 (wordI 0x40 rd 0 imm).toNat) ∧
    (s.executes t c (wordR 0x42 0 0 0) → (s.core c).flag flagFA = false → (s.core c).flag flagNA = false →
      ∃ u, exec (.reti t c) s = .next u ∧ (s.acting t c).Excepted u c 1 (wordR 0x42 0 0 0).toNat) ∧
    (∀ (rd ra : Reg) imm a, ((s.core c).reg ra + imm.signExtend 32).toNat = a →
      (∀ f ∈ loadForms t c rd ra imm, s.executes t c f.2.1 → a % f.2.2.1 ≠ 0 →
        ∃ u, exec f.1 s = .next u ∧ (s.acting t c).Excepted u c 2 a) ∧
      (∀ f ∈ loadForms t c rd ra imm, ∀ m w, s.executes t c f.2.1 → a % f.2.2.1 = 0 →
        (s.acting t c).dataAddress c a f.2.2.1 = some m → (s.acting t c).badWord m f.2.2.1 = some w →
        ∃ u, exec f.1 s = .next u ∧ (s.acting t c).Excepted u c 6 (a + w - m)) ∧
      (∀ f ∈ storeForms t c rd ra imm, s.executes t c f.2.1 → a % f.2.2 = 0 →
        (s.acting t c).dataAddress c a f.2.2 = none →
        ∃ u, exec f.1 s = .next u ∧ (s.acting t c).Excepted u c 3 a)) ∧
    ((s.core c).runs = true → (s.advance t).fetch c (s.core c).pc = none →
      ∃ u, exec (.fetchFault t c) s = .next u ∧ s.Excepted u c
        (if (s.core c).pc.toNat % 4 = 0 ∧ (s.core c).pc.toNat + 4 ≤ 0x100000 then 6 else 4) (s.core c).pc.toNat) ∧
    (∀ rd ra rb : Reg, (s.core c).reg rb = 0#32 → ∀ f ∈ divisionForms t c rd ra rb ((s.core c).reg ra) 0#32,
      s.executes t c f.2.1 → ∃ u, exec f.1 s = .next u ∧ (s.acting t c).Excepted u c 5 0) ∧
    ∀ imm : Imm16, s.executes t c (wordI 0x43 0 0 imm) →
      ∃ u, exec (.trap t c imm) s = .next u ∧ (s.acting t c).Excepted u c 7 imm.toNat)

/-! ## Step cores: device instructions, handlers and the core object -/

/-- A device instruction that succeeds in its own core: V is 0, OST is 0, PC goes to the next word (R275). -/
def Sys2Proof.Machine.Core.done (c : Core) : Core :=
  { c with psr := putFlag c.psr flagV false, ost := 0#32, pc := c.pc + 4#32 }

/-- A device instruction that is refused: V is 1, OST is the abort code, PC goes to the next word (R275). -/
def Sys2Proof.Machine.Core.denied (c : Core) (code : Nat) : Core :=
  { c with psr := putFlag c.psr flagV true, ost := BitVec.ofNat 32 code, pc := c.pc + 4#32 }

/-- ODR and ODW (R274 to R277): ODR writes the value that it reads to rd; an operand word without an object is refused,
and rd keeps its value; ODW of a high word only fills the staging register; ODW of an object takes the checks of a write
by the session of the core, and a refused one changes the core alone. -/
def Obligations.CoreReadsAndWritesObjects : Prop :=
  (∀ s t (c : CoreNo) (rd ra : Reg) (imm : Imm16) w k v, s.executes t c (wordI 0x50 rd ra imm) →
    (s.core c).reg ra + imm.zeroExtend 32 = w → (s.acting t c).coreReads c w = .ok (k, v) →
    exec (.odr t c rd ra imm) s = .next ((s.acting t c).setCore c (k.setReg rd v).done)) ∧
  (∀ s t (c : CoreNo) (rd ra : Reg) (imm : Imm16) w, s.executes t c (wordI 0x50 rd ra imm) →
    (s.core c).reg ra + imm.zeroExtend 32 = w → operandOk w = true → cardsOf (operandIndex w) = none →
    exec (.odr t c rd ra imm) s = .next ((s.acting t c).setCore c ((s.core c).denied 0x06020000))) ∧
  (∀ s t (c : CoreNo) (ra rb : Reg) k, s.executes t c (wordR 0x51 0 ra rb) →
    operandCard ((s.core c).reg rb) = .ok k → operandPart ((s.core c).reg rb) = 1 →
    exec (.odw t c ra rb) s = .next ((s.acting t c).setCore c { (s.core c).done with staging := (s.core c).reg ra })) ∧
  (∀ s t (c : CoreNo) (ra rb : Reg) k u, s.executes t c (wordR 0x51 0 ra rb) →
    operandCard ((s.core c).reg rb) = .ok k → operandPart ((s.core c).reg rb) = 0 → k.ty.size ≠ 8 →
    (s.acting t c).corePuts c k (operandIndex ((s.core c).reg rb)) (operandSub ((s.core c).reg rb)) ((s.core c).reg ra) = .ok u →
    u.core c = s.core c → exec (.odw t c ra rb) s = .next (u.setCore c (s.core c).done)) ∧
  ∀ s t (c : CoreNo) (ra rb : Reg) k code, s.executes t c (wordR 0x51 0 ra rb) →
    operandCard ((s.core c).reg rb) = .ok k → operandPart ((s.core c).reg rb) = 0 → k.ty.size ≠ 8 →
    (s.acting t c).corePuts c k (operandIndex ((s.core c).reg rb)) (operandSub ((s.core c).reg rb)) ((s.core c).reg ra) =
      .error { code := code, after := none } →
    exec (.odw t c ra rb) s = .next ((s.acting t c).setCore c ((s.core c).denied code))

/-- QPUT and QGET with a record in local memory (R278, R279): the record is read, with what ECC corrects in it, and
offered to the queue with the core's tag, and a refusal goes to OST; a word of it that ECC cannot correct raises
exception 6 (R261, R287); the oldest entry of a queue goes to the record, and an empty queue sets Z. -/
def Obligations.CoreQueues : Prop :=
  (∀ s t (c : CoreNo) (ra rb : Reg) a, s.executes t c (wordR 0x52 0 ra rb) → ((s.core c).reg rb).toNat = a →
    a % 32 = 0 → a + 32 ≤ 0x100000 → (s.acting t c).badWord (localBase c + a) 32 = none →
    s.queue ((s.core c).reg ra).toNat = none →
    exec (.qput t c ra rb) s = .next (((s.acting t c).afterRead (localBase c + a) 32).setCore c
      ((s.core c).denied 0x06090030))) ∧
  (∀ s t (c : CoreNo) (ra rb : Reg) a u code, s.executes t c (wordR 0x52 0 ra rb) → ((s.core c).reg rb).toNat = a →
    a % 32 = 0 → a + 32 ≤ 0x100000 → (s.acting t c).badWord (localBase c + a) 32 = none →
    ((s.acting t c).afterRead (localBase c + a) 32).userEntry (s.core c).sess ((s.core c).reg ra).toNat
      { stamp := max s.now t, tag := 0x0410 + c.val, kind := leNat (sliceBytes (s.readBytes (localBase c + a) 32) 10 1),
        flags := leNat (sliceBytes (s.readBytes (localBase c + a) 32) 11 1),
        payload := (s.readBytes (localBase c + a) 32).drop 16 } = (u, code) → u.core c = s.core c →
    exec (.qput t c ra rb) s = .next (u.setCore c (if code = 0 then (s.core c).done else (s.core c).denied code))) ∧
  (∀ s t (c : CoreNo) (ra rb : Reg) a w, s.executes t c (wordR 0x52 0 ra rb) → ((s.core c).reg rb).toNat = a →
    a % 32 = 0 → a + 32 ≤ 0x100000 → (s.acting t c).badWord (localBase c + a) 32 = some w →
    (s.core c).step = none → s.heldSources c = [] →
    ∃ u, exec (.qput t c ra rb) s = .next u ∧ (s.acting t c).Excepted u c 6 (w - localBase c)) ∧
  (∀ s t (c : CoreNo) (ra rb : Reg) a q, s.executes t c (wordR 0x53 0 ra rb) → ((s.core c).reg rb).toNat = a →
    a % 32 = 0 → a + 32 ≤ 0x100000 → s.getAbort (s.core c).sess ((s.core c).reg ra).toNat = .ok q → q.entries = [] →
    exec (.qget t c ra rb) s = .next ((s.acting t c).setCore c ((s.core c).setFlag flagZ true).done)) ∧
  (∀ s t (c : CoreNo) (ra rb : Reg) a q e r, s.executes t c (wordR 0x53 0 ra rb) → ((s.core c).reg rb).toNat = a →
    a % 32 = 0 → a + 32 ≤ 0x100000 → s.getAbort (s.core c).sess ((s.core c).reg ra).toNat = .ok q → q.entries = e :: r →
    isEventQueue ((s.core c).reg ra).toNat = false →
    ∃ u, exec (.qget t c ra rb) s = .next u ∧ u.core c = ((s.core c).setFlag flagZ false).done ∧
      u.mem = (s.writeBytes (localBase c + a) e.bytes).mem ∧
      (u.queue ((s.core c).reg ra).toNat).map (·.read) = some (addWrap 32 q.read 1) ∧
      Changes [.cores, .mem, .flips, .queues] (s.acting t c) u) ∧
  ∀ s t (c : CoreNo) (ra rb : Reg), s.executes t c (wordR 0x53 0 ra rb) → ((s.core c).reg rb).toNat % 32 ≠ 0 →
    (s.core c).step = none → s.heldSources c = [] →
    ∃ u, exec (.qget t c ra rb) s = .next u ∧ (s.acting t c).Excepted u c 2 ((s.core c).reg rb).toNat

/-- WAITE stops the core until an event or its deadline, after which rd is all ones and Z is 1 (R280); a delivery that
is committed when it executes ends it at once, with the source in rd (DEDUCED, log entry 44); ECMP completes an event
that the core serves, or is counted as an error, with its value (R281, R318). BREQ outside a step is refused; in one it
reserves what the bucket holds and gives the bucket (R282). TSR reads the counter, and its high word from the snapshot
of the low one (R283). -/
def Obligations.CoreWaitsAndBudget : Prop :=
  ((∀ s t (c : CoreNo) (rd ra : Reg), s.executes t c (wordR 0x54 rd ra 0) → (s.core c).fastEvent = none →
    (s.core c).normalEvent = none → exec (.waite t c rd ra) s = .next (State.settleSources
      ((s.acting t c).setCore c { s.core c with
        pc := (s.core c).pc + 4#32, stage := .waiting,
        wait := some ((s.core c).stage, rd, if (s.core c).reg ra = 0#32 then none
          else some (max s.now t + ((s.core c).reg ra).toNat * 4000)) }))) ∧
  (∀ s t (c : CoreNo) (rd ra : Reg) x, s.executes t c (wordR 0x54 rd ra 0) → (s.core c).fastEvent = some x →
    (s.core c).flag flagFE = true → (s.core c).flag flagFA = false →
    exec (.waite t c rd ra) s = .next ((s.acting t c).setCore c
      { ((s.core c).setReg rd (BitVec.ofNat 32 x)).setFlag flagZ false with
        pc := (s.core c).pc + 4#32, wait := none, fastEvent := some x })) ∧
  (∀ s t (c : CoreNo) (rd ra : Reg), s.executes t c (wordR 0x54 rd ra 0) → s.sources = [] →
    (s.core c).fastEvent = none → (s.core c).normalEvent = none →
    exec (.waite t c rd ra) s = .next ((s.acting t c).setCore c { s.core c with
      pc := (s.core c).pc + 4#32, stage := .waiting,
      wait := some ((s.core c).stage, rd, if (s.core c).reg ra = 0#32 then none
        else some (max s.now t + ((s.core c).reg ra).toNat * 4000)) })) ∧
  (∀ s t (c : CoreNo) back rd d, (s.core c).stage = .waiting → (s.core c).wait = some (back, rd, some d) →
    exec (.waiteTimeout t c) s = .next (if d ≤ max s.now t then (s.advance t).setCore c
      { ((s.core c).setReg rd 0xFFFFFFFF#32).setFlag flagZ true with wait := none, stage := back } else s.advance t)) ∧
  (∀ s t (c : CoreNo) (ra : Reg) v, s.executes t c (wordR 0x55 0 ra 0) → ((s.core c).reg ra).toNat = v → v < 512 →
    (s.source v).stage = .service → (s.source v).holder = some c.val →
    exec (.ecmp t c ra) s = .next (((s.acting t c).completeSource v).setCore c (((s.acting t c).completeSource v).core c).next)) ∧
  (∀ s t (c : CoreNo) (ra : Reg) v, s.executes t c (wordR 0x55 0 ra 0) → ((s.core c).reg ra).toNat = v → v < 512 →
    (s.source v).stage = .service → (s.source v).holder = some c.val → (s.source v).pending = 0 → (s.source v).level = false →
    exec (.ecmp t c ra) s = .next (((s.acting t c).setSource v { s.source v with
      stage := .idle, holder := none, risen := max (s.source v).risen (max s.now t) }).setCore c
        { s.core c with pc := (s.core c).pc + 4#32 })) ∧
  (∀ s t (c : CoreNo) (ra : Reg) v, s.executes t c (wordR 0x55 0 ra 0) → ((s.core c).reg ra).toNat = v → v < 512 →
    (s.source v).stage ≠ .service ∨ (s.source v).holder ≠ some c.val →
    exec (.ecmp t c ra) s = .next ((((s.acting t c).countUp 0x2400 3).setObj 0x2400 4 (v + c.val * 65536 : Nat)).setCore c
      { s.core c with pc := (s.core c).pc + 4#32 })) ∧
  ∀ s t (c : CoreNo) (ra : Reg), s.executes t c (wordR 0x55 0 ra 0) → 512 ≤ ((s.core c).reg ra).toNat →
    (s.core c).step = none → s.heldSources c = [] →
    ∃ u, exec (.ecmp t c ra) s = .next u ∧ (s.acting t c).Excepted u c 1 (wordR 0x55 0 ra 0).toNat) ∧
  ((∀ s t (c : CoreNo) (rd ra : Reg), s.executes t c (wordR 0x56 rd ra 0) → (s.core c).step = none →
    exec (.breq t c rd ra) s = .next ((s.acting t c).setCore c ((s.core c).denied 0x0F010A03))) ∧
  (∀ s t (c : CoreNo) (rd ra : Reg) k (n : Nat), s.executes t c (wordR 0x56 rd ra 0) → (s.core c).step = some k →
    ((s.core c).reg ra).toNat = n → 0 < n → (n : Int) ≤ s.gov.bucket → s.gov.bucket - (n : Int) < 2 ^ 31 →
    ∃ u, exec (.breq t c rd ra) s = .next u ∧ u.gov = { s.gov with bucket := s.gov.bucket - (n : Int), reserved := s.gov.reserved + n } ∧
      u.step k = { s.step k with extra := (s.step k).extra + n } ∧
      u.core c = (((s.core c).setReg rd (BitVec.ofInt 32 (s.gov.bucket - (n : Int)))).setFlag flagZ false).done ∧
      Changes [.gov, .disp, .cores] (s.acting t c) u) ∧
  (∀ s t (c : CoreNo) (rd ra : Reg) k (n : Nat), s.executes t c (wordR 0x56 rd ra 0) → (s.core c).step = some k →
    ((s.core c).reg ra).toNat = n → 0 < n → s.gov.bucket < (n : Int) → 0 ≤ s.gov.bucket → s.gov.bucket < 2 ^ 31 →
    exec (.breq t c rd ra) s = .next ((s.acting t c).setCore c
      (((s.core c).setReg rd (BitVec.ofInt 32 s.gov.bucket)).setFlag flagZ true).done)) ∧
  (∀ s t (c : CoreNo) (rd : Reg), s.executes t c (wordI 0x57 rd 0 0) →
    exec (.tsr t c rd 0) s = .next ((s.acting t c).setCore c { (s.core c).setReg rd (BitVec.ofNat 32 (max s.now t)) with
      pc := (s.core c).pc + 4#32, tsr := some (BitVec.ofNat 32 (max s.now t / 2 ^ 32)) })) ∧
  ∀ s t (c : CoreNo) (rd : Reg) v, s.executes t c (wordI 0x57 rd 0 1) → (s.core c).tsr = some v →
    exec (.tsr t c rd 1) s = .next ((s.acting t c).setCore c { (s.core c).setReg rd v with pc := (s.core c).pc + 4#32 }))

/-- A committed delivery is taken between instructions of a core that runs with its class enabled: the handler address
is in PC, PC and PSR are saved, the source is named, and the flags say that the handler runs (R284, R285); otherwise it
waits. The core object (R261, R290, R292, R297): a start begins a program of the session at its entry address, with G1
its argument, G14 the end of local memory and G15 the end address, in memory that another session has not left; a stop
keeps the registers, a reset does not; local memory takes bytes at rest; core 0 refuses all of them. SC0 looks at the
scrubber: with an advance in the last 100 ms, or a reset (DEDUCED, log entry 63), nothing happens; after that it resets
the scrubber, its settings from the Cellar, and counts and logs the stall (R295, R434). -/
def Obligations.CoresAreSupervised : Prop :=
  ((∀ s t (c : CoreNo) x, (s.core c).normalEvent = some x → (s.core c).runs = true → (s.core c).flag flagNE = true →
    (s.core c).flag flagNA = false → (s.core c).flag flagFA = false →
    exec (.normalEntry t c) s = .next ((s.advance t).setCore c { s.core c with
      epc := (s.core c).pc, epsr := (s.core c).psr, esrc := BitVec.ofNat 32 x, pc := (s.core c).nvec, normalEvent := none,
      psr := putFlag (putFlag (s.core c).psr flagNE false) flagNA true })) ∧
  (∀ s t (c : CoreNo) x, (s.core c).fastEvent = some x → (s.core c).runs = true → (s.core c).flag flagFE = true →
    (s.core c).flag flagFA = false →
    exec (.fastEntry t c) s = .next ((s.advance t).setCore c { s.core c with
      fepc := (s.core c).pc, fepsr := (s.core c).psr, fsrc := BitVec.ofNat 32 x, pc := (s.core c).fvec, fastEvent := none,
      psr := putFlag (putFlag (putFlag (s.core c).psr flagNE false) flagFE false) flagFA true })) ∧
  ∀ s t (c : CoreNo), (s.core c).flag flagFA = true →
    exec (.normalEntry t c) s = .next (s.advance t) ∧ exec (.fastEntry t c) s = .next (s.advance t)) ∧
  ((∀ s t a (c : CoreNo) k, TakesWrite s t a (0x2510 + c) 2 (natLe 1 1) k → k.written (natLe 1 1) = 1 → c ≠ 0 →
    (s.core c).stage = .stopped → (s.core c).lastSess = s.sessionOf a →
    ∃ x u, exec (.coreStart t a c) s = .next ((s.heard t a).answered u) ∧ u = (s.heard t a).setCore c x ∧
      x.stage = .program ∧ x.sess = s.sessionOf a ∧ x.step = none ∧
      x.pc = BitVec.ofNat 32 (s.objN (0x2510 + c) 3) ∧ x.psr = 0#32 ∧
      x.g.get 1 = BitVec.ofNat 32 (s.objN (0x2510 + c) 4) ∧ x.g.get 14 = 0x100000#32 ∧ x.g.get 15 = endAddress ∧
      x.g.get 0 = 0#32 ∧ x.g.get 2 = 0#32) ∧
  (∀ s t a (c : CoreNo) k, TakesWrite s t a (0x2510 + c) 2 (natLe 1 2) k → k.written (natLe 1 2) = 2 → c ≠ 0 →
    (s.core c).stage = .program → s.heldSources c = [] →
    exec (.coreStop t a c) s = .next ((s.heard t a).answered (((s.heard t a).setObj (0x2510 + c) 9
      ((s.core c).g.get 0).toNat).setCore c { s.core c with
        wait := none, normalEvent := none, fastEvent := none, sess := 255, step := none, stage := .stopped }))) ∧
  (∀ s t a (c : CoreNo) k, TakesWrite s t a (0x2510 + c) 2 (natLe 1 3) k → k.written (natLe 1 3) = 3 → c ≠ 0 →
    (s.core c).routine = false → s.heldSources c = [] →
    exec (.coreReset t a c) s = .next ((s.heard t a).answered
      ((s.heard t a).setCore c { lastSess := (s.core c).lastSess }))) ∧
  (∀ s t a (c : CoreNo) bytes k, TakesBytes s t a (0x2510 + c) 5 bytes k → c ≠ 0 → bytes.length % 4 = 0 →
    (s.core c).stage = .stopped →
    exec (.localMemoryWrite t a c bytes) s = .next ((s.heard t a).answered ((s.heard t a).eccWrite (localBase c) bytes))) ∧
  ∀ s t a k, TakesWrite s t a 0x2510 2 (natLe 1 1) k →
    exec (.coreStart t a 0) s = .next ((s.heard t a).refusedWith 0x0F010A01)) ∧
  ((∀ s t, max s.now t ≤ s.scrub.sweepStart + 400000000 →
    exec (.scrubberStallCheck t) s = .next (s.advance t)) ∧
  ∀ s t, s.scrubberRuns = true → s.scrub.sweepStart + 400000000 < max s.now t →
    (∀ r, s.scrub.lastReset = some r → r + 4000000000 < max s.now t) →
    ∃ u, exec (.scrubberStallCheck t) s = .next u ∧ u.scrub.lastReset = some (max s.now t) ∧ u.scrub.repair = none ∧
      Changes [.now, .objs, .convs, .disp, .sources, .trigOuts, .scrub, .log] s u)

/-! ## The event controller -/

/-- The due rule of R304 and R305 for a pending source: it is due when its count or its time has come, or when one of its
targets is idle. -/
def Sys2Proof.Machine.State.dueNow (s : State) (n now : Nat) : Bool :=
  decide (fieldOf (s.sourceConfig n) 4 4 ≤ (s.source n).pending) ||
  decide ((s.source n).first + fieldOf (s.sourceConfig n) 16 16 * 4000 ≤ now) || (s.targets n).any s.targetIdle

/-- The time limit makes a pending source due exactly when the due rule says so (R304, R305). A due source that no other
precedes is committed to its next eligible target (R306, R307). It is in service there with what was pending, its books
count the deliveries, and a core is told, or the event queue of a session takes its entry, after which a source that
does not sense its level is completed at once (R310, R314); without an eligible target it stays due. The level of a
level-sensed source in service falls: the source shows it, and the event is counted (R312), and nothing happens while
the level that R299 gives it is 1; a completion by the session that holds the source ends its service, one by anyone
else is counted as a stray (R310, R311). -/
def Obligations.EventsAreCommitted : Prop :=
  (∀ s t (n : SourceNo), s.counting = true → (s.source n).stage = .pending → 0 < (s.source n).pending →
    ∃ u, exec (.eventTimeLimit t n) s = .next u ∧
      (u.source n).stage = (if s.dueNow n (max s.now t) then .due else .pending) ∧
      (u.source n).pending = (s.source n).pending ∧ (u.source n).first = (s.source n).first ∧
      (∀ m, m ≠ n.val → u.source m = s.source m) ∧ Changes [.now, .sources] s u) ∧
  ((∀ s t (n : SourceNo) k, s.counting = true → (s.source n).stage = .due → (s.advance t).chosenTarget n = some k → k < 8 →
    (∀ m, (s.source m).stage = .due → m = n) →
    ∃ u, exec (.eventCommit t n) s = .next u ∧ (u.source n).stage = .service ∧ (u.source n).holder = some k ∧
      (u.source n).pending = 0 ∧ (u.source n).deliveredCount = (s.source n).pending ∧
      (u.source n).delivered = addWrap 32 (s.source n).delivered (s.source n).pending ∧ (u.source n).lastTarget = k ∧
      u.core k = (s.core k).receive n (s.sourceFast n) ∧ (∀ m, m ≠ n.val → u.source m = s.source m) ∧
      u.objs = (s.countUp 0x2400 7).objs ∧ Changes [.now, .objs, .cores, .sources] s u) ∧
  (∀ s t (n : SourceNo) k, s.counting = true → (s.source n).stage = .due → (s.advance t).chosenTarget n = some k → 8 ≤ k →
    (∀ m, (s.source m).stage = .due → m = n) →
    let u := (((s.advance t).serve n k).offerEntry (eventQueue (k - 8)) ((s.advance t).deliveryEntry n (k - 8))).1
    exec (.eventCommit t n) s = .next (if sensing (s.sourceConfig n) = 0 then u else u.completeSource n)) ∧
  ∀ s t (n : SourceNo), (s.advance t).chosenTarget n = none → exec (.eventCommit t n) s = .next (s.advance t)) ∧
  ((∀ s t (n : SourceNo), s.counting = true → (s.source n).level = true → sensing (s.sourceConfig n) = 0 →
    (s.source n).stage = .service → (s.advance t).presented n = false →
    exec (.levelVanished t n) s = .next (((s.advance t).setSource n { s.source n with level := false, vanished := true }).countUp
      0x2400 5)) ∧
  (∀ s t (n : SourceNo), (s.advance t).presented n = true → exec (.levelVanished t n) s = .next (s.advance t)) ∧
  (∀ s t a v (n : Nat) c, TakesWrite s t a 0x2401 2 (natLe 2 v) c → c.written (natLe 2 v) = (n : Nat) →
    (s.source n).stage = .service → (s.source n).holder = some (8 + s.sessionOf a) → (s.source n).pending = 0 →
    (s.source n).level = false →
    ∃ u, exec (.sessionCompletion t a v) s = .next ((s.heard t a).answered u) ∧ (u.source n).stage = .idle ∧
      (u.source n).holder = none ∧ (∀ m, m ≠ n → u.source m = s.source m) ∧ Changes [.sources] (s.heard t a) u) ∧
  ∀ s t a v (n : Nat) c, TakesWrite s t a 0x2401 2 (natLe 2 v) c → c.written (natLe 2 v) = (n : Nat) →
    (s.source n).stage ≠ .service →
    exec (.sessionCompletion t a v) s = .next ((s.heard t a).answered (((s.heard t a).countUp 0x2400 3).setObj 0x2400 4
      (n + (8 + s.sessionOf a) * 65536 : Nat))))

/-- Settings of the controller (R315, R319, R320, R324): a configuration with a count limit of 0, or of a reserved
source, is refused, as is core 0 as a target; a valid one is stored; a subscription to reserved sources is refused,
another is the session's own; books are captured at one instant. -/
def Obligations.ControllerSettings : Prop :=
  (∀ s t a (n : SourceNo) v c x, TakesWrite s t a (0x2410 + n / 128) (n % 128 + 1) (natLe 4 v) c →
    c.written (natLe 4 v) = (x : Nat) → sourceReserved n = false → fieldOf x 4 4 ≠ 0 → bitOf x 8 = false →
    ∃ u, exec (.sourceConfigurationWrite t a n v) s = .next ((s.heard t a).answered u) ∧ u.sourceConfig n = x ∧
      Changes [.objs, .sources] (s.heard t a) u) ∧
  (∀ s t a (n : SourceNo) v c x, TakesWrite s t a (0x2410 + n / 128) (n % 128 + 1) (natLe 4 v) c →
    c.written (natLe 4 v) = (x : Nat) → sourceReserved n = true ∨ fieldOf x 4 4 = 0 →
    exec (.sourceConfigurationWrite t a n v) s = .next ((s.heard t a).refusedWith 0x06090030)) ∧
  (∀ s t a (w : Fin 16) v c x, TakesWrite s t a 0x2401 (0x10 + w) (natLe 4 v) c → c.written (natLe 4 v) = (x : Nat) →
    (∀ b < 32, bitOf x b = true → sourceReserved (32 * w + b) = false) →
    ∃ u, exec (.subscriptionWrite t a w v) s = .next ((s.heard t a).answered u) ∧
      u.own (s.sessionOf a) 0x2401 (0x10 + w) = (x : Nat) ∧ Changes [.objs, .sources] (s.heard t a) u) ∧
  ∀ s t a v (n : Nat) c, TakesWrite s t a 0x2401 3 (natLe 2 v) c → c.written (natLe 2 v) = (n : Nat) →
    ∃ u, exec (.booksSelect t a v) s = .next ((s.heard t a).answered u) ∧
      u.own (s.sessionOf a) 0x2401 3 = (n : Nat) ∧ u.own (s.sessionOf a) 0x2401 4 = (max s.now t : Nat) ∧
      u.own (s.sessionOf a) 0x2401 5 = ((s.source n).arrived : Nat) ∧
      u.own (s.sessionOf a) 0x2401 6 = ((s.source n).delivered : Nat) ∧
      u.own (s.sessionOf a) 0x2401 7 = ((s.source n).pending : Nat) ∧
      u.own (s.sessionOf a) 0x2401 8 = ((s.source n).lost : Nat) ∧ Changes [.objs] (s.heard t a) u

/-! ## Timebase and outputs -/

/-- No request of a session waits behind another (R449), no session is about to end (R463), and no unbind is under way (R469). -/
def Sys2Proof.Machine.State.noWaiting (s : State) : Prop :=
  s.cycle.unbindAt = none ∧ ∀ n, (s.session n).waiting = [] ∧ (s.session n).ending = false

/-- The reference (R326 to R328, R330): its loss in a device that works, and has no such cause yet, begins holdover and
brings HOLD, and before the first lock it is counted and no more; the first lock moves the counter to a multiple of 40
and gives the calendar that the device was last told; holdover ends after 100 ms; lock shows in the timebase, and a lock
that has held for 10 ms ends the cause. -/
def Obligations.ReferenceAndLock : Prop :=
  (∀ s t edges, s.mode = .run ∨ s.mode = .idle → s.power.rstnLow = false → s.timebase.locked = true →
    s.timebase.everLocked = true → s.causePresent .referenceLost = false → s.noWaiting →
    ∃ u, exec (.referenceLost t edges) s = .next u ∧ u.mode = .hold ∧ u.timebase.locked = false ∧
      u.timebase.holdover = true ∧ u.timebase.present = edges ∧ u.timebase.lostAt = max s.now t ∧
      u.power.causes = s.power.causes ++ [.referenceLost] ∧ u.power.firstCause = some .referenceLost) ∧
  (∀ s t edges, s.ticks = true → s.timebase.everLocked = false → s.timebase.locked = false →
    s.unselected 0x2300 0x0B 0 →
    ∃ u, exec (.referenceLost t edges) s = .next u ∧ u.mode = s.mode ∧
      u.timebase = { s.timebase with present := edges } ∧ u.obj 0x2300 3 = addWrap 32 (s.objN 0x2300 3) 1 ∧
      Changes [.now, .objs, .timebase, .log] s u) ∧
  (∀ s t reading c, s.mode.working = true → s.power.rstnLow = false → s.timebase.locked = false →
    s.timebase.everLocked = false → s.timebase.calendarLost = false → s.timebase.calendar = some c →
    s.unselected 0x2300 0x0B 1 → s.unselected 0x2000 0x0D 3 →
    ∃ u, exec (.referenceLocked t reading) s = .next u ∧ u.now = nextGrid 0 40 (max s.now t) ∧ u.obj 0x2300 5 = c ∧
      u.timebase.locked = true ∧ u.timebase.everLocked = true ∧ u.timebase.lockedAt = u.now) ∧
  (∀ s t, s.timebase.locked = false → s.timebase.holdover = true →
    exec (.holdoverExpired t) s = .next (if s.timebase.lostAt + 400000000 ≤ max s.now t then
      { s.advance t with timebase := { s.timebase with holdover := false } } else s.advance t)) ∧
  (∀ s t calendar, s.mode.working = true → s.power.rstnLow = false → s.timebase.locked = false →
    s.timebase.everLocked = true → s.ready 9 = true →
    ∃ u, exec (.referenceLocked t calendar) s = .next u ∧ u.timebase = { s.timebase with
        locked := true, holdover := false, present := true, lockedAt := max s.now t } ∧
      Changes [.now, .objs, .convs, .disp, .sources, .timebase, .trigOuts, .log] s u) ∧
  ∀ s t, s.mode = .hold → s.causePresent .referenceLost = true → s.timebase.locked = true →
    s.timebase.lockedAt + 40000000 ≤ max s.now t →
    ∃ u, exec (.lockHeld t) s = .next u ∧ u.power.causes = s.power.causes.filter (· != .referenceLost) ∧ u.mode = .hold ∧
      Changes [.now, .objs, .convs, .disp, .sources, .trigOuts, .power] s u

/-- SYNC (R330, R336): the calendar takes a value; a command schedules an edge at the next multiple of 40 tk at least
400 tk away; an edge that comes drives the pulse and shows its instant, one that falls into a pulse is dropped with
cause bit 3; the pulse ends after its width. Trigger outputs (R337): a command waits as a request where the output takes
any; its timer asks again after a period; the oldest request raises the pin when its delay is over and the pulse before
it has ended; the pin falls after its width. -/
def Obligations.SyncAndTriggerOutputs : Prop :=
  ((∀ s t a v c x, TakesWrite s t a 0x2300 5 (natLe 8 v) c → c.written (natLe 8 v) = x →
    exec (.epochWrite t a v) s = .next ((s.heard t a).answered (State.setObj
      { s.heard t a with timebase := { s.timebase with calendarLost := false, calendar := some x } } 0x2300 5 (x.toNat : Nat)))) ∧
  (∀ s t a c, TakesWrite s t a 0x2300 7 (natLe 1 1) c → s.syncDrives = true →
    exec (.syncOutputCommand t a 1) s = .next ((s.heard t a).answered { s.heard t a with timebase := { s.timebase with
      syncEdges := insertTk (nextGrid 0 40 (max s.now t + 400)) s.timebase.syncEdges } })) ∧
  (∀ s t e r, s.timebase.syncEdges = e :: r → s.timebase.syncNext = none → e ≤ max s.now t → s.syncDrives = true →
    s.timebase.syncHigh = none → s.timebase.syncLowSince = none →
    ∃ u, exec (.syncOutputEdge t) s = .next u ∧ u.timebase.syncHigh = some (e + s.objN 0x2300 9) ∧
      u.timebase.syncEdges = r ∧
      Changes [.now, .objs, .ports, .pins, .convs, .chains, .disp, .sources, .timebase, .trigOuts, .queues] s u) ∧
  (∀ s t e r h, s.timebase.syncEdges = e :: r → s.timebase.syncNext = none → e ≤ max s.now t → s.syncDrives = true →
    s.timebase.syncHigh = some h → max s.now t < h → s.unselected 0x2300 0x0B 3 →
    exec (.syncOutputEdge t) s = .next (State.caused
      { s.advance t with timebase := { s.timebase with syncEdges := r } } 0x2300 0x0C 3)) ∧
  ∀ s t h, s.timebase.syncHigh = some h →
    exec (.syncPulseEnd t) s = .next (if max s.now t < h then s.advance t else
      State.followPin { s.advance t with timebase := { s.timebase with syncHigh := none, syncLowSince := some h } } syncPin)) ∧
  ((∀ s t a (o : Fin 4) c, TakesWrite s t a (0x2310 + o) 5 (natLe 1 1) c → c.written (natLe 1 1) = 1 →
    s.trigTakes o = true → (s.trigOut o).waiting.length < 4 →
    exec (.triggerOutputCommand t a o 1) s = .next ((s.heard t a).answered ((s.heard t a).setTrigOut o { s.trigOut o with
      waiting := insertTrigger { stamp := max s.now t, command := true, arrived := max s.now t } (s.trigOut o).waiting }))) ∧
  (∀ s t (o : Fin 4) e, (s.trigOut o).nextTimer = some e → e ≤ max s.now t → fieldOf (s.objN (0x2310 + o) 1) 12 2 = 3 →
    s.trigTakes o = true → (s.trigOut o).waiting.length < 4 →
    ∃ u, exec (.triggerOutputTimer t o) s = .next u ∧ u.trigOut o = { s.trigOut o with
        nextTimer := some (e + s.objN (0x2310 + o) 4)
        waiting := insertTrigger { stamp := e, command := false, arrived := max s.now t } (s.trigOut o).waiting } ∧
      (∀ p, p ≠ o.val → u.trigOut p = s.trigOut p) ∧ Changes [.now, .trigOuts] s u) ∧
  (∀ s t (o : Fin 4) x r, (s.trigOut o).waiting = x :: r → (s.trigOut o).highUntil = none → (s.trigOut o).lowSince = none →
    s.mode ≠ .hold → max (x.stamp + max (s.objN (0x2310 + o) 2) 400) x.arrived ≤ max s.now t →
    ∃ u, exec (.triggerOutputRise t o) s = .next u ∧
      (u.trigOut o).highUntil = some (max (x.stamp + max (s.objN (0x2310 + o) 2) 400) x.arrived + s.objN (0x2310 + o) 3) ∧
      Changes [.now, .objs, .ports, .pins, .convs, .disp, .sources, .timebase, .trigOuts, .queues] s u) ∧
  (∀ s t (o : Fin 4) x r, (s.trigOut o).waiting = x :: r → (s.trigOut o).highUntil = none → (s.trigOut o).lowSince = none →
    max s.now t < max (x.stamp + max (s.objN (0x2310 + o) 2) 400) x.arrived →
    exec (.triggerOutputRise t o) s = .next (s.advance t)) ∧
  ∀ s t (o : Fin 4) e, (s.trigOut o).highUntil = some e →
    exec (.triggerOutputFall t o) s = .next (if max s.now t < e then s.advance t else
      ((s.advance t).setTrigOut o { s.trigOut o with highUntil := none, lowSince := some e }).followPin (trigPin o)))

/-! ## Queues: Pantry and Larder -/

/-- Windows on queues (R344, R346, R364, R374): a create with fields in range, of a number without a queue, makes an
empty queue that the session holds, before the Larder is ready with enough share for its capacity, after that with
enough room in the Larder, and a second one is refused; settings change share and policy; a queue that nothing names is
deleted with its claim; a flush discards and counts every entry, a removal reads the oldest entries when it names the
front. -/
def Obligations.QueueWindows : Prop :=
  (∀ s t a (o : WindowOffset) v c x q, TakesWrite s t a (0x4000 + o) 2 (natLe 8 v) c → c.written (natLe 8 v) = (x : Nat) →
    s.windowQueue a (0x4000 + o) = q → createOk x = true → q < 0xFFF0 → s.queue q = none → s.pantry.larderReady = false →
    createCapacity x ≤ 128 * createShare x →
    exec (.queueCreate t a o v) s = .next ((s.heard t a).answered (((s.heard t a).setQueue q (some
      { capacity := createCapacity x, share := createShare x, policy := createPolicy x, larderBacked := false })).setHolder
      clsQueue q (some (s.sessionOf a))))) ∧
  (∀ s t a (o : WindowOffset) v c x q, TakesWrite s t a (0x4000 + o) 2 (natLe 8 v) c → c.written (natLe 8 v) = (x : Nat) →
    s.windowQueue a (0x4000 + o) = q → createOk x = true → q < 0xFFF0 ∨ 0xFFFF < q → s.queue q = none →
    s.pantry.larderReady = true → s.refs q = 0 →
    s.larderReserved + segmentsFor (createCapacity x) * 65536 ≤ s.pantry.space →
    exec (.queueCreate t a o v) s = .next ((s.heard t a).answered (((s.heard t a).setQueue q (some
      { capacity := createCapacity x, share := createShare x, policy := createPolicy x, larderBacked := true })).setHolder
      clsQueue q (some (s.sessionOf a))))) ∧
  (∀ s t a (o : WindowOffset) v c x q qu, TakesWrite s t a (0x4000 + o) 2 (natLe 8 v) c →
    c.written (natLe 8 v) = (x : Nat) → s.windowQueue a (0x4000 + o) = q → createOk x = true → q < 0xFFF0 →
    s.queue q = some qu → exec (.queueCreate t a o v) s = .next ((s.heard t a).refusedWith 0x0F010803)) ∧
  (∀ s t a (o : WindowOffset) v c x q qu, TakesWrite s t a (0x4000 + o) 3 (natLe 2 v) c →
    c.written (natLe 2 v) = (x : Nat) → s.windowQueue a (0x4000 + o) = q → s.queue q = some qu → qu.damaged = false →
    (qu.larderBacked = true ∨ qu.share ≤ fieldOf x 0 14 ∨ qu.capacity ≤ 128 * fieldOf x 0 14) → 1 ≤ fieldOf x 0 14 → fieldOf x 0 14 ≤ 4096 → fieldOf x 14 2 ≤ 1 →
    exec (.queueSettingsWrite t a o v) s = .next ((s.heard t a).answered ((s.heard t a).setQueue q (some
      { qu with share := fieldOf x 0 14, policy := fieldOf x 14 2 })))) ∧
  (∀ s t a (o : WindowOffset) c q qu, TakesWrite s t a (0x4000 + o) 4 (natLe 1 1) c → c.written (natLe 1 1) = 1 →
    s.windowQueue a (0x4000 + o) = q → s.queue q = some qu → isEventQueue q = false → s.refs q = 0 → s.streamsOn q = [] →
    ∃ u, exec (.queueDelete t a o) s = .next ((s.heard t a).answered u) ∧ u.queue q = none ∧ u.holder clsQueue q = none ∧
      (∀ p, p ≠ q → u.queue p = s.queue p) ∧
      Changes [.objs, .convs, .disp, .sources, .trigOuts, .queues, .pantry, .claims] (s.heard t a) u) ∧
  (∀ s t a (o : WindowOffset) c q qu, TakesWrite s t a (0x4000 + o) 4 (natLe 1 2) c → c.written (natLe 1 2) = 2 →
    s.windowQueue a (0x4000 + o) = q → s.queue q = some qu → qu.damaged = false → s.streamsOn q = [] →
    isEventQueue q = false →
    ∃ u, exec (.queueFlush t a o) s = .next ((s.heard t a).answered u) ∧ u.queue q = some { qu with
        entries := [], blocks := [], larder := 0, discarded := addWrap 32 qu.discarded qu.entries.length } ∧
      Changes [.queues, .pantry] (s.heard t a) u) ∧
  ∀ s t a (o : WindowOffset) v c x q qu, TakesWrite s t a (0x4000 + o) 9 (natLe 8 v) c → c.written (natLe 8 v) = (x : Nat) →
    s.windowQueue a (0x4000 + o) = q → s.queue q = some qu → qu.damaged = false → s.streamsOn q = [] →
    0 < fieldOf x 32 16 → fieldOf x 0 32 = qu.front → fieldOf x 32 16 ≤ qu.entries.length → isEventQueue q = false →
    ∃ y, exec (.queueRemove t a o v) s = .next ((s.heard t a).answered ((s.heard t a).setQueue q (some y))) ∧
      y.entries = qu.entries.drop (fieldOf x 32 16) ∧ y.read = addWrap 32 qu.read (fieldOf x 32 16) ∧ y.written = qu.written

/-- An entry written to a queue with room joins it last, with the queue's next sequence number (R17, R348, R350); a full
queue that does not discard refuses it, as does a queue without a free block (R354, R355); a queue that does not exist
counts it (R347); a full queue that discards drops its oldest entry for the new one unless one is in flight; the
watermark is watched (R370). A spill starts with the oldest block of the queue that R357 chooses, up to 64 at once, and
is counted; an acknowledged spill moves the entries of its block to the Larder part of the queue (R357). -/
def Obligations.QueuesTakeAndSpillEntries : Prop :=
  ((∀ s t (q : QueueNo) e qu, s.mode.working = true → s.queue q = some qu → qu.damaged = false →
    qu.entries.length < qu.capacity → 0 < s.freeBlocks →
    ∃ y, exec (.entryWrite t q e) s = .next (State.watermark (s.advance t) ((s.advance t).setQueue q (some y))) ∧
      y.entries = qu.entries ++ [{ stamp := e.stamp, tag := e.tag, kind := e.kind, flags := e.flags, seq := qu.written,
                                   payload := e.payload, writtenAt := max s.now t }] ∧
      y.written = addWrap 32 qu.written 1 ∧ y.capacity = qu.capacity ∧ y.refused = qu.refused ∧ y.discarded = qu.discarded) ∧
  (∀ s t (q : QueueNo) e qu, s.mode.working = true → s.queue q = some qu → qu.damaged = false →
    qu.capacity ≤ qu.entries.length → qu.policy ≠ 1 → s.unselected 0x2800 0x0E 1 →
    exec (.entryWrite t q e) s = .next ((((s.advance t).setQueue q (some { qu with refused := addWrap 32 qu.refused 1 })).countUp
      0x2800 9).caused 0x2800 0x0F 1)) ∧
  (∀ s t (q : QueueNo) e qu, s.mode.working = true → s.queue q = some qu → qu.damaged = false →
    qu.entries.length < qu.capacity → qu.needsBlock = true → s.freeBlocks = 0 → s.unselected 0x2800 0x0E 2 →
    exec (.entryWrite t q e) s = .next ((((s.advance t).setQueue q (some { qu with refused := addWrap 32 qu.refused 1 })).countUp
      0x2800 0x0A).caused 0x2800 0x0F 2)) ∧
  (∀ s t (q : QueueNo) e qu, s.mode.working = true → s.queue q = some qu → qu.damaged = false →
    qu.capacity ≤ qu.entries.length → qu.policy = 1 → s.inFlight q qu ≠ 0 → qu.needsBlock = true → s.freeBlocks = 0 →
    s.unselected 0x2800 0x0E 2 →
    exec (.entryWrite t q e) s = .next ((((s.advance t).setQueue q (some { qu with refused := addWrap 32 qu.refused 1 })).countUp
      0x2800 0x0A).caused 0x2800 0x0F 2)) ∧
  (∀ s t (q : QueueNo) e, s.mode.working = true → s.queue q = none → s.unselected 0x2800 0x0E 5 →
    exec (.entryWrite t q e) s = .next (((s.advance t).countUp 0x2800 0x0B).caused 0x2800 0x0F 5)) ∧
  (∀ s t (q : QueueNo) e qu o r, s.mode.working = true → s.queue q = some qu → qu.damaged = false →
    qu.capacity ≤ qu.entries.length → qu.policy = 1 → s.inFlight q qu = 0 → qu.entries = o :: r →
    (qu.needsBlock = false ∨ 0 < s.freeBlocks) →
    ∃ y, exec (.entryWrite t q e) s = .next (State.watermark (s.advance t) ((s.advance t).setQueue q (some y))) ∧
      y.entries = r ++ [{ stamp := e.stamp, tag := e.tag, kind := e.kind, flags := e.flags, seq := qu.written,
                          payload := e.payload, writtenAt := max s.now t }] ∧
      y.written = addWrap 32 qu.written 1 ∧ y.discarded = addWrap 32 qu.discarded 1 ∧ y.refused = qu.refused) ∧
  ∀ s t (q : QueueNo) e, s.mode.working = false → exec (.entryWrite t q e) s = .next (s.advance t)) ∧
  ((∀ s t q qu b c r, s.mode.working = true → s.pantry.spills.length < 64 → s.spillChoice = some q → s.queue q = some qu →
    qu.blocks = b :: c :: r → b.spilling = false →
    exec (.spillStart t) s = .next (State.countUp { (s.advance t).setQueue q (some
      { qu with blocks := { b with spilling := true } :: c :: r }) with
        pantry := { s.pantry with spills := s.pantry.spills ++ [some q] } } 0x2800 7)) ∧
  (∀ s t, 64 ≤ s.pantry.spills.length → exec (.spillStart t) s = .next (s.advance t)) ∧
  ∀ s t q r qu b bs, s.mode.working = true → s.pantry.spills = some q :: r → s.queue q = some qu →
    qu.blocks = b :: bs → b.spilling = true → 0 < b.held →
    exec (.spillAck t) s = .next (State.setQueue { s.advance t with pantry := { s.pantry with spills := r } } q (some
      { qu with blocks := bs, larder := qu.larder + b.held, larderTail := qu.larderTail + b.filled })))

/-- Credit streams by the objects of a session (R365, R366): a slot opens on a queue that the session holds; credits add
up to a bound; an acknowledgement reads what it covers; a resend starts again at the front; a slot closes with one
notice where the link of its session serves. Streams on their own (R366, R367, R452): entries in flight without progress
for the resend time are sent again from the front; a datagram goes out with the next sequence number and uses credits
when it is full or 50 µs have passed, and waits before; a credit return grants like the object. -/
def Obligations.StreamsRun : Prop :=
  ((∀ s t a (k : Fin 8) v c q qu, TakesWrite s t a 0x2803 (1 + k) (natLe 4 v) c → c.written (natLe 4 v) = (q : Nat) →
    q ≤ 0xFFFFF → s.holder clsQueue q = some (s.sessionOf a) → s.sessionOf a ≠ 0 → s.queue q = some qu →
    qu.damaged = false → s.streamsOn q = [] → s.pantry.larderReady = false → s.stream (s.sessionOf a) k = none →
    exec (.streamOpen t a k v) s = .next ((s.heard t a).answered ((s.heard t a).setStream (s.sessionOf a) k
      (some { queue := q, sent := qu.front, progressAt := max s.now t, opened := max s.now t })))) ∧
  (∀ s t a (k : Fin 8) c st, TakesWrite s t a 0x2803 (1 + k) (natLe 4 0xFFFFFFFF) c →
    c.written (natLe 4 0xFFFFFFFF) = 0xFFFFFFFF → s.stream (s.sessionOf a) k = some st →
    s.sends (s.sessionOf a) = true →
    ∃ u, exec (.streamClose t a k) s = .next ((s.heard t a).answered u) ∧ u.stream (s.sessionOf a) k = none ∧
      u.outbox.length = s.outbox.length + 1 ∧ Changes [.streams, .sessions, .outbox] (s.heard t a) u) ∧
  (∀ s t a (k : Fin 8) c st, TakesWrite s t a 0x2803 (1 + k) (natLe 4 0xFFFFFFFF) c →
    c.written (natLe 4 0xFFFFFFFF) = 0xFFFFFFFF → s.stream (s.sessionOf a) k = some st → s.sends (s.sessionOf a) = false →
    exec (.streamClose t a k) s = .next ((s.heard t a).answered ((s.heard t a).setStream (s.sessionOf a) k none))) ∧
  (∀ s t a (k : Fin 8) v c (n : Nat) st qu, TakesWrite s t a 0x2803 (9 + k) (natLe 4 v) c → c.written (natLe 4 v) = n →
    s.stream (s.sessionOf a) k = some st → s.queue st.queue = some qu → qu.damaged = false →
    seqDist st.consumed st.granted + n ≤ 1048576 →
    exec (.creditGrant t a k v) s = .next ((s.heard t a).answered ((s.heard t a).setStream (s.sessionOf a) k
      (some { st with granted := addWrap 32 st.granted n })))) ∧
  (∀ s t a (k : Fin 8) v c (n : Nat) st qu, TakesWrite s t a 0x2803 (0x19 + k) (natLe 4 v) c → c.written (natLe 4 v) = n →
    s.stream (s.sessionOf a) k = some st → s.queue st.queue = some qu → qu.damaged = false → isEventQueue st.queue = false →
    0 < seqDist qu.front n → seqDist qu.front n ≤ seqDist qu.front (st.frontier qu) → st.resend = none →
    ∃ u, exec (.streamAcknowledgement t a k v) s = .next ((s.heard t a).answered u) ∧
      u.stream (s.sessionOf a) k = some { st with sent := st.frontier qu, progressAt := max s.now t } ∧
      (u.queue st.queue).map (·.read) = some (addWrap 32 qu.read (qu.before n).length) ∧
      Changes [.streams, .queues] (s.heard t a) u) ∧
  ∀ s t a (k : Fin 8) c st qu, TakesWrite s t a 0x2803 (0x21 + k) (natLe 1 1) c → c.written (natLe 1 1) = 1 →
    s.stream (s.sessionOf a) k = some st → s.queue st.queue = some qu → qu.damaged = false → st.frontier qu ≠ qu.front →
    exec (.resendRequest t a k 1) s = .next ((s.heard t a).answered ((s.heard t a).setStream (s.sessionOf a) k
      (some { st with sent := st.frontier qu, resend := some qu.front, progressAt := max s.now t })))) ∧
  ((∀ s t (n : SessionNo) (k : Fin 8) st qu, s.mode.serves = true → s.stream n k = some st → s.queue st.queue = some qu →
    qu.damaged = false → st.frontier qu ≠ qu.front →
    exec (.resendTimeout t n k) s = .next (if max s.now t < st.progressAt + s.own n 0x2803 0x2A * 4000000 then s.advance t
      else (s.advance t).setStream n k
        (some { st with sent := st.frontier qu, resend := some qu.front, progressAt := max s.now t }))) ∧
  (∀ s t (n : SessionNo) (k : Fin 8) st qu e r, s.sends n = true → s.stream n k = some st → s.queue st.queue = some qu →
    qu.damaged = false → st.resend = none → (s.nextDatagram n st qu).1 = e :: r →
    (s.own n 0x2803 0x29 ≤ (e :: r).length ∨ max e.writtenAt st.opened + 200000 ≤ max s.now t) →
    ∃ u x, exec (.datagramSend t n k) s = .next u ∧ u.outbox = s.outbox ++ [x] ∧
      (∃ tag, x = .stream n k 1 (s.session n).txSeq st.queue ((e :: r).flatMap Entry.bytes) tag (s.session n).streamTo.1
        (s.session n).streamTo.2) ∧
      u.stream n k = some { st with
        sent := addWrap 32 ((e :: r).getLast (by simp)).seq 1, progressAt := max s.now t
        consumed := addWrap 32 st.consumed (e :: r).length } ∧
      (u.session n).txSeq = (s.session n).txSeq + 1 ∧ Changes [.now, .streams, .sessions, .outbox] s u) ∧
  (∀ s t (n : SessionNo) (k : Fin 8) st qu e r, s.stream n k = some st → s.queue st.queue = some qu →
    st.resend = none → (s.nextDatagram n st qu).1 = e :: r → (e :: r).length < s.own n 0x2803 0x29 →
    max s.now t < max e.writtenAt st.opened + 200000 → exec (.datagramSend t n k) s = .next (s.advance t)) ∧
  ∀ s t (d : Datagram) st qu, d.link ≠ .can0 → s.mode.serves = true → (s.advance t).linkAnswers d.link = true →
    (s.advance t).authentic d = true → d.opcode = 2 → d.payload.length = 12 → d.flags ≤ 7 → fieldLe d.payload 8 1 = 0 →
    s.stream d.session d.flags = some st → s.queue st.queue = some qu → qu.damaged = false →
    seqDist st.consumed st.granted + fieldLe d.payload 0 4 ≤ 1048576 →
    ∃ u, exec (.creditReturn t d) s = .next u ∧
      u.stream d.session d.flags = some { st with granted := addWrap 32 st.granted (fieldLe d.payload 0 4) } ∧
      (∀ n k, n * 8 + k ≠ d.session * 8 + d.flags → u.stream n k = s.stream n k))

/-- The Larder (R351, R360, R363): training that passes starts the descriptor copy, one that fails leaves state 3; the
copy done, the Larder is ready and every queue Larder-backed; a corrected error is counted, an entry with an
uncorrectable one is discarded, a descriptor with one damages its queue; in SAVE the queue system has stopped, and none
of these acts (R369). -/
def Obligations.LarderStates : Prop :=
  (∀ s t, s.mode = .save → (∀ ok, exec (.larderTrainingDone t ok) s = .next (s.advance t)) ∧
    exec (.descriptorCopyDone t) s = .next (s.advance t) ∧
    ∀ h, exec (.larderEccError t h) s = .next (s.advance t)) ∧
  (∀ s t, s.mode ≠ .save → s.objN 0x2800 6 = 1 → s.pantry.copying = false →
    exec (.larderTrainingDone t true) s = .next { s.advance t with pantry := { s.pantry with copying := true } }) ∧
  (∀ s t, s.mode ≠ .save → s.objN 0x2800 6 = 1 → s.pantry.copying = false →
    ∃ u, exec (.larderTrainingDone t false) s = .next u ∧ u.objN 0x2800 6 = 3 ∧ u.pantry = s.pantry ∧
      Changes [.now, .objs, .convs, .disp, .sources, .trigOuts, .log] s u) ∧
  (∀ s t, s.mode ≠ .save → s.pantry.copying = true → s.ready 20 = true → s.objN 0x2800 6 ≠ 2 →
    ∃ u, exec (.descriptorCopyDone t) s = .next u ∧
      u.pantry = { s.pantry with copying := false, larderReady := true, storeBlocks := 128 } ∧
      u.queues = (s.queues.map fun x => (x.1, x.2.map fun q => { q with larderBacked := true })) ∧ u.objN 0x2800 6 = 2 ∧
      Changes [.now, .objs, .convs, .disp, .sources, .trigOuts, .queues, .pantry, .log] s u) ∧
  (∀ s t, s.mode ≠ .save → s.pantry.larderReady = true →
    exec (.larderEccError t .corrected) s = .next ((s.advance t).countUp 0x2800 0x0C)) ∧
  (∀ s t (q : QueueNo) qu, s.mode ≠ .save → s.pantry.larderReady = true → s.queue q = some qu → s.unselected 0x2800 0x0E 4 →
    exec (.larderEccError t (.descriptor q)) s = .next ((((s.advance t).setQueue q (some { qu with damaged := true })).countUp
      0x2804 1).caused 0x2800 0x0F 4)) ∧
  ∀ s t (q : QueueNo) seq qu, s.mode ≠ .save → s.pantry.larderReady = true → s.queue q = some qu →
    (qu.entries.take qu.larder).any (fun e => e.seq == seq) = true → isEventQueue q = false → s.unselected 0x2800 0x0E 4 →
    exec (.larderEccError t (.entry q seq)) s = .next ((((s.advance t).setQueue q (some { qu with
      entries := qu.entries.eraseP fun e => e.seq == seq
      larder := qu.larder - 1, discarded := addWrap 32 qu.discarded 1 })).countUp 0x2804 1).caused 0x2800 0x0F 4)

/-! ## The fabric and its zones -/

/-- Zone commands (R388, R389, R394): a start that nothing refuses runs the zone, with its outgoing data lanes released;
a stop drains it toward Ready within the drain timeout; an erase empties a Ready or Failed zone and has its block memory
zeroed within 200 microseconds, and drains a Running one toward Empty; commands in a state that does not take them are
refused. Draining ends (R388 to R391): the clamp waits for open channels up to the drain timeout, then cuts the links of
the zone, its lanes, ports, taps and user event lines among them; a clamp that names other channels than those whose
request or acknowledge is 1 is none, nor is one in SAVE (R403); a channel open at the timeout is counted as broken, and
its input reads 1 at the zone that receives on it, until its next completed handshake; 1 microsecond later the zone
takes its next state; a block memory that is due is zeroed; the replica stage gives the speed. -/
def Obligations.ZonesStartAndDrain : Prop :=
  ((∀ s t a (z : ZoneNo) c, TakesWrite s t a (0x2720 + z) 2 (natLe 1 1) c → c.written (natLe 1 1) = 1 →
    (s.heard t a).zoneStartAbort (s.sessionOf a) z = none → s.noWaiting → s.mode ≠ .load →
    ∃ u, exec (.zoneStart t a z) s = .next ((s.heard t a).answered u) ∧ (u.zone z).stage = .running ∧
      (u.zone z).maskLost = [] ∧ (u.zone z).held = [] ∧
      (u.zone z).defaults = ((s.zone z).decl.clampDefaults.filter fun x => (s.zone z).decl.lanes.contains x.1) ∧
      (u.zone z).released = ((s.zone z).decl.lanes.filter fun l => decide (l.role = .outData)) ∧
      Changes [.objs, .ports, .convs, .disp, .sources, .trigOuts, .zones, .fresh] (s.heard t a) u) ∧
  (∀ s t a (z : ZoneNo) c, TakesWrite s t a (0x2720 + z) 2 (natLe 1 2) c → c.written (natLe 1 2) = 2 →
    (s.zone z).stage = .running → s.noWaiting → s.mode ≠ .load →
    ∃ u, exec (.zoneStop t a z) s = .next ((s.heard t a).answered u) ∧ u.zone z = { s.zone z with
        stage := .draining, next := .ready, clampedAt := none
        drainAt := max s.now t + s.objN (0x2720 + z) 4 * 4000 } ∧
      u.obj (0x2720 + z) 0x1B = (max s.now t : Nat) ∧
      Changes [.objs, .convs, .disp, .sources, .trigOuts, .zones] (s.heard t a) u) ∧
  (∀ s t a (z : ZoneNo) c, TakesWrite s t a (0x2720 + z) 2 (natLe 1 3) c → c.written (natLe 1 3) = 3 →
    (s.zone z).stage = .ready ∨ (s.zone z).stage = .failed → s.noWaiting → s.mode ≠ .load →
    ∃ u, exec (.zoneErase t a z) s = .next ((s.heard t a).answered u) ∧ (u.zone z).stage = .empty ∧
      (u.zone z).hasImage = false ∧ (u.zone z).zeroing = some (max s.now t + 800000) ∧
      Changes [.objs, .convs, .disp, .sources, .trigOuts, .zones] (s.heard t a) u) ∧
  (∀ s t a (z : ZoneNo) c, TakesWrite s t a (0x2720 + z) 2 (natLe 1 3) c → c.written (natLe 1 3) = 3 →
    (s.zone z).stage = .running → s.noWaiting → s.mode ≠ .load →
    ∃ u, exec (.zoneErase t a z) s = .next ((s.heard t a).answered u) ∧ u.zone z = { s.zone z with
        stage := .draining, next := .empty, clampedAt := none
        drainAt := max s.now t + s.objN (0x2720 + z) 4 * 4000 } ∧
      Changes [.objs, .convs, .disp, .sources, .trigOuts, .zones] (s.heard t a) u) ∧
  ∀ s t a (z : ZoneNo) c, s.noWaiting → s.mode ≠ .load →
    (TakesWrite s t a (0x2720 + z) 2 (natLe 1 2) c → c.written (natLe 1 2) = 2 → (s.zone z).stage = .loading →
      exec (.zoneStop t a z) s = .next ((s.heard t a).refusedWith 0x0F010C02)) ∧
    (TakesWrite s t a (0x2720 + z) 2 (natLe 1 3) c → c.written (natLe 1 3) = 3 → (s.zone z).stage = .empty →
      exec (.zoneErase t a z) s = .next ((s.heard t a).refusedWith 0x0F010C01))) ∧
  ((∀ s t (z : ZoneNo), s.mode ≠ .save → (s.zone z).stage = .draining → (s.zone z).clampedAt = none → s.openChannels z = [] →
    ∃ u, exec (.zoneClamp t z []) s = .next u ∧ (u.zone z).clampedAt = some (max s.now t) ∧ (u.zone z).taps = [] ∧
      (u.zone z).released = [] ∧ (u.zone z).lines = [false, false, false, false] ∧
      (∀ p ∈ (s.zone z).decl.portMask, p.val ∉ (s.zone z).maskLost → (u.port p).fabricOE = false ∧ (u.port p).schedule = []) ∧
      Changes [.now, .objs, .ports, .pins, .convs, .disp, .sources, .timebase, .trigOuts, .queues, .zones, .fresh] s u) ∧
  (∀ s t (z : ZoneNo) ch r, max s.now t < (s.zone z).drainAt → exec (.zoneClamp t z (ch :: r)) s = .next (s.advance t)) ∧
  (∀ s t (z : ZoneNo) opened, s.mode = .save ∨ s.namesOpen z opened = false →
    exec (.zoneClamp t z opened) s = .next (s.advance t)) ∧
  (∀ s t (z : ZoneNo) c y, s.mode ≠ .save → (s.zone z).stage = .draining → (s.zone z).clampedAt = none →
    (s.zone z).drainAt ≤ max s.now t → c ∈ (s.zone z).decl.channels → s.channelOpen z c = true → neighbour z c.side = some y →
    ∃ u, exec (.zoneClamp t z (s.openChannels z)) s = .next u ∧ (u.zone z).clampedAt = some (max s.now t) ∧
      (if c.receives then c.requestLane ∈ (u.zone z).brokenInputs else sinkLane c.requestLane ∈ (u.zone y).brokenInputs) ∧
      ((s.zone z).decl.channels = [c] → z < y →
        u.obj (0x2720 + z) 0x14 = (s.countUp (0x2720 + z) 0x14).obj (0x2720 + z) 0x14)) ∧
  (∀ s t (z : ZoneNo) at', (s.zone z).stage = .draining → (s.zone z).clampedAt = some at' → (s.zone z).next = .ready →
    at' + 4000 ≤ max s.now t → s.mode ≠ .load → s.mode ≠ .save → s.noWaiting →
    ∃ u, exec (.zoneResetDone t z) s = .next u ∧
      u.zone z = { s.zone z with
        stage := .ready, clampedAt := none, next := .empty, rails := [], stages := [], elements := [], driven := []
        blocked := [] } ∧
      u.obj (0x2720 + z) 0x1B = (max s.now t : Nat) ∧
      Changes [.now, .objs, .convs, .disp, .sources, .trigOuts, .zones] s u) ∧
  (∀ s t (z : ZoneNo) d, (s.zone z).zeroing = some d →
    exec (.blockMemoryZeroed t z) s = .next (((s.advance t).eccClear (zoneBase z) 1572864).setZone z
      { s.zone z with zeroing := none })) ∧
  ∀ s t (z : ZoneNo) permille, s.mode.working = true → permille < 65536 →
    exec (.zoneSpeedMeasure t z permille) s = .next ((s.advance t).setObj (0x2720 + z) 0x1C (permille : Nat)))

/-- Lanes and balls of a live zone (R395 to R398): a lane whose conditions hold is released once, and a request that its
neighbour holds pending passes with it; an output of the fabric acts on a port of its live mask, and on no other, and a
driver that it turns off is clamped no more; a schedule takes up to eight entries in ascending order, refuses one that
is not later than the one before, applies an entry at its instant, and one that comes too late at once, with a count and
cause bit 6. Links of a live zone (R380, R383, R399 to R402): a tap gives its outputs in order; a queue port writes as
the session that holds the zone, and counts a refusal with cause bit 4; the time port answers the counter; a user event
line takes its level; block memory takes the bytes of a host. What happens inside a running zone (R375, R376, R380 to
R382, R385, R391; that these changes come with the command DUAL_RAIL_ERROR is the model's choice, log entry 129): a
dual-rail bit of a cluster in that mode takes a code, and the illegal one is counted with cause bit 2 at each
occurrence; a bundled-data stage makes the next step of its handshake; a word goes into and out of block memory through
a port, whose error output tells of a word that ECC cannot correct; an outgoing lane takes its level; an acknowledge
that falls while the request of its channel is 0 completes the handshake and ends its broken input; the completion
element of a cell takes the value on which its inputs agree, and its latch takes the output of its table while it is
transparent. -/
def Obligations.ZonesDrivePortsAndLinks : Prop :=
  ((∀ s t (z : ZoneNo) l, s.mode ≠ .save → s.laneFree z l = true → l ∉ (s.zone z).released → l.role ≠ .inRequest →
    exec (.laneRelease t z l) s = .next ((s.advance t).setZone z { s.zone z with released := (s.zone z).released ++ [l] })) ∧
  (∀ s t (z : ZoneNo) l y, s.mode ≠ .save → s.laneFree z l = true → l ∉ (s.zone z).released → l.role = .inRequest →
    neighbour z l.side = some y → y ≠ z →
    exec (.laneRelease t z l) s = .next (((s.advance t).setZone z { s.zone z with
      released := (s.zone z).released ++ [l] }).setZone y { s.zone y with
      blocked := (s.zone y).blocked.filter (· != sourceLane l) })) ∧
  (∀ s t (z : ZoneNo) (p : PortNo) d oe, exec (.fabricPortOutputChange t z (.port p) d oe) s =
    .next (if s.zoneLive z = true ∧ p ∈ (s.zone z).decl.portMask ∧ p.val ∉ (s.zone z).maskLost then
      (s.advance t).setPort p ((s.port p).fabricSets d oe) else s.advance t)) ∧
  (∀ (c : PortCell) d oe, (c.fabricSets d oe).fabricD = d ∧ (c.fabricSets d oe).fabricOE = oe ∧
    (c.fabricSets d oe).schedule = c.schedule ∧ (oe = true → c.fabricSets d oe = { c with fabricD := d, fabricOE := true }) ∧
    (oe = false → c.owner.kind = .fabric → (c.fabricSets d oe).clampSince = none ∧ (c.fabricSets d oe).sourceClamp = false ∧
      (c.fabricSets d oe).sinkClamp = false ∧ (c.fabricSets d oe).voltageClamp = false)) ∧
  (∀ s t (z : ZoneNo) (n : PinNo) d oe, s.zoneLive z = true → n ∈ (s.zone z).decl.pins →
    exec (.fabricPortOutputChange t z (.pin n) d oe) s = .next
      (((s.advance t).setPin n { s.pin n with fabricD := d, fabricOE := oe }).followPin n)) ∧
  (∀ s t (p : PortNo) due d oe z, s.fabricOn p = some z → s.zoneLive z = true → (s.port p).schedule.length < 8 →
    (∀ x, (s.port p).lastScheduled = some x → x < due) → max s.now t + 400 ≤ due →
    exec (.scheduleEntryArrival t p due d oe) s = .next (((s.advance t).setPort p { s.port p with
      schedule := (s.port p).schedule ++ [(due, d, oe)], lastScheduled := some due }).send (.schedule p true))) ∧
  (∀ s t (p : PortNo) due d oe z x, s.fabricOn p = some z → s.zoneLive z = true → (s.port p).schedule.length < 8 →
    (s.port p).lastScheduled = some x → due ≤ x →
    exec (.scheduleEntryArrival t p due d oe) s = .next ((s.advance t).send (.schedule p false))) ∧
  (∀ s t (p : PortNo) due d oe z, s.fabricOn p = some z → s.zoneLive z = true → (s.port p).schedule.length < 8 →
    (∀ x, (s.port p).lastScheduled = some x → x < due) → due < max s.now t + 400 → s.unselected (0x2720 + z) 0x19 6 →
    exec (.scheduleEntryArrival t p due d oe) s = .next (((((s.advance t).setPort p { (s.port p).fabricSets d oe with
      lastScheduled := some due }).send (.schedule p true)).countUp (0x2720 + z) 0x18).caused (0x2720 + z) 0x1A 6)) ∧
  ∀ s t (p : PortNo) due d oe r z, (s.port p).schedule = (due, d, oe) :: r → s.fabricOn p = some z → s.zoneLive z = true →
    exec (.scheduleEntryApply t p) s = .next (if max s.now t < due then s.advance t
      else (s.advance t).setPort p { (s.port p).fabricSets d oe with schedule := r })) ∧
  ((∀ s t (z : ZoneNo) (k : Fin 8) x r, s.zoneLive z = true → Table.get [] (s.zone z).taps k = x :: r →
    exec (.tapOutputTaken t z k) s = .next (((s.advance t).setZone z { s.zone z with
      taps := Table.set [] (s.zone z).taps k r }).send (.tapOutput z k x))) ∧
  (∀ s t (z : ZoneNo) (k : Fin 16) w, s.zoneLive z = true → k.val < (s.zone z).decl.queuePorts → s.queue w.queue = none →
    s.unselected (0x2720 + z) 0x19 4 →
    exec (.queuePortWrite t z k w) s = .next ((((s.advance t).send (.fabric z 0x06090030)).countUp (0x2720 + z) 0x17).caused
      (0x2720 + z) 0x1A 4)) ∧
  (∀ s t (z : ZoneNo) (k : Fin 16) w qu, s.zoneLive z = true → k.val < (s.zone z).decl.queuePorts →
    s.holder clsZone z = s.holder clsQueue w.queue → (s.holder clsZone z).isSome = true → w.queue ≤ 0xFFFFF →
    0x80 ≤ w.kind → w.kind < 256 → s.queue w.queue = some qu → qu.damaged = false → qu.entries.length < qu.capacity →
    0 < s.freeBlocks →
    ∃ y, exec (.queuePortWrite t z k w) s = .next ((State.watermark (s.advance t) ((s.advance t).setQueue w.queue
        (some y))).send (.fabric z 0)) ∧
      y.entries = qu.entries ++ [{
        stamp := w.stamp.getD (max s.now t), tag := 0x0300 + 16 * z.val + k.val, kind := w.kind, flags := w.flags % 256
        seq := qu.written, payload := (w.payload ++ zeroBytes 16).take 16, writtenAt := max s.now t }]) ∧
  (∀ s t (z : ZoneNo), s.zoneLive z = true →
    exec (.timePortRequest t z) s = .next ((s.advance t).send (.fabric z (max s.now t)))) ∧
  (∀ s t (z : ZoneNo) (k : Fin 4) level, s.zoneLive z = true → k.val < (s.zone z).decl.userLines →
    (s.zone z).lines.getD k false ≠ level →
    ∃ u, exec (.userEventLineChange t z k level) s = .next u ∧
      u.zone z = { s.zone z with lines := (s.zone z).lines.set k level } ∧
      (u.source (344 + 4 * z + k)).level = level ∧
      Changes [.now, .objs, .convs, .disp, .sources, .trigOuts, .zones] s u) ∧
  ∀ s t a (z : ZoneNo) bytes c, TakesBytes s t a (0x2720 + z) 0x1D bytes c →
    (s.zone z).stage = .ready ∨ (s.zone z).stage = .running → (s.zone z).zeroing = none →
    exec (.blockMemoryWrite t a z bytes) s = .next ((s.heard t a).answered ((s.heard t a).eccWrite (zoneBase z) bytes))) ∧
  ((∀ s t (z : ZoneNo) (bit : Fin 12288), s.zoneLive z = true → s.railCode z bit ≠ 3 →
    s.unselected (0x2720 + z) 0x19 2 →
    exec (.dualRailError t ⟨z, .rails bit 3⟩) s = .next (if s.clusterMode z (bit / 8) = .dualRail then
      (((s.advance t).setZone z { s.zone z with rails := Table.set none (s.zone z).rails bit (some 3) }).countUp
        (0x2720 + z) 0x15).caused (0x2720 + z) 0x1A 2 else s.advance t)) ∧
  (∀ s t (z : ZoneNo) (bit : Fin 12288) (code : Fin 4), s.zoneLive z = true → code ≠ 3 →
    exec (.dualRailError t ⟨z, .rails bit code⟩) s = .next (if s.clusterMode z (bit / 8) = .dualRail then
      (s.advance t).setZone z { s.zone z with rails := Table.set none (s.zone z).rails bit (some code.val) } else s.advance t)) ∧
  (∀ s t (z : ZoneNo) k, s.zoneLive z = true →
    exec (.dualRailError t ⟨z, .handshake k⟩) s = .next (match (Config.stages (s.cellFrames z))[k]? with
      | some x => if s.stageOk z x = true then (s.advance t).setZone z { s.zone z with
          stages := Table.set none (s.zone z).stages k (some (nextPhase ((Table.get none (s.zone z).stages k).getD x.initial))) }
        else s.advance t
      | none => s.advance t)) ∧
  (∀ s t (z : ZoneNo) (b : Fin 96) portB i v, s.zoneLive z = true → (s.zone z).zeroing = none →
    s.portBytes z b portB * i < 16384 →
    exec (.dualRailError t ⟨z, .blockWrite b portB i v⟩) s = .next ((s.advance t).eccWrite
      (zoneBase z + 16384 * b + s.portBytes z b portB * i) (natLe (s.portBytes z b portB) v))) ∧
  (∀ s t (z : ZoneNo) (b : Fin 96) portB i, s.zoneLive z = true → (s.zone z).zeroing = none →
    s.portBytes z b portB * i < 16384 →
    ∃ u, exec (.dualRailError t ⟨z, .blockRead b portB i⟩) s = .next u ∧ u.outbox = s.outbox ++ [.blockRead z b portB i
        (leNat (s.eccBytes (zoneBase z + 16384 * b + s.portBytes z b portB * i) (s.portBytes z b portB)))
        (s.uncorrectable (zoneBase z + 16384 * b + s.portBytes z b portB * i) (s.portBytes z b portB)).isSome]) ∧
  (∀ s t (z : ZoneNo) l level, s.zoneLive z = true → outgoing l.role = true → l ∈ (s.zone z).decl.lanes →
    s.stopsRequests z l = false →
    ∃ u, exec (.dualRailError t ⟨z, .lane l level⟩) s = .next u ∧ (l ∈ (u.zone z).driven ↔ level = true) ∧
      (∀ m, m ≠ l → (m ∈ (u.zone z).driven ↔ m ∈ (s.zone z).driven)) ∧ Changes [.now, .zones] s u) ∧
  (∀ s t (z : ZoneNo) c, s.zoneLive z = true → c ∈ (s.zone z).decl.channels → c.receives = true →
    (s.zone z).laneLevel c.acknowledgeLane = true → s.receivedLevel z c.requestLane = false →
    ∃ u, exec (.dualRailError t ⟨z, .lane c.acknowledgeLane false⟩) s = .next u ∧ u.brokenInput z c = false ∧
      Changes [.now, .zones] s u) ∧
  ∀ s t (z : ZoneNo) (k : Fin 24576) inputs completion, s.zoneLive z = true →
    ∃ u, exec (.dualRailError t ⟨z, .cell k inputs completion⟩) s = .next u ∧
      (u.element z k).1 = (if completion ^^^ (s.cell z k).inverted = 7#3 then true
        else if completion ^^^ (s.cell z k).inverted = 0#3 then false else (s.element z k).1) ∧
      (u.element z k).2 = (if s.latchOpen z k (u.element z k).1 = true then tableOutput (s.cell z k) inputs
        else (s.element z k).2) ∧
      (∀ j, j ≠ k.val → u.element z j = s.element z j) ∧ Changes [.now, .zones] s u)

/-! ## Configuration streams, keys and the scrubber -/

/-- An open stream has failed with a cause and its detail (R419): its object shows them, no session holds the loader, and
cause bit 1 is set. -/
def Sys2Proof.Machine.State.streamFailed (s : State) (cause detail : Nat) : State :=
  State.caused { (((s.setObj 0x2700 4 5).setObj 0x2700 5 0xFF).setObj 0x2700 7 cause).setObj 0x2700 8 detail with
    loader := {} } 0x2700 0x0B 1

/-- A stream is open that no zone has joined yet, and no write of it waits for its answer. -/
def Sys2Proof.Machine.Loader.bare (l : Loader) : Prop :=
  l.busy = true ∧ l.parse.begun = [] ∧ l.waitDrain = none ∧ l.owed = none

/-- The record at the front of the open stream, and what follows it, is well formed, and no byte is past its length. -/
def Sys2Proof.Machine.Loader.front (l : Loader) (r : CfgRecord) : Prop :=
  l.busy = true ∧ l.bytes.length ≤ streamLen l.header ∧ l.waitDrain = none ∧ l.next = .record r ∧ l.dropped.contains r.zone = false ∧
    ∀ c d, ({ l with parse := l.parse.take r } : Loader).next ≠ .bad c d

/-- Records (R414, R417): a zone begin takes a zone that holds no running image into Loading with the figures of the
record; a Running zone first drains toward Loading; frames are written in order and signed, in all three copies of the
Loft; the first frame whose read-back differs fails the stream and its zone; initial data goes to the block memory; the
loader's state is checking (R437) once the last byte is there and no record is left. -/
def Obligations.RecordsAreTaken : Prop :=
  (∀ s t r, s.loader.front r → r.type = 1 → s.scrub.repair = none → s.noWaiting →
    s.loader.boot = true ∨ isWhole s.loader.header = true ∨ s.holder clsZone r.zone = s.loader.session →
    (s.zone r.zone).stage = .empty ∨ (s.zone r.zone).stage = .ready ∨ (s.zone r.zone).stage = .failed →
    ∃ u, exec (.zoneBeginRecord t) s = .next u ∧ (u.zone r.zone).stage = .loading ∧
      (u.zone r.zone).imageId = fieldLe r.body 0 4 ∧ (u.zone r.zone).margin = fieldLe r.body 4 2 ∧
      (u.zone r.zone).blocks = fieldLe r.body 6 1 ∧ (u.zone r.zone).cells = fieldLe r.body 8 4 ∧
      (u.zone r.zone).hasImage = false ∧ (u.zone r.zone).zeroing = some (max s.now t + 800000) ∧
      u.loader.parse = s.loader.parse.take r ∧
      Changes [.now, .objs, .convs, .disp, .sources, .trigOuts, .zones, .loader, .sessions, .cellar, .outbox] s u) ∧
  (∀ s t r, s.loader.front r → r.type = 1 → s.scrub.repair = none → s.noWaiting →
    s.loader.boot = true ∨ isWhole s.loader.header = true ∨ s.holder clsZone r.zone = s.loader.session →
    (s.zone r.zone).stage = .running →
    ∃ u, exec (.zoneBeginRecord t) s = .next u ∧ (u.zone r.zone).stage = .draining ∧ (u.zone r.zone).next = .loading ∧
      (u.zone r.zone).drainAt = max s.now t + s.objN (0x2720 + r.zone) 4 * 4000 ∧ u.obj 0x2700 4 = 2 ∧
      u.loader = { s.loader with waitDrain := some r.zone } ∧
      Changes [.now, .objs, .convs, .disp, .sources, .trigOuts, .zones, .loader] s u) ∧
  (∀ s t r, s.loader.front r → r.type = 2 → s.noWaiting →
    ∃ u, exec (.framesRecord t none) s = .next u ∧ u.loader.parse = s.loader.parse.take r ∧
      (∀ i < fieldLe r.body 2 2, let f := 512 * r.zone + fieldLe r.body 0 2 + i
        let image := sliceBytes r.body (4 + 1024 * i) 1024
        u.frame f = image ∧ u.loftCopies f = List.replicate 3 (some (frameSignature f image))) ∧
      (∀ f : Nat, f ∉ r.frames → u.frame f = s.frame f ∧ u.loftCopies f = s.loftCopies f) ∧
      u.objs = (if s.loader.bytes.length = streamLen s.loader.header ∧
        ({ s.loader with parse := s.loader.parse.take r } : Loader).working = false then s.setObj 0x2700 4 3 else s).objs ∧
      Changes [.now, .objs, .loader, .frames, .loft, .sessions, .outbox] s u) ∧
  (∀ s t r f, s.loader.busy = true → s.loader.next = .record r → r.type = 2 → f ∈ r.frames → s.loader.parse.begun = [r.zone] →
    s.loader.waitDrain = none → s.loader.dropped = [] → (s.zone r.zone).stage = .loading → s.unselected 0x2700 0x0A 1 →
    s.unselected (0x2720 + r.zone) 0x19 0 → s.unselected (0x2720 + r.zone) 0x19 5 → s.noWaiting → s.mode ≠ .load →
    ∃ u, exec (.framesRecord t (some f)) s = .next u ∧ u.loader = {} ∧ (u.zone r.zone).stage = .failed ∧
      u.obj 0x2700 4 = 5 ∧ u.obj 0x2700 7 = 0x10 ∧ u.obj 0x2700 8 = f ∧
      Changes [.now, .objs, .convs, .disp, .sources, .trigOuts, .zones, .loader, .frames, .loft, .sessions, .outbox] s u) ∧
  ∀ s t r, s.loader.front r → r.type = 3 → (s.zone r.zone).zeroing = none → s.noWaiting →
    ∃ u, exec (.blockMemoryRecord t) s = .next u ∧ u.loader.parse = s.loader.parse.take r ∧
      u.mem = (s.writeBytes (zoneBase r.zone + fieldLe r.body 0 4) (r.body.drop 4)).mem ∧
      u.flips = (s.eccWrite (zoneBase r.zone + fieldLe r.body 0 4) (r.body.drop 4)).flips ∧
      u.objs = (if s.loader.bytes.length = streamLen s.loader.header ∧
        ({ s.loader with parse := s.loader.parse.take r } : Loader).working = false then s.setObj 0x2700 4 3 else s).objs ∧
      Changes [.now, .objs, .mem, .flips, .loader, .sessions, .outbox] s u

/-- Stream data (R416): a first write too short for its header is refused, and one whose header passes opens the stream
(that cause and detail of an earlier failure read 0 from then on is the model's choice, log entry 132); data of the
session whose stream is open is taken and counted, and answered at once where it completes no record; data of another
session is refused. The abort command of the holding session and the idle timeout end the stream with their causes
(R419). The end of a stream (R418, R393): a stream that passes every check makes its zone Ready with what its image
declares, or Failed where the zone checks find a fault; a stream that fails a check ends with its cause. -/
def Obligations.StreamsLoadZones : Prop :=
  ((∀ s t a bytes, (s.advance t).serves a = true → (s.advance t).turnOf a = true →
    (s.heard t a).sessionAbort a 0x2700 1 true = none → s.loader.busy = false → bytes.length < 64 → s.noWaiting →
    s.mode ≠ .load → exec (.streamDataWrite t a bytes) s = .next ((s.heard t a).refusedWith 0x06070010)) ∧
  (∀ s t a bytes c, TakesBytes s t a 0x2700 1 bytes c → s.loader.busy = false → 64 ≤ bytes.length → s.mode.fabric = true →
    s.keys.lockoutUntil = none → isWhole bytes = false → s.headerFails (bytes.take 64) = none →
    isEncrypted (bytes.take 64) = false → bytes.length < streamLen (bytes.take 64) → s.noWaiting →
    nextRecord (bytes.take 64) (payloadOf (bytes.take 64) [] bytes) {} [] bytes.length = .incomplete →
    ∃ u, exec (.streamDataWrite t a bytes) s = .next ((s.heard t a).answered u) ∧
      u.loader = { session := some (s.sessionOf a), lastWrite := max s.now t, bytes := bytes } ∧ u.obj 0x2700 4 = 1 ∧
      u.obj 0x2700 5 = s.sessionOf a ∧ u.obj 0x2700 6 = bytes.length ∧ u.obj 0x2700 7 = 0 ∧ u.obj 0x2700 8 = 0 ∧
      Changes [.objs, .loader] (s.heard t a) u) ∧
  (∀ s t a bytes c, TakesBytes s t a 0x2700 1 bytes c → s.loader.session = some (s.sessionOf a) →
    s.loader.fromSlot = false → s.loader.boot = false → s.loader.owed = none →
    isWhole s.loader.header = true ∨ s.mode.fabric = true →
    isEncrypted ((s.loader.bytes ++ bytes).take 64) = false →
    (s.loader.bytes ++ bytes).length < streamLen ((s.loader.bytes ++ bytes).take 64) →
    ({ s.loader with bytes := s.loader.bytes ++ bytes, lastWrite := max s.now t } : Loader).next = .incomplete →
    s.noWaiting → exec (.streamDataWrite t a bytes) s = .next ((s.heard t a).answered
      (({ s.heard t a with loader := { s.loader with bytes := s.loader.bytes ++ bytes, lastWrite := max s.now t } }).setObj
        0x2700 6 (s.loader.bytes ++ bytes).length))) ∧
  (∀ s t a bytes c, TakesBytes s t a 0x2700 1 bytes c → s.loader.busy = true → s.loader.session ≠ some (s.sessionOf a) →
    s.noWaiting → exec (.streamDataWrite t a bytes) s = .next ((s.heard t a).refusedWith 0x0F010D01)) ∧
  (∀ s t a c, TakesWrite s t a 0x2700 2 (natLe 1 1) c → c.written (natLe 1 1) = 1 →
    s.loader.session = some (s.sessionOf a) → s.loader.bare → s.unselected 0x2700 0x0A 1 → s.noWaiting → s.mode ≠ .load →
    exec (.streamAbort t a) s = .next ((s.heard t a).answered ((s.heard t a).streamFailed 0x0B 0))) ∧
  ∀ s t, s.loader.session.isSome = true → s.loader.fromSlot = false → s.loader.bare → s.unselected 0x2700 0x0A 1 →
    s.noWaiting → s.mode ≠ .load → exec (.streamIdleTimeout t) s = .next
      (if s.loader.lastWrite + s.objN 0x2700 3 * 4000000 ≤ max s.now t then (s.advance t).streamFailed 0x0C 0
       else s.advance t)) ∧
  ((∀ s t z, s.loader.busy = true → s.loader.bytes.length = streamLen s.loader.header → s.loader.waitDrain = none →
    s.loader.parse.begun = [z] → s.loader.dropped = [] → s.noWaiting → s.mode ≠ .load → s.unselected 0x2700 0x0A 0 →
    endFault s.loader.header s.loader.bytes s.loader.parse [] s.loader.next = none →
    (∀ r, s.loader.next = .record r → r.type = 0x0F) → (s.zone z).stage = .loading → s.objN (0x2720 + z) 3 ≠ 1 →
    z < 16 → s.unselected (0x2720 + z) 0x19 0 → s.unselected (0x2720 + z) 0x19 5 →
    ∃ u, exec (.streamEndRecord t) s = .next u ∧ u.loader = {} ∧ u.obj 0x2700 4 = 4 ∧ u.obj 0x2700 5 = 0xFF ∧
      (zoneFault z (s.zone z) (Config.zoneDecl (s.linkFrames z)) = none → (u.zone z).stage = .ready ∧
        (u.zone z).decl = Config.zoneDecl (s.linkFrames z) ∧ (u.zone z).repairDue = true ∧ (u.zone z).zeroing = none) ∧
      (∀ code, zoneFault z (s.zone z) (Config.zoneDecl (s.linkFrames z)) = some code → (u.zone z).stage = .failed) ∧
      Changes [.now, .objs, .mem, .flips, .convs, .disp, .sources, .trigOuts, .zones, .loader, .sessions, .outbox] s u) ∧
  ∀ s t cause detail, s.loader.bare → s.loader.bytes.length = streamLen s.loader.header →
    (∀ r, s.loader.next = .record r → r.type = 0x0F) → cause ≠ 4 → s.unselected 0x2700 0x0A 1 → s.noWaiting →
    s.mode ≠ .load →
    endFault s.loader.header s.loader.bytes s.loader.parse s.loader.dropped s.loader.next = some (cause, detail) →
    exec (.streamEndRecord t) s = .next ((s.advance t).streamFailed cause detail))

/-- Keys (R421, R422): KEK is written once, in SAFE, by session 0; EK once, wrapped, in IDLE by the holder of the
fixture cycle claim; a battery key slot takes a wrapped key, or is cleared by a write of no bytes; a wrapped key without
KEK, or that does not unwrap, is refused. Policy, minimum security version and lockout (R423, R424): the policy never
loses a bit and the version never falls; a lockout ends at its instant, and time without VSUP is none of it. -/
def Obligations.KeysAreWritten : Prop :=
  ((∀ s t a bytes c, TakesBytes s t a 0x2701 2 bytes c → s.mode = .safe → s.keys.kek = none →
    exec (.kekWrite t a bytes) s = .next ((s.heard t a).answered
      { s.heard t a with keys := { s.keys with kek := some bytes } })) ∧
  (∀ s t a bytes c k, TakesBytes s t a 0x2701 2 bytes c → s.mode = .safe → s.keys.kek = some k →
    exec (.kekWrite t a bytes) s = .next ((s.heard t a).refusedWith 0x0F010D06)) ∧
  (∀ s t a bytes c k x, TakesBytes s t a 0x2701 3 bytes c → s.keys.kek = some k → keyUnwrap k bytes = some x →
    s.keys.ek = none → s.mode = .idle → s.holder clsCycle 0 = some (s.sessionOf a) →
    exec (.ekWrite t a bytes) s = .next ((s.heard t a).answered
      { s.heard t a with keys := { s.keys with ek := some x } })) ∧
  (∀ s t a bytes c, TakesBytes s t a 0x2701 3 bytes c → s.keys.kek = none →
    exec (.ekWrite t a bytes) s = .next ((s.heard t a).refusedWith 0x0F010D05)) ∧
  (∀ s t a bytes c k, TakesBytes s t a 0x2701 3 bytes c → s.keys.kek = some k → keyUnwrap k bytes = none →
    exec (.ekWrite t a bytes) s = .next ((s.heard t a).refusedWith 0x0F010D07)) ∧
  (∀ s t a (k : Fin 4) bytes c kek x, TakesBytes s t a (0x2701) (4 + k) bytes c → bytes.length = 40 →
    s.keys.kek = some kek → keyUnwrap kek bytes = some x → s.mode = .idle → s.holder clsCycle 0 = some (s.sessionOf a) →
    exec (.batteryKeyWrite t a k bytes) s = .next ((s.heard t a).answered
      { s.heard t a with keys := { s.keys with battery := s.keys.battery.set k (some x), batteryLost := false } })) ∧
  ∀ s t a (k : Fin 4) c, TakesBytes s t a 0x2701 (4 + k) [] c → s.keys.kek.isSome = true → s.mode = .idle →
    s.holder clsCycle 0 = some (s.sessionOf a) →
    exec (.batteryKeyWrite t a k []) s = .next ((s.heard t a).answered
      { s.heard t a with keys := { s.keys with battery := s.keys.battery.set k none, batteryLost := false } })) ∧
  ((∀ s t a v c w, TakesWrite s t a 0x2701 8 (natLe 1 v) c → (c.written (natLe 1 v)).toNat = w →
    exec (.policyWrite t a v) s = .next (if s.keys.policy &&& w = s.keys.policy then
      (s.heard t a).answered { s.heard t a with keys := { s.keys with policy := w } }
      else (s.heard t a).refusedWith 0x0F010D08)) ∧
  (∀ s t a v c w, TakesWrite s t a 0x2701 9 (natLe 1 v) c → (c.written (natLe 1 v)).toNat = w →
    exec (.minimumSecurityVersionWrite t a v) s = .next (if s.keys.minVersion ≤ w then
      (s.heard t a).answered { s.heard t a with keys := { s.keys with minVersion := w } }
      else (s.heard t a).refusedWith 0x0F010D08)) ∧
  ∀ s t e, s.keys.lockoutUntil = some e → exec (.lockoutEnd t) s = .next (if max s.now t < e ∨ s.unsupplied = true then s.advance t
    else { s.advance t with keys := { s.keys with lockoutUntil := none } }))

/-- The battery keys (R425): without VBAT and VSUP they are lost; the next power-up reports it in bit 6 of the key
status and with cause bit 3; a write of a battery slot ends the report; the clear command empties the slots at once. -/
def Obligations.BatteryKeysAreLost : Prop :=
  (∀ s t, s.mode = .keep → s.power.vsupGood = false → ∃ u, exec (.vbatLost t) s = .next u ∧
    u.keys.battery = List.replicate 4 none ∧ u.power.batteryGone = true) ∧
  (∀ s t mv, mv < 4200 → s.mode = .wake → s.power.vbat = false → ∃ u, exec (.powerFail t mv) s = .next u ∧
    u.keys.battery = List.replicate 4 none ∧ u.power.batteryGone = true) ∧
  (∀ s t, s.mode = .save → s.power.vbat = false → ∃ u, exec (.saveSupplyCollapse t) s = .next u ∧
    u.keys.battery = List.replicate 4 none ∧ u.power.batteryGone = true) ∧
  (∀ s t, s.mode = .save → s.power.vbat = false → s.power.vsupGood = false → s.power.saveAt + 12000000 ≤ max s.now t →
    ∃ u, exec (.saveEnd t) s = .next u ∧ u.keys.battery = List.replicate 4 none ∧ u.power.batteryGone = true) ∧
  (∀ s t mv, mv < 4200 → s.mode = .off ∨ s.mode = .keep → s.power.vbat = false → ∃ u, exec (.powerFail t mv) s = .next u ∧
    u.keys.battery = List.replicate 4 none ∧ u.power.batteryGone = true ∧ u.timebase.calendarLost = true) ∧
  (∀ s t, s.power.rstnLow = true → s.mode = .off ∨ s.mode = .keep → s.power.vsupGood = true → s.power.batteryGone = true →
    ∃ u, exec (.rstnRelease t) s = .next u ∧ bitOf u.keyStatus 6 = true ∧ bitOf (u.objN 0x2700 0x0B) 3 = true) ∧
  (∀ s t mv, 4400 ≤ mv → s.mode = .off ∨ s.mode = .keep → s.power.rstnLow = false → s.power.batteryGone = true →
    ∃ u, exec (.vsupGood t mv) s = .next u ∧ bitOf u.keyStatus 6 = true ∧ bitOf (u.objN 0x2700 0x0B) 3 = true) ∧
  (∀ s : State, bitOf s.keyStatus 6 = s.keys.batteryLost) ∧
  (∀ s t a (k : Fin 4) c, TakesBytes s t a 0x2701 (4 + k) [] c → s.keys.kek.isSome = true → s.mode = .idle →
    s.holder clsCycle 0 = some (s.sessionOf a) →
    ∃ u, exec (.batteryKeyWrite t a k []) s = .next ((s.heard t a).answered u) ∧ bitOf u.keyStatus 6 = false) ∧
  (∀ s t a (k : Fin 4) bytes c kek x, TakesBytes s t a 0x2701 (4 + k) bytes c → bytes.length = 40 →
    s.keys.kek = some kek → keyUnwrap kek bytes = some x → s.mode = .idle → s.holder clsCycle 0 = some (s.sessionOf a) →
    ∃ u, exec (.batteryKeyWrite t a k bytes) s = .next ((s.heard t a).answered u) ∧ bitOf u.keyStatus 6 = false) ∧
  ∀ s t a v c, TakesWrite s t a 0x2701 0x0A (natLe 1 v) c → c.written (natLe 1 v) = 1 → s.unselected 0x2700 0x0A 3 →
    exec (.clearBatteryKeys t a v) s = .next ((s.heard t a).answered (State.caused
      { s.heard t a with keys := { s.keys with battery := List.replicate 4 none } } 0x2700 0x0B 3))

/-- Cellar slots and repair copies (R426 to R428): a slot takes a stream that passes every check, as one transaction
that begins at once or waits its turn and whose answer waits for it, and a stream that fails one is refused with its
cause shown; a load opens the stream of a slot; the copy of a zone that is Ready or Running is requested with the next
generation, and the old copy is void from the begin record of its transaction on. -/
def Obligations.SlotsAndRepairCopies : Prop :=
  (∀ s t a (slot : Fin 8) bytes c, TakesBytes s t a (0x2740 + slot) 1 bytes c → 64 ≤ bytes.length →
    bytes.length ≤ 4194304 → s.streamFault bytes = none →
    (((List.range 8).filter (· != slot.val)).map s.slotSize).sum + bytes.length ≤ 6291456 →
    s.cellar.stage ≠ 5 → s.cellarFree = false → s.cellar.waiting.length < 4 → s.loader.owed = none →
    ∃ u txn, exec (.streamSlotWrite t a slot bytes) s = .next u ∧ txn.why = .stream slot ∧
      txn.changes = [.blob 5 slot (some bytes)] ∧ txn.reply = some (.plain (s.sessionOf a)) ∧
      u.cellar.waiting = s.cellar.waiting ++ [txn] ∧ Changes [.cellar, .power] (s.heard t a) u ∧
      u.power = ((s.heard t a).accepted (s.heard t a)).power) ∧
  (∀ s t a (slot : Fin 8) bytes c, TakesBytes s t a (0x2740 + slot) 1 bytes c → 64 ≤ bytes.length →
    bytes.length ≤ 4194304 → s.streamFault bytes = none →
    (((List.range 8).filter (· != slot.val)).map s.slotSize).sum + bytes.length ≤ 6291456 →
    s.cellarFree = true → heapUnits bytes.length ≤ s.heapFree → s.loader.owed = none →
    ∃ u txn, exec (.streamSlotWrite t a slot bytes) s = .next u ∧ txn.why = .stream slot ∧
      txn.changes = [.blob 5 slot (some bytes)] ∧ txn.reply = some (.plain (s.sessionOf a)) ∧ txn.id = s.cellar.nextId ∧
      txn.units = heapUnits bytes.length ∧ u.cellar.open_ = some txn ∧ u.cellar.nextId = addWrap 32 s.cellar.nextId 1 ∧
      u.cellar.items = s.cellar.items ∧ Changes [.cellar, .power] (s.heard t a) u ∧
      u.power = ((s.heard t a).accepted (s.heard t a)).power) ∧
  (∀ s t a (slot : Fin 8) bytes c cause detail, TakesBytes s t a (0x2740 + slot) 1 bytes c → 64 ≤ bytes.length →
    bytes.length ≤ 4194304 → s.streamFault bytes = some (cause, detail) →
    exec (.streamSlotWrite t a slot bytes) s = .next (((s.heard t a).setObj 0x2700 7 cause).refusedWith 0x0F010D02)) ∧
  (∀ s t a v c n r, TakesWrite s t a 0x2700 9 (natLe 1 v) c → c.written (natLe 1 v) = (n : Nat) → n ≤ 7 →
    s.streamAbort (s.sessionOf a) ((s.item 5 n).take 64) true = none → s.loader.busy = false → s.loader.owed = none →
    s.headerFails ((s.item 5 n).take 64) = none → isEncrypted ((s.item 5 n).take 64) = false →
    (s.item 5 n).length ≤ streamLen ((s.item 5 n).take 64) →
    ({ session := some (s.sessionOf a), fromSlot := true, lastWrite := max s.now t, bytes := s.item 5 n,
       key := (s.keys.streamKey (streamSource ((s.item 5 n).take 64))).getD [] } : Loader).next = .record r →
    s.noWaiting → s.mode ≠ .load →
    ∃ u, exec (.cellarLoad t a v) s = .next ((s.heard t a).answered u) ∧ u.loader.bytes = s.item 5 n ∧
      u.loader.session = some (s.sessionOf a) ∧ u.loader.fromSlot = true ∧ u.loader.parse = {} ∧
      u.obj 0x2700 4 = (if r.type = 0x0F ∧ (s.item 5 n).length = streamLen ((s.item 5 n).take 64) then 3 else 1) ∧
      u.obj 0x2700 6 = (s.item 5 n).length ∧ Changes [.objs, .loader] (s.heard t a) u) ∧
  (∀ s t (z : ZoneNo), (s.zone z).repairDue = true → (s.zone z).stage = .ready ∨ (s.zone z).stage = .running →
    s.mode ≠ .save → s.cellarFree = true →
    ∃ u txn, exec (.repairCopyStore t z) s = .next u ∧ u.zone z = { s.zone z with repairDue := false } ∧
      Table.get 0 u.cellar.repairGens z = Table.get 0 s.cellar.repairGens z + 1 ∧ txn.why = .repair z ∧
      txn.changes = [.blob 7 z (some (repairItem s.keys.kek z (Table.get 0 s.cellar.repairGens z + 1)
        ((List.range 512).flatMap fun i => s.frame (512 * z + i))))] ∧
      u.cellar.open_ = some txn ∧ txn.id = s.cellar.nextId ∧ u.hasItem 7 z = false ∧ Changes [.now, .zones, .cellar] s u) ∧
  ∀ s t (z : ZoneNo), (s.zone z).repairDue = true → (s.zone z).stage = .ready ∨ (s.zone z).stage = .running →
    s.mode ≠ .save → s.cellar.stage ≠ 5 → s.cellarFree = false →
    ∃ u txn, exec (.repairCopyStore t z) s = .next u ∧ u.zone z = { s.zone z with repairDue := false } ∧
      Table.get 0 u.cellar.repairGens z = Table.get 0 s.cellar.repairGens z + 1 ∧ txn.why = .repair z ∧
      txn.changes = [.blob 7 z (some (repairItem s.keys.kek z (Table.get 0 s.cellar.repairGens z + 1)
        ((List.range 512).flatMap fun i => s.frame (512 * z + i))))] ∧
      u.cellar.waiting = s.cellar.waiting ++ [txn] ∧ Changes [.now, .zones, .cellar] s u

/-- The scrubber (R429 to R433; that upsets arrive with its frame checks is the model's choice, log entry 104): a frame
whose signature agrees is counted and nothing else; one that differs waits for its repair from the copy of its zone;
without a copy its zone is erased; a repair that reads back makes the frame as the copy has it, a failed one erases the
zone (that its frame then holds the copy is the model's choice, log entry 162); a sweep that has examined every frame
counts, and the next one starts. -/
def Obligations.ScrubberRepairsFrames : Prop :=
  (∀ s t (f : FrameNo) g (now : Option Bytes), (s.advance t).scrubberRuns = true → s.scrub.repair = none →
    s.nextFrame = some f.val → s.loftCopies f = List.replicate 3 (some g) → s.noWaiting → s.mode ≠ .load →
    exec (.scrubberFrameCheck t f { frame := now }) s = .next (
      let v := match now with
        | some b => { s.advance t with frames := Table.set [] s.frames f b }
        | none => s.advance t
      let u := { v.countUp 0x2702 8 with scrub := { s.scrub with next := f + 1 } }
      if frameSignature f (v.frame f) = g then u
      else if (s.copyFrame f).isSome then { u with
        scrub := { u.scrub with repair := some (f, (frameSignature f (v.frame f)).toNat, max s.now t) } }
      else u.frameLost f 1 (frameSignature f (v.frame f)).toNat (max s.now t))) ∧
  (∀ s t (f : FrameNo) g h, (s.advance t).scrubberRuns = true → s.scrub.repair = none → s.nextFrame = some f.val →
    s.loftCopies f = [some g, some h, some g] → h ≠ g → frameSignature f (s.frame f) = g → s.unselected 0x2702 0x11 2 →
    s.noWaiting → s.mode ≠ .load →
    ∃ u, exec (.scrubberFrameCheck t f {}) s = .next u ∧ u.loftCopies f = [some g, some g, some g] ∧
      u.obj 0x2702 0x0B = (s.countUp 0x2702 0x0B).obj 0x2702 0x0B ∧ u.frames = s.frames ∧
      Changes [.now, .objs, .loft, .scrub] s u) ∧
  (∀ s t (f : FrameNo) a b, (s.advance t).scrubberRuns = false → eccWord a = true → s.noWaiting → s.mode ≠ .load →
    exec (.scrubberFrameCheck t f { words := [(a, b)] }) s = .next { s.advance t with
      flips := Table.set 0#32 s.flips a (Table.get 0#32 s.flips a ^^^ b) }) ∧
  (∀ s f outcome found stamp, (s.zone (f / 512)).stage = .ready ∨ (s.zone (f / 512)).stage = .running →
    (State.frameLost s f outcome found stamp).scrub = { s.scrub with
      repair := none, unrepairable := true, foundUnrepairable := true } ∧
    ((State.frameLost s f outcome found stamp).zone (f / 512)).stage =
      (if (s.zone (f / 512)).stage = .ready then .empty else .draining)) ∧
  (∀ s t f found stamp b ok, (s.advance t).scrubberRuns = true → s.scrub.repair = some (f, found, stamp) →
    s.scrubs f = true → s.copyFrame f = some b → s.loftCopies f = List.replicate 3 (some (frameSignature f b)) →
    s.noWaiting → s.mode ≠ .load →
    ∃ u, exec (.frameRepair t ok) s = .next u ∧ u.scrub.repair = none ∧
      (ok = true → u.frames = Table.set [] s.frames f b ∧ u.zones = s.zones ∧ u.scrub = { s.scrub with repair := none }) ∧
      (ok = false → u = { (s.advance t).frameLost f 2 found stamp with frames := Table.set [] s.frames f b })) ∧
  ∀ s t a b c d e, (s.advance t).scrubberRuns = true → s.scrub.repair = none → s.nextFrame = none → s.mode ≠ .hold →
    s.scrub.copies = List.replicate 3 [a, b, c, d, e] →
    exec (.scrubberSweepEnd t) s = .next { ((s.advance t).countUp 0x2702 6).setObj 0x2702 7
        ((max s.now t - s.scrub.sweepStart) / 4000 % 2 ^ 32 : Nat) with
      scrub := { s.scrub with
        unrepairable := s.scrub.unrepairable && s.scrub.foundUnrepairable, foundUnrepairable := false
        lastAdvance := max s.now t, sweepsSinceReset := s.scrub.sweepsSinceReset + 1, active := [a, b, c, d, e], next := 0
        sweepStart := max s.now t } }

/-! ## Sessions, the transport and claims -/

/-- A session opens on CAN0 or NET by challenge and proof (R458 to R460): an opening takes the lowest free number and
draws a nonce, or is refused, counted and signalled; a proof under the key of the slot opens the session with its
session key; a proof that does not come in time counts against the slot; a lockout ends at its instant, and time without
VSUP is none of it. That an opening whose header is not as R446 lays it out is discarded and counted is the model's
choice (log entry 165). -/
def Obligations.SessionsOpenByProof : Prop :=
  (∀ s t d (n : SessionNo), d.link ≠ .can0 → s.mode.serves = true → s.linkAnswers d.link = true → d.opcode = 1 → openingHeader d = true →
    (s.advance t).openAbort d = none → n ≠ 0 → (s.session n).stage = .free →
    (∀ m : SessionNo, m < n → m ≠ 0 → (s.session m).stage ≠ .free) →
    exec (.openDatagram t d) s = .next (((s.advance t).setSession n {
      stage := .reserved, link := d.link, slot := fieldLe d.payload 0 1, addr := d.addr
      streamPort := fieldLe d.payload 2 2, lease := grantedLease (fieldLe d.payload 4 4), hn := sliceBytes d.payload 8 16
      dn := s.nonce, challengedAt := max s.now t }).nextFresh.send (.datagram n 2 1 0 d.reqId s.nonce []))) ∧
  (∀ s t d code, d.link ≠ .can0 → s.mode.serves = true → s.linkAnswers d.link = true → d.opcode = 1 → openingHeader d = true →
    (s.advance t).openAbort d = some code → s.unselected 0x2100 5 2 →
    exec (.openDatagram t d) s = .next (State.send (((s.advance t).countUp 0x2100 2).caused 0x2100 6 2)
      (.datagram d.session 1 3 0 d.reqId (natLe 4 code) []))) ∧
  (∀ s t d (n : SessionNo) x key, d.link ≠ .can0 → s.mode.serves = true → s.linkAnswers d.link = true → d.opcode = 3 → openingHeader d = true →
    d.session = n.val → n ≠ 0 → s.session n = x → x.stage = .reserved → x.link = d.link → x.addr = d.addr →
    s.hostKey x.slot = some key → max s.now t < x.challengedAt + 4000000000 →
    d.payload = hostProof key n (linkCode x.link) x.hn x.dn → (s.advance t).slotRefusal x.slot (linkCode x.link) = none →
    Table.get 0 s.keyFailures x.slot = 0 → s.unselected 0x2100 5 0 →
    exec (.proof t d) s = .next ((State.caused (((s.advance t).clearOwn n).setSession n { x with
        stage := .open_, ks := sessionKey key n (linkCode x.link) x.hn x.dn, opened := max s.now t
        renewed := max s.now t }) 0x2100 6 0).sendDatagram n 4 1 d.reqId
          (natLe 4 x.lease ++ deviceProof key n (linkCode x.link) x.hn x.dn))) ∧
  (∀ s t d, d.link ≠ .can0 → s.mode.serves = true → s.linkAnswers d.link = true → openingHeader d = false →
    (d.opcode = 1 → exec (.openDatagram t d) s = .next ((s.advance t).discards d)) ∧
    (d.opcode = 3 → exec (.proof t d) s = .next ((s.advance t).discards d))) ∧
  (∀ s t bytes c h, TakesBytes s t (.session 0) 0x2105 1 bytes c → s.isOpen 0 = false → fieldLe bytes 0 1 = h →
    (s.advance t).slotRefusal h 0 = none →
    exec (.sessionOpenWrite t bytes) s = .next ((s.advance t).answered (((s.advance t).setSession 0 {
      stage := .reserved, slot := h, hn := sliceBytes bytes 1 16, dn := s.nonce, challengedAt := max s.now t
      lease := grantedLease (s.objN 0x2105 5) }).setBlob 0x2105 2 s.nonce).nextFresh)) ∧
  (∀ s t bytes c x key, TakesBytes s t (.session 0) 0x2105 3 bytes c → s.session 0 = x → x.stage = .reserved →
    s.hostKey x.slot = some key → max s.now t < x.challengedAt + 4000000000 →
    bytes = hostProof key 0 (linkCode x.link) x.hn x.dn → (s.advance t).slotRefusal x.slot (linkCode x.link) = none →
    Table.get 0 s.keyFailures x.slot = 0 → s.unselected 0x2100 5 0 →
    exec (.sessionProofWrite t bytes) s = .next ((s.advance t).answered (State.caused (((((s.advance t).setBlob 0x2105 2
      []).setBlob 0x2105 4 (deviceProof key 0 0 x.hn x.dn)).clearOwn 0).setSession 0 { x with
        stage := .open_, ks := sessionKey key 0 (linkCode x.link) x.hn x.dn, opened := max s.now t
        renewed := max s.now t }) 0x2100 6 0))) ∧
  (∀ s t (n : SessionNo), (s.session n).stage = .reserved → max s.now t < (s.session n).challengedAt + 4000000000 →
    exec (.proofTimeout t n) s = .next (s.advance t)) ∧
  (∀ s t (n : SessionNo), (s.session n).stage = .reserved → (s.session n).challengedAt + 4000000000 ≤ max s.now t →
    (s.session n).slot ≤ 7 → s.unselected 0x2100 5 2 → ∃ u, exec (.proofTimeout t n) s = .next u ∧ u.session n = {} ∧
      Table.get 0 u.keyFailures (s.session n).slot = addWrap 32 (Table.get 0 s.keyFailures (s.session n).slot) 1 ∧
      u.obj 0x2100 2 = addWrap 32 (s.objN 0x2100 2) 1 ∧
      Changes [.now, .objs, .blobs, .sessions, .keyFailures, .keyLockouts, .cellar, .log] s u) ∧
  ∀ s t (h : Fin 8) e, Table.get none s.keyLockouts h = some e → exec (.keySlotLockoutEnd t h) s = .next
    (if max s.now t < e ∨ s.unsupplied = true then s.advance t
     else { s.advance t with keyLockouts := Table.set none s.keyLockouts h none })

/-- The state in which an authentic datagram of a session acts: it is counted, its sequence number is taken and the lease
renewed (R448, R462). -/
def Sys2Proof.Machine.State.took (s : State) (t : Tk) (d : Datagram) : State := (s.advance t).takesDatagram d

/-- The same with no transfer open. -/
def Sys2Proof.Machine.State.tookAnew (s : State) (t : Tk) (d : Datagram) : State :=
  (s.took t d).setSession d.session { (s.took t d).session d.session with transfer := none }

/-- A datagram of an open session is a new request that acts at once (R446 to R449): it arrives on a link that answers, is
authentic, and nothing of its session executes. -/
structure Sys2Proof.Machine.ActsAtOnce (s : State) (t : Tk) (d : Datagram) (op : Nat) : Prop where
  link : d.link ≠ .can0
  serves : s.mode.serves = true
  answers : s.linkAnswers d.link = true
  opcode : d.opcode = op
  authentic : (s.advance t).authentic d = true
  idle : s.executing d.session = false
  new : ∀ k ∈ (s.session d.session).kept, k.reqId ≠ d.reqId

/-- Requests of a session on NET (R447, R451, R463): KEEPALIVE answers the lease and the mode, READ and DOMAIN READ the
object, WRITE performs the write of its object, and CLOSE ends the session after its response. DOMAIN transfers (R451):
a begin opens a transfer, unless its length is more than the device can buffer, a segment places its bytes without an
answer, and an end performs the write of the whole content, or names the first missing offset. A datagram that is not
authentic is discarded and counted (R448). -/
def Obligations.NetworkRequestsAreServed : Prop :=
  ((∀ s t d, ActsAtOnce s t d 0x06 → exec (.keepalive t d) s = .next ((s.took t d).respond d.session 0x06 d.reqId 1
    (natLe 4 (s.session d.session).lease ++ natLe 1 s.mode.code))) ∧
  (∀ s t d c bytes, ActsAtOnce s t d 0x10 → d.payload.length = 3 →
    (s.took t d).readObject (asSession d.session) (datagramIndex d) (datagramSub d) = .ok (c, bytes) →
    exec (.read t d) s = .next (((s.took t d).accepted (s.took t d)).respond d.session 0x10 d.reqId 1
      (readPayload c bytes))) ∧
  (∀ s t d c bytes, ActsAtOnce s t d 0x12 → d.payload.length = 10 → 1 ≤ fieldLe d.payload 8 2 →
    fieldLe d.payload 8 2 ≤ 1024 →
    (s.took t d).readObject (asSession d.session) (datagramIndex d) (datagramSub d) = .ok (c, bytes) →
    exec (.domainRead t d) s = .next (((s.took t d).accepted (s.took t d)).respond d.session 0x12 d.reqId 1
      (natLe 4 bytes.length ++ sliceBytes bytes (fieldLe d.payload 4 4) (fieldLe d.payload 8 2)))) ∧
  (∀ s t d u, ActsAtOnce s t d 0x11 → d.payload.length = 16 → 1 ≤ fieldLe d.payload 3 1 → fieldLe d.payload 3 1 ≤ 8 →
    (s.took t d).writeObject (asSession d.session) (datagramIndex d) (datagramSub d)
      (sliceBytes d.payload 8 (fieldLe d.payload 3 1)) = .ok u →
    (s.took t d).owes u = false → u.noWaiting → u.mode ≠ .load →
    exec (.write t d) s = .next (((s.took t d).accepted u).respond d.session 0x11 d.reqId 1 [])) ∧
  (∀ s t d code, ActsAtOnce s t d 0x11 → d.payload.length = 16 → 1 ≤ fieldLe d.payload 3 1 → fieldLe d.payload 3 1 ≤ 8 →
    (s.took t d).writeObject (asSession d.session) (datagramIndex d) (datagramSub d)
      (sliceBytes d.payload 8 (fieldLe d.payload 3 1)) = .error { code := code, after := none } →
    code ≠ 0 → s.noWaiting → s.mode ≠ .load →
    exec (.write t d) s = .next ((s.took t d).respond d.session 0x11 d.reqId 3 (natLe 4 code))) ∧
  (∀ s t d, ActsAtOnce s t d 0x05 → s.closeAbort d.session = none → exec (.close t d) s = .next
    ((((s.took t d).closeStreamsOf d.session closedBySession).respond d.session 0x05 d.reqId 1 []).endSession d.session
      (0x10 + d.session)).letGo) ∧
  ∀ s t d k, d.link ≠ .can0 → s.mode.serves = true → s.linkAnswers d.link = true → d.opcode = 0x10 →
    (s.advance t).authentic d = true → (s.session d.session).kept.find? (fun k => k.reqId == d.reqId) = some k →
    exec (.read t d) s = .next ((s.took t d).sendDatagram d.session k.opcode k.flags k.reqId k.payload)) ∧
  ((∀ s t d, ActsAtOnce s t d 0x13 → d.payload.length = 8 →
    (s.tookAnew t d).beginChecks (asSession d.session) (datagramIndex d) (datagramSub d) (fieldLe d.payload 4 4) = .ok () →
    exec (.domainBegin t d) s = .next (if Config.transferBuffer < fieldLe d.payload 4 4 then
        (s.tookAnew t d).respond d.session 0x13 d.reqId 3 (natLe 4 0x05040005)
      else ((s.tookAnew t d).accepted ((s.tookAnew t d).setSession d.session
      { (s.tookAnew t d).session d.session with
        transfer := some { id := d.reqId, idx := datagramIndex d, sub := datagramSub d, total := fieldLe d.payload 4 4 } })
      ).respond d.session 0x13 d.reqId 1 [])) ∧
  (∀ s t d x, ActsAtOnce s t d 0x14 → (s.session d.session).transfer = some x → x.id = fieldLe d.payload 0 4 →
    d.payload.drop 8 ≠ [] → (d.payload.drop 8).length ≤ 1024 →
    exec (.domainSegment t d) s = .next ((s.took t d).setSession d.session { (s.took t d).session d.session with
      transfer := some (x.place (fieldLe d.payload 4 4) (d.payload.drop 8)) })) ∧
  (∀ s t d x i, ActsAtOnce s t d 0x15 → (s.session d.session).transfer = some x → x.id = fieldLe d.payload 0 4 →
    d.payload.length = 4 → x.missing = some i → s.noWaiting → s.mode ≠ .load →
    exec (.domainEnd t d) s = .next ((s.took t d).respond d.session 0x15 d.reqId 5 (natLe 4 i))) ∧
  (∀ s t d x u, ActsAtOnce s t d 0x15 → (s.session d.session).transfer = some x → x.id = fieldLe d.payload 0 4 →
    d.payload.length = 4 → x.missing = none →
    (s.tookAnew t d).writeObject (asSession d.session) x.idx x.sub x.content = .ok u →
    (s.tookAnew t d).owes u = false → u.noWaiting → u.mode ≠ .load →
    exec (.domainEnd t d) s = .next (((s.tookAnew t d).accepted u).respond d.session 0x15 d.reqId 1 [])) ∧
  ∀ s t d, d.link ≠ .can0 → s.mode.serves = true → s.linkAnswers d.link = true → d.opcode = 0x06 →
    (s.advance t).datagramOpen d = true → (s.advance t).authentic d = false →
    exec (.keepalive t d) s = .next (((s.advance t).countUp 0x2100 3).countUp (linkObject d.link) 0x0B))

/-- CAN0 (R454 to R456): the USDO server reads and writes objects as session 0, on the identifiers of its node, an
unfinished transfer ends after 1,000 ms, NMT sets the state of the node and, by a reset, ends session 0 once its
accepted requests have completed, and heartbeats go out at their period. The signals of the links show as they are
(R537), and a NET link answers for its own address and discards, with a count, what it does not take (R445). -/
def Obligations.Can0Serves : Prop :=
  (∀ s t idx sub c bytes v, s.mode.serves = true → s.linkAnswers .can0 = true → s.executing 0 = false → (s.session 0).ending = false →
    v = (s.heard t (.session 0)).usdoSet none → v.readObject (.session 0) idx sub = .ok (c, bytes) →
    bytes.length ≤ 56 → s.noWaiting → s.mode ≠ .load →
    exec (.usdoRequest t ⟨0x600 + s.links.nodeId, .upload idx sub⟩) s = .next ((v.accepted v).send
      (.usdo (0x580 + s.links.nodeId) 0 bytes))) ∧
  (∀ s t idx sub bytes v u, s.mode.serves = true → s.linkAnswers .can0 = true → s.executing 0 = false → (s.session 0).ending = false →
    v = (s.heard t (.session 0)).usdoSet none → bytes.length ≤ 56 → v.writeObject (.session 0) idx sub bytes = .ok u →
    v.owes u = false → u.noWaiting → u.mode ≠ .load →
    exec (.usdoRequest t ⟨0x600 + s.links.nodeId, .download idx sub bytes⟩) s = .next ((v.accepted u).send
      (.usdo (0x580 + u.links.nodeId) 0 []))) ∧
  (∀ s t (f : UsdoFrame), s.noWaiting → s.mode ≠ .load → f.ident ≠ 0x600 + s.links.nodeId →
    exec (.usdoRequest t f) s = .next (s.advance t)) ∧
  (∀ s t x, s.links.usdo = some x → exec (.usdoTimeout t) s = .next (if x.lastFrame + 4000000000 ≤ max s.now t then
    { s.advance t with links := { s.links with usdo := none } }.send (.usdo (0x580 + s.links.nodeId) 0x05040000 []) else s.advance t)) ∧
  (∀ s t, s.ready 4 = true →
    exec (.nmtStopped t) s = .next { s.advance t with links := { s.links with nmt := .stopped } } ∧
    exec (.nmtOperational t true) s = .next { s.advance t with links := { s.links with nmt := .operational } } ∧
    exec (.nmtOperational t false) s = .next { s.advance t with links := { s.links with nmt := .preOperational } } ∧
    ∀ v w, v = (s.advance t).setSession 0 { s.session 0 with ending := s.isOpen 0 } →
      w = (if s.isOpen 0 = true ∧ s.executing 0 = false ∧ (s.session 0).waiting = [] then v.endSession 0 0 else v) →
      exec (.nmtReset t) s = .next (State.letGo { w with links := { w.links with
        nodeId := w.objN 0x1E10 1, bitRate := w.objN 0x1E10 2, dataBitRate := w.objN 0x1E10 3, nmt := .preOperational
        usdo := none, canState := 0, canTec := 0, canRxErr := 0, lastHeartbeat := w.now } })) ∧
  (∀ s t, s.objN 0x1017 0 ≠ 0 → s.mode.serves = true → s.ready 4 = true → s.links.canState ≠ 2 →
    exec (.heartbeat t) s = .next (if s.links.lastHeartbeat + s.objN 0x1017 0 * 4000000 ≤ max s.now t then
      { s.advance t with links := { s.links with lastHeartbeat := max s.now t } }.send
        (.heartbeat (0x700 + s.links.nodeId) s.links.nmt.byte) else s.advance t)) ∧
  (∀ s t (n : Fin 2) lock valid absent los fault, exec (.hostLinkStateChange t (.net n lock valid absent los fault)) s =
    .next { s.advance t with links := { s.links with
      blockLock := s.links.blockLock.set n (lock && !absent && !los && !fault)
      addressValid := s.links.addressValid.set n valid
      moduleSignals := s.links.moduleSignals.set n (absent, los, fault) } }) ∧
  (∀ s t (n : Fin 2) a, s.mode.serves = true → s.linkAnswers (if n = 0 then .net0 else .net1) = true →
    exec (.hostLinkStateChange t (.frame n (.arp a))) s = .next (if (s.links.nets.getD n {}).owns a = true then
      (s.advance t).send (.neighbour n (natBe 4 a.toNat) (Config.mac n).toNat) else s.advance t)) ∧
  (∀ s t (n : Fin 2) a p, s.mode.serves = true → s.linkAnswers (if n = 0 then .net0 else .net1) = true →
    exec (.hostLinkStateChange t (.frame n (.echo4 a p))) s = .next (if (s.links.nets.getD n {}).owns a = true then
      (s.advance t).send (.echo n p) else s.advance t)) ∧
  (∀ s t (n : Fin 2), s.mode.serves = true → s.linkAnswers (if n = 0 then .net0 else .net1) = true →
    ∀ f ∈ [NetFrame.vlan, .jumbo, .fragment],
      exec (.hostLinkStateChange t (.frame n f)) s = .next ((s.advance t).countUp (0x1E00 + n) 0x0B)) ∧
  ∀ s t (e : Fin 3) tec rec, exec (.hostLinkStateChange t (.can e tec rec)) s = .next { s.advance t with
    links := { s.links with canState := e, canTec := tec, canRxErr := rec } }

/-- Claims (R465 to R467, R475): a list takes all of its resources or none, and its refusal shows the first entry that
another session holds; a release ends the claims of its list; a query captures the holder. The end of a session (R462,
R463): a lease that has run out, while no request of its session executes, is counted and ends the session; a session
that has ended is free and holds nothing. -/
def Obligations.ClaimsAndSessionsEnd : Prop :=
  ((∀ s t a bytes c, TakesBytes s t a 0x2102 1 bytes c → s.listAbort (s.sessionOf a) bytes = none →
    (claimEntries bytes).find? (s.heldElsewhere (s.sessionOf a)) = none →
    ∃ u, exec (.claim t a bytes) s = .next ((s.heard t a).answered u) ∧
      (∀ e ∈ claimEntries bytes, ∀ r ∈ e.resources, u.holder r.1 r.2 = some (s.sessionOf a)) ∧
      (∀ cls n : Nat, n < 2 ^ 20 → (∀ e ∈ claimEntries bytes, (cls, n) ∉ e.resources) → u.holder cls n = s.holder cls n) ∧
      Changes [.claims, .objs, .ports, .fresh] (s.heard t a) u) ∧
  (∀ s t a bytes c e, TakesBytes s t a 0x2102 1 bytes c → s.listAbort (s.sessionOf a) bytes = none →
    (claimEntries bytes).find? (s.heldElsewhere (s.sessionOf a)) = some e → exec (.claim t a bytes) s =
      .next (((s.heard t a).setOwn (s.sessionOf a) 0x2103 1 (e.word &&& 0x000FFFFF0FFFFFFF)).refusedWith 0x0F010101)) ∧
  (∀ s t a bytes c u, TakesBytes s t a 0x2102 2 bytes c → s.listAbort (s.sessionOf a) bytes = none →
    s.bound = false ∨ s.holder clsCycle 0 ≠ some (s.sessionOf a) ∨
      (clsCycle, 0) ∉ (claimEntries bytes).flatMap ClaimEntry.resources →
    u = (s.heard t a).endClaims (s.sessionOf a) ((claimEntries bytes).flatMap ClaimEntry.resources) →
    (s.heard t a).owes u = false → exec (.release t a bytes) s = .next ((s.heard t a).answered u).letGo) ∧
  (∀ s t a bytes c, TakesBytes s t a 0x2102 2 bytes c → s.listAbort (s.sessionOf a) bytes = none → s.bound = true →
    s.holder clsCycle 0 = some (s.sessionOf a) → (clsCycle, 0) ∈ (claimEntries bytes).flatMap ClaimEntry.resources →
    s.disp.slot.isSome = true → s.noWaiting → s.mode ≠ .load →
    exec (.release t a bytes) s = .next ((s.heard t a).refusedWith 0x0F010103)) ∧
  (∀ s t a v c u, TakesWrite s t a 0x2102 3 (natLe 1 v) c → c.written (natLe 1 v) = 1 → s.bound = false →
    u = (s.heard t a).endClaims (s.sessionOf a) (s.heldBy (s.sessionOf a)) → (s.heard t a).owes u = false →
    exec (.releaseAll t a v) s = .next ((s.heard t a).answered u).letGo) ∧
  (∀ (s : State) who rs cls n, (cls, n) ∈ rs → cls ≠ clsQueue ∨ isEventQueue n = false → s.holder cls n = some who → (s.endClaims who rs).holder cls n = none) ∧
  ∀ s t a v c w, TakesWrite s t a 0x2103 1 (natLe 8 v) c → (c.written (natLe 8 v)).toNat = w →
    exec (.claimQuery t a v) s = .next ((s.heard t a).answered (((s.heard t a).setOwn (s.sessionOf a) 0x2103 1 w).setOwn
      (s.sessionOf a) 0x2103 2 ((s.holder (claimEntry w).cls (claimEntry w).first).getD 0xFF)))) ∧
  ((∀ s t (n : SessionNo), s.isOpen n = true → s.executing n = false →
    (s.session n).renewed + (s.session n).lease * 4000000 ≤ max s.now t →
    exec (.leaseExpired t n) s = .next (((s.advance t).countUp 0x2100 4).endSession n 0).letGo) ∧
  (∀ s t (n : SessionNo), s.noWaiting → s.mode ≠ .load → s.isOpen n = false ∨ s.executing n = true ∨
    max s.now t < (s.session n).renewed + (s.session n).lease * 4000000 →
    exec (.leaseExpired t n) s = .next (s.advance t)) ∧
  ∀ (s : State) n why, s.isOpen n = true → (s.endSession n why).session n = {} ∧
    ∀ cls k, (s.endSession n why).holder cls k ≠ some n)

/-- The fixture cycle (R25, R26, R469): a bind in IDLE begins RUN, or THROTTLE while the governor's level is above 0; a
release is refused while a plan runs, and ends in IDLE at once, or when the last port has left park. -/
def Obligations.FixtureCycle : Prop :=
  (∀ s t a c, TakesWrite s t a 0x2104 1 (natLe 1 1) c → c.written (natLe 1 1) = 1 → s.unselected 0x2000 0x0D 0 →
    s.unselected 0x2100 5 4 → s.mode = .idle →
    ∃ u, exec (.bind t a) s = .next ((s.heard t a).answered u) ∧ u.cycle = { boundBy := some (s.sessionOf a) } ∧
      u.mode = (if s.objN 0x2201 1 = 0 then .run else .throttle) ∧ u.obj 0x2104 4 = (max s.now t : Nat) ∧
      u.obj 0x2104 6 = addWrap 32 (s.objN 0x2104 6) 1 ∧
      Changes [.mode, .objs, .ports, .pins, .convs, .disp, .sources, .timebase, .trigOuts, .queues, .cycle, .log, .fresh]
        (s.heard t a) u) ∧
  (∀ s t a c, TakesWrite s t a 0x2104 1 (natLe 1 2) c → c.written (natLe 1 2) = 2 → s.bound = true →
    s.disp.slot.isSome = true → s.noWaiting → s.mode ≠ .load →
    exec (.fixtureRelease t a) s = .next ((s.heard t a).refusedWith 0x0F010103)) ∧
  (∀ s t a c, TakesWrite s t a 0x2104 1 (natLe 1 2) c → c.written (natLe 1 2) = 2 →
    s.bound = false ∨ s.disp.slot = none ∧ s.cycle.releasing = true → s.noWaiting → s.mode ≠ .load →
    exec (.fixtureRelease t a) s = .next ((s.heard t a).answered (s.heard t a))) ∧
  ∀ s t a c, TakesWrite s t a 0x2104 1 (natLe 1 2) c → c.written (natLe 1 2) = 2 → s.bound = true →
    s.disp.slot = none → s.cycle.releasing = false → s.mode = .run ∨ s.mode = .throttle → s.noWaiting →
    ∃ u, exec (.fixtureRelease t a) s = .next ((s.heard t a).answered u) ∧
      (u.cycle = {} ∧ u.mode = .idle ∨ u.cycle.releasing = true ∧ u.mode = s.mode) ∧
      Changes [.mode, .objs, .ports, .pins, .convs, .chains, .map, .disp, .busSources, .sources, .timebase, .trigOuts, .queues,
        .zones, .cycle, .cellar, .log, .fresh] (s.heard t a) u

/-- A request left a transaction for a purpose: it begins where the Cellar is free, else it waits its turn; its end answers the
request, which changed nothing else (R450, R481, R482). -/
def Sys2Proof.Machine.State.asksCellar (s : State) (a : Accessor) (t : Tk) (why : TxnFor) (changes : List Stored) (u : State) :
    Prop :=
  (∃ txn, txn.why = why ∧ txn.changes = changes ∧ txn.reply = some (.plain (s.sessionOf a)) ∧
    txn.units = unitsOf changes ∧
    (s.cellarFree = true → u.cellar.open_ = some txn ∧ txn.id = s.cellar.nextId) ∧
    (s.cellarFree = false → u.cellar.waiting = s.cellar.waiting ++ [txn] ∧ u.cellar.open_ = s.cellar.open_)) ∧
  u.cellar.items = s.cellar.items ∧ u.cellar.values = s.cellar.values ∧
  Changes [.cellar, .power] (s.heard t a) u ∧ u.power = ((s.heard t a).accepted (s.heard t a)).power

/-- The Cellar takes a request for changes (R481, R482): it has not failed, and is free with heap units enough for them, or
has fewer than four requests waiting. -/
def Sys2Proof.Machine.State.cellarTakes (s : State) (changes : List Stored) : Prop :=
  s.cellar.stage ≠ 5 ∧ s.loader.owed = none ∧
    (s.cellarFree = true ∧ unitsOf changes ≤ s.heapFree ∨ s.cellarFree = false ∧ s.cellar.waiting.length < 4)

/-! ## The Cellar and calibration -/

/-- The command ends what nothing waits for: no reset, no request and no load. -/
def Sys2Proof.Machine.State.undisturbed (s : State) : Prop :=
  s.power.resetPending = none ∧ s.noWaiting ∧ s.mode ≠ .load

/-- The transaction that is open is one of a host's settings or of the device itself, no other waits, and the device is not in
SAVE. -/
def Sys2Proof.Machine.State.onlyOpen (s : State) (x : Txn) : Prop :=
  s.mode ≠ .save ∧ (s.cellar.open_ = some x ∧ s.cellar.waiting = [] ∧ x.why = .setting ∨
    s.cellar.open_ = some x ∧ s.cellar.waiting = [] ∧ x.why = .counter)

/-- What the Cellar holds once a transaction has committed: every change of it, its extents in free heap units (that these are the
lowest ones is the model's choice, log entry 167). -/
def Sys2Proof.Machine.State.afterCommit (s : State) (x : Txn) : Cellar :=
  (placed (s.cellar.heap.flatMap (·.2)) x.changes).foldl applyStored s.cellar

/-- The root in force is the one that the Cellar works with (R479). -/
def Sys2Proof.Machine.Cellar.rooted (c : Cellar) : Prop :=
  ∃ k, c.inForce = some k ∧ (c.root k).half = c.activeHalf ∧ (c.root k).generation = c.generation ∧
    (c.root k).firstTxn = c.firstTxn

/-- Host keys and the stores of every setting (R444, R458): a host key slot takes a wrapped key, or is cleared, and
keeps its link mask; the store command asks for the present value of every storable object, the restore command for
none; both take no other value than their own (that the static IPv6 addresses are among them is read from R473, log
entry 166). Transactions (R481, R482): a commit makes every change of the open transaction take effect together, and
counts; an abandonment, for a failed read-back or for want of heap units, leaves every item as it was, counts, is
logged, and refuses the write that asked for it; in SAVE neither comes with a command (R485). That a begin and an
abandon record are what the journal counts of an abandoned transaction is the model's choice (log entry 134). -/
def Obligations.CellarTransactions : Prop :=
  ((∀ s t a (h : Fin 8) bytes c kek key, TakesBytes s t a (0x2110 + h) 1 bytes c → bytes.length = 40 →
    s.keys.kek = some kek → keyUnwrap kek bytes = some key → s.mode = .idle →
    s.sessionOf a = 0 ∨ s.holder clsCycle 0 = some (s.sessionOf a) → s.cellarTakes [] →
    ∃ u, exec (.hostKeyWrite t a h bytes) s = .next u ∧
      s.asksCellar a t (.key h) [.blob 9 h (some (natLe 1 (slotMask (s.itemToBe 9 h)) ++ key))] u) ∧
  (∀ s t a (h : Fin 8) c, TakesBytes s t a (0x2110 + h) 1 [] c → s.keys.kek.isSome = true → s.mode = .idle →
    s.sessionOf a = 0 ∨ s.holder clsCycle 0 = some (s.sessionOf a) → s.cellarTakes [] →
    ∃ u, exec (.hostKeyWrite t a h []) s = .next u ∧
      s.asksCellar a t (.key h) [.blob 9 h (some (natLe 1 (slotMask (s.itemToBe 9 h))))] u) ∧
  (∀ s t a v c, TakesWrite s t a 0x1010 1 (natLe 4 v) c → c.written (natLe 4 v) = 0x65766173 → s.cellarTakes [] →
    ∃ u, exec (.store t a v) s = .next u ∧
      s.asksCellar a t .store ((storableKeys.map fun k => .value k (some (s.objAt k))) ++
        [0x1E00, 0x1E01].map fun idx => .blob 1 (objKey idx 7) (some (s.blob idx 7))) u) ∧
  (∀ s t a v c, TakesWrite s t a 0x1011 1 (natLe 4 v) c → c.written (natLe 4 v) = 0x64616F6C → s.cellarTakes [] →
    ∃ u, exec (.restoreDefaults t a v) s = .next u ∧
      s.asksCellar a t .restore ((s.cellar.values.map fun x => .value x.1 none) ++
        [.blob 1 (objKey 0x1E00 7) none, .blob 1 (objKey 0x1E01 7) none]) u) ∧
  ∀ s t a v c, (TakesWrite s t a 0x1010 1 (natLe 4 v) c → (c.written (natLe 4 v)).toNat ≠ 0x65766173 →
      exec (.store t a v) s = .next ((s.heard t a).refusedWith 0x06090030)) ∧
    (TakesWrite s t a 0x1011 1 (natLe 4 v) c → (c.written (natLe 4 v)).toNat ≠ 0x64616F6C →
      exec (.restoreDefaults t a v) s = .next ((s.heard t a).refusedWith 0x06090030))) ∧
  ((∀ s t x, s.onlyOpen x → s.txnFits x = true → x.reply = none → s.undisturbed →
    ∃ u, exec (.cellarCommit t) s = .next u ∧ u.cellar.values = (s.afterCommit x).values ∧
      u.cellar.items = (s.afterCommit x).items ∧ u.cellar.heap = (s.afterCommit x).heap ∧ u.cellar.open_ = none ∧
      u.cellar.journal = s.cellar.journal + x.size ∧ u.cellar.records = s.cellar.records ++
        [{ id := x.id, start := s.cellar.journal, upTo := s.cellar.journal + x.size
           ending := .committed (placed (s.cellar.heap.flatMap (·.2)) x.changes) }] ∧ u.obj 0x2600 7 = addWrap 32 (s.objN 0x2600 7) 1 ∧
      Changes [.now, .objs, .cellar] s u) ∧
  (∀ s t x n, s.onlyOpen x → s.txnFits x = true → x.reply = some (.plain n) → s.undisturbed →
    ∃ u, exec (.cellarCommit t) s = .next u ∧ u.cellar.values = (s.afterCommit x).values ∧
      u.outbox = s.outbox ++ [.answer 0 []] ∧ Changes [.now, .objs, .cellar, .sessions, .outbox] s u) ∧
  (∀ s t x n addr, s.onlyOpen x → x.reply = some (.plain n) → s.undisturbed → s.unselected 0x2600 0x0D 1 →
    ∃ u, exec (.cellarAbandon t (.readBack addr)) s = .next u ∧ u.cellar.values = s.cellar.values ∧
      u.cellar.items = s.cellar.items ∧ u.cellar.open_ = none ∧ u.cellar.records = s.cellar.records ++
        [{ id := x.id, start := s.cellar.journal, upTo := s.cellar.journal + 48, ending := .abandoned }] ∧
      u.obj 0x2600 8 = addWrap 32 (s.objN 0x2600 8) 1 ∧ u.outbox = s.outbox ++ [.answer 0x08000000 []] ∧
      Changes [.now, .objs, .cellar, .log, .sessions, .outbox] s u) ∧
  (∀ s t x n, s.onlyOpen x → s.txnFits x = false → x.reply = some (.plain n) → s.undisturbed →
    s.unselected 0x2600 0x0D 1 → s.unselected 0x2600 0x0D 2 →
    ∃ u, exec (.cellarAbandon t .space) s = .next u ∧ u.cellar.values = s.cellar.values ∧
      u.cellar.items = s.cellar.items ∧ u.cellar.open_ = none ∧ u.outbox = s.outbox ++ [.answer 0x0F011001 []]) ∧
  (∀ s t x, s.onlyOpen x → s.txnFits x = true → s.undisturbed →
    exec (.cellarAbandon t .space) s = .next (s.advance t)) ∧
  ∀ s t reason, s.mode = .save → s.undisturbed → exec (.cellarCommit t) s = .next (s.advance t) ∧
    exec (.cellarAbandon t reason) s = .next (s.advance t))

/-- Replay, compaction and errors (R8, R483, R484, R486): a replay happens once in WAKE, and brings every committed
value in place of its default and the stored failure counters; it stops at the first record that fails its CRC or whose
id is too low, and a value is then that of the directory and the transactions before it (that such an error acts at the
next replay is the model's choice, log entry 134); without a valid root the Cellar has failed; a compaction empties the
journal and switches to a root copy of higher generation, which is then in force; a corrected error is counted, an
uncorrectable one is counted and loses what its address holds, one of a region that does not hold it is none, and
without a root the Cellar has failed. -/
def Obligations.CellarReplaysAndCompacts : Prop :=
  (∀ s t, exec (.cellarReplay t) s = .next (if s.mode = .wake ∧ s.power.rstnLow = false ∧ s.ready 7 = false then
    (s.advance t).replays.setReady 7 else s.advance t)) ∧
  (∀ (s : State) k v, Table.wf none s.cellar.values = true → Table.get none s.cellar.values k = some v →
    s.applyValues.objAt k = v) ∧
  (∀ s : State, s.cellar.stage ≠ 5 → s.cellar.rooted → s.cellar.replayStop = none → s.cellar.waiting = [] → s.replays.cellar = { s.cellar with stage := 2 } ∧
    s.replays.keys.failures = fieldLe (s.item 8 0) 0 4 ∧
    ∀ h < 8, Table.get 0 s.replays.keyFailures h = fieldLe (s.item 8 (0x10 + h)) 0 4) ∧
  (∀ (s : State) off, s.cellar.stage ≠ 5 → s.cellar.rooted → s.cellar.replayStop = some off → s.cellar.waiting = [] →
    s.replays.cellar.values = (((s.cellar.records.filter fun r => r.upTo ≤ off).flatMap JournalTxn.changes).foldl
      applyStored { s.cellar with values := (s.cellar.half s.cellar.activeHalf).values }).values ∧
    s.replays.cellar.journal = off ∧ s.replays.cellar.badAt = none) ∧
  (∀ (s : State) b, s.cellar.badAt = some b → ∃ off, s.cellar.replayStop = some off ∧ off ≤ b) ∧
  (∀ s : State, s.cellar.inForce = none → s.replays.cellar.stage = 5) ∧
  (∀ s t, s.mode ≠ .save → s.cellar.stage = 2 → s.cellar.open_ = none → exec (.compactionStart t) s = .next (
    if 1572864 < s.cellar.journal ∨ (s.cellar.compactSince.isSome = true ∧ s.mode = .idle ∧ s.cellar.waiting = []) then
      { s.advance t with cellar := { s.cellar with
          stage := 3, compactSince := none
          halves := s.cellar.halves.set (1 - s.cellar.activeHalf) { s.cellar.half (1 - s.cellar.activeHalf) with sound := false } } }
    else s.advance t)) ∧
  (∀ s t, s.cellar.stage = 3 → s.cellar.waiting = [] → s.unselected 0x2600 0x0D 0 →
    exec (.compactionEnd t) s = .next (State.caused (State.countUp { s.advance t with cellar := { s.cellar with
      stage := 2, activeHalf := 1 - s.cellar.activeHalf, generation := addWrap 32 s.cellar.generation 1
      firstTxn := s.cellar.nextId, journal := 0, records := [], badAt := none
      halves := s.cellar.halves.set (1 - s.cellar.activeHalf)
        { values := s.cellar.values, items := s.cellar.items, heap := s.cellar.heap }
      roots := s.cellar.roots.set (if (s.cellar.root 0).half = s.cellar.activeHalf ∧
          (s.cellar.root 0).generation = s.cellar.generation ∧ (s.cellar.root 0).sound = true then 1 else 0)
        { half := 1 - s.cellar.activeHalf, generation := addWrap 32 s.cellar.generation 1, firstTxn := s.cellar.nextId
          sound := true } } } 0x2600 0x0A) 0x2600 0x0E 0)) ∧
  (∀ s t, s.cellar.stage = 3 → s.cellar.rooted → s.cellar.activeHalf < 2 → s.cellar.roots.length = 2 →
    s.cellar.halves.length = 2 → s.cellar.generation + 1 < 2 ^ 32 →
    ∃ u, exec (.compactionEnd t) s = .next u ∧ u.cellar.rooted ∧ u.cellar.activeHalf = 1 - s.cellar.activeHalf ∧
      u.cellar.generation = s.cellar.generation + 1) ∧
  (∀ s t, s.undisturbed → exec (.cellarEccError t .corrected) s = .next ((s.advance t).countUp 0x2600 0x0B)) ∧
  (∀ s t h, s.undisturbed → s.errorLies h = false → exec (.cellarEccError t h) s = .next (s.advance t)) ∧
  (∀ s t key addr d, s.undisturbed → s.unselected 0x2600 0x0D 3 → s.cellar.half s.cellar.activeHalf = d →
    0x300000 + s.cellar.activeHalf * 0x80000 ≤ addr → addr < 0x300000 + s.cellar.activeHalf * 0x80000 + 0x80000 →
    (Table.get none d.values key).isSome = true →
    ∃ u, exec (.cellarEccError t (.item 1 key addr)) s = .next u ∧
      u.cellar = { s.cellar with
        values := if s.cellar.journalled 1 key = true then s.cellar.values else Table.set none s.cellar.values key none
        halves := s.cellar.halves.set s.cellar.activeHalf { d with values := Table.set none d.values key none } } ∧
      u.obj 0x2600 0x0C = addWrap 32 (s.objN 0x2600 0x0C) 1 ∧ Changes [.now, .objs, .cellar, .log] s u) ∧
  (∀ s t addr, s.undisturbed → s.unselected 0x2600 0x0D 3 → 0x100000 ≤ addr → addr < 0x300000 → addr - 0x100000 < s.cellar.journal →
    ∃ u, exec (.cellarEccError t (.journal addr)) s = .next u ∧ u.cellar = { s.cellar with
        badAt := some (min (addr - 0x100000) (s.cellar.badAt.getD (addr - 0x100000))) } ∧
      u.obj 0x2600 0x0C = addWrap 32 (s.objN 0x2600 0x0C) 1 ∧ Changes [.now, .objs, .cellar, .log] s u) ∧
  (∀ s t (k : Fin 2) addr, s.undisturbed → s.unselected 0x2600 0x0D 3 → k.val * 0x8000 ≤ addr → addr < k.val * 0x8000 + 64 →
    ∃ u, exec (.cellarEccError t (.root k addr)) s = .next u ∧
      ((s.cellar.root (1 - k)).sound = true → u.cellar = { s.cellar with
        roots := s.cellar.roots.set k { s.cellar.root k with sound := false } }) ∧
      ((s.cellar.root (1 - k)).sound = false → u.cellar.stage = 5 ∧ u.cellar.open_ = none)) ∧
  ∀ s t, s.undisturbed → ∃ u, exec (.cellarEccError t .roots) s = .next u ∧
    u.cellar.stage = 5 ∧ u.cellar.open_ = none ∧ u.cellar.waiting = []

/-- The units of calibration runs (R489, R492 to R495): a unit starts on the first item in the order of the runs that is
idle, or past its deadline at an entry or block boundary, and holds its converter; its end frees it and gives the
figures of the circuit it verifies, against the limits of R495, or tells whether the in-situ path was quiet; an item
past its deadline preempts or is deferred; a retry that is due makes its items due again. Commands of calibration (R498,
R502, R505): the dies of the mask, or one quad, become due unless a run of theirs is under way; due runs are cancelled;
global calibration begins in a drained QUIESCE, where it ends a plan that waits, and ends there with every die to be
stored; a valid set of this device is imported through the Cellar. -/
def Obligations.CalibrationRuns : Prop :=
  ((∀ s t d i, (s.advance t).calibrates = true → s.cal.unit = none → (s.advance t).nextItem = some (d, i, none) →
    (s.calRun d).stage = 2 → ∃ u, exec (.calibrationUnitStart t) s = .next u ∧
      u.cal = { s.cal with unit := some { die := d, item := i, unit := (s.calRun d).nextUnit i, startedAt := max s.now t
                                          preempted := false } } ∧
      (u.conv (itemConv d i)).calibrationUse = true ∧ Changes [.now, .objs, .ports, .convs, .cal, .fresh] s u) ∧
  (∀ s t d i, (s.advance t).calibrates = true → s.cal.unit = none → (s.advance t).nextItem = some (d, i, none) →
    (s.calRun d).stage = 1 → ∃ u, exec (.calibrationUnitStart t) s = .next u ∧ u.cal.unit.isSome = true ∧
      u.calRun d = { s.calRun d with
        stage := 2, startedAt := max s.now t, tStart := s.dieTemp d, mayPreempt := s.objN 0x2610 4 == 1, deferred := []
        disturbed := [] }) ∧
  (∀ s t d i k, (s.advance t).calibrates = true → s.cal.unit = none → (s.advance t).nextItem = some (d, i, some k) →
    (s.calRun d).stage = 2 → ∃ u, exec (.calibrationUnitStart t) s = .next u ∧
      u.cal.unit = some { die := d, item := i, unit := (s.calRun d).nextUnit i, startedAt := max s.now t, preempted := true } ∧
      bitOf (u.objN 0x2610 0x0A) 6 = true ∧ (u.conv (itemConv d i)).calibrationUse = true) ∧
  (∀ s t, s.cal.unit.isSome = true ∨ (s.advance t).calibrates = false ∨ (s.advance t).nextItem = none →
    exec (.calibrationUnitStart t) s = .next (s.advance t)) ∧
  (∀ s t r x i (span lo : Nat), s.cal.unit = some x → x.die < 4 → (s.calRun x.die).left.contains x.item = true → x.item < 16 →
    (x.unit = 0 ∧ i = 256 + 16 * x.die + x.item ∧ span = 2048000 ∧ lo = 500) ∨
      (1 ≤ x.unit ∧ x.unit ≤ 4 ∧ i = 4 * (16 * x.die + x.item) + (x.unit - 1) ∧ span = 20000000 ∧ lo = 1000) →
    Table.get 0 (s.calRun x.die).unitsDone x.item + 1 < ((s.calRun x.die).units x.item).length →
    ∃ u, exec (.calibrationUnitEnd t r) s = .next u ∧ u.cal.unit = none ∧
      Table.get 0 (u.calRun x.die).unitsDone x.item = Table.get 0 (s.calRun x.die).unitsDone x.item + 1 ∧
      (u.calFigure i).ro = r.atZero ∧ (u.calFigure i).ge = divNear ((r.atFull - r.atZero - span) * 1000000) span ∧
      (u.calFigure i).outOfLimits = decide (lo < r.atZero.natAbs ∨
        100 * span < (r.atFull - r.atZero - span).natAbs * 1000000)) ∧
  (∀ s t r x p, s.cal.unit = some x → x.die < 4 → (s.calRun x.die).left.contains x.item = true → x.item < 16 →
    5 ≤ x.unit → x.unit < 9 → p = 4 * (16 * x.die + x.item) + (x.unit - 5) → s.inSituOn p = true →
    Table.get 0 (s.calRun x.die).unitsDone x.item + 1 < ((s.calRun x.die).units x.item).length →
    ∃ u, exec (.calibrationUnitEnd t r) s = .next u ∧ u.cal.unit = none ∧
      (u.calFigure p).disturbed = decide (s.objN 0x2610 7 < r.path.mean.natAbs ∨ 2 * s.objN 0x2610 7 < r.path.peak ∨
        s.objN 0x2610 7 < r.residual.mean.natAbs ∨ 2 * s.objN 0x2610 7 < r.residual.peak) ∧
      ((u.calFigure p).disturbed = true → p % 64 ∈ (u.calRun x.die).disturbed)) ∧
  (∀ s t (d : DieNo) item, (s.calRun d).stage = 2 → (s.calRun d).left.contains (calItemNo item) = true →
    (s.calRun d).preempting.contains (calItemNo item) = false → (s.advance t).calDeadline (s.calRun d) ≤ max s.now t →
    (s.calRun d).mayPreempt = true → exec (.calibrationDeadline t d item) s = .next ((s.advance t).setCalRun d
      { s.calRun d with preempting := (s.calRun d).preempting ++ [calItemNo item] })) ∧
  (∀ s t (d : DieNo) item, (s.calRun d).stage = 2 → (s.calRun d).left.contains (calItemNo item) = true →
    (s.calRun d).preempting.contains (calItemNo item) = false → (s.advance t).calDeadline (s.calRun d) ≤ max s.now t →
    (s.calRun d).mayPreempt = false → ∃ u, exec (.calibrationDeadline t d item) s = .next u ∧
      (u.calRun d).left = (s.calRun d).left.filter (· != calItemNo item) ∧
      (u.calRun d).deferred.contains (calItemNo item) = true ∧
      Changes [.now, .objs, .convs, .disp, .sources, .trigOuts, .cal, .cellar] s u) ∧
  ∀ s t (d : DieNo) e, (s.calRun d).retryAt = some e → (s.advance t).calibrates = true → e ≤ max s.now t →
    (s.calRun d).stage = 0 → exec (.calibrationRetry t d) s = .next ((s.advance t).setCalRun d { s.calRun d with
      stage := 1, dueAt := max s.now t, whole := (s.calRun d).retryItems, ports := (s.calRun d).retryPorts
      left := (List.range 20).filter fun i => (s.calRun d).retryItems.contains i ||
        (s.calRun d).retryPorts.any fun p => p / 4 == i
      unitsDone := [], preempting := [], retryAt := none })) ∧
  ((∀ s t a c, TakesWrite s t a 0x2610 2 (natLe 1 1) c → c.written (natLe 1 1) = 1 →
    (∀ d < 4, bitOf (s.objN 0x2610 3) d = true → (s.calRun d).stage = 0) →
    ∃ u, exec (.calibrateDies t a) s = .next ((s.heard t a).answered u) ∧
      (∀ d < 4, if bitOf (s.objN 0x2610 3) d then (u.calRun d).stage = 1 ∧ (u.calRun d).left = List.range 20 ∧
        (u.calRun d).dueAt = max s.now t else u.calRun d = s.calRun d) ∧ Changes [.cal] (s.heard t a) u) ∧
  (∀ s t a c d, TakesWrite s t a 0x2610 2 (natLe 1 1) c → c.written (natLe 1 1) = 1 → d < 4 →
    bitOf (s.objN 0x2610 3) d = true → (s.calRun d).stage ≠ 0 →
    exec (.calibrateDies t a) s = .next ((s.heard t a).refusedWith 0x0F011003)) ∧
  (∀ s t a c q, TakesWrite s t a 0x2610 2 (natLe 1 2) c → c.written (natLe 1 2) = 2 → s.objN 0x2610 3 = q → q < 64 →
    (s.calRun (q / 16)).stage = 0 →
    exec (.calibrateQuad t a) s = .next ((s.heard t a).answered ((s.heard t a).setCalRun (q / 16)
      { s.calRun (q / 16) with
        stage := 1, dueAt := max s.now t, left := [q % 16], whole := [q % 16], ports := [], unitsDone := []
        preempting := [], retryAt := none }))) ∧
  (∀ s t a c, TakesWrite s t a 0x2610 2 (natLe 1 4) c → c.written (natLe 1 4) = 4 →
    ∃ u, exec (.cancelDueRuns t a) s = .next ((s.heard t a).answered u) ∧ Changes [.cal] (s.heard t a) u ∧
      ∀ d < 4, u.calRun d = if (s.calRun d).stage = 1 then { s.calRun d with stage := 0, lastResult := 4, left := [] }
        else s.calRun d) ∧
  (∀ s t a c, TakesWrite s t a 0x2610 2 (natLe 1 3) c → c.written (natLe 1 3) = 3 → s.mode = .quiesce →
    s.inFlightSteps = [] → s.mapRunning = false → s.cal.unit = none →
    ∃ u, exec (.globalCalibration t a) s = .next ((s.heard t a).answered u) ∧ u.mode = .calibrate ∧
      u.cal = { s.cal with global := true } ∧
      Changes [.mode, .objs, .ports, .pins, .convs, .chains, .map, .disp, .sweeps, .busSources, .cans, .lins, .cores, .sources,
        .timebase, .trigOuts, .queues, .zones, .cal, .log, .fresh] (s.heard t a) u) ∧
  (∀ s t rs, s.mode = .calibrate → s.cal.global = true →
    ∃ u, exec (.globalCalibrationEnd t rs) s = .next u ∧ u.mode = .quiesce ∧ u.cal.global = false ∧
      ∀ d < 4, (u.calRun d).stage = 3 ∧ (u.calRun d).left = []) ∧
  (∀ s t rs, s.mode ≠ .calibrate → exec (.globalCalibrationEnd t rs) s = .next (s.advance t)) ∧
  (∀ s t a (d : DieNo) bytes c, TakesBytes s t a 0x2640 (1 + d) bytes c → setValid d bytes = true →
    (s.calRun d).stage = 0 → s.cellarTakes [.blob 2 d (some bytes)] → ∃ u, exec (.setImport t a d bytes) s = .next u ∧
      s.asksCellar a t (.import_ d) [.blob 2 d (some bytes)] u) ∧
  ∀ s t a (d : DieNo) bytes c, TakesBytes s t a 0x2640 (1 + d) bytes c → setValid d bytes = false →
    exec (.setImport t a d bytes) s = .next ((s.heard t a).refusedWith 0x0F011004))

/-! ## Supplies, resets, modes, the governor and the test-access port -/

/-- The mode of a device whose supply or core is down (R506, R512). -/
def Sys2Proof.Machine.State.darkMode (s : State) : Mode := if s.power.vbat then .keep else .off

/-- Supplies (R18, R425, R506, R512, R522, R523, R536): VSUP of 4.4 V or more wakes a device that is down and out of
reset, with the counter at 0, and one that RSTN holds in reset once it is released; VSUP below 4.2 V brings SAVE from
every working mode, and ends WAKE; SAVE lasts 3 ms and ends in WAKE or down, at once where the supply collapses; without
VBAT and VSUP the battery keys and the calendar are lost; VIO takes its band, but for a move from one band to the other
that has not passed below 1.2 V (R535). Resets (R525, R526): a commanded reset is answered and waits for an idle Cellar;
RSTN holds the device in reset and its release lets the counter run from 0; the watchdog and the brown-out detector
reset a working device and leave their code; a reset keeps the Cellar's items, the keys and the log, and brings queues,
claims, sessions and zones to their state at power-up. -/
def Obligations.SuppliesAndResets : Prop :=
  ((∀ s t mv, 4400 ≤ mv → s.mode = .off ∨ s.mode = .keep → s.power.rstnLow = false → ∃ u, exec (.vsupGood t mv) s = .next u ∧
    u.mode = .wake ∧ u.now = 0 ∧ u.power.vsupGood = true ∧ u.power.vsupMv = mv ∧ u.power.resetCause = 1) ∧
  (∀ s t mv, mv < 4400 → exec (.vsupGood t mv) s = .next (s.advance t)) ∧
  (∀ s t mv, 4400 ≤ mv → s.mode ≠ .off → s.mode ≠ .keep → exec (.vsupGood t mv) s =
    .next { s.advance t with power := { s.power with vsupGood := true, vsupMv := mv } }) ∧
  (∀ s t mv, 4400 ≤ mv → s.mode = .off ∨ s.mode = .keep → s.power.rstnLow = true → ∃ u, exec (.vsupGood t mv) s = .next u ∧
    u.mode = s.mode ∧ u.now = 0 ∧ u.power = { s.power with vsupGood := true, vsupMv := mv, resetCause := 1 }) ∧
  (∀ s t mv, 4200 ≤ mv → exec (.powerFail t mv) s = .next (s.advance t)) ∧
  (∀ s t mv, mv < 4200 → s.mode.working = true → ∃ u, exec (.powerFail t mv) s = .next u ∧ u.mode = .save ∧
    u.power.saveAt = max s.now t ∧ u.power.saveFrom = s.mode ∧ u.power.vsupGood = false ∧ u.power.vsupMv = mv) ∧
  (∀ s t mv, mv < 4200 → s.mode = .wake → ∃ u, exec (.powerFail t mv) s = .next u ∧ u.mode = s.darkMode) ∧
  (∀ s t, s.mode = .save → max s.now t < s.power.saveAt + 12000000 → exec (.saveEnd t) s = .next (s.advance t)) ∧
  (∀ s t, s.mode = .save → s.power.saveAt + 12000000 ≤ max s.now t → ∃ u, exec (.saveEnd t) s = .next u ∧
    (s.power.vsupGood = true → u.mode = .wake ∧ u.now = 0 ∧ u.power.resetCause = 2) ∧
    (s.power.vsupGood = false → u.mode = s.darkMode)) ∧
  (∀ s t, s.mode = .save → ∃ u, exec (.saveSupplyCollapse t) s = .next u ∧ u.mode = s.darkMode ∧
    u.power.vsupGood = false) ∧
  (∀ s t, exec (.vbatPresent t) s = .next { s.advance t with
    power := { s.power with vbat := true }
    mode := if s.mode = .off ∧ s.power.vsupGood = false then .keep else s.mode }) ∧
  (∀ s t, s.mode ≠ .keep → exec (.vbatLost t) s = .next { s.advance t with power := { s.power with vbat := false } }) ∧
  (∀ s t, s.mode = .keep → s.power.vsupGood = false → ∃ u, exec (.vbatLost t) s = .next u ∧ u.mode = .off ∧
    u.keys.battery = List.replicate 4 none ∧ u.timebase.calendarLost = true) ∧
  ∀ s t mv, (s.vioSkips mv = false → ∃ u, exec (.vioChange t mv) s = .next u ∧ u.power.vio = vioBand mv) ∧
    (s.vioSkips mv = true → exec (.vioChange t mv) s = .fault .vioBandSkipped)) ∧
  ((∀ s t a v c, TakesWrite s t a 0x2000 3 (natLe 4 v) c → c.written (natLe 4 v) = 0x746F6F62 →
    s.mode = .safe ∨ s.mode = .idle ∨ s.mode = .hold → s.deviceAuthority (s.sessionOf a) = none → ∃ u,
    exec (.resetCommand t a v) s = .next u ∧
      (s.cellarIdle = false → u.mode = s.mode ∧ u.power.resetPending = some (max s.now t + 400000000)) ∧
      (s.cellarIdle = true → u.mode = .wake ∧ u.now = 0 ∧ u.power.resetCause = 4)) ∧
  (∀ s t a v c, TakesWrite s t a 0x2000 3 (natLe 4 v) c → s.mode ≠ .safe → s.mode ≠ .idle → s.mode ≠ .hold →
    s.power.resetPending = none → exec (.resetCommand t a v) s = .next ((s.heard t a).refusedWith 0x0F011101)) ∧
  (∀ s t, s.power.vio.isSome = true → s.mode.working = true → ∃ u, exec (.rstnLow t) s = .next u ∧ u.mode = .wake ∧
    u.now = 0 ∧ u.power.rstnLow = true ∧ u.power.resetCause = 3) ∧
  (∀ s t, s.power.vio = none → exec (.rstnLow t) s = .next (s.advance t)) ∧
  (∀ s t, s.power.vio.isSome = true → s.mode = .save →
    exec (.rstnLow t) s = .next { s.advance t with power := { s.power with rstnLow := true } }) ∧
  (∀ s t, s.power.rstnLow = true → s.mode = .wake → ∃ u, exec (.rstnRelease t) s = .next u ∧ u.mode = .wake ∧
    u.now = 0 ∧ u.power = { s.power with rstnLow := false }) ∧
  (∀ s t, s.power.rstnLow = true → s.mode = .off ∨ s.mode = .keep → s.power.vsupGood = true →
    ∃ u, exec (.rstnRelease t) s = .next u ∧ u.mode = .wake ∧ u.power.resetCause = s.power.resetCause) ∧
  (∀ s t, s.mode.working = true → ∃ u v, exec (.watchdogExpired t) s = .next u ∧ u.mode = .wake ∧ u.power.resetCause = 5 ∧
    exec (.coreBrownOut t) s = .next v ∧ v.mode = .wake ∧ v.power.resetCause = 6 ∧ v.now = 0) ∧
  (∀ s t, s.mode = .save → exec (.watchdogExpired t) s = .next (s.advance t) ∧
    exec (.coreBrownOut t) s = .next (s.advance t)) ∧
  ∀ (s : State) old cause, (s.wakes old cause).cellar.values = s.cellar.values ∧
    (s.wakes old cause).cellar.items = s.cellar.items ∧ (s.wakes old cause).cellar.open_ = none ∧
    (s.wakes old cause).keys.kek = s.keys.kek ∧ (s.wakes old cause).keys.battery = s.keys.battery ∧
    (s.wakes old cause).log.records = s.log.records ∧ (s.wakes old cause).claims = State.reset.claims ∧
    (s.wakes old cause).queues = State.reset.queues ∧ (s.wakes old cause).sessions = State.reset.sessions ∧
    (s.wakes old cause).zones = State.reset.zones ∧ (s.wakes old cause).mem = State.reset.mem)

/-- A mode request `v` that its mode takes, with the authority of its session (R512, R513). -/
structure Sys2Proof.Machine.TakesRequest (s : State) (t : Tk) (a : Accessor) (v : Nat) (c : Card) : Prop where
  write : TakesWrite s t a 0x2000 2 (natLe 1 v) c
  value : c.written (natLe 1 v) = v
  takes : s.mode.takes v = true
  free : s.cycle.toSafe = false
  authority : s.deviceAuthority (s.sessionOf a) = none
  quiet : s.noWaiting

/-- Start-up (R507 to R511): a readiness bit sets once and stays set; the bit that completes the minimum set ends WAKE
in SAFE; with the advance flag and no boot slot, SAFE becomes IDLE under the IDLE conditions, and not before the first
lock (R326). Mode requests (R512 to R516, R519, R520): each goes to the mode that it names, from HOLD only when no cause
is present and the interlock input is not low (R96), and from QUIESCE to SAFE only when the device is drained; a request
that its mode does not take is refused. HOLD and its causes (R96, R514 to R518, R521): a cause ends every mode from IDLE
to CALIBRATE, is only recorded in SAFE and LOAD, and waits in WAKE; the interlock acts when its pin has been low for 10
microseconds; a cause that may end is cleared; a drained QUIESCE is reported once. -/
def Obligations.ModesAndHold : Prop :=
  ((∀ s t (bit : Fin 29), (s.advance t).mayBeReady bit = false ∨ s.ready bit = true →
    exec (.readinessSet t bit) s = .next (s.advance t)) ∧
  (∀ s t (bit : Fin 29), (s.advance t).mayBeReady bit = true → s.ready bit = false → s.mode ≠ .wake →
    s.unselected 0x2000 0x0D 3 → ∃ u, exec (.readinessSet t bit) s = .next u ∧ u.ready bit = true ∧
      (∀ b < 32, b ≠ bit.val → u.ready b = s.ready b) ∧
      Changes [.now, .objs, .convs, .disp, .sources, .trigOuts, .scrub, .log] s u) ∧
  (∀ s t (bit : Fin 29), (s.advance t).mayBeReady bit = true → s.ready bit = false → s.mode = .wake →
    (∀ b ∈ [0, 1, 2, 3, 7, linkBit s.links.safeLink], b ≠ bit.val → s.ready b = true) →
    bit.val ∈ [0, 1, 2, 3, linkBit s.links.safeLink] → s.power.wakeCauses = [] → s.unselected 0x2000 0x0D 3 →
    ∃ u, exec (.readinessSet t bit) s = .next u ∧ u.mode = .safe) ∧
  (∀ s t, s.mode = .safe → s.power.advance = true → s.staysSafe = false → s.bootSlotWaits = false → s.idleReady = true →
    ∃ u, exec (.advanceToIdle t) s = .next u ∧ u.mode = .idle ∧ u.power.advance = false) ∧
  (∀ s t, s.mode = .safe → s.power.advance = true → s.staysSafe = false → s.bootSlotWaits = true → s.ready 21 = true → s.ready 22 = true →
    ∃ u, exec (.advanceToIdle t) s = .next u ∧ u.power.bootLoad = false) ∧
  ∀ s t, s.mode ≠ .safe ∨ s.power.advance = false ∨ s.staysSafe = true ∨ s.bootSlotWaits = false ∧ s.idleReady = false ∨
    s.bootSlotWaits = true ∧ (s.ready 21 = false ∨ s.ready 22 = false) →
    exec (.advanceToIdle t) s = .next (s.advance t)) ∧
  ((∀ s t a c, TakesRequest s t a 3 c → s.mode = .idle → ∃ u, exec (.modeRequestSafe t a) s = .next u ∧ u.mode = .safe) ∧
  (∀ s t a c, TakesRequest s t a 3 c → s.mode = .hold → s.power.causes = [] → s.interlockLow = false →
    ∃ u, exec (.modeRequestSafe t a) s = .next u ∧ u.mode = .safe) ∧
  (∀ s t a c, TakesRequest s t a 3 c → s.mode = .quiesce → s.drained = false →
    exec (.modeRequestSafe t a) s = .next ((s.heard t a).refusedWith 0x0F011101)) ∧
  (∀ s t a c, TakesRequest s t a 3 c → s.mode = .quiesce → s.drained = true → s.bound = false →
    ∃ u, exec (.modeRequestSafe t a) s = .next u ∧ u.mode = .safe) ∧
  (∀ s t a c, TakesRequest s t a 5 c → s.mode = .safe → s.idleReady = true →
    ∃ u, exec (.modeRequestIdle t a) s = .next u ∧ u.mode = .idle) ∧
  (∀ s t a c, TakesRequest s t a 5 c → s.mode = .safe → s.idleReady = false →
    exec (.modeRequestIdle t a) s = .next ((s.heard t a).refusedWith 0x0F011101)) ∧
  (∀ s t a c, TakesRequest s t a 5 c → s.mode = .hold → s.power.causes = [] → s.interlockLow = false →
    ∃ u, exec (.modeRequestIdle t a) s = .next u ∧ u.mode = .idle) ∧
  (∀ s t a c, TakesRequest s t a 5 c → s.mode = .hold → s.power.causes ≠ [] ∨ s.interlockLow = true →
    exec (.modeRequestIdle t a) s = .next ((s.heard t a).refusedWith 0x0F011102)) ∧
  (∀ s t a c, TakesRequest s t a 6 c → ∃ u, exec (.modeRequestResume t a) s = .next u ∧
    u.mode = if s.bound = false then .idle else if s.objN 0x2201 1 = 0 then .run else .throttle) ∧
  (∀ s t a c, TakesRequest s t a 9 c → s.unselected 0x2000 0x0D 0 → ∃ u, exec (.modeRequestQuiesce t a) s = .next u ∧
    u.mode = .quiesce ∧ u.obj 0x2000 4 = s.mode.code) ∧
  (∀ s t a c, TakesRequest s t a 0x0A c → ∃ u, exec (.modeRequestHold t a) s = .next u ∧ u.mode = .hold ∧
    u.power.firstCause = some .commanded) ∧
  ∀ s t a c, TakesWrite s t a 0x2000 2 (natLe 1 6) c → c.written (natLe 1 6) = 6 → s.mode.takes 6 = false →
    s.noWaiting → s.mode ≠ .load → exec (.modeRequestResume t a) s = .next ((s.heard t a).refusedWith 0x0F011101)) ∧
  ((∀ s t c meas, s.mode.holds = true → s.causePresent c = false → c ≠ .commanded → s.noWaiting →
    ∃ u, exec (.holdCause t c meas) s = .next u ∧ u.mode = .hold ∧ u.power.causes = s.power.causes ++ [c] ∧
      u.power.firstCause = some c) ∧
  (∀ s t c meas, s.mode = .safe → s.causePresent c = false → c ≠ .commanded → s.noWaiting →
    ∃ u, exec (.holdCause t c meas) s = .next u ∧ u.mode = .safe ∧ u.power.causes = s.power.causes ++ [c]) ∧
  (∀ s t c meas, s.mode = .wake → (∀ x ∈ s.power.wakeCauses, x.1 ≠ c) → c ≠ .commanded → s.noWaiting →
    exec (.holdCause t c meas) s = .next { s.advance t with
      power := { s.power with wakeCauses := s.power.wakeCauses ++ [(c, meas)] } }) ∧
  (∀ s t c, s.mode = .wake → exec (.holdCauseCleared t c) s = .next (if (s.advance t).causeMayEnd c = true then
      { s.advance t with power := { s.power with wakeCauses := s.power.wakeCauses.filter fun x => x.1 != c } } else s.advance t)) ∧
  (∀ s t c, s.mode ≠ .wake → s.mode ≠ .hold → s.causePresent c = true → (s.advance t).causeMayEnd c = true → s.unselected 0x2000 0x0D 2 →
    exec (.holdCauseCleared t c) s = .next (State.caused { s.advance t with
      power := { s.power with causes := s.power.causes.filter (· != c) } } 0x2000 0x0E 2)) ∧
  (∀ s t c, s.mode ≠ .wake → s.causePresent c = false ∨ (s.advance t).causeMayEnd c = false →
    exec (.holdCauseCleared t c) s = .next (s.advance t)) ∧
  (∀ s t at', (s.pin 17).lowSince = some at' → at' + 40000 ≤ max s.now t → s.pinFunction 17 = 0x30 → s.mode.holds = true →
    s.causePresent .interlock = false → ∃ u, exec (.interlockTrip t) s = .next u ∧ u.mode = .hold ∧
      u.power.firstCause = some .interlock) ∧
  (∀ s t at', (s.pin 17).lowSince = some at' → max s.now t < at' + 40000 →
    exec (.interlockTrip t) s = .next (s.advance t)) ∧
  (∀ s t, s.drained = true → s.objN 0x2000 5 = 0 → s.unselected 0x2000 0x0D 4 →
    exec (.quiesceDrained t) s = .next (((s.advance t).setObj 0x2000 5 1).caused 0x2000 0x0E 4)) ∧
  ∀ s t, s.drained = false ∨ s.objN 0x2000 5 ≠ 0 → exec (.quiesceDrained t) s = .next (s.advance t))

/-- The governor (R233, R234, R237, R238, R242, R243, R252): a sample takes every figure of ports and bus sources and
the readings of the sensors, and adds V x I to the sum of the period; a period that ends, whatever is in flight, books
the standing energy, issues tokens up to the capacity, takes its settings and starts a new mean; the allowed power and
the allowance of a die fall linearly with temperature. -/
def Obligations.GovernorKeepsTheBooks : Prop :=
  (∀ s t temps (p : PortNo) uv na, s.ticks = true → ∃ u,
    exec (.portFiguresSampled t temps [{ src := .port p, uv := uv, na := na }]) s = .next u ∧
      u.port p = { s.port p with uv := uv, na := na } ∧ (∀ q : Nat, q ≠ p → u.port q = s.port q) ∧
      u.gov.temps = s.gov.temps ++ [temps] ∧ u.gov.samples = s.gov.samples + 1 ∧
      Changes [.now, .ports, .gov, .disp] s u) ∧
  (∀ s t temps figs, s.ticks = true → ∃ u, exec (.portFiguresSampled t temps figs) s = .next u ∧
      u.gov.temps = s.gov.temps ++ [temps] ∧ u.gov.samples = s.gov.samples + 1 ∧ u.ports = (figs.foldl State.takeFigure s).ports ∧
      u.gov.bus = (figs.foldl State.takeFigure s).gov.bus ∧
      u.gov.poutSum = s.gov.poutSum + (figs.foldl State.takeFigure s).delivered ∧
      (∀ p : PortNo, (∀ f ∈ figs, f.src ≠ .port p) → u.port p = s.port p) ∧ Changes [.now, .ports, .gov, .disp] s u) ∧
  (∀ s t temps figs, s.ticks = false → exec (.portFiguresSampled t temps figs) s = .next (s.advance t)) ∧
  (∀ s t pv, s.ticks = true → (s.advance t).periodDue = true → ∃ u f, (s.advance t).periodEnds pv = (u, f) ∧
    exec (.governorPeriodEnd t pv) s = .next ((((if u.ready 16 && !s.ready 16 then u.cause 0x2000 3 u.now
      else u).periodCauses f).runsDue.judgeReady.resetSettles).letGo) ∧
    u.gov.lastEnd = max s.now t ∧ u.gov.samples = 0 ∧ u.gov.temps = [] ∧ u.gov.poutSum = 0 ∧ u.gov.pportSum = 0 ∧
    u.gov.standing = 0 ∧ u.gov.consumed = s.gov.consumed + microjoule s.gov.standing ∧
    u.gov.reserved = s.gov.reserved ∧ u.gov.share = s.objN 0x2200 0x0A ∧ u.gov.capacity = s.objN 0x2200 4 ∧
    u.gov.tset = s.obj 0x2200 2) ∧
  (∀ s t pv, s.ticks = true → (s.advance t).periodDue = true → s.undisturbed → s.mode.working = true →
    s.inFlightSteps = [] →
    ∃ u, exec (.governorPeriodEnd t pv) s = .next u ∧ u.gov.lastEnd = max s.now t ∧ u.gov.samples = 0 ∧
      u.gov.temps = [] ∧ u.gov.standing = 0 ∧ u.gov.consumed = s.gov.consumed + microjoule s.gov.standing ∧
      u.gov.share = s.objN 0x2200 0x0A ∧ u.gov.capacity = s.objN 0x2200 4 ∧ u.gov.tset = s.obj 0x2200 2 ∧
      (s.disp.slot = none → u.gov.bucket = s.gov.bucket - microjoule s.gov.standing +
        if s.gov.bucket - microjoule s.gov.standing < s.obj 0x2200 4 then
          min (u.obj 0x2201 7) (s.obj 0x2200 4 - (s.gov.bucket - microjoule s.gov.standing)) else 0)) ∧
  (∀ s t pv, s.ticks = false ∨ (s.advance t).periodDue = false → s.noWaiting → s.mode ≠ .load →
    exec (.governorPeriodEnd t pv) s = .next (s.advance t)) ∧
  (∀ plim tset tmax : Int, (tmax ≤ tset - 100 → allowedPower plim tset tmax = plim) ∧
    (tset ≤ tmax → allowedPower plim tset tmax = min 6000 plim) ∧
    (tset - 100 < tmax → tmax < tset → 6000 ≤ plim →
      6000 ≤ allowedPower plim tset tmax ∧ allowedPower plim tset tmax ≤ plim)) ∧
  ∀ ld tset tdie : Int, 0 ≤ ld → dieAllowance ld tset tdie ≤ ld ∧ ld / 2 ≤ dieAllowance ld tset tdie

/-- A pin takes a function that R94 allows it, skips the SYNC edges that are past where it becomes the SYNC output
(R336), begins to sense where it had none (R98), and follows it; a pad that has been opposed for 1 microsecond is in
contention (R100). The test-access port (R538): each instruction selects its register; IDCODE is read; EXTEST acts only
while RSTN is low. -/
def Obligations.PinsAndTestAccessPort : Prop :=
  ((∀ s t a (n : PinNo) v c f, TakesWrite s t a (0x3700 + n) 1 (natLe 1 v) c → c.written (natLe 1 v) = f →
    pinAllows n f.toNat = true → s.pinFunction n ≠ 0 ∨ f = 0 →
    exec (.servicePinFunctionWrite t a n v) s =
      .next ((s.heard t a).answered (((s.heard t a).setObj (0x3700 + n) 1 f).takesSync (s.pinFunction n) n f |>.followPin n))) ∧
  (∀ s t a (n : PinNo) v c f, TakesWrite s t a (0x3700 + n) 1 (natLe 1 v) c → c.written (natLe 1 v) = f →
    pinAllows n f.toNat = true → s.pinFunction n = 0 → f ≠ 0 →
    exec (.servicePinFunctionWrite t a n v) s =
      .next ((s.heard t a).answered ((((s.heard t a).setObj (0x3700 + n) 1 f).takesSync 0 n f |>.startSensing n).followPin n))) ∧
  (∀ s t a (n : PinNo) v c, TakesWrite s t a (0x3700 + n) 1 (natLe 1 v) c →
    pinAllows n (c.written (natLe 1 v)).toNat = false →
    exec (.servicePinFunctionWrite t a n v) s = .next ((s.heard t a).refusedWith 0x06090030)) ∧
  ∀ s t (n : PinNo) t0, (s.pin n).opposedSince = some t0 → t0 + 4000 ≤ max s.now t →
    exec (.contentionDetect t n) s = .next ((s.advance t).setPin n { s.pin n with contention := true })) ∧
  (∀ s t, exec (.bypass t) s = .next { s.advance t with power := { s.power with tap := 0 } } ∧
    exec (.idcode t) s = .next ({ s.advance t with power := { s.power with tap := 1 } }.send (.tap 0x27256A7F)) ∧
    exec (.samplePreload t) s = .next { s.advance t with power := { s.power with tap := 2 } } ∧
    exec (.extest t) s = .next { s.advance t with
      power := { s.power with tap := if s.power.rstnLow then 3 else 0 } })

/-! ## Requests -/

/-- A write passes every check of R442 that comes before the range of its object. -/
structure Sys2Proof.Machine.ReachesRange (s : State) (t : Tk) (a : Accessor) (idx sub : Nat) (bytes : Bytes) (c : Card) :
    Prop where
  served : (s.advance t).serves a = true
  turn : (s.advance t).turnOf a = true
  found : cardOf idx sub = some c
  writable : c.acc ≠ .ro ∧ c.acc ≠ .const
  session : (s.heard t a).sessionAbort a idx sub true = none
  length : c.lengthAbort bytes.length = none ∧ (c.ty.isBytes = true → chapterLength idx bytes.length = true)
  whole : (s.heard t a).shortStream idx sub bytes.length = false
  ready : (s.heard t a).readyAbort idx sub true = none
  mode : ownOrder idx sub (leNat bytes) = false →
    modeAllows (s.heard t a).mode idx sub (leNat bytes) = true ∧ (s.heard t a).loadRefuses a idx sub = false
  claim : ownOrder idx sub (leNat bytes) = false → (s.heard t a).writeClaimAbort a c idx sub (leNat bytes) = none

/-- Ranges (R9): a range includes both end values; a write above it is refused with 0x06090031 and one below it with
0x06090032, and the object keeps its value. The range of a BOOLEAN or a REAL32 has codes of its own (R441). -/
def Obligations.RangesIncludeTheirEnds : Prop :=
  (∀ (c : Card) v, c.ty ≠ .bool → c.ty ≠ .real32 → c.ty ≠ .domain → c.ty ≠ .str →
    (c.rangeAbort v = none ↔ c.min ≤ v ∧ v ≤ c.max)) ∧
  (∀ s t a idx sub bytes c, ReachesRange s t a idx sub bytes c → c.ty ≠ .bool → c.ty ≠ .real32 → c.ty ≠ .domain →
    c.ty ≠ .str → c.max < c.ty.value bytes → s.noWaiting → s.mode ≠ .load →
    ∃ u, exec (.objectWrite t a idx sub bytes) s = .next u ∧ u = (s.heard t a).refusedWith 0x06090031 ∧
      u.obj idx sub = s.obj idx sub) ∧
  ∀ s t a idx sub bytes c, ReachesRange s t a idx sub bytes c → c.ty ≠ .bool → c.ty ≠ .real32 → c.ty ≠ .domain →
    c.ty ≠ .str → c.ty.value bytes < c.min → c.min ≤ c.max → s.noWaiting → s.mode ≠ .load →
    ∃ u, exec (.objectWrite t a idx sub bytes) s = .next u ∧ u = (s.heard t a).refusedWith 0x06090032 ∧
      u.obj idx sub = s.obj idx sub

/-- Requests (R441, R442, R449): a write is not heard where the device does not serve its requester; behind a request of
its session that executes it waits, as one of at most 16; it is refused, in this order, for its index, its subindex, its
direction, its session and its length; an accepted write of a setting stores it. -/
def Obligations.RequestsAreJudged : Prop :=
  (∀ s t a idx sub bytes, (s.advance t).serves a = false → s.noWaiting → s.mode ≠ .load →
    exec (.objectWrite t a idx sub bytes) s = .next (s.advance t)) ∧
  (∀ s t a idx sub bytes n, (s.advance t).serves a = true → s.requesterEnds a = false → sessionIn a = some n →
    s.executing n = true → exec (.objectWrite t a idx sub bytes) s = .next (State.letGo (
      if ((s.heard t a).session n).waiting.length < 16 then (s.heard t a).setSession n { (s.heard t a).session n with
        waiting := ((s.heard t a).session n).waiting ++ [.write idx sub bytes] }
      else (s.heard t a).send (.answer 0x0F010003 [])))) ∧
  (∀ s t a idx sub bytes, (s.advance t).serves a = true → (s.advance t).turnOf a = true → s.noWaiting → s.mode ≠ .load →
    (cardsOf idx = none → exec (.objectWrite t a idx sub bytes) s = .next ((s.heard t a).refusedWith 0x06020000)) ∧
    ((cardsOf idx).isSome = true → cardOf idx sub = none →
      exec (.objectWrite t a idx sub bytes) s = .next ((s.heard t a).refusedWith 0x06090011)) ∧
    ∀ c, cardOf idx sub = some c →
      (c.acc = .ro ∨ c.acc = .const →
        exec (.objectWrite t a idx sub bytes) s = .next ((s.heard t a).refusedWith 0x06010002)) ∧
      (c.acc ≠ .ro → c.acc ≠ .const → ∀ code, (s.heard t a).sessionAbort a idx sub true = some code →
        exec (.objectWrite t a idx sub bytes) s = .next ((s.heard t a).refusedWith code)) ∧
      (c.acc ≠ .ro → c.acc ≠ .const → (s.heard t a).sessionAbort a idx sub true = none →
        c.lengthAbort bytes.length = some 0x06070010 →
        exec (.objectWrite t a idx sub bytes) s = .next ((s.heard t a).refusedWith 0x06070010))) ∧
  ∀ s t a bytes c v, TakesWrite s t a 0x1017 0 bytes c → c.written bytes = v → v = 0 ∨ 10 ≤ v → s.noWaiting →
    s.mode ≠ .load → exec (.objectWrite t a 0x1017 0 bytes) s = .next ((s.heard t a).answered
      ((s.heard t a).setObj 0x1017 0 v))
end

