-- ==== Sys2Proof/Laws/Tables.lean ====
section
/-!
SUPPORT. Laws of the sparse tables: what reading gives after a write, that a write of one key leaves every other key alone,
and that every operation keeps the canonical form.
-/

namespace Sys2Proof.Machine

variable {α : Type}

/-! ## Reading after a write -/

theorem Table.get_put (d : α) (t : Table α) (k : Nat) (v : α) : Table.get d (Table.put t k v) k = v := by
  induction t with
  | nil => simp [Table.put, Table.get]
  | cons x t ih =>
    obtain ⟨j, w⟩ := x
    simp only [Table.put]
    split
    · simp [Table.get]
    · split
      · simp [Table.get]
      · rename_i h
        have e : ¬ j = k := fun e => h e.symm
        simp [Table.get, ih, e]

theorem Table.get_put_other (d : α) (t : Table α) {k m : Nat} (v : α) (h : m ≠ k) :
    Table.get d (Table.put t k v) m = Table.get d t m := by
  induction t with
  | nil =>
    have hk : ¬ k = m := fun e => h e.symm
    simp [Table.put, Table.get, hk]
  | cons x t ih =>
    obtain ⟨j, w⟩ := x
    have hk : ¬ k = m := fun e => h e.symm
    simp only [Table.put]
    split
    · simp [Table.get, hk]
    · split
      · rename_i e
        subst e
        simp [Table.get, hk]
      · simp [Table.get, ih]

theorem Table.get_drop (d : α) (t : Table α) (k : Nat) : Table.get d (t.drop k) k = d := by
  induction t with
  | nil => rfl
  | cons x t ih =>
    obtain ⟨j, w⟩ := x
    by_cases h : j = k
    · subst h
      simpa [Table.drop] using ih
    · simpa [Table.drop, List.filter_cons, h, Table.get] using ih

theorem Table.get_drop_other (d : α) (t : Table α) {k m : Nat} (h : m ≠ k) :
    Table.get d (t.drop k) m = Table.get d t m := by
  induction t with
  | nil => rfl
  | cons x t ih =>
    obtain ⟨j, w⟩ := x
    by_cases e : j = k
    · subst e
      have hj : ¬ j = m := fun e => h e.symm
      simpa [Table.drop, List.filter_cons, Table.get, hj] using ih
    · simp only [Table.drop, List.filter_cons, bne_iff_ne, ne_eq, e, not_false_eq_true, ↓reduceIte, Table.get]
      split
      · rfl
      · exact ih

@[simp] theorem Table.get_set [DecidableEq α] (d : α) (t : Table α) (k : Nat) (v : α) :
    Table.get d (Table.set d t k v) k = v := by
  simp only [Table.set]
  split
  · rename_i h
    rw [Table.get_drop, h]
  · exact Table.get_put d t k v

@[simp] theorem Table.get_set_other [DecidableEq α] (d : α) (t : Table α) {k m : Nat} (v : α) (h : m ≠ k) :
    Table.get d (Table.set d t k v) m = Table.get d t m := by
  simp only [Table.set]
  split
  · exact Table.get_drop_other d t h
  · exact Table.get_put_other d t v h

theorem Table.get_set_of [DecidableEq α] (d : α) (t : Table α) (k m : Nat) (v : α) :
    Table.get d (Table.set d t k v) m = if m = k then v else Table.get d t m := by
  split
  · rename_i h
    rw [h, Table.get_set]
  · rename_i h
    exact Table.get_set_other d t v h

@[simp] theorem Table.get_nil (d : α) (k : Nat) : Table.get d [] k = d := rfl

/-! ## What a table holds -/

/-- A value read is an entry of the table, or what an unlisted key holds. -/
theorem Table.get_mem (d : α) (t : Table α) (k : Nat) : (k, Table.get d t k) ∈ t ∨ Table.get d t k = d := by
  induction t with
  | nil => exact .inr rfl
  | cons x t ih =>
    obtain ⟨j, w⟩ := x
    simp only [Table.get]
    split
    · rename_i h
      subst h
      exact .inl (by simp)
    · exact ih.imp (fun h => by simp [h]) id

theorem Table.mem_put {t : Table α} {k : Nat} {v : α} {x : Nat × α} (h : x ∈ Table.put t k v) : x = (k, v) ∨ x ∈ t := by
  induction t with
  | nil => simp_all [Table.put]
  | cons y t ih =>
    obtain ⟨j, w⟩ := y
    simp only [Table.put] at h
    split at h
    · simpa using h
    · split at h
      · exact (List.mem_cons.mp h).imp id fun m => by simp [m]
      · rcases List.mem_cons.mp h with h | h
        · exact .inr (by simp [h])
        · exact (ih h).imp id fun m => by simp [m]

/-- A property of every entry survives the write of a value that has it. -/
theorem Table.all_set [DecidableEq α] {p : α → Prop} (d : α) {t : Table α} {k : Nat} {v : α} (h : ∀ x ∈ t, p x.2)
    (hv : p v) : ∀ x ∈ Table.set d t k v, p x.2 := by
  intro x hx
  simp only [Table.set] at hx
  split at hx
  · exact h x (List.mem_filter.mp hx).1
  · rcases Table.mem_put hx with e | m
    · rw [e]
      exact hv
    · exact h x m

/-- A property of every entry and of what an unlisted key holds is one of every value read. -/
theorem Table.all_get {p : α → Prop} (d : α) {t : Table α} (k : Nat) (h : ∀ x ∈ t, p x.2) (hd : p d) :
    p (Table.get d t k) := by
  rcases Table.get_mem d t k with m | e
  · exact h _ m
  · rw [e]
    exact hd

/-! ## The canonical form -/

theorem Table.wf_iff [DecidableEq α] (d : α) (t : Table α) :
    Table.wf d t = true ↔ t.Pairwise (fun x y => x.1 < y.1) ∧ ∀ x ∈ t, x.2 ≠ d := by
  induction t with
  | nil => simp [Table.wf]
  | cons x t ih =>
    obtain ⟨j, w⟩ := x
    cases t with
    | nil => simp [Table.wf]
    | cons y t =>
      obtain ⟨k, u⟩ := y
      simp only [Table.wf, Bool.and_eq_true, decide_eq_true_eq, ih, List.pairwise_cons, List.mem_cons]
      constructor
      · rintro ⟨⟨hw, hjk⟩, ⟨hk, hp⟩, ha⟩
        refine ⟨⟨?_, hk, hp⟩, ?_⟩
        · rintro z (rfl | hz)
          · exact hjk
          · exact Nat.lt_trans hjk (hk z hz)
        · rintro z (rfl | hz)
          · simpa using hw
          · exact ha z hz
      · rintro ⟨⟨hj, hk, hp⟩, ha⟩
        exact ⟨⟨by simpa using ha _ (.inl rfl), hj _ (.inl rfl)⟩, ⟨hk, hp⟩, fun z hz => ha z (.inr hz)⟩

theorem Table.wf_filter [DecidableEq α] (d : α) {t : Table α} (h : Table.wf d t = true) (p : Nat × α → Bool) :
    Table.wf d (t.filter p) = true := by
  rw [Table.wf_iff] at *
  exact ⟨h.1.filter p, fun x hx => h.2 x (List.mem_filter.mp hx).1⟩

theorem Table.pairwise_put {t : Table α} {k : Nat} {v : α} (h : t.Pairwise fun x y => x.1 < y.1) :
    (Table.put t k v).Pairwise fun x y => x.1 < y.1 := by
  induction t with
  | nil => simp [Table.put]
  | cons y t ih =>
    obtain ⟨j, w⟩ := y
    obtain ⟨hj, ht⟩ := List.pairwise_cons.mp h
    simp only [Table.put]
    split
    · rename_i hk
      refine List.pairwise_cons.mpr ⟨?_, h⟩
      intro z hz
      rcases List.mem_cons.mp hz with rfl | hz
      · exact hk
      · exact Nat.lt_trans hk (hj z hz)
    · split
      · rename_i e
        subst e
        exact List.pairwise_cons.mpr ⟨hj, ht⟩
      · refine List.pairwise_cons.mpr ⟨?_, ih ht⟩
        intro z hz
        rcases Table.mem_put hz with rfl | hz
        · omega
        · exact hj z hz

/-- A write keeps the canonical form. -/
theorem Table.wf_set [DecidableEq α] (d : α) {t : Table α} (k : Nat) (v : α) (h : Table.wf d t = true) :
    Table.wf d (Table.set d t k v) = true := by
  simp only [Table.set]
  split
  · exact Table.wf_filter d h _
  · rename_i hv
    rw [Table.wf_iff] at *
    refine ⟨Table.pairwise_put h.1, fun x hx => ?_⟩
    rcases Table.mem_put hx with rfl | hx
    · exact hv
    · exact h.2 x hx

/-- Two tables in canonical form that read alike everywhere are the same table. -/
theorem Table.wf_ext [DecidableEq α] (d : α) {t u : Table α} (ht : Table.wf d t = true) (hu : Table.wf d u = true)
    (h : ∀ k, Table.get d t k = Table.get d u k) : t = u := by
  have key : ∀ {t : Table α}, t.Pairwise (fun x y => x.1 < y.1) → ∀ x ∈ t, Table.get d t x.1 = x.2 := by
    intro t
    induction t with
    | nil => simp
    | cons y t ih =>
      intro hp x hx
      obtain ⟨hy, ht⟩ := List.pairwise_cons.mp hp
      rcases List.mem_cons.mp hx with rfl | hx
      · simp [Table.get]
      · have := hy x hx
        simp only [Table.get]
        rw [if_neg (by omega)]
        exact ih ht x hx
  have sub : ∀ {t u : Table α}, Table.wf d t = true → (∀ k, Table.get d t k = Table.get d u k) → ∀ x ∈ t, x ∈ u := by
    intro t u ht h x hx
    rw [Table.wf_iff] at ht
    have e := key ht.1 x hx
    rw [h] at e
    rcases Table.get_mem d u x.1 with m | n
    · rwa [e] at m
    · exact absurd (e.symm.trans n) (ht.2 x hx)
  have ht' := (Table.wf_iff d t).mp ht
  have hu' := (Table.wf_iff d u).mp hu
  refine List.Perm.eq_of_pairwise (le := fun x y => x.1 < y.1) (fun a b _ _ h1 h2 => absurd h1 (by omega)) ht'.1 hu'.1 ?_
  rw [List.perm_ext_iff_of_nodup]
  · exact fun a => ⟨sub ht h a, sub hu (fun k => (h k).symm) a⟩
  · exact ht'.1.imp fun h e => by simp [e] at h
  · exact hu'.1.imp fun h e => by simp [e] at h

end Sys2Proof.Machine
end

