-- ==== Sys2Proof/Laws/Memory.lean ====
section
/-!
SUPPORT. Laws of memory: a read after a write gives the bytes written, a write leaves every byte outside it alone, and every
memory operation keeps the canonical form.
-/

namespace Sys2Proof.Machine

theorem readByte_writeByte (s : State) (a : Nat) (b : Byte) : (s.writeByte a b).readByte a = b := by
  simp [State.readByte, State.writeByte]

theorem readByte_writeByte_other (s : State) {a x : Nat} (b : Byte) (h : x ≠ a) :
    (s.writeByte a b).readByte x = s.readByte x := by
  simp [State.readByte, State.writeByte, h]

/-- What a write of bytes leaves at an address: the byte written there, or what stood there before. -/
theorem get_memWrite (m : List Host.Cell) (a : Nat) (bs : Bytes) (x : Nat) :
    Table.get 0#8 (memWrite m a bs) x = if a ≤ x ∧ x < a + bs.length then bs.getD (x - a) 0#8 else Table.get 0#8 m x := by
  induction bs generalizing m a with
  | nil =>
    simp only [memWrite, List.length_nil, Nat.add_zero]
    rw [if_neg (by omega)]
  | cons b bs ih =>
    simp only [memWrite, ih, List.length_cons]
    by_cases h : x = a
    · subst h
      rw [if_neg (by omega), if_pos (by omega)]
      simp
    · by_cases g : a + 1 ≤ x ∧ x < a + 1 + bs.length
      · rw [if_pos g, if_pos (by omega)]
        obtain ⟨k, rfl⟩ : ∃ k, x = a + 1 + k := ⟨x - (a + 1), by omega⟩
        have e1 : a + 1 + k - (a + 1) = k := by omega
        have e2 : a + 1 + k - a = k + 1 := by omega
        rw [e1, e2]
        simp
      · rw [if_neg g, if_neg (by omega)]
        exact Table.get_set_other _ _ _ h

theorem readByte_writeBytes (s : State) (a : Nat) (bs : Bytes) (x : Nat) :
    (s.writeBytes a bs).readByte x = if a ≤ x ∧ x < a + bs.length then bs.getD (x - a) 0#8 else s.readByte x :=
  get_memWrite s.mem a bs x

/-- A write leaves every byte outside it alone. -/
theorem readByte_writeBytes_other (s : State) {a x : Nat} (bs : Bytes) (h : x < a ∨ a + bs.length ≤ x) :
    (s.writeBytes a bs).readByte x = s.readByte x := by
  rw [readByte_writeBytes, if_neg (by omega)]

/-- A read of a range after a write of it gives the bytes written. -/
theorem readBytes_writeBytes (s : State) (a : Nat) (bs : Bytes) : (s.writeBytes a bs).readBytes a bs.length = bs := by
  apply List.ext_getElem
  · simp [State.readBytes]
  · intro i h1 h2
    simp only [State.readBytes, List.getElem_map, List.getElem_range, readByte_writeBytes]
    rw [if_pos (by omega)]
    simp [h2]

/-- Clearing a range makes its bytes read as 0 and leaves the others alone. -/
theorem readByte_clearBytes (s : State) (a n x : Nat) :
    (s.clearBytes a n).readByte x = if a ≤ x ∧ x < a + n then 0#8 else s.readByte x := by
  simp only [State.readByte, State.clearBytes]
  induction s.mem with
  | nil => simp
  | cons y t ih =>
    obtain ⟨j, w⟩ := y
    by_cases hj : a ≤ j ∧ j < a + n
    · rw [List.filter_cons_of_neg (by simp [hj]), ih]
      split
      · rfl
      · have : ¬ j = x := by rintro rfl; exact absurd hj ‹_›
        simp [Table.get, this]
    · rw [List.filter_cons_of_pos (by simp; omega)]
      simp only [Table.get, ih]
      by_cases e : j = x
      · subst e
        simp [hj]
      · simp [e]

/-! ## The canonical form -/

theorem wf_memWrite {m : List Host.Cell} (h : Memory.wf m = true) (a : Nat) (bs : Bytes) :
    Memory.wf (memWrite m a bs) = true := by
  induction bs generalizing m a with
  | nil => exact h
  | cons b bs ih => exact ih (Table.wf_set _ _ _ h) _

theorem wf_writeByte {s : State} (h : Memory.wf s.mem = true) (a : Nat) (b : Byte) : Memory.wf (s.writeByte a b).mem = true :=
  Table.wf_set _ _ _ h

theorem wf_writeBytes {s : State} (h : Memory.wf s.mem = true) (a : Nat) (bs : Bytes) :
    Memory.wf (s.writeBytes a bs).mem = true := wf_memWrite h a bs

theorem wf_clearBytes {s : State} (h : Memory.wf s.mem = true) (a n : Nat) : Memory.wf (s.clearBytes a n).mem = true :=
  Table.wf_filter _ h _

theorem wf_reset : Memory.wf State.reset.mem = true := rfl

end Sys2Proof.Machine
end

