-- ==== Sys2Proof/Laws/State.lean ====
section
/-!
SUPPORT. What each update of the state leaves alone, one lemma per field per update, and what reading a unit gives after an
update of it.
-/

namespace Sys2Proof.Machine

/-! ## Fields that an update does not touch -/

section
variable (s : State) (t : Tk)
theorem advance_eq : (s.advance t) = { s with now := (s.advance t).now } := by unfold State.advance; rfl
@[simp] theorem advance_pending : (s.advance t).pending = s.pending := (congrArg State.pending (advance_eq s t)).trans rfl
@[simp] theorem advance_mode : (s.advance t).mode = s.mode := (congrArg State.mode (advance_eq s t)).trans rfl
@[simp] theorem advance_objs : (s.advance t).objs = s.objs := (congrArg State.objs (advance_eq s t)).trans rfl
@[simp] theorem advance_blobs : (s.advance t).blobs = s.blobs := (congrArg State.blobs (advance_eq s t)).trans rfl
@[simp] theorem advance_mem : (s.advance t).mem = s.mem := (congrArg State.mem (advance_eq s t)).trans rfl
@[simp] theorem advance_flips : (s.advance t).flips = s.flips := (congrArg State.flips (advance_eq s t)).trans rfl
@[simp] theorem advance_ports : (s.advance t).ports = s.ports := (congrArg State.ports (advance_eq s t)).trans rfl
@[simp] theorem advance_pins : (s.advance t).pins = s.pins := (congrArg State.pins (advance_eq s t)).trans rfl
@[simp] theorem advance_convs : (s.advance t).convs = s.convs := (congrArg State.convs (advance_eq s t)).trans rfl
@[simp] theorem advance_chains : (s.advance t).chains = s.chains := (congrArg State.chains (advance_eq s t)).trans rfl
@[simp] theorem advance_map : (s.advance t).map = s.map := (congrArg State.map (advance_eq s t)).trans rfl
@[simp] theorem advance_disp : (s.advance t).disp = s.disp := (congrArg State.disp (advance_eq s t)).trans rfl
@[simp] theorem advance_sweeps : (s.advance t).sweeps = s.sweeps := (congrArg State.sweeps (advance_eq s t)).trans rfl
@[simp] theorem advance_busSources : (s.advance t).busSources = s.busSources := (congrArg State.busSources (advance_eq s t)).trans rfl
@[simp] theorem advance_cans : (s.advance t).cans = s.cans := (congrArg State.cans (advance_eq s t)).trans rfl
@[simp] theorem advance_lins : (s.advance t).lins = s.lins := (congrArg State.lins (advance_eq s t)).trans rfl
@[simp] theorem advance_sents : (s.advance t).sents = s.sents := (congrArg State.sents (advance_eq s t)).trans rfl
@[simp] theorem advance_gov : (s.advance t).gov = s.gov := (congrArg State.gov (advance_eq s t)).trans rfl
@[simp] theorem advance_cores : (s.advance t).cores = s.cores := (congrArg State.cores (advance_eq s t)).trans rfl
@[simp] theorem advance_sources : (s.advance t).sources = s.sources := (congrArg State.sources (advance_eq s t)).trans rfl
@[simp] theorem advance_timebase : (s.advance t).timebase = s.timebase := (congrArg State.timebase (advance_eq s t)).trans rfl
@[simp] theorem advance_trigOuts : (s.advance t).trigOuts = s.trigOuts := (congrArg State.trigOuts (advance_eq s t)).trans rfl
@[simp] theorem advance_queues : (s.advance t).queues = s.queues := (congrArg State.queues (advance_eq s t)).trans rfl
@[simp] theorem advance_pantry : (s.advance t).pantry = s.pantry := (congrArg State.pantry (advance_eq s t)).trans rfl
@[simp] theorem advance_streams : (s.advance t).streams = s.streams := (congrArg State.streams (advance_eq s t)).trans rfl
@[simp] theorem advance_zones : (s.advance t).zones = s.zones := (congrArg State.zones (advance_eq s t)).trans rfl
@[simp] theorem advance_loader : (s.advance t).loader = s.loader := (congrArg State.loader (advance_eq s t)).trans rfl
@[simp] theorem advance_frames : (s.advance t).frames = s.frames := (congrArg State.frames (advance_eq s t)).trans rfl
@[simp] theorem advance_loft : (s.advance t).loft = s.loft := (congrArg State.loft (advance_eq s t)).trans rfl
@[simp] theorem advance_keys : (s.advance t).keys = s.keys := (congrArg State.keys (advance_eq s t)).trans rfl
@[simp] theorem advance_scrub : (s.advance t).scrub = s.scrub := (congrArg State.scrub (advance_eq s t)).trans rfl
@[simp] theorem advance_sessions : (s.advance t).sessions = s.sessions := (congrArg State.sessions (advance_eq s t)).trans rfl
@[simp] theorem advance_links : (s.advance t).links = s.links := (congrArg State.links (advance_eq s t)).trans rfl
@[simp] theorem advance_claims : (s.advance t).claims = s.claims := (congrArg State.claims (advance_eq s t)).trans rfl
@[simp] theorem advance_cycle : (s.advance t).cycle = s.cycle := (congrArg State.cycle (advance_eq s t)).trans rfl
@[simp] theorem advance_keyFailures : (s.advance t).keyFailures = s.keyFailures := (congrArg State.keyFailures (advance_eq s t)).trans rfl
@[simp] theorem advance_keyLockouts : (s.advance t).keyLockouts = s.keyLockouts := (congrArg State.keyLockouts (advance_eq s t)).trans rfl
@[simp] theorem advance_cellar : (s.advance t).cellar = s.cellar := (congrArg State.cellar (advance_eq s t)).trans rfl
@[simp] theorem advance_cal : (s.advance t).cal = s.cal := (congrArg State.cal (advance_eq s t)).trans rfl
@[simp] theorem advance_power : (s.advance t).power = s.power := (congrArg State.power (advance_eq s t)).trans rfl
@[simp] theorem advance_log : (s.advance t).log = s.log := (congrArg State.log (advance_eq s t)).trans rfl
@[simp] theorem advance_outbox : (s.advance t).outbox = s.outbox := (congrArg State.outbox (advance_eq s t)).trans rfl
@[simp] theorem advance_fresh : (s.advance t).fresh = s.fresh := (congrArg State.fresh (advance_eq s t)).trans rfl
end
section
variable (s : State) (a : Nat) (b : Byte)
theorem writeByte_eq : (s.writeByte a b) = { s with mem := (s.writeByte a b).mem } := by unfold State.writeByte; rfl
@[simp] theorem writeByte_pending : (s.writeByte a b).pending = s.pending := (congrArg State.pending (writeByte_eq s a b)).trans rfl
@[simp] theorem writeByte_now : (s.writeByte a b).now = s.now := (congrArg State.now (writeByte_eq s a b)).trans rfl
@[simp] theorem writeByte_mode : (s.writeByte a b).mode = s.mode := (congrArg State.mode (writeByte_eq s a b)).trans rfl
@[simp] theorem writeByte_objs : (s.writeByte a b).objs = s.objs := (congrArg State.objs (writeByte_eq s a b)).trans rfl
@[simp] theorem writeByte_blobs : (s.writeByte a b).blobs = s.blobs := (congrArg State.blobs (writeByte_eq s a b)).trans rfl
@[simp] theorem writeByte_flips : (s.writeByte a b).flips = s.flips := (congrArg State.flips (writeByte_eq s a b)).trans rfl
@[simp] theorem writeByte_ports : (s.writeByte a b).ports = s.ports := (congrArg State.ports (writeByte_eq s a b)).trans rfl
@[simp] theorem writeByte_pins : (s.writeByte a b).pins = s.pins := (congrArg State.pins (writeByte_eq s a b)).trans rfl
@[simp] theorem writeByte_convs : (s.writeByte a b).convs = s.convs := (congrArg State.convs (writeByte_eq s a b)).trans rfl
@[simp] theorem writeByte_chains : (s.writeByte a b).chains = s.chains := (congrArg State.chains (writeByte_eq s a b)).trans rfl
@[simp] theorem writeByte_map : (s.writeByte a b).map = s.map := (congrArg State.map (writeByte_eq s a b)).trans rfl
@[simp] theorem writeByte_disp : (s.writeByte a b).disp = s.disp := (congrArg State.disp (writeByte_eq s a b)).trans rfl
@[simp] theorem writeByte_sweeps : (s.writeByte a b).sweeps = s.sweeps := (congrArg State.sweeps (writeByte_eq s a b)).trans rfl
@[simp] theorem writeByte_busSources : (s.writeByte a b).busSources = s.busSources := (congrArg State.busSources (writeByte_eq s a b)).trans rfl
@[simp] theorem writeByte_cans : (s.writeByte a b).cans = s.cans := (congrArg State.cans (writeByte_eq s a b)).trans rfl
@[simp] theorem writeByte_lins : (s.writeByte a b).lins = s.lins := (congrArg State.lins (writeByte_eq s a b)).trans rfl
@[simp] theorem writeByte_sents : (s.writeByte a b).sents = s.sents := (congrArg State.sents (writeByte_eq s a b)).trans rfl
@[simp] theorem writeByte_gov : (s.writeByte a b).gov = s.gov := (congrArg State.gov (writeByte_eq s a b)).trans rfl
@[simp] theorem writeByte_cores : (s.writeByte a b).cores = s.cores := (congrArg State.cores (writeByte_eq s a b)).trans rfl
@[simp] theorem writeByte_sources : (s.writeByte a b).sources = s.sources := (congrArg State.sources (writeByte_eq s a b)).trans rfl
@[simp] theorem writeByte_timebase : (s.writeByte a b).timebase = s.timebase := (congrArg State.timebase (writeByte_eq s a b)).trans rfl
@[simp] theorem writeByte_trigOuts : (s.writeByte a b).trigOuts = s.trigOuts := (congrArg State.trigOuts (writeByte_eq s a b)).trans rfl
@[simp] theorem writeByte_queues : (s.writeByte a b).queues = s.queues := (congrArg State.queues (writeByte_eq s a b)).trans rfl
@[simp] theorem writeByte_pantry : (s.writeByte a b).pantry = s.pantry := (congrArg State.pantry (writeByte_eq s a b)).trans rfl
@[simp] theorem writeByte_streams : (s.writeByte a b).streams = s.streams := (congrArg State.streams (writeByte_eq s a b)).trans rfl
@[simp] theorem writeByte_zones : (s.writeByte a b).zones = s.zones := (congrArg State.zones (writeByte_eq s a b)).trans rfl
@[simp] theorem writeByte_loader : (s.writeByte a b).loader = s.loader := (congrArg State.loader (writeByte_eq s a b)).trans rfl
@[simp] theorem writeByte_frames : (s.writeByte a b).frames = s.frames := (congrArg State.frames (writeByte_eq s a b)).trans rfl
@[simp] theorem writeByte_loft : (s.writeByte a b).loft = s.loft := (congrArg State.loft (writeByte_eq s a b)).trans rfl
@[simp] theorem writeByte_keys : (s.writeByte a b).keys = s.keys := (congrArg State.keys (writeByte_eq s a b)).trans rfl
@[simp] theorem writeByte_scrub : (s.writeByte a b).scrub = s.scrub := (congrArg State.scrub (writeByte_eq s a b)).trans rfl
@[simp] theorem writeByte_sessions : (s.writeByte a b).sessions = s.sessions := (congrArg State.sessions (writeByte_eq s a b)).trans rfl
@[simp] theorem writeByte_links : (s.writeByte a b).links = s.links := (congrArg State.links (writeByte_eq s a b)).trans rfl
@[simp] theorem writeByte_claims : (s.writeByte a b).claims = s.claims := (congrArg State.claims (writeByte_eq s a b)).trans rfl
@[simp] theorem writeByte_cycle : (s.writeByte a b).cycle = s.cycle := (congrArg State.cycle (writeByte_eq s a b)).trans rfl
@[simp] theorem writeByte_keyFailures : (s.writeByte a b).keyFailures = s.keyFailures := (congrArg State.keyFailures (writeByte_eq s a b)).trans rfl
@[simp] theorem writeByte_keyLockouts : (s.writeByte a b).keyLockouts = s.keyLockouts := (congrArg State.keyLockouts (writeByte_eq s a b)).trans rfl
@[simp] theorem writeByte_cellar : (s.writeByte a b).cellar = s.cellar := (congrArg State.cellar (writeByte_eq s a b)).trans rfl
@[simp] theorem writeByte_cal : (s.writeByte a b).cal = s.cal := (congrArg State.cal (writeByte_eq s a b)).trans rfl
@[simp] theorem writeByte_power : (s.writeByte a b).power = s.power := (congrArg State.power (writeByte_eq s a b)).trans rfl
@[simp] theorem writeByte_log : (s.writeByte a b).log = s.log := (congrArg State.log (writeByte_eq s a b)).trans rfl
@[simp] theorem writeByte_outbox : (s.writeByte a b).outbox = s.outbox := (congrArg State.outbox (writeByte_eq s a b)).trans rfl
@[simp] theorem writeByte_fresh : (s.writeByte a b).fresh = s.fresh := (congrArg State.fresh (writeByte_eq s a b)).trans rfl
end
section
variable (s : State) (a : Nat) (bs : Bytes)
theorem writeBytes_eq : (s.writeBytes a bs) = { s with mem := (s.writeBytes a bs).mem } := by unfold State.writeBytes; rfl
@[simp] theorem writeBytes_pending : (s.writeBytes a bs).pending = s.pending := (congrArg State.pending (writeBytes_eq s a bs)).trans rfl
@[simp] theorem writeBytes_now : (s.writeBytes a bs).now = s.now := (congrArg State.now (writeBytes_eq s a bs)).trans rfl
@[simp] theorem writeBytes_mode : (s.writeBytes a bs).mode = s.mode := (congrArg State.mode (writeBytes_eq s a bs)).trans rfl
@[simp] theorem writeBytes_objs : (s.writeBytes a bs).objs = s.objs := (congrArg State.objs (writeBytes_eq s a bs)).trans rfl
@[simp] theorem writeBytes_blobs : (s.writeBytes a bs).blobs = s.blobs := (congrArg State.blobs (writeBytes_eq s a bs)).trans rfl
@[simp] theorem writeBytes_flips : (s.writeBytes a bs).flips = s.flips := (congrArg State.flips (writeBytes_eq s a bs)).trans rfl
@[simp] theorem writeBytes_ports : (s.writeBytes a bs).ports = s.ports := (congrArg State.ports (writeBytes_eq s a bs)).trans rfl
@[simp] theorem writeBytes_pins : (s.writeBytes a bs).pins = s.pins := (congrArg State.pins (writeBytes_eq s a bs)).trans rfl
@[simp] theorem writeBytes_convs : (s.writeBytes a bs).convs = s.convs := (congrArg State.convs (writeBytes_eq s a bs)).trans rfl
@[simp] theorem writeBytes_chains : (s.writeBytes a bs).chains = s.chains := (congrArg State.chains (writeBytes_eq s a bs)).trans rfl
@[simp] theorem writeBytes_map : (s.writeBytes a bs).map = s.map := (congrArg State.map (writeBytes_eq s a bs)).trans rfl
@[simp] theorem writeBytes_disp : (s.writeBytes a bs).disp = s.disp := (congrArg State.disp (writeBytes_eq s a bs)).trans rfl
@[simp] theorem writeBytes_sweeps : (s.writeBytes a bs).sweeps = s.sweeps := (congrArg State.sweeps (writeBytes_eq s a bs)).trans rfl
@[simp] theorem writeBytes_busSources : (s.writeBytes a bs).busSources = s.busSources := (congrArg State.busSources (writeBytes_eq s a bs)).trans rfl
@[simp] theorem writeBytes_cans : (s.writeBytes a bs).cans = s.cans := (congrArg State.cans (writeBytes_eq s a bs)).trans rfl
@[simp] theorem writeBytes_lins : (s.writeBytes a bs).lins = s.lins := (congrArg State.lins (writeBytes_eq s a bs)).trans rfl
@[simp] theorem writeBytes_sents : (s.writeBytes a bs).sents = s.sents := (congrArg State.sents (writeBytes_eq s a bs)).trans rfl
@[simp] theorem writeBytes_gov : (s.writeBytes a bs).gov = s.gov := (congrArg State.gov (writeBytes_eq s a bs)).trans rfl
@[simp] theorem writeBytes_cores : (s.writeBytes a bs).cores = s.cores := (congrArg State.cores (writeBytes_eq s a bs)).trans rfl
@[simp] theorem writeBytes_sources : (s.writeBytes a bs).sources = s.sources := (congrArg State.sources (writeBytes_eq s a bs)).trans rfl
@[simp] theorem writeBytes_timebase : (s.writeBytes a bs).timebase = s.timebase := (congrArg State.timebase (writeBytes_eq s a bs)).trans rfl
@[simp] theorem writeBytes_trigOuts : (s.writeBytes a bs).trigOuts = s.trigOuts := (congrArg State.trigOuts (writeBytes_eq s a bs)).trans rfl
@[simp] theorem writeBytes_queues : (s.writeBytes a bs).queues = s.queues := (congrArg State.queues (writeBytes_eq s a bs)).trans rfl
@[simp] theorem writeBytes_pantry : (s.writeBytes a bs).pantry = s.pantry := (congrArg State.pantry (writeBytes_eq s a bs)).trans rfl
@[simp] theorem writeBytes_streams : (s.writeBytes a bs).streams = s.streams := (congrArg State.streams (writeBytes_eq s a bs)).trans rfl
@[simp] theorem writeBytes_zones : (s.writeBytes a bs).zones = s.zones := (congrArg State.zones (writeBytes_eq s a bs)).trans rfl
@[simp] theorem writeBytes_loader : (s.writeBytes a bs).loader = s.loader := (congrArg State.loader (writeBytes_eq s a bs)).trans rfl
@[simp] theorem writeBytes_frames : (s.writeBytes a bs).frames = s.frames := (congrArg State.frames (writeBytes_eq s a bs)).trans rfl
@[simp] theorem writeBytes_loft : (s.writeBytes a bs).loft = s.loft := (congrArg State.loft (writeBytes_eq s a bs)).trans rfl
@[simp] theorem writeBytes_keys : (s.writeBytes a bs).keys = s.keys := (congrArg State.keys (writeBytes_eq s a bs)).trans rfl
@[simp] theorem writeBytes_scrub : (s.writeBytes a bs).scrub = s.scrub := (congrArg State.scrub (writeBytes_eq s a bs)).trans rfl
@[simp] theorem writeBytes_sessions : (s.writeBytes a bs).sessions = s.sessions := (congrArg State.sessions (writeBytes_eq s a bs)).trans rfl
@[simp] theorem writeBytes_links : (s.writeBytes a bs).links = s.links := (congrArg State.links (writeBytes_eq s a bs)).trans rfl
@[simp] theorem writeBytes_claims : (s.writeBytes a bs).claims = s.claims := (congrArg State.claims (writeBytes_eq s a bs)).trans rfl
@[simp] theorem writeBytes_cycle : (s.writeBytes a bs).cycle = s.cycle := (congrArg State.cycle (writeBytes_eq s a bs)).trans rfl
@[simp] theorem writeBytes_keyFailures : (s.writeBytes a bs).keyFailures = s.keyFailures := (congrArg State.keyFailures (writeBytes_eq s a bs)).trans rfl
@[simp] theorem writeBytes_keyLockouts : (s.writeBytes a bs).keyLockouts = s.keyLockouts := (congrArg State.keyLockouts (writeBytes_eq s a bs)).trans rfl
@[simp] theorem writeBytes_cellar : (s.writeBytes a bs).cellar = s.cellar := (congrArg State.cellar (writeBytes_eq s a bs)).trans rfl
@[simp] theorem writeBytes_cal : (s.writeBytes a bs).cal = s.cal := (congrArg State.cal (writeBytes_eq s a bs)).trans rfl
@[simp] theorem writeBytes_power : (s.writeBytes a bs).power = s.power := (congrArg State.power (writeBytes_eq s a bs)).trans rfl
@[simp] theorem writeBytes_log : (s.writeBytes a bs).log = s.log := (congrArg State.log (writeBytes_eq s a bs)).trans rfl
@[simp] theorem writeBytes_outbox : (s.writeBytes a bs).outbox = s.outbox := (congrArg State.outbox (writeBytes_eq s a bs)).trans rfl
@[simp] theorem writeBytes_fresh : (s.writeBytes a bs).fresh = s.fresh := (congrArg State.fresh (writeBytes_eq s a bs)).trans rfl
end
section
variable (s : State) (a n : Nat)
theorem clearBytes_eq : (s.clearBytes a n) = { s with mem := (s.clearBytes a n).mem } := by unfold State.clearBytes; rfl
@[simp] theorem clearBytes_pending : (s.clearBytes a n).pending = s.pending := (congrArg State.pending (clearBytes_eq s a n)).trans rfl
@[simp] theorem clearBytes_now : (s.clearBytes a n).now = s.now := (congrArg State.now (clearBytes_eq s a n)).trans rfl
@[simp] theorem clearBytes_mode : (s.clearBytes a n).mode = s.mode := (congrArg State.mode (clearBytes_eq s a n)).trans rfl
@[simp] theorem clearBytes_objs : (s.clearBytes a n).objs = s.objs := (congrArg State.objs (clearBytes_eq s a n)).trans rfl
@[simp] theorem clearBytes_blobs : (s.clearBytes a n).blobs = s.blobs := (congrArg State.blobs (clearBytes_eq s a n)).trans rfl
@[simp] theorem clearBytes_flips : (s.clearBytes a n).flips = s.flips := (congrArg State.flips (clearBytes_eq s a n)).trans rfl
@[simp] theorem clearBytes_ports : (s.clearBytes a n).ports = s.ports := (congrArg State.ports (clearBytes_eq s a n)).trans rfl
@[simp] theorem clearBytes_pins : (s.clearBytes a n).pins = s.pins := (congrArg State.pins (clearBytes_eq s a n)).trans rfl
@[simp] theorem clearBytes_convs : (s.clearBytes a n).convs = s.convs := (congrArg State.convs (clearBytes_eq s a n)).trans rfl
@[simp] theorem clearBytes_chains : (s.clearBytes a n).chains = s.chains := (congrArg State.chains (clearBytes_eq s a n)).trans rfl
@[simp] theorem clearBytes_map : (s.clearBytes a n).map = s.map := (congrArg State.map (clearBytes_eq s a n)).trans rfl
@[simp] theorem clearBytes_disp : (s.clearBytes a n).disp = s.disp := (congrArg State.disp (clearBytes_eq s a n)).trans rfl
@[simp] theorem clearBytes_sweeps : (s.clearBytes a n).sweeps = s.sweeps := (congrArg State.sweeps (clearBytes_eq s a n)).trans rfl
@[simp] theorem clearBytes_busSources : (s.clearBytes a n).busSources = s.busSources := (congrArg State.busSources (clearBytes_eq s a n)).trans rfl
@[simp] theorem clearBytes_cans : (s.clearBytes a n).cans = s.cans := (congrArg State.cans (clearBytes_eq s a n)).trans rfl
@[simp] theorem clearBytes_lins : (s.clearBytes a n).lins = s.lins := (congrArg State.lins (clearBytes_eq s a n)).trans rfl
@[simp] theorem clearBytes_sents : (s.clearBytes a n).sents = s.sents := (congrArg State.sents (clearBytes_eq s a n)).trans rfl
@[simp] theorem clearBytes_gov : (s.clearBytes a n).gov = s.gov := (congrArg State.gov (clearBytes_eq s a n)).trans rfl
@[simp] theorem clearBytes_cores : (s.clearBytes a n).cores = s.cores := (congrArg State.cores (clearBytes_eq s a n)).trans rfl
@[simp] theorem clearBytes_sources : (s.clearBytes a n).sources = s.sources := (congrArg State.sources (clearBytes_eq s a n)).trans rfl
@[simp] theorem clearBytes_timebase : (s.clearBytes a n).timebase = s.timebase := (congrArg State.timebase (clearBytes_eq s a n)).trans rfl
@[simp] theorem clearBytes_trigOuts : (s.clearBytes a n).trigOuts = s.trigOuts := (congrArg State.trigOuts (clearBytes_eq s a n)).trans rfl
@[simp] theorem clearBytes_queues : (s.clearBytes a n).queues = s.queues := (congrArg State.queues (clearBytes_eq s a n)).trans rfl
@[simp] theorem clearBytes_pantry : (s.clearBytes a n).pantry = s.pantry := (congrArg State.pantry (clearBytes_eq s a n)).trans rfl
@[simp] theorem clearBytes_streams : (s.clearBytes a n).streams = s.streams := (congrArg State.streams (clearBytes_eq s a n)).trans rfl
@[simp] theorem clearBytes_zones : (s.clearBytes a n).zones = s.zones := (congrArg State.zones (clearBytes_eq s a n)).trans rfl
@[simp] theorem clearBytes_loader : (s.clearBytes a n).loader = s.loader := (congrArg State.loader (clearBytes_eq s a n)).trans rfl
@[simp] theorem clearBytes_frames : (s.clearBytes a n).frames = s.frames := (congrArg State.frames (clearBytes_eq s a n)).trans rfl
@[simp] theorem clearBytes_loft : (s.clearBytes a n).loft = s.loft := (congrArg State.loft (clearBytes_eq s a n)).trans rfl
@[simp] theorem clearBytes_keys : (s.clearBytes a n).keys = s.keys := (congrArg State.keys (clearBytes_eq s a n)).trans rfl
@[simp] theorem clearBytes_scrub : (s.clearBytes a n).scrub = s.scrub := (congrArg State.scrub (clearBytes_eq s a n)).trans rfl
@[simp] theorem clearBytes_sessions : (s.clearBytes a n).sessions = s.sessions := (congrArg State.sessions (clearBytes_eq s a n)).trans rfl
@[simp] theorem clearBytes_links : (s.clearBytes a n).links = s.links := (congrArg State.links (clearBytes_eq s a n)).trans rfl
@[simp] theorem clearBytes_claims : (s.clearBytes a n).claims = s.claims := (congrArg State.claims (clearBytes_eq s a n)).trans rfl
@[simp] theorem clearBytes_cycle : (s.clearBytes a n).cycle = s.cycle := (congrArg State.cycle (clearBytes_eq s a n)).trans rfl
@[simp] theorem clearBytes_keyFailures : (s.clearBytes a n).keyFailures = s.keyFailures := (congrArg State.keyFailures (clearBytes_eq s a n)).trans rfl
@[simp] theorem clearBytes_keyLockouts : (s.clearBytes a n).keyLockouts = s.keyLockouts := (congrArg State.keyLockouts (clearBytes_eq s a n)).trans rfl
@[simp] theorem clearBytes_cellar : (s.clearBytes a n).cellar = s.cellar := (congrArg State.cellar (clearBytes_eq s a n)).trans rfl
@[simp] theorem clearBytes_cal : (s.clearBytes a n).cal = s.cal := (congrArg State.cal (clearBytes_eq s a n)).trans rfl
@[simp] theorem clearBytes_power : (s.clearBytes a n).power = s.power := (congrArg State.power (clearBytes_eq s a n)).trans rfl
@[simp] theorem clearBytes_log : (s.clearBytes a n).log = s.log := (congrArg State.log (clearBytes_eq s a n)).trans rfl
@[simp] theorem clearBytes_outbox : (s.clearBytes a n).outbox = s.outbox := (congrArg State.outbox (clearBytes_eq s a n)).trans rfl
@[simp] theorem clearBytes_fresh : (s.clearBytes a n).fresh = s.fresh := (congrArg State.fresh (clearBytes_eq s a n)).trans rfl
end
section
variable (s : State) (a n : Nat)
theorem freshWords_eq : (s.freshWords a n) = { s with flips := (s.freshWords a n).flips } := by unfold State.freshWords; rfl
@[simp] theorem freshWords_pending : (s.freshWords a n).pending = s.pending := (congrArg State.pending (freshWords_eq s a n)).trans rfl
@[simp] theorem freshWords_now : (s.freshWords a n).now = s.now := (congrArg State.now (freshWords_eq s a n)).trans rfl
@[simp] theorem freshWords_mode : (s.freshWords a n).mode = s.mode := (congrArg State.mode (freshWords_eq s a n)).trans rfl
@[simp] theorem freshWords_objs : (s.freshWords a n).objs = s.objs := (congrArg State.objs (freshWords_eq s a n)).trans rfl
@[simp] theorem freshWords_blobs : (s.freshWords a n).blobs = s.blobs := (congrArg State.blobs (freshWords_eq s a n)).trans rfl
@[simp] theorem freshWords_mem : (s.freshWords a n).mem = s.mem := (congrArg State.mem (freshWords_eq s a n)).trans rfl
@[simp] theorem freshWords_ports : (s.freshWords a n).ports = s.ports := (congrArg State.ports (freshWords_eq s a n)).trans rfl
@[simp] theorem freshWords_pins : (s.freshWords a n).pins = s.pins := (congrArg State.pins (freshWords_eq s a n)).trans rfl
@[simp] theorem freshWords_convs : (s.freshWords a n).convs = s.convs := (congrArg State.convs (freshWords_eq s a n)).trans rfl
@[simp] theorem freshWords_chains : (s.freshWords a n).chains = s.chains := (congrArg State.chains (freshWords_eq s a n)).trans rfl
@[simp] theorem freshWords_map : (s.freshWords a n).map = s.map := (congrArg State.map (freshWords_eq s a n)).trans rfl
@[simp] theorem freshWords_disp : (s.freshWords a n).disp = s.disp := (congrArg State.disp (freshWords_eq s a n)).trans rfl
@[simp] theorem freshWords_sweeps : (s.freshWords a n).sweeps = s.sweeps := (congrArg State.sweeps (freshWords_eq s a n)).trans rfl
@[simp] theorem freshWords_busSources : (s.freshWords a n).busSources = s.busSources := (congrArg State.busSources (freshWords_eq s a n)).trans rfl
@[simp] theorem freshWords_cans : (s.freshWords a n).cans = s.cans := (congrArg State.cans (freshWords_eq s a n)).trans rfl
@[simp] theorem freshWords_lins : (s.freshWords a n).lins = s.lins := (congrArg State.lins (freshWords_eq s a n)).trans rfl
@[simp] theorem freshWords_sents : (s.freshWords a n).sents = s.sents := (congrArg State.sents (freshWords_eq s a n)).trans rfl
@[simp] theorem freshWords_gov : (s.freshWords a n).gov = s.gov := (congrArg State.gov (freshWords_eq s a n)).trans rfl
@[simp] theorem freshWords_cores : (s.freshWords a n).cores = s.cores := (congrArg State.cores (freshWords_eq s a n)).trans rfl
@[simp] theorem freshWords_sources : (s.freshWords a n).sources = s.sources := (congrArg State.sources (freshWords_eq s a n)).trans rfl
@[simp] theorem freshWords_timebase : (s.freshWords a n).timebase = s.timebase := (congrArg State.timebase (freshWords_eq s a n)).trans rfl
@[simp] theorem freshWords_trigOuts : (s.freshWords a n).trigOuts = s.trigOuts := (congrArg State.trigOuts (freshWords_eq s a n)).trans rfl
@[simp] theorem freshWords_queues : (s.freshWords a n).queues = s.queues := (congrArg State.queues (freshWords_eq s a n)).trans rfl
@[simp] theorem freshWords_pantry : (s.freshWords a n).pantry = s.pantry := (congrArg State.pantry (freshWords_eq s a n)).trans rfl
@[simp] theorem freshWords_streams : (s.freshWords a n).streams = s.streams := (congrArg State.streams (freshWords_eq s a n)).trans rfl
@[simp] theorem freshWords_zones : (s.freshWords a n).zones = s.zones := (congrArg State.zones (freshWords_eq s a n)).trans rfl
@[simp] theorem freshWords_loader : (s.freshWords a n).loader = s.loader := (congrArg State.loader (freshWords_eq s a n)).trans rfl
@[simp] theorem freshWords_frames : (s.freshWords a n).frames = s.frames := (congrArg State.frames (freshWords_eq s a n)).trans rfl
@[simp] theorem freshWords_loft : (s.freshWords a n).loft = s.loft := (congrArg State.loft (freshWords_eq s a n)).trans rfl
@[simp] theorem freshWords_keys : (s.freshWords a n).keys = s.keys := (congrArg State.keys (freshWords_eq s a n)).trans rfl
@[simp] theorem freshWords_scrub : (s.freshWords a n).scrub = s.scrub := (congrArg State.scrub (freshWords_eq s a n)).trans rfl
@[simp] theorem freshWords_sessions : (s.freshWords a n).sessions = s.sessions := (congrArg State.sessions (freshWords_eq s a n)).trans rfl
@[simp] theorem freshWords_links : (s.freshWords a n).links = s.links := (congrArg State.links (freshWords_eq s a n)).trans rfl
@[simp] theorem freshWords_claims : (s.freshWords a n).claims = s.claims := (congrArg State.claims (freshWords_eq s a n)).trans rfl
@[simp] theorem freshWords_cycle : (s.freshWords a n).cycle = s.cycle := (congrArg State.cycle (freshWords_eq s a n)).trans rfl
@[simp] theorem freshWords_keyFailures : (s.freshWords a n).keyFailures = s.keyFailures := (congrArg State.keyFailures (freshWords_eq s a n)).trans rfl
@[simp] theorem freshWords_keyLockouts : (s.freshWords a n).keyLockouts = s.keyLockouts := (congrArg State.keyLockouts (freshWords_eq s a n)).trans rfl
@[simp] theorem freshWords_cellar : (s.freshWords a n).cellar = s.cellar := (congrArg State.cellar (freshWords_eq s a n)).trans rfl
@[simp] theorem freshWords_cal : (s.freshWords a n).cal = s.cal := (congrArg State.cal (freshWords_eq s a n)).trans rfl
@[simp] theorem freshWords_power : (s.freshWords a n).power = s.power := (congrArg State.power (freshWords_eq s a n)).trans rfl
@[simp] theorem freshWords_log : (s.freshWords a n).log = s.log := (congrArg State.log (freshWords_eq s a n)).trans rfl
@[simp] theorem freshWords_outbox : (s.freshWords a n).outbox = s.outbox := (congrArg State.outbox (freshWords_eq s a n)).trans rfl
@[simp] theorem freshWords_fresh : (s.freshWords a n).fresh = s.fresh := (congrArg State.fresh (freshWords_eq s a n)).trans rfl
end
section
variable (s : State) (k : Nat) (v : Int)
theorem setObjAt_eq : (s.setObjAt k v) = { s with objs := (s.setObjAt k v).objs } := by unfold State.setObjAt; rfl
@[simp] theorem setObjAt_pending : (s.setObjAt k v).pending = s.pending := (congrArg State.pending (setObjAt_eq s k v)).trans rfl
@[simp] theorem setObjAt_now : (s.setObjAt k v).now = s.now := (congrArg State.now (setObjAt_eq s k v)).trans rfl
@[simp] theorem setObjAt_mode : (s.setObjAt k v).mode = s.mode := (congrArg State.mode (setObjAt_eq s k v)).trans rfl
@[simp] theorem setObjAt_blobs : (s.setObjAt k v).blobs = s.blobs := (congrArg State.blobs (setObjAt_eq s k v)).trans rfl
@[simp] theorem setObjAt_mem : (s.setObjAt k v).mem = s.mem := (congrArg State.mem (setObjAt_eq s k v)).trans rfl
@[simp] theorem setObjAt_flips : (s.setObjAt k v).flips = s.flips := (congrArg State.flips (setObjAt_eq s k v)).trans rfl
@[simp] theorem setObjAt_ports : (s.setObjAt k v).ports = s.ports := (congrArg State.ports (setObjAt_eq s k v)).trans rfl
@[simp] theorem setObjAt_pins : (s.setObjAt k v).pins = s.pins := (congrArg State.pins (setObjAt_eq s k v)).trans rfl
@[simp] theorem setObjAt_convs : (s.setObjAt k v).convs = s.convs := (congrArg State.convs (setObjAt_eq s k v)).trans rfl
@[simp] theorem setObjAt_chains : (s.setObjAt k v).chains = s.chains := (congrArg State.chains (setObjAt_eq s k v)).trans rfl
@[simp] theorem setObjAt_map : (s.setObjAt k v).map = s.map := (congrArg State.map (setObjAt_eq s k v)).trans rfl
@[simp] theorem setObjAt_disp : (s.setObjAt k v).disp = s.disp := (congrArg State.disp (setObjAt_eq s k v)).trans rfl
@[simp] theorem setObjAt_sweeps : (s.setObjAt k v).sweeps = s.sweeps := (congrArg State.sweeps (setObjAt_eq s k v)).trans rfl
@[simp] theorem setObjAt_busSources : (s.setObjAt k v).busSources = s.busSources := (congrArg State.busSources (setObjAt_eq s k v)).trans rfl
@[simp] theorem setObjAt_cans : (s.setObjAt k v).cans = s.cans := (congrArg State.cans (setObjAt_eq s k v)).trans rfl
@[simp] theorem setObjAt_lins : (s.setObjAt k v).lins = s.lins := (congrArg State.lins (setObjAt_eq s k v)).trans rfl
@[simp] theorem setObjAt_sents : (s.setObjAt k v).sents = s.sents := (congrArg State.sents (setObjAt_eq s k v)).trans rfl
@[simp] theorem setObjAt_gov : (s.setObjAt k v).gov = s.gov := (congrArg State.gov (setObjAt_eq s k v)).trans rfl
@[simp] theorem setObjAt_cores : (s.setObjAt k v).cores = s.cores := (congrArg State.cores (setObjAt_eq s k v)).trans rfl
@[simp] theorem setObjAt_sources : (s.setObjAt k v).sources = s.sources := (congrArg State.sources (setObjAt_eq s k v)).trans rfl
@[simp] theorem setObjAt_timebase : (s.setObjAt k v).timebase = s.timebase := (congrArg State.timebase (setObjAt_eq s k v)).trans rfl
@[simp] theorem setObjAt_trigOuts : (s.setObjAt k v).trigOuts = s.trigOuts := (congrArg State.trigOuts (setObjAt_eq s k v)).trans rfl
@[simp] theorem setObjAt_queues : (s.setObjAt k v).queues = s.queues := (congrArg State.queues (setObjAt_eq s k v)).trans rfl
@[simp] theorem setObjAt_pantry : (s.setObjAt k v).pantry = s.pantry := (congrArg State.pantry (setObjAt_eq s k v)).trans rfl
@[simp] theorem setObjAt_streams : (s.setObjAt k v).streams = s.streams := (congrArg State.streams (setObjAt_eq s k v)).trans rfl
@[simp] theorem setObjAt_zones : (s.setObjAt k v).zones = s.zones := (congrArg State.zones (setObjAt_eq s k v)).trans rfl
@[simp] theorem setObjAt_loader : (s.setObjAt k v).loader = s.loader := (congrArg State.loader (setObjAt_eq s k v)).trans rfl
@[simp] theorem setObjAt_frames : (s.setObjAt k v).frames = s.frames := (congrArg State.frames (setObjAt_eq s k v)).trans rfl
@[simp] theorem setObjAt_loft : (s.setObjAt k v).loft = s.loft := (congrArg State.loft (setObjAt_eq s k v)).trans rfl
@[simp] theorem setObjAt_keys : (s.setObjAt k v).keys = s.keys := (congrArg State.keys (setObjAt_eq s k v)).trans rfl
@[simp] theorem setObjAt_scrub : (s.setObjAt k v).scrub = s.scrub := (congrArg State.scrub (setObjAt_eq s k v)).trans rfl
@[simp] theorem setObjAt_sessions : (s.setObjAt k v).sessions = s.sessions := (congrArg State.sessions (setObjAt_eq s k v)).trans rfl
@[simp] theorem setObjAt_links : (s.setObjAt k v).links = s.links := (congrArg State.links (setObjAt_eq s k v)).trans rfl
@[simp] theorem setObjAt_claims : (s.setObjAt k v).claims = s.claims := (congrArg State.claims (setObjAt_eq s k v)).trans rfl
@[simp] theorem setObjAt_cycle : (s.setObjAt k v).cycle = s.cycle := (congrArg State.cycle (setObjAt_eq s k v)).trans rfl
@[simp] theorem setObjAt_keyFailures : (s.setObjAt k v).keyFailures = s.keyFailures := (congrArg State.keyFailures (setObjAt_eq s k v)).trans rfl
@[simp] theorem setObjAt_keyLockouts : (s.setObjAt k v).keyLockouts = s.keyLockouts := (congrArg State.keyLockouts (setObjAt_eq s k v)).trans rfl
@[simp] theorem setObjAt_cellar : (s.setObjAt k v).cellar = s.cellar := (congrArg State.cellar (setObjAt_eq s k v)).trans rfl
@[simp] theorem setObjAt_cal : (s.setObjAt k v).cal = s.cal := (congrArg State.cal (setObjAt_eq s k v)).trans rfl
@[simp] theorem setObjAt_power : (s.setObjAt k v).power = s.power := (congrArg State.power (setObjAt_eq s k v)).trans rfl
@[simp] theorem setObjAt_log : (s.setObjAt k v).log = s.log := (congrArg State.log (setObjAt_eq s k v)).trans rfl
@[simp] theorem setObjAt_outbox : (s.setObjAt k v).outbox = s.outbox := (congrArg State.outbox (setObjAt_eq s k v)).trans rfl
@[simp] theorem setObjAt_fresh : (s.setObjAt k v).fresh = s.fresh := (congrArg State.fresh (setObjAt_eq s k v)).trans rfl
end
section
variable (s : State) (i j : Nat) (v : Int)
theorem setObj_eq : (s.setObj i j v) = { s with objs := (s.setObj i j v).objs } := by unfold State.setObj State.setObjAt; rfl
@[simp] theorem setObj_pending : (s.setObj i j v).pending = s.pending := (congrArg State.pending (setObj_eq s i j v)).trans rfl
@[simp] theorem setObj_now : (s.setObj i j v).now = s.now := (congrArg State.now (setObj_eq s i j v)).trans rfl
@[simp] theorem setObj_mode : (s.setObj i j v).mode = s.mode := (congrArg State.mode (setObj_eq s i j v)).trans rfl
@[simp] theorem setObj_blobs : (s.setObj i j v).blobs = s.blobs := (congrArg State.blobs (setObj_eq s i j v)).trans rfl
@[simp] theorem setObj_mem : (s.setObj i j v).mem = s.mem := (congrArg State.mem (setObj_eq s i j v)).trans rfl
@[simp] theorem setObj_flips : (s.setObj i j v).flips = s.flips := (congrArg State.flips (setObj_eq s i j v)).trans rfl
@[simp] theorem setObj_ports : (s.setObj i j v).ports = s.ports := (congrArg State.ports (setObj_eq s i j v)).trans rfl
@[simp] theorem setObj_pins : (s.setObj i j v).pins = s.pins := (congrArg State.pins (setObj_eq s i j v)).trans rfl
@[simp] theorem setObj_convs : (s.setObj i j v).convs = s.convs := (congrArg State.convs (setObj_eq s i j v)).trans rfl
@[simp] theorem setObj_chains : (s.setObj i j v).chains = s.chains := (congrArg State.chains (setObj_eq s i j v)).trans rfl
@[simp] theorem setObj_map : (s.setObj i j v).map = s.map := (congrArg State.map (setObj_eq s i j v)).trans rfl
@[simp] theorem setObj_disp : (s.setObj i j v).disp = s.disp := (congrArg State.disp (setObj_eq s i j v)).trans rfl
@[simp] theorem setObj_sweeps : (s.setObj i j v).sweeps = s.sweeps := (congrArg State.sweeps (setObj_eq s i j v)).trans rfl
@[simp] theorem setObj_busSources : (s.setObj i j v).busSources = s.busSources := (congrArg State.busSources (setObj_eq s i j v)).trans rfl
@[simp] theorem setObj_cans : (s.setObj i j v).cans = s.cans := (congrArg State.cans (setObj_eq s i j v)).trans rfl
@[simp] theorem setObj_lins : (s.setObj i j v).lins = s.lins := (congrArg State.lins (setObj_eq s i j v)).trans rfl
@[simp] theorem setObj_sents : (s.setObj i j v).sents = s.sents := (congrArg State.sents (setObj_eq s i j v)).trans rfl
@[simp] theorem setObj_gov : (s.setObj i j v).gov = s.gov := (congrArg State.gov (setObj_eq s i j v)).trans rfl
@[simp] theorem setObj_cores : (s.setObj i j v).cores = s.cores := (congrArg State.cores (setObj_eq s i j v)).trans rfl
@[simp] theorem setObj_sources : (s.setObj i j v).sources = s.sources := (congrArg State.sources (setObj_eq s i j v)).trans rfl
@[simp] theorem setObj_timebase : (s.setObj i j v).timebase = s.timebase := (congrArg State.timebase (setObj_eq s i j v)).trans rfl
@[simp] theorem setObj_trigOuts : (s.setObj i j v).trigOuts = s.trigOuts := (congrArg State.trigOuts (setObj_eq s i j v)).trans rfl
@[simp] theorem setObj_queues : (s.setObj i j v).queues = s.queues := (congrArg State.queues (setObj_eq s i j v)).trans rfl
@[simp] theorem setObj_pantry : (s.setObj i j v).pantry = s.pantry := (congrArg State.pantry (setObj_eq s i j v)).trans rfl
@[simp] theorem setObj_streams : (s.setObj i j v).streams = s.streams := (congrArg State.streams (setObj_eq s i j v)).trans rfl
@[simp] theorem setObj_zones : (s.setObj i j v).zones = s.zones := (congrArg State.zones (setObj_eq s i j v)).trans rfl
@[simp] theorem setObj_loader : (s.setObj i j v).loader = s.loader := (congrArg State.loader (setObj_eq s i j v)).trans rfl
@[simp] theorem setObj_frames : (s.setObj i j v).frames = s.frames := (congrArg State.frames (setObj_eq s i j v)).trans rfl
@[simp] theorem setObj_loft : (s.setObj i j v).loft = s.loft := (congrArg State.loft (setObj_eq s i j v)).trans rfl
@[simp] theorem setObj_keys : (s.setObj i j v).keys = s.keys := (congrArg State.keys (setObj_eq s i j v)).trans rfl
@[simp] theorem setObj_scrub : (s.setObj i j v).scrub = s.scrub := (congrArg State.scrub (setObj_eq s i j v)).trans rfl
@[simp] theorem setObj_sessions : (s.setObj i j v).sessions = s.sessions := (congrArg State.sessions (setObj_eq s i j v)).trans rfl
@[simp] theorem setObj_links : (s.setObj i j v).links = s.links := (congrArg State.links (setObj_eq s i j v)).trans rfl
@[simp] theorem setObj_claims : (s.setObj i j v).claims = s.claims := (congrArg State.claims (setObj_eq s i j v)).trans rfl
@[simp] theorem setObj_cycle : (s.setObj i j v).cycle = s.cycle := (congrArg State.cycle (setObj_eq s i j v)).trans rfl
@[simp] theorem setObj_keyFailures : (s.setObj i j v).keyFailures = s.keyFailures := (congrArg State.keyFailures (setObj_eq s i j v)).trans rfl
@[simp] theorem setObj_keyLockouts : (s.setObj i j v).keyLockouts = s.keyLockouts := (congrArg State.keyLockouts (setObj_eq s i j v)).trans rfl
@[simp] theorem setObj_cellar : (s.setObj i j v).cellar = s.cellar := (congrArg State.cellar (setObj_eq s i j v)).trans rfl
@[simp] theorem setObj_cal : (s.setObj i j v).cal = s.cal := (congrArg State.cal (setObj_eq s i j v)).trans rfl
@[simp] theorem setObj_power : (s.setObj i j v).power = s.power := (congrArg State.power (setObj_eq s i j v)).trans rfl
@[simp] theorem setObj_log : (s.setObj i j v).log = s.log := (congrArg State.log (setObj_eq s i j v)).trans rfl
@[simp] theorem setObj_outbox : (s.setObj i j v).outbox = s.outbox := (congrArg State.outbox (setObj_eq s i j v)).trans rfl
@[simp] theorem setObj_fresh : (s.setObj i j v).fresh = s.fresh := (congrArg State.fresh (setObj_eq s i j v)).trans rfl
end
section
variable (s : State) (i j d : Nat)
theorem countUp_eq : (s.countUp i j d) = { s with objs := (s.countUp i j d).objs } := by unfold State.countUp State.setObj State.setObjAt; rfl
@[simp] theorem countUp_pending : (s.countUp i j d).pending = s.pending := (congrArg State.pending (countUp_eq s i j d)).trans rfl
@[simp] theorem countUp_now : (s.countUp i j d).now = s.now := (congrArg State.now (countUp_eq s i j d)).trans rfl
@[simp] theorem countUp_mode : (s.countUp i j d).mode = s.mode := (congrArg State.mode (countUp_eq s i j d)).trans rfl
@[simp] theorem countUp_blobs : (s.countUp i j d).blobs = s.blobs := (congrArg State.blobs (countUp_eq s i j d)).trans rfl
@[simp] theorem countUp_mem : (s.countUp i j d).mem = s.mem := (congrArg State.mem (countUp_eq s i j d)).trans rfl
@[simp] theorem countUp_flips : (s.countUp i j d).flips = s.flips := (congrArg State.flips (countUp_eq s i j d)).trans rfl
@[simp] theorem countUp_ports : (s.countUp i j d).ports = s.ports := (congrArg State.ports (countUp_eq s i j d)).trans rfl
@[simp] theorem countUp_pins : (s.countUp i j d).pins = s.pins := (congrArg State.pins (countUp_eq s i j d)).trans rfl
@[simp] theorem countUp_convs : (s.countUp i j d).convs = s.convs := (congrArg State.convs (countUp_eq s i j d)).trans rfl
@[simp] theorem countUp_chains : (s.countUp i j d).chains = s.chains := (congrArg State.chains (countUp_eq s i j d)).trans rfl
@[simp] theorem countUp_map : (s.countUp i j d).map = s.map := (congrArg State.map (countUp_eq s i j d)).trans rfl
@[simp] theorem countUp_disp : (s.countUp i j d).disp = s.disp := (congrArg State.disp (countUp_eq s i j d)).trans rfl
@[simp] theorem countUp_sweeps : (s.countUp i j d).sweeps = s.sweeps := (congrArg State.sweeps (countUp_eq s i j d)).trans rfl
@[simp] theorem countUp_busSources : (s.countUp i j d).busSources = s.busSources := (congrArg State.busSources (countUp_eq s i j d)).trans rfl
@[simp] theorem countUp_cans : (s.countUp i j d).cans = s.cans := (congrArg State.cans (countUp_eq s i j d)).trans rfl
@[simp] theorem countUp_lins : (s.countUp i j d).lins = s.lins := (congrArg State.lins (countUp_eq s i j d)).trans rfl
@[simp] theorem countUp_sents : (s.countUp i j d).sents = s.sents := (congrArg State.sents (countUp_eq s i j d)).trans rfl
@[simp] theorem countUp_gov : (s.countUp i j d).gov = s.gov := (congrArg State.gov (countUp_eq s i j d)).trans rfl
@[simp] theorem countUp_cores : (s.countUp i j d).cores = s.cores := (congrArg State.cores (countUp_eq s i j d)).trans rfl
@[simp] theorem countUp_sources : (s.countUp i j d).sources = s.sources := (congrArg State.sources (countUp_eq s i j d)).trans rfl
@[simp] theorem countUp_timebase : (s.countUp i j d).timebase = s.timebase := (congrArg State.timebase (countUp_eq s i j d)).trans rfl
@[simp] theorem countUp_trigOuts : (s.countUp i j d).trigOuts = s.trigOuts := (congrArg State.trigOuts (countUp_eq s i j d)).trans rfl
@[simp] theorem countUp_queues : (s.countUp i j d).queues = s.queues := (congrArg State.queues (countUp_eq s i j d)).trans rfl
@[simp] theorem countUp_pantry : (s.countUp i j d).pantry = s.pantry := (congrArg State.pantry (countUp_eq s i j d)).trans rfl
@[simp] theorem countUp_streams : (s.countUp i j d).streams = s.streams := (congrArg State.streams (countUp_eq s i j d)).trans rfl
@[simp] theorem countUp_zones : (s.countUp i j d).zones = s.zones := (congrArg State.zones (countUp_eq s i j d)).trans rfl
@[simp] theorem countUp_loader : (s.countUp i j d).loader = s.loader := (congrArg State.loader (countUp_eq s i j d)).trans rfl
@[simp] theorem countUp_frames : (s.countUp i j d).frames = s.frames := (congrArg State.frames (countUp_eq s i j d)).trans rfl
@[simp] theorem countUp_loft : (s.countUp i j d).loft = s.loft := (congrArg State.loft (countUp_eq s i j d)).trans rfl
@[simp] theorem countUp_keys : (s.countUp i j d).keys = s.keys := (congrArg State.keys (countUp_eq s i j d)).trans rfl
@[simp] theorem countUp_scrub : (s.countUp i j d).scrub = s.scrub := (congrArg State.scrub (countUp_eq s i j d)).trans rfl
@[simp] theorem countUp_sessions : (s.countUp i j d).sessions = s.sessions := (congrArg State.sessions (countUp_eq s i j d)).trans rfl
@[simp] theorem countUp_links : (s.countUp i j d).links = s.links := (congrArg State.links (countUp_eq s i j d)).trans rfl
@[simp] theorem countUp_claims : (s.countUp i j d).claims = s.claims := (congrArg State.claims (countUp_eq s i j d)).trans rfl
@[simp] theorem countUp_cycle : (s.countUp i j d).cycle = s.cycle := (congrArg State.cycle (countUp_eq s i j d)).trans rfl
@[simp] theorem countUp_keyFailures : (s.countUp i j d).keyFailures = s.keyFailures := (congrArg State.keyFailures (countUp_eq s i j d)).trans rfl
@[simp] theorem countUp_keyLockouts : (s.countUp i j d).keyLockouts = s.keyLockouts := (congrArg State.keyLockouts (countUp_eq s i j d)).trans rfl
@[simp] theorem countUp_cellar : (s.countUp i j d).cellar = s.cellar := (congrArg State.cellar (countUp_eq s i j d)).trans rfl
@[simp] theorem countUp_cal : (s.countUp i j d).cal = s.cal := (congrArg State.cal (countUp_eq s i j d)).trans rfl
@[simp] theorem countUp_power : (s.countUp i j d).power = s.power := (congrArg State.power (countUp_eq s i j d)).trans rfl
@[simp] theorem countUp_log : (s.countUp i j d).log = s.log := (congrArg State.log (countUp_eq s i j d)).trans rfl
@[simp] theorem countUp_outbox : (s.countUp i j d).outbox = s.outbox := (congrArg State.outbox (countUp_eq s i j d)).trans rfl
@[simp] theorem countUp_fresh : (s.countUp i j d).fresh = s.fresh := (congrArg State.fresh (countUp_eq s i j d)).trans rfl
end
section
variable (s : State) (a i j v : Nat)
theorem setOwn_eq : (s.setOwn a i j v) = { s with objs := (s.setOwn a i j v).objs } := by unfold State.setOwn State.setObjAt; rfl
@[simp] theorem setOwn_pending : (s.setOwn a i j v).pending = s.pending := (congrArg State.pending (setOwn_eq s a i j v)).trans rfl
@[simp] theorem setOwn_now : (s.setOwn a i j v).now = s.now := (congrArg State.now (setOwn_eq s a i j v)).trans rfl
@[simp] theorem setOwn_mode : (s.setOwn a i j v).mode = s.mode := (congrArg State.mode (setOwn_eq s a i j v)).trans rfl
@[simp] theorem setOwn_blobs : (s.setOwn a i j v).blobs = s.blobs := (congrArg State.blobs (setOwn_eq s a i j v)).trans rfl
@[simp] theorem setOwn_mem : (s.setOwn a i j v).mem = s.mem := (congrArg State.mem (setOwn_eq s a i j v)).trans rfl
@[simp] theorem setOwn_flips : (s.setOwn a i j v).flips = s.flips := (congrArg State.flips (setOwn_eq s a i j v)).trans rfl
@[simp] theorem setOwn_ports : (s.setOwn a i j v).ports = s.ports := (congrArg State.ports (setOwn_eq s a i j v)).trans rfl
@[simp] theorem setOwn_pins : (s.setOwn a i j v).pins = s.pins := (congrArg State.pins (setOwn_eq s a i j v)).trans rfl
@[simp] theorem setOwn_convs : (s.setOwn a i j v).convs = s.convs := (congrArg State.convs (setOwn_eq s a i j v)).trans rfl
@[simp] theorem setOwn_chains : (s.setOwn a i j v).chains = s.chains := (congrArg State.chains (setOwn_eq s a i j v)).trans rfl
@[simp] theorem setOwn_map : (s.setOwn a i j v).map = s.map := (congrArg State.map (setOwn_eq s a i j v)).trans rfl
@[simp] theorem setOwn_disp : (s.setOwn a i j v).disp = s.disp := (congrArg State.disp (setOwn_eq s a i j v)).trans rfl
@[simp] theorem setOwn_sweeps : (s.setOwn a i j v).sweeps = s.sweeps := (congrArg State.sweeps (setOwn_eq s a i j v)).trans rfl
@[simp] theorem setOwn_busSources : (s.setOwn a i j v).busSources = s.busSources := (congrArg State.busSources (setOwn_eq s a i j v)).trans rfl
@[simp] theorem setOwn_cans : (s.setOwn a i j v).cans = s.cans := (congrArg State.cans (setOwn_eq s a i j v)).trans rfl
@[simp] theorem setOwn_lins : (s.setOwn a i j v).lins = s.lins := (congrArg State.lins (setOwn_eq s a i j v)).trans rfl
@[simp] theorem setOwn_sents : (s.setOwn a i j v).sents = s.sents := (congrArg State.sents (setOwn_eq s a i j v)).trans rfl
@[simp] theorem setOwn_gov : (s.setOwn a i j v).gov = s.gov := (congrArg State.gov (setOwn_eq s a i j v)).trans rfl
@[simp] theorem setOwn_cores : (s.setOwn a i j v).cores = s.cores := (congrArg State.cores (setOwn_eq s a i j v)).trans rfl
@[simp] theorem setOwn_sources : (s.setOwn a i j v).sources = s.sources := (congrArg State.sources (setOwn_eq s a i j v)).trans rfl
@[simp] theorem setOwn_timebase : (s.setOwn a i j v).timebase = s.timebase := (congrArg State.timebase (setOwn_eq s a i j v)).trans rfl
@[simp] theorem setOwn_trigOuts : (s.setOwn a i j v).trigOuts = s.trigOuts := (congrArg State.trigOuts (setOwn_eq s a i j v)).trans rfl
@[simp] theorem setOwn_queues : (s.setOwn a i j v).queues = s.queues := (congrArg State.queues (setOwn_eq s a i j v)).trans rfl
@[simp] theorem setOwn_pantry : (s.setOwn a i j v).pantry = s.pantry := (congrArg State.pantry (setOwn_eq s a i j v)).trans rfl
@[simp] theorem setOwn_streams : (s.setOwn a i j v).streams = s.streams := (congrArg State.streams (setOwn_eq s a i j v)).trans rfl
@[simp] theorem setOwn_zones : (s.setOwn a i j v).zones = s.zones := (congrArg State.zones (setOwn_eq s a i j v)).trans rfl
@[simp] theorem setOwn_loader : (s.setOwn a i j v).loader = s.loader := (congrArg State.loader (setOwn_eq s a i j v)).trans rfl
@[simp] theorem setOwn_frames : (s.setOwn a i j v).frames = s.frames := (congrArg State.frames (setOwn_eq s a i j v)).trans rfl
@[simp] theorem setOwn_loft : (s.setOwn a i j v).loft = s.loft := (congrArg State.loft (setOwn_eq s a i j v)).trans rfl
@[simp] theorem setOwn_keys : (s.setOwn a i j v).keys = s.keys := (congrArg State.keys (setOwn_eq s a i j v)).trans rfl
@[simp] theorem setOwn_scrub : (s.setOwn a i j v).scrub = s.scrub := (congrArg State.scrub (setOwn_eq s a i j v)).trans rfl
@[simp] theorem setOwn_sessions : (s.setOwn a i j v).sessions = s.sessions := (congrArg State.sessions (setOwn_eq s a i j v)).trans rfl
@[simp] theorem setOwn_links : (s.setOwn a i j v).links = s.links := (congrArg State.links (setOwn_eq s a i j v)).trans rfl
@[simp] theorem setOwn_claims : (s.setOwn a i j v).claims = s.claims := (congrArg State.claims (setOwn_eq s a i j v)).trans rfl
@[simp] theorem setOwn_cycle : (s.setOwn a i j v).cycle = s.cycle := (congrArg State.cycle (setOwn_eq s a i j v)).trans rfl
@[simp] theorem setOwn_keyFailures : (s.setOwn a i j v).keyFailures = s.keyFailures := (congrArg State.keyFailures (setOwn_eq s a i j v)).trans rfl
@[simp] theorem setOwn_keyLockouts : (s.setOwn a i j v).keyLockouts = s.keyLockouts := (congrArg State.keyLockouts (setOwn_eq s a i j v)).trans rfl
@[simp] theorem setOwn_cellar : (s.setOwn a i j v).cellar = s.cellar := (congrArg State.cellar (setOwn_eq s a i j v)).trans rfl
@[simp] theorem setOwn_cal : (s.setOwn a i j v).cal = s.cal := (congrArg State.cal (setOwn_eq s a i j v)).trans rfl
@[simp] theorem setOwn_power : (s.setOwn a i j v).power = s.power := (congrArg State.power (setOwn_eq s a i j v)).trans rfl
@[simp] theorem setOwn_log : (s.setOwn a i j v).log = s.log := (congrArg State.log (setOwn_eq s a i j v)).trans rfl
@[simp] theorem setOwn_outbox : (s.setOwn a i j v).outbox = s.outbox := (congrArg State.outbox (setOwn_eq s a i j v)).trans rfl
@[simp] theorem setOwn_fresh : (s.setOwn a i j v).fresh = s.fresh := (congrArg State.fresh (setOwn_eq s a i j v)).trans rfl
end
section
variable (s : State) (i : Nat) (p : Nat → Bool)
theorem resetObjs_eq : (s.resetObjs i p) = { s with objs := (s.resetObjs i p).objs } := by unfold State.resetObjs; rfl
@[simp] theorem resetObjs_pending : (s.resetObjs i p).pending = s.pending := (congrArg State.pending (resetObjs_eq s i p)).trans rfl
@[simp] theorem resetObjs_now : (s.resetObjs i p).now = s.now := (congrArg State.now (resetObjs_eq s i p)).trans rfl
@[simp] theorem resetObjs_mode : (s.resetObjs i p).mode = s.mode := (congrArg State.mode (resetObjs_eq s i p)).trans rfl
@[simp] theorem resetObjs_blobs : (s.resetObjs i p).blobs = s.blobs := (congrArg State.blobs (resetObjs_eq s i p)).trans rfl
@[simp] theorem resetObjs_mem : (s.resetObjs i p).mem = s.mem := (congrArg State.mem (resetObjs_eq s i p)).trans rfl
@[simp] theorem resetObjs_flips : (s.resetObjs i p).flips = s.flips := (congrArg State.flips (resetObjs_eq s i p)).trans rfl
@[simp] theorem resetObjs_ports : (s.resetObjs i p).ports = s.ports := (congrArg State.ports (resetObjs_eq s i p)).trans rfl
@[simp] theorem resetObjs_pins : (s.resetObjs i p).pins = s.pins := (congrArg State.pins (resetObjs_eq s i p)).trans rfl
@[simp] theorem resetObjs_convs : (s.resetObjs i p).convs = s.convs := (congrArg State.convs (resetObjs_eq s i p)).trans rfl
@[simp] theorem resetObjs_chains : (s.resetObjs i p).chains = s.chains := (congrArg State.chains (resetObjs_eq s i p)).trans rfl
@[simp] theorem resetObjs_map : (s.resetObjs i p).map = s.map := (congrArg State.map (resetObjs_eq s i p)).trans rfl
@[simp] theorem resetObjs_disp : (s.resetObjs i p).disp = s.disp := (congrArg State.disp (resetObjs_eq s i p)).trans rfl
@[simp] theorem resetObjs_sweeps : (s.resetObjs i p).sweeps = s.sweeps := (congrArg State.sweeps (resetObjs_eq s i p)).trans rfl
@[simp] theorem resetObjs_busSources : (s.resetObjs i p).busSources = s.busSources := (congrArg State.busSources (resetObjs_eq s i p)).trans rfl
@[simp] theorem resetObjs_cans : (s.resetObjs i p).cans = s.cans := (congrArg State.cans (resetObjs_eq s i p)).trans rfl
@[simp] theorem resetObjs_lins : (s.resetObjs i p).lins = s.lins := (congrArg State.lins (resetObjs_eq s i p)).trans rfl
@[simp] theorem resetObjs_sents : (s.resetObjs i p).sents = s.sents := (congrArg State.sents (resetObjs_eq s i p)).trans rfl
@[simp] theorem resetObjs_gov : (s.resetObjs i p).gov = s.gov := (congrArg State.gov (resetObjs_eq s i p)).trans rfl
@[simp] theorem resetObjs_cores : (s.resetObjs i p).cores = s.cores := (congrArg State.cores (resetObjs_eq s i p)).trans rfl
@[simp] theorem resetObjs_sources : (s.resetObjs i p).sources = s.sources := (congrArg State.sources (resetObjs_eq s i p)).trans rfl
@[simp] theorem resetObjs_timebase : (s.resetObjs i p).timebase = s.timebase := (congrArg State.timebase (resetObjs_eq s i p)).trans rfl
@[simp] theorem resetObjs_trigOuts : (s.resetObjs i p).trigOuts = s.trigOuts := (congrArg State.trigOuts (resetObjs_eq s i p)).trans rfl
@[simp] theorem resetObjs_queues : (s.resetObjs i p).queues = s.queues := (congrArg State.queues (resetObjs_eq s i p)).trans rfl
@[simp] theorem resetObjs_pantry : (s.resetObjs i p).pantry = s.pantry := (congrArg State.pantry (resetObjs_eq s i p)).trans rfl
@[simp] theorem resetObjs_streams : (s.resetObjs i p).streams = s.streams := (congrArg State.streams (resetObjs_eq s i p)).trans rfl
@[simp] theorem resetObjs_zones : (s.resetObjs i p).zones = s.zones := (congrArg State.zones (resetObjs_eq s i p)).trans rfl
@[simp] theorem resetObjs_loader : (s.resetObjs i p).loader = s.loader := (congrArg State.loader (resetObjs_eq s i p)).trans rfl
@[simp] theorem resetObjs_frames : (s.resetObjs i p).frames = s.frames := (congrArg State.frames (resetObjs_eq s i p)).trans rfl
@[simp] theorem resetObjs_loft : (s.resetObjs i p).loft = s.loft := (congrArg State.loft (resetObjs_eq s i p)).trans rfl
@[simp] theorem resetObjs_keys : (s.resetObjs i p).keys = s.keys := (congrArg State.keys (resetObjs_eq s i p)).trans rfl
@[simp] theorem resetObjs_scrub : (s.resetObjs i p).scrub = s.scrub := (congrArg State.scrub (resetObjs_eq s i p)).trans rfl
@[simp] theorem resetObjs_sessions : (s.resetObjs i p).sessions = s.sessions := (congrArg State.sessions (resetObjs_eq s i p)).trans rfl
@[simp] theorem resetObjs_links : (s.resetObjs i p).links = s.links := (congrArg State.links (resetObjs_eq s i p)).trans rfl
@[simp] theorem resetObjs_claims : (s.resetObjs i p).claims = s.claims := (congrArg State.claims (resetObjs_eq s i p)).trans rfl
@[simp] theorem resetObjs_cycle : (s.resetObjs i p).cycle = s.cycle := (congrArg State.cycle (resetObjs_eq s i p)).trans rfl
@[simp] theorem resetObjs_keyFailures : (s.resetObjs i p).keyFailures = s.keyFailures := (congrArg State.keyFailures (resetObjs_eq s i p)).trans rfl
@[simp] theorem resetObjs_keyLockouts : (s.resetObjs i p).keyLockouts = s.keyLockouts := (congrArg State.keyLockouts (resetObjs_eq s i p)).trans rfl
@[simp] theorem resetObjs_cellar : (s.resetObjs i p).cellar = s.cellar := (congrArg State.cellar (resetObjs_eq s i p)).trans rfl
@[simp] theorem resetObjs_cal : (s.resetObjs i p).cal = s.cal := (congrArg State.cal (resetObjs_eq s i p)).trans rfl
@[simp] theorem resetObjs_power : (s.resetObjs i p).power = s.power := (congrArg State.power (resetObjs_eq s i p)).trans rfl
@[simp] theorem resetObjs_log : (s.resetObjs i p).log = s.log := (congrArg State.log (resetObjs_eq s i p)).trans rfl
@[simp] theorem resetObjs_outbox : (s.resetObjs i p).outbox = s.outbox := (congrArg State.outbox (resetObjs_eq s i p)).trans rfl
@[simp] theorem resetObjs_fresh : (s.resetObjs i p).fresh = s.fresh := (congrArg State.fresh (resetObjs_eq s i p)).trans rfl
end
section
variable (s : State) (i : Nat)
theorem resetClaimObjs_eq : (s.resetClaimObjs i) = { s with objs := (s.resetClaimObjs i).objs } := by unfold State.resetClaimObjs State.resetObjs; rfl
@[simp] theorem resetClaimObjs_pending : (s.resetClaimObjs i).pending = s.pending := (congrArg State.pending (resetClaimObjs_eq s i)).trans rfl
@[simp] theorem resetClaimObjs_now : (s.resetClaimObjs i).now = s.now := (congrArg State.now (resetClaimObjs_eq s i)).trans rfl
@[simp] theorem resetClaimObjs_mode : (s.resetClaimObjs i).mode = s.mode := (congrArg State.mode (resetClaimObjs_eq s i)).trans rfl
@[simp] theorem resetClaimObjs_blobs : (s.resetClaimObjs i).blobs = s.blobs := (congrArg State.blobs (resetClaimObjs_eq s i)).trans rfl
@[simp] theorem resetClaimObjs_mem : (s.resetClaimObjs i).mem = s.mem := (congrArg State.mem (resetClaimObjs_eq s i)).trans rfl
@[simp] theorem resetClaimObjs_flips : (s.resetClaimObjs i).flips = s.flips := (congrArg State.flips (resetClaimObjs_eq s i)).trans rfl
@[simp] theorem resetClaimObjs_ports : (s.resetClaimObjs i).ports = s.ports := (congrArg State.ports (resetClaimObjs_eq s i)).trans rfl
@[simp] theorem resetClaimObjs_pins : (s.resetClaimObjs i).pins = s.pins := (congrArg State.pins (resetClaimObjs_eq s i)).trans rfl
@[simp] theorem resetClaimObjs_convs : (s.resetClaimObjs i).convs = s.convs := (congrArg State.convs (resetClaimObjs_eq s i)).trans rfl
@[simp] theorem resetClaimObjs_chains : (s.resetClaimObjs i).chains = s.chains := (congrArg State.chains (resetClaimObjs_eq s i)).trans rfl
@[simp] theorem resetClaimObjs_map : (s.resetClaimObjs i).map = s.map := (congrArg State.map (resetClaimObjs_eq s i)).trans rfl
@[simp] theorem resetClaimObjs_disp : (s.resetClaimObjs i).disp = s.disp := (congrArg State.disp (resetClaimObjs_eq s i)).trans rfl
@[simp] theorem resetClaimObjs_sweeps : (s.resetClaimObjs i).sweeps = s.sweeps := (congrArg State.sweeps (resetClaimObjs_eq s i)).trans rfl
@[simp] theorem resetClaimObjs_busSources : (s.resetClaimObjs i).busSources = s.busSources := (congrArg State.busSources (resetClaimObjs_eq s i)).trans rfl
@[simp] theorem resetClaimObjs_cans : (s.resetClaimObjs i).cans = s.cans := (congrArg State.cans (resetClaimObjs_eq s i)).trans rfl
@[simp] theorem resetClaimObjs_lins : (s.resetClaimObjs i).lins = s.lins := (congrArg State.lins (resetClaimObjs_eq s i)).trans rfl
@[simp] theorem resetClaimObjs_sents : (s.resetClaimObjs i).sents = s.sents := (congrArg State.sents (resetClaimObjs_eq s i)).trans rfl
@[simp] theorem resetClaimObjs_gov : (s.resetClaimObjs i).gov = s.gov := (congrArg State.gov (resetClaimObjs_eq s i)).trans rfl
@[simp] theorem resetClaimObjs_cores : (s.resetClaimObjs i).cores = s.cores := (congrArg State.cores (resetClaimObjs_eq s i)).trans rfl
@[simp] theorem resetClaimObjs_sources : (s.resetClaimObjs i).sources = s.sources := (congrArg State.sources (resetClaimObjs_eq s i)).trans rfl
@[simp] theorem resetClaimObjs_timebase : (s.resetClaimObjs i).timebase = s.timebase := (congrArg State.timebase (resetClaimObjs_eq s i)).trans rfl
@[simp] theorem resetClaimObjs_trigOuts : (s.resetClaimObjs i).trigOuts = s.trigOuts := (congrArg State.trigOuts (resetClaimObjs_eq s i)).trans rfl
@[simp] theorem resetClaimObjs_queues : (s.resetClaimObjs i).queues = s.queues := (congrArg State.queues (resetClaimObjs_eq s i)).trans rfl
@[simp] theorem resetClaimObjs_pantry : (s.resetClaimObjs i).pantry = s.pantry := (congrArg State.pantry (resetClaimObjs_eq s i)).trans rfl
@[simp] theorem resetClaimObjs_streams : (s.resetClaimObjs i).streams = s.streams := (congrArg State.streams (resetClaimObjs_eq s i)).trans rfl
@[simp] theorem resetClaimObjs_zones : (s.resetClaimObjs i).zones = s.zones := (congrArg State.zones (resetClaimObjs_eq s i)).trans rfl
@[simp] theorem resetClaimObjs_loader : (s.resetClaimObjs i).loader = s.loader := (congrArg State.loader (resetClaimObjs_eq s i)).trans rfl
@[simp] theorem resetClaimObjs_frames : (s.resetClaimObjs i).frames = s.frames := (congrArg State.frames (resetClaimObjs_eq s i)).trans rfl
@[simp] theorem resetClaimObjs_loft : (s.resetClaimObjs i).loft = s.loft := (congrArg State.loft (resetClaimObjs_eq s i)).trans rfl
@[simp] theorem resetClaimObjs_keys : (s.resetClaimObjs i).keys = s.keys := (congrArg State.keys (resetClaimObjs_eq s i)).trans rfl
@[simp] theorem resetClaimObjs_scrub : (s.resetClaimObjs i).scrub = s.scrub := (congrArg State.scrub (resetClaimObjs_eq s i)).trans rfl
@[simp] theorem resetClaimObjs_sessions : (s.resetClaimObjs i).sessions = s.sessions := (congrArg State.sessions (resetClaimObjs_eq s i)).trans rfl
@[simp] theorem resetClaimObjs_links : (s.resetClaimObjs i).links = s.links := (congrArg State.links (resetClaimObjs_eq s i)).trans rfl
@[simp] theorem resetClaimObjs_claims : (s.resetClaimObjs i).claims = s.claims := (congrArg State.claims (resetClaimObjs_eq s i)).trans rfl
@[simp] theorem resetClaimObjs_cycle : (s.resetClaimObjs i).cycle = s.cycle := (congrArg State.cycle (resetClaimObjs_eq s i)).trans rfl
@[simp] theorem resetClaimObjs_keyFailures : (s.resetClaimObjs i).keyFailures = s.keyFailures := (congrArg State.keyFailures (resetClaimObjs_eq s i)).trans rfl
@[simp] theorem resetClaimObjs_keyLockouts : (s.resetClaimObjs i).keyLockouts = s.keyLockouts := (congrArg State.keyLockouts (resetClaimObjs_eq s i)).trans rfl
@[simp] theorem resetClaimObjs_cellar : (s.resetClaimObjs i).cellar = s.cellar := (congrArg State.cellar (resetClaimObjs_eq s i)).trans rfl
@[simp] theorem resetClaimObjs_cal : (s.resetClaimObjs i).cal = s.cal := (congrArg State.cal (resetClaimObjs_eq s i)).trans rfl
@[simp] theorem resetClaimObjs_power : (s.resetClaimObjs i).power = s.power := (congrArg State.power (resetClaimObjs_eq s i)).trans rfl
@[simp] theorem resetClaimObjs_log : (s.resetClaimObjs i).log = s.log := (congrArg State.log (resetClaimObjs_eq s i)).trans rfl
@[simp] theorem resetClaimObjs_outbox : (s.resetClaimObjs i).outbox = s.outbox := (congrArg State.outbox (resetClaimObjs_eq s i)).trans rfl
@[simp] theorem resetClaimObjs_fresh : (s.resetClaimObjs i).fresh = s.fresh := (congrArg State.fresh (resetClaimObjs_eq s i)).trans rfl
end
section
variable (s : State) (i j : Nat) (bs : Bytes)
theorem setBlob_eq : (s.setBlob i j bs) = { s with blobs := (s.setBlob i j bs).blobs } := by unfold State.setBlob; rfl
@[simp] theorem setBlob_pending : (s.setBlob i j bs).pending = s.pending := (congrArg State.pending (setBlob_eq s i j bs)).trans rfl
@[simp] theorem setBlob_now : (s.setBlob i j bs).now = s.now := (congrArg State.now (setBlob_eq s i j bs)).trans rfl
@[simp] theorem setBlob_mode : (s.setBlob i j bs).mode = s.mode := (congrArg State.mode (setBlob_eq s i j bs)).trans rfl
@[simp] theorem setBlob_objs : (s.setBlob i j bs).objs = s.objs := (congrArg State.objs (setBlob_eq s i j bs)).trans rfl
@[simp] theorem setBlob_mem : (s.setBlob i j bs).mem = s.mem := (congrArg State.mem (setBlob_eq s i j bs)).trans rfl
@[simp] theorem setBlob_flips : (s.setBlob i j bs).flips = s.flips := (congrArg State.flips (setBlob_eq s i j bs)).trans rfl
@[simp] theorem setBlob_ports : (s.setBlob i j bs).ports = s.ports := (congrArg State.ports (setBlob_eq s i j bs)).trans rfl
@[simp] theorem setBlob_pins : (s.setBlob i j bs).pins = s.pins := (congrArg State.pins (setBlob_eq s i j bs)).trans rfl
@[simp] theorem setBlob_convs : (s.setBlob i j bs).convs = s.convs := (congrArg State.convs (setBlob_eq s i j bs)).trans rfl
@[simp] theorem setBlob_chains : (s.setBlob i j bs).chains = s.chains := (congrArg State.chains (setBlob_eq s i j bs)).trans rfl
@[simp] theorem setBlob_map : (s.setBlob i j bs).map = s.map := (congrArg State.map (setBlob_eq s i j bs)).trans rfl
@[simp] theorem setBlob_disp : (s.setBlob i j bs).disp = s.disp := (congrArg State.disp (setBlob_eq s i j bs)).trans rfl
@[simp] theorem setBlob_sweeps : (s.setBlob i j bs).sweeps = s.sweeps := (congrArg State.sweeps (setBlob_eq s i j bs)).trans rfl
@[simp] theorem setBlob_busSources : (s.setBlob i j bs).busSources = s.busSources := (congrArg State.busSources (setBlob_eq s i j bs)).trans rfl
@[simp] theorem setBlob_cans : (s.setBlob i j bs).cans = s.cans := (congrArg State.cans (setBlob_eq s i j bs)).trans rfl
@[simp] theorem setBlob_lins : (s.setBlob i j bs).lins = s.lins := (congrArg State.lins (setBlob_eq s i j bs)).trans rfl
@[simp] theorem setBlob_sents : (s.setBlob i j bs).sents = s.sents := (congrArg State.sents (setBlob_eq s i j bs)).trans rfl
@[simp] theorem setBlob_gov : (s.setBlob i j bs).gov = s.gov := (congrArg State.gov (setBlob_eq s i j bs)).trans rfl
@[simp] theorem setBlob_cores : (s.setBlob i j bs).cores = s.cores := (congrArg State.cores (setBlob_eq s i j bs)).trans rfl
@[simp] theorem setBlob_sources : (s.setBlob i j bs).sources = s.sources := (congrArg State.sources (setBlob_eq s i j bs)).trans rfl
@[simp] theorem setBlob_timebase : (s.setBlob i j bs).timebase = s.timebase := (congrArg State.timebase (setBlob_eq s i j bs)).trans rfl
@[simp] theorem setBlob_trigOuts : (s.setBlob i j bs).trigOuts = s.trigOuts := (congrArg State.trigOuts (setBlob_eq s i j bs)).trans rfl
@[simp] theorem setBlob_queues : (s.setBlob i j bs).queues = s.queues := (congrArg State.queues (setBlob_eq s i j bs)).trans rfl
@[simp] theorem setBlob_pantry : (s.setBlob i j bs).pantry = s.pantry := (congrArg State.pantry (setBlob_eq s i j bs)).trans rfl
@[simp] theorem setBlob_streams : (s.setBlob i j bs).streams = s.streams := (congrArg State.streams (setBlob_eq s i j bs)).trans rfl
@[simp] theorem setBlob_zones : (s.setBlob i j bs).zones = s.zones := (congrArg State.zones (setBlob_eq s i j bs)).trans rfl
@[simp] theorem setBlob_loader : (s.setBlob i j bs).loader = s.loader := (congrArg State.loader (setBlob_eq s i j bs)).trans rfl
@[simp] theorem setBlob_frames : (s.setBlob i j bs).frames = s.frames := (congrArg State.frames (setBlob_eq s i j bs)).trans rfl
@[simp] theorem setBlob_loft : (s.setBlob i j bs).loft = s.loft := (congrArg State.loft (setBlob_eq s i j bs)).trans rfl
@[simp] theorem setBlob_keys : (s.setBlob i j bs).keys = s.keys := (congrArg State.keys (setBlob_eq s i j bs)).trans rfl
@[simp] theorem setBlob_scrub : (s.setBlob i j bs).scrub = s.scrub := (congrArg State.scrub (setBlob_eq s i j bs)).trans rfl
@[simp] theorem setBlob_sessions : (s.setBlob i j bs).sessions = s.sessions := (congrArg State.sessions (setBlob_eq s i j bs)).trans rfl
@[simp] theorem setBlob_links : (s.setBlob i j bs).links = s.links := (congrArg State.links (setBlob_eq s i j bs)).trans rfl
@[simp] theorem setBlob_claims : (s.setBlob i j bs).claims = s.claims := (congrArg State.claims (setBlob_eq s i j bs)).trans rfl
@[simp] theorem setBlob_cycle : (s.setBlob i j bs).cycle = s.cycle := (congrArg State.cycle (setBlob_eq s i j bs)).trans rfl
@[simp] theorem setBlob_keyFailures : (s.setBlob i j bs).keyFailures = s.keyFailures := (congrArg State.keyFailures (setBlob_eq s i j bs)).trans rfl
@[simp] theorem setBlob_keyLockouts : (s.setBlob i j bs).keyLockouts = s.keyLockouts := (congrArg State.keyLockouts (setBlob_eq s i j bs)).trans rfl
@[simp] theorem setBlob_cellar : (s.setBlob i j bs).cellar = s.cellar := (congrArg State.cellar (setBlob_eq s i j bs)).trans rfl
@[simp] theorem setBlob_cal : (s.setBlob i j bs).cal = s.cal := (congrArg State.cal (setBlob_eq s i j bs)).trans rfl
@[simp] theorem setBlob_power : (s.setBlob i j bs).power = s.power := (congrArg State.power (setBlob_eq s i j bs)).trans rfl
@[simp] theorem setBlob_log : (s.setBlob i j bs).log = s.log := (congrArg State.log (setBlob_eq s i j bs)).trans rfl
@[simp] theorem setBlob_outbox : (s.setBlob i j bs).outbox = s.outbox := (congrArg State.outbox (setBlob_eq s i j bs)).trans rfl
@[simp] theorem setBlob_fresh : (s.setBlob i j bs).fresh = s.fresh := (congrArg State.fresh (setBlob_eq s i j bs)).trans rfl
end
section
variable (s : State) (p : Nat) (c : PortCell)
theorem setPort_eq : (s.setPort p c) = { s with ports := (s.setPort p c).ports } := by unfold State.setPort; rfl
@[simp] theorem setPort_pending : (s.setPort p c).pending = s.pending := (congrArg State.pending (setPort_eq s p c)).trans rfl
@[simp] theorem setPort_now : (s.setPort p c).now = s.now := (congrArg State.now (setPort_eq s p c)).trans rfl
@[simp] theorem setPort_mode : (s.setPort p c).mode = s.mode := (congrArg State.mode (setPort_eq s p c)).trans rfl
@[simp] theorem setPort_objs : (s.setPort p c).objs = s.objs := (congrArg State.objs (setPort_eq s p c)).trans rfl
@[simp] theorem setPort_blobs : (s.setPort p c).blobs = s.blobs := (congrArg State.blobs (setPort_eq s p c)).trans rfl
@[simp] theorem setPort_mem : (s.setPort p c).mem = s.mem := (congrArg State.mem (setPort_eq s p c)).trans rfl
@[simp] theorem setPort_flips : (s.setPort p c).flips = s.flips := (congrArg State.flips (setPort_eq s p c)).trans rfl
@[simp] theorem setPort_pins : (s.setPort p c).pins = s.pins := (congrArg State.pins (setPort_eq s p c)).trans rfl
@[simp] theorem setPort_convs : (s.setPort p c).convs = s.convs := (congrArg State.convs (setPort_eq s p c)).trans rfl
@[simp] theorem setPort_chains : (s.setPort p c).chains = s.chains := (congrArg State.chains (setPort_eq s p c)).trans rfl
@[simp] theorem setPort_map : (s.setPort p c).map = s.map := (congrArg State.map (setPort_eq s p c)).trans rfl
@[simp] theorem setPort_disp : (s.setPort p c).disp = s.disp := (congrArg State.disp (setPort_eq s p c)).trans rfl
@[simp] theorem setPort_sweeps : (s.setPort p c).sweeps = s.sweeps := (congrArg State.sweeps (setPort_eq s p c)).trans rfl
@[simp] theorem setPort_busSources : (s.setPort p c).busSources = s.busSources := (congrArg State.busSources (setPort_eq s p c)).trans rfl
@[simp] theorem setPort_cans : (s.setPort p c).cans = s.cans := (congrArg State.cans (setPort_eq s p c)).trans rfl
@[simp] theorem setPort_lins : (s.setPort p c).lins = s.lins := (congrArg State.lins (setPort_eq s p c)).trans rfl
@[simp] theorem setPort_sents : (s.setPort p c).sents = s.sents := (congrArg State.sents (setPort_eq s p c)).trans rfl
@[simp] theorem setPort_gov : (s.setPort p c).gov = s.gov := (congrArg State.gov (setPort_eq s p c)).trans rfl
@[simp] theorem setPort_cores : (s.setPort p c).cores = s.cores := (congrArg State.cores (setPort_eq s p c)).trans rfl
@[simp] theorem setPort_sources : (s.setPort p c).sources = s.sources := (congrArg State.sources (setPort_eq s p c)).trans rfl
@[simp] theorem setPort_timebase : (s.setPort p c).timebase = s.timebase := (congrArg State.timebase (setPort_eq s p c)).trans rfl
@[simp] theorem setPort_trigOuts : (s.setPort p c).trigOuts = s.trigOuts := (congrArg State.trigOuts (setPort_eq s p c)).trans rfl
@[simp] theorem setPort_queues : (s.setPort p c).queues = s.queues := (congrArg State.queues (setPort_eq s p c)).trans rfl
@[simp] theorem setPort_pantry : (s.setPort p c).pantry = s.pantry := (congrArg State.pantry (setPort_eq s p c)).trans rfl
@[simp] theorem setPort_streams : (s.setPort p c).streams = s.streams := (congrArg State.streams (setPort_eq s p c)).trans rfl
@[simp] theorem setPort_zones : (s.setPort p c).zones = s.zones := (congrArg State.zones (setPort_eq s p c)).trans rfl
@[simp] theorem setPort_loader : (s.setPort p c).loader = s.loader := (congrArg State.loader (setPort_eq s p c)).trans rfl
@[simp] theorem setPort_frames : (s.setPort p c).frames = s.frames := (congrArg State.frames (setPort_eq s p c)).trans rfl
@[simp] theorem setPort_loft : (s.setPort p c).loft = s.loft := (congrArg State.loft (setPort_eq s p c)).trans rfl
@[simp] theorem setPort_keys : (s.setPort p c).keys = s.keys := (congrArg State.keys (setPort_eq s p c)).trans rfl
@[simp] theorem setPort_scrub : (s.setPort p c).scrub = s.scrub := (congrArg State.scrub (setPort_eq s p c)).trans rfl
@[simp] theorem setPort_sessions : (s.setPort p c).sessions = s.sessions := (congrArg State.sessions (setPort_eq s p c)).trans rfl
@[simp] theorem setPort_links : (s.setPort p c).links = s.links := (congrArg State.links (setPort_eq s p c)).trans rfl
@[simp] theorem setPort_claims : (s.setPort p c).claims = s.claims := (congrArg State.claims (setPort_eq s p c)).trans rfl
@[simp] theorem setPort_cycle : (s.setPort p c).cycle = s.cycle := (congrArg State.cycle (setPort_eq s p c)).trans rfl
@[simp] theorem setPort_keyFailures : (s.setPort p c).keyFailures = s.keyFailures := (congrArg State.keyFailures (setPort_eq s p c)).trans rfl
@[simp] theorem setPort_keyLockouts : (s.setPort p c).keyLockouts = s.keyLockouts := (congrArg State.keyLockouts (setPort_eq s p c)).trans rfl
@[simp] theorem setPort_cellar : (s.setPort p c).cellar = s.cellar := (congrArg State.cellar (setPort_eq s p c)).trans rfl
@[simp] theorem setPort_cal : (s.setPort p c).cal = s.cal := (congrArg State.cal (setPort_eq s p c)).trans rfl
@[simp] theorem setPort_power : (s.setPort p c).power = s.power := (congrArg State.power (setPort_eq s p c)).trans rfl
@[simp] theorem setPort_log : (s.setPort p c).log = s.log := (congrArg State.log (setPort_eq s p c)).trans rfl
@[simp] theorem setPort_outbox : (s.setPort p c).outbox = s.outbox := (congrArg State.outbox (setPort_eq s p c)).trans rfl
@[simp] theorem setPort_fresh : (s.setPort p c).fresh = s.fresh := (congrArg State.fresh (setPort_eq s p c)).trans rfl
end
section
variable (s : State) (n : Nat) (c : PinCell)
theorem setPin_eq : (s.setPin n c) = { s with pins := (s.setPin n c).pins } := by unfold State.setPin; rfl
@[simp] theorem setPin_pending : (s.setPin n c).pending = s.pending := (congrArg State.pending (setPin_eq s n c)).trans rfl
@[simp] theorem setPin_now : (s.setPin n c).now = s.now := (congrArg State.now (setPin_eq s n c)).trans rfl
@[simp] theorem setPin_mode : (s.setPin n c).mode = s.mode := (congrArg State.mode (setPin_eq s n c)).trans rfl
@[simp] theorem setPin_objs : (s.setPin n c).objs = s.objs := (congrArg State.objs (setPin_eq s n c)).trans rfl
@[simp] theorem setPin_blobs : (s.setPin n c).blobs = s.blobs := (congrArg State.blobs (setPin_eq s n c)).trans rfl
@[simp] theorem setPin_mem : (s.setPin n c).mem = s.mem := (congrArg State.mem (setPin_eq s n c)).trans rfl
@[simp] theorem setPin_flips : (s.setPin n c).flips = s.flips := (congrArg State.flips (setPin_eq s n c)).trans rfl
@[simp] theorem setPin_ports : (s.setPin n c).ports = s.ports := (congrArg State.ports (setPin_eq s n c)).trans rfl
@[simp] theorem setPin_convs : (s.setPin n c).convs = s.convs := (congrArg State.convs (setPin_eq s n c)).trans rfl
@[simp] theorem setPin_chains : (s.setPin n c).chains = s.chains := (congrArg State.chains (setPin_eq s n c)).trans rfl
@[simp] theorem setPin_map : (s.setPin n c).map = s.map := (congrArg State.map (setPin_eq s n c)).trans rfl
@[simp] theorem setPin_disp : (s.setPin n c).disp = s.disp := (congrArg State.disp (setPin_eq s n c)).trans rfl
@[simp] theorem setPin_sweeps : (s.setPin n c).sweeps = s.sweeps := (congrArg State.sweeps (setPin_eq s n c)).trans rfl
@[simp] theorem setPin_busSources : (s.setPin n c).busSources = s.busSources := (congrArg State.busSources (setPin_eq s n c)).trans rfl
@[simp] theorem setPin_cans : (s.setPin n c).cans = s.cans := (congrArg State.cans (setPin_eq s n c)).trans rfl
@[simp] theorem setPin_lins : (s.setPin n c).lins = s.lins := (congrArg State.lins (setPin_eq s n c)).trans rfl
@[simp] theorem setPin_sents : (s.setPin n c).sents = s.sents := (congrArg State.sents (setPin_eq s n c)).trans rfl
@[simp] theorem setPin_gov : (s.setPin n c).gov = s.gov := (congrArg State.gov (setPin_eq s n c)).trans rfl
@[simp] theorem setPin_cores : (s.setPin n c).cores = s.cores := (congrArg State.cores (setPin_eq s n c)).trans rfl
@[simp] theorem setPin_sources : (s.setPin n c).sources = s.sources := (congrArg State.sources (setPin_eq s n c)).trans rfl
@[simp] theorem setPin_timebase : (s.setPin n c).timebase = s.timebase := (congrArg State.timebase (setPin_eq s n c)).trans rfl
@[simp] theorem setPin_trigOuts : (s.setPin n c).trigOuts = s.trigOuts := (congrArg State.trigOuts (setPin_eq s n c)).trans rfl
@[simp] theorem setPin_queues : (s.setPin n c).queues = s.queues := (congrArg State.queues (setPin_eq s n c)).trans rfl
@[simp] theorem setPin_pantry : (s.setPin n c).pantry = s.pantry := (congrArg State.pantry (setPin_eq s n c)).trans rfl
@[simp] theorem setPin_streams : (s.setPin n c).streams = s.streams := (congrArg State.streams (setPin_eq s n c)).trans rfl
@[simp] theorem setPin_zones : (s.setPin n c).zones = s.zones := (congrArg State.zones (setPin_eq s n c)).trans rfl
@[simp] theorem setPin_loader : (s.setPin n c).loader = s.loader := (congrArg State.loader (setPin_eq s n c)).trans rfl
@[simp] theorem setPin_frames : (s.setPin n c).frames = s.frames := (congrArg State.frames (setPin_eq s n c)).trans rfl
@[simp] theorem setPin_loft : (s.setPin n c).loft = s.loft := (congrArg State.loft (setPin_eq s n c)).trans rfl
@[simp] theorem setPin_keys : (s.setPin n c).keys = s.keys := (congrArg State.keys (setPin_eq s n c)).trans rfl
@[simp] theorem setPin_scrub : (s.setPin n c).scrub = s.scrub := (congrArg State.scrub (setPin_eq s n c)).trans rfl
@[simp] theorem setPin_sessions : (s.setPin n c).sessions = s.sessions := (congrArg State.sessions (setPin_eq s n c)).trans rfl
@[simp] theorem setPin_links : (s.setPin n c).links = s.links := (congrArg State.links (setPin_eq s n c)).trans rfl
@[simp] theorem setPin_claims : (s.setPin n c).claims = s.claims := (congrArg State.claims (setPin_eq s n c)).trans rfl
@[simp] theorem setPin_cycle : (s.setPin n c).cycle = s.cycle := (congrArg State.cycle (setPin_eq s n c)).trans rfl
@[simp] theorem setPin_keyFailures : (s.setPin n c).keyFailures = s.keyFailures := (congrArg State.keyFailures (setPin_eq s n c)).trans rfl
@[simp] theorem setPin_keyLockouts : (s.setPin n c).keyLockouts = s.keyLockouts := (congrArg State.keyLockouts (setPin_eq s n c)).trans rfl
@[simp] theorem setPin_cellar : (s.setPin n c).cellar = s.cellar := (congrArg State.cellar (setPin_eq s n c)).trans rfl
@[simp] theorem setPin_cal : (s.setPin n c).cal = s.cal := (congrArg State.cal (setPin_eq s n c)).trans rfl
@[simp] theorem setPin_power : (s.setPin n c).power = s.power := (congrArg State.power (setPin_eq s n c)).trans rfl
@[simp] theorem setPin_log : (s.setPin n c).log = s.log := (congrArg State.log (setPin_eq s n c)).trans rfl
@[simp] theorem setPin_outbox : (s.setPin n c).outbox = s.outbox := (congrArg State.outbox (setPin_eq s n c)).trans rfl
@[simp] theorem setPin_fresh : (s.setPin n c).fresh = s.fresh := (congrArg State.fresh (setPin_eq s n c)).trans rfl
end
section
variable (s : State) (q : Nat) (c : Converter)
theorem setConv_eq : (s.setConv q c) = { s with convs := (s.setConv q c).convs } := by unfold State.setConv; rfl
@[simp] theorem setConv_pending : (s.setConv q c).pending = s.pending := (congrArg State.pending (setConv_eq s q c)).trans rfl
@[simp] theorem setConv_now : (s.setConv q c).now = s.now := (congrArg State.now (setConv_eq s q c)).trans rfl
@[simp] theorem setConv_mode : (s.setConv q c).mode = s.mode := (congrArg State.mode (setConv_eq s q c)).trans rfl
@[simp] theorem setConv_objs : (s.setConv q c).objs = s.objs := (congrArg State.objs (setConv_eq s q c)).trans rfl
@[simp] theorem setConv_blobs : (s.setConv q c).blobs = s.blobs := (congrArg State.blobs (setConv_eq s q c)).trans rfl
@[simp] theorem setConv_mem : (s.setConv q c).mem = s.mem := (congrArg State.mem (setConv_eq s q c)).trans rfl
@[simp] theorem setConv_flips : (s.setConv q c).flips = s.flips := (congrArg State.flips (setConv_eq s q c)).trans rfl
@[simp] theorem setConv_ports : (s.setConv q c).ports = s.ports := (congrArg State.ports (setConv_eq s q c)).trans rfl
@[simp] theorem setConv_pins : (s.setConv q c).pins = s.pins := (congrArg State.pins (setConv_eq s q c)).trans rfl
@[simp] theorem setConv_chains : (s.setConv q c).chains = s.chains := (congrArg State.chains (setConv_eq s q c)).trans rfl
@[simp] theorem setConv_map : (s.setConv q c).map = s.map := (congrArg State.map (setConv_eq s q c)).trans rfl
@[simp] theorem setConv_disp : (s.setConv q c).disp = s.disp := (congrArg State.disp (setConv_eq s q c)).trans rfl
@[simp] theorem setConv_sweeps : (s.setConv q c).sweeps = s.sweeps := (congrArg State.sweeps (setConv_eq s q c)).trans rfl
@[simp] theorem setConv_busSources : (s.setConv q c).busSources = s.busSources := (congrArg State.busSources (setConv_eq s q c)).trans rfl
@[simp] theorem setConv_cans : (s.setConv q c).cans = s.cans := (congrArg State.cans (setConv_eq s q c)).trans rfl
@[simp] theorem setConv_lins : (s.setConv q c).lins = s.lins := (congrArg State.lins (setConv_eq s q c)).trans rfl
@[simp] theorem setConv_sents : (s.setConv q c).sents = s.sents := (congrArg State.sents (setConv_eq s q c)).trans rfl
@[simp] theorem setConv_gov : (s.setConv q c).gov = s.gov := (congrArg State.gov (setConv_eq s q c)).trans rfl
@[simp] theorem setConv_cores : (s.setConv q c).cores = s.cores := (congrArg State.cores (setConv_eq s q c)).trans rfl
@[simp] theorem setConv_sources : (s.setConv q c).sources = s.sources := (congrArg State.sources (setConv_eq s q c)).trans rfl
@[simp] theorem setConv_timebase : (s.setConv q c).timebase = s.timebase := (congrArg State.timebase (setConv_eq s q c)).trans rfl
@[simp] theorem setConv_trigOuts : (s.setConv q c).trigOuts = s.trigOuts := (congrArg State.trigOuts (setConv_eq s q c)).trans rfl
@[simp] theorem setConv_queues : (s.setConv q c).queues = s.queues := (congrArg State.queues (setConv_eq s q c)).trans rfl
@[simp] theorem setConv_pantry : (s.setConv q c).pantry = s.pantry := (congrArg State.pantry (setConv_eq s q c)).trans rfl
@[simp] theorem setConv_streams : (s.setConv q c).streams = s.streams := (congrArg State.streams (setConv_eq s q c)).trans rfl
@[simp] theorem setConv_zones : (s.setConv q c).zones = s.zones := (congrArg State.zones (setConv_eq s q c)).trans rfl
@[simp] theorem setConv_loader : (s.setConv q c).loader = s.loader := (congrArg State.loader (setConv_eq s q c)).trans rfl
@[simp] theorem setConv_frames : (s.setConv q c).frames = s.frames := (congrArg State.frames (setConv_eq s q c)).trans rfl
@[simp] theorem setConv_loft : (s.setConv q c).loft = s.loft := (congrArg State.loft (setConv_eq s q c)).trans rfl
@[simp] theorem setConv_keys : (s.setConv q c).keys = s.keys := (congrArg State.keys (setConv_eq s q c)).trans rfl
@[simp] theorem setConv_scrub : (s.setConv q c).scrub = s.scrub := (congrArg State.scrub (setConv_eq s q c)).trans rfl
@[simp] theorem setConv_sessions : (s.setConv q c).sessions = s.sessions := (congrArg State.sessions (setConv_eq s q c)).trans rfl
@[simp] theorem setConv_links : (s.setConv q c).links = s.links := (congrArg State.links (setConv_eq s q c)).trans rfl
@[simp] theorem setConv_claims : (s.setConv q c).claims = s.claims := (congrArg State.claims (setConv_eq s q c)).trans rfl
@[simp] theorem setConv_cycle : (s.setConv q c).cycle = s.cycle := (congrArg State.cycle (setConv_eq s q c)).trans rfl
@[simp] theorem setConv_keyFailures : (s.setConv q c).keyFailures = s.keyFailures := (congrArg State.keyFailures (setConv_eq s q c)).trans rfl
@[simp] theorem setConv_keyLockouts : (s.setConv q c).keyLockouts = s.keyLockouts := (congrArg State.keyLockouts (setConv_eq s q c)).trans rfl
@[simp] theorem setConv_cellar : (s.setConv q c).cellar = s.cellar := (congrArg State.cellar (setConv_eq s q c)).trans rfl
@[simp] theorem setConv_cal : (s.setConv q c).cal = s.cal := (congrArg State.cal (setConv_eq s q c)).trans rfl
@[simp] theorem setConv_power : (s.setConv q c).power = s.power := (congrArg State.power (setConv_eq s q c)).trans rfl
@[simp] theorem setConv_log : (s.setConv q c).log = s.log := (congrArg State.log (setConv_eq s q c)).trans rfl
@[simp] theorem setConv_outbox : (s.setConv q c).outbox = s.outbox := (congrArg State.outbox (setConv_eq s q c)).trans rfl
@[simp] theorem setConv_fresh : (s.setConv q c).fresh = s.fresh := (congrArg State.fresh (setConv_eq s q c)).trans rfl
end
section
variable (s : State) (n : Nat) (c : Chain)
theorem setChain_eq : (s.setChain n c) = { s with chains := (s.setChain n c).chains } := by unfold State.setChain; rfl
@[simp] theorem setChain_pending : (s.setChain n c).pending = s.pending := (congrArg State.pending (setChain_eq s n c)).trans rfl
@[simp] theorem setChain_now : (s.setChain n c).now = s.now := (congrArg State.now (setChain_eq s n c)).trans rfl
@[simp] theorem setChain_mode : (s.setChain n c).mode = s.mode := (congrArg State.mode (setChain_eq s n c)).trans rfl
@[simp] theorem setChain_objs : (s.setChain n c).objs = s.objs := (congrArg State.objs (setChain_eq s n c)).trans rfl
@[simp] theorem setChain_blobs : (s.setChain n c).blobs = s.blobs := (congrArg State.blobs (setChain_eq s n c)).trans rfl
@[simp] theorem setChain_mem : (s.setChain n c).mem = s.mem := (congrArg State.mem (setChain_eq s n c)).trans rfl
@[simp] theorem setChain_flips : (s.setChain n c).flips = s.flips := (congrArg State.flips (setChain_eq s n c)).trans rfl
@[simp] theorem setChain_ports : (s.setChain n c).ports = s.ports := (congrArg State.ports (setChain_eq s n c)).trans rfl
@[simp] theorem setChain_pins : (s.setChain n c).pins = s.pins := (congrArg State.pins (setChain_eq s n c)).trans rfl
@[simp] theorem setChain_convs : (s.setChain n c).convs = s.convs := (congrArg State.convs (setChain_eq s n c)).trans rfl
@[simp] theorem setChain_map : (s.setChain n c).map = s.map := (congrArg State.map (setChain_eq s n c)).trans rfl
@[simp] theorem setChain_disp : (s.setChain n c).disp = s.disp := (congrArg State.disp (setChain_eq s n c)).trans rfl
@[simp] theorem setChain_sweeps : (s.setChain n c).sweeps = s.sweeps := (congrArg State.sweeps (setChain_eq s n c)).trans rfl
@[simp] theorem setChain_busSources : (s.setChain n c).busSources = s.busSources := (congrArg State.busSources (setChain_eq s n c)).trans rfl
@[simp] theorem setChain_cans : (s.setChain n c).cans = s.cans := (congrArg State.cans (setChain_eq s n c)).trans rfl
@[simp] theorem setChain_lins : (s.setChain n c).lins = s.lins := (congrArg State.lins (setChain_eq s n c)).trans rfl
@[simp] theorem setChain_sents : (s.setChain n c).sents = s.sents := (congrArg State.sents (setChain_eq s n c)).trans rfl
@[simp] theorem setChain_gov : (s.setChain n c).gov = s.gov := (congrArg State.gov (setChain_eq s n c)).trans rfl
@[simp] theorem setChain_cores : (s.setChain n c).cores = s.cores := (congrArg State.cores (setChain_eq s n c)).trans rfl
@[simp] theorem setChain_sources : (s.setChain n c).sources = s.sources := (congrArg State.sources (setChain_eq s n c)).trans rfl
@[simp] theorem setChain_timebase : (s.setChain n c).timebase = s.timebase := (congrArg State.timebase (setChain_eq s n c)).trans rfl
@[simp] theorem setChain_trigOuts : (s.setChain n c).trigOuts = s.trigOuts := (congrArg State.trigOuts (setChain_eq s n c)).trans rfl
@[simp] theorem setChain_queues : (s.setChain n c).queues = s.queues := (congrArg State.queues (setChain_eq s n c)).trans rfl
@[simp] theorem setChain_pantry : (s.setChain n c).pantry = s.pantry := (congrArg State.pantry (setChain_eq s n c)).trans rfl
@[simp] theorem setChain_streams : (s.setChain n c).streams = s.streams := (congrArg State.streams (setChain_eq s n c)).trans rfl
@[simp] theorem setChain_zones : (s.setChain n c).zones = s.zones := (congrArg State.zones (setChain_eq s n c)).trans rfl
@[simp] theorem setChain_loader : (s.setChain n c).loader = s.loader := (congrArg State.loader (setChain_eq s n c)).trans rfl
@[simp] theorem setChain_frames : (s.setChain n c).frames = s.frames := (congrArg State.frames (setChain_eq s n c)).trans rfl
@[simp] theorem setChain_loft : (s.setChain n c).loft = s.loft := (congrArg State.loft (setChain_eq s n c)).trans rfl
@[simp] theorem setChain_keys : (s.setChain n c).keys = s.keys := (congrArg State.keys (setChain_eq s n c)).trans rfl
@[simp] theorem setChain_scrub : (s.setChain n c).scrub = s.scrub := (congrArg State.scrub (setChain_eq s n c)).trans rfl
@[simp] theorem setChain_sessions : (s.setChain n c).sessions = s.sessions := (congrArg State.sessions (setChain_eq s n c)).trans rfl
@[simp] theorem setChain_links : (s.setChain n c).links = s.links := (congrArg State.links (setChain_eq s n c)).trans rfl
@[simp] theorem setChain_claims : (s.setChain n c).claims = s.claims := (congrArg State.claims (setChain_eq s n c)).trans rfl
@[simp] theorem setChain_cycle : (s.setChain n c).cycle = s.cycle := (congrArg State.cycle (setChain_eq s n c)).trans rfl
@[simp] theorem setChain_keyFailures : (s.setChain n c).keyFailures = s.keyFailures := (congrArg State.keyFailures (setChain_eq s n c)).trans rfl
@[simp] theorem setChain_keyLockouts : (s.setChain n c).keyLockouts = s.keyLockouts := (congrArg State.keyLockouts (setChain_eq s n c)).trans rfl
@[simp] theorem setChain_cellar : (s.setChain n c).cellar = s.cellar := (congrArg State.cellar (setChain_eq s n c)).trans rfl
@[simp] theorem setChain_cal : (s.setChain n c).cal = s.cal := (congrArg State.cal (setChain_eq s n c)).trans rfl
@[simp] theorem setChain_power : (s.setChain n c).power = s.power := (congrArg State.power (setChain_eq s n c)).trans rfl
@[simp] theorem setChain_log : (s.setChain n c).log = s.log := (congrArg State.log (setChain_eq s n c)).trans rfl
@[simp] theorem setChain_outbox : (s.setChain n c).outbox = s.outbox := (congrArg State.outbox (setChain_eq s n c)).trans rfl
@[simp] theorem setChain_fresh : (s.setChain n c).fresh = s.fresh := (congrArg State.fresh (setChain_eq s n c)).trans rfl
end
section
variable (s : State) (m : Nat) (c : Sweep)
theorem setSweep_eq : (s.setSweep m c) = { s with sweeps := (s.setSweep m c).sweeps } := by unfold State.setSweep; rfl
@[simp] theorem setSweep_pending : (s.setSweep m c).pending = s.pending := (congrArg State.pending (setSweep_eq s m c)).trans rfl
@[simp] theorem setSweep_now : (s.setSweep m c).now = s.now := (congrArg State.now (setSweep_eq s m c)).trans rfl
@[simp] theorem setSweep_mode : (s.setSweep m c).mode = s.mode := (congrArg State.mode (setSweep_eq s m c)).trans rfl
@[simp] theorem setSweep_objs : (s.setSweep m c).objs = s.objs := (congrArg State.objs (setSweep_eq s m c)).trans rfl
@[simp] theorem setSweep_blobs : (s.setSweep m c).blobs = s.blobs := (congrArg State.blobs (setSweep_eq s m c)).trans rfl
@[simp] theorem setSweep_mem : (s.setSweep m c).mem = s.mem := (congrArg State.mem (setSweep_eq s m c)).trans rfl
@[simp] theorem setSweep_flips : (s.setSweep m c).flips = s.flips := (congrArg State.flips (setSweep_eq s m c)).trans rfl
@[simp] theorem setSweep_ports : (s.setSweep m c).ports = s.ports := (congrArg State.ports (setSweep_eq s m c)).trans rfl
@[simp] theorem setSweep_pins : (s.setSweep m c).pins = s.pins := (congrArg State.pins (setSweep_eq s m c)).trans rfl
@[simp] theorem setSweep_convs : (s.setSweep m c).convs = s.convs := (congrArg State.convs (setSweep_eq s m c)).trans rfl
@[simp] theorem setSweep_chains : (s.setSweep m c).chains = s.chains := (congrArg State.chains (setSweep_eq s m c)).trans rfl
@[simp] theorem setSweep_map : (s.setSweep m c).map = s.map := (congrArg State.map (setSweep_eq s m c)).trans rfl
@[simp] theorem setSweep_disp : (s.setSweep m c).disp = s.disp := (congrArg State.disp (setSweep_eq s m c)).trans rfl
@[simp] theorem setSweep_busSources : (s.setSweep m c).busSources = s.busSources := (congrArg State.busSources (setSweep_eq s m c)).trans rfl
@[simp] theorem setSweep_cans : (s.setSweep m c).cans = s.cans := (congrArg State.cans (setSweep_eq s m c)).trans rfl
@[simp] theorem setSweep_lins : (s.setSweep m c).lins = s.lins := (congrArg State.lins (setSweep_eq s m c)).trans rfl
@[simp] theorem setSweep_sents : (s.setSweep m c).sents = s.sents := (congrArg State.sents (setSweep_eq s m c)).trans rfl
@[simp] theorem setSweep_gov : (s.setSweep m c).gov = s.gov := (congrArg State.gov (setSweep_eq s m c)).trans rfl
@[simp] theorem setSweep_cores : (s.setSweep m c).cores = s.cores := (congrArg State.cores (setSweep_eq s m c)).trans rfl
@[simp] theorem setSweep_sources : (s.setSweep m c).sources = s.sources := (congrArg State.sources (setSweep_eq s m c)).trans rfl
@[simp] theorem setSweep_timebase : (s.setSweep m c).timebase = s.timebase := (congrArg State.timebase (setSweep_eq s m c)).trans rfl
@[simp] theorem setSweep_trigOuts : (s.setSweep m c).trigOuts = s.trigOuts := (congrArg State.trigOuts (setSweep_eq s m c)).trans rfl
@[simp] theorem setSweep_queues : (s.setSweep m c).queues = s.queues := (congrArg State.queues (setSweep_eq s m c)).trans rfl
@[simp] theorem setSweep_pantry : (s.setSweep m c).pantry = s.pantry := (congrArg State.pantry (setSweep_eq s m c)).trans rfl
@[simp] theorem setSweep_streams : (s.setSweep m c).streams = s.streams := (congrArg State.streams (setSweep_eq s m c)).trans rfl
@[simp] theorem setSweep_zones : (s.setSweep m c).zones = s.zones := (congrArg State.zones (setSweep_eq s m c)).trans rfl
@[simp] theorem setSweep_loader : (s.setSweep m c).loader = s.loader := (congrArg State.loader (setSweep_eq s m c)).trans rfl
@[simp] theorem setSweep_frames : (s.setSweep m c).frames = s.frames := (congrArg State.frames (setSweep_eq s m c)).trans rfl
@[simp] theorem setSweep_loft : (s.setSweep m c).loft = s.loft := (congrArg State.loft (setSweep_eq s m c)).trans rfl
@[simp] theorem setSweep_keys : (s.setSweep m c).keys = s.keys := (congrArg State.keys (setSweep_eq s m c)).trans rfl
@[simp] theorem setSweep_scrub : (s.setSweep m c).scrub = s.scrub := (congrArg State.scrub (setSweep_eq s m c)).trans rfl
@[simp] theorem setSweep_sessions : (s.setSweep m c).sessions = s.sessions := (congrArg State.sessions (setSweep_eq s m c)).trans rfl
@[simp] theorem setSweep_links : (s.setSweep m c).links = s.links := (congrArg State.links (setSweep_eq s m c)).trans rfl
@[simp] theorem setSweep_claims : (s.setSweep m c).claims = s.claims := (congrArg State.claims (setSweep_eq s m c)).trans rfl
@[simp] theorem setSweep_cycle : (s.setSweep m c).cycle = s.cycle := (congrArg State.cycle (setSweep_eq s m c)).trans rfl
@[simp] theorem setSweep_keyFailures : (s.setSweep m c).keyFailures = s.keyFailures := (congrArg State.keyFailures (setSweep_eq s m c)).trans rfl
@[simp] theorem setSweep_keyLockouts : (s.setSweep m c).keyLockouts = s.keyLockouts := (congrArg State.keyLockouts (setSweep_eq s m c)).trans rfl
@[simp] theorem setSweep_cellar : (s.setSweep m c).cellar = s.cellar := (congrArg State.cellar (setSweep_eq s m c)).trans rfl
@[simp] theorem setSweep_cal : (s.setSweep m c).cal = s.cal := (congrArg State.cal (setSweep_eq s m c)).trans rfl
@[simp] theorem setSweep_power : (s.setSweep m c).power = s.power := (congrArg State.power (setSweep_eq s m c)).trans rfl
@[simp] theorem setSweep_log : (s.setSweep m c).log = s.log := (congrArg State.log (setSweep_eq s m c)).trans rfl
@[simp] theorem setSweep_outbox : (s.setSweep m c).outbox = s.outbox := (congrArg State.outbox (setSweep_eq s m c)).trans rfl
@[simp] theorem setSweep_fresh : (s.setSweep m c).fresh = s.fresh := (congrArg State.fresh (setSweep_eq s m c)).trans rfl
end
section
variable (s : State) (n : Nat) (c : BusSource)
theorem setBusSource_eq : (s.setBusSource n c) = { s with busSources := (s.setBusSource n c).busSources } := by unfold State.setBusSource; rfl
@[simp] theorem setBusSource_pending : (s.setBusSource n c).pending = s.pending := (congrArg State.pending (setBusSource_eq s n c)).trans rfl
@[simp] theorem setBusSource_now : (s.setBusSource n c).now = s.now := (congrArg State.now (setBusSource_eq s n c)).trans rfl
@[simp] theorem setBusSource_mode : (s.setBusSource n c).mode = s.mode := (congrArg State.mode (setBusSource_eq s n c)).trans rfl
@[simp] theorem setBusSource_objs : (s.setBusSource n c).objs = s.objs := (congrArg State.objs (setBusSource_eq s n c)).trans rfl
@[simp] theorem setBusSource_blobs : (s.setBusSource n c).blobs = s.blobs := (congrArg State.blobs (setBusSource_eq s n c)).trans rfl
@[simp] theorem setBusSource_mem : (s.setBusSource n c).mem = s.mem := (congrArg State.mem (setBusSource_eq s n c)).trans rfl
@[simp] theorem setBusSource_flips : (s.setBusSource n c).flips = s.flips := (congrArg State.flips (setBusSource_eq s n c)).trans rfl
@[simp] theorem setBusSource_ports : (s.setBusSource n c).ports = s.ports := (congrArg State.ports (setBusSource_eq s n c)).trans rfl
@[simp] theorem setBusSource_pins : (s.setBusSource n c).pins = s.pins := (congrArg State.pins (setBusSource_eq s n c)).trans rfl
@[simp] theorem setBusSource_convs : (s.setBusSource n c).convs = s.convs := (congrArg State.convs (setBusSource_eq s n c)).trans rfl
@[simp] theorem setBusSource_chains : (s.setBusSource n c).chains = s.chains := (congrArg State.chains (setBusSource_eq s n c)).trans rfl
@[simp] theorem setBusSource_map : (s.setBusSource n c).map = s.map := (congrArg State.map (setBusSource_eq s n c)).trans rfl
@[simp] theorem setBusSource_disp : (s.setBusSource n c).disp = s.disp := (congrArg State.disp (setBusSource_eq s n c)).trans rfl
@[simp] theorem setBusSource_sweeps : (s.setBusSource n c).sweeps = s.sweeps := (congrArg State.sweeps (setBusSource_eq s n c)).trans rfl
@[simp] theorem setBusSource_cans : (s.setBusSource n c).cans = s.cans := (congrArg State.cans (setBusSource_eq s n c)).trans rfl
@[simp] theorem setBusSource_lins : (s.setBusSource n c).lins = s.lins := (congrArg State.lins (setBusSource_eq s n c)).trans rfl
@[simp] theorem setBusSource_sents : (s.setBusSource n c).sents = s.sents := (congrArg State.sents (setBusSource_eq s n c)).trans rfl
@[simp] theorem setBusSource_gov : (s.setBusSource n c).gov = s.gov := (congrArg State.gov (setBusSource_eq s n c)).trans rfl
@[simp] theorem setBusSource_cores : (s.setBusSource n c).cores = s.cores := (congrArg State.cores (setBusSource_eq s n c)).trans rfl
@[simp] theorem setBusSource_sources : (s.setBusSource n c).sources = s.sources := (congrArg State.sources (setBusSource_eq s n c)).trans rfl
@[simp] theorem setBusSource_timebase : (s.setBusSource n c).timebase = s.timebase := (congrArg State.timebase (setBusSource_eq s n c)).trans rfl
@[simp] theorem setBusSource_trigOuts : (s.setBusSource n c).trigOuts = s.trigOuts := (congrArg State.trigOuts (setBusSource_eq s n c)).trans rfl
@[simp] theorem setBusSource_queues : (s.setBusSource n c).queues = s.queues := (congrArg State.queues (setBusSource_eq s n c)).trans rfl
@[simp] theorem setBusSource_pantry : (s.setBusSource n c).pantry = s.pantry := (congrArg State.pantry (setBusSource_eq s n c)).trans rfl
@[simp] theorem setBusSource_streams : (s.setBusSource n c).streams = s.streams := (congrArg State.streams (setBusSource_eq s n c)).trans rfl
@[simp] theorem setBusSource_zones : (s.setBusSource n c).zones = s.zones := (congrArg State.zones (setBusSource_eq s n c)).trans rfl
@[simp] theorem setBusSource_loader : (s.setBusSource n c).loader = s.loader := (congrArg State.loader (setBusSource_eq s n c)).trans rfl
@[simp] theorem setBusSource_frames : (s.setBusSource n c).frames = s.frames := (congrArg State.frames (setBusSource_eq s n c)).trans rfl
@[simp] theorem setBusSource_loft : (s.setBusSource n c).loft = s.loft := (congrArg State.loft (setBusSource_eq s n c)).trans rfl
@[simp] theorem setBusSource_keys : (s.setBusSource n c).keys = s.keys := (congrArg State.keys (setBusSource_eq s n c)).trans rfl
@[simp] theorem setBusSource_scrub : (s.setBusSource n c).scrub = s.scrub := (congrArg State.scrub (setBusSource_eq s n c)).trans rfl
@[simp] theorem setBusSource_sessions : (s.setBusSource n c).sessions = s.sessions := (congrArg State.sessions (setBusSource_eq s n c)).trans rfl
@[simp] theorem setBusSource_links : (s.setBusSource n c).links = s.links := (congrArg State.links (setBusSource_eq s n c)).trans rfl
@[simp] theorem setBusSource_claims : (s.setBusSource n c).claims = s.claims := (congrArg State.claims (setBusSource_eq s n c)).trans rfl
@[simp] theorem setBusSource_cycle : (s.setBusSource n c).cycle = s.cycle := (congrArg State.cycle (setBusSource_eq s n c)).trans rfl
@[simp] theorem setBusSource_keyFailures : (s.setBusSource n c).keyFailures = s.keyFailures := (congrArg State.keyFailures (setBusSource_eq s n c)).trans rfl
@[simp] theorem setBusSource_keyLockouts : (s.setBusSource n c).keyLockouts = s.keyLockouts := (congrArg State.keyLockouts (setBusSource_eq s n c)).trans rfl
@[simp] theorem setBusSource_cellar : (s.setBusSource n c).cellar = s.cellar := (congrArg State.cellar (setBusSource_eq s n c)).trans rfl
@[simp] theorem setBusSource_cal : (s.setBusSource n c).cal = s.cal := (congrArg State.cal (setBusSource_eq s n c)).trans rfl
@[simp] theorem setBusSource_power : (s.setBusSource n c).power = s.power := (congrArg State.power (setBusSource_eq s n c)).trans rfl
@[simp] theorem setBusSource_log : (s.setBusSource n c).log = s.log := (congrArg State.log (setBusSource_eq s n c)).trans rfl
@[simp] theorem setBusSource_outbox : (s.setBusSource n c).outbox = s.outbox := (congrArg State.outbox (setBusSource_eq s n c)).trans rfl
@[simp] theorem setBusSource_fresh : (s.setBusSource n c).fresh = s.fresh := (congrArg State.fresh (setBusSource_eq s n c)).trans rfl
end
section
variable (s : State) (e : Nat) (c : CanEngine)
theorem setCan_eq : (s.setCan e c) = { s with cans := (s.setCan e c).cans } := by unfold State.setCan; rfl
@[simp] theorem setCan_pending : (s.setCan e c).pending = s.pending := (congrArg State.pending (setCan_eq s e c)).trans rfl
@[simp] theorem setCan_now : (s.setCan e c).now = s.now := (congrArg State.now (setCan_eq s e c)).trans rfl
@[simp] theorem setCan_mode : (s.setCan e c).mode = s.mode := (congrArg State.mode (setCan_eq s e c)).trans rfl
@[simp] theorem setCan_objs : (s.setCan e c).objs = s.objs := (congrArg State.objs (setCan_eq s e c)).trans rfl
@[simp] theorem setCan_blobs : (s.setCan e c).blobs = s.blobs := (congrArg State.blobs (setCan_eq s e c)).trans rfl
@[simp] theorem setCan_mem : (s.setCan e c).mem = s.mem := (congrArg State.mem (setCan_eq s e c)).trans rfl
@[simp] theorem setCan_flips : (s.setCan e c).flips = s.flips := (congrArg State.flips (setCan_eq s e c)).trans rfl
@[simp] theorem setCan_ports : (s.setCan e c).ports = s.ports := (congrArg State.ports (setCan_eq s e c)).trans rfl
@[simp] theorem setCan_pins : (s.setCan e c).pins = s.pins := (congrArg State.pins (setCan_eq s e c)).trans rfl
@[simp] theorem setCan_convs : (s.setCan e c).convs = s.convs := (congrArg State.convs (setCan_eq s e c)).trans rfl
@[simp] theorem setCan_chains : (s.setCan e c).chains = s.chains := (congrArg State.chains (setCan_eq s e c)).trans rfl
@[simp] theorem setCan_map : (s.setCan e c).map = s.map := (congrArg State.map (setCan_eq s e c)).trans rfl
@[simp] theorem setCan_disp : (s.setCan e c).disp = s.disp := (congrArg State.disp (setCan_eq s e c)).trans rfl
@[simp] theorem setCan_sweeps : (s.setCan e c).sweeps = s.sweeps := (congrArg State.sweeps (setCan_eq s e c)).trans rfl
@[simp] theorem setCan_busSources : (s.setCan e c).busSources = s.busSources := (congrArg State.busSources (setCan_eq s e c)).trans rfl
@[simp] theorem setCan_lins : (s.setCan e c).lins = s.lins := (congrArg State.lins (setCan_eq s e c)).trans rfl
@[simp] theorem setCan_sents : (s.setCan e c).sents = s.sents := (congrArg State.sents (setCan_eq s e c)).trans rfl
@[simp] theorem setCan_gov : (s.setCan e c).gov = s.gov := (congrArg State.gov (setCan_eq s e c)).trans rfl
@[simp] theorem setCan_cores : (s.setCan e c).cores = s.cores := (congrArg State.cores (setCan_eq s e c)).trans rfl
@[simp] theorem setCan_sources : (s.setCan e c).sources = s.sources := (congrArg State.sources (setCan_eq s e c)).trans rfl
@[simp] theorem setCan_timebase : (s.setCan e c).timebase = s.timebase := (congrArg State.timebase (setCan_eq s e c)).trans rfl
@[simp] theorem setCan_trigOuts : (s.setCan e c).trigOuts = s.trigOuts := (congrArg State.trigOuts (setCan_eq s e c)).trans rfl
@[simp] theorem setCan_queues : (s.setCan e c).queues = s.queues := (congrArg State.queues (setCan_eq s e c)).trans rfl
@[simp] theorem setCan_pantry : (s.setCan e c).pantry = s.pantry := (congrArg State.pantry (setCan_eq s e c)).trans rfl
@[simp] theorem setCan_streams : (s.setCan e c).streams = s.streams := (congrArg State.streams (setCan_eq s e c)).trans rfl
@[simp] theorem setCan_zones : (s.setCan e c).zones = s.zones := (congrArg State.zones (setCan_eq s e c)).trans rfl
@[simp] theorem setCan_loader : (s.setCan e c).loader = s.loader := (congrArg State.loader (setCan_eq s e c)).trans rfl
@[simp] theorem setCan_frames : (s.setCan e c).frames = s.frames := (congrArg State.frames (setCan_eq s e c)).trans rfl
@[simp] theorem setCan_loft : (s.setCan e c).loft = s.loft := (congrArg State.loft (setCan_eq s e c)).trans rfl
@[simp] theorem setCan_keys : (s.setCan e c).keys = s.keys := (congrArg State.keys (setCan_eq s e c)).trans rfl
@[simp] theorem setCan_scrub : (s.setCan e c).scrub = s.scrub := (congrArg State.scrub (setCan_eq s e c)).trans rfl
@[simp] theorem setCan_sessions : (s.setCan e c).sessions = s.sessions := (congrArg State.sessions (setCan_eq s e c)).trans rfl
@[simp] theorem setCan_links : (s.setCan e c).links = s.links := (congrArg State.links (setCan_eq s e c)).trans rfl
@[simp] theorem setCan_claims : (s.setCan e c).claims = s.claims := (congrArg State.claims (setCan_eq s e c)).trans rfl
@[simp] theorem setCan_cycle : (s.setCan e c).cycle = s.cycle := (congrArg State.cycle (setCan_eq s e c)).trans rfl
@[simp] theorem setCan_keyFailures : (s.setCan e c).keyFailures = s.keyFailures := (congrArg State.keyFailures (setCan_eq s e c)).trans rfl
@[simp] theorem setCan_keyLockouts : (s.setCan e c).keyLockouts = s.keyLockouts := (congrArg State.keyLockouts (setCan_eq s e c)).trans rfl
@[simp] theorem setCan_cellar : (s.setCan e c).cellar = s.cellar := (congrArg State.cellar (setCan_eq s e c)).trans rfl
@[simp] theorem setCan_cal : (s.setCan e c).cal = s.cal := (congrArg State.cal (setCan_eq s e c)).trans rfl
@[simp] theorem setCan_power : (s.setCan e c).power = s.power := (congrArg State.power (setCan_eq s e c)).trans rfl
@[simp] theorem setCan_log : (s.setCan e c).log = s.log := (congrArg State.log (setCan_eq s e c)).trans rfl
@[simp] theorem setCan_outbox : (s.setCan e c).outbox = s.outbox := (congrArg State.outbox (setCan_eq s e c)).trans rfl
@[simp] theorem setCan_fresh : (s.setCan e c).fresh = s.fresh := (congrArg State.fresh (setCan_eq s e c)).trans rfl
end
section
variable (s : State) (l : Nat) (c : LinEngine)
theorem setLin_eq : (s.setLin l c) = { s with lins := (s.setLin l c).lins } := by unfold State.setLin; rfl
@[simp] theorem setLin_pending : (s.setLin l c).pending = s.pending := (congrArg State.pending (setLin_eq s l c)).trans rfl
@[simp] theorem setLin_now : (s.setLin l c).now = s.now := (congrArg State.now (setLin_eq s l c)).trans rfl
@[simp] theorem setLin_mode : (s.setLin l c).mode = s.mode := (congrArg State.mode (setLin_eq s l c)).trans rfl
@[simp] theorem setLin_objs : (s.setLin l c).objs = s.objs := (congrArg State.objs (setLin_eq s l c)).trans rfl
@[simp] theorem setLin_blobs : (s.setLin l c).blobs = s.blobs := (congrArg State.blobs (setLin_eq s l c)).trans rfl
@[simp] theorem setLin_mem : (s.setLin l c).mem = s.mem := (congrArg State.mem (setLin_eq s l c)).trans rfl
@[simp] theorem setLin_flips : (s.setLin l c).flips = s.flips := (congrArg State.flips (setLin_eq s l c)).trans rfl
@[simp] theorem setLin_ports : (s.setLin l c).ports = s.ports := (congrArg State.ports (setLin_eq s l c)).trans rfl
@[simp] theorem setLin_pins : (s.setLin l c).pins = s.pins := (congrArg State.pins (setLin_eq s l c)).trans rfl
@[simp] theorem setLin_convs : (s.setLin l c).convs = s.convs := (congrArg State.convs (setLin_eq s l c)).trans rfl
@[simp] theorem setLin_chains : (s.setLin l c).chains = s.chains := (congrArg State.chains (setLin_eq s l c)).trans rfl
@[simp] theorem setLin_map : (s.setLin l c).map = s.map := (congrArg State.map (setLin_eq s l c)).trans rfl
@[simp] theorem setLin_disp : (s.setLin l c).disp = s.disp := (congrArg State.disp (setLin_eq s l c)).trans rfl
@[simp] theorem setLin_sweeps : (s.setLin l c).sweeps = s.sweeps := (congrArg State.sweeps (setLin_eq s l c)).trans rfl
@[simp] theorem setLin_busSources : (s.setLin l c).busSources = s.busSources := (congrArg State.busSources (setLin_eq s l c)).trans rfl
@[simp] theorem setLin_cans : (s.setLin l c).cans = s.cans := (congrArg State.cans (setLin_eq s l c)).trans rfl
@[simp] theorem setLin_sents : (s.setLin l c).sents = s.sents := (congrArg State.sents (setLin_eq s l c)).trans rfl
@[simp] theorem setLin_gov : (s.setLin l c).gov = s.gov := (congrArg State.gov (setLin_eq s l c)).trans rfl
@[simp] theorem setLin_cores : (s.setLin l c).cores = s.cores := (congrArg State.cores (setLin_eq s l c)).trans rfl
@[simp] theorem setLin_sources : (s.setLin l c).sources = s.sources := (congrArg State.sources (setLin_eq s l c)).trans rfl
@[simp] theorem setLin_timebase : (s.setLin l c).timebase = s.timebase := (congrArg State.timebase (setLin_eq s l c)).trans rfl
@[simp] theorem setLin_trigOuts : (s.setLin l c).trigOuts = s.trigOuts := (congrArg State.trigOuts (setLin_eq s l c)).trans rfl
@[simp] theorem setLin_queues : (s.setLin l c).queues = s.queues := (congrArg State.queues (setLin_eq s l c)).trans rfl
@[simp] theorem setLin_pantry : (s.setLin l c).pantry = s.pantry := (congrArg State.pantry (setLin_eq s l c)).trans rfl
@[simp] theorem setLin_streams : (s.setLin l c).streams = s.streams := (congrArg State.streams (setLin_eq s l c)).trans rfl
@[simp] theorem setLin_zones : (s.setLin l c).zones = s.zones := (congrArg State.zones (setLin_eq s l c)).trans rfl
@[simp] theorem setLin_loader : (s.setLin l c).loader = s.loader := (congrArg State.loader (setLin_eq s l c)).trans rfl
@[simp] theorem setLin_frames : (s.setLin l c).frames = s.frames := (congrArg State.frames (setLin_eq s l c)).trans rfl
@[simp] theorem setLin_loft : (s.setLin l c).loft = s.loft := (congrArg State.loft (setLin_eq s l c)).trans rfl
@[simp] theorem setLin_keys : (s.setLin l c).keys = s.keys := (congrArg State.keys (setLin_eq s l c)).trans rfl
@[simp] theorem setLin_scrub : (s.setLin l c).scrub = s.scrub := (congrArg State.scrub (setLin_eq s l c)).trans rfl
@[simp] theorem setLin_sessions : (s.setLin l c).sessions = s.sessions := (congrArg State.sessions (setLin_eq s l c)).trans rfl
@[simp] theorem setLin_links : (s.setLin l c).links = s.links := (congrArg State.links (setLin_eq s l c)).trans rfl
@[simp] theorem setLin_claims : (s.setLin l c).claims = s.claims := (congrArg State.claims (setLin_eq s l c)).trans rfl
@[simp] theorem setLin_cycle : (s.setLin l c).cycle = s.cycle := (congrArg State.cycle (setLin_eq s l c)).trans rfl
@[simp] theorem setLin_keyFailures : (s.setLin l c).keyFailures = s.keyFailures := (congrArg State.keyFailures (setLin_eq s l c)).trans rfl
@[simp] theorem setLin_keyLockouts : (s.setLin l c).keyLockouts = s.keyLockouts := (congrArg State.keyLockouts (setLin_eq s l c)).trans rfl
@[simp] theorem setLin_cellar : (s.setLin l c).cellar = s.cellar := (congrArg State.cellar (setLin_eq s l c)).trans rfl
@[simp] theorem setLin_cal : (s.setLin l c).cal = s.cal := (congrArg State.cal (setLin_eq s l c)).trans rfl
@[simp] theorem setLin_power : (s.setLin l c).power = s.power := (congrArg State.power (setLin_eq s l c)).trans rfl
@[simp] theorem setLin_log : (s.setLin l c).log = s.log := (congrArg State.log (setLin_eq s l c)).trans rfl
@[simp] theorem setLin_outbox : (s.setLin l c).outbox = s.outbox := (congrArg State.outbox (setLin_eq s l c)).trans rfl
@[simp] theorem setLin_fresh : (s.setLin l c).fresh = s.fresh := (congrArg State.fresh (setLin_eq s l c)).trans rfl
end
section
variable (s : State) (r : Nat) (c : SentUnit)
theorem setSent_eq : (s.setSent r c) = { s with sents := (s.setSent r c).sents } := by unfold State.setSent; rfl
@[simp] theorem setSent_pending : (s.setSent r c).pending = s.pending := (congrArg State.pending (setSent_eq s r c)).trans rfl
@[simp] theorem setSent_now : (s.setSent r c).now = s.now := (congrArg State.now (setSent_eq s r c)).trans rfl
@[simp] theorem setSent_mode : (s.setSent r c).mode = s.mode := (congrArg State.mode (setSent_eq s r c)).trans rfl
@[simp] theorem setSent_objs : (s.setSent r c).objs = s.objs := (congrArg State.objs (setSent_eq s r c)).trans rfl
@[simp] theorem setSent_blobs : (s.setSent r c).blobs = s.blobs := (congrArg State.blobs (setSent_eq s r c)).trans rfl
@[simp] theorem setSent_mem : (s.setSent r c).mem = s.mem := (congrArg State.mem (setSent_eq s r c)).trans rfl
@[simp] theorem setSent_flips : (s.setSent r c).flips = s.flips := (congrArg State.flips (setSent_eq s r c)).trans rfl
@[simp] theorem setSent_ports : (s.setSent r c).ports = s.ports := (congrArg State.ports (setSent_eq s r c)).trans rfl
@[simp] theorem setSent_pins : (s.setSent r c).pins = s.pins := (congrArg State.pins (setSent_eq s r c)).trans rfl
@[simp] theorem setSent_convs : (s.setSent r c).convs = s.convs := (congrArg State.convs (setSent_eq s r c)).trans rfl
@[simp] theorem setSent_chains : (s.setSent r c).chains = s.chains := (congrArg State.chains (setSent_eq s r c)).trans rfl
@[simp] theorem setSent_map : (s.setSent r c).map = s.map := (congrArg State.map (setSent_eq s r c)).trans rfl
@[simp] theorem setSent_disp : (s.setSent r c).disp = s.disp := (congrArg State.disp (setSent_eq s r c)).trans rfl
@[simp] theorem setSent_sweeps : (s.setSent r c).sweeps = s.sweeps := (congrArg State.sweeps (setSent_eq s r c)).trans rfl
@[simp] theorem setSent_busSources : (s.setSent r c).busSources = s.busSources := (congrArg State.busSources (setSent_eq s r c)).trans rfl
@[simp] theorem setSent_cans : (s.setSent r c).cans = s.cans := (congrArg State.cans (setSent_eq s r c)).trans rfl
@[simp] theorem setSent_lins : (s.setSent r c).lins = s.lins := (congrArg State.lins (setSent_eq s r c)).trans rfl
@[simp] theorem setSent_gov : (s.setSent r c).gov = s.gov := (congrArg State.gov (setSent_eq s r c)).trans rfl
@[simp] theorem setSent_cores : (s.setSent r c).cores = s.cores := (congrArg State.cores (setSent_eq s r c)).trans rfl
@[simp] theorem setSent_sources : (s.setSent r c).sources = s.sources := (congrArg State.sources (setSent_eq s r c)).trans rfl
@[simp] theorem setSent_timebase : (s.setSent r c).timebase = s.timebase := (congrArg State.timebase (setSent_eq s r c)).trans rfl
@[simp] theorem setSent_trigOuts : (s.setSent r c).trigOuts = s.trigOuts := (congrArg State.trigOuts (setSent_eq s r c)).trans rfl
@[simp] theorem setSent_queues : (s.setSent r c).queues = s.queues := (congrArg State.queues (setSent_eq s r c)).trans rfl
@[simp] theorem setSent_pantry : (s.setSent r c).pantry = s.pantry := (congrArg State.pantry (setSent_eq s r c)).trans rfl
@[simp] theorem setSent_streams : (s.setSent r c).streams = s.streams := (congrArg State.streams (setSent_eq s r c)).trans rfl
@[simp] theorem setSent_zones : (s.setSent r c).zones = s.zones := (congrArg State.zones (setSent_eq s r c)).trans rfl
@[simp] theorem setSent_loader : (s.setSent r c).loader = s.loader := (congrArg State.loader (setSent_eq s r c)).trans rfl
@[simp] theorem setSent_frames : (s.setSent r c).frames = s.frames := (congrArg State.frames (setSent_eq s r c)).trans rfl
@[simp] theorem setSent_loft : (s.setSent r c).loft = s.loft := (congrArg State.loft (setSent_eq s r c)).trans rfl
@[simp] theorem setSent_keys : (s.setSent r c).keys = s.keys := (congrArg State.keys (setSent_eq s r c)).trans rfl
@[simp] theorem setSent_scrub : (s.setSent r c).scrub = s.scrub := (congrArg State.scrub (setSent_eq s r c)).trans rfl
@[simp] theorem setSent_sessions : (s.setSent r c).sessions = s.sessions := (congrArg State.sessions (setSent_eq s r c)).trans rfl
@[simp] theorem setSent_links : (s.setSent r c).links = s.links := (congrArg State.links (setSent_eq s r c)).trans rfl
@[simp] theorem setSent_claims : (s.setSent r c).claims = s.claims := (congrArg State.claims (setSent_eq s r c)).trans rfl
@[simp] theorem setSent_cycle : (s.setSent r c).cycle = s.cycle := (congrArg State.cycle (setSent_eq s r c)).trans rfl
@[simp] theorem setSent_keyFailures : (s.setSent r c).keyFailures = s.keyFailures := (congrArg State.keyFailures (setSent_eq s r c)).trans rfl
@[simp] theorem setSent_keyLockouts : (s.setSent r c).keyLockouts = s.keyLockouts := (congrArg State.keyLockouts (setSent_eq s r c)).trans rfl
@[simp] theorem setSent_cellar : (s.setSent r c).cellar = s.cellar := (congrArg State.cellar (setSent_eq s r c)).trans rfl
@[simp] theorem setSent_cal : (s.setSent r c).cal = s.cal := (congrArg State.cal (setSent_eq s r c)).trans rfl
@[simp] theorem setSent_power : (s.setSent r c).power = s.power := (congrArg State.power (setSent_eq s r c)).trans rfl
@[simp] theorem setSent_log : (s.setSent r c).log = s.log := (congrArg State.log (setSent_eq s r c)).trans rfl
@[simp] theorem setSent_outbox : (s.setSent r c).outbox = s.outbox := (congrArg State.outbox (setSent_eq s r c)).trans rfl
@[simp] theorem setSent_fresh : (s.setSent r c).fresh = s.fresh := (congrArg State.fresh (setSent_eq s r c)).trans rfl
end
section
variable (s : State) (n : Nat) (c : Core)
theorem setCore_eq : (s.setCore n c) = { s with cores := (s.setCore n c).cores } := by unfold State.setCore; rfl
@[simp] theorem setCore_pending : (s.setCore n c).pending = s.pending := (congrArg State.pending (setCore_eq s n c)).trans rfl
@[simp] theorem setCore_now : (s.setCore n c).now = s.now := (congrArg State.now (setCore_eq s n c)).trans rfl
@[simp] theorem setCore_mode : (s.setCore n c).mode = s.mode := (congrArg State.mode (setCore_eq s n c)).trans rfl
@[simp] theorem setCore_objs : (s.setCore n c).objs = s.objs := (congrArg State.objs (setCore_eq s n c)).trans rfl
@[simp] theorem setCore_blobs : (s.setCore n c).blobs = s.blobs := (congrArg State.blobs (setCore_eq s n c)).trans rfl
@[simp] theorem setCore_mem : (s.setCore n c).mem = s.mem := (congrArg State.mem (setCore_eq s n c)).trans rfl
@[simp] theorem setCore_flips : (s.setCore n c).flips = s.flips := (congrArg State.flips (setCore_eq s n c)).trans rfl
@[simp] theorem setCore_ports : (s.setCore n c).ports = s.ports := (congrArg State.ports (setCore_eq s n c)).trans rfl
@[simp] theorem setCore_pins : (s.setCore n c).pins = s.pins := (congrArg State.pins (setCore_eq s n c)).trans rfl
@[simp] theorem setCore_convs : (s.setCore n c).convs = s.convs := (congrArg State.convs (setCore_eq s n c)).trans rfl
@[simp] theorem setCore_chains : (s.setCore n c).chains = s.chains := (congrArg State.chains (setCore_eq s n c)).trans rfl
@[simp] theorem setCore_map : (s.setCore n c).map = s.map := (congrArg State.map (setCore_eq s n c)).trans rfl
@[simp] theorem setCore_disp : (s.setCore n c).disp = s.disp := (congrArg State.disp (setCore_eq s n c)).trans rfl
@[simp] theorem setCore_sweeps : (s.setCore n c).sweeps = s.sweeps := (congrArg State.sweeps (setCore_eq s n c)).trans rfl
@[simp] theorem setCore_busSources : (s.setCore n c).busSources = s.busSources := (congrArg State.busSources (setCore_eq s n c)).trans rfl
@[simp] theorem setCore_cans : (s.setCore n c).cans = s.cans := (congrArg State.cans (setCore_eq s n c)).trans rfl
@[simp] theorem setCore_lins : (s.setCore n c).lins = s.lins := (congrArg State.lins (setCore_eq s n c)).trans rfl
@[simp] theorem setCore_sents : (s.setCore n c).sents = s.sents := (congrArg State.sents (setCore_eq s n c)).trans rfl
@[simp] theorem setCore_gov : (s.setCore n c).gov = s.gov := (congrArg State.gov (setCore_eq s n c)).trans rfl
@[simp] theorem setCore_sources : (s.setCore n c).sources = s.sources := (congrArg State.sources (setCore_eq s n c)).trans rfl
@[simp] theorem setCore_timebase : (s.setCore n c).timebase = s.timebase := (congrArg State.timebase (setCore_eq s n c)).trans rfl
@[simp] theorem setCore_trigOuts : (s.setCore n c).trigOuts = s.trigOuts := (congrArg State.trigOuts (setCore_eq s n c)).trans rfl
@[simp] theorem setCore_queues : (s.setCore n c).queues = s.queues := (congrArg State.queues (setCore_eq s n c)).trans rfl
@[simp] theorem setCore_pantry : (s.setCore n c).pantry = s.pantry := (congrArg State.pantry (setCore_eq s n c)).trans rfl
@[simp] theorem setCore_streams : (s.setCore n c).streams = s.streams := (congrArg State.streams (setCore_eq s n c)).trans rfl
@[simp] theorem setCore_zones : (s.setCore n c).zones = s.zones := (congrArg State.zones (setCore_eq s n c)).trans rfl
@[simp] theorem setCore_loader : (s.setCore n c).loader = s.loader := (congrArg State.loader (setCore_eq s n c)).trans rfl
@[simp] theorem setCore_frames : (s.setCore n c).frames = s.frames := (congrArg State.frames (setCore_eq s n c)).trans rfl
@[simp] theorem setCore_loft : (s.setCore n c).loft = s.loft := (congrArg State.loft (setCore_eq s n c)).trans rfl
@[simp] theorem setCore_keys : (s.setCore n c).keys = s.keys := (congrArg State.keys (setCore_eq s n c)).trans rfl
@[simp] theorem setCore_scrub : (s.setCore n c).scrub = s.scrub := (congrArg State.scrub (setCore_eq s n c)).trans rfl
@[simp] theorem setCore_sessions : (s.setCore n c).sessions = s.sessions := (congrArg State.sessions (setCore_eq s n c)).trans rfl
@[simp] theorem setCore_links : (s.setCore n c).links = s.links := (congrArg State.links (setCore_eq s n c)).trans rfl
@[simp] theorem setCore_claims : (s.setCore n c).claims = s.claims := (congrArg State.claims (setCore_eq s n c)).trans rfl
@[simp] theorem setCore_cycle : (s.setCore n c).cycle = s.cycle := (congrArg State.cycle (setCore_eq s n c)).trans rfl
@[simp] theorem setCore_keyFailures : (s.setCore n c).keyFailures = s.keyFailures := (congrArg State.keyFailures (setCore_eq s n c)).trans rfl
@[simp] theorem setCore_keyLockouts : (s.setCore n c).keyLockouts = s.keyLockouts := (congrArg State.keyLockouts (setCore_eq s n c)).trans rfl
@[simp] theorem setCore_cellar : (s.setCore n c).cellar = s.cellar := (congrArg State.cellar (setCore_eq s n c)).trans rfl
@[simp] theorem setCore_cal : (s.setCore n c).cal = s.cal := (congrArg State.cal (setCore_eq s n c)).trans rfl
@[simp] theorem setCore_power : (s.setCore n c).power = s.power := (congrArg State.power (setCore_eq s n c)).trans rfl
@[simp] theorem setCore_log : (s.setCore n c).log = s.log := (congrArg State.log (setCore_eq s n c)).trans rfl
@[simp] theorem setCore_outbox : (s.setCore n c).outbox = s.outbox := (congrArg State.outbox (setCore_eq s n c)).trans rfl
@[simp] theorem setCore_fresh : (s.setCore n c).fresh = s.fresh := (congrArg State.fresh (setCore_eq s n c)).trans rfl
end
section
variable (s : State) (n : Nat) (c : Source)
theorem setSource_eq : (s.setSource n c) = { s with sources := (s.setSource n c).sources } := by unfold State.setSource; rfl
@[simp] theorem setSource_pending : (s.setSource n c).pending = s.pending := (congrArg State.pending (setSource_eq s n c)).trans rfl
@[simp] theorem setSource_now : (s.setSource n c).now = s.now := (congrArg State.now (setSource_eq s n c)).trans rfl
@[simp] theorem setSource_mode : (s.setSource n c).mode = s.mode := (congrArg State.mode (setSource_eq s n c)).trans rfl
@[simp] theorem setSource_objs : (s.setSource n c).objs = s.objs := (congrArg State.objs (setSource_eq s n c)).trans rfl
@[simp] theorem setSource_blobs : (s.setSource n c).blobs = s.blobs := (congrArg State.blobs (setSource_eq s n c)).trans rfl
@[simp] theorem setSource_mem : (s.setSource n c).mem = s.mem := (congrArg State.mem (setSource_eq s n c)).trans rfl
@[simp] theorem setSource_flips : (s.setSource n c).flips = s.flips := (congrArg State.flips (setSource_eq s n c)).trans rfl
@[simp] theorem setSource_ports : (s.setSource n c).ports = s.ports := (congrArg State.ports (setSource_eq s n c)).trans rfl
@[simp] theorem setSource_pins : (s.setSource n c).pins = s.pins := (congrArg State.pins (setSource_eq s n c)).trans rfl
@[simp] theorem setSource_convs : (s.setSource n c).convs = s.convs := (congrArg State.convs (setSource_eq s n c)).trans rfl
@[simp] theorem setSource_chains : (s.setSource n c).chains = s.chains := (congrArg State.chains (setSource_eq s n c)).trans rfl
@[simp] theorem setSource_map : (s.setSource n c).map = s.map := (congrArg State.map (setSource_eq s n c)).trans rfl
@[simp] theorem setSource_disp : (s.setSource n c).disp = s.disp := (congrArg State.disp (setSource_eq s n c)).trans rfl
@[simp] theorem setSource_sweeps : (s.setSource n c).sweeps = s.sweeps := (congrArg State.sweeps (setSource_eq s n c)).trans rfl
@[simp] theorem setSource_busSources : (s.setSource n c).busSources = s.busSources := (congrArg State.busSources (setSource_eq s n c)).trans rfl
@[simp] theorem setSource_cans : (s.setSource n c).cans = s.cans := (congrArg State.cans (setSource_eq s n c)).trans rfl
@[simp] theorem setSource_lins : (s.setSource n c).lins = s.lins := (congrArg State.lins (setSource_eq s n c)).trans rfl
@[simp] theorem setSource_sents : (s.setSource n c).sents = s.sents := (congrArg State.sents (setSource_eq s n c)).trans rfl
@[simp] theorem setSource_gov : (s.setSource n c).gov = s.gov := (congrArg State.gov (setSource_eq s n c)).trans rfl
@[simp] theorem setSource_cores : (s.setSource n c).cores = s.cores := (congrArg State.cores (setSource_eq s n c)).trans rfl
@[simp] theorem setSource_timebase : (s.setSource n c).timebase = s.timebase := (congrArg State.timebase (setSource_eq s n c)).trans rfl
@[simp] theorem setSource_trigOuts : (s.setSource n c).trigOuts = s.trigOuts := (congrArg State.trigOuts (setSource_eq s n c)).trans rfl
@[simp] theorem setSource_queues : (s.setSource n c).queues = s.queues := (congrArg State.queues (setSource_eq s n c)).trans rfl
@[simp] theorem setSource_pantry : (s.setSource n c).pantry = s.pantry := (congrArg State.pantry (setSource_eq s n c)).trans rfl
@[simp] theorem setSource_streams : (s.setSource n c).streams = s.streams := (congrArg State.streams (setSource_eq s n c)).trans rfl
@[simp] theorem setSource_zones : (s.setSource n c).zones = s.zones := (congrArg State.zones (setSource_eq s n c)).trans rfl
@[simp] theorem setSource_loader : (s.setSource n c).loader = s.loader := (congrArg State.loader (setSource_eq s n c)).trans rfl
@[simp] theorem setSource_frames : (s.setSource n c).frames = s.frames := (congrArg State.frames (setSource_eq s n c)).trans rfl
@[simp] theorem setSource_loft : (s.setSource n c).loft = s.loft := (congrArg State.loft (setSource_eq s n c)).trans rfl
@[simp] theorem setSource_keys : (s.setSource n c).keys = s.keys := (congrArg State.keys (setSource_eq s n c)).trans rfl
@[simp] theorem setSource_scrub : (s.setSource n c).scrub = s.scrub := (congrArg State.scrub (setSource_eq s n c)).trans rfl
@[simp] theorem setSource_sessions : (s.setSource n c).sessions = s.sessions := (congrArg State.sessions (setSource_eq s n c)).trans rfl
@[simp] theorem setSource_links : (s.setSource n c).links = s.links := (congrArg State.links (setSource_eq s n c)).trans rfl
@[simp] theorem setSource_claims : (s.setSource n c).claims = s.claims := (congrArg State.claims (setSource_eq s n c)).trans rfl
@[simp] theorem setSource_cycle : (s.setSource n c).cycle = s.cycle := (congrArg State.cycle (setSource_eq s n c)).trans rfl
@[simp] theorem setSource_keyFailures : (s.setSource n c).keyFailures = s.keyFailures := (congrArg State.keyFailures (setSource_eq s n c)).trans rfl
@[simp] theorem setSource_keyLockouts : (s.setSource n c).keyLockouts = s.keyLockouts := (congrArg State.keyLockouts (setSource_eq s n c)).trans rfl
@[simp] theorem setSource_cellar : (s.setSource n c).cellar = s.cellar := (congrArg State.cellar (setSource_eq s n c)).trans rfl
@[simp] theorem setSource_cal : (s.setSource n c).cal = s.cal := (congrArg State.cal (setSource_eq s n c)).trans rfl
@[simp] theorem setSource_power : (s.setSource n c).power = s.power := (congrArg State.power (setSource_eq s n c)).trans rfl
@[simp] theorem setSource_log : (s.setSource n c).log = s.log := (congrArg State.log (setSource_eq s n c)).trans rfl
@[simp] theorem setSource_outbox : (s.setSource n c).outbox = s.outbox := (congrArg State.outbox (setSource_eq s n c)).trans rfl
@[simp] theorem setSource_fresh : (s.setSource n c).fresh = s.fresh := (congrArg State.fresh (setSource_eq s n c)).trans rfl
end
section
variable (s : State) (o : Nat) (c : TrigOut)
theorem setTrigOut_eq : (s.setTrigOut o c) = { s with trigOuts := (s.setTrigOut o c).trigOuts } := by unfold State.setTrigOut; rfl
@[simp] theorem setTrigOut_pending : (s.setTrigOut o c).pending = s.pending := (congrArg State.pending (setTrigOut_eq s o c)).trans rfl
@[simp] theorem setTrigOut_now : (s.setTrigOut o c).now = s.now := (congrArg State.now (setTrigOut_eq s o c)).trans rfl
@[simp] theorem setTrigOut_mode : (s.setTrigOut o c).mode = s.mode := (congrArg State.mode (setTrigOut_eq s o c)).trans rfl
@[simp] theorem setTrigOut_objs : (s.setTrigOut o c).objs = s.objs := (congrArg State.objs (setTrigOut_eq s o c)).trans rfl
@[simp] theorem setTrigOut_blobs : (s.setTrigOut o c).blobs = s.blobs := (congrArg State.blobs (setTrigOut_eq s o c)).trans rfl
@[simp] theorem setTrigOut_mem : (s.setTrigOut o c).mem = s.mem := (congrArg State.mem (setTrigOut_eq s o c)).trans rfl
@[simp] theorem setTrigOut_flips : (s.setTrigOut o c).flips = s.flips := (congrArg State.flips (setTrigOut_eq s o c)).trans rfl
@[simp] theorem setTrigOut_ports : (s.setTrigOut o c).ports = s.ports := (congrArg State.ports (setTrigOut_eq s o c)).trans rfl
@[simp] theorem setTrigOut_pins : (s.setTrigOut o c).pins = s.pins := (congrArg State.pins (setTrigOut_eq s o c)).trans rfl
@[simp] theorem setTrigOut_convs : (s.setTrigOut o c).convs = s.convs := (congrArg State.convs (setTrigOut_eq s o c)).trans rfl
@[simp] theorem setTrigOut_chains : (s.setTrigOut o c).chains = s.chains := (congrArg State.chains (setTrigOut_eq s o c)).trans rfl
@[simp] theorem setTrigOut_map : (s.setTrigOut o c).map = s.map := (congrArg State.map (setTrigOut_eq s o c)).trans rfl
@[simp] theorem setTrigOut_disp : (s.setTrigOut o c).disp = s.disp := (congrArg State.disp (setTrigOut_eq s o c)).trans rfl
@[simp] theorem setTrigOut_sweeps : (s.setTrigOut o c).sweeps = s.sweeps := (congrArg State.sweeps (setTrigOut_eq s o c)).trans rfl
@[simp] theorem setTrigOut_busSources : (s.setTrigOut o c).busSources = s.busSources := (congrArg State.busSources (setTrigOut_eq s o c)).trans rfl
@[simp] theorem setTrigOut_cans : (s.setTrigOut o c).cans = s.cans := (congrArg State.cans (setTrigOut_eq s o c)).trans rfl
@[simp] theorem setTrigOut_lins : (s.setTrigOut o c).lins = s.lins := (congrArg State.lins (setTrigOut_eq s o c)).trans rfl
@[simp] theorem setTrigOut_sents : (s.setTrigOut o c).sents = s.sents := (congrArg State.sents (setTrigOut_eq s o c)).trans rfl
@[simp] theorem setTrigOut_gov : (s.setTrigOut o c).gov = s.gov := (congrArg State.gov (setTrigOut_eq s o c)).trans rfl
@[simp] theorem setTrigOut_cores : (s.setTrigOut o c).cores = s.cores := (congrArg State.cores (setTrigOut_eq s o c)).trans rfl
@[simp] theorem setTrigOut_sources : (s.setTrigOut o c).sources = s.sources := (congrArg State.sources (setTrigOut_eq s o c)).trans rfl
@[simp] theorem setTrigOut_timebase : (s.setTrigOut o c).timebase = s.timebase := (congrArg State.timebase (setTrigOut_eq s o c)).trans rfl
@[simp] theorem setTrigOut_queues : (s.setTrigOut o c).queues = s.queues := (congrArg State.queues (setTrigOut_eq s o c)).trans rfl
@[simp] theorem setTrigOut_pantry : (s.setTrigOut o c).pantry = s.pantry := (congrArg State.pantry (setTrigOut_eq s o c)).trans rfl
@[simp] theorem setTrigOut_streams : (s.setTrigOut o c).streams = s.streams := (congrArg State.streams (setTrigOut_eq s o c)).trans rfl
@[simp] theorem setTrigOut_zones : (s.setTrigOut o c).zones = s.zones := (congrArg State.zones (setTrigOut_eq s o c)).trans rfl
@[simp] theorem setTrigOut_loader : (s.setTrigOut o c).loader = s.loader := (congrArg State.loader (setTrigOut_eq s o c)).trans rfl
@[simp] theorem setTrigOut_frames : (s.setTrigOut o c).frames = s.frames := (congrArg State.frames (setTrigOut_eq s o c)).trans rfl
@[simp] theorem setTrigOut_loft : (s.setTrigOut o c).loft = s.loft := (congrArg State.loft (setTrigOut_eq s o c)).trans rfl
@[simp] theorem setTrigOut_keys : (s.setTrigOut o c).keys = s.keys := (congrArg State.keys (setTrigOut_eq s o c)).trans rfl
@[simp] theorem setTrigOut_scrub : (s.setTrigOut o c).scrub = s.scrub := (congrArg State.scrub (setTrigOut_eq s o c)).trans rfl
@[simp] theorem setTrigOut_sessions : (s.setTrigOut o c).sessions = s.sessions := (congrArg State.sessions (setTrigOut_eq s o c)).trans rfl
@[simp] theorem setTrigOut_links : (s.setTrigOut o c).links = s.links := (congrArg State.links (setTrigOut_eq s o c)).trans rfl
@[simp] theorem setTrigOut_claims : (s.setTrigOut o c).claims = s.claims := (congrArg State.claims (setTrigOut_eq s o c)).trans rfl
@[simp] theorem setTrigOut_cycle : (s.setTrigOut o c).cycle = s.cycle := (congrArg State.cycle (setTrigOut_eq s o c)).trans rfl
@[simp] theorem setTrigOut_keyFailures : (s.setTrigOut o c).keyFailures = s.keyFailures := (congrArg State.keyFailures (setTrigOut_eq s o c)).trans rfl
@[simp] theorem setTrigOut_keyLockouts : (s.setTrigOut o c).keyLockouts = s.keyLockouts := (congrArg State.keyLockouts (setTrigOut_eq s o c)).trans rfl
@[simp] theorem setTrigOut_cellar : (s.setTrigOut o c).cellar = s.cellar := (congrArg State.cellar (setTrigOut_eq s o c)).trans rfl
@[simp] theorem setTrigOut_cal : (s.setTrigOut o c).cal = s.cal := (congrArg State.cal (setTrigOut_eq s o c)).trans rfl
@[simp] theorem setTrigOut_power : (s.setTrigOut o c).power = s.power := (congrArg State.power (setTrigOut_eq s o c)).trans rfl
@[simp] theorem setTrigOut_log : (s.setTrigOut o c).log = s.log := (congrArg State.log (setTrigOut_eq s o c)).trans rfl
@[simp] theorem setTrigOut_outbox : (s.setTrigOut o c).outbox = s.outbox := (congrArg State.outbox (setTrigOut_eq s o c)).trans rfl
@[simp] theorem setTrigOut_fresh : (s.setTrigOut o c).fresh = s.fresh := (congrArg State.fresh (setTrigOut_eq s o c)).trans rfl
end
section
variable (s : State) (q : Nat) (c : Option Queue)
theorem setQueue_eq : (s.setQueue q c) = { s with queues := (s.setQueue q c).queues } := by unfold State.setQueue; rfl
@[simp] theorem setQueue_pending : (s.setQueue q c).pending = s.pending := (congrArg State.pending (setQueue_eq s q c)).trans rfl
@[simp] theorem setQueue_now : (s.setQueue q c).now = s.now := (congrArg State.now (setQueue_eq s q c)).trans rfl
@[simp] theorem setQueue_mode : (s.setQueue q c).mode = s.mode := (congrArg State.mode (setQueue_eq s q c)).trans rfl
@[simp] theorem setQueue_objs : (s.setQueue q c).objs = s.objs := (congrArg State.objs (setQueue_eq s q c)).trans rfl
@[simp] theorem setQueue_blobs : (s.setQueue q c).blobs = s.blobs := (congrArg State.blobs (setQueue_eq s q c)).trans rfl
@[simp] theorem setQueue_mem : (s.setQueue q c).mem = s.mem := (congrArg State.mem (setQueue_eq s q c)).trans rfl
@[simp] theorem setQueue_flips : (s.setQueue q c).flips = s.flips := (congrArg State.flips (setQueue_eq s q c)).trans rfl
@[simp] theorem setQueue_ports : (s.setQueue q c).ports = s.ports := (congrArg State.ports (setQueue_eq s q c)).trans rfl
@[simp] theorem setQueue_pins : (s.setQueue q c).pins = s.pins := (congrArg State.pins (setQueue_eq s q c)).trans rfl
@[simp] theorem setQueue_convs : (s.setQueue q c).convs = s.convs := (congrArg State.convs (setQueue_eq s q c)).trans rfl
@[simp] theorem setQueue_chains : (s.setQueue q c).chains = s.chains := (congrArg State.chains (setQueue_eq s q c)).trans rfl
@[simp] theorem setQueue_map : (s.setQueue q c).map = s.map := (congrArg State.map (setQueue_eq s q c)).trans rfl
@[simp] theorem setQueue_disp : (s.setQueue q c).disp = s.disp := (congrArg State.disp (setQueue_eq s q c)).trans rfl
@[simp] theorem setQueue_sweeps : (s.setQueue q c).sweeps = s.sweeps := (congrArg State.sweeps (setQueue_eq s q c)).trans rfl
@[simp] theorem setQueue_busSources : (s.setQueue q c).busSources = s.busSources := (congrArg State.busSources (setQueue_eq s q c)).trans rfl
@[simp] theorem setQueue_cans : (s.setQueue q c).cans = s.cans := (congrArg State.cans (setQueue_eq s q c)).trans rfl
@[simp] theorem setQueue_lins : (s.setQueue q c).lins = s.lins := (congrArg State.lins (setQueue_eq s q c)).trans rfl
@[simp] theorem setQueue_sents : (s.setQueue q c).sents = s.sents := (congrArg State.sents (setQueue_eq s q c)).trans rfl
@[simp] theorem setQueue_gov : (s.setQueue q c).gov = s.gov := (congrArg State.gov (setQueue_eq s q c)).trans rfl
@[simp] theorem setQueue_cores : (s.setQueue q c).cores = s.cores := (congrArg State.cores (setQueue_eq s q c)).trans rfl
@[simp] theorem setQueue_sources : (s.setQueue q c).sources = s.sources := (congrArg State.sources (setQueue_eq s q c)).trans rfl
@[simp] theorem setQueue_timebase : (s.setQueue q c).timebase = s.timebase := (congrArg State.timebase (setQueue_eq s q c)).trans rfl
@[simp] theorem setQueue_trigOuts : (s.setQueue q c).trigOuts = s.trigOuts := (congrArg State.trigOuts (setQueue_eq s q c)).trans rfl
@[simp] theorem setQueue_pantry : (s.setQueue q c).pantry = s.pantry := (congrArg State.pantry (setQueue_eq s q c)).trans rfl
@[simp] theorem setQueue_streams : (s.setQueue q c).streams = s.streams := (congrArg State.streams (setQueue_eq s q c)).trans rfl
@[simp] theorem setQueue_zones : (s.setQueue q c).zones = s.zones := (congrArg State.zones (setQueue_eq s q c)).trans rfl
@[simp] theorem setQueue_loader : (s.setQueue q c).loader = s.loader := (congrArg State.loader (setQueue_eq s q c)).trans rfl
@[simp] theorem setQueue_frames : (s.setQueue q c).frames = s.frames := (congrArg State.frames (setQueue_eq s q c)).trans rfl
@[simp] theorem setQueue_loft : (s.setQueue q c).loft = s.loft := (congrArg State.loft (setQueue_eq s q c)).trans rfl
@[simp] theorem setQueue_keys : (s.setQueue q c).keys = s.keys := (congrArg State.keys (setQueue_eq s q c)).trans rfl
@[simp] theorem setQueue_scrub : (s.setQueue q c).scrub = s.scrub := (congrArg State.scrub (setQueue_eq s q c)).trans rfl
@[simp] theorem setQueue_sessions : (s.setQueue q c).sessions = s.sessions := (congrArg State.sessions (setQueue_eq s q c)).trans rfl
@[simp] theorem setQueue_links : (s.setQueue q c).links = s.links := (congrArg State.links (setQueue_eq s q c)).trans rfl
@[simp] theorem setQueue_claims : (s.setQueue q c).claims = s.claims := (congrArg State.claims (setQueue_eq s q c)).trans rfl
@[simp] theorem setQueue_cycle : (s.setQueue q c).cycle = s.cycle := (congrArg State.cycle (setQueue_eq s q c)).trans rfl
@[simp] theorem setQueue_keyFailures : (s.setQueue q c).keyFailures = s.keyFailures := (congrArg State.keyFailures (setQueue_eq s q c)).trans rfl
@[simp] theorem setQueue_keyLockouts : (s.setQueue q c).keyLockouts = s.keyLockouts := (congrArg State.keyLockouts (setQueue_eq s q c)).trans rfl
@[simp] theorem setQueue_cellar : (s.setQueue q c).cellar = s.cellar := (congrArg State.cellar (setQueue_eq s q c)).trans rfl
@[simp] theorem setQueue_cal : (s.setQueue q c).cal = s.cal := (congrArg State.cal (setQueue_eq s q c)).trans rfl
@[simp] theorem setQueue_power : (s.setQueue q c).power = s.power := (congrArg State.power (setQueue_eq s q c)).trans rfl
@[simp] theorem setQueue_log : (s.setQueue q c).log = s.log := (congrArg State.log (setQueue_eq s q c)).trans rfl
@[simp] theorem setQueue_outbox : (s.setQueue q c).outbox = s.outbox := (congrArg State.outbox (setQueue_eq s q c)).trans rfl
@[simp] theorem setQueue_fresh : (s.setQueue q c).fresh = s.fresh := (congrArg State.fresh (setQueue_eq s q c)).trans rfl
end
section
variable (s : State) (n k : Nat) (c : Option Stream)
theorem setStream_eq : (s.setStream n k c) = { s with streams := (s.setStream n k c).streams } := by unfold State.setStream; rfl
@[simp] theorem setStream_pending : (s.setStream n k c).pending = s.pending := (congrArg State.pending (setStream_eq s n k c)).trans rfl
@[simp] theorem setStream_now : (s.setStream n k c).now = s.now := (congrArg State.now (setStream_eq s n k c)).trans rfl
@[simp] theorem setStream_mode : (s.setStream n k c).mode = s.mode := (congrArg State.mode (setStream_eq s n k c)).trans rfl
@[simp] theorem setStream_objs : (s.setStream n k c).objs = s.objs := (congrArg State.objs (setStream_eq s n k c)).trans rfl
@[simp] theorem setStream_blobs : (s.setStream n k c).blobs = s.blobs := (congrArg State.blobs (setStream_eq s n k c)).trans rfl
@[simp] theorem setStream_mem : (s.setStream n k c).mem = s.mem := (congrArg State.mem (setStream_eq s n k c)).trans rfl
@[simp] theorem setStream_flips : (s.setStream n k c).flips = s.flips := (congrArg State.flips (setStream_eq s n k c)).trans rfl
@[simp] theorem setStream_ports : (s.setStream n k c).ports = s.ports := (congrArg State.ports (setStream_eq s n k c)).trans rfl
@[simp] theorem setStream_pins : (s.setStream n k c).pins = s.pins := (congrArg State.pins (setStream_eq s n k c)).trans rfl
@[simp] theorem setStream_convs : (s.setStream n k c).convs = s.convs := (congrArg State.convs (setStream_eq s n k c)).trans rfl
@[simp] theorem setStream_chains : (s.setStream n k c).chains = s.chains := (congrArg State.chains (setStream_eq s n k c)).trans rfl
@[simp] theorem setStream_map : (s.setStream n k c).map = s.map := (congrArg State.map (setStream_eq s n k c)).trans rfl
@[simp] theorem setStream_disp : (s.setStream n k c).disp = s.disp := (congrArg State.disp (setStream_eq s n k c)).trans rfl
@[simp] theorem setStream_sweeps : (s.setStream n k c).sweeps = s.sweeps := (congrArg State.sweeps (setStream_eq s n k c)).trans rfl
@[simp] theorem setStream_busSources : (s.setStream n k c).busSources = s.busSources := (congrArg State.busSources (setStream_eq s n k c)).trans rfl
@[simp] theorem setStream_cans : (s.setStream n k c).cans = s.cans := (congrArg State.cans (setStream_eq s n k c)).trans rfl
@[simp] theorem setStream_lins : (s.setStream n k c).lins = s.lins := (congrArg State.lins (setStream_eq s n k c)).trans rfl
@[simp] theorem setStream_sents : (s.setStream n k c).sents = s.sents := (congrArg State.sents (setStream_eq s n k c)).trans rfl
@[simp] theorem setStream_gov : (s.setStream n k c).gov = s.gov := (congrArg State.gov (setStream_eq s n k c)).trans rfl
@[simp] theorem setStream_cores : (s.setStream n k c).cores = s.cores := (congrArg State.cores (setStream_eq s n k c)).trans rfl
@[simp] theorem setStream_sources : (s.setStream n k c).sources = s.sources := (congrArg State.sources (setStream_eq s n k c)).trans rfl
@[simp] theorem setStream_timebase : (s.setStream n k c).timebase = s.timebase := (congrArg State.timebase (setStream_eq s n k c)).trans rfl
@[simp] theorem setStream_trigOuts : (s.setStream n k c).trigOuts = s.trigOuts := (congrArg State.trigOuts (setStream_eq s n k c)).trans rfl
@[simp] theorem setStream_queues : (s.setStream n k c).queues = s.queues := (congrArg State.queues (setStream_eq s n k c)).trans rfl
@[simp] theorem setStream_pantry : (s.setStream n k c).pantry = s.pantry := (congrArg State.pantry (setStream_eq s n k c)).trans rfl
@[simp] theorem setStream_zones : (s.setStream n k c).zones = s.zones := (congrArg State.zones (setStream_eq s n k c)).trans rfl
@[simp] theorem setStream_loader : (s.setStream n k c).loader = s.loader := (congrArg State.loader (setStream_eq s n k c)).trans rfl
@[simp] theorem setStream_frames : (s.setStream n k c).frames = s.frames := (congrArg State.frames (setStream_eq s n k c)).trans rfl
@[simp] theorem setStream_loft : (s.setStream n k c).loft = s.loft := (congrArg State.loft (setStream_eq s n k c)).trans rfl
@[simp] theorem setStream_keys : (s.setStream n k c).keys = s.keys := (congrArg State.keys (setStream_eq s n k c)).trans rfl
@[simp] theorem setStream_scrub : (s.setStream n k c).scrub = s.scrub := (congrArg State.scrub (setStream_eq s n k c)).trans rfl
@[simp] theorem setStream_sessions : (s.setStream n k c).sessions = s.sessions := (congrArg State.sessions (setStream_eq s n k c)).trans rfl
@[simp] theorem setStream_links : (s.setStream n k c).links = s.links := (congrArg State.links (setStream_eq s n k c)).trans rfl
@[simp] theorem setStream_claims : (s.setStream n k c).claims = s.claims := (congrArg State.claims (setStream_eq s n k c)).trans rfl
@[simp] theorem setStream_cycle : (s.setStream n k c).cycle = s.cycle := (congrArg State.cycle (setStream_eq s n k c)).trans rfl
@[simp] theorem setStream_keyFailures : (s.setStream n k c).keyFailures = s.keyFailures := (congrArg State.keyFailures (setStream_eq s n k c)).trans rfl
@[simp] theorem setStream_keyLockouts : (s.setStream n k c).keyLockouts = s.keyLockouts := (congrArg State.keyLockouts (setStream_eq s n k c)).trans rfl
@[simp] theorem setStream_cellar : (s.setStream n k c).cellar = s.cellar := (congrArg State.cellar (setStream_eq s n k c)).trans rfl
@[simp] theorem setStream_cal : (s.setStream n k c).cal = s.cal := (congrArg State.cal (setStream_eq s n k c)).trans rfl
@[simp] theorem setStream_power : (s.setStream n k c).power = s.power := (congrArg State.power (setStream_eq s n k c)).trans rfl
@[simp] theorem setStream_log : (s.setStream n k c).log = s.log := (congrArg State.log (setStream_eq s n k c)).trans rfl
@[simp] theorem setStream_outbox : (s.setStream n k c).outbox = s.outbox := (congrArg State.outbox (setStream_eq s n k c)).trans rfl
@[simp] theorem setStream_fresh : (s.setStream n k c).fresh = s.fresh := (congrArg State.fresh (setStream_eq s n k c)).trans rfl
end
section
variable (s : State) (z : Nat) (c : Zone)
theorem setZone_eq : (s.setZone z c) = { s with zones := (s.setZone z c).zones } := by unfold State.setZone; rfl
@[simp] theorem setZone_pending : (s.setZone z c).pending = s.pending := (congrArg State.pending (setZone_eq s z c)).trans rfl
@[simp] theorem setZone_now : (s.setZone z c).now = s.now := (congrArg State.now (setZone_eq s z c)).trans rfl
@[simp] theorem setZone_mode : (s.setZone z c).mode = s.mode := (congrArg State.mode (setZone_eq s z c)).trans rfl
@[simp] theorem setZone_objs : (s.setZone z c).objs = s.objs := (congrArg State.objs (setZone_eq s z c)).trans rfl
@[simp] theorem setZone_blobs : (s.setZone z c).blobs = s.blobs := (congrArg State.blobs (setZone_eq s z c)).trans rfl
@[simp] theorem setZone_mem : (s.setZone z c).mem = s.mem := (congrArg State.mem (setZone_eq s z c)).trans rfl
@[simp] theorem setZone_flips : (s.setZone z c).flips = s.flips := (congrArg State.flips (setZone_eq s z c)).trans rfl
@[simp] theorem setZone_ports : (s.setZone z c).ports = s.ports := (congrArg State.ports (setZone_eq s z c)).trans rfl
@[simp] theorem setZone_pins : (s.setZone z c).pins = s.pins := (congrArg State.pins (setZone_eq s z c)).trans rfl
@[simp] theorem setZone_convs : (s.setZone z c).convs = s.convs := (congrArg State.convs (setZone_eq s z c)).trans rfl
@[simp] theorem setZone_chains : (s.setZone z c).chains = s.chains := (congrArg State.chains (setZone_eq s z c)).trans rfl
@[simp] theorem setZone_map : (s.setZone z c).map = s.map := (congrArg State.map (setZone_eq s z c)).trans rfl
@[simp] theorem setZone_disp : (s.setZone z c).disp = s.disp := (congrArg State.disp (setZone_eq s z c)).trans rfl
@[simp] theorem setZone_sweeps : (s.setZone z c).sweeps = s.sweeps := (congrArg State.sweeps (setZone_eq s z c)).trans rfl
@[simp] theorem setZone_busSources : (s.setZone z c).busSources = s.busSources := (congrArg State.busSources (setZone_eq s z c)).trans rfl
@[simp] theorem setZone_cans : (s.setZone z c).cans = s.cans := (congrArg State.cans (setZone_eq s z c)).trans rfl
@[simp] theorem setZone_lins : (s.setZone z c).lins = s.lins := (congrArg State.lins (setZone_eq s z c)).trans rfl
@[simp] theorem setZone_sents : (s.setZone z c).sents = s.sents := (congrArg State.sents (setZone_eq s z c)).trans rfl
@[simp] theorem setZone_gov : (s.setZone z c).gov = s.gov := (congrArg State.gov (setZone_eq s z c)).trans rfl
@[simp] theorem setZone_cores : (s.setZone z c).cores = s.cores := (congrArg State.cores (setZone_eq s z c)).trans rfl
@[simp] theorem setZone_sources : (s.setZone z c).sources = s.sources := (congrArg State.sources (setZone_eq s z c)).trans rfl
@[simp] theorem setZone_timebase : (s.setZone z c).timebase = s.timebase := (congrArg State.timebase (setZone_eq s z c)).trans rfl
@[simp] theorem setZone_trigOuts : (s.setZone z c).trigOuts = s.trigOuts := (congrArg State.trigOuts (setZone_eq s z c)).trans rfl
@[simp] theorem setZone_queues : (s.setZone z c).queues = s.queues := (congrArg State.queues (setZone_eq s z c)).trans rfl
@[simp] theorem setZone_pantry : (s.setZone z c).pantry = s.pantry := (congrArg State.pantry (setZone_eq s z c)).trans rfl
@[simp] theorem setZone_streams : (s.setZone z c).streams = s.streams := (congrArg State.streams (setZone_eq s z c)).trans rfl
@[simp] theorem setZone_loader : (s.setZone z c).loader = s.loader := (congrArg State.loader (setZone_eq s z c)).trans rfl
@[simp] theorem setZone_frames : (s.setZone z c).frames = s.frames := (congrArg State.frames (setZone_eq s z c)).trans rfl
@[simp] theorem setZone_loft : (s.setZone z c).loft = s.loft := (congrArg State.loft (setZone_eq s z c)).trans rfl
@[simp] theorem setZone_keys : (s.setZone z c).keys = s.keys := (congrArg State.keys (setZone_eq s z c)).trans rfl
@[simp] theorem setZone_scrub : (s.setZone z c).scrub = s.scrub := (congrArg State.scrub (setZone_eq s z c)).trans rfl
@[simp] theorem setZone_sessions : (s.setZone z c).sessions = s.sessions := (congrArg State.sessions (setZone_eq s z c)).trans rfl
@[simp] theorem setZone_links : (s.setZone z c).links = s.links := (congrArg State.links (setZone_eq s z c)).trans rfl
@[simp] theorem setZone_claims : (s.setZone z c).claims = s.claims := (congrArg State.claims (setZone_eq s z c)).trans rfl
@[simp] theorem setZone_cycle : (s.setZone z c).cycle = s.cycle := (congrArg State.cycle (setZone_eq s z c)).trans rfl
@[simp] theorem setZone_keyFailures : (s.setZone z c).keyFailures = s.keyFailures := (congrArg State.keyFailures (setZone_eq s z c)).trans rfl
@[simp] theorem setZone_keyLockouts : (s.setZone z c).keyLockouts = s.keyLockouts := (congrArg State.keyLockouts (setZone_eq s z c)).trans rfl
@[simp] theorem setZone_cellar : (s.setZone z c).cellar = s.cellar := (congrArg State.cellar (setZone_eq s z c)).trans rfl
@[simp] theorem setZone_cal : (s.setZone z c).cal = s.cal := (congrArg State.cal (setZone_eq s z c)).trans rfl
@[simp] theorem setZone_power : (s.setZone z c).power = s.power := (congrArg State.power (setZone_eq s z c)).trans rfl
@[simp] theorem setZone_log : (s.setZone z c).log = s.log := (congrArg State.log (setZone_eq s z c)).trans rfl
@[simp] theorem setZone_outbox : (s.setZone z c).outbox = s.outbox := (congrArg State.outbox (setZone_eq s z c)).trans rfl
@[simp] theorem setZone_fresh : (s.setZone z c).fresh = s.fresh := (congrArg State.fresh (setZone_eq s z c)).trans rfl
end
section
variable (s : State) (n : Nat) (c : Session)
theorem setSession_eq : (s.setSession n c) = { s with sessions := (s.setSession n c).sessions } := by unfold State.setSession; rfl
@[simp] theorem setSession_pending : (s.setSession n c).pending = s.pending := (congrArg State.pending (setSession_eq s n c)).trans rfl
@[simp] theorem setSession_now : (s.setSession n c).now = s.now := (congrArg State.now (setSession_eq s n c)).trans rfl
@[simp] theorem setSession_mode : (s.setSession n c).mode = s.mode := (congrArg State.mode (setSession_eq s n c)).trans rfl
@[simp] theorem setSession_objs : (s.setSession n c).objs = s.objs := (congrArg State.objs (setSession_eq s n c)).trans rfl
@[simp] theorem setSession_blobs : (s.setSession n c).blobs = s.blobs := (congrArg State.blobs (setSession_eq s n c)).trans rfl
@[simp] theorem setSession_mem : (s.setSession n c).mem = s.mem := (congrArg State.mem (setSession_eq s n c)).trans rfl
@[simp] theorem setSession_flips : (s.setSession n c).flips = s.flips := (congrArg State.flips (setSession_eq s n c)).trans rfl
@[simp] theorem setSession_ports : (s.setSession n c).ports = s.ports := (congrArg State.ports (setSession_eq s n c)).trans rfl
@[simp] theorem setSession_pins : (s.setSession n c).pins = s.pins := (congrArg State.pins (setSession_eq s n c)).trans rfl
@[simp] theorem setSession_convs : (s.setSession n c).convs = s.convs := (congrArg State.convs (setSession_eq s n c)).trans rfl
@[simp] theorem setSession_chains : (s.setSession n c).chains = s.chains := (congrArg State.chains (setSession_eq s n c)).trans rfl
@[simp] theorem setSession_map : (s.setSession n c).map = s.map := (congrArg State.map (setSession_eq s n c)).trans rfl
@[simp] theorem setSession_disp : (s.setSession n c).disp = s.disp := (congrArg State.disp (setSession_eq s n c)).trans rfl
@[simp] theorem setSession_sweeps : (s.setSession n c).sweeps = s.sweeps := (congrArg State.sweeps (setSession_eq s n c)).trans rfl
@[simp] theorem setSession_busSources : (s.setSession n c).busSources = s.busSources := (congrArg State.busSources (setSession_eq s n c)).trans rfl
@[simp] theorem setSession_cans : (s.setSession n c).cans = s.cans := (congrArg State.cans (setSession_eq s n c)).trans rfl
@[simp] theorem setSession_lins : (s.setSession n c).lins = s.lins := (congrArg State.lins (setSession_eq s n c)).trans rfl
@[simp] theorem setSession_sents : (s.setSession n c).sents = s.sents := (congrArg State.sents (setSession_eq s n c)).trans rfl
@[simp] theorem setSession_gov : (s.setSession n c).gov = s.gov := (congrArg State.gov (setSession_eq s n c)).trans rfl
@[simp] theorem setSession_cores : (s.setSession n c).cores = s.cores := (congrArg State.cores (setSession_eq s n c)).trans rfl
@[simp] theorem setSession_sources : (s.setSession n c).sources = s.sources := (congrArg State.sources (setSession_eq s n c)).trans rfl
@[simp] theorem setSession_timebase : (s.setSession n c).timebase = s.timebase := (congrArg State.timebase (setSession_eq s n c)).trans rfl
@[simp] theorem setSession_trigOuts : (s.setSession n c).trigOuts = s.trigOuts := (congrArg State.trigOuts (setSession_eq s n c)).trans rfl
@[simp] theorem setSession_queues : (s.setSession n c).queues = s.queues := (congrArg State.queues (setSession_eq s n c)).trans rfl
@[simp] theorem setSession_pantry : (s.setSession n c).pantry = s.pantry := (congrArg State.pantry (setSession_eq s n c)).trans rfl
@[simp] theorem setSession_streams : (s.setSession n c).streams = s.streams := (congrArg State.streams (setSession_eq s n c)).trans rfl
@[simp] theorem setSession_zones : (s.setSession n c).zones = s.zones := (congrArg State.zones (setSession_eq s n c)).trans rfl
@[simp] theorem setSession_loader : (s.setSession n c).loader = s.loader := (congrArg State.loader (setSession_eq s n c)).trans rfl
@[simp] theorem setSession_frames : (s.setSession n c).frames = s.frames := (congrArg State.frames (setSession_eq s n c)).trans rfl
@[simp] theorem setSession_loft : (s.setSession n c).loft = s.loft := (congrArg State.loft (setSession_eq s n c)).trans rfl
@[simp] theorem setSession_keys : (s.setSession n c).keys = s.keys := (congrArg State.keys (setSession_eq s n c)).trans rfl
@[simp] theorem setSession_scrub : (s.setSession n c).scrub = s.scrub := (congrArg State.scrub (setSession_eq s n c)).trans rfl
@[simp] theorem setSession_links : (s.setSession n c).links = s.links := (congrArg State.links (setSession_eq s n c)).trans rfl
@[simp] theorem setSession_claims : (s.setSession n c).claims = s.claims := (congrArg State.claims (setSession_eq s n c)).trans rfl
@[simp] theorem setSession_cycle : (s.setSession n c).cycle = s.cycle := (congrArg State.cycle (setSession_eq s n c)).trans rfl
@[simp] theorem setSession_keyFailures : (s.setSession n c).keyFailures = s.keyFailures := (congrArg State.keyFailures (setSession_eq s n c)).trans rfl
@[simp] theorem setSession_keyLockouts : (s.setSession n c).keyLockouts = s.keyLockouts := (congrArg State.keyLockouts (setSession_eq s n c)).trans rfl
@[simp] theorem setSession_cellar : (s.setSession n c).cellar = s.cellar := (congrArg State.cellar (setSession_eq s n c)).trans rfl
@[simp] theorem setSession_cal : (s.setSession n c).cal = s.cal := (congrArg State.cal (setSession_eq s n c)).trans rfl
@[simp] theorem setSession_power : (s.setSession n c).power = s.power := (congrArg State.power (setSession_eq s n c)).trans rfl
@[simp] theorem setSession_log : (s.setSession n c).log = s.log := (congrArg State.log (setSession_eq s n c)).trans rfl
@[simp] theorem setSession_outbox : (s.setSession n c).outbox = s.outbox := (congrArg State.outbox (setSession_eq s n c)).trans rfl
@[simp] theorem setSession_fresh : (s.setSession n c).fresh = s.fresh := (congrArg State.fresh (setSession_eq s n c)).trans rfl
end
section
variable (s : State) (k : Nat) (r : StepRec)
theorem setStep_eq : (s.setStep k r) = { s with disp := (s.setStep k r).disp } := by unfold State.setStep; rfl
@[simp] theorem setStep_pending : (s.setStep k r).pending = s.pending := (congrArg State.pending (setStep_eq s k r)).trans rfl
@[simp] theorem setStep_now : (s.setStep k r).now = s.now := (congrArg State.now (setStep_eq s k r)).trans rfl
@[simp] theorem setStep_mode : (s.setStep k r).mode = s.mode := (congrArg State.mode (setStep_eq s k r)).trans rfl
@[simp] theorem setStep_objs : (s.setStep k r).objs = s.objs := (congrArg State.objs (setStep_eq s k r)).trans rfl
@[simp] theorem setStep_blobs : (s.setStep k r).blobs = s.blobs := (congrArg State.blobs (setStep_eq s k r)).trans rfl
@[simp] theorem setStep_mem : (s.setStep k r).mem = s.mem := (congrArg State.mem (setStep_eq s k r)).trans rfl
@[simp] theorem setStep_flips : (s.setStep k r).flips = s.flips := (congrArg State.flips (setStep_eq s k r)).trans rfl
@[simp] theorem setStep_ports : (s.setStep k r).ports = s.ports := (congrArg State.ports (setStep_eq s k r)).trans rfl
@[simp] theorem setStep_pins : (s.setStep k r).pins = s.pins := (congrArg State.pins (setStep_eq s k r)).trans rfl
@[simp] theorem setStep_convs : (s.setStep k r).convs = s.convs := (congrArg State.convs (setStep_eq s k r)).trans rfl
@[simp] theorem setStep_chains : (s.setStep k r).chains = s.chains := (congrArg State.chains (setStep_eq s k r)).trans rfl
@[simp] theorem setStep_map : (s.setStep k r).map = s.map := (congrArg State.map (setStep_eq s k r)).trans rfl
@[simp] theorem setStep_sweeps : (s.setStep k r).sweeps = s.sweeps := (congrArg State.sweeps (setStep_eq s k r)).trans rfl
@[simp] theorem setStep_busSources : (s.setStep k r).busSources = s.busSources := (congrArg State.busSources (setStep_eq s k r)).trans rfl
@[simp] theorem setStep_cans : (s.setStep k r).cans = s.cans := (congrArg State.cans (setStep_eq s k r)).trans rfl
@[simp] theorem setStep_lins : (s.setStep k r).lins = s.lins := (congrArg State.lins (setStep_eq s k r)).trans rfl
@[simp] theorem setStep_sents : (s.setStep k r).sents = s.sents := (congrArg State.sents (setStep_eq s k r)).trans rfl
@[simp] theorem setStep_gov : (s.setStep k r).gov = s.gov := (congrArg State.gov (setStep_eq s k r)).trans rfl
@[simp] theorem setStep_cores : (s.setStep k r).cores = s.cores := (congrArg State.cores (setStep_eq s k r)).trans rfl
@[simp] theorem setStep_sources : (s.setStep k r).sources = s.sources := (congrArg State.sources (setStep_eq s k r)).trans rfl
@[simp] theorem setStep_timebase : (s.setStep k r).timebase = s.timebase := (congrArg State.timebase (setStep_eq s k r)).trans rfl
@[simp] theorem setStep_trigOuts : (s.setStep k r).trigOuts = s.trigOuts := (congrArg State.trigOuts (setStep_eq s k r)).trans rfl
@[simp] theorem setStep_queues : (s.setStep k r).queues = s.queues := (congrArg State.queues (setStep_eq s k r)).trans rfl
@[simp] theorem setStep_pantry : (s.setStep k r).pantry = s.pantry := (congrArg State.pantry (setStep_eq s k r)).trans rfl
@[simp] theorem setStep_streams : (s.setStep k r).streams = s.streams := (congrArg State.streams (setStep_eq s k r)).trans rfl
@[simp] theorem setStep_zones : (s.setStep k r).zones = s.zones := (congrArg State.zones (setStep_eq s k r)).trans rfl
@[simp] theorem setStep_loader : (s.setStep k r).loader = s.loader := (congrArg State.loader (setStep_eq s k r)).trans rfl
@[simp] theorem setStep_frames : (s.setStep k r).frames = s.frames := (congrArg State.frames (setStep_eq s k r)).trans rfl
@[simp] theorem setStep_loft : (s.setStep k r).loft = s.loft := (congrArg State.loft (setStep_eq s k r)).trans rfl
@[simp] theorem setStep_keys : (s.setStep k r).keys = s.keys := (congrArg State.keys (setStep_eq s k r)).trans rfl
@[simp] theorem setStep_scrub : (s.setStep k r).scrub = s.scrub := (congrArg State.scrub (setStep_eq s k r)).trans rfl
@[simp] theorem setStep_sessions : (s.setStep k r).sessions = s.sessions := (congrArg State.sessions (setStep_eq s k r)).trans rfl
@[simp] theorem setStep_links : (s.setStep k r).links = s.links := (congrArg State.links (setStep_eq s k r)).trans rfl
@[simp] theorem setStep_claims : (s.setStep k r).claims = s.claims := (congrArg State.claims (setStep_eq s k r)).trans rfl
@[simp] theorem setStep_cycle : (s.setStep k r).cycle = s.cycle := (congrArg State.cycle (setStep_eq s k r)).trans rfl
@[simp] theorem setStep_keyFailures : (s.setStep k r).keyFailures = s.keyFailures := (congrArg State.keyFailures (setStep_eq s k r)).trans rfl
@[simp] theorem setStep_keyLockouts : (s.setStep k r).keyLockouts = s.keyLockouts := (congrArg State.keyLockouts (setStep_eq s k r)).trans rfl
@[simp] theorem setStep_cellar : (s.setStep k r).cellar = s.cellar := (congrArg State.cellar (setStep_eq s k r)).trans rfl
@[simp] theorem setStep_cal : (s.setStep k r).cal = s.cal := (congrArg State.cal (setStep_eq s k r)).trans rfl
@[simp] theorem setStep_power : (s.setStep k r).power = s.power := (congrArg State.power (setStep_eq s k r)).trans rfl
@[simp] theorem setStep_log : (s.setStep k r).log = s.log := (congrArg State.log (setStep_eq s k r)).trans rfl
@[simp] theorem setStep_outbox : (s.setStep k r).outbox = s.outbox := (congrArg State.outbox (setStep_eq s k r)).trans rfl
@[simp] theorem setStep_fresh : (s.setStep k r).fresh = s.fresh := (congrArg State.fresh (setStep_eq s k r)).trans rfl
end
section
variable (s : State) (d : Nat) (r : CalRun)
theorem setCalRun_eq : (s.setCalRun d r) = { s with cal := (s.setCalRun d r).cal } := by unfold State.setCalRun; rfl
@[simp] theorem setCalRun_pending : (s.setCalRun d r).pending = s.pending := (congrArg State.pending (setCalRun_eq s d r)).trans rfl
@[simp] theorem setCalRun_now : (s.setCalRun d r).now = s.now := (congrArg State.now (setCalRun_eq s d r)).trans rfl
@[simp] theorem setCalRun_mode : (s.setCalRun d r).mode = s.mode := (congrArg State.mode (setCalRun_eq s d r)).trans rfl
@[simp] theorem setCalRun_objs : (s.setCalRun d r).objs = s.objs := (congrArg State.objs (setCalRun_eq s d r)).trans rfl
@[simp] theorem setCalRun_blobs : (s.setCalRun d r).blobs = s.blobs := (congrArg State.blobs (setCalRun_eq s d r)).trans rfl
@[simp] theorem setCalRun_mem : (s.setCalRun d r).mem = s.mem := (congrArg State.mem (setCalRun_eq s d r)).trans rfl
@[simp] theorem setCalRun_flips : (s.setCalRun d r).flips = s.flips := (congrArg State.flips (setCalRun_eq s d r)).trans rfl
@[simp] theorem setCalRun_ports : (s.setCalRun d r).ports = s.ports := (congrArg State.ports (setCalRun_eq s d r)).trans rfl
@[simp] theorem setCalRun_pins : (s.setCalRun d r).pins = s.pins := (congrArg State.pins (setCalRun_eq s d r)).trans rfl
@[simp] theorem setCalRun_convs : (s.setCalRun d r).convs = s.convs := (congrArg State.convs (setCalRun_eq s d r)).trans rfl
@[simp] theorem setCalRun_chains : (s.setCalRun d r).chains = s.chains := (congrArg State.chains (setCalRun_eq s d r)).trans rfl
@[simp] theorem setCalRun_map : (s.setCalRun d r).map = s.map := (congrArg State.map (setCalRun_eq s d r)).trans rfl
@[simp] theorem setCalRun_disp : (s.setCalRun d r).disp = s.disp := (congrArg State.disp (setCalRun_eq s d r)).trans rfl
@[simp] theorem setCalRun_sweeps : (s.setCalRun d r).sweeps = s.sweeps := (congrArg State.sweeps (setCalRun_eq s d r)).trans rfl
@[simp] theorem setCalRun_busSources : (s.setCalRun d r).busSources = s.busSources := (congrArg State.busSources (setCalRun_eq s d r)).trans rfl
@[simp] theorem setCalRun_cans : (s.setCalRun d r).cans = s.cans := (congrArg State.cans (setCalRun_eq s d r)).trans rfl
@[simp] theorem setCalRun_lins : (s.setCalRun d r).lins = s.lins := (congrArg State.lins (setCalRun_eq s d r)).trans rfl
@[simp] theorem setCalRun_sents : (s.setCalRun d r).sents = s.sents := (congrArg State.sents (setCalRun_eq s d r)).trans rfl
@[simp] theorem setCalRun_gov : (s.setCalRun d r).gov = s.gov := (congrArg State.gov (setCalRun_eq s d r)).trans rfl
@[simp] theorem setCalRun_cores : (s.setCalRun d r).cores = s.cores := (congrArg State.cores (setCalRun_eq s d r)).trans rfl
@[simp] theorem setCalRun_sources : (s.setCalRun d r).sources = s.sources := (congrArg State.sources (setCalRun_eq s d r)).trans rfl
@[simp] theorem setCalRun_timebase : (s.setCalRun d r).timebase = s.timebase := (congrArg State.timebase (setCalRun_eq s d r)).trans rfl
@[simp] theorem setCalRun_trigOuts : (s.setCalRun d r).trigOuts = s.trigOuts := (congrArg State.trigOuts (setCalRun_eq s d r)).trans rfl
@[simp] theorem setCalRun_queues : (s.setCalRun d r).queues = s.queues := (congrArg State.queues (setCalRun_eq s d r)).trans rfl
@[simp] theorem setCalRun_pantry : (s.setCalRun d r).pantry = s.pantry := (congrArg State.pantry (setCalRun_eq s d r)).trans rfl
@[simp] theorem setCalRun_streams : (s.setCalRun d r).streams = s.streams := (congrArg State.streams (setCalRun_eq s d r)).trans rfl
@[simp] theorem setCalRun_zones : (s.setCalRun d r).zones = s.zones := (congrArg State.zones (setCalRun_eq s d r)).trans rfl
@[simp] theorem setCalRun_loader : (s.setCalRun d r).loader = s.loader := (congrArg State.loader (setCalRun_eq s d r)).trans rfl
@[simp] theorem setCalRun_frames : (s.setCalRun d r).frames = s.frames := (congrArg State.frames (setCalRun_eq s d r)).trans rfl
@[simp] theorem setCalRun_loft : (s.setCalRun d r).loft = s.loft := (congrArg State.loft (setCalRun_eq s d r)).trans rfl
@[simp] theorem setCalRun_keys : (s.setCalRun d r).keys = s.keys := (congrArg State.keys (setCalRun_eq s d r)).trans rfl
@[simp] theorem setCalRun_scrub : (s.setCalRun d r).scrub = s.scrub := (congrArg State.scrub (setCalRun_eq s d r)).trans rfl
@[simp] theorem setCalRun_sessions : (s.setCalRun d r).sessions = s.sessions := (congrArg State.sessions (setCalRun_eq s d r)).trans rfl
@[simp] theorem setCalRun_links : (s.setCalRun d r).links = s.links := (congrArg State.links (setCalRun_eq s d r)).trans rfl
@[simp] theorem setCalRun_claims : (s.setCalRun d r).claims = s.claims := (congrArg State.claims (setCalRun_eq s d r)).trans rfl
@[simp] theorem setCalRun_cycle : (s.setCalRun d r).cycle = s.cycle := (congrArg State.cycle (setCalRun_eq s d r)).trans rfl
@[simp] theorem setCalRun_keyFailures : (s.setCalRun d r).keyFailures = s.keyFailures := (congrArg State.keyFailures (setCalRun_eq s d r)).trans rfl
@[simp] theorem setCalRun_keyLockouts : (s.setCalRun d r).keyLockouts = s.keyLockouts := (congrArg State.keyLockouts (setCalRun_eq s d r)).trans rfl
@[simp] theorem setCalRun_cellar : (s.setCalRun d r).cellar = s.cellar := (congrArg State.cellar (setCalRun_eq s d r)).trans rfl
@[simp] theorem setCalRun_power : (s.setCalRun d r).power = s.power := (congrArg State.power (setCalRun_eq s d r)).trans rfl
@[simp] theorem setCalRun_log : (s.setCalRun d r).log = s.log := (congrArg State.log (setCalRun_eq s d r)).trans rfl
@[simp] theorem setCalRun_outbox : (s.setCalRun d r).outbox = s.outbox := (congrArg State.outbox (setCalRun_eq s d r)).trans rfl
@[simp] theorem setCalRun_fresh : (s.setCalRun d r).fresh = s.fresh := (congrArg State.fresh (setCalRun_eq s d r)).trans rfl
end
section
variable (s : State) (i : Nat) (f : CalFigure)
theorem setCalFigure_eq : (s.setCalFigure i f) = { s with cal := (s.setCalFigure i f).cal } := by unfold State.setCalFigure; rfl
@[simp] theorem setCalFigure_pending : (s.setCalFigure i f).pending = s.pending := (congrArg State.pending (setCalFigure_eq s i f)).trans rfl
@[simp] theorem setCalFigure_now : (s.setCalFigure i f).now = s.now := (congrArg State.now (setCalFigure_eq s i f)).trans rfl
@[simp] theorem setCalFigure_mode : (s.setCalFigure i f).mode = s.mode := (congrArg State.mode (setCalFigure_eq s i f)).trans rfl
@[simp] theorem setCalFigure_objs : (s.setCalFigure i f).objs = s.objs := (congrArg State.objs (setCalFigure_eq s i f)).trans rfl
@[simp] theorem setCalFigure_blobs : (s.setCalFigure i f).blobs = s.blobs := (congrArg State.blobs (setCalFigure_eq s i f)).trans rfl
@[simp] theorem setCalFigure_mem : (s.setCalFigure i f).mem = s.mem := (congrArg State.mem (setCalFigure_eq s i f)).trans rfl
@[simp] theorem setCalFigure_flips : (s.setCalFigure i f).flips = s.flips := (congrArg State.flips (setCalFigure_eq s i f)).trans rfl
@[simp] theorem setCalFigure_ports : (s.setCalFigure i f).ports = s.ports := (congrArg State.ports (setCalFigure_eq s i f)).trans rfl
@[simp] theorem setCalFigure_pins : (s.setCalFigure i f).pins = s.pins := (congrArg State.pins (setCalFigure_eq s i f)).trans rfl
@[simp] theorem setCalFigure_convs : (s.setCalFigure i f).convs = s.convs := (congrArg State.convs (setCalFigure_eq s i f)).trans rfl
@[simp] theorem setCalFigure_chains : (s.setCalFigure i f).chains = s.chains := (congrArg State.chains (setCalFigure_eq s i f)).trans rfl
@[simp] theorem setCalFigure_map : (s.setCalFigure i f).map = s.map := (congrArg State.map (setCalFigure_eq s i f)).trans rfl
@[simp] theorem setCalFigure_disp : (s.setCalFigure i f).disp = s.disp := (congrArg State.disp (setCalFigure_eq s i f)).trans rfl
@[simp] theorem setCalFigure_sweeps : (s.setCalFigure i f).sweeps = s.sweeps := (congrArg State.sweeps (setCalFigure_eq s i f)).trans rfl
@[simp] theorem setCalFigure_busSources : (s.setCalFigure i f).busSources = s.busSources := (congrArg State.busSources (setCalFigure_eq s i f)).trans rfl
@[simp] theorem setCalFigure_cans : (s.setCalFigure i f).cans = s.cans := (congrArg State.cans (setCalFigure_eq s i f)).trans rfl
@[simp] theorem setCalFigure_lins : (s.setCalFigure i f).lins = s.lins := (congrArg State.lins (setCalFigure_eq s i f)).trans rfl
@[simp] theorem setCalFigure_sents : (s.setCalFigure i f).sents = s.sents := (congrArg State.sents (setCalFigure_eq s i f)).trans rfl
@[simp] theorem setCalFigure_gov : (s.setCalFigure i f).gov = s.gov := (congrArg State.gov (setCalFigure_eq s i f)).trans rfl
@[simp] theorem setCalFigure_cores : (s.setCalFigure i f).cores = s.cores := (congrArg State.cores (setCalFigure_eq s i f)).trans rfl
@[simp] theorem setCalFigure_sources : (s.setCalFigure i f).sources = s.sources := (congrArg State.sources (setCalFigure_eq s i f)).trans rfl
@[simp] theorem setCalFigure_timebase : (s.setCalFigure i f).timebase = s.timebase := (congrArg State.timebase (setCalFigure_eq s i f)).trans rfl
@[simp] theorem setCalFigure_trigOuts : (s.setCalFigure i f).trigOuts = s.trigOuts := (congrArg State.trigOuts (setCalFigure_eq s i f)).trans rfl
@[simp] theorem setCalFigure_queues : (s.setCalFigure i f).queues = s.queues := (congrArg State.queues (setCalFigure_eq s i f)).trans rfl
@[simp] theorem setCalFigure_pantry : (s.setCalFigure i f).pantry = s.pantry := (congrArg State.pantry (setCalFigure_eq s i f)).trans rfl
@[simp] theorem setCalFigure_streams : (s.setCalFigure i f).streams = s.streams := (congrArg State.streams (setCalFigure_eq s i f)).trans rfl
@[simp] theorem setCalFigure_zones : (s.setCalFigure i f).zones = s.zones := (congrArg State.zones (setCalFigure_eq s i f)).trans rfl
@[simp] theorem setCalFigure_loader : (s.setCalFigure i f).loader = s.loader := (congrArg State.loader (setCalFigure_eq s i f)).trans rfl
@[simp] theorem setCalFigure_frames : (s.setCalFigure i f).frames = s.frames := (congrArg State.frames (setCalFigure_eq s i f)).trans rfl
@[simp] theorem setCalFigure_loft : (s.setCalFigure i f).loft = s.loft := (congrArg State.loft (setCalFigure_eq s i f)).trans rfl
@[simp] theorem setCalFigure_keys : (s.setCalFigure i f).keys = s.keys := (congrArg State.keys (setCalFigure_eq s i f)).trans rfl
@[simp] theorem setCalFigure_scrub : (s.setCalFigure i f).scrub = s.scrub := (congrArg State.scrub (setCalFigure_eq s i f)).trans rfl
@[simp] theorem setCalFigure_sessions : (s.setCalFigure i f).sessions = s.sessions := (congrArg State.sessions (setCalFigure_eq s i f)).trans rfl
@[simp] theorem setCalFigure_links : (s.setCalFigure i f).links = s.links := (congrArg State.links (setCalFigure_eq s i f)).trans rfl
@[simp] theorem setCalFigure_claims : (s.setCalFigure i f).claims = s.claims := (congrArg State.claims (setCalFigure_eq s i f)).trans rfl
@[simp] theorem setCalFigure_cycle : (s.setCalFigure i f).cycle = s.cycle := (congrArg State.cycle (setCalFigure_eq s i f)).trans rfl
@[simp] theorem setCalFigure_keyFailures : (s.setCalFigure i f).keyFailures = s.keyFailures := (congrArg State.keyFailures (setCalFigure_eq s i f)).trans rfl
@[simp] theorem setCalFigure_keyLockouts : (s.setCalFigure i f).keyLockouts = s.keyLockouts := (congrArg State.keyLockouts (setCalFigure_eq s i f)).trans rfl
@[simp] theorem setCalFigure_cellar : (s.setCalFigure i f).cellar = s.cellar := (congrArg State.cellar (setCalFigure_eq s i f)).trans rfl
@[simp] theorem setCalFigure_power : (s.setCalFigure i f).power = s.power := (congrArg State.power (setCalFigure_eq s i f)).trans rfl
@[simp] theorem setCalFigure_log : (s.setCalFigure i f).log = s.log := (congrArg State.log (setCalFigure_eq s i f)).trans rfl
@[simp] theorem setCalFigure_outbox : (s.setCalFigure i f).outbox = s.outbox := (congrArg State.outbox (setCalFigure_eq s i f)).trans rfl
@[simp] theorem setCalFigure_fresh : (s.setCalFigure i f).fresh = s.fresh := (congrArg State.fresh (setCalFigure_eq s i f)).trans rfl
end
section
variable (s : State) (k : Nat)
theorem staleSnaps_eq : (s.staleSnaps k) = { s with cores := (s.staleSnaps k).cores } := by unfold State.staleSnaps; rfl
@[simp] theorem staleSnaps_pending : (s.staleSnaps k).pending = s.pending := (congrArg State.pending (staleSnaps_eq s k)).trans rfl
@[simp] theorem staleSnaps_now : (s.staleSnaps k).now = s.now := (congrArg State.now (staleSnaps_eq s k)).trans rfl
@[simp] theorem staleSnaps_mode : (s.staleSnaps k).mode = s.mode := (congrArg State.mode (staleSnaps_eq s k)).trans rfl
@[simp] theorem staleSnaps_objs : (s.staleSnaps k).objs = s.objs := (congrArg State.objs (staleSnaps_eq s k)).trans rfl
@[simp] theorem staleSnaps_blobs : (s.staleSnaps k).blobs = s.blobs := (congrArg State.blobs (staleSnaps_eq s k)).trans rfl
@[simp] theorem staleSnaps_mem : (s.staleSnaps k).mem = s.mem := (congrArg State.mem (staleSnaps_eq s k)).trans rfl
@[simp] theorem staleSnaps_flips : (s.staleSnaps k).flips = s.flips := (congrArg State.flips (staleSnaps_eq s k)).trans rfl
@[simp] theorem staleSnaps_ports : (s.staleSnaps k).ports = s.ports := (congrArg State.ports (staleSnaps_eq s k)).trans rfl
@[simp] theorem staleSnaps_pins : (s.staleSnaps k).pins = s.pins := (congrArg State.pins (staleSnaps_eq s k)).trans rfl
@[simp] theorem staleSnaps_convs : (s.staleSnaps k).convs = s.convs := (congrArg State.convs (staleSnaps_eq s k)).trans rfl
@[simp] theorem staleSnaps_chains : (s.staleSnaps k).chains = s.chains := (congrArg State.chains (staleSnaps_eq s k)).trans rfl
@[simp] theorem staleSnaps_map : (s.staleSnaps k).map = s.map := (congrArg State.map (staleSnaps_eq s k)).trans rfl
@[simp] theorem staleSnaps_disp : (s.staleSnaps k).disp = s.disp := (congrArg State.disp (staleSnaps_eq s k)).trans rfl
@[simp] theorem staleSnaps_sweeps : (s.staleSnaps k).sweeps = s.sweeps := (congrArg State.sweeps (staleSnaps_eq s k)).trans rfl
@[simp] theorem staleSnaps_busSources : (s.staleSnaps k).busSources = s.busSources := (congrArg State.busSources (staleSnaps_eq s k)).trans rfl
@[simp] theorem staleSnaps_cans : (s.staleSnaps k).cans = s.cans := (congrArg State.cans (staleSnaps_eq s k)).trans rfl
@[simp] theorem staleSnaps_lins : (s.staleSnaps k).lins = s.lins := (congrArg State.lins (staleSnaps_eq s k)).trans rfl
@[simp] theorem staleSnaps_sents : (s.staleSnaps k).sents = s.sents := (congrArg State.sents (staleSnaps_eq s k)).trans rfl
@[simp] theorem staleSnaps_gov : (s.staleSnaps k).gov = s.gov := (congrArg State.gov (staleSnaps_eq s k)).trans rfl
@[simp] theorem staleSnaps_sources : (s.staleSnaps k).sources = s.sources := (congrArg State.sources (staleSnaps_eq s k)).trans rfl
@[simp] theorem staleSnaps_timebase : (s.staleSnaps k).timebase = s.timebase := (congrArg State.timebase (staleSnaps_eq s k)).trans rfl
@[simp] theorem staleSnaps_trigOuts : (s.staleSnaps k).trigOuts = s.trigOuts := (congrArg State.trigOuts (staleSnaps_eq s k)).trans rfl
@[simp] theorem staleSnaps_queues : (s.staleSnaps k).queues = s.queues := (congrArg State.queues (staleSnaps_eq s k)).trans rfl
@[simp] theorem staleSnaps_pantry : (s.staleSnaps k).pantry = s.pantry := (congrArg State.pantry (staleSnaps_eq s k)).trans rfl
@[simp] theorem staleSnaps_streams : (s.staleSnaps k).streams = s.streams := (congrArg State.streams (staleSnaps_eq s k)).trans rfl
@[simp] theorem staleSnaps_zones : (s.staleSnaps k).zones = s.zones := (congrArg State.zones (staleSnaps_eq s k)).trans rfl
@[simp] theorem staleSnaps_loader : (s.staleSnaps k).loader = s.loader := (congrArg State.loader (staleSnaps_eq s k)).trans rfl
@[simp] theorem staleSnaps_frames : (s.staleSnaps k).frames = s.frames := (congrArg State.frames (staleSnaps_eq s k)).trans rfl
@[simp] theorem staleSnaps_loft : (s.staleSnaps k).loft = s.loft := (congrArg State.loft (staleSnaps_eq s k)).trans rfl
@[simp] theorem staleSnaps_keys : (s.staleSnaps k).keys = s.keys := (congrArg State.keys (staleSnaps_eq s k)).trans rfl
@[simp] theorem staleSnaps_scrub : (s.staleSnaps k).scrub = s.scrub := (congrArg State.scrub (staleSnaps_eq s k)).trans rfl
@[simp] theorem staleSnaps_sessions : (s.staleSnaps k).sessions = s.sessions := (congrArg State.sessions (staleSnaps_eq s k)).trans rfl
@[simp] theorem staleSnaps_links : (s.staleSnaps k).links = s.links := (congrArg State.links (staleSnaps_eq s k)).trans rfl
@[simp] theorem staleSnaps_claims : (s.staleSnaps k).claims = s.claims := (congrArg State.claims (staleSnaps_eq s k)).trans rfl
@[simp] theorem staleSnaps_cycle : (s.staleSnaps k).cycle = s.cycle := (congrArg State.cycle (staleSnaps_eq s k)).trans rfl
@[simp] theorem staleSnaps_keyFailures : (s.staleSnaps k).keyFailures = s.keyFailures := (congrArg State.keyFailures (staleSnaps_eq s k)).trans rfl
@[simp] theorem staleSnaps_keyLockouts : (s.staleSnaps k).keyLockouts = s.keyLockouts := (congrArg State.keyLockouts (staleSnaps_eq s k)).trans rfl
@[simp] theorem staleSnaps_cellar : (s.staleSnaps k).cellar = s.cellar := (congrArg State.cellar (staleSnaps_eq s k)).trans rfl
@[simp] theorem staleSnaps_cal : (s.staleSnaps k).cal = s.cal := (congrArg State.cal (staleSnaps_eq s k)).trans rfl
@[simp] theorem staleSnaps_power : (s.staleSnaps k).power = s.power := (congrArg State.power (staleSnaps_eq s k)).trans rfl
@[simp] theorem staleSnaps_log : (s.staleSnaps k).log = s.log := (congrArg State.log (staleSnaps_eq s k)).trans rfl
@[simp] theorem staleSnaps_outbox : (s.staleSnaps k).outbox = s.outbox := (congrArg State.outbox (staleSnaps_eq s k)).trans rfl
@[simp] theorem staleSnaps_fresh : (s.staleSnaps k).fresh = s.fresh := (congrArg State.fresh (staleSnaps_eq s k)).trans rfl
end
section
variable (s : State) (cls n : Nat) (h : Option Nat)
theorem setHolder_eq : (s.setHolder cls n h) = { s with claims := (s.setHolder cls n h).claims } := by unfold State.setHolder; rfl
@[simp] theorem setHolder_pending : (s.setHolder cls n h).pending = s.pending := (congrArg State.pending (setHolder_eq s cls n h)).trans rfl
@[simp] theorem setHolder_now : (s.setHolder cls n h).now = s.now := (congrArg State.now (setHolder_eq s cls n h)).trans rfl
@[simp] theorem setHolder_mode : (s.setHolder cls n h).mode = s.mode := (congrArg State.mode (setHolder_eq s cls n h)).trans rfl
@[simp] theorem setHolder_objs : (s.setHolder cls n h).objs = s.objs := (congrArg State.objs (setHolder_eq s cls n h)).trans rfl
@[simp] theorem setHolder_blobs : (s.setHolder cls n h).blobs = s.blobs := (congrArg State.blobs (setHolder_eq s cls n h)).trans rfl
@[simp] theorem setHolder_mem : (s.setHolder cls n h).mem = s.mem := (congrArg State.mem (setHolder_eq s cls n h)).trans rfl
@[simp] theorem setHolder_flips : (s.setHolder cls n h).flips = s.flips := (congrArg State.flips (setHolder_eq s cls n h)).trans rfl
@[simp] theorem setHolder_ports : (s.setHolder cls n h).ports = s.ports := (congrArg State.ports (setHolder_eq s cls n h)).trans rfl
@[simp] theorem setHolder_pins : (s.setHolder cls n h).pins = s.pins := (congrArg State.pins (setHolder_eq s cls n h)).trans rfl
@[simp] theorem setHolder_convs : (s.setHolder cls n h).convs = s.convs := (congrArg State.convs (setHolder_eq s cls n h)).trans rfl
@[simp] theorem setHolder_chains : (s.setHolder cls n h).chains = s.chains := (congrArg State.chains (setHolder_eq s cls n h)).trans rfl
@[simp] theorem setHolder_map : (s.setHolder cls n h).map = s.map := (congrArg State.map (setHolder_eq s cls n h)).trans rfl
@[simp] theorem setHolder_disp : (s.setHolder cls n h).disp = s.disp := (congrArg State.disp (setHolder_eq s cls n h)).trans rfl
@[simp] theorem setHolder_sweeps : (s.setHolder cls n h).sweeps = s.sweeps := (congrArg State.sweeps (setHolder_eq s cls n h)).trans rfl
@[simp] theorem setHolder_busSources : (s.setHolder cls n h).busSources = s.busSources := (congrArg State.busSources (setHolder_eq s cls n h)).trans rfl
@[simp] theorem setHolder_cans : (s.setHolder cls n h).cans = s.cans := (congrArg State.cans (setHolder_eq s cls n h)).trans rfl
@[simp] theorem setHolder_lins : (s.setHolder cls n h).lins = s.lins := (congrArg State.lins (setHolder_eq s cls n h)).trans rfl
@[simp] theorem setHolder_sents : (s.setHolder cls n h).sents = s.sents := (congrArg State.sents (setHolder_eq s cls n h)).trans rfl
@[simp] theorem setHolder_gov : (s.setHolder cls n h).gov = s.gov := (congrArg State.gov (setHolder_eq s cls n h)).trans rfl
@[simp] theorem setHolder_cores : (s.setHolder cls n h).cores = s.cores := (congrArg State.cores (setHolder_eq s cls n h)).trans rfl
@[simp] theorem setHolder_sources : (s.setHolder cls n h).sources = s.sources := (congrArg State.sources (setHolder_eq s cls n h)).trans rfl
@[simp] theorem setHolder_timebase : (s.setHolder cls n h).timebase = s.timebase := (congrArg State.timebase (setHolder_eq s cls n h)).trans rfl
@[simp] theorem setHolder_trigOuts : (s.setHolder cls n h).trigOuts = s.trigOuts := (congrArg State.trigOuts (setHolder_eq s cls n h)).trans rfl
@[simp] theorem setHolder_queues : (s.setHolder cls n h).queues = s.queues := (congrArg State.queues (setHolder_eq s cls n h)).trans rfl
@[simp] theorem setHolder_pantry : (s.setHolder cls n h).pantry = s.pantry := (congrArg State.pantry (setHolder_eq s cls n h)).trans rfl
@[simp] theorem setHolder_streams : (s.setHolder cls n h).streams = s.streams := (congrArg State.streams (setHolder_eq s cls n h)).trans rfl
@[simp] theorem setHolder_zones : (s.setHolder cls n h).zones = s.zones := (congrArg State.zones (setHolder_eq s cls n h)).trans rfl
@[simp] theorem setHolder_loader : (s.setHolder cls n h).loader = s.loader := (congrArg State.loader (setHolder_eq s cls n h)).trans rfl
@[simp] theorem setHolder_frames : (s.setHolder cls n h).frames = s.frames := (congrArg State.frames (setHolder_eq s cls n h)).trans rfl
@[simp] theorem setHolder_loft : (s.setHolder cls n h).loft = s.loft := (congrArg State.loft (setHolder_eq s cls n h)).trans rfl
@[simp] theorem setHolder_keys : (s.setHolder cls n h).keys = s.keys := (congrArg State.keys (setHolder_eq s cls n h)).trans rfl
@[simp] theorem setHolder_scrub : (s.setHolder cls n h).scrub = s.scrub := (congrArg State.scrub (setHolder_eq s cls n h)).trans rfl
@[simp] theorem setHolder_sessions : (s.setHolder cls n h).sessions = s.sessions := (congrArg State.sessions (setHolder_eq s cls n h)).trans rfl
@[simp] theorem setHolder_links : (s.setHolder cls n h).links = s.links := (congrArg State.links (setHolder_eq s cls n h)).trans rfl
@[simp] theorem setHolder_cycle : (s.setHolder cls n h).cycle = s.cycle := (congrArg State.cycle (setHolder_eq s cls n h)).trans rfl
@[simp] theorem setHolder_keyFailures : (s.setHolder cls n h).keyFailures = s.keyFailures := (congrArg State.keyFailures (setHolder_eq s cls n h)).trans rfl
@[simp] theorem setHolder_keyLockouts : (s.setHolder cls n h).keyLockouts = s.keyLockouts := (congrArg State.keyLockouts (setHolder_eq s cls n h)).trans rfl
@[simp] theorem setHolder_cellar : (s.setHolder cls n h).cellar = s.cellar := (congrArg State.cellar (setHolder_eq s cls n h)).trans rfl
@[simp] theorem setHolder_cal : (s.setHolder cls n h).cal = s.cal := (congrArg State.cal (setHolder_eq s cls n h)).trans rfl
@[simp] theorem setHolder_power : (s.setHolder cls n h).power = s.power := (congrArg State.power (setHolder_eq s cls n h)).trans rfl
@[simp] theorem setHolder_log : (s.setHolder cls n h).log = s.log := (congrArg State.log (setHolder_eq s cls n h)).trans rfl
@[simp] theorem setHolder_outbox : (s.setHolder cls n h).outbox = s.outbox := (congrArg State.outbox (setHolder_eq s cls n h)).trans rfl
@[simp] theorem setHolder_fresh : (s.setHolder cls n h).fresh = s.fresh := (congrArg State.fresh (setHolder_eq s cls n h)).trans rfl
end
section
variable (s : State) (o : Out)
theorem send_eq : (s.send o) = { s with outbox := (s.send o).outbox } := by unfold State.send; rfl
@[simp] theorem send_pending : (s.send o).pending = s.pending := (congrArg State.pending (send_eq s o)).trans rfl
@[simp] theorem send_now : (s.send o).now = s.now := (congrArg State.now (send_eq s o)).trans rfl
@[simp] theorem send_mode : (s.send o).mode = s.mode := (congrArg State.mode (send_eq s o)).trans rfl
@[simp] theorem send_objs : (s.send o).objs = s.objs := (congrArg State.objs (send_eq s o)).trans rfl
@[simp] theorem send_blobs : (s.send o).blobs = s.blobs := (congrArg State.blobs (send_eq s o)).trans rfl
@[simp] theorem send_mem : (s.send o).mem = s.mem := (congrArg State.mem (send_eq s o)).trans rfl
@[simp] theorem send_flips : (s.send o).flips = s.flips := (congrArg State.flips (send_eq s o)).trans rfl
@[simp] theorem send_ports : (s.send o).ports = s.ports := (congrArg State.ports (send_eq s o)).trans rfl
@[simp] theorem send_pins : (s.send o).pins = s.pins := (congrArg State.pins (send_eq s o)).trans rfl
@[simp] theorem send_convs : (s.send o).convs = s.convs := (congrArg State.convs (send_eq s o)).trans rfl
@[simp] theorem send_chains : (s.send o).chains = s.chains := (congrArg State.chains (send_eq s o)).trans rfl
@[simp] theorem send_map : (s.send o).map = s.map := (congrArg State.map (send_eq s o)).trans rfl
@[simp] theorem send_disp : (s.send o).disp = s.disp := (congrArg State.disp (send_eq s o)).trans rfl
@[simp] theorem send_sweeps : (s.send o).sweeps = s.sweeps := (congrArg State.sweeps (send_eq s o)).trans rfl
@[simp] theorem send_busSources : (s.send o).busSources = s.busSources := (congrArg State.busSources (send_eq s o)).trans rfl
@[simp] theorem send_cans : (s.send o).cans = s.cans := (congrArg State.cans (send_eq s o)).trans rfl
@[simp] theorem send_lins : (s.send o).lins = s.lins := (congrArg State.lins (send_eq s o)).trans rfl
@[simp] theorem send_sents : (s.send o).sents = s.sents := (congrArg State.sents (send_eq s o)).trans rfl
@[simp] theorem send_gov : (s.send o).gov = s.gov := (congrArg State.gov (send_eq s o)).trans rfl
@[simp] theorem send_cores : (s.send o).cores = s.cores := (congrArg State.cores (send_eq s o)).trans rfl
@[simp] theorem send_sources : (s.send o).sources = s.sources := (congrArg State.sources (send_eq s o)).trans rfl
@[simp] theorem send_timebase : (s.send o).timebase = s.timebase := (congrArg State.timebase (send_eq s o)).trans rfl
@[simp] theorem send_trigOuts : (s.send o).trigOuts = s.trigOuts := (congrArg State.trigOuts (send_eq s o)).trans rfl
@[simp] theorem send_queues : (s.send o).queues = s.queues := (congrArg State.queues (send_eq s o)).trans rfl
@[simp] theorem send_pantry : (s.send o).pantry = s.pantry := (congrArg State.pantry (send_eq s o)).trans rfl
@[simp] theorem send_streams : (s.send o).streams = s.streams := (congrArg State.streams (send_eq s o)).trans rfl
@[simp] theorem send_zones : (s.send o).zones = s.zones := (congrArg State.zones (send_eq s o)).trans rfl
@[simp] theorem send_loader : (s.send o).loader = s.loader := (congrArg State.loader (send_eq s o)).trans rfl
@[simp] theorem send_frames : (s.send o).frames = s.frames := (congrArg State.frames (send_eq s o)).trans rfl
@[simp] theorem send_loft : (s.send o).loft = s.loft := (congrArg State.loft (send_eq s o)).trans rfl
@[simp] theorem send_keys : (s.send o).keys = s.keys := (congrArg State.keys (send_eq s o)).trans rfl
@[simp] theorem send_scrub : (s.send o).scrub = s.scrub := (congrArg State.scrub (send_eq s o)).trans rfl
@[simp] theorem send_sessions : (s.send o).sessions = s.sessions := (congrArg State.sessions (send_eq s o)).trans rfl
@[simp] theorem send_links : (s.send o).links = s.links := (congrArg State.links (send_eq s o)).trans rfl
@[simp] theorem send_claims : (s.send o).claims = s.claims := (congrArg State.claims (send_eq s o)).trans rfl
@[simp] theorem send_cycle : (s.send o).cycle = s.cycle := (congrArg State.cycle (send_eq s o)).trans rfl
@[simp] theorem send_keyFailures : (s.send o).keyFailures = s.keyFailures := (congrArg State.keyFailures (send_eq s o)).trans rfl
@[simp] theorem send_keyLockouts : (s.send o).keyLockouts = s.keyLockouts := (congrArg State.keyLockouts (send_eq s o)).trans rfl
@[simp] theorem send_cellar : (s.send o).cellar = s.cellar := (congrArg State.cellar (send_eq s o)).trans rfl
@[simp] theorem send_cal : (s.send o).cal = s.cal := (congrArg State.cal (send_eq s o)).trans rfl
@[simp] theorem send_power : (s.send o).power = s.power := (congrArg State.power (send_eq s o)).trans rfl
@[simp] theorem send_log : (s.send o).log = s.log := (congrArg State.log (send_eq s o)).trans rfl
@[simp] theorem send_fresh : (s.send o).fresh = s.fresh := (congrArg State.fresh (send_eq s o)).trans rfl
end
section
variable (s : State)
theorem nextFresh_eq : s.nextFresh = { s with fresh := s.nextFresh.fresh } := by unfold State.nextFresh; rfl
@[simp] theorem nextFresh_pending : s.nextFresh.pending = s.pending := (congrArg State.pending (nextFresh_eq s )).trans rfl
@[simp] theorem nextFresh_now : s.nextFresh.now = s.now := (congrArg State.now (nextFresh_eq s )).trans rfl
@[simp] theorem nextFresh_mode : s.nextFresh.mode = s.mode := (congrArg State.mode (nextFresh_eq s )).trans rfl
@[simp] theorem nextFresh_objs : s.nextFresh.objs = s.objs := (congrArg State.objs (nextFresh_eq s )).trans rfl
@[simp] theorem nextFresh_blobs : s.nextFresh.blobs = s.blobs := (congrArg State.blobs (nextFresh_eq s )).trans rfl
@[simp] theorem nextFresh_mem : s.nextFresh.mem = s.mem := (congrArg State.mem (nextFresh_eq s )).trans rfl
@[simp] theorem nextFresh_flips : s.nextFresh.flips = s.flips := (congrArg State.flips (nextFresh_eq s )).trans rfl
@[simp] theorem nextFresh_ports : s.nextFresh.ports = s.ports := (congrArg State.ports (nextFresh_eq s )).trans rfl
@[simp] theorem nextFresh_pins : s.nextFresh.pins = s.pins := (congrArg State.pins (nextFresh_eq s )).trans rfl
@[simp] theorem nextFresh_convs : s.nextFresh.convs = s.convs := (congrArg State.convs (nextFresh_eq s )).trans rfl
@[simp] theorem nextFresh_chains : s.nextFresh.chains = s.chains := (congrArg State.chains (nextFresh_eq s )).trans rfl
@[simp] theorem nextFresh_map : s.nextFresh.map = s.map := (congrArg State.map (nextFresh_eq s )).trans rfl
@[simp] theorem nextFresh_disp : s.nextFresh.disp = s.disp := (congrArg State.disp (nextFresh_eq s )).trans rfl
@[simp] theorem nextFresh_sweeps : s.nextFresh.sweeps = s.sweeps := (congrArg State.sweeps (nextFresh_eq s )).trans rfl
@[simp] theorem nextFresh_busSources : s.nextFresh.busSources = s.busSources := (congrArg State.busSources (nextFresh_eq s )).trans rfl
@[simp] theorem nextFresh_cans : s.nextFresh.cans = s.cans := (congrArg State.cans (nextFresh_eq s )).trans rfl
@[simp] theorem nextFresh_lins : s.nextFresh.lins = s.lins := (congrArg State.lins (nextFresh_eq s )).trans rfl
@[simp] theorem nextFresh_sents : s.nextFresh.sents = s.sents := (congrArg State.sents (nextFresh_eq s )).trans rfl
@[simp] theorem nextFresh_gov : s.nextFresh.gov = s.gov := (congrArg State.gov (nextFresh_eq s )).trans rfl
@[simp] theorem nextFresh_cores : s.nextFresh.cores = s.cores := (congrArg State.cores (nextFresh_eq s )).trans rfl
@[simp] theorem nextFresh_sources : s.nextFresh.sources = s.sources := (congrArg State.sources (nextFresh_eq s )).trans rfl
@[simp] theorem nextFresh_timebase : s.nextFresh.timebase = s.timebase := (congrArg State.timebase (nextFresh_eq s )).trans rfl
@[simp] theorem nextFresh_trigOuts : s.nextFresh.trigOuts = s.trigOuts := (congrArg State.trigOuts (nextFresh_eq s )).trans rfl
@[simp] theorem nextFresh_queues : s.nextFresh.queues = s.queues := (congrArg State.queues (nextFresh_eq s )).trans rfl
@[simp] theorem nextFresh_pantry : s.nextFresh.pantry = s.pantry := (congrArg State.pantry (nextFresh_eq s )).trans rfl
@[simp] theorem nextFresh_streams : s.nextFresh.streams = s.streams := (congrArg State.streams (nextFresh_eq s )).trans rfl
@[simp] theorem nextFresh_zones : s.nextFresh.zones = s.zones := (congrArg State.zones (nextFresh_eq s )).trans rfl
@[simp] theorem nextFresh_loader : s.nextFresh.loader = s.loader := (congrArg State.loader (nextFresh_eq s )).trans rfl
@[simp] theorem nextFresh_frames : s.nextFresh.frames = s.frames := (congrArg State.frames (nextFresh_eq s )).trans rfl
@[simp] theorem nextFresh_loft : s.nextFresh.loft = s.loft := (congrArg State.loft (nextFresh_eq s )).trans rfl
@[simp] theorem nextFresh_keys : s.nextFresh.keys = s.keys := (congrArg State.keys (nextFresh_eq s )).trans rfl
@[simp] theorem nextFresh_scrub : s.nextFresh.scrub = s.scrub := (congrArg State.scrub (nextFresh_eq s )).trans rfl
@[simp] theorem nextFresh_sessions : s.nextFresh.sessions = s.sessions := (congrArg State.sessions (nextFresh_eq s )).trans rfl
@[simp] theorem nextFresh_links : s.nextFresh.links = s.links := (congrArg State.links (nextFresh_eq s )).trans rfl
@[simp] theorem nextFresh_claims : s.nextFresh.claims = s.claims := (congrArg State.claims (nextFresh_eq s )).trans rfl
@[simp] theorem nextFresh_cycle : s.nextFresh.cycle = s.cycle := (congrArg State.cycle (nextFresh_eq s )).trans rfl
@[simp] theorem nextFresh_keyFailures : s.nextFresh.keyFailures = s.keyFailures := (congrArg State.keyFailures (nextFresh_eq s )).trans rfl
@[simp] theorem nextFresh_keyLockouts : s.nextFresh.keyLockouts = s.keyLockouts := (congrArg State.keyLockouts (nextFresh_eq s )).trans rfl
@[simp] theorem nextFresh_cellar : s.nextFresh.cellar = s.cellar := (congrArg State.cellar (nextFresh_eq s )).trans rfl
@[simp] theorem nextFresh_cal : s.nextFresh.cal = s.cal := (congrArg State.cal (nextFresh_eq s )).trans rfl
@[simp] theorem nextFresh_power : s.nextFresh.power = s.power := (congrArg State.power (nextFresh_eq s )).trans rfl
@[simp] theorem nextFresh_log : s.nextFresh.log = s.log := (congrArg State.log (nextFresh_eq s )).trans rfl
@[simp] theorem nextFresh_outbox : s.nextFresh.outbox = s.outbox := (congrArg State.outbox (nextFresh_eq s )).trans rfl
end

/-! ## What an update changes -/

@[simp] theorem advance_now (s : State) (t : Tk) : (s.advance t).now = max s.now t := rfl
@[simp] theorem send_outbox (s : State) (o : Out) : (s.send o).outbox = s.outbox ++ [o] := rfl
@[simp] theorem nextFresh_fresh (s : State) : s.nextFresh.fresh = s.fresh + 1 := rfl

/-! ## Reading a unit after an update of it, or of another -/

@[simp] theorem port_setPort (s : State) (n : Nat) (c : PortCell) : (s.setPort n c).port n = c := Table.get_set _ _ _ _
@[simp] theorem port_setPort_other (s : State) {n m : Nat} (c : PortCell) (h : m ≠ n) : (s.setPort n c).port m = s.port m :=
  Table.get_set_other _ _ _ h
@[simp] theorem pin_setPin (s : State) (n : Nat) (c : PinCell) : (s.setPin n c).pin n = c := Table.get_set _ _ _ _
@[simp] theorem pin_setPin_other (s : State) {n m : Nat} (c : PinCell) (h : m ≠ n) : (s.setPin n c).pin m = s.pin m :=
  Table.get_set_other _ _ _ h
@[simp] theorem conv_setConv (s : State) (n : Nat) (c : Converter) : (s.setConv n c).conv n = c := Table.get_set _ _ _ _
@[simp] theorem conv_setConv_other (s : State) {n m : Nat} (c : Converter) (h : m ≠ n) : (s.setConv n c).conv m = s.conv m :=
  Table.get_set_other _ _ _ h
@[simp] theorem chain_setChain (s : State) (n : Nat) (c : Chain) : (s.setChain n c).chain n = c := Table.get_set _ _ _ _
@[simp] theorem chain_setChain_other (s : State) {n m : Nat} (c : Chain) (h : m ≠ n) : (s.setChain n c).chain m = s.chain m :=
  Table.get_set_other _ _ _ h
@[simp] theorem sweep_setSweep (s : State) (n : Nat) (c : Sweep) : (s.setSweep n c).sweep n = c := Table.get_set _ _ _ _
@[simp] theorem sweep_setSweep_other (s : State) {n m : Nat} (c : Sweep) (h : m ≠ n) : (s.setSweep n c).sweep m = s.sweep m :=
  Table.get_set_other _ _ _ h
@[simp] theorem busSource_setBusSource (s : State) (n : Nat) (c : BusSource) : (s.setBusSource n c).busSource n = c := Table.get_set _ _ _ _
@[simp] theorem busSource_setBusSource_other (s : State) {n m : Nat} (c : BusSource) (h : m ≠ n) : (s.setBusSource n c).busSource m = s.busSource m :=
  Table.get_set_other _ _ _ h
@[simp] theorem can_setCan (s : State) (n : Nat) (c : CanEngine) : (s.setCan n c).can n = c := Table.get_set _ _ _ _
@[simp] theorem can_setCan_other (s : State) {n m : Nat} (c : CanEngine) (h : m ≠ n) : (s.setCan n c).can m = s.can m :=
  Table.get_set_other _ _ _ h
@[simp] theorem lin_setLin (s : State) (n : Nat) (c : LinEngine) : (s.setLin n c).lin n = c := Table.get_set _ _ _ _
@[simp] theorem lin_setLin_other (s : State) {n m : Nat} (c : LinEngine) (h : m ≠ n) : (s.setLin n c).lin m = s.lin m :=
  Table.get_set_other _ _ _ h
@[simp] theorem sent_setSent (s : State) (n : Nat) (c : SentUnit) : (s.setSent n c).sent n = c := Table.get_set _ _ _ _
@[simp] theorem sent_setSent_other (s : State) {n m : Nat} (c : SentUnit) (h : m ≠ n) : (s.setSent n c).sent m = s.sent m :=
  Table.get_set_other _ _ _ h
@[simp] theorem core_setCore (s : State) (n : Nat) (c : Core) : (s.setCore n c).core n = c := Table.get_set _ _ _ _
@[simp] theorem core_setCore_other (s : State) {n m : Nat} (c : Core) (h : m ≠ n) : (s.setCore n c).core m = s.core m :=
  Table.get_set_other _ _ _ h
@[simp] theorem source_setSource (s : State) (n : Nat) (c : Source) : (s.setSource n c).source n = c := Table.get_set _ _ _ _
@[simp] theorem source_setSource_other (s : State) {n m : Nat} (c : Source) (h : m ≠ n) : (s.setSource n c).source m = s.source m :=
  Table.get_set_other _ _ _ h
@[simp] theorem trigOut_setTrigOut (s : State) (n : Nat) (c : TrigOut) : (s.setTrigOut n c).trigOut n = c := Table.get_set _ _ _ _
@[simp] theorem trigOut_setTrigOut_other (s : State) {n m : Nat} (c : TrigOut) (h : m ≠ n) : (s.setTrigOut n c).trigOut m = s.trigOut m :=
  Table.get_set_other _ _ _ h
@[simp] theorem queue_setQueue (s : State) (n : Nat) (c : Option Queue) : (s.setQueue n c).queue n = c := Table.get_set _ _ _ _
@[simp] theorem queue_setQueue_other (s : State) {n m : Nat} (c : Option Queue) (h : m ≠ n) : (s.setQueue n c).queue m = s.queue m :=
  Table.get_set_other _ _ _ h
@[simp] theorem zone_setZone (s : State) (n : Nat) (c : Zone) : (s.setZone n c).zone n = c := Table.get_set _ _ _ _
@[simp] theorem zone_setZone_other (s : State) {n m : Nat} (c : Zone) (h : m ≠ n) : (s.setZone n c).zone m = s.zone m :=
  Table.get_set_other _ _ _ h
@[simp] theorem session_setSession (s : State) (n : Nat) (c : Session) : (s.setSession n c).session n = c := Table.get_set _ _ _ _
@[simp] theorem session_setSession_other (s : State) {n m : Nat} (c : Session) (h : m ≠ n) : (s.setSession n c).session m = s.session m :=
  Table.get_set_other _ _ _ h
@[simp] theorem step_setStep (s : State) (n : Nat) (c : StepRec) : (s.setStep n c).step n = c := Table.get_set _ _ _ _
@[simp] theorem step_setStep_other (s : State) {n m : Nat} (c : StepRec) (h : m ≠ n) : (s.setStep n c).step m = s.step m :=
  Table.get_set_other _ _ _ h
@[simp] theorem calRun_setCalRun (s : State) (n : Nat) (c : CalRun) : (s.setCalRun n c).calRun n = c := Table.get_set _ _ _ _
@[simp] theorem calRun_setCalRun_other (s : State) {n m : Nat} (c : CalRun) (h : m ≠ n) : (s.setCalRun n c).calRun m = s.calRun m :=
  Table.get_set_other _ _ _ h
@[simp] theorem calFigure_setCalFigure (s : State) (n : Nat) (c : CalFigure) : (s.setCalFigure n c).calFigure n = c := Table.get_set _ _ _ _
@[simp] theorem calFigure_setCalFigure_other (s : State) {n m : Nat} (c : CalFigure) (h : m ≠ n) : (s.setCalFigure n c).calFigure m = s.calFigure m :=
  Table.get_set_other _ _ _ h
@[simp] theorem claimOf_setHolder (s : State) (cls n : Nat) (h : Option Nat) : (s.setHolder cls n h).claimOf cls n = h :=
  Table.get_set _ _ _ _

theorem holder_eq_claimOf (s : State) {cls n : Nat} (h : (cls == clsQueue && isEventQueue n) = false) :
    s.holder cls n = s.claimOf cls n := by
  simp [State.holder, h]

theorem holder_setHolder (s : State) {cls n : Nat} (h : Option Nat) (hq : (cls == clsQueue && isEventQueue n) = false) :
    (s.setHolder cls n h).holder cls n = h := by
  simp [holder_eq_claimOf, hq]

/-! ## Objects -/

@[simp] theorem objAt_setObjAt (s : State) (k : Nat) (v : Int) : (s.setObjAt k v).objAt k = v := by
  simp only [State.objAt, State.setObjAt, Table.get_set]
  split <;> simp_all

@[simp] theorem objAt_setObjAt_other (s : State) {k m : Nat} (v : Int) (h : m ≠ k) : (s.setObjAt k v).objAt m = s.objAt m := by
  simp only [State.objAt, State.setObjAt, Table.get_set_other _ _ _ h]

@[simp] theorem obj_setObj (s : State) (i j : Nat) (v : Int) : (s.setObj i j v).obj i j = v := objAt_setObjAt _ _ _

/-- A write of an object leaves every object with another key alone. -/
theorem obj_setObj_other (s : State) {i j k l : Nat} (v : Int) (h : objKey k l ≠ objKey i j) :
    (s.setObj i j v).obj k l = s.obj k l := objAt_setObjAt_other _ _ h

@[simp] theorem own_setOwn (s : State) (a i j v : Nat) : (s.setOwn a i j v).own a i j = v := by
  simp [State.own, State.setOwn]

@[simp] theorem blob_setBlob (s : State) (i j : Nat) (bs : Bytes) : (s.setBlob i j bs).blob i j = bs := Table.get_set _ _ _ _


end Sys2Proof.Machine
end

