-- ==== Sys2Proof/Laws/Access.lean ====
section
/-!
SUPPORT. What a request does, once and for all: an accepted write runs its effect and is answered with success, a refused one
is answered with its code, and a requester that the device does not serve changes nothing.
-/

namespace Sys2Proof.Machine

@[simp] theorem refuseWith_none : refuseWith none = .ok () := rfl
@[simp] theorem refuseIf_false (code : Nat) : refuseIf false code = .ok () := rfl
@[simp] theorem refuseIf_true (code : Nat) : refuseIf true code = refuse code := rfl
@[simp] theorem refuseWith_some (code : Nat) : refuseWith (some code) = refuse code := rfl

@[simp] theorem ok_bind {ε α β : Type} (x : α) (f : α → Except ε β) : (Except.ok x >>= f) = f x := rfl

/-- A card that is found belongs to an index that exists. -/
theorem cardsOf_isSome {idx sub : Nat} {c : Card} (h : cardOf idx sub = some c) : (cardsOf idx).isNone = false := by
  unfold cardOf at h
  cases e : cardsOf idx with
  | none => simp [e] at h
  | some _ => rfl

theorem headChecks_ok {s : State} {a : Accessor} {idx sub len : Nat} {c : Card} (hc : cardOf idx sub = some c)
    (hw : c.acc ≠ .ro ∧ c.acc ≠ .const) (hs : s.sessionAbort a idx sub true = none)
    (hl : c.lengthAbort len = none ∧ (c.ty.isBytes = true → chapterLength idx len = true))
    (hf : s.shortStream idx sub len = false) :
    s.headChecks a idx sub len = .ok c := by
  have hb : (c.ty.isBytes && !chapterLength idx len) = false := by
    cases e : c.ty.isBytes with
    | false => rfl
    | true => simp [hl.2 e]
  simp only [State.headChecks, cardsOf_isSome hc, refuseIf_false, hc, hs, hl.1, hb, hf, refuseWith_none,
    beq_eq_false_iff_ne.mpr hw.1, beq_eq_false_iff_ne.mpr hw.2, Bool.or_false]
  rfl

theorem gateChecks_ok {s : State} {a : Accessor} {c : Card} {idx sub v : Nat} (hr : s.readyAbort idx sub true = none)
    (hm : ownOrder idx sub v = false → modeAllows s.mode idx sub v = true ∧ s.loadRefuses a idx sub = false)
    (hc : ownOrder idx sub v = false → s.writeClaimAbort a c idx sub v = none) : s.gateChecks a c idx sub v = .ok () := by
  simp only [State.gateChecks, hr, refuseWith_none]
  cases h : ownOrder idx sub v with
  | true => rfl
  | false =>
    simp only [(hm h).1, (hm h).2, hc h, Bool.not_true, Bool.or_false, refuseIf_false, refuseWith_none]
    rfl

/-- A write that passes every check runs its effect on the value without its reserved bits. -/
theorem guardWrite_ok {s : State} {t : Tk} {a : Accessor} {idx sub : Nat} {bytes : Bytes} {c : Card}
    (h : TakesWrite s t a idx sub bytes c) (k : Int → Res) :
    (s.heard t a).guardWrite a idx sub bytes k = k (c.written bytes) := by
  simp only [State.guardWrite, headChecks_ok h.found h.writable h.session h.length h.whole, ok_bind,
    gateChecks_ok h.ready h.mode h.claim, h.range, refuseWith_none, Card.written]

theorem guardBytes_ok {s : State} {t : Tk} {a : Accessor} {idx sub : Nat} {bytes : Bytes} {c : Card}
    (h : TakesBytes s t a idx sub bytes c) (k : Bytes → Res) : (s.heard t a).guardBytes a idx sub bytes k = k bytes := by
  simp only [State.guardBytes, headChecks_ok h.found h.writable h.session h.length h.whole, ok_bind,
    gateChecks_ok h.ready h.mode h.claim]

/-- A request that the device serves, and that acts at once, ends with its effect or its refusal. -/
theorem request_served {s : State} {t : Tk} {a : Accessor} (h : (s.advance t).serves a = true)
    (ht : (s.advance t).turnOf a = true) (idx sub : Nat) (bs : Bytes) (f : State → Res) :
    s.request t a idx sub bs f = (s.heard t a).finish ((s.advance t).sessionOf a) (f (s.heard t a)) := by
  simp only [State.turnOf, Bool.and_eq_true, Bool.not_eq_true'] at ht
  simp [State.request, h, ht.1, ht.2, State.heard]

/-- A request that the device does not serve gets no answer and changes nothing but the time. -/
theorem request_unserved {s : State} {t : Tk} {a : Accessor} (h : (s.advance t).serves a = false) (idx sub : Nat) (bs : Bytes)
    (f : State → Res) : s.request t a idx sub bs f = .next (s.advance t) := by
  simp [State.request, h]

/-- A request that comes while another of its session executes waits, or is refused as the seventeenth (R449). -/
theorem request_waits {s : State} {t : Tk} {a : Accessor} (h : (s.advance t).serves a = true)
    (he : (s.advance t).requesterEnds a = false) (hb : (s.advance t).busyFor a = true) (idx sub : Nat) (bs : Bytes)
    (f : State → Res) :
    s.request t a idx sub bs f = .next ((s.heard t a).queuesUp ((s.advance t).sessionOf a) (.write idx sub bs)) := by
  simp [State.request, h, he, hb, State.heard]

/-- An effect that owes nothing is answered at once. -/
theorem finish_ok {s u : State} (who : Nat) (h : s.owes u = false) : s.finish who (.ok u) = .next (s.answered u) := by
  simp [State.finish, State.finished, h, State.answered]

/-- A refusal that leaves no trace is an answer. -/
theorem finish_refuse (s : State) (who code : Nat) : s.finish who (refuse code) = .next (s.refusedWith code) := rfl

/-- What a request owes depends on the loader and the Cellar alone. -/
theorem owes_of_eq {s u : State} (h1 : u.loader.owed = s.loader.owed) (h2 : u.cellar.open_ = s.cellar.open_)
    (h3 : u.cellar.waiting = s.cellar.waiting) : s.owes u = false := by
  simp [State.owes, State.owedReplies, h1, h2, h3]

/-- A write that passes every check, and whose effect owes nothing, completes: the effect, and an answer of success. -/
theorem write_completes {s u : State} {t : Tk} {a : Accessor} {idx sub : Nat} {bytes : Bytes} {c : Card}
    (h : TakesWrite s t a idx sub bytes c) {k : State → Int → Res} (hk : k (s.heard t a) (c.written bytes) = .ok u)
    (ho : (s.heard t a).owes u = false) :
    s.requestValue t a idx sub bytes k = .next ((s.heard t a).answered u) := by
  rw [State.requestValue, request_served h.served h.turn, guardWrite_ok h, hk, finish_ok _ ho]

/-- The same for the write of a DOMAIN. -/
theorem bytes_complete {s u : State} {t : Tk} {a : Accessor} {idx sub : Nat} {bytes : Bytes} {c : Card}
    (h : TakesBytes s t a idx sub bytes c) {k : State → Bytes → Res} (hk : k (s.heard t a) bytes = .ok u)
    (ho : (s.heard t a).owes u = false) :
    s.requestBytes t a idx sub bytes k = .next ((s.heard t a).answered u) := by
  rw [State.requestBytes, request_served h.served h.turn, guardBytes_ok h, hk, finish_ok _ ho]

/-! ## What hearing a request changes -/

@[simp] theorem heard_now (s : State) (t : Tk) (a : Accessor) : (s.heard t a).now = max s.now t := by
  cases a with
  | core n => rfl
  | session n =>
    simp only [State.heard, State.hears, State.renew]
    split <;> simp

@[simp] theorem heard_mode (s : State) (t : Tk) (a : Accessor) : (s.heard t a).mode = s.mode := by
  cases a with
  | core n => rfl
  | session n =>
    simp only [State.heard, State.hears, State.renew]
    split <;> simp

@[simp] theorem heard_objs (s : State) (t : Tk) (a : Accessor) : (s.heard t a).objs = s.objs := by
  cases a with
  | core n => rfl
  | session n =>
    simp only [State.heard, State.hears, State.renew]
    split <;> simp

end Sys2Proof.Machine
end

