-- ==== Sys2Proof/Laws/Cellar.lean ====
section
/-!
SUPPORT. Laws of the journal (R480): the bytes of its records, and the size that a transaction is counted by.
-/

open Sys2Proof Sys2Proof.Machine

namespace Sys2Proof.Laws

theorem natLe_length (n v : Nat) : (natLe n v).length = n := by
  induction n generalizing v with
  | zero => rfl
  | succ n ih => simp [natLe, ih]

theorem filled_length (bs : Bytes) : (filled bs).length = (bs.length + 3) / 4 * 4 := by
  simp only [filled, List.length_append, zeroBytes, List.length_replicate]
  omega

/-- A record takes the bytes that R480 gives it. -/
theorem record_bytes_length (r : JournalRecord) : r.bytes.length = recordSize r.body.length := by
  simp only [JournalRecord.bytes, List.length_append, natLe_length, zeroBytes, List.length_replicate, recordSize]
  omega

/-- The records of a change take the bytes that its size says, where its extent has the units it needs. -/
theorem change_records_size (id : Nat) (c : Stored) (us : List Nat)
    (h : ∀ cls k b, c = .blob cls k (some b) → inHeap cls = true → us.length = heapUnits b.length) :
    ((changeRecord id (c, us)).map fun r => r.bytes.length).sum = changeSize c := by
  rcases c with ⟨k, _ | v⟩ | ⟨cls, k, _ | b⟩
  · simp [changeRecord, changeSize, record_bytes_length]
  · simp only [changeRecord, changeSize, List.map_cons, List.map_nil, List.sum_cons, List.sum_nil, Nat.add_zero,
      record_bytes_length, valueBody, filled_length, natLe_length]
    split <;> rfl
  · simp [changeRecord, changeSize, record_bytes_length]
  · simp only [changeRecord, changeSize]
    split
    · next e =>
      have := h cls k b rfl e
      simp [record_bytes_length, extentBody, filled_length, natLe_length, List.length_flatMap, this]
      congr 2
      omega
    · split <;> simp [record_bytes_length, filled_length]

end Sys2Proof.Laws
end

