-- ==== Sys2Proof/Laws/Crypto.lean ====
section
/-!
SUPPORT. AES decryption by tables, proved equal to the definition of the model, so that the kernel can evaluate a key
unwrap.
-/

namespace Sys2Proof.Machine

set_option Elab.async false

/-- The inverse S-box as one number, eight bits to a byte. -/
def invSubTable : Nat := 0x7d0c2155631469e126d677ba7e042b17619953833cbbebc8b0f52aae4d3be0a0ef9cc9939f7ae52d0d4ab519a97f51605fec8027591012b131c7078833a8dd1ff45acd78fec0db9a2079d2c64b3e56fc1bbe18aa0e62b76f89c5291d711af1476edf751ce837f9e28535ade72274ac9673e6b4f0cecff297eadc674f4111913a6b8a130103bdafc1020f3fca8f1e2cd00645b3b80558e4f70ad3bc8c00abd890849d8da75746155edab9edfd5048706c92b6655dcc5ca4d41698688664f6f87225d18b6d49a25b76b224d92866a12e084ec3fa420b954cee3d23c2a632947b54cbe9dec444438e3487ff2f9b8239e37cfbd7f3819ea340bf38a53630d56a0952
/-- The products of 14 in the field of AES. -/
def mulTable14 : Nat := 0x8d83919fb5bba9a7fdf3e1efc5cbd9d76d63717f555b49471d13010f252b393756584a446e60727c26283a341e10020cb6b8aaa48e80929cc6c8dad4fef0e2ec202e3c321816040a505e4c426866747ac0cedcd2f8f6e4eab0beaca28886949afbf5e7e9c3cddfd18b859799b3bdafa11b150709232d3f316b657779535d4f41ccc2d0def4fae8e6bcb2a0ae848a98962c22303e141a08065c52404e646a787617190b052f21333d67697b755f51434df7f9ebe5cfc1d3dd87899b95bfb1a3ad616f7d735957454b111f0d032927353b818f9d93b9b7a5abf1ffede3c9c7d5dbbab4a6a8828c9e90cac4d6d8f2fceee05a544648626c7e702a243638121c0e00
/-- The products of 11 in the field of AES. -/
def mulTable11 : Nat := 0xa3a8b5be8f849992fbf0ede6d7dcc1ca1318050e3f3429224b405d56676c717ad8d3cec5f4ffe2e9808b969daca7bab168637e75444f5259303b262d1c170a01555e434879726f640d061b10212a373ce5eef3f8c9c2dfd4bdb6aba0919a878c2e2538330209141f767d606b5a514c479e958883b2b9a4afc6cdd0dbeae1fcf7545f424978736e650c071a11202b363de4eff2f9c8c3ded5bcb7aaa1909b868d2f2439320308151e777c616a5b504d469f948982b3b8a5aec7ccd1daebe0fdf6a2a9b4bf8e859893faf1ece7d6ddc0cb1219040f3e3528234a415c57666d707bd9d2cfc4f5fee3e8818a979cada6bbb069627f74454e5358313a272c1d160b00
/-- The products of 13 in the field of AES. -/
def mulTable13 : Nat := 0x979a8d80a3aeb9b4fff2e5e8cbc6d1dc474a5d50737e69642f2235381b16010c2c21363b1815020f44495e53707d6a67fcf1e6ebc8c5d2df94998e83a0adbab7faf7e0edcec3d4d9929f8885a6abbcb12a27303d1e130409424f5855767b6c61414c5b5675786f622924333e1d10070a919c8b86a5a8bfb2f9f4e3eecdc0d7da4d40575a7974636e25283f32111c0b069d90878aa9a4b3bef5f8efe2c1ccdbd6f6fbece1c2cfd8d59e938489aaa7b0bd262b3c31121f08054e4354597a77606d202d3a3714190e034845525f7c71666bf0fdeae7c4c9ded39895828faca1b6bb9b96818cafa2b5b8f3fee9e4c7caddd04b46515c7f726568232e3934171a0d00
/-- The products of 9 in the field of AES. -/
def mulTable9 : Nat := 0x464f545d626b70790e071c152a233831d6dfc4cdf2fbe0e99e978c85bab3a8a17d746f6659504b42353c272e1118030aede4fff6c9c0dbd2a5acb7be8188939a3039222b141d060f78716a635c554e47a0a9b2bb848d969fe8e1faf3ccc5ded70b0219102f263d34434a5158676e757c9b928980bfb6ada4d3dac1c8f7fee5ecaaa3b8b18e879c95e2ebf0f9c6cfd4dd3a3328211e170c05727b6069565f444d9198838ab5bca7aed9d0cbc2fdf4efe60108131a252c373e49405b526d647f76dcd5cec7f8f1eae3949d868fb0b9a2ab4c455e5768617a73040d161f2029323be7eef5fcc3cad1d8afa6bdb48b829990777e656c535a41483f362d241b120900

/-- The entry of a byte in a table. -/
def lookByte (t : Nat) (b : Byte) : Byte := BitVec.ofNat 8 (t >>> (8 * b.toNat))

theorem of_all_bytes {p : Byte → Bool} (h : (List.range 256).all (fun n => p (BitVec.ofNat 8 n)) = true) (b : Byte) :
    p b = true := by
  have := List.all_eq_true.mp h b.toNat (List.mem_range.mpr b.isLt)
  simpa using this

theorem invSubByte_eq (b : Byte) : invSubByte b = lookByte invSubTable b :=
  beq_iff_eq.mp (of_all_bytes (p := fun b => invSubByte b == lookByte invSubTable b) (by decide +kernel) b)
theorem gfMul_14 (b : Byte) : gfMul 14#8 b = lookByte mulTable14 b :=
  beq_iff_eq.mp (of_all_bytes (p := fun b => gfMul 14#8 b == lookByte mulTable14 b) (by decide +kernel) b)
theorem gfMul_11 (b : Byte) : gfMul 11#8 b = lookByte mulTable11 b :=
  beq_iff_eq.mp (of_all_bytes (p := fun b => gfMul 11#8 b == lookByte mulTable11 b) (by decide +kernel) b)
theorem gfMul_13 (b : Byte) : gfMul 13#8 b = lookByte mulTable13 b :=
  beq_iff_eq.mp (of_all_bytes (p := fun b => gfMul 13#8 b == lookByte mulTable13 b) (by decide +kernel) b)
theorem gfMul_9 (b : Byte) : gfMul 9#8 b = lookByte mulTable9 b :=
  beq_iff_eq.mp (of_all_bytes (p := fun b => gfMul 9#8 b == lookByte mulTable9 b) (by decide +kernel) b)

/-- The inverse of MixColumns for one row of a column. -/
def fastRow (s : Bytes) (c a b d e : Nat) : Byte :=
  lookByte mulTable14 (s.getD (c + a) 0#8) ^^^ lookByte mulTable11 (s.getD (c + b) 0#8) ^^^
    lookByte mulTable13 (s.getD (c + d) 0#8) ^^^ lookByte mulTable9 (s.getD (c + e) 0#8)

/-- The inverse of MixColumns by tables. -/
def fastMix (s : Bytes) : Bytes :=
  [0, 4, 8, 12].flatMap fun c =>
    [fastRow s c 0 1 2 3, fastRow s c 1 2 3 0, fastRow s c 2 3 0 1, fastRow s c 3 0 1 2]

theorem mixColumns_eq (s : Bytes) : mixColumns [14#8, 11#8, 13#8, 9#8] s = fastMix s := by
  simp only [mixColumns, fastMix, fastRow, ← gfMul_14, ← gfMul_11, ← gfMul_13, ← gfMul_9, List.range_succ, List.range_zero,
    List.nil_append, List.cons_append, List.map_cons, List.map_nil, List.foldl_cons, List.foldl_nil, List.flatMap_cons,
    List.flatMap_nil, List.append_nil]
  simp
  refine ⟨?_, ?_, ?_, ?_, ?_, ?_, ?_, ?_, ?_, ?_, ?_, ?_⟩ <;> ac_rfl

/-- Decryption of one block by tables, under round keys. -/
def fastDecrypt (rk : List Bytes) (block : Bytes) : Bytes :=
  let s := xorBytes block (rk.getD 14 [])
  let s := (List.range 13).foldl (fun s r =>
    fastMix (xorBytes ((invShiftRows s).map (lookByte invSubTable)) (rk.getD (13 - r) []))) s
  xorBytes ((invShiftRows s).map (lookByte invSubTable)) (rk.getD 0 [])

theorem aesDecrypt_eq (key block : Bytes) : aesDecrypt key block = fastDecrypt (aesRoundKeys key) block := by
  have h : invSubByte = lookByte invSubTable := funext invSubByte_eq
  have m : mixColumns [14#8, 11#8, 13#8, 9#8] = fastMix := funext mixColumns_eq
  simp only [aesDecrypt, fastDecrypt, h, m]

/-- The unwrapping rounds by tables. -/
def fastUnwrap (rk : List Bytes) (blocks : Nat) : Nat → Bytes → List Bytes → Bytes × List Bytes
  | 0, a, r => (a, r)
  | t + 1, a, r =>
    let i := t % blocks
    let b := fastDecrypt rk (xorBytes a (natBe 8 (t + 1)) ++ r.getD i [])
    fastUnwrap rk blocks t (b.take 8) (r.set i (b.drop 8))

theorem unwrapRounds_eq (key : Bytes) (blocks t : Nat) (a : Bytes) (r : List Bytes) :
    unwrapRounds key blocks t a r = fastUnwrap (aesRoundKeys key) blocks t a r := by
  induction t generalizing a r with
  | zero => rfl
  | succ t ih => simp only [unwrapRounds, fastUnwrap, aesDecrypt_eq, ih]

/-- A key unwrap whose rounds are known. -/
theorem keyUnwrap_eq {key wrapped a : Bytes} {rk r : List Bytes} (hk : aesRoundKeys key = rk) (hl : wrapped.length = 40)
    (h : fastUnwrap rk 4 24 (wrapped.take 8) (pieces 8 4 (wrapped.drop 8)) = (a, r)) :
    keyUnwrap key wrapped = if a = List.replicate 8 0xA6#8 then some r.flatten else none := by
  simp only [keyUnwrap, unwrapRounds_eq, hk, h, hl, true_and]

/-! ## The example of RFC 3394 with a key of 256 bits and data of 256 bits -/

/-- The key that wraps. -/
def exampleKek : Bytes := natBe 32 0x000102030405060708090A0B0C0D0E0F101112131415161718191A1B1C1D1E1F
/-- The wrapped key. -/
def exampleWrapped : Bytes := natBe 40 0x28C9F404C4B810F4CBCCB35CFB87F8263F5786E2D80ED326CBC7F0E71A99F43BFB988B9B7A02DD21
/-- The key. -/
def exampleKey : Bytes := natBe 32 0x00112233445566778899AABBCCDDEEFF000102030405060708090A0B0C0D0E0F

/-- The round keys. -/
def exampleKeys : List Bytes := pieces 16 15 (natBe 240 0x000102030405060708090A0B0C0D0E0F101112131415161718191A1B1C1D1E1FA573C29FA176C498A97FCE93A572C09C1651A8CD0244BEDA1A5DA4C10640BADEAE87DFF00FF11B68A68ED5FB03FC15676DE1F1486FA54F9275F8EB5373B8518DC656827FC9A799176F294CEC6CD5598B3DE23A75524775E727BF9EB45407CF390BDC905FC27B0948AD5245A4C1871C2F45F5A66017B2D387300D4D33640A820A7CCFF71CBEB4FE5413E6BBF0D261A7DFF01AFAFEE7A82979D7A5644AB3AFE6402541FE719BF500258813BBD55A721C0A4E5A6699A9F24FE07E572BAACDF8CDEA24FC79CCBF0979E9371AC23C6D68DE36)

theorem exampleKeys_eq : aesRoundKeys exampleKek = exampleKeys := by decide +kernel

theorem example_unwraps : keyUnwrap exampleKek exampleWrapped = some exampleKey := by
  rw [keyUnwrap_eq exampleKeys_eq (by decide +kernel) (a := List.replicate 8 0xA6#8) (r := pieces 8 4 exampleKey)
    (by decide +kernel), if_pos rfl]
  decide +kernel

theorem example_damaged : keyUnwrap exampleKek (zeroBytes 40) = none := by
  have h := keyUnwrap_eq exampleKeys_eq (wrapped := zeroBytes 40) (by decide +kernel) (Prod.mk.eta).symm
  rw [h, if_neg (by decide +kernel)]

end Sys2Proof.Machine
end

