-- ==== Sys2Proof/Laws/Frames.lean ====
section
/-!
SUPPORT. Frames: how the parts that an operation changes add up over the operations it is made of.
-/

namespace Sys2Proof.Machine

/-- A state with some parts replaced by those of reset, so that two states differ in those parts alone when what is left
is equal. -/
def State.hide (l : List Part) (s : State) : State where
  pending := if l.contains .pending then State.reset.pending else s.pending
  now := if l.contains .now then State.reset.now else s.now
  mode := if l.contains .mode then State.reset.mode else s.mode
  objs := if l.contains .objs then State.reset.objs else s.objs
  blobs := if l.contains .blobs then State.reset.blobs else s.blobs
  mem := if l.contains .mem then State.reset.mem else s.mem
  flips := if l.contains .flips then State.reset.flips else s.flips
  ports := if l.contains .ports then State.reset.ports else s.ports
  pins := if l.contains .pins then State.reset.pins else s.pins
  convs := if l.contains .convs then State.reset.convs else s.convs
  chains := if l.contains .chains then State.reset.chains else s.chains
  map := if l.contains .map then State.reset.map else s.map
  disp := if l.contains .disp then State.reset.disp else s.disp
  sweeps := if l.contains .sweeps then State.reset.sweeps else s.sweeps
  busSources := if l.contains .busSources then State.reset.busSources else s.busSources
  cans := if l.contains .cans then State.reset.cans else s.cans
  lins := if l.contains .lins then State.reset.lins else s.lins
  sents := if l.contains .sents then State.reset.sents else s.sents
  gov := if l.contains .gov then State.reset.gov else s.gov
  cores := if l.contains .cores then State.reset.cores else s.cores
  sources := if l.contains .sources then State.reset.sources else s.sources
  timebase := if l.contains .timebase then State.reset.timebase else s.timebase
  trigOuts := if l.contains .trigOuts then State.reset.trigOuts else s.trigOuts
  queues := if l.contains .queues then State.reset.queues else s.queues
  pantry := if l.contains .pantry then State.reset.pantry else s.pantry
  streams := if l.contains .streams then State.reset.streams else s.streams
  zones := if l.contains .zones then State.reset.zones else s.zones
  loader := if l.contains .loader then State.reset.loader else s.loader
  frames := if l.contains .frames then State.reset.frames else s.frames
  loft := if l.contains .loft then State.reset.loft else s.loft
  keys := if l.contains .keys then State.reset.keys else s.keys
  scrub := if l.contains .scrub then State.reset.scrub else s.scrub
  sessions := if l.contains .sessions then State.reset.sessions else s.sessions
  links := if l.contains .links then State.reset.links else s.links
  claims := if l.contains .claims then State.reset.claims else s.claims
  cycle := if l.contains .cycle then State.reset.cycle else s.cycle
  keyFailures := if l.contains .keyFailures then State.reset.keyFailures else s.keyFailures
  keyLockouts := if l.contains .keyLockouts then State.reset.keyLockouts else s.keyLockouts
  cellar := if l.contains .cellar then State.reset.cellar else s.cellar
  cal := if l.contains .cal then State.reset.cal else s.cal
  power := if l.contains .power then State.reset.power else s.power
  log := if l.contains .log then State.reset.log else s.log
  outbox := if l.contains .outbox then State.reset.outbox else s.outbox
  fresh := if l.contains .fresh then State.reset.fresh else s.fresh

/-- A part is hidden, or left equal. -/
theorem hidden {α : Type} {l : List Part} {p : Part} {r a b : α} (h : l.contains p = false → a = b) :
    (if l.contains p then r else a) = if l.contains p then r else b := by
  cases e : l.contains p with
  | true => rfl
  | false => exact h e

/-- A part that is not hidden is left equal. -/
theorem unhidden {α : Type} {l : List Part} {p : Part} {r a b : α} (e : l.contains p = false)
    (h : (if l.contains p then r else a) = if l.contains p then r else b) : a = b := by rwa [e] at h

/-- Parts that are left equal are alike. -/
theorem changes_iff (l : List Part) (s u : State) : Changes l s u ↔ u.hide l = s.hide l := by
  constructor
  · intro h
    simp only [State.hide, State.mk.injEq]
    exact ⟨hidden (h .pending), hidden (h .now), hidden (h .mode), hidden (h .objs), hidden (h .blobs),
      hidden (h .mem), hidden (h .flips), hidden (h .ports), hidden (h .pins), hidden (h .convs),
      hidden (h .chains), hidden (h .map), hidden (h .disp), hidden (h .sweeps), hidden (h .busSources),
      hidden (h .cans), hidden (h .lins), hidden (h .sents), hidden (h .gov), hidden (h .cores),
      hidden (h .sources), hidden (h .timebase), hidden (h .trigOuts), hidden (h .queues),
      hidden (h .pantry), hidden (h .streams), hidden (h .zones), hidden (h .loader), hidden (h .frames),
      hidden (h .loft), hidden (h .keys), hidden (h .scrub), hidden (h .sessions), hidden (h .links),
      hidden (h .claims), hidden (h .cycle), hidden (h .keyFailures), hidden (h .keyLockouts),
      hidden (h .cellar), hidden (h .cal), hidden (h .power), hidden (h .log), hidden (h .outbox),
      hidden (h .fresh)⟩
  · intro h p e
    cases p with
    | pending => exact unhidden e (congrArg State.pending h)
    | now => exact unhidden e (congrArg State.now h)
    | mode => exact unhidden e (congrArg State.mode h)
    | objs => exact unhidden e (congrArg State.objs h)
    | blobs => exact unhidden e (congrArg State.blobs h)
    | mem => exact unhidden e (congrArg State.mem h)
    | flips => exact unhidden e (congrArg State.flips h)
    | ports => exact unhidden e (congrArg State.ports h)
    | pins => exact unhidden e (congrArg State.pins h)
    | convs => exact unhidden e (congrArg State.convs h)
    | chains => exact unhidden e (congrArg State.chains h)
    | map => exact unhidden e (congrArg State.map h)
    | disp => exact unhidden e (congrArg State.disp h)
    | sweeps => exact unhidden e (congrArg State.sweeps h)
    | busSources => exact unhidden e (congrArg State.busSources h)
    | cans => exact unhidden e (congrArg State.cans h)
    | lins => exact unhidden e (congrArg State.lins h)
    | sents => exact unhidden e (congrArg State.sents h)
    | gov => exact unhidden e (congrArg State.gov h)
    | cores => exact unhidden e (congrArg State.cores h)
    | sources => exact unhidden e (congrArg State.sources h)
    | timebase => exact unhidden e (congrArg State.timebase h)
    | trigOuts => exact unhidden e (congrArg State.trigOuts h)
    | queues => exact unhidden e (congrArg State.queues h)
    | pantry => exact unhidden e (congrArg State.pantry h)
    | streams => exact unhidden e (congrArg State.streams h)
    | zones => exact unhidden e (congrArg State.zones h)
    | loader => exact unhidden e (congrArg State.loader h)
    | frames => exact unhidden e (congrArg State.frames h)
    | loft => exact unhidden e (congrArg State.loft h)
    | keys => exact unhidden e (congrArg State.keys h)
    | scrub => exact unhidden e (congrArg State.scrub h)
    | sessions => exact unhidden e (congrArg State.sessions h)
    | links => exact unhidden e (congrArg State.links h)
    | claims => exact unhidden e (congrArg State.claims h)
    | cycle => exact unhidden e (congrArg State.cycle h)
    | keyFailures => exact unhidden e (congrArg State.keyFailures h)
    | keyLockouts => exact unhidden e (congrArg State.keyLockouts h)
    | cellar => exact unhidden e (congrArg State.cellar h)
    | cal => exact unhidden e (congrArg State.cal h)
    | power => exact unhidden e (congrArg State.power h)
    | log => exact unhidden e (congrArg State.log h)
    | outbox => exact unhidden e (congrArg State.outbox h)
    | fresh => exact unhidden e (congrArg State.fresh h)

theorem Changes.refl (l : List Part) (s : State) : Changes l s s := fun p _ => by cases p <;> rfl

theorem Part.same_trans {s t u : State} {p : Part} (h : p.same s t) (g : p.same t u) : p.same s u := by
  cases p <;> exact Eq.trans g h

/-- What changes in two operations changes in one of them. -/
theorem Changes.trans {l : List Part} {s t u : State} (h : Changes l s t) (g : Changes l t u) : Changes l s u :=
  fun p hp => Part.same_trans (h p hp) (g p hp)

/-- A frame may name more parts. -/
theorem Changes.mono {k l : List Part} {s u : State} (h : Changes k s u) (hk : k.all l.contains = true) : Changes l s u :=
  fun p hp => h p <| by
    cases e : k.contains p with
    | false => rfl
    | true =>
      have m := List.all_eq_true.mp hk p (List.contains_iff_mem.mp e)
      rw [hp] at m
      exact absurd m (by decide)

/-- An operation after others: the frame of the whole. -/
theorem Changes.step {k l : List Part} {s t u : State} (g : Changes k t u) (hk : k.all l.contains = true)
    (h : Changes l s t) : Changes l s u := h.trans (g.mono hk)

/-- An update of fields after other operations. -/
theorem Changes.upd {l : List Part} {s t u : State} (h : Changes l s t) (e : u.hide l = t.hide l) : Changes l s u :=
  h.trans ((changes_iff l t u).mpr e)

/-- A walk over a list of operations. -/
theorem Changes.foldl {β : Type} {l : List Part} {s : State} {f : State → β → State} (xs : List β)
    (hf : ∀ t x, Changes l s t → Changes l s (f t x)) {t : State} (h : Changes l s t) : Changes l s (xs.foldl f t) := by
  induction xs generalizing t with
  | nil => exact h
  | cons x xs ih => exact ih (hf _ _ h)

/-- A walk over numbers. -/
theorem Changes.each {l : List Part} {s : State} {f : State → Nat → State} (xs : List Nat)
    (hf : ∀ t x, Changes l s t → Changes l s (f t x)) {t : State} (h : Changes l s t) : Changes l s (t.each xs f) :=
  Changes.foldl xs hf h

/-- The frame of an operation that may be refused: of its effect, and of the trace that a refusal leaves. -/
def ResChanges (l : List Part) (s : State) (r : Res) : Prop :=
  match r with
  | .ok u => Changes l s u
  | .error e => ∀ u, e.after = some u → Changes l s u

/-- The frame of an outcome. -/
def OutChanges (l : List Part) (s : State) (o : Host.Outcome State Fault Refusal) : Prop := ∀ u, o = .next u → Changes l s u

end Sys2Proof.Machine
end

