-- ==== Sys2Proof/Laws/Units.lean ====
section
/-!
SUPPORT. What reading an object or a unit gives after an update of something else: what it gave before.
-/

namespace Sys2Proof.Machine

/-- Two states with the same parts read alike. -/
theorem objAt_congr {u s : State} (h : u.objs = s.objs) (k : Nat) : u.objAt k = s.objAt k := by
  simp only [State.objAt, h]
theorem obj_congr {u s : State} (h : u.objs = s.objs) (k l : Nat) : u.obj k l = s.obj k l := objAt_congr h _
theorem objN_congr {u s : State} (h : u.objs = s.objs) (k l : Nat) : u.objN k l = s.objN k l := congrArg Int.toNat (obj_congr h _ _)
theorem own_congr {u s : State} (h : u.objs = s.objs) (k l m : Nat) : u.own k l m = s.own k l m := congrArg Int.toNat (objAt_congr h _)
theorem ready_congr {u s : State} (h : u.objs = s.objs) (k : Nat) : u.ready k = s.ready k := congrArg (bitOf · k) (objN_congr h _ _)
theorem blob_congr {u s : State} (h : u.blobs = s.blobs) (k l : Nat) : u.blob k l = s.blob k l := by
  simp only [State.blob, h]
theorem readByte_congr {u s : State} (h : u.mem = s.mem) (k : Nat) : u.readByte k = s.readByte k := by
  simp only [State.readByte, h]
theorem port_congr {u s : State} (h : u.ports = s.ports) (k : Nat) : u.port k = s.port k := by
  simp only [State.port, h]
theorem pin_congr {u s : State} (h : u.pins = s.pins) (k : Nat) : u.pin k = s.pin k := by
  simp only [State.pin, h]
theorem conv_congr {u s : State} (h : u.convs = s.convs) (k : Nat) : u.conv k = s.conv k := by
  simp only [State.conv, h]
theorem chain_congr {u s : State} (h : u.chains = s.chains) (k : Nat) : u.chain k = s.chain k := by
  simp only [State.chain, h]
theorem sweep_congr {u s : State} (h : u.sweeps = s.sweeps) (k : Nat) : u.sweep k = s.sweep k := by
  simp only [State.sweep, h]
theorem busSource_congr {u s : State} (h : u.busSources = s.busSources) (k : Nat) : u.busSource k = s.busSource k := by
  simp only [State.busSource, h]
theorem can_congr {u s : State} (h : u.cans = s.cans) (k : Nat) : u.can k = s.can k := by
  simp only [State.can, h]
theorem lin_congr {u s : State} (h : u.lins = s.lins) (k : Nat) : u.lin k = s.lin k := by
  simp only [State.lin, h]
theorem sent_congr {u s : State} (h : u.sents = s.sents) (k : Nat) : u.sent k = s.sent k := by
  simp only [State.sent, h]
theorem core_congr {u s : State} (h : u.cores = s.cores) (k : Nat) : u.core k = s.core k := by
  simp only [State.core, h]
theorem source_congr {u s : State} (h : u.sources = s.sources) (k : Nat) : u.source k = s.source k := by
  simp only [State.source, h]
theorem trigOut_congr {u s : State} (h : u.trigOuts = s.trigOuts) (k : Nat) : u.trigOut k = s.trigOut k := by
  simp only [State.trigOut, h]
theorem queue_congr {u s : State} (h : u.queues = s.queues) (k : Nat) : u.queue k = s.queue k := by
  simp only [State.queue, h]
theorem stream_congr {u s : State} (h : u.streams = s.streams) (k l : Nat) : u.stream k l = s.stream k l := by
  simp only [State.stream, h]
theorem zone_congr {u s : State} (h : u.zones = s.zones) (k : Nat) : u.zone k = s.zone k := by
  simp only [State.zone, h]
theorem session_congr {u s : State} (h : u.sessions = s.sessions) (k : Nat) : u.session k = s.session k := by
  simp only [State.session, h]
theorem step_congr {u s : State} (h : u.disp = s.disp) (k : Nat) : u.step k = s.step k := by
  simp only [State.step, h]
theorem calRun_congr {u s : State} (h : u.cal = s.cal) (k : Nat) : u.calRun k = s.calRun k := by
  simp only [State.calRun, h]
theorem calFigure_congr {u s : State} (h : u.cal = s.cal) (k : Nat) : u.calFigure k = s.calFigure k := by
  simp only [State.calFigure, h]
theorem claimOf_congr {u s : State} (h : u.claims = s.claims) (k l : Nat) : u.claimOf k l = s.claimOf k l := by
  simp only [State.claimOf, h]
theorem holder_congr {u s : State} (h : u.claims = s.claims) (h' : u.sessions = s.sessions) (k l : Nat) :
    u.holder k l = s.holder k l := by
  simp only [State.holder, claimOf_congr h, session_congr h']

section
variable (s : State) (t : Tk)
@[simp] theorem objAt_advance (k : Nat) : (s.advance t).objAt k = s.objAt k := objAt_congr (advance_objs s t) _
@[simp] theorem obj_advance (k l : Nat) : (s.advance t).obj k l = s.obj k l := obj_congr (advance_objs s t) _ _
@[simp] theorem objN_advance (k l : Nat) : (s.advance t).objN k l = s.objN k l := objN_congr (advance_objs s t) _ _
@[simp] theorem own_advance (k l m : Nat) : (s.advance t).own k l m = s.own k l m := own_congr (advance_objs s t) _ _ _
@[simp] theorem ready_advance (k : Nat) : (s.advance t).ready k = s.ready k := ready_congr (advance_objs s t) _
@[simp] theorem blob_advance (k l : Nat) : (s.advance t).blob k l = s.blob k l := blob_congr (advance_blobs s t) _ _
@[simp] theorem readByte_advance (k : Nat) : (s.advance t).readByte k = s.readByte k := readByte_congr (advance_mem s t) _
@[simp] theorem port_advance (k : Nat) : (s.advance t).port k = s.port k := port_congr (advance_ports s t) _
@[simp] theorem pin_advance (k : Nat) : (s.advance t).pin k = s.pin k := pin_congr (advance_pins s t) _
@[simp] theorem conv_advance (k : Nat) : (s.advance t).conv k = s.conv k := conv_congr (advance_convs s t) _
@[simp] theorem chain_advance (k : Nat) : (s.advance t).chain k = s.chain k := chain_congr (advance_chains s t) _
@[simp] theorem sweep_advance (k : Nat) : (s.advance t).sweep k = s.sweep k := sweep_congr (advance_sweeps s t) _
@[simp] theorem busSource_advance (k : Nat) : (s.advance t).busSource k = s.busSource k := busSource_congr (advance_busSources s t) _
@[simp] theorem can_advance (k : Nat) : (s.advance t).can k = s.can k := can_congr (advance_cans s t) _
@[simp] theorem lin_advance (k : Nat) : (s.advance t).lin k = s.lin k := lin_congr (advance_lins s t) _
@[simp] theorem sent_advance (k : Nat) : (s.advance t).sent k = s.sent k := sent_congr (advance_sents s t) _
@[simp] theorem core_advance (k : Nat) : (s.advance t).core k = s.core k := core_congr (advance_cores s t) _
@[simp] theorem source_advance (k : Nat) : (s.advance t).source k = s.source k := source_congr (advance_sources s t) _
@[simp] theorem trigOut_advance (k : Nat) : (s.advance t).trigOut k = s.trigOut k := trigOut_congr (advance_trigOuts s t) _
@[simp] theorem queue_advance (k : Nat) : (s.advance t).queue k = s.queue k := queue_congr (advance_queues s t) _
@[simp] theorem stream_advance (k l : Nat) : (s.advance t).stream k l = s.stream k l := stream_congr (advance_streams s t) _ _
@[simp] theorem zone_advance (k : Nat) : (s.advance t).zone k = s.zone k := zone_congr (advance_zones s t) _
@[simp] theorem session_advance (k : Nat) : (s.advance t).session k = s.session k := session_congr (advance_sessions s t) _
@[simp] theorem step_advance (k : Nat) : (s.advance t).step k = s.step k := step_congr (advance_disp s t) _
@[simp] theorem calRun_advance (k : Nat) : (s.advance t).calRun k = s.calRun k := calRun_congr (advance_cal s t) _
@[simp] theorem calFigure_advance (k : Nat) : (s.advance t).calFigure k = s.calFigure k := calFigure_congr (advance_cal s t) _
@[simp] theorem claimOf_advance (k l : Nat) : (s.advance t).claimOf k l = s.claimOf k l := claimOf_congr (advance_claims s t) _ _
@[simp] theorem holder_advance (k l : Nat) : (s.advance t).holder k l = s.holder k l :=
  holder_congr (advance_claims s t) (advance_sessions s t) _ _
end
section
variable (s : State) (a : Nat) (b : Byte)
@[simp] theorem objAt_writeByte (k : Nat) : (s.writeByte a b).objAt k = s.objAt k := objAt_congr (writeByte_objs s a b) _
@[simp] theorem obj_writeByte (k l : Nat) : (s.writeByte a b).obj k l = s.obj k l := obj_congr (writeByte_objs s a b) _ _
@[simp] theorem objN_writeByte (k l : Nat) : (s.writeByte a b).objN k l = s.objN k l := objN_congr (writeByte_objs s a b) _ _
@[simp] theorem own_writeByte (k l m : Nat) : (s.writeByte a b).own k l m = s.own k l m := own_congr (writeByte_objs s a b) _ _ _
@[simp] theorem ready_writeByte (k : Nat) : (s.writeByte a b).ready k = s.ready k := ready_congr (writeByte_objs s a b) _
@[simp] theorem blob_writeByte (k l : Nat) : (s.writeByte a b).blob k l = s.blob k l := blob_congr (writeByte_blobs s a b) _ _
@[simp] theorem port_writeByte (k : Nat) : (s.writeByte a b).port k = s.port k := port_congr (writeByte_ports s a b) _
@[simp] theorem pin_writeByte (k : Nat) : (s.writeByte a b).pin k = s.pin k := pin_congr (writeByte_pins s a b) _
@[simp] theorem conv_writeByte (k : Nat) : (s.writeByte a b).conv k = s.conv k := conv_congr (writeByte_convs s a b) _
@[simp] theorem chain_writeByte (k : Nat) : (s.writeByte a b).chain k = s.chain k := chain_congr (writeByte_chains s a b) _
@[simp] theorem sweep_writeByte (k : Nat) : (s.writeByte a b).sweep k = s.sweep k := sweep_congr (writeByte_sweeps s a b) _
@[simp] theorem busSource_writeByte (k : Nat) : (s.writeByte a b).busSource k = s.busSource k := busSource_congr (writeByte_busSources s a b) _
@[simp] theorem can_writeByte (k : Nat) : (s.writeByte a b).can k = s.can k := can_congr (writeByte_cans s a b) _
@[simp] theorem lin_writeByte (k : Nat) : (s.writeByte a b).lin k = s.lin k := lin_congr (writeByte_lins s a b) _
@[simp] theorem sent_writeByte (k : Nat) : (s.writeByte a b).sent k = s.sent k := sent_congr (writeByte_sents s a b) _
@[simp] theorem core_writeByte (k : Nat) : (s.writeByte a b).core k = s.core k := core_congr (writeByte_cores s a b) _
@[simp] theorem source_writeByte (k : Nat) : (s.writeByte a b).source k = s.source k := source_congr (writeByte_sources s a b) _
@[simp] theorem trigOut_writeByte (k : Nat) : (s.writeByte a b).trigOut k = s.trigOut k := trigOut_congr (writeByte_trigOuts s a b) _
@[simp] theorem queue_writeByte (k : Nat) : (s.writeByte a b).queue k = s.queue k := queue_congr (writeByte_queues s a b) _
@[simp] theorem stream_writeByte (k l : Nat) : (s.writeByte a b).stream k l = s.stream k l := stream_congr (writeByte_streams s a b) _ _
@[simp] theorem zone_writeByte (k : Nat) : (s.writeByte a b).zone k = s.zone k := zone_congr (writeByte_zones s a b) _
@[simp] theorem session_writeByte (k : Nat) : (s.writeByte a b).session k = s.session k := session_congr (writeByte_sessions s a b) _
@[simp] theorem step_writeByte (k : Nat) : (s.writeByte a b).step k = s.step k := step_congr (writeByte_disp s a b) _
@[simp] theorem calRun_writeByte (k : Nat) : (s.writeByte a b).calRun k = s.calRun k := calRun_congr (writeByte_cal s a b) _
@[simp] theorem calFigure_writeByte (k : Nat) : (s.writeByte a b).calFigure k = s.calFigure k := calFigure_congr (writeByte_cal s a b) _
@[simp] theorem claimOf_writeByte (k l : Nat) : (s.writeByte a b).claimOf k l = s.claimOf k l := claimOf_congr (writeByte_claims s a b) _ _
@[simp] theorem holder_writeByte (k l : Nat) : (s.writeByte a b).holder k l = s.holder k l :=
  holder_congr (writeByte_claims s a b) (writeByte_sessions s a b) _ _
end
section
variable (s : State) (a : Nat) (bs : Bytes)
@[simp] theorem objAt_writeBytes (k : Nat) : (s.writeBytes a bs).objAt k = s.objAt k := objAt_congr (writeBytes_objs s a bs) _
@[simp] theorem obj_writeBytes (k l : Nat) : (s.writeBytes a bs).obj k l = s.obj k l := obj_congr (writeBytes_objs s a bs) _ _
@[simp] theorem objN_writeBytes (k l : Nat) : (s.writeBytes a bs).objN k l = s.objN k l := objN_congr (writeBytes_objs s a bs) _ _
@[simp] theorem own_writeBytes (k l m : Nat) : (s.writeBytes a bs).own k l m = s.own k l m := own_congr (writeBytes_objs s a bs) _ _ _
@[simp] theorem ready_writeBytes (k : Nat) : (s.writeBytes a bs).ready k = s.ready k := ready_congr (writeBytes_objs s a bs) _
@[simp] theorem blob_writeBytes (k l : Nat) : (s.writeBytes a bs).blob k l = s.blob k l := blob_congr (writeBytes_blobs s a bs) _ _
@[simp] theorem port_writeBytes (k : Nat) : (s.writeBytes a bs).port k = s.port k := port_congr (writeBytes_ports s a bs) _
@[simp] theorem pin_writeBytes (k : Nat) : (s.writeBytes a bs).pin k = s.pin k := pin_congr (writeBytes_pins s a bs) _
@[simp] theorem conv_writeBytes (k : Nat) : (s.writeBytes a bs).conv k = s.conv k := conv_congr (writeBytes_convs s a bs) _
@[simp] theorem chain_writeBytes (k : Nat) : (s.writeBytes a bs).chain k = s.chain k := chain_congr (writeBytes_chains s a bs) _
@[simp] theorem sweep_writeBytes (k : Nat) : (s.writeBytes a bs).sweep k = s.sweep k := sweep_congr (writeBytes_sweeps s a bs) _
@[simp] theorem busSource_writeBytes (k : Nat) : (s.writeBytes a bs).busSource k = s.busSource k := busSource_congr (writeBytes_busSources s a bs) _
@[simp] theorem can_writeBytes (k : Nat) : (s.writeBytes a bs).can k = s.can k := can_congr (writeBytes_cans s a bs) _
@[simp] theorem lin_writeBytes (k : Nat) : (s.writeBytes a bs).lin k = s.lin k := lin_congr (writeBytes_lins s a bs) _
@[simp] theorem sent_writeBytes (k : Nat) : (s.writeBytes a bs).sent k = s.sent k := sent_congr (writeBytes_sents s a bs) _
@[simp] theorem core_writeBytes (k : Nat) : (s.writeBytes a bs).core k = s.core k := core_congr (writeBytes_cores s a bs) _
@[simp] theorem source_writeBytes (k : Nat) : (s.writeBytes a bs).source k = s.source k := source_congr (writeBytes_sources s a bs) _
@[simp] theorem trigOut_writeBytes (k : Nat) : (s.writeBytes a bs).trigOut k = s.trigOut k := trigOut_congr (writeBytes_trigOuts s a bs) _
@[simp] theorem queue_writeBytes (k : Nat) : (s.writeBytes a bs).queue k = s.queue k := queue_congr (writeBytes_queues s a bs) _
@[simp] theorem stream_writeBytes (k l : Nat) : (s.writeBytes a bs).stream k l = s.stream k l := stream_congr (writeBytes_streams s a bs) _ _
@[simp] theorem zone_writeBytes (k : Nat) : (s.writeBytes a bs).zone k = s.zone k := zone_congr (writeBytes_zones s a bs) _
@[simp] theorem session_writeBytes (k : Nat) : (s.writeBytes a bs).session k = s.session k := session_congr (writeBytes_sessions s a bs) _
@[simp] theorem step_writeBytes (k : Nat) : (s.writeBytes a bs).step k = s.step k := step_congr (writeBytes_disp s a bs) _
@[simp] theorem calRun_writeBytes (k : Nat) : (s.writeBytes a bs).calRun k = s.calRun k := calRun_congr (writeBytes_cal s a bs) _
@[simp] theorem calFigure_writeBytes (k : Nat) : (s.writeBytes a bs).calFigure k = s.calFigure k := calFigure_congr (writeBytes_cal s a bs) _
@[simp] theorem claimOf_writeBytes (k l : Nat) : (s.writeBytes a bs).claimOf k l = s.claimOf k l := claimOf_congr (writeBytes_claims s a bs) _ _
@[simp] theorem holder_writeBytes (k l : Nat) : (s.writeBytes a bs).holder k l = s.holder k l :=
  holder_congr (writeBytes_claims s a bs) (writeBytes_sessions s a bs) _ _
end
section
variable (s : State) (a n : Nat)
@[simp] theorem objAt_clearBytes (k : Nat) : (s.clearBytes a n).objAt k = s.objAt k := objAt_congr (clearBytes_objs s a n) _
@[simp] theorem obj_clearBytes (k l : Nat) : (s.clearBytes a n).obj k l = s.obj k l := obj_congr (clearBytes_objs s a n) _ _
@[simp] theorem objN_clearBytes (k l : Nat) : (s.clearBytes a n).objN k l = s.objN k l := objN_congr (clearBytes_objs s a n) _ _
@[simp] theorem own_clearBytes (k l m : Nat) : (s.clearBytes a n).own k l m = s.own k l m := own_congr (clearBytes_objs s a n) _ _ _
@[simp] theorem ready_clearBytes (k : Nat) : (s.clearBytes a n).ready k = s.ready k := ready_congr (clearBytes_objs s a n) _
@[simp] theorem blob_clearBytes (k l : Nat) : (s.clearBytes a n).blob k l = s.blob k l := blob_congr (clearBytes_blobs s a n) _ _
@[simp] theorem port_clearBytes (k : Nat) : (s.clearBytes a n).port k = s.port k := port_congr (clearBytes_ports s a n) _
@[simp] theorem pin_clearBytes (k : Nat) : (s.clearBytes a n).pin k = s.pin k := pin_congr (clearBytes_pins s a n) _
@[simp] theorem conv_clearBytes (k : Nat) : (s.clearBytes a n).conv k = s.conv k := conv_congr (clearBytes_convs s a n) _
@[simp] theorem chain_clearBytes (k : Nat) : (s.clearBytes a n).chain k = s.chain k := chain_congr (clearBytes_chains s a n) _
@[simp] theorem sweep_clearBytes (k : Nat) : (s.clearBytes a n).sweep k = s.sweep k := sweep_congr (clearBytes_sweeps s a n) _
@[simp] theorem busSource_clearBytes (k : Nat) : (s.clearBytes a n).busSource k = s.busSource k := busSource_congr (clearBytes_busSources s a n) _
@[simp] theorem can_clearBytes (k : Nat) : (s.clearBytes a n).can k = s.can k := can_congr (clearBytes_cans s a n) _
@[simp] theorem lin_clearBytes (k : Nat) : (s.clearBytes a n).lin k = s.lin k := lin_congr (clearBytes_lins s a n) _
@[simp] theorem sent_clearBytes (k : Nat) : (s.clearBytes a n).sent k = s.sent k := sent_congr (clearBytes_sents s a n) _
@[simp] theorem core_clearBytes (k : Nat) : (s.clearBytes a n).core k = s.core k := core_congr (clearBytes_cores s a n) _
@[simp] theorem source_clearBytes (k : Nat) : (s.clearBytes a n).source k = s.source k := source_congr (clearBytes_sources s a n) _
@[simp] theorem trigOut_clearBytes (k : Nat) : (s.clearBytes a n).trigOut k = s.trigOut k := trigOut_congr (clearBytes_trigOuts s a n) _
@[simp] theorem queue_clearBytes (k : Nat) : (s.clearBytes a n).queue k = s.queue k := queue_congr (clearBytes_queues s a n) _
@[simp] theorem stream_clearBytes (k l : Nat) : (s.clearBytes a n).stream k l = s.stream k l := stream_congr (clearBytes_streams s a n) _ _
@[simp] theorem zone_clearBytes (k : Nat) : (s.clearBytes a n).zone k = s.zone k := zone_congr (clearBytes_zones s a n) _
@[simp] theorem session_clearBytes (k : Nat) : (s.clearBytes a n).session k = s.session k := session_congr (clearBytes_sessions s a n) _
@[simp] theorem step_clearBytes (k : Nat) : (s.clearBytes a n).step k = s.step k := step_congr (clearBytes_disp s a n) _
@[simp] theorem calRun_clearBytes (k : Nat) : (s.clearBytes a n).calRun k = s.calRun k := calRun_congr (clearBytes_cal s a n) _
@[simp] theorem calFigure_clearBytes (k : Nat) : (s.clearBytes a n).calFigure k = s.calFigure k := calFigure_congr (clearBytes_cal s a n) _
@[simp] theorem claimOf_clearBytes (k l : Nat) : (s.clearBytes a n).claimOf k l = s.claimOf k l := claimOf_congr (clearBytes_claims s a n) _ _
@[simp] theorem holder_clearBytes (k l : Nat) : (s.clearBytes a n).holder k l = s.holder k l :=
  holder_congr (clearBytes_claims s a n) (clearBytes_sessions s a n) _ _
end
section
variable (s : State) (a n : Nat)
@[simp] theorem objAt_freshWords (k : Nat) : (s.freshWords a n).objAt k = s.objAt k := objAt_congr (freshWords_objs s a n) _
@[simp] theorem obj_freshWords (k l : Nat) : (s.freshWords a n).obj k l = s.obj k l := obj_congr (freshWords_objs s a n) _ _
@[simp] theorem objN_freshWords (k l : Nat) : (s.freshWords a n).objN k l = s.objN k l := objN_congr (freshWords_objs s a n) _ _
@[simp] theorem own_freshWords (k l m : Nat) : (s.freshWords a n).own k l m = s.own k l m := own_congr (freshWords_objs s a n) _ _ _
@[simp] theorem ready_freshWords (k : Nat) : (s.freshWords a n).ready k = s.ready k := ready_congr (freshWords_objs s a n) _
@[simp] theorem blob_freshWords (k l : Nat) : (s.freshWords a n).blob k l = s.blob k l := blob_congr (freshWords_blobs s a n) _ _
@[simp] theorem readByte_freshWords (k : Nat) : (s.freshWords a n).readByte k = s.readByte k := readByte_congr (freshWords_mem s a n) _
@[simp] theorem port_freshWords (k : Nat) : (s.freshWords a n).port k = s.port k := port_congr (freshWords_ports s a n) _
@[simp] theorem pin_freshWords (k : Nat) : (s.freshWords a n).pin k = s.pin k := pin_congr (freshWords_pins s a n) _
@[simp] theorem conv_freshWords (k : Nat) : (s.freshWords a n).conv k = s.conv k := conv_congr (freshWords_convs s a n) _
@[simp] theorem chain_freshWords (k : Nat) : (s.freshWords a n).chain k = s.chain k := chain_congr (freshWords_chains s a n) _
@[simp] theorem sweep_freshWords (k : Nat) : (s.freshWords a n).sweep k = s.sweep k := sweep_congr (freshWords_sweeps s a n) _
@[simp] theorem busSource_freshWords (k : Nat) : (s.freshWords a n).busSource k = s.busSource k := busSource_congr (freshWords_busSources s a n) _
@[simp] theorem can_freshWords (k : Nat) : (s.freshWords a n).can k = s.can k := can_congr (freshWords_cans s a n) _
@[simp] theorem lin_freshWords (k : Nat) : (s.freshWords a n).lin k = s.lin k := lin_congr (freshWords_lins s a n) _
@[simp] theorem sent_freshWords (k : Nat) : (s.freshWords a n).sent k = s.sent k := sent_congr (freshWords_sents s a n) _
@[simp] theorem core_freshWords (k : Nat) : (s.freshWords a n).core k = s.core k := core_congr (freshWords_cores s a n) _
@[simp] theorem source_freshWords (k : Nat) : (s.freshWords a n).source k = s.source k := source_congr (freshWords_sources s a n) _
@[simp] theorem trigOut_freshWords (k : Nat) : (s.freshWords a n).trigOut k = s.trigOut k := trigOut_congr (freshWords_trigOuts s a n) _
@[simp] theorem queue_freshWords (k : Nat) : (s.freshWords a n).queue k = s.queue k := queue_congr (freshWords_queues s a n) _
@[simp] theorem stream_freshWords (k l : Nat) : (s.freshWords a n).stream k l = s.stream k l := stream_congr (freshWords_streams s a n) _ _
@[simp] theorem zone_freshWords (k : Nat) : (s.freshWords a n).zone k = s.zone k := zone_congr (freshWords_zones s a n) _
@[simp] theorem session_freshWords (k : Nat) : (s.freshWords a n).session k = s.session k := session_congr (freshWords_sessions s a n) _
@[simp] theorem step_freshWords (k : Nat) : (s.freshWords a n).step k = s.step k := step_congr (freshWords_disp s a n) _
@[simp] theorem calRun_freshWords (k : Nat) : (s.freshWords a n).calRun k = s.calRun k := calRun_congr (freshWords_cal s a n) _
@[simp] theorem calFigure_freshWords (k : Nat) : (s.freshWords a n).calFigure k = s.calFigure k := calFigure_congr (freshWords_cal s a n) _
@[simp] theorem claimOf_freshWords (k l : Nat) : (s.freshWords a n).claimOf k l = s.claimOf k l := claimOf_congr (freshWords_claims s a n) _ _
@[simp] theorem holder_freshWords (k l : Nat) : (s.freshWords a n).holder k l = s.holder k l :=
  holder_congr (freshWords_claims s a n) (freshWords_sessions s a n) _ _
end
section
variable (s : State) (k : Nat) (v : Int)
@[simp] theorem blob_setObjAt (uk l : Nat) : (s.setObjAt k v).blob uk l = s.blob uk l := blob_congr (setObjAt_blobs s k v) _ _
@[simp] theorem readByte_setObjAt (uk : Nat) : (s.setObjAt k v).readByte uk = s.readByte uk := readByte_congr (setObjAt_mem s k v) _
@[simp] theorem port_setObjAt (uk : Nat) : (s.setObjAt k v).port uk = s.port uk := port_congr (setObjAt_ports s k v) _
@[simp] theorem pin_setObjAt (uk : Nat) : (s.setObjAt k v).pin uk = s.pin uk := pin_congr (setObjAt_pins s k v) _
@[simp] theorem conv_setObjAt (uk : Nat) : (s.setObjAt k v).conv uk = s.conv uk := conv_congr (setObjAt_convs s k v) _
@[simp] theorem chain_setObjAt (uk : Nat) : (s.setObjAt k v).chain uk = s.chain uk := chain_congr (setObjAt_chains s k v) _
@[simp] theorem sweep_setObjAt (uk : Nat) : (s.setObjAt k v).sweep uk = s.sweep uk := sweep_congr (setObjAt_sweeps s k v) _
@[simp] theorem busSource_setObjAt (uk : Nat) : (s.setObjAt k v).busSource uk = s.busSource uk := busSource_congr (setObjAt_busSources s k v) _
@[simp] theorem can_setObjAt (uk : Nat) : (s.setObjAt k v).can uk = s.can uk := can_congr (setObjAt_cans s k v) _
@[simp] theorem lin_setObjAt (uk : Nat) : (s.setObjAt k v).lin uk = s.lin uk := lin_congr (setObjAt_lins s k v) _
@[simp] theorem sent_setObjAt (uk : Nat) : (s.setObjAt k v).sent uk = s.sent uk := sent_congr (setObjAt_sents s k v) _
@[simp] theorem core_setObjAt (uk : Nat) : (s.setObjAt k v).core uk = s.core uk := core_congr (setObjAt_cores s k v) _
@[simp] theorem source_setObjAt (uk : Nat) : (s.setObjAt k v).source uk = s.source uk := source_congr (setObjAt_sources s k v) _
@[simp] theorem trigOut_setObjAt (uk : Nat) : (s.setObjAt k v).trigOut uk = s.trigOut uk := trigOut_congr (setObjAt_trigOuts s k v) _
@[simp] theorem queue_setObjAt (uk : Nat) : (s.setObjAt k v).queue uk = s.queue uk := queue_congr (setObjAt_queues s k v) _
@[simp] theorem stream_setObjAt (uk l : Nat) : (s.setObjAt k v).stream uk l = s.stream uk l := stream_congr (setObjAt_streams s k v) _ _
@[simp] theorem zone_setObjAt (uk : Nat) : (s.setObjAt k v).zone uk = s.zone uk := zone_congr (setObjAt_zones s k v) _
@[simp] theorem session_setObjAt (uk : Nat) : (s.setObjAt k v).session uk = s.session uk := session_congr (setObjAt_sessions s k v) _
@[simp] theorem step_setObjAt (uk : Nat) : (s.setObjAt k v).step uk = s.step uk := step_congr (setObjAt_disp s k v) _
@[simp] theorem calRun_setObjAt (uk : Nat) : (s.setObjAt k v).calRun uk = s.calRun uk := calRun_congr (setObjAt_cal s k v) _
@[simp] theorem calFigure_setObjAt (uk : Nat) : (s.setObjAt k v).calFigure uk = s.calFigure uk := calFigure_congr (setObjAt_cal s k v) _
@[simp] theorem claimOf_setObjAt (uk l : Nat) : (s.setObjAt k v).claimOf uk l = s.claimOf uk l := claimOf_congr (setObjAt_claims s k v) _ _
@[simp] theorem holder_setObjAt (uk l : Nat) : (s.setObjAt k v).holder uk l = s.holder uk l :=
  holder_congr (setObjAt_claims s k v) (setObjAt_sessions s k v) _ _
end
section
variable (s : State) (i j : Nat) (v : Int)
@[simp] theorem blob_setObj (k l : Nat) : (s.setObj i j v).blob k l = s.blob k l := blob_congr (setObj_blobs s i j v) _ _
@[simp] theorem readByte_setObj (k : Nat) : (s.setObj i j v).readByte k = s.readByte k := readByte_congr (setObj_mem s i j v) _
@[simp] theorem port_setObj (k : Nat) : (s.setObj i j v).port k = s.port k := port_congr (setObj_ports s i j v) _
@[simp] theorem pin_setObj (k : Nat) : (s.setObj i j v).pin k = s.pin k := pin_congr (setObj_pins s i j v) _
@[simp] theorem conv_setObj (k : Nat) : (s.setObj i j v).conv k = s.conv k := conv_congr (setObj_convs s i j v) _
@[simp] theorem chain_setObj (k : Nat) : (s.setObj i j v).chain k = s.chain k := chain_congr (setObj_chains s i j v) _
@[simp] theorem sweep_setObj (k : Nat) : (s.setObj i j v).sweep k = s.sweep k := sweep_congr (setObj_sweeps s i j v) _
@[simp] theorem busSource_setObj (k : Nat) : (s.setObj i j v).busSource k = s.busSource k := busSource_congr (setObj_busSources s i j v) _
@[simp] theorem can_setObj (k : Nat) : (s.setObj i j v).can k = s.can k := can_congr (setObj_cans s i j v) _
@[simp] theorem lin_setObj (k : Nat) : (s.setObj i j v).lin k = s.lin k := lin_congr (setObj_lins s i j v) _
@[simp] theorem sent_setObj (k : Nat) : (s.setObj i j v).sent k = s.sent k := sent_congr (setObj_sents s i j v) _
@[simp] theorem core_setObj (k : Nat) : (s.setObj i j v).core k = s.core k := core_congr (setObj_cores s i j v) _
@[simp] theorem source_setObj (k : Nat) : (s.setObj i j v).source k = s.source k := source_congr (setObj_sources s i j v) _
@[simp] theorem trigOut_setObj (k : Nat) : (s.setObj i j v).trigOut k = s.trigOut k := trigOut_congr (setObj_trigOuts s i j v) _
@[simp] theorem queue_setObj (k : Nat) : (s.setObj i j v).queue k = s.queue k := queue_congr (setObj_queues s i j v) _
@[simp] theorem stream_setObj (k l : Nat) : (s.setObj i j v).stream k l = s.stream k l := stream_congr (setObj_streams s i j v) _ _
@[simp] theorem zone_setObj (k : Nat) : (s.setObj i j v).zone k = s.zone k := zone_congr (setObj_zones s i j v) _
@[simp] theorem session_setObj (k : Nat) : (s.setObj i j v).session k = s.session k := session_congr (setObj_sessions s i j v) _
@[simp] theorem step_setObj (k : Nat) : (s.setObj i j v).step k = s.step k := step_congr (setObj_disp s i j v) _
@[simp] theorem calRun_setObj (k : Nat) : (s.setObj i j v).calRun k = s.calRun k := calRun_congr (setObj_cal s i j v) _
@[simp] theorem calFigure_setObj (k : Nat) : (s.setObj i j v).calFigure k = s.calFigure k := calFigure_congr (setObj_cal s i j v) _
@[simp] theorem claimOf_setObj (k l : Nat) : (s.setObj i j v).claimOf k l = s.claimOf k l := claimOf_congr (setObj_claims s i j v) _ _
@[simp] theorem holder_setObj (k l : Nat) : (s.setObj i j v).holder k l = s.holder k l :=
  holder_congr (setObj_claims s i j v) (setObj_sessions s i j v) _ _
end
section
variable (s : State) (i j d : Nat)
@[simp] theorem blob_countUp (k l : Nat) : (s.countUp i j d).blob k l = s.blob k l := blob_congr (countUp_blobs s i j d) _ _
@[simp] theorem readByte_countUp (k : Nat) : (s.countUp i j d).readByte k = s.readByte k := readByte_congr (countUp_mem s i j d) _
@[simp] theorem port_countUp (k : Nat) : (s.countUp i j d).port k = s.port k := port_congr (countUp_ports s i j d) _
@[simp] theorem pin_countUp (k : Nat) : (s.countUp i j d).pin k = s.pin k := pin_congr (countUp_pins s i j d) _
@[simp] theorem conv_countUp (k : Nat) : (s.countUp i j d).conv k = s.conv k := conv_congr (countUp_convs s i j d) _
@[simp] theorem chain_countUp (k : Nat) : (s.countUp i j d).chain k = s.chain k := chain_congr (countUp_chains s i j d) _
@[simp] theorem sweep_countUp (k : Nat) : (s.countUp i j d).sweep k = s.sweep k := sweep_congr (countUp_sweeps s i j d) _
@[simp] theorem busSource_countUp (k : Nat) : (s.countUp i j d).busSource k = s.busSource k := busSource_congr (countUp_busSources s i j d) _
@[simp] theorem can_countUp (k : Nat) : (s.countUp i j d).can k = s.can k := can_congr (countUp_cans s i j d) _
@[simp] theorem lin_countUp (k : Nat) : (s.countUp i j d).lin k = s.lin k := lin_congr (countUp_lins s i j d) _
@[simp] theorem sent_countUp (k : Nat) : (s.countUp i j d).sent k = s.sent k := sent_congr (countUp_sents s i j d) _
@[simp] theorem core_countUp (k : Nat) : (s.countUp i j d).core k = s.core k := core_congr (countUp_cores s i j d) _
@[simp] theorem source_countUp (k : Nat) : (s.countUp i j d).source k = s.source k := source_congr (countUp_sources s i j d) _
@[simp] theorem trigOut_countUp (k : Nat) : (s.countUp i j d).trigOut k = s.trigOut k := trigOut_congr (countUp_trigOuts s i j d) _
@[simp] theorem queue_countUp (k : Nat) : (s.countUp i j d).queue k = s.queue k := queue_congr (countUp_queues s i j d) _
@[simp] theorem stream_countUp (k l : Nat) : (s.countUp i j d).stream k l = s.stream k l := stream_congr (countUp_streams s i j d) _ _
@[simp] theorem zone_countUp (k : Nat) : (s.countUp i j d).zone k = s.zone k := zone_congr (countUp_zones s i j d) _
@[simp] theorem session_countUp (k : Nat) : (s.countUp i j d).session k = s.session k := session_congr (countUp_sessions s i j d) _
@[simp] theorem step_countUp (k : Nat) : (s.countUp i j d).step k = s.step k := step_congr (countUp_disp s i j d) _
@[simp] theorem calRun_countUp (k : Nat) : (s.countUp i j d).calRun k = s.calRun k := calRun_congr (countUp_cal s i j d) _
@[simp] theorem calFigure_countUp (k : Nat) : (s.countUp i j d).calFigure k = s.calFigure k := calFigure_congr (countUp_cal s i j d) _
@[simp] theorem claimOf_countUp (k l : Nat) : (s.countUp i j d).claimOf k l = s.claimOf k l := claimOf_congr (countUp_claims s i j d) _ _
@[simp] theorem holder_countUp (k l : Nat) : (s.countUp i j d).holder k l = s.holder k l :=
  holder_congr (countUp_claims s i j d) (countUp_sessions s i j d) _ _
end
section
variable (s : State) (a i j v : Nat)
@[simp] theorem blob_setOwn (k l : Nat) : (s.setOwn a i j v).blob k l = s.blob k l := blob_congr (setOwn_blobs s a i j v) _ _
@[simp] theorem readByte_setOwn (k : Nat) : (s.setOwn a i j v).readByte k = s.readByte k := readByte_congr (setOwn_mem s a i j v) _
@[simp] theorem port_setOwn (k : Nat) : (s.setOwn a i j v).port k = s.port k := port_congr (setOwn_ports s a i j v) _
@[simp] theorem pin_setOwn (k : Nat) : (s.setOwn a i j v).pin k = s.pin k := pin_congr (setOwn_pins s a i j v) _
@[simp] theorem conv_setOwn (k : Nat) : (s.setOwn a i j v).conv k = s.conv k := conv_congr (setOwn_convs s a i j v) _
@[simp] theorem chain_setOwn (k : Nat) : (s.setOwn a i j v).chain k = s.chain k := chain_congr (setOwn_chains s a i j v) _
@[simp] theorem sweep_setOwn (k : Nat) : (s.setOwn a i j v).sweep k = s.sweep k := sweep_congr (setOwn_sweeps s a i j v) _
@[simp] theorem busSource_setOwn (k : Nat) : (s.setOwn a i j v).busSource k = s.busSource k := busSource_congr (setOwn_busSources s a i j v) _
@[simp] theorem can_setOwn (k : Nat) : (s.setOwn a i j v).can k = s.can k := can_congr (setOwn_cans s a i j v) _
@[simp] theorem lin_setOwn (k : Nat) : (s.setOwn a i j v).lin k = s.lin k := lin_congr (setOwn_lins s a i j v) _
@[simp] theorem sent_setOwn (k : Nat) : (s.setOwn a i j v).sent k = s.sent k := sent_congr (setOwn_sents s a i j v) _
@[simp] theorem core_setOwn (k : Nat) : (s.setOwn a i j v).core k = s.core k := core_congr (setOwn_cores s a i j v) _
@[simp] theorem source_setOwn (k : Nat) : (s.setOwn a i j v).source k = s.source k := source_congr (setOwn_sources s a i j v) _
@[simp] theorem trigOut_setOwn (k : Nat) : (s.setOwn a i j v).trigOut k = s.trigOut k := trigOut_congr (setOwn_trigOuts s a i j v) _
@[simp] theorem queue_setOwn (k : Nat) : (s.setOwn a i j v).queue k = s.queue k := queue_congr (setOwn_queues s a i j v) _
@[simp] theorem stream_setOwn (k l : Nat) : (s.setOwn a i j v).stream k l = s.stream k l := stream_congr (setOwn_streams s a i j v) _ _
@[simp] theorem zone_setOwn (k : Nat) : (s.setOwn a i j v).zone k = s.zone k := zone_congr (setOwn_zones s a i j v) _
@[simp] theorem session_setOwn (k : Nat) : (s.setOwn a i j v).session k = s.session k := session_congr (setOwn_sessions s a i j v) _
@[simp] theorem step_setOwn (k : Nat) : (s.setOwn a i j v).step k = s.step k := step_congr (setOwn_disp s a i j v) _
@[simp] theorem calRun_setOwn (k : Nat) : (s.setOwn a i j v).calRun k = s.calRun k := calRun_congr (setOwn_cal s a i j v) _
@[simp] theorem calFigure_setOwn (k : Nat) : (s.setOwn a i j v).calFigure k = s.calFigure k := calFigure_congr (setOwn_cal s a i j v) _
@[simp] theorem claimOf_setOwn (k l : Nat) : (s.setOwn a i j v).claimOf k l = s.claimOf k l := claimOf_congr (setOwn_claims s a i j v) _ _
@[simp] theorem holder_setOwn (k l : Nat) : (s.setOwn a i j v).holder k l = s.holder k l :=
  holder_congr (setOwn_claims s a i j v) (setOwn_sessions s a i j v) _ _
end
section
variable (s : State) (i : Nat) (p : Nat → Bool)
@[simp] theorem blob_resetObjs (k l : Nat) : (s.resetObjs i p).blob k l = s.blob k l := blob_congr (resetObjs_blobs s i p) _ _
@[simp] theorem readByte_resetObjs (k : Nat) : (s.resetObjs i p).readByte k = s.readByte k := readByte_congr (resetObjs_mem s i p) _
@[simp] theorem port_resetObjs (k : Nat) : (s.resetObjs i p).port k = s.port k := port_congr (resetObjs_ports s i p) _
@[simp] theorem pin_resetObjs (k : Nat) : (s.resetObjs i p).pin k = s.pin k := pin_congr (resetObjs_pins s i p) _
@[simp] theorem conv_resetObjs (k : Nat) : (s.resetObjs i p).conv k = s.conv k := conv_congr (resetObjs_convs s i p) _
@[simp] theorem chain_resetObjs (k : Nat) : (s.resetObjs i p).chain k = s.chain k := chain_congr (resetObjs_chains s i p) _
@[simp] theorem sweep_resetObjs (k : Nat) : (s.resetObjs i p).sweep k = s.sweep k := sweep_congr (resetObjs_sweeps s i p) _
@[simp] theorem busSource_resetObjs (k : Nat) : (s.resetObjs i p).busSource k = s.busSource k := busSource_congr (resetObjs_busSources s i p) _
@[simp] theorem can_resetObjs (k : Nat) : (s.resetObjs i p).can k = s.can k := can_congr (resetObjs_cans s i p) _
@[simp] theorem lin_resetObjs (k : Nat) : (s.resetObjs i p).lin k = s.lin k := lin_congr (resetObjs_lins s i p) _
@[simp] theorem sent_resetObjs (k : Nat) : (s.resetObjs i p).sent k = s.sent k := sent_congr (resetObjs_sents s i p) _
@[simp] theorem core_resetObjs (k : Nat) : (s.resetObjs i p).core k = s.core k := core_congr (resetObjs_cores s i p) _
@[simp] theorem source_resetObjs (k : Nat) : (s.resetObjs i p).source k = s.source k := source_congr (resetObjs_sources s i p) _
@[simp] theorem trigOut_resetObjs (k : Nat) : (s.resetObjs i p).trigOut k = s.trigOut k := trigOut_congr (resetObjs_trigOuts s i p) _
@[simp] theorem queue_resetObjs (k : Nat) : (s.resetObjs i p).queue k = s.queue k := queue_congr (resetObjs_queues s i p) _
@[simp] theorem stream_resetObjs (k l : Nat) : (s.resetObjs i p).stream k l = s.stream k l := stream_congr (resetObjs_streams s i p) _ _
@[simp] theorem zone_resetObjs (k : Nat) : (s.resetObjs i p).zone k = s.zone k := zone_congr (resetObjs_zones s i p) _
@[simp] theorem session_resetObjs (k : Nat) : (s.resetObjs i p).session k = s.session k := session_congr (resetObjs_sessions s i p) _
@[simp] theorem step_resetObjs (k : Nat) : (s.resetObjs i p).step k = s.step k := step_congr (resetObjs_disp s i p) _
@[simp] theorem calRun_resetObjs (k : Nat) : (s.resetObjs i p).calRun k = s.calRun k := calRun_congr (resetObjs_cal s i p) _
@[simp] theorem calFigure_resetObjs (k : Nat) : (s.resetObjs i p).calFigure k = s.calFigure k := calFigure_congr (resetObjs_cal s i p) _
@[simp] theorem claimOf_resetObjs (k l : Nat) : (s.resetObjs i p).claimOf k l = s.claimOf k l := claimOf_congr (resetObjs_claims s i p) _ _
@[simp] theorem holder_resetObjs (k l : Nat) : (s.resetObjs i p).holder k l = s.holder k l :=
  holder_congr (resetObjs_claims s i p) (resetObjs_sessions s i p) _ _
end
section
variable (s : State) (i : Nat)
@[simp] theorem blob_resetClaimObjs (k l : Nat) : (s.resetClaimObjs i).blob k l = s.blob k l := blob_congr (resetClaimObjs_blobs s i) _ _
@[simp] theorem readByte_resetClaimObjs (k : Nat) : (s.resetClaimObjs i).readByte k = s.readByte k := readByte_congr (resetClaimObjs_mem s i) _
@[simp] theorem port_resetClaimObjs (k : Nat) : (s.resetClaimObjs i).port k = s.port k := port_congr (resetClaimObjs_ports s i) _
@[simp] theorem pin_resetClaimObjs (k : Nat) : (s.resetClaimObjs i).pin k = s.pin k := pin_congr (resetClaimObjs_pins s i) _
@[simp] theorem conv_resetClaimObjs (k : Nat) : (s.resetClaimObjs i).conv k = s.conv k := conv_congr (resetClaimObjs_convs s i) _
@[simp] theorem chain_resetClaimObjs (k : Nat) : (s.resetClaimObjs i).chain k = s.chain k := chain_congr (resetClaimObjs_chains s i) _
@[simp] theorem sweep_resetClaimObjs (k : Nat) : (s.resetClaimObjs i).sweep k = s.sweep k := sweep_congr (resetClaimObjs_sweeps s i) _
@[simp] theorem busSource_resetClaimObjs (k : Nat) : (s.resetClaimObjs i).busSource k = s.busSource k := busSource_congr (resetClaimObjs_busSources s i) _
@[simp] theorem can_resetClaimObjs (k : Nat) : (s.resetClaimObjs i).can k = s.can k := can_congr (resetClaimObjs_cans s i) _
@[simp] theorem lin_resetClaimObjs (k : Nat) : (s.resetClaimObjs i).lin k = s.lin k := lin_congr (resetClaimObjs_lins s i) _
@[simp] theorem sent_resetClaimObjs (k : Nat) : (s.resetClaimObjs i).sent k = s.sent k := sent_congr (resetClaimObjs_sents s i) _
@[simp] theorem core_resetClaimObjs (k : Nat) : (s.resetClaimObjs i).core k = s.core k := core_congr (resetClaimObjs_cores s i) _
@[simp] theorem source_resetClaimObjs (k : Nat) : (s.resetClaimObjs i).source k = s.source k := source_congr (resetClaimObjs_sources s i) _
@[simp] theorem trigOut_resetClaimObjs (k : Nat) : (s.resetClaimObjs i).trigOut k = s.trigOut k := trigOut_congr (resetClaimObjs_trigOuts s i) _
@[simp] theorem queue_resetClaimObjs (k : Nat) : (s.resetClaimObjs i).queue k = s.queue k := queue_congr (resetClaimObjs_queues s i) _
@[simp] theorem stream_resetClaimObjs (k l : Nat) : (s.resetClaimObjs i).stream k l = s.stream k l := stream_congr (resetClaimObjs_streams s i) _ _
@[simp] theorem zone_resetClaimObjs (k : Nat) : (s.resetClaimObjs i).zone k = s.zone k := zone_congr (resetClaimObjs_zones s i) _
@[simp] theorem session_resetClaimObjs (k : Nat) : (s.resetClaimObjs i).session k = s.session k := session_congr (resetClaimObjs_sessions s i) _
@[simp] theorem step_resetClaimObjs (k : Nat) : (s.resetClaimObjs i).step k = s.step k := step_congr (resetClaimObjs_disp s i) _
@[simp] theorem calRun_resetClaimObjs (k : Nat) : (s.resetClaimObjs i).calRun k = s.calRun k := calRun_congr (resetClaimObjs_cal s i) _
@[simp] theorem calFigure_resetClaimObjs (k : Nat) : (s.resetClaimObjs i).calFigure k = s.calFigure k := calFigure_congr (resetClaimObjs_cal s i) _
@[simp] theorem claimOf_resetClaimObjs (k l : Nat) : (s.resetClaimObjs i).claimOf k l = s.claimOf k l := claimOf_congr (resetClaimObjs_claims s i) _ _
@[simp] theorem holder_resetClaimObjs (k l : Nat) : (s.resetClaimObjs i).holder k l = s.holder k l :=
  holder_congr (resetClaimObjs_claims s i) (resetClaimObjs_sessions s i) _ _
end
section
variable (s : State) (i j : Nat) (bs : Bytes)
@[simp] theorem objAt_setBlob (k : Nat) : (s.setBlob i j bs).objAt k = s.objAt k := objAt_congr (setBlob_objs s i j bs) _
@[simp] theorem obj_setBlob (k l : Nat) : (s.setBlob i j bs).obj k l = s.obj k l := obj_congr (setBlob_objs s i j bs) _ _
@[simp] theorem objN_setBlob (k l : Nat) : (s.setBlob i j bs).objN k l = s.objN k l := objN_congr (setBlob_objs s i j bs) _ _
@[simp] theorem own_setBlob (k l m : Nat) : (s.setBlob i j bs).own k l m = s.own k l m := own_congr (setBlob_objs s i j bs) _ _ _
@[simp] theorem ready_setBlob (k : Nat) : (s.setBlob i j bs).ready k = s.ready k := ready_congr (setBlob_objs s i j bs) _
@[simp] theorem readByte_setBlob (k : Nat) : (s.setBlob i j bs).readByte k = s.readByte k := readByte_congr (setBlob_mem s i j bs) _
@[simp] theorem port_setBlob (k : Nat) : (s.setBlob i j bs).port k = s.port k := port_congr (setBlob_ports s i j bs) _
@[simp] theorem pin_setBlob (k : Nat) : (s.setBlob i j bs).pin k = s.pin k := pin_congr (setBlob_pins s i j bs) _
@[simp] theorem conv_setBlob (k : Nat) : (s.setBlob i j bs).conv k = s.conv k := conv_congr (setBlob_convs s i j bs) _
@[simp] theorem chain_setBlob (k : Nat) : (s.setBlob i j bs).chain k = s.chain k := chain_congr (setBlob_chains s i j bs) _
@[simp] theorem sweep_setBlob (k : Nat) : (s.setBlob i j bs).sweep k = s.sweep k := sweep_congr (setBlob_sweeps s i j bs) _
@[simp] theorem busSource_setBlob (k : Nat) : (s.setBlob i j bs).busSource k = s.busSource k := busSource_congr (setBlob_busSources s i j bs) _
@[simp] theorem can_setBlob (k : Nat) : (s.setBlob i j bs).can k = s.can k := can_congr (setBlob_cans s i j bs) _
@[simp] theorem lin_setBlob (k : Nat) : (s.setBlob i j bs).lin k = s.lin k := lin_congr (setBlob_lins s i j bs) _
@[simp] theorem sent_setBlob (k : Nat) : (s.setBlob i j bs).sent k = s.sent k := sent_congr (setBlob_sents s i j bs) _
@[simp] theorem core_setBlob (k : Nat) : (s.setBlob i j bs).core k = s.core k := core_congr (setBlob_cores s i j bs) _
@[simp] theorem source_setBlob (k : Nat) : (s.setBlob i j bs).source k = s.source k := source_congr (setBlob_sources s i j bs) _
@[simp] theorem trigOut_setBlob (k : Nat) : (s.setBlob i j bs).trigOut k = s.trigOut k := trigOut_congr (setBlob_trigOuts s i j bs) _
@[simp] theorem queue_setBlob (k : Nat) : (s.setBlob i j bs).queue k = s.queue k := queue_congr (setBlob_queues s i j bs) _
@[simp] theorem stream_setBlob (k l : Nat) : (s.setBlob i j bs).stream k l = s.stream k l := stream_congr (setBlob_streams s i j bs) _ _
@[simp] theorem zone_setBlob (k : Nat) : (s.setBlob i j bs).zone k = s.zone k := zone_congr (setBlob_zones s i j bs) _
@[simp] theorem session_setBlob (k : Nat) : (s.setBlob i j bs).session k = s.session k := session_congr (setBlob_sessions s i j bs) _
@[simp] theorem step_setBlob (k : Nat) : (s.setBlob i j bs).step k = s.step k := step_congr (setBlob_disp s i j bs) _
@[simp] theorem calRun_setBlob (k : Nat) : (s.setBlob i j bs).calRun k = s.calRun k := calRun_congr (setBlob_cal s i j bs) _
@[simp] theorem calFigure_setBlob (k : Nat) : (s.setBlob i j bs).calFigure k = s.calFigure k := calFigure_congr (setBlob_cal s i j bs) _
@[simp] theorem claimOf_setBlob (k l : Nat) : (s.setBlob i j bs).claimOf k l = s.claimOf k l := claimOf_congr (setBlob_claims s i j bs) _ _
@[simp] theorem holder_setBlob (k l : Nat) : (s.setBlob i j bs).holder k l = s.holder k l :=
  holder_congr (setBlob_claims s i j bs) (setBlob_sessions s i j bs) _ _
end
section
variable (s : State) (p : Nat) (c : PortCell)
@[simp] theorem objAt_setPort (k : Nat) : (s.setPort p c).objAt k = s.objAt k := objAt_congr (setPort_objs s p c) _
@[simp] theorem obj_setPort (k l : Nat) : (s.setPort p c).obj k l = s.obj k l := obj_congr (setPort_objs s p c) _ _
@[simp] theorem objN_setPort (k l : Nat) : (s.setPort p c).objN k l = s.objN k l := objN_congr (setPort_objs s p c) _ _
@[simp] theorem own_setPort (k l m : Nat) : (s.setPort p c).own k l m = s.own k l m := own_congr (setPort_objs s p c) _ _ _
@[simp] theorem ready_setPort (k : Nat) : (s.setPort p c).ready k = s.ready k := ready_congr (setPort_objs s p c) _
@[simp] theorem blob_setPort (k l : Nat) : (s.setPort p c).blob k l = s.blob k l := blob_congr (setPort_blobs s p c) _ _
@[simp] theorem readByte_setPort (k : Nat) : (s.setPort p c).readByte k = s.readByte k := readByte_congr (setPort_mem s p c) _
@[simp] theorem pin_setPort (k : Nat) : (s.setPort p c).pin k = s.pin k := pin_congr (setPort_pins s p c) _
@[simp] theorem conv_setPort (k : Nat) : (s.setPort p c).conv k = s.conv k := conv_congr (setPort_convs s p c) _
@[simp] theorem chain_setPort (k : Nat) : (s.setPort p c).chain k = s.chain k := chain_congr (setPort_chains s p c) _
@[simp] theorem sweep_setPort (k : Nat) : (s.setPort p c).sweep k = s.sweep k := sweep_congr (setPort_sweeps s p c) _
@[simp] theorem busSource_setPort (k : Nat) : (s.setPort p c).busSource k = s.busSource k := busSource_congr (setPort_busSources s p c) _
@[simp] theorem can_setPort (k : Nat) : (s.setPort p c).can k = s.can k := can_congr (setPort_cans s p c) _
@[simp] theorem lin_setPort (k : Nat) : (s.setPort p c).lin k = s.lin k := lin_congr (setPort_lins s p c) _
@[simp] theorem sent_setPort (k : Nat) : (s.setPort p c).sent k = s.sent k := sent_congr (setPort_sents s p c) _
@[simp] theorem core_setPort (k : Nat) : (s.setPort p c).core k = s.core k := core_congr (setPort_cores s p c) _
@[simp] theorem source_setPort (k : Nat) : (s.setPort p c).source k = s.source k := source_congr (setPort_sources s p c) _
@[simp] theorem trigOut_setPort (k : Nat) : (s.setPort p c).trigOut k = s.trigOut k := trigOut_congr (setPort_trigOuts s p c) _
@[simp] theorem queue_setPort (k : Nat) : (s.setPort p c).queue k = s.queue k := queue_congr (setPort_queues s p c) _
@[simp] theorem stream_setPort (k l : Nat) : (s.setPort p c).stream k l = s.stream k l := stream_congr (setPort_streams s p c) _ _
@[simp] theorem zone_setPort (k : Nat) : (s.setPort p c).zone k = s.zone k := zone_congr (setPort_zones s p c) _
@[simp] theorem session_setPort (k : Nat) : (s.setPort p c).session k = s.session k := session_congr (setPort_sessions s p c) _
@[simp] theorem step_setPort (k : Nat) : (s.setPort p c).step k = s.step k := step_congr (setPort_disp s p c) _
@[simp] theorem calRun_setPort (k : Nat) : (s.setPort p c).calRun k = s.calRun k := calRun_congr (setPort_cal s p c) _
@[simp] theorem calFigure_setPort (k : Nat) : (s.setPort p c).calFigure k = s.calFigure k := calFigure_congr (setPort_cal s p c) _
@[simp] theorem claimOf_setPort (k l : Nat) : (s.setPort p c).claimOf k l = s.claimOf k l := claimOf_congr (setPort_claims s p c) _ _
@[simp] theorem holder_setPort (k l : Nat) : (s.setPort p c).holder k l = s.holder k l :=
  holder_congr (setPort_claims s p c) (setPort_sessions s p c) _ _
end
section
variable (s : State) (n : Nat) (c : PinCell)
@[simp] theorem objAt_setPin (k : Nat) : (s.setPin n c).objAt k = s.objAt k := objAt_congr (setPin_objs s n c) _
@[simp] theorem obj_setPin (k l : Nat) : (s.setPin n c).obj k l = s.obj k l := obj_congr (setPin_objs s n c) _ _
@[simp] theorem objN_setPin (k l : Nat) : (s.setPin n c).objN k l = s.objN k l := objN_congr (setPin_objs s n c) _ _
@[simp] theorem own_setPin (k l m : Nat) : (s.setPin n c).own k l m = s.own k l m := own_congr (setPin_objs s n c) _ _ _
@[simp] theorem ready_setPin (k : Nat) : (s.setPin n c).ready k = s.ready k := ready_congr (setPin_objs s n c) _
@[simp] theorem blob_setPin (k l : Nat) : (s.setPin n c).blob k l = s.blob k l := blob_congr (setPin_blobs s n c) _ _
@[simp] theorem readByte_setPin (k : Nat) : (s.setPin n c).readByte k = s.readByte k := readByte_congr (setPin_mem s n c) _
@[simp] theorem port_setPin (k : Nat) : (s.setPin n c).port k = s.port k := port_congr (setPin_ports s n c) _
@[simp] theorem conv_setPin (k : Nat) : (s.setPin n c).conv k = s.conv k := conv_congr (setPin_convs s n c) _
@[simp] theorem chain_setPin (k : Nat) : (s.setPin n c).chain k = s.chain k := chain_congr (setPin_chains s n c) _
@[simp] theorem sweep_setPin (k : Nat) : (s.setPin n c).sweep k = s.sweep k := sweep_congr (setPin_sweeps s n c) _
@[simp] theorem busSource_setPin (k : Nat) : (s.setPin n c).busSource k = s.busSource k := busSource_congr (setPin_busSources s n c) _
@[simp] theorem can_setPin (k : Nat) : (s.setPin n c).can k = s.can k := can_congr (setPin_cans s n c) _
@[simp] theorem lin_setPin (k : Nat) : (s.setPin n c).lin k = s.lin k := lin_congr (setPin_lins s n c) _
@[simp] theorem sent_setPin (k : Nat) : (s.setPin n c).sent k = s.sent k := sent_congr (setPin_sents s n c) _
@[simp] theorem core_setPin (k : Nat) : (s.setPin n c).core k = s.core k := core_congr (setPin_cores s n c) _
@[simp] theorem source_setPin (k : Nat) : (s.setPin n c).source k = s.source k := source_congr (setPin_sources s n c) _
@[simp] theorem trigOut_setPin (k : Nat) : (s.setPin n c).trigOut k = s.trigOut k := trigOut_congr (setPin_trigOuts s n c) _
@[simp] theorem queue_setPin (k : Nat) : (s.setPin n c).queue k = s.queue k := queue_congr (setPin_queues s n c) _
@[simp] theorem stream_setPin (k l : Nat) : (s.setPin n c).stream k l = s.stream k l := stream_congr (setPin_streams s n c) _ _
@[simp] theorem zone_setPin (k : Nat) : (s.setPin n c).zone k = s.zone k := zone_congr (setPin_zones s n c) _
@[simp] theorem session_setPin (k : Nat) : (s.setPin n c).session k = s.session k := session_congr (setPin_sessions s n c) _
@[simp] theorem step_setPin (k : Nat) : (s.setPin n c).step k = s.step k := step_congr (setPin_disp s n c) _
@[simp] theorem calRun_setPin (k : Nat) : (s.setPin n c).calRun k = s.calRun k := calRun_congr (setPin_cal s n c) _
@[simp] theorem calFigure_setPin (k : Nat) : (s.setPin n c).calFigure k = s.calFigure k := calFigure_congr (setPin_cal s n c) _
@[simp] theorem claimOf_setPin (k l : Nat) : (s.setPin n c).claimOf k l = s.claimOf k l := claimOf_congr (setPin_claims s n c) _ _
@[simp] theorem holder_setPin (k l : Nat) : (s.setPin n c).holder k l = s.holder k l :=
  holder_congr (setPin_claims s n c) (setPin_sessions s n c) _ _
end
section
variable (s : State) (q : Nat) (c : Converter)
@[simp] theorem objAt_setConv (k : Nat) : (s.setConv q c).objAt k = s.objAt k := objAt_congr (setConv_objs s q c) _
@[simp] theorem obj_setConv (k l : Nat) : (s.setConv q c).obj k l = s.obj k l := obj_congr (setConv_objs s q c) _ _
@[simp] theorem objN_setConv (k l : Nat) : (s.setConv q c).objN k l = s.objN k l := objN_congr (setConv_objs s q c) _ _
@[simp] theorem own_setConv (k l m : Nat) : (s.setConv q c).own k l m = s.own k l m := own_congr (setConv_objs s q c) _ _ _
@[simp] theorem ready_setConv (k : Nat) : (s.setConv q c).ready k = s.ready k := ready_congr (setConv_objs s q c) _
@[simp] theorem blob_setConv (k l : Nat) : (s.setConv q c).blob k l = s.blob k l := blob_congr (setConv_blobs s q c) _ _
@[simp] theorem readByte_setConv (k : Nat) : (s.setConv q c).readByte k = s.readByte k := readByte_congr (setConv_mem s q c) _
@[simp] theorem port_setConv (k : Nat) : (s.setConv q c).port k = s.port k := port_congr (setConv_ports s q c) _
@[simp] theorem pin_setConv (k : Nat) : (s.setConv q c).pin k = s.pin k := pin_congr (setConv_pins s q c) _
@[simp] theorem chain_setConv (k : Nat) : (s.setConv q c).chain k = s.chain k := chain_congr (setConv_chains s q c) _
@[simp] theorem sweep_setConv (k : Nat) : (s.setConv q c).sweep k = s.sweep k := sweep_congr (setConv_sweeps s q c) _
@[simp] theorem busSource_setConv (k : Nat) : (s.setConv q c).busSource k = s.busSource k := busSource_congr (setConv_busSources s q c) _
@[simp] theorem can_setConv (k : Nat) : (s.setConv q c).can k = s.can k := can_congr (setConv_cans s q c) _
@[simp] theorem lin_setConv (k : Nat) : (s.setConv q c).lin k = s.lin k := lin_congr (setConv_lins s q c) _
@[simp] theorem sent_setConv (k : Nat) : (s.setConv q c).sent k = s.sent k := sent_congr (setConv_sents s q c) _
@[simp] theorem core_setConv (k : Nat) : (s.setConv q c).core k = s.core k := core_congr (setConv_cores s q c) _
@[simp] theorem source_setConv (k : Nat) : (s.setConv q c).source k = s.source k := source_congr (setConv_sources s q c) _
@[simp] theorem trigOut_setConv (k : Nat) : (s.setConv q c).trigOut k = s.trigOut k := trigOut_congr (setConv_trigOuts s q c) _
@[simp] theorem queue_setConv (k : Nat) : (s.setConv q c).queue k = s.queue k := queue_congr (setConv_queues s q c) _
@[simp] theorem stream_setConv (k l : Nat) : (s.setConv q c).stream k l = s.stream k l := stream_congr (setConv_streams s q c) _ _
@[simp] theorem zone_setConv (k : Nat) : (s.setConv q c).zone k = s.zone k := zone_congr (setConv_zones s q c) _
@[simp] theorem session_setConv (k : Nat) : (s.setConv q c).session k = s.session k := session_congr (setConv_sessions s q c) _
@[simp] theorem step_setConv (k : Nat) : (s.setConv q c).step k = s.step k := step_congr (setConv_disp s q c) _
@[simp] theorem calRun_setConv (k : Nat) : (s.setConv q c).calRun k = s.calRun k := calRun_congr (setConv_cal s q c) _
@[simp] theorem calFigure_setConv (k : Nat) : (s.setConv q c).calFigure k = s.calFigure k := calFigure_congr (setConv_cal s q c) _
@[simp] theorem claimOf_setConv (k l : Nat) : (s.setConv q c).claimOf k l = s.claimOf k l := claimOf_congr (setConv_claims s q c) _ _
@[simp] theorem holder_setConv (k l : Nat) : (s.setConv q c).holder k l = s.holder k l :=
  holder_congr (setConv_claims s q c) (setConv_sessions s q c) _ _
end
section
variable (s : State) (n : Nat) (c : Chain)
@[simp] theorem objAt_setChain (k : Nat) : (s.setChain n c).objAt k = s.objAt k := objAt_congr (setChain_objs s n c) _
@[simp] theorem obj_setChain (k l : Nat) : (s.setChain n c).obj k l = s.obj k l := obj_congr (setChain_objs s n c) _ _
@[simp] theorem objN_setChain (k l : Nat) : (s.setChain n c).objN k l = s.objN k l := objN_congr (setChain_objs s n c) _ _
@[simp] theorem own_setChain (k l m : Nat) : (s.setChain n c).own k l m = s.own k l m := own_congr (setChain_objs s n c) _ _ _
@[simp] theorem ready_setChain (k : Nat) : (s.setChain n c).ready k = s.ready k := ready_congr (setChain_objs s n c) _
@[simp] theorem blob_setChain (k l : Nat) : (s.setChain n c).blob k l = s.blob k l := blob_congr (setChain_blobs s n c) _ _
@[simp] theorem readByte_setChain (k : Nat) : (s.setChain n c).readByte k = s.readByte k := readByte_congr (setChain_mem s n c) _
@[simp] theorem port_setChain (k : Nat) : (s.setChain n c).port k = s.port k := port_congr (setChain_ports s n c) _
@[simp] theorem pin_setChain (k : Nat) : (s.setChain n c).pin k = s.pin k := pin_congr (setChain_pins s n c) _
@[simp] theorem conv_setChain (k : Nat) : (s.setChain n c).conv k = s.conv k := conv_congr (setChain_convs s n c) _
@[simp] theorem sweep_setChain (k : Nat) : (s.setChain n c).sweep k = s.sweep k := sweep_congr (setChain_sweeps s n c) _
@[simp] theorem busSource_setChain (k : Nat) : (s.setChain n c).busSource k = s.busSource k := busSource_congr (setChain_busSources s n c) _
@[simp] theorem can_setChain (k : Nat) : (s.setChain n c).can k = s.can k := can_congr (setChain_cans s n c) _
@[simp] theorem lin_setChain (k : Nat) : (s.setChain n c).lin k = s.lin k := lin_congr (setChain_lins s n c) _
@[simp] theorem sent_setChain (k : Nat) : (s.setChain n c).sent k = s.sent k := sent_congr (setChain_sents s n c) _
@[simp] theorem core_setChain (k : Nat) : (s.setChain n c).core k = s.core k := core_congr (setChain_cores s n c) _
@[simp] theorem source_setChain (k : Nat) : (s.setChain n c).source k = s.source k := source_congr (setChain_sources s n c) _
@[simp] theorem trigOut_setChain (k : Nat) : (s.setChain n c).trigOut k = s.trigOut k := trigOut_congr (setChain_trigOuts s n c) _
@[simp] theorem queue_setChain (k : Nat) : (s.setChain n c).queue k = s.queue k := queue_congr (setChain_queues s n c) _
@[simp] theorem stream_setChain (k l : Nat) : (s.setChain n c).stream k l = s.stream k l := stream_congr (setChain_streams s n c) _ _
@[simp] theorem zone_setChain (k : Nat) : (s.setChain n c).zone k = s.zone k := zone_congr (setChain_zones s n c) _
@[simp] theorem session_setChain (k : Nat) : (s.setChain n c).session k = s.session k := session_congr (setChain_sessions s n c) _
@[simp] theorem step_setChain (k : Nat) : (s.setChain n c).step k = s.step k := step_congr (setChain_disp s n c) _
@[simp] theorem calRun_setChain (k : Nat) : (s.setChain n c).calRun k = s.calRun k := calRun_congr (setChain_cal s n c) _
@[simp] theorem calFigure_setChain (k : Nat) : (s.setChain n c).calFigure k = s.calFigure k := calFigure_congr (setChain_cal s n c) _
@[simp] theorem claimOf_setChain (k l : Nat) : (s.setChain n c).claimOf k l = s.claimOf k l := claimOf_congr (setChain_claims s n c) _ _
@[simp] theorem holder_setChain (k l : Nat) : (s.setChain n c).holder k l = s.holder k l :=
  holder_congr (setChain_claims s n c) (setChain_sessions s n c) _ _
end
section
variable (s : State) (m : Nat) (c : Sweep)
@[simp] theorem objAt_setSweep (k : Nat) : (s.setSweep m c).objAt k = s.objAt k := objAt_congr (setSweep_objs s m c) _
@[simp] theorem obj_setSweep (k l : Nat) : (s.setSweep m c).obj k l = s.obj k l := obj_congr (setSweep_objs s m c) _ _
@[simp] theorem objN_setSweep (k l : Nat) : (s.setSweep m c).objN k l = s.objN k l := objN_congr (setSweep_objs s m c) _ _
@[simp] theorem own_setSweep (k l um : Nat) : (s.setSweep m c).own k l um = s.own k l um := own_congr (setSweep_objs s m c) _ _ _
@[simp] theorem ready_setSweep (k : Nat) : (s.setSweep m c).ready k = s.ready k := ready_congr (setSweep_objs s m c) _
@[simp] theorem blob_setSweep (k l : Nat) : (s.setSweep m c).blob k l = s.blob k l := blob_congr (setSweep_blobs s m c) _ _
@[simp] theorem readByte_setSweep (k : Nat) : (s.setSweep m c).readByte k = s.readByte k := readByte_congr (setSweep_mem s m c) _
@[simp] theorem port_setSweep (k : Nat) : (s.setSweep m c).port k = s.port k := port_congr (setSweep_ports s m c) _
@[simp] theorem pin_setSweep (k : Nat) : (s.setSweep m c).pin k = s.pin k := pin_congr (setSweep_pins s m c) _
@[simp] theorem conv_setSweep (k : Nat) : (s.setSweep m c).conv k = s.conv k := conv_congr (setSweep_convs s m c) _
@[simp] theorem chain_setSweep (k : Nat) : (s.setSweep m c).chain k = s.chain k := chain_congr (setSweep_chains s m c) _
@[simp] theorem busSource_setSweep (k : Nat) : (s.setSweep m c).busSource k = s.busSource k := busSource_congr (setSweep_busSources s m c) _
@[simp] theorem can_setSweep (k : Nat) : (s.setSweep m c).can k = s.can k := can_congr (setSweep_cans s m c) _
@[simp] theorem lin_setSweep (k : Nat) : (s.setSweep m c).lin k = s.lin k := lin_congr (setSweep_lins s m c) _
@[simp] theorem sent_setSweep (k : Nat) : (s.setSweep m c).sent k = s.sent k := sent_congr (setSweep_sents s m c) _
@[simp] theorem core_setSweep (k : Nat) : (s.setSweep m c).core k = s.core k := core_congr (setSweep_cores s m c) _
@[simp] theorem source_setSweep (k : Nat) : (s.setSweep m c).source k = s.source k := source_congr (setSweep_sources s m c) _
@[simp] theorem trigOut_setSweep (k : Nat) : (s.setSweep m c).trigOut k = s.trigOut k := trigOut_congr (setSweep_trigOuts s m c) _
@[simp] theorem queue_setSweep (k : Nat) : (s.setSweep m c).queue k = s.queue k := queue_congr (setSweep_queues s m c) _
@[simp] theorem stream_setSweep (k l : Nat) : (s.setSweep m c).stream k l = s.stream k l := stream_congr (setSweep_streams s m c) _ _
@[simp] theorem zone_setSweep (k : Nat) : (s.setSweep m c).zone k = s.zone k := zone_congr (setSweep_zones s m c) _
@[simp] theorem session_setSweep (k : Nat) : (s.setSweep m c).session k = s.session k := session_congr (setSweep_sessions s m c) _
@[simp] theorem step_setSweep (k : Nat) : (s.setSweep m c).step k = s.step k := step_congr (setSweep_disp s m c) _
@[simp] theorem calRun_setSweep (k : Nat) : (s.setSweep m c).calRun k = s.calRun k := calRun_congr (setSweep_cal s m c) _
@[simp] theorem calFigure_setSweep (k : Nat) : (s.setSweep m c).calFigure k = s.calFigure k := calFigure_congr (setSweep_cal s m c) _
@[simp] theorem claimOf_setSweep (k l : Nat) : (s.setSweep m c).claimOf k l = s.claimOf k l := claimOf_congr (setSweep_claims s m c) _ _
@[simp] theorem holder_setSweep (k l : Nat) : (s.setSweep m c).holder k l = s.holder k l :=
  holder_congr (setSweep_claims s m c) (setSweep_sessions s m c) _ _
end
section
variable (s : State) (n : Nat) (c : BusSource)
@[simp] theorem objAt_setBusSource (k : Nat) : (s.setBusSource n c).objAt k = s.objAt k := objAt_congr (setBusSource_objs s n c) _
@[simp] theorem obj_setBusSource (k l : Nat) : (s.setBusSource n c).obj k l = s.obj k l := obj_congr (setBusSource_objs s n c) _ _
@[simp] theorem objN_setBusSource (k l : Nat) : (s.setBusSource n c).objN k l = s.objN k l := objN_congr (setBusSource_objs s n c) _ _
@[simp] theorem own_setBusSource (k l m : Nat) : (s.setBusSource n c).own k l m = s.own k l m := own_congr (setBusSource_objs s n c) _ _ _
@[simp] theorem ready_setBusSource (k : Nat) : (s.setBusSource n c).ready k = s.ready k := ready_congr (setBusSource_objs s n c) _
@[simp] theorem blob_setBusSource (k l : Nat) : (s.setBusSource n c).blob k l = s.blob k l := blob_congr (setBusSource_blobs s n c) _ _
@[simp] theorem readByte_setBusSource (k : Nat) : (s.setBusSource n c).readByte k = s.readByte k := readByte_congr (setBusSource_mem s n c) _
@[simp] theorem port_setBusSource (k : Nat) : (s.setBusSource n c).port k = s.port k := port_congr (setBusSource_ports s n c) _
@[simp] theorem pin_setBusSource (k : Nat) : (s.setBusSource n c).pin k = s.pin k := pin_congr (setBusSource_pins s n c) _
@[simp] theorem conv_setBusSource (k : Nat) : (s.setBusSource n c).conv k = s.conv k := conv_congr (setBusSource_convs s n c) _
@[simp] theorem chain_setBusSource (k : Nat) : (s.setBusSource n c).chain k = s.chain k := chain_congr (setBusSource_chains s n c) _
@[simp] theorem sweep_setBusSource (k : Nat) : (s.setBusSource n c).sweep k = s.sweep k := sweep_congr (setBusSource_sweeps s n c) _
@[simp] theorem can_setBusSource (k : Nat) : (s.setBusSource n c).can k = s.can k := can_congr (setBusSource_cans s n c) _
@[simp] theorem lin_setBusSource (k : Nat) : (s.setBusSource n c).lin k = s.lin k := lin_congr (setBusSource_lins s n c) _
@[simp] theorem sent_setBusSource (k : Nat) : (s.setBusSource n c).sent k = s.sent k := sent_congr (setBusSource_sents s n c) _
@[simp] theorem core_setBusSource (k : Nat) : (s.setBusSource n c).core k = s.core k := core_congr (setBusSource_cores s n c) _
@[simp] theorem source_setBusSource (k : Nat) : (s.setBusSource n c).source k = s.source k := source_congr (setBusSource_sources s n c) _
@[simp] theorem trigOut_setBusSource (k : Nat) : (s.setBusSource n c).trigOut k = s.trigOut k := trigOut_congr (setBusSource_trigOuts s n c) _
@[simp] theorem queue_setBusSource (k : Nat) : (s.setBusSource n c).queue k = s.queue k := queue_congr (setBusSource_queues s n c) _
@[simp] theorem stream_setBusSource (k l : Nat) : (s.setBusSource n c).stream k l = s.stream k l := stream_congr (setBusSource_streams s n c) _ _
@[simp] theorem zone_setBusSource (k : Nat) : (s.setBusSource n c).zone k = s.zone k := zone_congr (setBusSource_zones s n c) _
@[simp] theorem session_setBusSource (k : Nat) : (s.setBusSource n c).session k = s.session k := session_congr (setBusSource_sessions s n c) _
@[simp] theorem step_setBusSource (k : Nat) : (s.setBusSource n c).step k = s.step k := step_congr (setBusSource_disp s n c) _
@[simp] theorem calRun_setBusSource (k : Nat) : (s.setBusSource n c).calRun k = s.calRun k := calRun_congr (setBusSource_cal s n c) _
@[simp] theorem calFigure_setBusSource (k : Nat) : (s.setBusSource n c).calFigure k = s.calFigure k := calFigure_congr (setBusSource_cal s n c) _
@[simp] theorem claimOf_setBusSource (k l : Nat) : (s.setBusSource n c).claimOf k l = s.claimOf k l := claimOf_congr (setBusSource_claims s n c) _ _
@[simp] theorem holder_setBusSource (k l : Nat) : (s.setBusSource n c).holder k l = s.holder k l :=
  holder_congr (setBusSource_claims s n c) (setBusSource_sessions s n c) _ _
end
section
variable (s : State) (e : Nat) (c : CanEngine)
@[simp] theorem objAt_setCan (k : Nat) : (s.setCan e c).objAt k = s.objAt k := objAt_congr (setCan_objs s e c) _
@[simp] theorem obj_setCan (k l : Nat) : (s.setCan e c).obj k l = s.obj k l := obj_congr (setCan_objs s e c) _ _
@[simp] theorem objN_setCan (k l : Nat) : (s.setCan e c).objN k l = s.objN k l := objN_congr (setCan_objs s e c) _ _
@[simp] theorem own_setCan (k l m : Nat) : (s.setCan e c).own k l m = s.own k l m := own_congr (setCan_objs s e c) _ _ _
@[simp] theorem ready_setCan (k : Nat) : (s.setCan e c).ready k = s.ready k := ready_congr (setCan_objs s e c) _
@[simp] theorem blob_setCan (k l : Nat) : (s.setCan e c).blob k l = s.blob k l := blob_congr (setCan_blobs s e c) _ _
@[simp] theorem readByte_setCan (k : Nat) : (s.setCan e c).readByte k = s.readByte k := readByte_congr (setCan_mem s e c) _
@[simp] theorem port_setCan (k : Nat) : (s.setCan e c).port k = s.port k := port_congr (setCan_ports s e c) _
@[simp] theorem pin_setCan (k : Nat) : (s.setCan e c).pin k = s.pin k := pin_congr (setCan_pins s e c) _
@[simp] theorem conv_setCan (k : Nat) : (s.setCan e c).conv k = s.conv k := conv_congr (setCan_convs s e c) _
@[simp] theorem chain_setCan (k : Nat) : (s.setCan e c).chain k = s.chain k := chain_congr (setCan_chains s e c) _
@[simp] theorem sweep_setCan (k : Nat) : (s.setCan e c).sweep k = s.sweep k := sweep_congr (setCan_sweeps s e c) _
@[simp] theorem busSource_setCan (k : Nat) : (s.setCan e c).busSource k = s.busSource k := busSource_congr (setCan_busSources s e c) _
@[simp] theorem lin_setCan (k : Nat) : (s.setCan e c).lin k = s.lin k := lin_congr (setCan_lins s e c) _
@[simp] theorem sent_setCan (k : Nat) : (s.setCan e c).sent k = s.sent k := sent_congr (setCan_sents s e c) _
@[simp] theorem core_setCan (k : Nat) : (s.setCan e c).core k = s.core k := core_congr (setCan_cores s e c) _
@[simp] theorem source_setCan (k : Nat) : (s.setCan e c).source k = s.source k := source_congr (setCan_sources s e c) _
@[simp] theorem trigOut_setCan (k : Nat) : (s.setCan e c).trigOut k = s.trigOut k := trigOut_congr (setCan_trigOuts s e c) _
@[simp] theorem queue_setCan (k : Nat) : (s.setCan e c).queue k = s.queue k := queue_congr (setCan_queues s e c) _
@[simp] theorem stream_setCan (k l : Nat) : (s.setCan e c).stream k l = s.stream k l := stream_congr (setCan_streams s e c) _ _
@[simp] theorem zone_setCan (k : Nat) : (s.setCan e c).zone k = s.zone k := zone_congr (setCan_zones s e c) _
@[simp] theorem session_setCan (k : Nat) : (s.setCan e c).session k = s.session k := session_congr (setCan_sessions s e c) _
@[simp] theorem step_setCan (k : Nat) : (s.setCan e c).step k = s.step k := step_congr (setCan_disp s e c) _
@[simp] theorem calRun_setCan (k : Nat) : (s.setCan e c).calRun k = s.calRun k := calRun_congr (setCan_cal s e c) _
@[simp] theorem calFigure_setCan (k : Nat) : (s.setCan e c).calFigure k = s.calFigure k := calFigure_congr (setCan_cal s e c) _
@[simp] theorem claimOf_setCan (k l : Nat) : (s.setCan e c).claimOf k l = s.claimOf k l := claimOf_congr (setCan_claims s e c) _ _
@[simp] theorem holder_setCan (k l : Nat) : (s.setCan e c).holder k l = s.holder k l :=
  holder_congr (setCan_claims s e c) (setCan_sessions s e c) _ _
end
section
variable (s : State) (l : Nat) (c : LinEngine)
@[simp] theorem objAt_setLin (k : Nat) : (s.setLin l c).objAt k = s.objAt k := objAt_congr (setLin_objs s l c) _
@[simp] theorem obj_setLin (k ul : Nat) : (s.setLin l c).obj k ul = s.obj k ul := obj_congr (setLin_objs s l c) _ _
@[simp] theorem objN_setLin (k ul : Nat) : (s.setLin l c).objN k ul = s.objN k ul := objN_congr (setLin_objs s l c) _ _
@[simp] theorem own_setLin (k ul m : Nat) : (s.setLin l c).own k ul m = s.own k ul m := own_congr (setLin_objs s l c) _ _ _
@[simp] theorem ready_setLin (k : Nat) : (s.setLin l c).ready k = s.ready k := ready_congr (setLin_objs s l c) _
@[simp] theorem blob_setLin (k ul : Nat) : (s.setLin l c).blob k ul = s.blob k ul := blob_congr (setLin_blobs s l c) _ _
@[simp] theorem readByte_setLin (k : Nat) : (s.setLin l c).readByte k = s.readByte k := readByte_congr (setLin_mem s l c) _
@[simp] theorem port_setLin (k : Nat) : (s.setLin l c).port k = s.port k := port_congr (setLin_ports s l c) _
@[simp] theorem pin_setLin (k : Nat) : (s.setLin l c).pin k = s.pin k := pin_congr (setLin_pins s l c) _
@[simp] theorem conv_setLin (k : Nat) : (s.setLin l c).conv k = s.conv k := conv_congr (setLin_convs s l c) _
@[simp] theorem chain_setLin (k : Nat) : (s.setLin l c).chain k = s.chain k := chain_congr (setLin_chains s l c) _
@[simp] theorem sweep_setLin (k : Nat) : (s.setLin l c).sweep k = s.sweep k := sweep_congr (setLin_sweeps s l c) _
@[simp] theorem busSource_setLin (k : Nat) : (s.setLin l c).busSource k = s.busSource k := busSource_congr (setLin_busSources s l c) _
@[simp] theorem can_setLin (k : Nat) : (s.setLin l c).can k = s.can k := can_congr (setLin_cans s l c) _
@[simp] theorem sent_setLin (k : Nat) : (s.setLin l c).sent k = s.sent k := sent_congr (setLin_sents s l c) _
@[simp] theorem core_setLin (k : Nat) : (s.setLin l c).core k = s.core k := core_congr (setLin_cores s l c) _
@[simp] theorem source_setLin (k : Nat) : (s.setLin l c).source k = s.source k := source_congr (setLin_sources s l c) _
@[simp] theorem trigOut_setLin (k : Nat) : (s.setLin l c).trigOut k = s.trigOut k := trigOut_congr (setLin_trigOuts s l c) _
@[simp] theorem queue_setLin (k : Nat) : (s.setLin l c).queue k = s.queue k := queue_congr (setLin_queues s l c) _
@[simp] theorem stream_setLin (k ul : Nat) : (s.setLin l c).stream k ul = s.stream k ul := stream_congr (setLin_streams s l c) _ _
@[simp] theorem zone_setLin (k : Nat) : (s.setLin l c).zone k = s.zone k := zone_congr (setLin_zones s l c) _
@[simp] theorem session_setLin (k : Nat) : (s.setLin l c).session k = s.session k := session_congr (setLin_sessions s l c) _
@[simp] theorem step_setLin (k : Nat) : (s.setLin l c).step k = s.step k := step_congr (setLin_disp s l c) _
@[simp] theorem calRun_setLin (k : Nat) : (s.setLin l c).calRun k = s.calRun k := calRun_congr (setLin_cal s l c) _
@[simp] theorem calFigure_setLin (k : Nat) : (s.setLin l c).calFigure k = s.calFigure k := calFigure_congr (setLin_cal s l c) _
@[simp] theorem claimOf_setLin (k ul : Nat) : (s.setLin l c).claimOf k ul = s.claimOf k ul := claimOf_congr (setLin_claims s l c) _ _
@[simp] theorem holder_setLin (k ul : Nat) : (s.setLin l c).holder k ul = s.holder k ul :=
  holder_congr (setLin_claims s l c) (setLin_sessions s l c) _ _
end
section
variable (s : State) (r : Nat) (c : SentUnit)
@[simp] theorem objAt_setSent (k : Nat) : (s.setSent r c).objAt k = s.objAt k := objAt_congr (setSent_objs s r c) _
@[simp] theorem obj_setSent (k l : Nat) : (s.setSent r c).obj k l = s.obj k l := obj_congr (setSent_objs s r c) _ _
@[simp] theorem objN_setSent (k l : Nat) : (s.setSent r c).objN k l = s.objN k l := objN_congr (setSent_objs s r c) _ _
@[simp] theorem own_setSent (k l m : Nat) : (s.setSent r c).own k l m = s.own k l m := own_congr (setSent_objs s r c) _ _ _
@[simp] theorem ready_setSent (k : Nat) : (s.setSent r c).ready k = s.ready k := ready_congr (setSent_objs s r c) _
@[simp] theorem blob_setSent (k l : Nat) : (s.setSent r c).blob k l = s.blob k l := blob_congr (setSent_blobs s r c) _ _
@[simp] theorem readByte_setSent (k : Nat) : (s.setSent r c).readByte k = s.readByte k := readByte_congr (setSent_mem s r c) _
@[simp] theorem port_setSent (k : Nat) : (s.setSent r c).port k = s.port k := port_congr (setSent_ports s r c) _
@[simp] theorem pin_setSent (k : Nat) : (s.setSent r c).pin k = s.pin k := pin_congr (setSent_pins s r c) _
@[simp] theorem conv_setSent (k : Nat) : (s.setSent r c).conv k = s.conv k := conv_congr (setSent_convs s r c) _
@[simp] theorem chain_setSent (k : Nat) : (s.setSent r c).chain k = s.chain k := chain_congr (setSent_chains s r c) _
@[simp] theorem sweep_setSent (k : Nat) : (s.setSent r c).sweep k = s.sweep k := sweep_congr (setSent_sweeps s r c) _
@[simp] theorem busSource_setSent (k : Nat) : (s.setSent r c).busSource k = s.busSource k := busSource_congr (setSent_busSources s r c) _
@[simp] theorem can_setSent (k : Nat) : (s.setSent r c).can k = s.can k := can_congr (setSent_cans s r c) _
@[simp] theorem lin_setSent (k : Nat) : (s.setSent r c).lin k = s.lin k := lin_congr (setSent_lins s r c) _
@[simp] theorem core_setSent (k : Nat) : (s.setSent r c).core k = s.core k := core_congr (setSent_cores s r c) _
@[simp] theorem source_setSent (k : Nat) : (s.setSent r c).source k = s.source k := source_congr (setSent_sources s r c) _
@[simp] theorem trigOut_setSent (k : Nat) : (s.setSent r c).trigOut k = s.trigOut k := trigOut_congr (setSent_trigOuts s r c) _
@[simp] theorem queue_setSent (k : Nat) : (s.setSent r c).queue k = s.queue k := queue_congr (setSent_queues s r c) _
@[simp] theorem stream_setSent (k l : Nat) : (s.setSent r c).stream k l = s.stream k l := stream_congr (setSent_streams s r c) _ _
@[simp] theorem zone_setSent (k : Nat) : (s.setSent r c).zone k = s.zone k := zone_congr (setSent_zones s r c) _
@[simp] theorem session_setSent (k : Nat) : (s.setSent r c).session k = s.session k := session_congr (setSent_sessions s r c) _
@[simp] theorem step_setSent (k : Nat) : (s.setSent r c).step k = s.step k := step_congr (setSent_disp s r c) _
@[simp] theorem calRun_setSent (k : Nat) : (s.setSent r c).calRun k = s.calRun k := calRun_congr (setSent_cal s r c) _
@[simp] theorem calFigure_setSent (k : Nat) : (s.setSent r c).calFigure k = s.calFigure k := calFigure_congr (setSent_cal s r c) _
@[simp] theorem claimOf_setSent (k l : Nat) : (s.setSent r c).claimOf k l = s.claimOf k l := claimOf_congr (setSent_claims s r c) _ _
@[simp] theorem holder_setSent (k l : Nat) : (s.setSent r c).holder k l = s.holder k l :=
  holder_congr (setSent_claims s r c) (setSent_sessions s r c) _ _
end
section
variable (s : State) (n : Nat) (c : Core)
@[simp] theorem objAt_setCore (k : Nat) : (s.setCore n c).objAt k = s.objAt k := objAt_congr (setCore_objs s n c) _
@[simp] theorem obj_setCore (k l : Nat) : (s.setCore n c).obj k l = s.obj k l := obj_congr (setCore_objs s n c) _ _
@[simp] theorem objN_setCore (k l : Nat) : (s.setCore n c).objN k l = s.objN k l := objN_congr (setCore_objs s n c) _ _
@[simp] theorem own_setCore (k l m : Nat) : (s.setCore n c).own k l m = s.own k l m := own_congr (setCore_objs s n c) _ _ _
@[simp] theorem ready_setCore (k : Nat) : (s.setCore n c).ready k = s.ready k := ready_congr (setCore_objs s n c) _
@[simp] theorem blob_setCore (k l : Nat) : (s.setCore n c).blob k l = s.blob k l := blob_congr (setCore_blobs s n c) _ _
@[simp] theorem readByte_setCore (k : Nat) : (s.setCore n c).readByte k = s.readByte k := readByte_congr (setCore_mem s n c) _
@[simp] theorem port_setCore (k : Nat) : (s.setCore n c).port k = s.port k := port_congr (setCore_ports s n c) _
@[simp] theorem pin_setCore (k : Nat) : (s.setCore n c).pin k = s.pin k := pin_congr (setCore_pins s n c) _
@[simp] theorem conv_setCore (k : Nat) : (s.setCore n c).conv k = s.conv k := conv_congr (setCore_convs s n c) _
@[simp] theorem chain_setCore (k : Nat) : (s.setCore n c).chain k = s.chain k := chain_congr (setCore_chains s n c) _
@[simp] theorem sweep_setCore (k : Nat) : (s.setCore n c).sweep k = s.sweep k := sweep_congr (setCore_sweeps s n c) _
@[simp] theorem busSource_setCore (k : Nat) : (s.setCore n c).busSource k = s.busSource k := busSource_congr (setCore_busSources s n c) _
@[simp] theorem can_setCore (k : Nat) : (s.setCore n c).can k = s.can k := can_congr (setCore_cans s n c) _
@[simp] theorem lin_setCore (k : Nat) : (s.setCore n c).lin k = s.lin k := lin_congr (setCore_lins s n c) _
@[simp] theorem sent_setCore (k : Nat) : (s.setCore n c).sent k = s.sent k := sent_congr (setCore_sents s n c) _
@[simp] theorem source_setCore (k : Nat) : (s.setCore n c).source k = s.source k := source_congr (setCore_sources s n c) _
@[simp] theorem trigOut_setCore (k : Nat) : (s.setCore n c).trigOut k = s.trigOut k := trigOut_congr (setCore_trigOuts s n c) _
@[simp] theorem queue_setCore (k : Nat) : (s.setCore n c).queue k = s.queue k := queue_congr (setCore_queues s n c) _
@[simp] theorem stream_setCore (k l : Nat) : (s.setCore n c).stream k l = s.stream k l := stream_congr (setCore_streams s n c) _ _
@[simp] theorem zone_setCore (k : Nat) : (s.setCore n c).zone k = s.zone k := zone_congr (setCore_zones s n c) _
@[simp] theorem session_setCore (k : Nat) : (s.setCore n c).session k = s.session k := session_congr (setCore_sessions s n c) _
@[simp] theorem step_setCore (k : Nat) : (s.setCore n c).step k = s.step k := step_congr (setCore_disp s n c) _
@[simp] theorem calRun_setCore (k : Nat) : (s.setCore n c).calRun k = s.calRun k := calRun_congr (setCore_cal s n c) _
@[simp] theorem calFigure_setCore (k : Nat) : (s.setCore n c).calFigure k = s.calFigure k := calFigure_congr (setCore_cal s n c) _
@[simp] theorem claimOf_setCore (k l : Nat) : (s.setCore n c).claimOf k l = s.claimOf k l := claimOf_congr (setCore_claims s n c) _ _
@[simp] theorem holder_setCore (k l : Nat) : (s.setCore n c).holder k l = s.holder k l :=
  holder_congr (setCore_claims s n c) (setCore_sessions s n c) _ _
end
section
variable (s : State) (n : Nat) (c : Source)
@[simp] theorem objAt_setSource (k : Nat) : (s.setSource n c).objAt k = s.objAt k := objAt_congr (setSource_objs s n c) _
@[simp] theorem obj_setSource (k l : Nat) : (s.setSource n c).obj k l = s.obj k l := obj_congr (setSource_objs s n c) _ _
@[simp] theorem objN_setSource (k l : Nat) : (s.setSource n c).objN k l = s.objN k l := objN_congr (setSource_objs s n c) _ _
@[simp] theorem own_setSource (k l m : Nat) : (s.setSource n c).own k l m = s.own k l m := own_congr (setSource_objs s n c) _ _ _
@[simp] theorem ready_setSource (k : Nat) : (s.setSource n c).ready k = s.ready k := ready_congr (setSource_objs s n c) _
@[simp] theorem blob_setSource (k l : Nat) : (s.setSource n c).blob k l = s.blob k l := blob_congr (setSource_blobs s n c) _ _
@[simp] theorem readByte_setSource (k : Nat) : (s.setSource n c).readByte k = s.readByte k := readByte_congr (setSource_mem s n c) _
@[simp] theorem port_setSource (k : Nat) : (s.setSource n c).port k = s.port k := port_congr (setSource_ports s n c) _
@[simp] theorem pin_setSource (k : Nat) : (s.setSource n c).pin k = s.pin k := pin_congr (setSource_pins s n c) _
@[simp] theorem conv_setSource (k : Nat) : (s.setSource n c).conv k = s.conv k := conv_congr (setSource_convs s n c) _
@[simp] theorem chain_setSource (k : Nat) : (s.setSource n c).chain k = s.chain k := chain_congr (setSource_chains s n c) _
@[simp] theorem sweep_setSource (k : Nat) : (s.setSource n c).sweep k = s.sweep k := sweep_congr (setSource_sweeps s n c) _
@[simp] theorem busSource_setSource (k : Nat) : (s.setSource n c).busSource k = s.busSource k := busSource_congr (setSource_busSources s n c) _
@[simp] theorem can_setSource (k : Nat) : (s.setSource n c).can k = s.can k := can_congr (setSource_cans s n c) _
@[simp] theorem lin_setSource (k : Nat) : (s.setSource n c).lin k = s.lin k := lin_congr (setSource_lins s n c) _
@[simp] theorem sent_setSource (k : Nat) : (s.setSource n c).sent k = s.sent k := sent_congr (setSource_sents s n c) _
@[simp] theorem core_setSource (k : Nat) : (s.setSource n c).core k = s.core k := core_congr (setSource_cores s n c) _
@[simp] theorem trigOut_setSource (k : Nat) : (s.setSource n c).trigOut k = s.trigOut k := trigOut_congr (setSource_trigOuts s n c) _
@[simp] theorem queue_setSource (k : Nat) : (s.setSource n c).queue k = s.queue k := queue_congr (setSource_queues s n c) _
@[simp] theorem stream_setSource (k l : Nat) : (s.setSource n c).stream k l = s.stream k l := stream_congr (setSource_streams s n c) _ _
@[simp] theorem zone_setSource (k : Nat) : (s.setSource n c).zone k = s.zone k := zone_congr (setSource_zones s n c) _
@[simp] theorem session_setSource (k : Nat) : (s.setSource n c).session k = s.session k := session_congr (setSource_sessions s n c) _
@[simp] theorem step_setSource (k : Nat) : (s.setSource n c).step k = s.step k := step_congr (setSource_disp s n c) _
@[simp] theorem calRun_setSource (k : Nat) : (s.setSource n c).calRun k = s.calRun k := calRun_congr (setSource_cal s n c) _
@[simp] theorem calFigure_setSource (k : Nat) : (s.setSource n c).calFigure k = s.calFigure k := calFigure_congr (setSource_cal s n c) _
@[simp] theorem claimOf_setSource (k l : Nat) : (s.setSource n c).claimOf k l = s.claimOf k l := claimOf_congr (setSource_claims s n c) _ _
@[simp] theorem holder_setSource (k l : Nat) : (s.setSource n c).holder k l = s.holder k l :=
  holder_congr (setSource_claims s n c) (setSource_sessions s n c) _ _
end
section
variable (s : State) (o : Nat) (c : TrigOut)
@[simp] theorem objAt_setTrigOut (k : Nat) : (s.setTrigOut o c).objAt k = s.objAt k := objAt_congr (setTrigOut_objs s o c) _
@[simp] theorem obj_setTrigOut (k l : Nat) : (s.setTrigOut o c).obj k l = s.obj k l := obj_congr (setTrigOut_objs s o c) _ _
@[simp] theorem objN_setTrigOut (k l : Nat) : (s.setTrigOut o c).objN k l = s.objN k l := objN_congr (setTrigOut_objs s o c) _ _
@[simp] theorem own_setTrigOut (k l m : Nat) : (s.setTrigOut o c).own k l m = s.own k l m := own_congr (setTrigOut_objs s o c) _ _ _
@[simp] theorem ready_setTrigOut (k : Nat) : (s.setTrigOut o c).ready k = s.ready k := ready_congr (setTrigOut_objs s o c) _
@[simp] theorem blob_setTrigOut (k l : Nat) : (s.setTrigOut o c).blob k l = s.blob k l := blob_congr (setTrigOut_blobs s o c) _ _
@[simp] theorem readByte_setTrigOut (k : Nat) : (s.setTrigOut o c).readByte k = s.readByte k := readByte_congr (setTrigOut_mem s o c) _
@[simp] theorem port_setTrigOut (k : Nat) : (s.setTrigOut o c).port k = s.port k := port_congr (setTrigOut_ports s o c) _
@[simp] theorem pin_setTrigOut (k : Nat) : (s.setTrigOut o c).pin k = s.pin k := pin_congr (setTrigOut_pins s o c) _
@[simp] theorem conv_setTrigOut (k : Nat) : (s.setTrigOut o c).conv k = s.conv k := conv_congr (setTrigOut_convs s o c) _
@[simp] theorem chain_setTrigOut (k : Nat) : (s.setTrigOut o c).chain k = s.chain k := chain_congr (setTrigOut_chains s o c) _
@[simp] theorem sweep_setTrigOut (k : Nat) : (s.setTrigOut o c).sweep k = s.sweep k := sweep_congr (setTrigOut_sweeps s o c) _
@[simp] theorem busSource_setTrigOut (k : Nat) : (s.setTrigOut o c).busSource k = s.busSource k := busSource_congr (setTrigOut_busSources s o c) _
@[simp] theorem can_setTrigOut (k : Nat) : (s.setTrigOut o c).can k = s.can k := can_congr (setTrigOut_cans s o c) _
@[simp] theorem lin_setTrigOut (k : Nat) : (s.setTrigOut o c).lin k = s.lin k := lin_congr (setTrigOut_lins s o c) _
@[simp] theorem sent_setTrigOut (k : Nat) : (s.setTrigOut o c).sent k = s.sent k := sent_congr (setTrigOut_sents s o c) _
@[simp] theorem core_setTrigOut (k : Nat) : (s.setTrigOut o c).core k = s.core k := core_congr (setTrigOut_cores s o c) _
@[simp] theorem source_setTrigOut (k : Nat) : (s.setTrigOut o c).source k = s.source k := source_congr (setTrigOut_sources s o c) _
@[simp] theorem queue_setTrigOut (k : Nat) : (s.setTrigOut o c).queue k = s.queue k := queue_congr (setTrigOut_queues s o c) _
@[simp] theorem stream_setTrigOut (k l : Nat) : (s.setTrigOut o c).stream k l = s.stream k l := stream_congr (setTrigOut_streams s o c) _ _
@[simp] theorem zone_setTrigOut (k : Nat) : (s.setTrigOut o c).zone k = s.zone k := zone_congr (setTrigOut_zones s o c) _
@[simp] theorem session_setTrigOut (k : Nat) : (s.setTrigOut o c).session k = s.session k := session_congr (setTrigOut_sessions s o c) _
@[simp] theorem step_setTrigOut (k : Nat) : (s.setTrigOut o c).step k = s.step k := step_congr (setTrigOut_disp s o c) _
@[simp] theorem calRun_setTrigOut (k : Nat) : (s.setTrigOut o c).calRun k = s.calRun k := calRun_congr (setTrigOut_cal s o c) _
@[simp] theorem calFigure_setTrigOut (k : Nat) : (s.setTrigOut o c).calFigure k = s.calFigure k := calFigure_congr (setTrigOut_cal s o c) _
@[simp] theorem claimOf_setTrigOut (k l : Nat) : (s.setTrigOut o c).claimOf k l = s.claimOf k l := claimOf_congr (setTrigOut_claims s o c) _ _
@[simp] theorem holder_setTrigOut (k l : Nat) : (s.setTrigOut o c).holder k l = s.holder k l :=
  holder_congr (setTrigOut_claims s o c) (setTrigOut_sessions s o c) _ _
end
section
variable (s : State) (q : Nat) (c : Option Queue)
@[simp] theorem objAt_setQueue (k : Nat) : (s.setQueue q c).objAt k = s.objAt k := objAt_congr (setQueue_objs s q c) _
@[simp] theorem obj_setQueue (k l : Nat) : (s.setQueue q c).obj k l = s.obj k l := obj_congr (setQueue_objs s q c) _ _
@[simp] theorem objN_setQueue (k l : Nat) : (s.setQueue q c).objN k l = s.objN k l := objN_congr (setQueue_objs s q c) _ _
@[simp] theorem own_setQueue (k l m : Nat) : (s.setQueue q c).own k l m = s.own k l m := own_congr (setQueue_objs s q c) _ _ _
@[simp] theorem ready_setQueue (k : Nat) : (s.setQueue q c).ready k = s.ready k := ready_congr (setQueue_objs s q c) _
@[simp] theorem blob_setQueue (k l : Nat) : (s.setQueue q c).blob k l = s.blob k l := blob_congr (setQueue_blobs s q c) _ _
@[simp] theorem readByte_setQueue (k : Nat) : (s.setQueue q c).readByte k = s.readByte k := readByte_congr (setQueue_mem s q c) _
@[simp] theorem port_setQueue (k : Nat) : (s.setQueue q c).port k = s.port k := port_congr (setQueue_ports s q c) _
@[simp] theorem pin_setQueue (k : Nat) : (s.setQueue q c).pin k = s.pin k := pin_congr (setQueue_pins s q c) _
@[simp] theorem conv_setQueue (k : Nat) : (s.setQueue q c).conv k = s.conv k := conv_congr (setQueue_convs s q c) _
@[simp] theorem chain_setQueue (k : Nat) : (s.setQueue q c).chain k = s.chain k := chain_congr (setQueue_chains s q c) _
@[simp] theorem sweep_setQueue (k : Nat) : (s.setQueue q c).sweep k = s.sweep k := sweep_congr (setQueue_sweeps s q c) _
@[simp] theorem busSource_setQueue (k : Nat) : (s.setQueue q c).busSource k = s.busSource k := busSource_congr (setQueue_busSources s q c) _
@[simp] theorem can_setQueue (k : Nat) : (s.setQueue q c).can k = s.can k := can_congr (setQueue_cans s q c) _
@[simp] theorem lin_setQueue (k : Nat) : (s.setQueue q c).lin k = s.lin k := lin_congr (setQueue_lins s q c) _
@[simp] theorem sent_setQueue (k : Nat) : (s.setQueue q c).sent k = s.sent k := sent_congr (setQueue_sents s q c) _
@[simp] theorem core_setQueue (k : Nat) : (s.setQueue q c).core k = s.core k := core_congr (setQueue_cores s q c) _
@[simp] theorem source_setQueue (k : Nat) : (s.setQueue q c).source k = s.source k := source_congr (setQueue_sources s q c) _
@[simp] theorem trigOut_setQueue (k : Nat) : (s.setQueue q c).trigOut k = s.trigOut k := trigOut_congr (setQueue_trigOuts s q c) _
@[simp] theorem stream_setQueue (k l : Nat) : (s.setQueue q c).stream k l = s.stream k l := stream_congr (setQueue_streams s q c) _ _
@[simp] theorem zone_setQueue (k : Nat) : (s.setQueue q c).zone k = s.zone k := zone_congr (setQueue_zones s q c) _
@[simp] theorem session_setQueue (k : Nat) : (s.setQueue q c).session k = s.session k := session_congr (setQueue_sessions s q c) _
@[simp] theorem step_setQueue (k : Nat) : (s.setQueue q c).step k = s.step k := step_congr (setQueue_disp s q c) _
@[simp] theorem calRun_setQueue (k : Nat) : (s.setQueue q c).calRun k = s.calRun k := calRun_congr (setQueue_cal s q c) _
@[simp] theorem calFigure_setQueue (k : Nat) : (s.setQueue q c).calFigure k = s.calFigure k := calFigure_congr (setQueue_cal s q c) _
@[simp] theorem claimOf_setQueue (k l : Nat) : (s.setQueue q c).claimOf k l = s.claimOf k l := claimOf_congr (setQueue_claims s q c) _ _
@[simp] theorem holder_setQueue (k l : Nat) : (s.setQueue q c).holder k l = s.holder k l :=
  holder_congr (setQueue_claims s q c) (setQueue_sessions s q c) _ _
end
section
variable (s : State) (n k : Nat) (c : Option Stream)
@[simp] theorem objAt_setStream (uk : Nat) : (s.setStream n k c).objAt uk = s.objAt uk := objAt_congr (setStream_objs s n k c) _
@[simp] theorem obj_setStream (uk l : Nat) : (s.setStream n k c).obj uk l = s.obj uk l := obj_congr (setStream_objs s n k c) _ _
@[simp] theorem objN_setStream (uk l : Nat) : (s.setStream n k c).objN uk l = s.objN uk l := objN_congr (setStream_objs s n k c) _ _
@[simp] theorem own_setStream (uk l m : Nat) : (s.setStream n k c).own uk l m = s.own uk l m := own_congr (setStream_objs s n k c) _ _ _
@[simp] theorem ready_setStream (uk : Nat) : (s.setStream n k c).ready uk = s.ready uk := ready_congr (setStream_objs s n k c) _
@[simp] theorem blob_setStream (uk l : Nat) : (s.setStream n k c).blob uk l = s.blob uk l := blob_congr (setStream_blobs s n k c) _ _
@[simp] theorem readByte_setStream (uk : Nat) : (s.setStream n k c).readByte uk = s.readByte uk := readByte_congr (setStream_mem s n k c) _
@[simp] theorem port_setStream (uk : Nat) : (s.setStream n k c).port uk = s.port uk := port_congr (setStream_ports s n k c) _
@[simp] theorem pin_setStream (uk : Nat) : (s.setStream n k c).pin uk = s.pin uk := pin_congr (setStream_pins s n k c) _
@[simp] theorem conv_setStream (uk : Nat) : (s.setStream n k c).conv uk = s.conv uk := conv_congr (setStream_convs s n k c) _
@[simp] theorem chain_setStream (uk : Nat) : (s.setStream n k c).chain uk = s.chain uk := chain_congr (setStream_chains s n k c) _
@[simp] theorem sweep_setStream (uk : Nat) : (s.setStream n k c).sweep uk = s.sweep uk := sweep_congr (setStream_sweeps s n k c) _
@[simp] theorem busSource_setStream (uk : Nat) : (s.setStream n k c).busSource uk = s.busSource uk := busSource_congr (setStream_busSources s n k c) _
@[simp] theorem can_setStream (uk : Nat) : (s.setStream n k c).can uk = s.can uk := can_congr (setStream_cans s n k c) _
@[simp] theorem lin_setStream (uk : Nat) : (s.setStream n k c).lin uk = s.lin uk := lin_congr (setStream_lins s n k c) _
@[simp] theorem sent_setStream (uk : Nat) : (s.setStream n k c).sent uk = s.sent uk := sent_congr (setStream_sents s n k c) _
@[simp] theorem core_setStream (uk : Nat) : (s.setStream n k c).core uk = s.core uk := core_congr (setStream_cores s n k c) _
@[simp] theorem source_setStream (uk : Nat) : (s.setStream n k c).source uk = s.source uk := source_congr (setStream_sources s n k c) _
@[simp] theorem trigOut_setStream (uk : Nat) : (s.setStream n k c).trigOut uk = s.trigOut uk := trigOut_congr (setStream_trigOuts s n k c) _
@[simp] theorem queue_setStream (uk : Nat) : (s.setStream n k c).queue uk = s.queue uk := queue_congr (setStream_queues s n k c) _
@[simp] theorem zone_setStream (uk : Nat) : (s.setStream n k c).zone uk = s.zone uk := zone_congr (setStream_zones s n k c) _
@[simp] theorem session_setStream (uk : Nat) : (s.setStream n k c).session uk = s.session uk := session_congr (setStream_sessions s n k c) _
@[simp] theorem step_setStream (uk : Nat) : (s.setStream n k c).step uk = s.step uk := step_congr (setStream_disp s n k c) _
@[simp] theorem calRun_setStream (uk : Nat) : (s.setStream n k c).calRun uk = s.calRun uk := calRun_congr (setStream_cal s n k c) _
@[simp] theorem calFigure_setStream (uk : Nat) : (s.setStream n k c).calFigure uk = s.calFigure uk := calFigure_congr (setStream_cal s n k c) _
@[simp] theorem claimOf_setStream (uk l : Nat) : (s.setStream n k c).claimOf uk l = s.claimOf uk l := claimOf_congr (setStream_claims s n k c) _ _
@[simp] theorem holder_setStream (uk l : Nat) : (s.setStream n k c).holder uk l = s.holder uk l :=
  holder_congr (setStream_claims s n k c) (setStream_sessions s n k c) _ _
end
section
variable (s : State) (z : Nat) (c : Zone)
@[simp] theorem objAt_setZone (k : Nat) : (s.setZone z c).objAt k = s.objAt k := objAt_congr (setZone_objs s z c) _
@[simp] theorem obj_setZone (k l : Nat) : (s.setZone z c).obj k l = s.obj k l := obj_congr (setZone_objs s z c) _ _
@[simp] theorem objN_setZone (k l : Nat) : (s.setZone z c).objN k l = s.objN k l := objN_congr (setZone_objs s z c) _ _
@[simp] theorem own_setZone (k l m : Nat) : (s.setZone z c).own k l m = s.own k l m := own_congr (setZone_objs s z c) _ _ _
@[simp] theorem ready_setZone (k : Nat) : (s.setZone z c).ready k = s.ready k := ready_congr (setZone_objs s z c) _
@[simp] theorem blob_setZone (k l : Nat) : (s.setZone z c).blob k l = s.blob k l := blob_congr (setZone_blobs s z c) _ _
@[simp] theorem readByte_setZone (k : Nat) : (s.setZone z c).readByte k = s.readByte k := readByte_congr (setZone_mem s z c) _
@[simp] theorem port_setZone (k : Nat) : (s.setZone z c).port k = s.port k := port_congr (setZone_ports s z c) _
@[simp] theorem pin_setZone (k : Nat) : (s.setZone z c).pin k = s.pin k := pin_congr (setZone_pins s z c) _
@[simp] theorem conv_setZone (k : Nat) : (s.setZone z c).conv k = s.conv k := conv_congr (setZone_convs s z c) _
@[simp] theorem chain_setZone (k : Nat) : (s.setZone z c).chain k = s.chain k := chain_congr (setZone_chains s z c) _
@[simp] theorem sweep_setZone (k : Nat) : (s.setZone z c).sweep k = s.sweep k := sweep_congr (setZone_sweeps s z c) _
@[simp] theorem busSource_setZone (k : Nat) : (s.setZone z c).busSource k = s.busSource k := busSource_congr (setZone_busSources s z c) _
@[simp] theorem can_setZone (k : Nat) : (s.setZone z c).can k = s.can k := can_congr (setZone_cans s z c) _
@[simp] theorem lin_setZone (k : Nat) : (s.setZone z c).lin k = s.lin k := lin_congr (setZone_lins s z c) _
@[simp] theorem sent_setZone (k : Nat) : (s.setZone z c).sent k = s.sent k := sent_congr (setZone_sents s z c) _
@[simp] theorem core_setZone (k : Nat) : (s.setZone z c).core k = s.core k := core_congr (setZone_cores s z c) _
@[simp] theorem source_setZone (k : Nat) : (s.setZone z c).source k = s.source k := source_congr (setZone_sources s z c) _
@[simp] theorem trigOut_setZone (k : Nat) : (s.setZone z c).trigOut k = s.trigOut k := trigOut_congr (setZone_trigOuts s z c) _
@[simp] theorem queue_setZone (k : Nat) : (s.setZone z c).queue k = s.queue k := queue_congr (setZone_queues s z c) _
@[simp] theorem stream_setZone (k l : Nat) : (s.setZone z c).stream k l = s.stream k l := stream_congr (setZone_streams s z c) _ _
@[simp] theorem session_setZone (k : Nat) : (s.setZone z c).session k = s.session k := session_congr (setZone_sessions s z c) _
@[simp] theorem step_setZone (k : Nat) : (s.setZone z c).step k = s.step k := step_congr (setZone_disp s z c) _
@[simp] theorem calRun_setZone (k : Nat) : (s.setZone z c).calRun k = s.calRun k := calRun_congr (setZone_cal s z c) _
@[simp] theorem calFigure_setZone (k : Nat) : (s.setZone z c).calFigure k = s.calFigure k := calFigure_congr (setZone_cal s z c) _
@[simp] theorem claimOf_setZone (k l : Nat) : (s.setZone z c).claimOf k l = s.claimOf k l := claimOf_congr (setZone_claims s z c) _ _
@[simp] theorem holder_setZone (k l : Nat) : (s.setZone z c).holder k l = s.holder k l :=
  holder_congr (setZone_claims s z c) (setZone_sessions s z c) _ _
end
section
variable (s : State) (n : Nat) (c : Session)
@[simp] theorem objAt_setSession (k : Nat) : (s.setSession n c).objAt k = s.objAt k := objAt_congr (setSession_objs s n c) _
@[simp] theorem obj_setSession (k l : Nat) : (s.setSession n c).obj k l = s.obj k l := obj_congr (setSession_objs s n c) _ _
@[simp] theorem objN_setSession (k l : Nat) : (s.setSession n c).objN k l = s.objN k l := objN_congr (setSession_objs s n c) _ _
@[simp] theorem own_setSession (k l m : Nat) : (s.setSession n c).own k l m = s.own k l m := own_congr (setSession_objs s n c) _ _ _
@[simp] theorem ready_setSession (k : Nat) : (s.setSession n c).ready k = s.ready k := ready_congr (setSession_objs s n c) _
@[simp] theorem blob_setSession (k l : Nat) : (s.setSession n c).blob k l = s.blob k l := blob_congr (setSession_blobs s n c) _ _
@[simp] theorem readByte_setSession (k : Nat) : (s.setSession n c).readByte k = s.readByte k := readByte_congr (setSession_mem s n c) _
@[simp] theorem port_setSession (k : Nat) : (s.setSession n c).port k = s.port k := port_congr (setSession_ports s n c) _
@[simp] theorem pin_setSession (k : Nat) : (s.setSession n c).pin k = s.pin k := pin_congr (setSession_pins s n c) _
@[simp] theorem conv_setSession (k : Nat) : (s.setSession n c).conv k = s.conv k := conv_congr (setSession_convs s n c) _
@[simp] theorem chain_setSession (k : Nat) : (s.setSession n c).chain k = s.chain k := chain_congr (setSession_chains s n c) _
@[simp] theorem sweep_setSession (k : Nat) : (s.setSession n c).sweep k = s.sweep k := sweep_congr (setSession_sweeps s n c) _
@[simp] theorem busSource_setSession (k : Nat) : (s.setSession n c).busSource k = s.busSource k := busSource_congr (setSession_busSources s n c) _
@[simp] theorem can_setSession (k : Nat) : (s.setSession n c).can k = s.can k := can_congr (setSession_cans s n c) _
@[simp] theorem lin_setSession (k : Nat) : (s.setSession n c).lin k = s.lin k := lin_congr (setSession_lins s n c) _
@[simp] theorem sent_setSession (k : Nat) : (s.setSession n c).sent k = s.sent k := sent_congr (setSession_sents s n c) _
@[simp] theorem core_setSession (k : Nat) : (s.setSession n c).core k = s.core k := core_congr (setSession_cores s n c) _
@[simp] theorem source_setSession (k : Nat) : (s.setSession n c).source k = s.source k := source_congr (setSession_sources s n c) _
@[simp] theorem trigOut_setSession (k : Nat) : (s.setSession n c).trigOut k = s.trigOut k := trigOut_congr (setSession_trigOuts s n c) _
@[simp] theorem queue_setSession (k : Nat) : (s.setSession n c).queue k = s.queue k := queue_congr (setSession_queues s n c) _
@[simp] theorem stream_setSession (k l : Nat) : (s.setSession n c).stream k l = s.stream k l := stream_congr (setSession_streams s n c) _ _
@[simp] theorem zone_setSession (k : Nat) : (s.setSession n c).zone k = s.zone k := zone_congr (setSession_zones s n c) _
@[simp] theorem step_setSession (k : Nat) : (s.setSession n c).step k = s.step k := step_congr (setSession_disp s n c) _
@[simp] theorem calRun_setSession (k : Nat) : (s.setSession n c).calRun k = s.calRun k := calRun_congr (setSession_cal s n c) _
@[simp] theorem calFigure_setSession (k : Nat) : (s.setSession n c).calFigure k = s.calFigure k := calFigure_congr (setSession_cal s n c) _
@[simp] theorem claimOf_setSession (k l : Nat) : (s.setSession n c).claimOf k l = s.claimOf k l := claimOf_congr (setSession_claims s n c) _ _
end
section
variable (s : State) (k : Nat) (r : StepRec)
@[simp] theorem objAt_setStep (uk : Nat) : (s.setStep k r).objAt uk = s.objAt uk := objAt_congr (setStep_objs s k r) _
@[simp] theorem obj_setStep (uk l : Nat) : (s.setStep k r).obj uk l = s.obj uk l := obj_congr (setStep_objs s k r) _ _
@[simp] theorem objN_setStep (uk l : Nat) : (s.setStep k r).objN uk l = s.objN uk l := objN_congr (setStep_objs s k r) _ _
@[simp] theorem own_setStep (uk l m : Nat) : (s.setStep k r).own uk l m = s.own uk l m := own_congr (setStep_objs s k r) _ _ _
@[simp] theorem ready_setStep (uk : Nat) : (s.setStep k r).ready uk = s.ready uk := ready_congr (setStep_objs s k r) _
@[simp] theorem blob_setStep (uk l : Nat) : (s.setStep k r).blob uk l = s.blob uk l := blob_congr (setStep_blobs s k r) _ _
@[simp] theorem readByte_setStep (uk : Nat) : (s.setStep k r).readByte uk = s.readByte uk := readByte_congr (setStep_mem s k r) _
@[simp] theorem port_setStep (uk : Nat) : (s.setStep k r).port uk = s.port uk := port_congr (setStep_ports s k r) _
@[simp] theorem pin_setStep (uk : Nat) : (s.setStep k r).pin uk = s.pin uk := pin_congr (setStep_pins s k r) _
@[simp] theorem conv_setStep (uk : Nat) : (s.setStep k r).conv uk = s.conv uk := conv_congr (setStep_convs s k r) _
@[simp] theorem chain_setStep (uk : Nat) : (s.setStep k r).chain uk = s.chain uk := chain_congr (setStep_chains s k r) _
@[simp] theorem sweep_setStep (uk : Nat) : (s.setStep k r).sweep uk = s.sweep uk := sweep_congr (setStep_sweeps s k r) _
@[simp] theorem busSource_setStep (uk : Nat) : (s.setStep k r).busSource uk = s.busSource uk := busSource_congr (setStep_busSources s k r) _
@[simp] theorem can_setStep (uk : Nat) : (s.setStep k r).can uk = s.can uk := can_congr (setStep_cans s k r) _
@[simp] theorem lin_setStep (uk : Nat) : (s.setStep k r).lin uk = s.lin uk := lin_congr (setStep_lins s k r) _
@[simp] theorem sent_setStep (uk : Nat) : (s.setStep k r).sent uk = s.sent uk := sent_congr (setStep_sents s k r) _
@[simp] theorem core_setStep (uk : Nat) : (s.setStep k r).core uk = s.core uk := core_congr (setStep_cores s k r) _
@[simp] theorem source_setStep (uk : Nat) : (s.setStep k r).source uk = s.source uk := source_congr (setStep_sources s k r) _
@[simp] theorem trigOut_setStep (uk : Nat) : (s.setStep k r).trigOut uk = s.trigOut uk := trigOut_congr (setStep_trigOuts s k r) _
@[simp] theorem queue_setStep (uk : Nat) : (s.setStep k r).queue uk = s.queue uk := queue_congr (setStep_queues s k r) _
@[simp] theorem stream_setStep (uk l : Nat) : (s.setStep k r).stream uk l = s.stream uk l := stream_congr (setStep_streams s k r) _ _
@[simp] theorem zone_setStep (uk : Nat) : (s.setStep k r).zone uk = s.zone uk := zone_congr (setStep_zones s k r) _
@[simp] theorem session_setStep (uk : Nat) : (s.setStep k r).session uk = s.session uk := session_congr (setStep_sessions s k r) _
@[simp] theorem calRun_setStep (uk : Nat) : (s.setStep k r).calRun uk = s.calRun uk := calRun_congr (setStep_cal s k r) _
@[simp] theorem calFigure_setStep (uk : Nat) : (s.setStep k r).calFigure uk = s.calFigure uk := calFigure_congr (setStep_cal s k r) _
@[simp] theorem claimOf_setStep (uk l : Nat) : (s.setStep k r).claimOf uk l = s.claimOf uk l := claimOf_congr (setStep_claims s k r) _ _
@[simp] theorem holder_setStep (uk l : Nat) : (s.setStep k r).holder uk l = s.holder uk l :=
  holder_congr (setStep_claims s k r) (setStep_sessions s k r) _ _
end
section
variable (s : State) (d : Nat) (r : CalRun)
@[simp] theorem objAt_setCalRun (k : Nat) : (s.setCalRun d r).objAt k = s.objAt k := objAt_congr (setCalRun_objs s d r) _
@[simp] theorem obj_setCalRun (k l : Nat) : (s.setCalRun d r).obj k l = s.obj k l := obj_congr (setCalRun_objs s d r) _ _
@[simp] theorem objN_setCalRun (k l : Nat) : (s.setCalRun d r).objN k l = s.objN k l := objN_congr (setCalRun_objs s d r) _ _
@[simp] theorem own_setCalRun (k l m : Nat) : (s.setCalRun d r).own k l m = s.own k l m := own_congr (setCalRun_objs s d r) _ _ _
@[simp] theorem ready_setCalRun (k : Nat) : (s.setCalRun d r).ready k = s.ready k := ready_congr (setCalRun_objs s d r) _
@[simp] theorem blob_setCalRun (k l : Nat) : (s.setCalRun d r).blob k l = s.blob k l := blob_congr (setCalRun_blobs s d r) _ _
@[simp] theorem readByte_setCalRun (k : Nat) : (s.setCalRun d r).readByte k = s.readByte k := readByte_congr (setCalRun_mem s d r) _
@[simp] theorem port_setCalRun (k : Nat) : (s.setCalRun d r).port k = s.port k := port_congr (setCalRun_ports s d r) _
@[simp] theorem pin_setCalRun (k : Nat) : (s.setCalRun d r).pin k = s.pin k := pin_congr (setCalRun_pins s d r) _
@[simp] theorem conv_setCalRun (k : Nat) : (s.setCalRun d r).conv k = s.conv k := conv_congr (setCalRun_convs s d r) _
@[simp] theorem chain_setCalRun (k : Nat) : (s.setCalRun d r).chain k = s.chain k := chain_congr (setCalRun_chains s d r) _
@[simp] theorem sweep_setCalRun (k : Nat) : (s.setCalRun d r).sweep k = s.sweep k := sweep_congr (setCalRun_sweeps s d r) _
@[simp] theorem busSource_setCalRun (k : Nat) : (s.setCalRun d r).busSource k = s.busSource k := busSource_congr (setCalRun_busSources s d r) _
@[simp] theorem can_setCalRun (k : Nat) : (s.setCalRun d r).can k = s.can k := can_congr (setCalRun_cans s d r) _
@[simp] theorem lin_setCalRun (k : Nat) : (s.setCalRun d r).lin k = s.lin k := lin_congr (setCalRun_lins s d r) _
@[simp] theorem sent_setCalRun (k : Nat) : (s.setCalRun d r).sent k = s.sent k := sent_congr (setCalRun_sents s d r) _
@[simp] theorem core_setCalRun (k : Nat) : (s.setCalRun d r).core k = s.core k := core_congr (setCalRun_cores s d r) _
@[simp] theorem source_setCalRun (k : Nat) : (s.setCalRun d r).source k = s.source k := source_congr (setCalRun_sources s d r) _
@[simp] theorem trigOut_setCalRun (k : Nat) : (s.setCalRun d r).trigOut k = s.trigOut k := trigOut_congr (setCalRun_trigOuts s d r) _
@[simp] theorem queue_setCalRun (k : Nat) : (s.setCalRun d r).queue k = s.queue k := queue_congr (setCalRun_queues s d r) _
@[simp] theorem stream_setCalRun (k l : Nat) : (s.setCalRun d r).stream k l = s.stream k l := stream_congr (setCalRun_streams s d r) _ _
@[simp] theorem zone_setCalRun (k : Nat) : (s.setCalRun d r).zone k = s.zone k := zone_congr (setCalRun_zones s d r) _
@[simp] theorem session_setCalRun (k : Nat) : (s.setCalRun d r).session k = s.session k := session_congr (setCalRun_sessions s d r) _
@[simp] theorem step_setCalRun (k : Nat) : (s.setCalRun d r).step k = s.step k := step_congr (setCalRun_disp s d r) _
@[simp] theorem claimOf_setCalRun (k l : Nat) : (s.setCalRun d r).claimOf k l = s.claimOf k l := claimOf_congr (setCalRun_claims s d r) _ _
@[simp] theorem holder_setCalRun (k l : Nat) : (s.setCalRun d r).holder k l = s.holder k l :=
  holder_congr (setCalRun_claims s d r) (setCalRun_sessions s d r) _ _
end
section
variable (s : State) (i : Nat) (f : CalFigure)
@[simp] theorem objAt_setCalFigure (k : Nat) : (s.setCalFigure i f).objAt k = s.objAt k := objAt_congr (setCalFigure_objs s i f) _
@[simp] theorem obj_setCalFigure (k l : Nat) : (s.setCalFigure i f).obj k l = s.obj k l := obj_congr (setCalFigure_objs s i f) _ _
@[simp] theorem objN_setCalFigure (k l : Nat) : (s.setCalFigure i f).objN k l = s.objN k l := objN_congr (setCalFigure_objs s i f) _ _
@[simp] theorem own_setCalFigure (k l m : Nat) : (s.setCalFigure i f).own k l m = s.own k l m := own_congr (setCalFigure_objs s i f) _ _ _
@[simp] theorem ready_setCalFigure (k : Nat) : (s.setCalFigure i f).ready k = s.ready k := ready_congr (setCalFigure_objs s i f) _
@[simp] theorem blob_setCalFigure (k l : Nat) : (s.setCalFigure i f).blob k l = s.blob k l := blob_congr (setCalFigure_blobs s i f) _ _
@[simp] theorem readByte_setCalFigure (k : Nat) : (s.setCalFigure i f).readByte k = s.readByte k := readByte_congr (setCalFigure_mem s i f) _
@[simp] theorem port_setCalFigure (k : Nat) : (s.setCalFigure i f).port k = s.port k := port_congr (setCalFigure_ports s i f) _
@[simp] theorem pin_setCalFigure (k : Nat) : (s.setCalFigure i f).pin k = s.pin k := pin_congr (setCalFigure_pins s i f) _
@[simp] theorem conv_setCalFigure (k : Nat) : (s.setCalFigure i f).conv k = s.conv k := conv_congr (setCalFigure_convs s i f) _
@[simp] theorem chain_setCalFigure (k : Nat) : (s.setCalFigure i f).chain k = s.chain k := chain_congr (setCalFigure_chains s i f) _
@[simp] theorem sweep_setCalFigure (k : Nat) : (s.setCalFigure i f).sweep k = s.sweep k := sweep_congr (setCalFigure_sweeps s i f) _
@[simp] theorem busSource_setCalFigure (k : Nat) : (s.setCalFigure i f).busSource k = s.busSource k := busSource_congr (setCalFigure_busSources s i f) _
@[simp] theorem can_setCalFigure (k : Nat) : (s.setCalFigure i f).can k = s.can k := can_congr (setCalFigure_cans s i f) _
@[simp] theorem lin_setCalFigure (k : Nat) : (s.setCalFigure i f).lin k = s.lin k := lin_congr (setCalFigure_lins s i f) _
@[simp] theorem sent_setCalFigure (k : Nat) : (s.setCalFigure i f).sent k = s.sent k := sent_congr (setCalFigure_sents s i f) _
@[simp] theorem core_setCalFigure (k : Nat) : (s.setCalFigure i f).core k = s.core k := core_congr (setCalFigure_cores s i f) _
@[simp] theorem source_setCalFigure (k : Nat) : (s.setCalFigure i f).source k = s.source k := source_congr (setCalFigure_sources s i f) _
@[simp] theorem trigOut_setCalFigure (k : Nat) : (s.setCalFigure i f).trigOut k = s.trigOut k := trigOut_congr (setCalFigure_trigOuts s i f) _
@[simp] theorem queue_setCalFigure (k : Nat) : (s.setCalFigure i f).queue k = s.queue k := queue_congr (setCalFigure_queues s i f) _
@[simp] theorem stream_setCalFigure (k l : Nat) : (s.setCalFigure i f).stream k l = s.stream k l := stream_congr (setCalFigure_streams s i f) _ _
@[simp] theorem zone_setCalFigure (k : Nat) : (s.setCalFigure i f).zone k = s.zone k := zone_congr (setCalFigure_zones s i f) _
@[simp] theorem session_setCalFigure (k : Nat) : (s.setCalFigure i f).session k = s.session k := session_congr (setCalFigure_sessions s i f) _
@[simp] theorem step_setCalFigure (k : Nat) : (s.setCalFigure i f).step k = s.step k := step_congr (setCalFigure_disp s i f) _
@[simp] theorem claimOf_setCalFigure (k l : Nat) : (s.setCalFigure i f).claimOf k l = s.claimOf k l := claimOf_congr (setCalFigure_claims s i f) _ _
@[simp] theorem holder_setCalFigure (k l : Nat) : (s.setCalFigure i f).holder k l = s.holder k l :=
  holder_congr (setCalFigure_claims s i f) (setCalFigure_sessions s i f) _ _
end
section
variable (s : State) (k : Nat)
@[simp] theorem objAt_staleSnaps (uk : Nat) : (s.staleSnaps k).objAt uk = s.objAt uk := objAt_congr (staleSnaps_objs s k) _
@[simp] theorem obj_staleSnaps (uk l : Nat) : (s.staleSnaps k).obj uk l = s.obj uk l := obj_congr (staleSnaps_objs s k) _ _
@[simp] theorem objN_staleSnaps (uk l : Nat) : (s.staleSnaps k).objN uk l = s.objN uk l := objN_congr (staleSnaps_objs s k) _ _
@[simp] theorem own_staleSnaps (uk l m : Nat) : (s.staleSnaps k).own uk l m = s.own uk l m := own_congr (staleSnaps_objs s k) _ _ _
@[simp] theorem ready_staleSnaps (uk : Nat) : (s.staleSnaps k).ready uk = s.ready uk := ready_congr (staleSnaps_objs s k) _
@[simp] theorem blob_staleSnaps (uk l : Nat) : (s.staleSnaps k).blob uk l = s.blob uk l := blob_congr (staleSnaps_blobs s k) _ _
@[simp] theorem readByte_staleSnaps (uk : Nat) : (s.staleSnaps k).readByte uk = s.readByte uk := readByte_congr (staleSnaps_mem s k) _
@[simp] theorem port_staleSnaps (uk : Nat) : (s.staleSnaps k).port uk = s.port uk := port_congr (staleSnaps_ports s k) _
@[simp] theorem pin_staleSnaps (uk : Nat) : (s.staleSnaps k).pin uk = s.pin uk := pin_congr (staleSnaps_pins s k) _
@[simp] theorem conv_staleSnaps (uk : Nat) : (s.staleSnaps k).conv uk = s.conv uk := conv_congr (staleSnaps_convs s k) _
@[simp] theorem chain_staleSnaps (uk : Nat) : (s.staleSnaps k).chain uk = s.chain uk := chain_congr (staleSnaps_chains s k) _
@[simp] theorem sweep_staleSnaps (uk : Nat) : (s.staleSnaps k).sweep uk = s.sweep uk := sweep_congr (staleSnaps_sweeps s k) _
@[simp] theorem busSource_staleSnaps (uk : Nat) : (s.staleSnaps k).busSource uk = s.busSource uk := busSource_congr (staleSnaps_busSources s k) _
@[simp] theorem can_staleSnaps (uk : Nat) : (s.staleSnaps k).can uk = s.can uk := can_congr (staleSnaps_cans s k) _
@[simp] theorem lin_staleSnaps (uk : Nat) : (s.staleSnaps k).lin uk = s.lin uk := lin_congr (staleSnaps_lins s k) _
@[simp] theorem sent_staleSnaps (uk : Nat) : (s.staleSnaps k).sent uk = s.sent uk := sent_congr (staleSnaps_sents s k) _
@[simp] theorem source_staleSnaps (uk : Nat) : (s.staleSnaps k).source uk = s.source uk := source_congr (staleSnaps_sources s k) _
@[simp] theorem trigOut_staleSnaps (uk : Nat) : (s.staleSnaps k).trigOut uk = s.trigOut uk := trigOut_congr (staleSnaps_trigOuts s k) _
@[simp] theorem queue_staleSnaps (uk : Nat) : (s.staleSnaps k).queue uk = s.queue uk := queue_congr (staleSnaps_queues s k) _
@[simp] theorem stream_staleSnaps (uk l : Nat) : (s.staleSnaps k).stream uk l = s.stream uk l := stream_congr (staleSnaps_streams s k) _ _
@[simp] theorem zone_staleSnaps (uk : Nat) : (s.staleSnaps k).zone uk = s.zone uk := zone_congr (staleSnaps_zones s k) _
@[simp] theorem session_staleSnaps (uk : Nat) : (s.staleSnaps k).session uk = s.session uk := session_congr (staleSnaps_sessions s k) _
@[simp] theorem step_staleSnaps (uk : Nat) : (s.staleSnaps k).step uk = s.step uk := step_congr (staleSnaps_disp s k) _
@[simp] theorem calRun_staleSnaps (uk : Nat) : (s.staleSnaps k).calRun uk = s.calRun uk := calRun_congr (staleSnaps_cal s k) _
@[simp] theorem calFigure_staleSnaps (uk : Nat) : (s.staleSnaps k).calFigure uk = s.calFigure uk := calFigure_congr (staleSnaps_cal s k) _
@[simp] theorem claimOf_staleSnaps (uk l : Nat) : (s.staleSnaps k).claimOf uk l = s.claimOf uk l := claimOf_congr (staleSnaps_claims s k) _ _
@[simp] theorem holder_staleSnaps (uk l : Nat) : (s.staleSnaps k).holder uk l = s.holder uk l :=
  holder_congr (staleSnaps_claims s k) (staleSnaps_sessions s k) _ _
end
section
variable (s : State) (cls n : Nat) (h : Option Nat)
@[simp] theorem objAt_setHolder (k : Nat) : (s.setHolder cls n h).objAt k = s.objAt k := objAt_congr (setHolder_objs s cls n h) _
@[simp] theorem obj_setHolder (k l : Nat) : (s.setHolder cls n h).obj k l = s.obj k l := obj_congr (setHolder_objs s cls n h) _ _
@[simp] theorem objN_setHolder (k l : Nat) : (s.setHolder cls n h).objN k l = s.objN k l := objN_congr (setHolder_objs s cls n h) _ _
@[simp] theorem own_setHolder (k l m : Nat) : (s.setHolder cls n h).own k l m = s.own k l m := own_congr (setHolder_objs s cls n h) _ _ _
@[simp] theorem ready_setHolder (k : Nat) : (s.setHolder cls n h).ready k = s.ready k := ready_congr (setHolder_objs s cls n h) _
@[simp] theorem blob_setHolder (k l : Nat) : (s.setHolder cls n h).blob k l = s.blob k l := blob_congr (setHolder_blobs s cls n h) _ _
@[simp] theorem readByte_setHolder (k : Nat) : (s.setHolder cls n h).readByte k = s.readByte k := readByte_congr (setHolder_mem s cls n h) _
@[simp] theorem port_setHolder (k : Nat) : (s.setHolder cls n h).port k = s.port k := port_congr (setHolder_ports s cls n h) _
@[simp] theorem pin_setHolder (k : Nat) : (s.setHolder cls n h).pin k = s.pin k := pin_congr (setHolder_pins s cls n h) _
@[simp] theorem conv_setHolder (k : Nat) : (s.setHolder cls n h).conv k = s.conv k := conv_congr (setHolder_convs s cls n h) _
@[simp] theorem chain_setHolder (k : Nat) : (s.setHolder cls n h).chain k = s.chain k := chain_congr (setHolder_chains s cls n h) _
@[simp] theorem sweep_setHolder (k : Nat) : (s.setHolder cls n h).sweep k = s.sweep k := sweep_congr (setHolder_sweeps s cls n h) _
@[simp] theorem busSource_setHolder (k : Nat) : (s.setHolder cls n h).busSource k = s.busSource k := busSource_congr (setHolder_busSources s cls n h) _
@[simp] theorem can_setHolder (k : Nat) : (s.setHolder cls n h).can k = s.can k := can_congr (setHolder_cans s cls n h) _
@[simp] theorem lin_setHolder (k : Nat) : (s.setHolder cls n h).lin k = s.lin k := lin_congr (setHolder_lins s cls n h) _
@[simp] theorem sent_setHolder (k : Nat) : (s.setHolder cls n h).sent k = s.sent k := sent_congr (setHolder_sents s cls n h) _
@[simp] theorem core_setHolder (k : Nat) : (s.setHolder cls n h).core k = s.core k := core_congr (setHolder_cores s cls n h) _
@[simp] theorem source_setHolder (k : Nat) : (s.setHolder cls n h).source k = s.source k := source_congr (setHolder_sources s cls n h) _
@[simp] theorem trigOut_setHolder (k : Nat) : (s.setHolder cls n h).trigOut k = s.trigOut k := trigOut_congr (setHolder_trigOuts s cls n h) _
@[simp] theorem queue_setHolder (k : Nat) : (s.setHolder cls n h).queue k = s.queue k := queue_congr (setHolder_queues s cls n h) _
@[simp] theorem stream_setHolder (k l : Nat) : (s.setHolder cls n h).stream k l = s.stream k l := stream_congr (setHolder_streams s cls n h) _ _
@[simp] theorem zone_setHolder (k : Nat) : (s.setHolder cls n h).zone k = s.zone k := zone_congr (setHolder_zones s cls n h) _
@[simp] theorem session_setHolder (k : Nat) : (s.setHolder cls n h).session k = s.session k := session_congr (setHolder_sessions s cls n h) _
@[simp] theorem step_setHolder (k : Nat) : (s.setHolder cls n h).step k = s.step k := step_congr (setHolder_disp s cls n h) _
@[simp] theorem calRun_setHolder (k : Nat) : (s.setHolder cls n h).calRun k = s.calRun k := calRun_congr (setHolder_cal s cls n h) _
@[simp] theorem calFigure_setHolder (k : Nat) : (s.setHolder cls n h).calFigure k = s.calFigure k := calFigure_congr (setHolder_cal s cls n h) _
end
section
variable (s : State) (o : Out)
@[simp] theorem objAt_send (k : Nat) : (s.send o).objAt k = s.objAt k := objAt_congr (send_objs s o) _
@[simp] theorem obj_send (k l : Nat) : (s.send o).obj k l = s.obj k l := obj_congr (send_objs s o) _ _
@[simp] theorem objN_send (k l : Nat) : (s.send o).objN k l = s.objN k l := objN_congr (send_objs s o) _ _
@[simp] theorem own_send (k l m : Nat) : (s.send o).own k l m = s.own k l m := own_congr (send_objs s o) _ _ _
@[simp] theorem ready_send (k : Nat) : (s.send o).ready k = s.ready k := ready_congr (send_objs s o) _
@[simp] theorem blob_send (k l : Nat) : (s.send o).blob k l = s.blob k l := blob_congr (send_blobs s o) _ _
@[simp] theorem readByte_send (k : Nat) : (s.send o).readByte k = s.readByte k := readByte_congr (send_mem s o) _
@[simp] theorem port_send (k : Nat) : (s.send o).port k = s.port k := port_congr (send_ports s o) _
@[simp] theorem pin_send (k : Nat) : (s.send o).pin k = s.pin k := pin_congr (send_pins s o) _
@[simp] theorem conv_send (k : Nat) : (s.send o).conv k = s.conv k := conv_congr (send_convs s o) _
@[simp] theorem chain_send (k : Nat) : (s.send o).chain k = s.chain k := chain_congr (send_chains s o) _
@[simp] theorem sweep_send (k : Nat) : (s.send o).sweep k = s.sweep k := sweep_congr (send_sweeps s o) _
@[simp] theorem busSource_send (k : Nat) : (s.send o).busSource k = s.busSource k := busSource_congr (send_busSources s o) _
@[simp] theorem can_send (k : Nat) : (s.send o).can k = s.can k := can_congr (send_cans s o) _
@[simp] theorem lin_send (k : Nat) : (s.send o).lin k = s.lin k := lin_congr (send_lins s o) _
@[simp] theorem sent_send (k : Nat) : (s.send o).sent k = s.sent k := sent_congr (send_sents s o) _
@[simp] theorem core_send (k : Nat) : (s.send o).core k = s.core k := core_congr (send_cores s o) _
@[simp] theorem source_send (k : Nat) : (s.send o).source k = s.source k := source_congr (send_sources s o) _
@[simp] theorem trigOut_send (k : Nat) : (s.send o).trigOut k = s.trigOut k := trigOut_congr (send_trigOuts s o) _
@[simp] theorem queue_send (k : Nat) : (s.send o).queue k = s.queue k := queue_congr (send_queues s o) _
@[simp] theorem stream_send (k l : Nat) : (s.send o).stream k l = s.stream k l := stream_congr (send_streams s o) _ _
@[simp] theorem zone_send (k : Nat) : (s.send o).zone k = s.zone k := zone_congr (send_zones s o) _
@[simp] theorem session_send (k : Nat) : (s.send o).session k = s.session k := session_congr (send_sessions s o) _
@[simp] theorem step_send (k : Nat) : (s.send o).step k = s.step k := step_congr (send_disp s o) _
@[simp] theorem calRun_send (k : Nat) : (s.send o).calRun k = s.calRun k := calRun_congr (send_cal s o) _
@[simp] theorem calFigure_send (k : Nat) : (s.send o).calFigure k = s.calFigure k := calFigure_congr (send_cal s o) _
@[simp] theorem claimOf_send (k l : Nat) : (s.send o).claimOf k l = s.claimOf k l := claimOf_congr (send_claims s o) _ _
@[simp] theorem holder_send (k l : Nat) : (s.send o).holder k l = s.holder k l :=
  holder_congr (send_claims s o) (send_sessions s o) _ _
end
section
variable (s : State)
@[simp] theorem objAt_nextFresh (k : Nat) : s.nextFresh.objAt k = s.objAt k := objAt_congr (nextFresh_objs s) _
@[simp] theorem obj_nextFresh (k l : Nat) : s.nextFresh.obj k l = s.obj k l := obj_congr (nextFresh_objs s) _ _
@[simp] theorem objN_nextFresh (k l : Nat) : s.nextFresh.objN k l = s.objN k l := objN_congr (nextFresh_objs s) _ _
@[simp] theorem own_nextFresh (k l m : Nat) : s.nextFresh.own k l m = s.own k l m := own_congr (nextFresh_objs s) _ _ _
@[simp] theorem ready_nextFresh (k : Nat) : s.nextFresh.ready k = s.ready k := ready_congr (nextFresh_objs s) _
@[simp] theorem blob_nextFresh (k l : Nat) : s.nextFresh.blob k l = s.blob k l := blob_congr (nextFresh_blobs s) _ _
@[simp] theorem readByte_nextFresh (k : Nat) : s.nextFresh.readByte k = s.readByte k := readByte_congr (nextFresh_mem s) _
@[simp] theorem port_nextFresh (k : Nat) : s.nextFresh.port k = s.port k := port_congr (nextFresh_ports s) _
@[simp] theorem pin_nextFresh (k : Nat) : s.nextFresh.pin k = s.pin k := pin_congr (nextFresh_pins s) _
@[simp] theorem conv_nextFresh (k : Nat) : s.nextFresh.conv k = s.conv k := conv_congr (nextFresh_convs s) _
@[simp] theorem chain_nextFresh (k : Nat) : s.nextFresh.chain k = s.chain k := chain_congr (nextFresh_chains s) _
@[simp] theorem sweep_nextFresh (k : Nat) : s.nextFresh.sweep k = s.sweep k := sweep_congr (nextFresh_sweeps s) _
@[simp] theorem busSource_nextFresh (k : Nat) : s.nextFresh.busSource k = s.busSource k := busSource_congr (nextFresh_busSources s) _
@[simp] theorem can_nextFresh (k : Nat) : s.nextFresh.can k = s.can k := can_congr (nextFresh_cans s) _
@[simp] theorem lin_nextFresh (k : Nat) : s.nextFresh.lin k = s.lin k := lin_congr (nextFresh_lins s) _
@[simp] theorem sent_nextFresh (k : Nat) : s.nextFresh.sent k = s.sent k := sent_congr (nextFresh_sents s) _
@[simp] theorem core_nextFresh (k : Nat) : s.nextFresh.core k = s.core k := core_congr (nextFresh_cores s) _
@[simp] theorem source_nextFresh (k : Nat) : s.nextFresh.source k = s.source k := source_congr (nextFresh_sources s) _
@[simp] theorem trigOut_nextFresh (k : Nat) : s.nextFresh.trigOut k = s.trigOut k := trigOut_congr (nextFresh_trigOuts s) _
@[simp] theorem queue_nextFresh (k : Nat) : s.nextFresh.queue k = s.queue k := queue_congr (nextFresh_queues s) _
@[simp] theorem stream_nextFresh (k l : Nat) : s.nextFresh.stream k l = s.stream k l := stream_congr (nextFresh_streams s) _ _
@[simp] theorem zone_nextFresh (k : Nat) : s.nextFresh.zone k = s.zone k := zone_congr (nextFresh_zones s) _
@[simp] theorem session_nextFresh (k : Nat) : s.nextFresh.session k = s.session k := session_congr (nextFresh_sessions s) _
@[simp] theorem step_nextFresh (k : Nat) : s.nextFresh.step k = s.step k := step_congr (nextFresh_disp s) _
@[simp] theorem calRun_nextFresh (k : Nat) : s.nextFresh.calRun k = s.calRun k := calRun_congr (nextFresh_cal s) _
@[simp] theorem calFigure_nextFresh (k : Nat) : s.nextFresh.calFigure k = s.calFigure k := calFigure_congr (nextFresh_cal s) _
@[simp] theorem claimOf_nextFresh (k l : Nat) : s.nextFresh.claimOf k l = s.claimOf k l := claimOf_congr (nextFresh_claims s) _ _
@[simp] theorem holder_nextFresh (k l : Nat) : s.nextFresh.holder k l = s.holder k l :=
  holder_congr (nextFresh_claims s) (nextFresh_sessions s) _ _
end

/-! ## Hearing a request -/

section
variable (s : State) (t : Tk) (a : Accessor)
@[simp] theorem heard_pending : (s.heard t a).pending = s.pending := by
  cases a <;> simp only [State.heard, State.hears, State.renew] <;> (try split) <;> simp
@[simp] theorem heard_blobs : (s.heard t a).blobs = s.blobs := by
  cases a <;> simp only [State.heard, State.hears, State.renew] <;> (try split) <;> simp
@[simp] theorem heard_mem : (s.heard t a).mem = s.mem := by
  cases a <;> simp only [State.heard, State.hears, State.renew] <;> (try split) <;> simp
@[simp] theorem heard_flips : (s.heard t a).flips = s.flips := by
  cases a <;> simp only [State.heard, State.hears, State.renew] <;> (try split) <;> simp
@[simp] theorem heard_ports : (s.heard t a).ports = s.ports := by
  cases a <;> simp only [State.heard, State.hears, State.renew] <;> (try split) <;> simp
@[simp] theorem heard_pins : (s.heard t a).pins = s.pins := by
  cases a <;> simp only [State.heard, State.hears, State.renew] <;> (try split) <;> simp
@[simp] theorem heard_convs : (s.heard t a).convs = s.convs := by
  cases a <;> simp only [State.heard, State.hears, State.renew] <;> (try split) <;> simp
@[simp] theorem heard_chains : (s.heard t a).chains = s.chains := by
  cases a <;> simp only [State.heard, State.hears, State.renew] <;> (try split) <;> simp
@[simp] theorem heard_map : (s.heard t a).map = s.map := by
  cases a <;> simp only [State.heard, State.hears, State.renew] <;> (try split) <;> simp
@[simp] theorem heard_disp : (s.heard t a).disp = s.disp := by
  cases a <;> simp only [State.heard, State.hears, State.renew] <;> (try split) <;> simp
@[simp] theorem heard_sweeps : (s.heard t a).sweeps = s.sweeps := by
  cases a <;> simp only [State.heard, State.hears, State.renew] <;> (try split) <;> simp
@[simp] theorem heard_busSources : (s.heard t a).busSources = s.busSources := by
  cases a <;> simp only [State.heard, State.hears, State.renew] <;> (try split) <;> simp
@[simp] theorem heard_cans : (s.heard t a).cans = s.cans := by
  cases a <;> simp only [State.heard, State.hears, State.renew] <;> (try split) <;> simp
@[simp] theorem heard_lins : (s.heard t a).lins = s.lins := by
  cases a <;> simp only [State.heard, State.hears, State.renew] <;> (try split) <;> simp
@[simp] theorem heard_sents : (s.heard t a).sents = s.sents := by
  cases a <;> simp only [State.heard, State.hears, State.renew] <;> (try split) <;> simp
@[simp] theorem heard_gov : (s.heard t a).gov = s.gov := by
  cases a <;> simp only [State.heard, State.hears, State.renew] <;> (try split) <;> simp
@[simp] theorem heard_cores : (s.heard t a).cores = s.cores := by
  cases a <;> simp only [State.heard, State.hears, State.renew] <;> (try split) <;> simp
@[simp] theorem heard_sources : (s.heard t a).sources = s.sources := by
  cases a <;> simp only [State.heard, State.hears, State.renew] <;> (try split) <;> simp
@[simp] theorem heard_timebase : (s.heard t a).timebase = s.timebase := by
  cases a <;> simp only [State.heard, State.hears, State.renew] <;> (try split) <;> simp
@[simp] theorem heard_trigOuts : (s.heard t a).trigOuts = s.trigOuts := by
  cases a <;> simp only [State.heard, State.hears, State.renew] <;> (try split) <;> simp
@[simp] theorem heard_queues : (s.heard t a).queues = s.queues := by
  cases a <;> simp only [State.heard, State.hears, State.renew] <;> (try split) <;> simp
@[simp] theorem heard_pantry : (s.heard t a).pantry = s.pantry := by
  cases a <;> simp only [State.heard, State.hears, State.renew] <;> (try split) <;> simp
@[simp] theorem heard_streams : (s.heard t a).streams = s.streams := by
  cases a <;> simp only [State.heard, State.hears, State.renew] <;> (try split) <;> simp
@[simp] theorem heard_zones : (s.heard t a).zones = s.zones := by
  cases a <;> simp only [State.heard, State.hears, State.renew] <;> (try split) <;> simp
@[simp] theorem heard_loader : (s.heard t a).loader = s.loader := by
  cases a <;> simp only [State.heard, State.hears, State.renew] <;> (try split) <;> simp
@[simp] theorem heard_frames : (s.heard t a).frames = s.frames := by
  cases a <;> simp only [State.heard, State.hears, State.renew] <;> (try split) <;> simp
@[simp] theorem heard_loft : (s.heard t a).loft = s.loft := by
  cases a <;> simp only [State.heard, State.hears, State.renew] <;> (try split) <;> simp
@[simp] theorem heard_keys : (s.heard t a).keys = s.keys := by
  cases a <;> simp only [State.heard, State.hears, State.renew] <;> (try split) <;> simp
@[simp] theorem heard_scrub : (s.heard t a).scrub = s.scrub := by
  cases a <;> simp only [State.heard, State.hears, State.renew] <;> (try split) <;> simp
@[simp] theorem heard_links : (s.heard t a).links = s.links := by
  cases a <;> simp only [State.heard, State.hears, State.renew] <;> (try split) <;> simp
@[simp] theorem heard_claims : (s.heard t a).claims = s.claims := by
  cases a <;> simp only [State.heard, State.hears, State.renew] <;> (try split) <;> simp
@[simp] theorem heard_cycle : (s.heard t a).cycle = s.cycle := by
  cases a <;> simp only [State.heard, State.hears, State.renew] <;> (try split) <;> simp
@[simp] theorem heard_keyFailures : (s.heard t a).keyFailures = s.keyFailures := by
  cases a <;> simp only [State.heard, State.hears, State.renew] <;> (try split) <;> simp
@[simp] theorem heard_keyLockouts : (s.heard t a).keyLockouts = s.keyLockouts := by
  cases a <;> simp only [State.heard, State.hears, State.renew] <;> (try split) <;> simp
@[simp] theorem heard_cellar : (s.heard t a).cellar = s.cellar := by
  cases a <;> simp only [State.heard, State.hears, State.renew] <;> (try split) <;> simp
@[simp] theorem heard_cal : (s.heard t a).cal = s.cal := by
  cases a <;> simp only [State.heard, State.hears, State.renew] <;> (try split) <;> simp
@[simp] theorem heard_power : (s.heard t a).power = s.power := by
  cases a <;> simp only [State.heard, State.hears, State.renew] <;> (try split) <;> simp
@[simp] theorem heard_log : (s.heard t a).log = s.log := by
  cases a <;> simp only [State.heard, State.hears, State.renew] <;> (try split) <;> simp
@[simp] theorem heard_outbox : (s.heard t a).outbox = s.outbox := by
  cases a <;> simp only [State.heard, State.hears, State.renew] <;> (try split) <;> simp
@[simp] theorem heard_fresh : (s.heard t a).fresh = s.fresh := by
  cases a <;> simp only [State.heard, State.hears, State.renew] <;> (try split) <;> simp
@[simp] theorem objAt_heard (k : Nat) : (s.heard t a).objAt k = s.objAt k := objAt_congr (heard_objs s t a) _
@[simp] theorem obj_heard (k l : Nat) : (s.heard t a).obj k l = s.obj k l := obj_congr (heard_objs s t a) _ _
@[simp] theorem objN_heard (k l : Nat) : (s.heard t a).objN k l = s.objN k l := objN_congr (heard_objs s t a) _ _
@[simp] theorem own_heard (k l m : Nat) : (s.heard t a).own k l m = s.own k l m := own_congr (heard_objs s t a) _ _ _
@[simp] theorem ready_heard (k : Nat) : (s.heard t a).ready k = s.ready k := ready_congr (heard_objs s t a) _
@[simp] theorem blob_heard (k l : Nat) : (s.heard t a).blob k l = s.blob k l := blob_congr (heard_blobs s t a) _ _
@[simp] theorem readByte_heard (k : Nat) : (s.heard t a).readByte k = s.readByte k := readByte_congr (heard_mem s t a) _
@[simp] theorem port_heard (k : Nat) : (s.heard t a).port k = s.port k := port_congr (heard_ports s t a) _
@[simp] theorem pin_heard (k : Nat) : (s.heard t a).pin k = s.pin k := pin_congr (heard_pins s t a) _
@[simp] theorem conv_heard (k : Nat) : (s.heard t a).conv k = s.conv k := conv_congr (heard_convs s t a) _
@[simp] theorem chain_heard (k : Nat) : (s.heard t a).chain k = s.chain k := chain_congr (heard_chains s t a) _
@[simp] theorem sweep_heard (k : Nat) : (s.heard t a).sweep k = s.sweep k := sweep_congr (heard_sweeps s t a) _
@[simp] theorem busSource_heard (k : Nat) : (s.heard t a).busSource k = s.busSource k := busSource_congr (heard_busSources s t a) _
@[simp] theorem can_heard (k : Nat) : (s.heard t a).can k = s.can k := can_congr (heard_cans s t a) _
@[simp] theorem lin_heard (k : Nat) : (s.heard t a).lin k = s.lin k := lin_congr (heard_lins s t a) _
@[simp] theorem sent_heard (k : Nat) : (s.heard t a).sent k = s.sent k := sent_congr (heard_sents s t a) _
@[simp] theorem core_heard (k : Nat) : (s.heard t a).core k = s.core k := core_congr (heard_cores s t a) _
@[simp] theorem source_heard (k : Nat) : (s.heard t a).source k = s.source k := source_congr (heard_sources s t a) _
@[simp] theorem trigOut_heard (k : Nat) : (s.heard t a).trigOut k = s.trigOut k := trigOut_congr (heard_trigOuts s t a) _
@[simp] theorem queue_heard (k : Nat) : (s.heard t a).queue k = s.queue k := queue_congr (heard_queues s t a) _
@[simp] theorem stream_heard (k l : Nat) : (s.heard t a).stream k l = s.stream k l := stream_congr (heard_streams s t a) _ _
@[simp] theorem zone_heard (k : Nat) : (s.heard t a).zone k = s.zone k := zone_congr (heard_zones s t a) _
@[simp] theorem step_heard (k : Nat) : (s.heard t a).step k = s.step k := step_congr (heard_disp s t a) _
@[simp] theorem calRun_heard (k : Nat) : (s.heard t a).calRun k = s.calRun k := calRun_congr (heard_cal s t a) _
@[simp] theorem calFigure_heard (k : Nat) : (s.heard t a).calFigure k = s.calFigure k := calFigure_congr (heard_cal s t a) _
@[simp] theorem claimOf_heard (k l : Nat) : (s.heard t a).claimOf k l = s.claimOf k l := claimOf_congr (heard_claims s t a) _ _
end

end Sys2Proof.Machine
end

