-- ==== Sys2Proof/Tests/Slice0.lean ====
section
/-!
SUPPORT. Tests. `witness_<statement>` applies every clause of a statement at a concrete state and concrete operands that
meet all of its hypotheses together, in the order of the clauses: nothing is left to assume but the statement itself. The
rest are tests of values that the spec gives, and of terms that are not well formed.
-/

open Sys2Proof Sys2Proof.Machine

namespace Sys2Proof.Tests

set_option Elab.async false

/-! ## Small states -/

/-- The card of an object that exists. -/
def cardAt (idx sub : Nat) : Card := (cardOf idx sub).getD { lo := 0, hi := 0, ty := .u8, acc := .ro, dflt := 0, min := 0, max := 0, mask := 0 }

/-- A host with session 0. -/
abbrev host : Accessor := .session 0

/-- The instant of the commands of these tests; the states stand earlier. -/
abbrev later : Tk := 2000000

/-- A device in a mode, with every block ready, session 0 open, and session 0 holding resources. -/
def device (m : Mode) (rs : List (Nat × Nat)) : State :=
  rs.foldl (fun s r => s.setHolder r.1 r.2 (some 0))
    ((State.setObj { State.reset with
      mode := m, now := 1000000, cellar := { State.reset.cellar with stage := 2 }
      power := { State.reset.power with vio := some true, vsupMv := 48000, advance := false } }
      0x2001 1 0x1FFFFFFF).setSession 0 { stage := .open_, slot := 0, lease := 60 })

/-! ## From checks to hypotheses -/

/-- The check of `TakesBytes`. -/
def reaches (s : State) (t : Tk) (a : Accessor) (idx sub v : Nat) (bytes : Bytes) : Bool :=
  (s.advance t).serves a && (s.advance t).turnOf a && (cardOf idx sub).isSome && (cardAt idx sub).acc != .ro && (cardAt idx sub).acc != .const &&
  ((s.heard t a).sessionAbort a idx sub true).isNone && ((cardAt idx sub).lengthAbort bytes.length).isNone &&
  (!(cardAt idx sub).ty.isBytes || chapterLength idx bytes.length) && !(s.heard t a).shortStream idx sub bytes.length &&
  ((s.heard t a).readyAbort idx sub true).isNone &&
  (ownOrder idx sub v || (modeAllows (s.heard t a).mode idx sub v && !(s.heard t a).loadRefuses a idx sub)) &&
  (ownOrder idx sub v || ((s.heard t a).writeClaimAbort a (cardAt idx sub) idx sub v).isNone)

theorem takesBytes {s : State} {t : Tk} {a : Accessor} {idx sub : Nat} {bytes : Bytes}
    (h : reaches s t a idx sub 0 bytes = true) : TakesBytes s t a idx sub bytes (cardAt idx sub) := by
  simp only [reaches, Bool.and_eq_true, Bool.or_eq_true, Option.isNone_iff_eq_none, bne_iff_ne, Bool.not_eq_true'] at h
  obtain ⟨⟨⟨⟨⟨⟨⟨⟨⟨⟨⟨h1, ht⟩, h2⟩, h3⟩, h4⟩, h5⟩, h6⟩, hb⟩, hw⟩, h7⟩, h8⟩, h9⟩ := h
  refine ⟨h1, ht, ?_, ⟨h3, h4⟩, h5, ⟨h6, fun h => ?_⟩, hw, h7, fun h => ?_, fun h => ?_⟩
  · obtain ⟨c, hc⟩ := Option.isSome_iff_exists.mp h2
    simp [cardAt, hc]
  · simpa [h] using hb
  · simpa [h] using h8
  · simpa [h] using h9

theorem reachesRange {s : State} {t : Tk} {a : Accessor} {idx sub : Nat} {bytes : Bytes}
    (h : reaches s t a idx sub (leNat bytes) bytes = true) : ReachesRange s t a idx sub bytes (cardAt idx sub) := by
  simp only [reaches, Bool.and_eq_true, Bool.or_eq_true, Option.isNone_iff_eq_none, bne_iff_ne, Bool.not_eq_true'] at h
  obtain ⟨⟨⟨⟨⟨⟨⟨⟨⟨⟨⟨h1, ht⟩, h2⟩, h3⟩, h4⟩, h5⟩, h6⟩, hb⟩, hw⟩, h7⟩, h8⟩, h9⟩ := h
  refine ⟨h1, ht, ?_, ⟨h3, h4⟩, h5, ⟨h6, fun h => ?_⟩, hw, h7, fun h => ?_, fun h => ?_⟩
  · obtain ⟨c, hc⟩ := Option.isSome_iff_exists.mp h2
    simp [cardAt, hc]
  · simpa [h] using hb
  · simpa [h] using h8
  · simpa [h] using h9

theorem takes {s : State} {t : Tk} {a : Accessor} {idx sub : Nat} {bytes : Bytes}
    (h : (reaches s t a idx sub (leNat bytes) bytes &&
      ((cardAt idx sub).rangeAbort ((cardAt idx sub).ty.value bytes)).isNone) = true) :
    TakesWrite s t a idx sub bytes (cardAt idx sub) := by
  rw [Bool.and_eq_true] at h
  obtain ⟨h1, ht, h2, h3, h4, h5, hw, h6, h7, h8⟩ := reachesRange h.1
  exact ⟨h1, ht, h2, h3, h4, h5, hw, h6, h7, h8, Option.isNone_iff_eq_none.mp h.2⟩

/-- The check of `noWaiting`. -/
def quiet (s : State) : Bool := s.cycle.unbindAt.isNone && s.sessions.all fun x => x.2.waiting.isEmpty && !x.2.ending

theorem noWaiting_of {s : State} (h : quiet s = true) : s.noWaiting := by
  rw [quiet, Bool.and_eq_true, Option.isNone_iff_eq_none] at h
  obtain ⟨h1, h⟩ := h
  refine ⟨h1, fun n => ?_⟩
  clear h1
  simp only [State.session]
  induction hs : s.sessions generalizing s with
  | nil => exact ⟨rfl, rfl⟩
  | cons x r ih =>
    simp only [hs, List.all_cons, Bool.and_eq_true] at h
    obtain ⟨k, v⟩ := x
    simp only [Table.get]
    split
    · exact ⟨List.isEmpty_iff.mp h.1.1, Bool.not_eq_true' _ ▸ h.1.2⟩
    · exact ih (s := { s with sessions := r }) h.2 rfl

theorem onlyDueAt {s : State} {n : Nat} (h : s.sources.all (fun x => x.1 == n || x.2.stage != .due) = true) :
    ∀ m, (s.source m).stage = .due → m = n := by
  intro m
  simp only [State.source]
  induction hs : s.sources generalizing s with
  | nil => exact fun e => nomatch e
  | cons x r ih =>
    simp only [hs, List.all_cons, Bool.and_eq_true, Bool.or_eq_true, beq_iff_eq, bne_iff_ne] at h
    obtain ⟨k, v⟩ := x
    simp only [Table.get]
    split
    · next e => exact fun d => by rcases h.1 with a | b; exact e.symm.trans a; exact absurd d b
    · exact ih (s := { s with sources := r }) h.2 rfl

theorem onlyDue {s : State} {n : SourceNo}
    (h : s.sources.all (fun x => x.1 == n.val || x.2.stage != .due) = true) (m : SourceNo)
    (d : (s.source m).stage = .due) : m = n := Fin.ext (onlyDueAt h m d)

theorem unselected_of {s : State} {idx sel bit : Nat}
    (h : ((blockSubs idx).any (fun x => x.1 == sel) && !bitOf (s.objN idx sel) bit) = true) : s.unselected idx sel bit := by
  simp only [Bool.and_eq_true, Bool.not_eq_true', Option.any_eq_true, beq_iff_eq] at h
  obtain ⟨⟨x, hx, rfl⟩, h2⟩ := h
  exact ⟨⟨x.2, hx⟩, h2⟩

theorem goes {c : Instr} {s : State} {P : State → Prop} (h : ∃ u, exec c s = .next u ∧ P u) : goesOn (exec c s) :=
  ⟨h.choose, h.choose_spec.1⟩

theorem goesA {c : Instr} {s b : State} {P : State → Prop} (h : ∃ u, exec c s = .next (b.answered u) ∧ P u) :
    goesOn (exec c s) :=
  ⟨_, h.choose_spec.1⟩

theorem goes₂ {α : Type} {c : Instr} {s : State} {P : State → α → Prop} (h : ∃ u x, exec c s = .next u ∧ P u x) :
    goesOn (exec c s) := by
  obtain ⟨u, x, w, _⟩ := h
  exact ⟨u, w⟩

/-! ## Datagrams -/

/-- A datagram of session 1 on NET0. -/
def netDatagram (opcode flags : Nat) (payload : Bytes) : Datagram :=
  { link := .net0, addr := [], version := 1, opcode := opcode, session := 1, flags := flags, seq := 1, reqId := 7
    payload := payload, tag := [] }

/-- A datagram with the tag that its session gives it. -/
def tagged (s : State) (t : Tk) (d : Datagram) : Datagram := { d with tag := (s.advance t).tagFor d }

theorem authentic_tagged {s : State} {t : Tk} {d : Datagram}
    (h : ((s.advance t).datagramOpen d && ((s.advance t).session d.session).matches_ d && d.version == 1 &&
      decide (d.payload.length ≤ 1408) && ((s.advance t).session d.session).freshSeq d.seq) = true) :
    (s.advance t).authentic (tagged s t d) = true := by
  simp only [Bool.and_eq_true] at h
  obtain ⟨⟨⟨⟨h1, h2⟩, h3⟩, h4⟩, h5⟩ := h
  simp only [State.authentic, Bool.and_eq_true]
  exact ⟨⟨⟨⟨⟨h1, h2⟩, h3⟩, h4⟩, beq_self_eq_true _⟩, h5⟩

/-- The check of `ActsAtOnce`, the tag apart. -/
def actsNow (s : State) (t : Tk) (d : Datagram) (op : Nat) : Bool :=
  d.link != .can0 && s.mode.serves && s.linkAnswers d.link && d.opcode == op &&
  ((s.advance t).datagramOpen d && ((s.advance t).session d.session).matches_ d && d.version == 1 &&
    decide (d.payload.length ≤ 1408) && ((s.advance t).session d.session).freshSeq d.seq) &&
  !s.executing d.session && (s.session d.session).kept.all fun k => k.reqId != d.reqId

theorem acts {s : State} {t : Tk} {d : Datagram} {op : Nat} (h : actsNow s t d op = true) :
    ActsAtOnce s t (tagged s t d) op := by
  simp only [actsNow, Bool.and_eq_true, bne_iff_ne, beq_iff_eq, Bool.not_eq_true'] at h
  obtain ⟨⟨⟨⟨⟨⟨h1, h2⟩, h3⟩, h4⟩, h5⟩, h6⟩, h7⟩ := h
  refine ⟨h1, h2, h3, h4, authentic_tagged ?_, h6, fun k hk => ?_⟩
  · simpa only [Bool.and_eq_true, beq_iff_eq] using h5
  · exact bne_iff_ne.mp (List.all_eq_true.mp h7 k hk)

/-- The check of a mode request. -/
theorem takesRequest {s : State} {t : Tk} {a : Accessor} {v : Nat}
    (h : (reaches s t a 0x2000 2 (leNat (natLe 1 v)) (natLe 1 v) &&
      ((cardAt 0x2000 2).rangeAbort ((cardAt 0x2000 2).ty.value (natLe 1 v))).isNone) = true)
    (h2 : (decide ((cardAt 0x2000 2).written (natLe 1 v) = v) && s.mode.takes v && !s.cycle.toSafe &&
      (s.deviceAuthority (s.sessionOf a)).isNone && quiet s) = true) :
    TakesRequest s t a v (cardAt 0x2000 2) := by
  simp only [Bool.and_eq_true, decide_eq_true_eq, Bool.not_eq_true', Option.isNone_iff_eq_none] at h2
  obtain ⟨⟨⟨⟨h3, h4⟩, h5⟩, h6⟩, h7⟩ := h2
  exact ⟨takes h, h3, h4, h5, h6, noWaiting_of h7⟩

/-- The check of `Loader.front`. -/
theorem front_of {l : Loader} {r : CfgRecord}
    (h : (l.busy && decide (l.bytes.length ≤ streamLen l.header) && l.waitDrain.isNone && decide (l.next = .record r) && !l.dropped.contains r.zone &&
      match ({ l with parse := l.parse.take r } : Loader).next with
      | .bad _ _ => false
      | _ => true) = true) : l.front r := by
  simp only [Bool.and_eq_true, decide_eq_true_eq, Bool.not_eq_true', Option.isNone_iff_eq_none] at h
  obtain ⟨⟨⟨⟨⟨h1, h0⟩, h2⟩, h3⟩, h4⟩, h5⟩ := h
  refine ⟨h1, h0, h2, h3, h4, fun c d e => ?_⟩
  rw [e] at h5
  cases h5

theorem endRecord_of {l : Loader} (h : (match l.next with
    | .record r => r.type == 0x0F
    | _ => true) = true) : ∀ r, l.next = .record r → r.type = 0x0F := by
  intro r e
  rw [e] at h
  exact beq_iff_eq.mp h

/-! ## Values -/

/-- R36, the worked example of Port Cells: 5,000,000 microvolt rounds to code 84,562 and reads back as 4,999,969. -/
theorem test_force_code : roundSetting 0x02 5000000 = 4999969 := by decide +kernel
/-- R65, the same example: sourcing 150 mA at +5 V dissipates 3.45 W. -/
theorem test_dissipation : dissipation 5000000 150000000 = 3450000000000000 := by decide +kernel
/-- R112, the worked example of Converters and Sequences: the fields of entry 1. -/
theorem test_entry_word : (entryLane 0x00000900_1F40034A, entryGain 0x00000900_1F40034A, entrySummary 0x00000900_1F40034A,
    entrySplit 0x00000900_1F40034A, entryRaw 0x00000900_1F40034A, entryCount 0x00000900_1F40034A,
    entryQueue 0x00000900_1F40034A) = (2, 2, true, true, false, 2000, 0x240) := by decide +kernel
/-- R109, the same example: at 400 tk a changed lane takes one settle sample. -/
theorem test_settle_floor : ({ period := 400, fresh := false, lastLane := 1 } : Converter).settlesFor 0x00000900_1F40034A = 1 := by
  decide +kernel
/-- R112, the worked example of Queues: raw output, 60,000 samples, queue 0x2400. -/
theorem test_raw_entry_word : (entryRaw 0x00009003_A980008A, entryCount 0x00009003_A980008A, entryQueue 0x00009003_A980008A) =
    (true, 60000, 0x2400) := by decide +kernel
/-- R345 and R374, the same example: capacity 16,384, share 16, refuse new, eight segments. -/
theorem test_create_word : (createCapacity 0x00000010_00004000, createShare 0x00000010_00004000, createPolicy 0x00000010_00004000,
    segmentsFor 16384) = (16384, 16, 0, 8) := by decide +kernel
/-- R266, the worked example of Step Cores: LUI G4, ODR G5, B VS, SHRI G2, ANDI G2, ORI G1, JR LR and MFS G0. -/
theorem test_core_words : (wordI 0x20 4 0 0x0032, wordI 0x50 5 4 0x0921, wordB 9 7, wordI 0x17 2 6 16, wordI 0x13 2 2 0x00FF,
    wordI 0x14 1 5 0, wordI 0x40 0 0 0x0009) =
    (0x00320420#32, 0x09214550#32, 0x00007930#32, 0x00106217#32, 0x00FF2213#32, 0x00005114#32, 0x00090040#32) := by decide +kernel
/-- R274, the same example: the operand word 0x0132_0921 names subindex 0x21 of 0x3209, part 1. -/
theorem test_operand_word : (operandIndex 0x01320921#32, operandSub 0x01320921#32, operandPart 0x01320921#32) = (0x3209, 0x21, 1) := by
  decide +kernel
/-- R323, the worked example of Event Controller: source 61 in service at SC1, its level vanished. -/
theorem test_source_status : ((device .run []).setSource 61 { stage := .service, vanished := true, holder := some 1
                                                              deliveredCount := 1 }).sourceStatus 61 = 0x000101E0 := by
  decide +kernel
/-- R237, the worked example of Energy and Heat Budget: 24 W falls to 18.6 W at 108.0 degrees. -/
theorem test_allowed_power : allowedPower 24000 1150 1080 = 18600 := by decide
/-- R220, the worked example of Test Plans: the middle level of S4 rounds away from zero. -/
theorem test_sweep_levels : (List.range 3).map (sweepLevel (zeroBytes 4 ++ natLe 4 (2 ^ 32 - 333333) ++ natLe 4 (2 ^ 32 - 1000000) ++
    natLe 2 3)) = [-333333, -666667, -1000000] := by decide +kernel
/-- R171, the worked example of Coded-Excitation Net Mapping: 212 points make 106 pairs, the bound of pass 1. -/
theorem test_group_bound : (groupPlan 1 (List.range 212) []).bound 1 0 (fun _ => true) = 106 := by decide +kernel
/-- R465, the worked example of Object Dictionary: the entries of ports 0 to 211 and of queue 0x0_0200. -/
theorem test_claim_entries : [claimEntry 0x000000D3_00000001, claimEntry 0x00000200_00020003].map (fun e => (e.cls, e.first, e.last)) =
    [(1, 0, 211), (3, 0x200, 0x200)] := by decide +kernel
/-- R475, the same example: eight ports held by session 1. -/
theorem test_port_holders : holderNibbles (List.replicate 8 (some 1)) = 0x11111111 := by decide +kernel
/-- R538: the code of the module. -/
theorem test_idcode : idcodeValue = 0x27256A7F := rfl
/-- R411: the check value of CRC-32C, of the text "123456789". -/
theorem test_crc : crc32c (strBytes "123456789") = 0xE3069283#32 := by decide +kernel
/-- R459 rests on SHA-256: the digest of "abc" begins with BA7816BF. -/
theorem test_sha : (sha256 (strBytes "abc")).take 4 = [0xBA#8, 0x78#8, 0x16#8, 0xBF#8] := by decide +kernel
/-- R421 rests on AES-256: the block of FIPS 197, C.3. -/
theorem test_aes : (aesEncrypt (natBe 32 0x000102030405060708090a0b0c0d0e0f101112131415161718191a1b1c1d1e1f)
    (natBe 16 0x00112233445566778899aabbccddeeff)) = natBe 16 0x8ea2b7ca516745bfeafc49904b496089 := by decide +kernel
/-- R4: the least significant byte comes first. -/
theorem test_byte_order : natLe 4 0x12345678 = [0x78#8, 0x56#8, 0x34#8, 0x12#8] := by decide +kernel
/-- R268: the sum of 0xFFFF_FFFF and 1 is 0 with carry. -/
theorem test_add_wraps : (aluAdd 0xFFFFFFFF#32 1#32).1 = 0#32 := by decide +kernel

/-! ## Terms that are not well formed -/

theorem illformed_index : (Instr.objectWrite 0 host 0x10000 1 [0]).wf = false := by decide
theorem illformed_subindex : (Instr.objectWrite 0 host 0x2000 0x100 [0]).wf = false := by decide
theorem illformed_byte : (Instr.rangeChange 0 host 0 256).wf = false := by decide
theorem illformed_boolean : (Instr.faultClear 0 host 0 2 true).wf = false := by decide
theorem illformed_signed : (Instr.forceLevelWrite 0 host 0 false (2 ^ 31)).wf = false := by decide
theorem illformed_code : (Instr.entryEnd 0 0 [32768]).wf = false := by decide
theorem illformed_can_frame : (Instr.canFrameReceived 0 0 { start := 0, ident := 1, data := zeroBytes 65 }).wf = false := by decide
theorem illformed_header : (Instr.linHeaderReceived 0 0 0 64).wf = false := by decide
theorem illformed_entry : (Instr.entryWrite 0 5 { stamp := 0, tag := 0, kind := 0, flags := 0, payload := [] }).wf = false := by decide
theorem illformed_port_write :
    (Instr.queuePortWrite 0 0 0 { queue := 2 ^ 20, kind := 0, flags := 0, payload := zeroBytes 16, stamp := none }).wf = false := by
  decide
theorem illformed_datagram : (Instr.read 0 { netDatagram 0x10 0 [] with tag := [0] }).wf = false := by decide
theorem illformed_usdo : (Instr.usdoRequest 0 ⟨0x600 + 5, .upload 0x10000 0⟩).wf = false := by decide
theorem illformed_identifier : (Instr.usdoRequest 0 ⟨0x800, .upload 0x2000 0⟩).wf = false := by decide
theorem illformed_temperatures : (Instr.portFiguresSampled 0 [] []).wf = false := by decide
theorem illformed_sample : (Instr.coarseOutput 0 0 0 [32768]).wf = false := by decide
theorem illformed_point_samples : (Instr.mapGroupEnd 0 [] [⟨0, [[32768]]⟩]).wf = false := by decide
theorem illformed_round_result : (Instr.mapRoundEnd 0 [⟨0, 1, [[32768]], []⟩]).wf = false := by decide
theorem illformed_sweep_reading : (Instr.sweepLevelMeasured 0 0 ⟨[], false, 4⟩).wf = false := by decide
theorem illformed_lin_frame : (Instr.linFrameReceived 0 0 ⟨0, 0, 0, zeroBytes 9, 0⟩).wf = false := by decide
theorem illformed_sent_frame : (Instr.sentFrameReceived 0 0 ⟨0, 0, 0, [], 0, false, none⟩).wf = false := by decide
theorem wellformed_write : (Instr.objectWrite 0 host 0x2000 2 [5]).wf = true := by decide

/-! ## States of the witnesses -/

/-- A working device with port 0 static, enabled and forcing a voltage. -/
def portState (f : Nat) (c : PortCell) : State :=
  (State.setObj { device .run [(clsPort, 0)] with cycle := { boundBy := some 0 } } 0x3000 1 f).setPort 0 { c with owner := { kind := .static, unit := 0 } }

/-- A device in IDLE with port 0 held by session 0 and without an owner. -/
def restPort : State := (device .idle [(clsPort, 0)]).setPort 0 { owner := { kind := .unheld, unit := 0 } }

/-- A park that has begun and goes on. -/
def parkNow : Park :=
  { entry := 900000, exit := 9000000, oldOwner := { kind := .static, unit := 0 }, target := { kind := .unheld, unit := 0 }
    cause := .disable, retargeted := false, hold := 0 }

/-- A port in a range change. -/
def ranging (f : Nat) (e : Tk) (held : List HeldWrite) : State := portState f { rangeEnd := some e, held := held }

/-- A device in RUN that holds the ports of quad 0, with converter 0 given. -/
def convState (k : Converter) : State := (device .run [(clsPort, 0), (clsPort, 1), (clsPort, 2), (clsPort, 3)]).setConv 0 k

/-- The same with a chain. -/
def chainState (k : Chain) : State := (convState {}).setChain 0 k

/-- A conversion of one sample of lane 0, for the coarse path. -/
def conversion1 : Conversion :=
  { word := 0x40020, started := 1000, settles := 0, period := 40, regrids := [], taken := 1, urgent := false, repeated := false
    reference := 0 }

/-- A fade of chain 0 to bank B. -/
def fade1 : Fade := { start := 0, finish := 1000000, source := .a, target := .b, k := 0, counts := [] }

/-- A park of port 0 that is over at 1,000,000 tk. -/
def parkOver : Park :=
  { entry := 0, exit := 1000000, oldOwner := { kind := .clamp, unit := 0 }, target := { kind := .static, unit := 0 }
    cause := .enable, retargeted := false, hold := 0 }

/-- A raw entry of two samples that waits to be written. -/
def raw1 : RawLeft :=
  { conv := { word := 0x40000, started := 5, settles := 0, period := 40, regrids := [], taken := 2, urgent := false, repeated := false
              reference := 0 }
    next := 0, cut := false }

/-- A plan image of one step (R193, R194). -/
def onePlan (kind timeout : Nat) (action : Bytes) : Bytes :=
  let body := natLe 1 kind ++ zeroBytes 3 ++ natLe 2 0xFFFF ++ zeroBytes 30 ++ natLe 4 action.length ++
    natLe 4 timeout ++ natLe 4 0xFFFFFFFF ++ zeroBytes 16 ++ action
  natLe 2 1 ++ zeroBytes 6 ++ natLe 4 (64 + body.length) ++ natLe 4 (crc32c body).toNat ++ natLe 4 1 ++ natLe 4 64 ++
    zeroBytes 24 ++ natLe 4 128 ++ natLe 4 action.length ++ zeroBytes 8 ++ body

/-- A wait of 100 microseconds, an exchange without answer on LIN engine 0, and a sweep of one level of one port. -/
def waitPlan : Bytes := onePlan 7 50 (natLe 4 100 ++ natLe 2 0xFFFF ++ zeroBytes 2)
/-- An exchange that collects from PWM unit 0. -/
def pwmPlan : Bytes := onePlan 5 0 (natLe 1 3 ++ zeroBytes 1 ++ natLe 1 1 ++ zeroBytes 1 ++ natLe 4 100 ++ zeroBytes 88)
/-- A sweep of one level of port 0. -/
def sweepPlan : Bytes := onePlan 3 0 (natLe 1 1 ++ zeroBytes 11 ++ natLe 2 1 ++ natLe 2 1 ++ zeroBytes 12 ++ natLe 2 256 ++ zeroBytes 18)

/-- A device that runs a plan of one step, which stands as given. -/
def planState (image : Bytes) (x : StepRec) : State :=
  { device .run [(clsCycle, 0), (clsPort, 0)] with
    cycle := { boundBy := some 0 }
    cellar := { State.reset.cellar with items := [(4 * 2 ^ 32, some image)], stage := 2 }
    disp := { slot := some 0, session := 0, steps := [(0, x)] } }

/-- A device with an idle or a running mapper, port 0 in its mask. -/
def mapState (m : Map) : State :=
  ((State.setObj { device .run [(clsMapper, 0), (clsPort, 0), (clsCycle, 0)] with cycle := { boundBy := some 0 }, map := m }
    0x3400 1 1).setObj 0x3400 2 1).setPort 0 { owner := { kind := .mapper, unit := 0 } }

/-- Samples of port 0 in one group of one period, and over-ranging ones in one of two periods. -/
def onePoint : MapSamples := [{ point := 0, chips := List.replicate 256 (List.replicate (chipKept 1 0) 5) }]
def overPoint : MapSamples := [{ point := 0, chips := List.replicate 512 (List.replicate (chipKept 1 0) 32767) }]

/-- A Cellar that is busy with a transaction, with room for another. -/
def busyCellar : Cellar := { State.reset.cellar with open_ := some { why := .counter, changes := [] }, stage := 2 }

/-- A device with CAN FD engine 0 on, its pins assigned. -/
def canState (e : CanEngine) : State :=
  (((device .run [(clsCan, 0)]).setObj 0x3700 1 0x10).setObj 0x3701 1 0x11).setObj 0x3600 1 1 |>.setCan 0 e

/-- A device with an engine block at an index, on or off, on port 0. -/
def engineState (idx on : Nat) : State :=
  ((State.setObj { device .run [(clsPort, 0), (clsLin, 0), (clsSent, 0), (clsPwm, 0)] with cycle := { boundBy := some 0 } }
    idx 1 on).setObj idx 2 0)

/-- A device whose core 1 runs a program of session 0 with an instruction word at its PC, 0. -/
def coreState (k : Core) (w : Word) : State :=
  ((device .run [(clsPort, 0), (clsCycle, 0)]).setCore 1 { k with stage := .program, sess := 0 }).writeBytes
    (localBase 1) (natLe 4 w.toNat)

/-- Two bits of a word of the local memory of core 1 flipped. -/
def flipped (a : Nat) (s : State) : State := { s with flips := [(localBase 1 + a, 3#32)] }

/-- A core with G1 = a, G2 = b. -/
def regs (a b : Word) : Core := { g := ((Vector.replicate 16 0#32).set 1 a).set 2 b }

/-- A device with event source 0 as given; SC1 and SC2 are its targets. -/
def sourceState (x : Source) : State :=
  (((device .run [(clsPort, 0), (clsCycle, 0)]).setObj 0x2410 1 0x610).setCore 1 { stage := .waiting, wait := some (.program, 0, none) }).setSource 0 x

/-- A device whose timebase is locked and stands as given, SYNC an output on its pin. -/
def syncState (b : Timebase) : State :=
  (State.setObj { device .run [(clsCycle, 0)] with timebase := { b with locked := true, everLocked := true } } 0x370C 1 0x21)

/-- A device with trigger output 0 as given on its pin. -/
def trigState (o : TrigOut) : State :=
  ((syncState {}).setObj 0x370D 1 0x23).setTrigOut 0 o

/-- An entry of a queue. -/
def entryOf (seq : Nat) : Entry :=
  { stamp := 1, tag := 2, kind := 0x80, flags := 0, seq := seq, payload := zeroBytes 16, writtenAt := 0 }

/-- A device with queue 5 as given; session 0 holds it, and session 1, on NET0, is open and holds queue 6. -/
def queueState (q : Option Queue) : State :=
  (((device .run [(clsQueue, 5)]).setQueue 5 q).setSession 1 { stage := .open_, link := .net0, lease := 60 }).setHolder
    clsQueue 6 (some 1)

/-- A session on NET0, and a stream of it. -/
abbrev netHost : Accessor := .session 1
/-- A device with slot 0 of session 1 on queue 6. -/
def streamState (st : Option Stream) (q : Queue) : State := ((queueState none).setQueue 6 (some q)).setStream 1 0 st

/-- The same slot of session 2, on NET1, whose link does not answer; core 1 works for it. -/
def darkStream (st : Option Stream) : State :=
  (State.setObj ((((queueState (some { capacity := 128 })).setCore 1 { stage := .program, sess := 2 }).setSession 2 { stage := .open_, link := .net1, lease := 60 }).setHolder
    clsQueue 6 (some 2)) 0x2001 1 0x1FFFFFBF).setStream 2 0 st

/-- A zone declaration with nothing. -/
def emptyDecl : ZoneDecl :=
  { ports := [], sioPins := [], taps := [], queuePorts := 0, userLines := 0, channels := [], clampDefaults := [] }

/-- A channel to the east, out of the zone or into it: the request on lane 0, the acknowledge on 1, one bit of data on 2. -/
def channelOf (receives : Bool) : ChannelDecl :=
  { side := 1, receives := receives, request := 0, acknowledge := 1, data := [2], broken := receives }

/-- A device with zone 0 as given, held by session 0. -/
def zoneState (z : Zone) : State :=
  ({ device .run [(clsZone, 0), (clsPort, 0), (clsQueue, 5)] with cycle := { boundBy := some 0 } } : State).setZone 0 z

/-- The header of an unencrypted stream (R410), by its length and its zone mask. -/
def plainHeader (len zones : Nat) : Bytes := natLe 2 1 ++ zeroBytes 2 ++ natLe 4 len ++ zeroBytes 2 ++ natLe 2 zones ++ zeroBytes 52
/-- A whole unencrypted stream. -/
def plainStream (zones : Nat) (payload : Bytes) : Bytes :=
  let b := plainHeader (68 + payload.length) zones ++ payload
  b ++ natLe 4 (crc32c b).toNat
/-- The records (R414). -/
def zoneBegin : Bytes := [1, 0, 0, 0] ++ natLe 4 12 ++ natLe 4 7 ++ natLe 2 1200 ++ zeroBytes 6
/-- One frame of zone 0, of zeros. -/
def oneFrame : Bytes := [2, 0, 0, 0] ++ natLe 4 1028 ++ natLe 2 0 ++ natLe 2 1 ++ zeroBytes 1024
/-- Four bytes of block memory. -/
def blockData : Bytes := [3, 0, 0, 0] ++ natLe 4 8 ++ natLe 4 16 ++ [1, 2, 3, 4]
/-- The last record. -/
def endOf (n : Nat) : Bytes := [0x0F, 0xFF, 0, 0] ++ natLe 4 4 ++ natLe 4 n
/-- A stream without zones. -/
def noZones : Bytes := plainStream 0 (endOf 0)

/-- A device with a loader and zone 0 as given. -/
def loadState (l : Loader) (z : Zone) : State :=
  { device .idle [(clsZone, 0), (clsCycle, 0)] with loader := l }.setZone 0 z

/-- A device in a mode with a key store. -/
def keyState (m : Mode) (k : KeyStore) : State := { device m [(clsCycle, 0)] with keys := k }

/-- A frame of a Ready zone whose repair waits, with a repair copy of no bytes. -/
def repairState : State :=
  { loadState {} { stage := .ready } with
    keys := { kek := some exampleKek }
    cellar := { State.reset.cellar with items := [(7 * 2 ^ 32, some (zeroBytes 28))], stage := 2 }
    loft := [(0, List.replicate 3 (some (frameSignature 0 [])))]
    scrub := { active := [1, 0x9FFF0000, 0, 0, 0], repair := some (0, 5, 1000000) } }

/-- The same with a busy Cellar. -/
def busyWith (s : State) : State := { s with cellar := busyCellar }

/-- The state of an accepted request. -/
def okState (x : Res) : State :=
  match x with
  | .ok u => u
  | .error _ => State.reset
theorem ok_of {x : Res} (h : (match x with
    | .ok _ => true
    | .error _ => false) = true) : x = .ok (okState x) := by
  cases x with
  | ok u => rfl
  | error e => simp at h
/-- The host key of slot 0: 32 bytes of 1, for every link. -/
def slotKey : Bytes := List.replicate 32 1#8
/-- A device with that key, and session 1 as given. -/
def keyed (m : Mode) (x : Session) : State :=
  ({ device m [(clsCycle, 0)] with
    cellar := { State.reset.cellar with items := [(9 * 2 ^ 32, some (7#8 :: slotKey))], stage := 2 } } : State).setSession 1 x
/-- A waiting opening on a link. -/
def waitingOn (l : Link) : Session := { stage := .reserved, link := l, slot := 0, challengedAt := 1000000, lease := 60 }
/-- The same device with session 0 waiting, not open. -/
def provingHost : State := (keyed .safe {}).setSession 0 (waitingOn .can0)
/-- OPEN for slot 0. -/
def openFrame : Datagram := { netDatagram 1 0 (natLe 1 0 ++ zeroBytes 23) with session := 0xFF, seq := 0 }
/-- The right PROOF of session 1. -/
def proofFrame : Datagram := { netDatagram 3 0 (hostProof slotKey 1 1 [] []) with seq := 0 }
/-- Index and subindex of a request. -/
def frameAt (idx sub : Nat) : Bytes := natLe 2 idx ++ natLe 1 sub
/-- A device whose session 1 has a DOMAIN transfer of its claim list. -/
def transferState (x : Transfer) : State :=
  (queueState none).setSession 1 { stage := .open_, link := .net0, lease := 60, transfer := some x }
/-- A transfer of one claim entry, the mapper, of which some bytes have come. -/
def transferOf (bytes : List (Nat × Option Byte)) : Transfer := { id := 7, idx := 0x2102, sub := 1, total := 8, bytes := bytes }
/-- Its bytes. -/
def mapperEntry : Bytes := natLe 8 clsMapper
/-- The whole transfer. -/
def wholeTransfer : Transfer := transferOf ((mapperEntry.zipIdx).map fun x => (x.2, some x.1))
/-- A device that has it, and the datagram that ends it. -/
def wholeState : State := transferState wholeTransfer
def endFrame : Datagram := tagged wholeState later (netDatagram 0x15 0 (natLe 4 7))
/-- What the write of the transfer makes. -/
def writtenState : State :=
  okState ((wholeState.tookAnew later endFrame).writeObject (asSession endFrame.session) wholeTransfer.idx wholeTransfer.sub
    wholeTransfer.content)
/-- A device in IDLE whose session 0 holds the fixture cycle. -/
def fixtureState (m : Mode) (c : Cycle) : State := { device m [(clsCycle, 0)] with cycle := c }

/-- The state in which session 0's request on CAN0 runs. -/
def canHeard (s : State) : State := (s.heard later (.session 0)).usdoSet none
/-- A claim entry of a class and a number. -/
def oneEntry (cls n : Nat) : Bytes := natLe 8 (cls + n * 2 ^ 8 + n * 2 ^ 32)

/-- A device in a mode with session 0 idle and an open transaction of a setting. -/
def openTxn (m : Mode) (r : Option ReplyTo) (units : Nat) : State :=
  { device m [] with cellar := { State.reset.cellar with stage := 2
                                                         open_ := some { why := .setting, changes := [], reply := r, units := units } } }
/-- The transaction. -/
def theTxn (r : Option ReplyTo) (units : Nat) : Txn := { why := .setting, changes := [], reply := r, units := units }
/-- A Cellar in a stage. -/
def cellarState (n : Nat) : State := { device .idle [] with cellar := { State.reset.cellar with stage := n } }
/-- A device with supplies and reset as given. -/
def powerState (m : Mode) (p : Power) : State := { device m [(clsCycle, 0)] with power := p }
/-- A device before WAKE ends, one readiness bit short. -/
def wakeState (bits : Nat) (p : Power) : State := (powerState .wake p).setObj 0x2001 1 bits
/-- A device with SIO17 the interlock, low since an instant. -/
def interlockState (m : Mode) : State :=
  ((device m []).setObj 0x3711 1 0x30).setPin 17 { outside := some false, lowSince := some 1000000 }
/-- A device that may take a mode request. -/
def modeState (m : Mode) : State := { device m [(clsCycle, 0)] with cellar := { State.reset.cellar with stage := 2 } }

/-- A device with calibration run 0 as given, session 0 holding the fixture cycle. -/
def calState (m : Mode) (r : CalRun) : State := (device m [(clsCycle, 0)]).setCalRun 0 r
/-- A run of bus item 16. -/
def busRun : CalRun := { stage := 2, left := [16], whole := [16] }
/-- The same with a unit that runs. -/
def inUnit (r : CalRun) (n : Nat) : State :=
  let s := calState .idle r
  { s with cal := { s.cal with unit := some { die := 0, item := 3, unit := n, startedAt := 1000000, preempted := false } } }

/-- The body of a set of zeros, and its head with the device's own serial number and the CRC of the body (R505). -/
def setBody : Bytes := zeroBytes 34816
/-- The set of a die. -/
def exampleSet (d : Nat) : Bytes :=
  natLe 2 1 ++ natLe 1 d ++ zeroBytes 1 ++ natLe 4 Config.serial.toNat ++ zeroBytes 52 ++ natLe 4 (crc32c setBody).toNat ++ setBody

theorem leNat_natLe (n v : Nat) (h : v < 256 ^ n) : leNat (natLe n v) = v := by
  induction n generalizing v with
  | zero => simp only [pow_zero, Nat.lt_one_iff] at h; simp [natLe, leNat, h]
  | succ n ih =>
    have h2 : v / 256 < 256 ^ n := by
      rw [Nat.div_lt_iff_lt_mul (by decide)]; rw [pow_succ] at h; exact h
    simp only [natLe, leNat, ih _ h2, BitVec.toNat_ofNat]
    omega

theorem exampleSet_length (d : Nat) : (exampleSet d).length = 34880 := by
  simp only [exampleSet, List.length_append, Laws.natLe_length, zeroBytes, setBody, List.length_replicate]

theorem exampleSet_valid (d : Nat) (h : d < 256) : setValid d (exampleSet d) = true := by
  have h1 : fieldLe (exampleSet d) 0 2 = leNat (natLe 2 1) := rfl
  have h2 : fieldLe (exampleSet d) 2 1 = leNat (natLe 1 d) := rfl
  have h3 : fieldLe (exampleSet d) 4 4 = leNat (natLe 4 Config.serial.toNat) := rfl
  have h4 : fieldLe (exampleSet d) 60 4 = leNat (natLe 4 (crc32c setBody).toNat) := rfl
  have h5 : (exampleSet d).drop 64 = setBody := rfl
  simp only [setValid, exampleSet_length, h1, h2, h3, h4, h5, leNat_natLe _ _ (show d < 256 ^ 1 from h),
    leNat_natLe _ _ (show (1 : Nat) < 256 ^ 2 by decide), leNat_natLe _ _ (show Config.serial.toNat < 256 ^ 4 from Config.serial.isLt),
    leNat_natLe _ _ (show (crc32c setBody).toNat < 256 ^ 4 from (crc32c setBody).isLt), beq_self_eq_true, Bool.and_self]

/-- What `TakesBytes` asks of bytes is their length. -/
theorem takesBytes_length {s : State} {t : Tk} {a : Accessor} {idx sub : Nat} {x y : Bytes} {c : Card}
    (h : TakesBytes s t a idx sub x c) (e : y.length = x.length) : TakesBytes s t a idx sub y c := by
  obtain ⟨h1, h2, h3, h4, h5, h6, h7, h8, h9, h10⟩ := h
  exact ⟨h1, h2, h3, h4, h5, by rw [e]; exact h6, by rw [e]; exact h7, h8, h9, h10⟩

/-- A device in IDLE with one waiting command. -/
def oneWaiting : State := { device .idle [] with pending := [.settlingEnd later 0] }

/-! ## Witnesses -/

section

set_option maxRecDepth 100000
set_option maxHeartbeats 4000000

theorem witness_PortSettingsAct (h : Obligations.PortSettingsAct) :
    goesOn (exec (.functionChange later host 0 3) restPort) ∧
    goesOn (exec (.forceLevelWrite later host 0 false 1000000) restPort) ∧
    goesOn (exec (.forceLevelWrite later host 0 true ((-1000))) restPort) ∧
    goesOn (exec (.rangeChange later host 0 2) restPort) ∧
    goesOn (exec (.busConnectionWrite later host 0 5) restPort) ∧
    goesOn (exec (.rangeChange later host 0 2) ((ranging 1 3000000 []))) ∧
    goesOn (exec (.functionChange later host 0 2) ((ranging 1 3000000 []))) ∧
    goesOn (exec (.functionChange later host 0 4) ((portState 1 {}))) ∧
    goesOn (exec (.forceLevelWrite later host 0 false 1000000) ((portState 1 {}))) ∧
    goesOn (exec (.forceLevelWrite later host 0 true 5000) ((portState 2 {}))) ∧
    goesOn (exec (.rangeChange later host 0 2) ((portState 1 {}))) ∧
    goesOn (exec (.busConnectionWrite later host 0 5) ((portState 3 {}))) :=
  ⟨⟨_, h.1.1 restPort later host 0 3 (cardAt 0x3000 1) (takes (by decide +kernel)) (by decide +kernel) (by decide +kernel) (by decide +kernel)⟩,
   ⟨_, h.1.2.1 restPort later host 0 false 1000000 (cardAt 0x3000 2) (takes (by decide +kernel)) (by decide +kernel) (by decide +kernel)⟩,
   ⟨_, h.1.2.1 restPort later host 0 true (-1000) (cardAt 0x3000 3) (takes (by decide +kernel)) (by decide +kernel) (by decide +kernel)⟩,
   ⟨_, h.1.2.2.1 restPort later host 0 2 (cardAt 0x3000 4) (takes (by decide +kernel)) (by decide +kernel) (by decide +kernel)⟩,
   ⟨_, h.1.2.2.2.1 restPort later host 0 5 (cardAt 0x3000 0x10) (takes (by decide +kernel)) (by decide +kernel) (by decide +kernel) (by decide +kernel)⟩,
   ⟨_, h.1.2.2.2.2.1 (ranging 1 3000000 []) later host 0 2 (cardAt 0x3000 4) (takes (by decide +kernel)) (by decide +kernel)⟩,
   ⟨_, h.1.2.2.2.2.2 (ranging 1 3000000 []) later host 0 2 (cardAt 0x3000 1) (takes (by decide +kernel)) (by decide +kernel) (by decide +kernel)⟩,
   ⟨_, (by refine h.2.1 (portState 1 {}) later host 0 4 (cardAt 0x3000 1) 1 4 (takes (by decide +kernel)) ?_ ?_ ?_ ?_ ?_ ?_ <;> decide +kernel)⟩,
   ⟨_, h.2.2.1.1 (portState 1 {}) later host 0 false 1000000 (cardAt 0x3000 2) (takes (by decide +kernel)) (by decide +kernel) (by decide +kernel) (by decide +kernel)⟩,
   ⟨_, h.2.2.1.1 (portState 2 {}) later host 0 true 5000 (cardAt 0x3000 3) (takes (by decide +kernel)) (by decide +kernel) (by decide +kernel) (by decide +kernel)⟩,
   ⟨_, h.2.2.1.2.1 (portState 1 {}) later host 0 2 (cardAt 0x3000 4) (takes (by decide +kernel)) (by decide +kernel) (by decide +kernel) (by decide +kernel) (by decide +kernel)⟩,
   ⟨_, (by refine h.2.2.1.2.2 (portState 3 {}) later host 0 5 (cardAt 0x3000 0x10) 5 (takes (by decide +kernel)) ?_ ?_ ?_ ?_ ?_ ?_ ?_ <;> decide +kernel)⟩⟩

theorem witness_BusConnectionNeedsIdleFunction (h : Obligations.BusConnectionNeedsIdleFunction) :
    goesOn (exec (.busConnectionWrite later host 0 7) restPort) ∧
    goesOn (exec (.busConnectionWrite later host 0 255) restPort) ∧
    goesOn (exec (.busConnectionWrite later host 0 0) ((portState 3 {}))) ∧
    goesOn (exec (.busConnectionWrite later host 0 7) ((portState 1 {}))) ∧
    goesOn (exec (.functionChange later host 0 1) (((portState 3 {}).setObj 0x3000 0x10 0))) :=
  ⟨goesA (h.1 restPort later host 0 7 (cardAt 0x3000 0x10) 7 (takes (by decide +kernel)) (by decide +kernel) (by decide +kernel) (by decide +kernel) (by decide +kernel)),
   goesA (h.1 restPort later host 0 255 (cardAt 0x3000 0x10) 255 (takes (by decide +kernel)) (by decide +kernel) (by decide +kernel) (by decide +kernel) (by decide +kernel)),
   goesA (h.1 (portState 3 {}) later host 0 0 (cardAt 0x3000 0x10) 0 (takes (by decide +kernel)) (by decide +kernel) (by decide +kernel) (by decide +kernel) (by decide +kernel)),
   ⟨_, (by refine h.2.1 (portState 1 {}) later host 0 7 (cardAt 0x3000 0x10) 7 (takes (by decide +kernel)) ?_ ?_ ?_ ?_ ?_ <;> decide +kernel)⟩,
   ⟨_, (by refine h.2.2 ((portState 3 {}).setObj 0x3000 0x10 0) later host 0 1 (cardAt 0x3000 1) 1 (takes (by decide +kernel)) ?_ ?_ ?_ ?_ ?_ <;> decide +kernel)⟩⟩

theorem witness_PortChangesEnd (h : Obligations.PortChangesEnd) :
    goesOn (exec (.rangeChangeComplete later 0) ((ranging 1 3000000 []))) ∧
    goesOn (exec (.rangeChangeComplete later 0) ((ranging 1 2000000 []))) ∧
    goesOn (exec (.settlingEnd later 0) ((portState 1 { settling := true, settlingEnd := 2000000 }))) ∧
    goesOn (exec (.busSwitchClosed later 0) ((portState 3 { busNext := some (3, 1500000) }))) ∧
    goesOn (exec (.rangeChangeComplete later 0) ((ranging 1 2000000 [{ sub := 2, old := 0, new := 5 }]))) :=
  ⟨⟨_, h.1.1 (ranging 1 3000000 []) later 0 3000000 (by decide +kernel) (by decide +kernel)⟩,
   ⟨_, h.1.2.1 (ranging 1 2000000 []) later 0 2000000 (by decide +kernel) (by decide +kernel) (by decide +kernel)⟩,
   ⟨_, h.1.2.2.1 (portState 1 { settling := true, settlingEnd := 2000000 }) later 0⟩,
   ⟨_, h.1.2.2.2 (portState 3 { busNext := some (3, 1500000) }) later 0 3 1500000 (by decide +kernel)⟩,
   ⟨_, (by refine h.2 (ranging 1 2000000 [{ sub := 2, old := 0, new := 5 }]) later 0 2000000 0 5 ?_ ?_ ?_ ?_ ?_ ?_ <;> decide +kernel)⟩⟩

theorem witness_PortFaultsLatch (h : Obligations.PortFaultsLatch) :
    goesOn (exec (.clampStateChange later 0 true false false) ((portState 1 {}))) ∧
    goesOn (exec (.clampStateChange later 0 true false false) restPort) ∧
    goesOn (exec (.senseOpen later 0) (((portState 1 {}).setObj 0x3000 9 0x2))) ∧
    goesOn (exec (.senseCheckPass later 0) (((portState 1 {}).setObj 0x3000 9 0x2))) ∧
    goesOn (exec (.portFault later 0 (.ballOvervoltage)) ((portState 1 {}))) ∧
    goesOn (exec (.clampTimeout 1000000000 0) (((portState 1 { sourceClamp := true, clampSince := some 0 }).setObj 0x3000 8 1))) ∧
    goesOn (exec (.senseOpen later 0) (((portState 1 {}).setObj 0x3000 9 0))) ∧
    goesOn (exec (.dieCurrentLimit later ((some 0))) ((portState 1 {}))) ∧
    goesOn (exec (.dieCurrentLimit later none) ((portState 1 {}))) ∧
    goesOn (exec (.faultClear later host 0 1 true) ((portState 1 { latched := some .senseOpen }))) ∧
    goesOn (exec (.faultClear later host 0 1 false) ((portState 1 { latched := some .clampTimeout }))) ∧
    goesOn (exec (.faultClear later host 0 1 false) ((portState 1 { latched := some .senseOpen }))) ∧
    goesOn (exec (.faultClear later host 0 0 true) ((portState 1 { latched := some .senseOpen }))) :=
  ⟨⟨_, h.1.1 (portState 1 {}) later 0 true false false (by decide +kernel)⟩,
   ⟨_, h.1.2.1 restPort later 0 true false false (by decide +kernel)⟩,
   ⟨_, h.1.2.2.1 ((portState 1 {}).setObj 0x3000 9 0x2) later 0 (by decide +kernel) (by decide +kernel)⟩,
   ⟨_, h.1.2.2.2 ((portState 1 {}).setObj 0x3000 9 0x2) later 0 (by decide +kernel)⟩,
   goes (h.2.1.1 (portState 1 {}) later 0 .ballOvervoltage (by decide +kernel) (by decide +kernel) (by refine ⟨?_, ?_⟩ <;> decide +kernel)),
   goes (h.2.1.2.1 ((portState 1 { sourceClamp := true, clampSince := some 0 }).setObj 0x3000 8 1) 1000000000 0 (by decide +kernel) (by decide +kernel) (by refine ⟨?_, ?_⟩ <;> decide +kernel)),
   goes (h.2.1.2.2 ((portState 1 {}).setObj 0x3000 9 0) later 0 (by decide +kernel) (by decide +kernel) (by decide +kernel) (by refine ⟨?_, ?_⟩ <;> decide +kernel)),
   goes (h.2.2.1 (portState 1 {}) later (some 0) (by decide +kernel) (by decide +kernel) (by decide +kernel)),
   goes (h.2.2.1 (portState 1 {}) later none (by decide +kernel) (by decide +kernel) (by decide +kernel)),
   ⟨_, h.2.2.2.1 (portState 1 { latched := some .senseOpen }) later host 0 .senseOpen true (cardAt 0x3000 0x1A) (takes (by decide +kernel)) (by decide +kernel) (by decide +kernel) (by decide +kernel) (by decide +kernel)⟩,
   ⟨_, h.2.2.2.1 (portState 1 { latched := some .clampTimeout }) later host 0 .clampTimeout false (cardAt 0x3000 0x1A) (takes (by decide +kernel)) (by decide +kernel) (by decide +kernel) (by decide +kernel) (by decide +kernel)⟩,
   ⟨_, (by refine h.2.2.2.2.1 (portState 1 { latched := some .senseOpen }) later host 0 .senseOpen (cardAt 0x3000 0x1A) (takes (by decide +kernel)) ?_ ?_ ?_ ?_ ?_ <;> decide +kernel)⟩,
   ⟨_, h.2.2.2.2.2 (portState 1 { latched := some .senseOpen }) later host 0 true (cardAt 0x3000 0x1A) (takes (by decide +kernel)) (by decide +kernel) (by decide +kernel)⟩⟩

theorem witness_SignalsPassTheFilters (h : Obligations.SignalsPassTheFilters) :
    goesOn (exec (.pinSignalChange later (.ball 0 3000000 0 0)) ((portState 3 {}))) ∧
    goesOn (exec (.pinSignalChange later (.ball 0 0 30000000 0)) (((portState 3 {}).setObj 0x3000 9 0x110))) ∧
    goesOn (exec (.pinSignalChange later (.ball 0 0 ((-30000000)) 0)) (((portState 3 {}).setObj 0x3000 9 0x190))) ∧
    goesOn (exec (.pinSignalChange later (.pad 1 (some true))) (((device .run []).setObj 0x3701 1 1))) ∧
    goesOn (exec (.pinSignalChange later (.ball 0 0 30000000 0)) (((portState 3 { park := some parkNow }).setObj 0x3000 9 0x110))) ∧
    goesOn (exec (.receiverRestartDone later 0 true) ((portState 3 { receiverAt := some 1500000, forceUv := 3000000 }))) ∧
    goesOn (exec (.receiverRestartDone later 0 false) ((portState 3 { receiverAt := some 1500000 }))) ∧
    goesOn (exec (.receiverRestartDone later 0 true) ((portState 3 { receiverAt := some 3000000 }))) ∧
    goesOn (exec (.glitchFilterAccept 100000000 ((.port 0))) ((portState 3 { filter := { raw := true, since := 1000000 } }))) ∧
    goesOn (exec (.glitchFilterAccept 100000000 ((.pin 1))) ((((device .run []).setObj 0x3701 1 1).setPin 1 { filter := { raw := true, since := 1000000 } }))) ∧
    goesOn (exec (.debounceWindowEnd later ((.port 0))) ((portState 3 { filter := { debounce := some 1500000 } }))) ∧
    goesOn (exec (.resyncLevelDefined 100000000 ((.port 0))) ((portState 3 { filter := { resync := true, since := 1000000 } }))) :=
  ⟨goes (h.1.1 (portState 3 {}) later 0 3000000 0 0 (by decide +kernel) (by decide +kernel) (by refine ⟨?_, ?_, ?_, ?_⟩ <;> decide +kernel) (by decide +kernel) (by decide +kernel) (by decide +kernel) (by decide +kernel)),
   goes (h.1.2.1 ((portState 3 {}).setObj 0x3000 9 0x110) later 0 0 30000000 0 (by decide +kernel) (by decide +kernel) (by refine ⟨?_, ?_, ?_, ?_⟩ <;> decide +kernel) (by decide +kernel) (by decide +kernel) (by decide +kernel) (by decide +kernel)),
   goes (h.1.2.2.1 ((portState 3 {}).setObj 0x3000 9 0x190) later 0 0 (-30000000) 0 (by decide +kernel) (by decide +kernel) (by refine ⟨?_, ?_, ?_, ?_⟩ <;> decide +kernel) (by decide +kernel) (by decide +kernel) (by decide +kernel) (by decide +kernel)),
   goes (h.1.2.2.2.1 ((device .run []).setObj 0x3701 1 1) later 1 true (by decide +kernel) (by decide +kernel) (by decide +kernel) (by decide +kernel) (by refine ⟨?_, ?_, ?_, ?_⟩ <;> decide +kernel) (by decide +kernel)),
   goes ((by refine h.1.2.2.2.2 ((portState 3 { park := some parkNow }).setObj 0x3000 9 0x110) later 0 0 30000000 0 ?_ ?_ ?_ ?_ ?_ ?_ <;> decide +kernel)),
   goes (h.2.1.1 (portState 3 { receiverAt := some 1500000, forceUv := 3000000 }) later 0 true 1500000 true (by decide +kernel) (by decide +kernel) (by decide +kernel) (by decide +kernel) (by refine ⟨?_, ?_, ?_, ?_⟩ <;> decide +kernel) (by decide +kernel) (by decide +kernel) (by decide +kernel) (by decide +kernel)),
   goes (h.2.1.2.1 (portState 3 { receiverAt := some 1500000 }) later 0 false 1500000 false (by decide +kernel) (by decide +kernel) (by decide +kernel) (by decide +kernel) (by refine ⟨?_, ?_, ?_, ?_⟩ <;> decide +kernel) (by decide +kernel) (by decide +kernel) (by decide +kernel) (by decide +kernel)),
   ⟨_, h.2.1.2.2 (portState 3 { receiverAt := some 3000000 }) later 0 true 3000000 (by decide +kernel) (by decide +kernel)⟩,
   goes ((by refine h.2.2.1 (portState 3 { filter := { raw := true, since := 1000000 } }) 100000000 (.port 0) ?_ ?_ ?_ ?_ ?_ ?_ <;> decide +kernel)),
   goes ((by refine h.2.2.1 (((device .run []).setObj 0x3701 1 1).setPin 1 { filter := { raw := true, since := 1000000 } }) 100000000 (.pin 1) ?_ ?_ ?_ ?_ ?_ ?_ <;> decide +kernel)),
   ⟨_, h.2.2.2.1 (portState 3 { filter := { debounce := some 1500000 } }) later (.port 0) 1500000 (by decide +kernel) (by decide +kernel) (by decide +kernel) (by decide +kernel)⟩,
   ⟨_, (by refine h.2.2.2.2 (portState 3 { filter := { resync := true, since := 1000000 } }) 100000000 (.port 0) ?_ ?_ ?_ ?_ ?_ <;> decide +kernel)⟩⟩

theorem witness_ConvertersRunAndStop (h : Obligations.ConvertersRunAndStop) :
    goesOn (exec (.runModeStop later host 0) ((convState { triggers := [{ stamp := 5, command := false, arrived := 5 }] }))) ∧
    goesOn (exec (.runModeStop later host 0) ((convState { passRunning := true, converting := .entry }))) ∧
    goesOn (exec (.runModeStop later host 0) ((convState { passRunning := true, stop := some .claim }))) ∧
    goesOn (exec (.runModeContinuous later host 0) ((convState {}))) ∧
    goesOn (exec (.runModeTriggered later host 0) (((convState {}).setObj 0x3200 6 0x3000))) ∧
    goesOn (exec (.runModeOnePass later host 0) ((convState {}))) ∧
    goesOn (exec (.runModeContinuous later host 0) ((convState { passRunning := true }))) ∧
    goesOn (exec (.runModeContinuous later host 0) ((chainState { mapperUse := true }))) ∧
    goesOn (exec (.sequenceStopped later 0) ((convState { passRunning := true, stop := some .command }))) ∧
    goesOn (exec (.triggerCommand later host 0 1) (((convState {}).setObj 0x3200 1 2))) ∧
    goesOn (exec (.timerTrigger later 0) (((convState { nextTimer := some 1999900 }).setObj 0x3200 1 2))) ∧
    goesOn (exec (.referenceSettled later 0) ((convState { refSettling := true, referenceAt := 1000000 }))) ∧
    goesOn (exec (.triggerCommand later host 0 1) (((convState { triggers := List.replicate 4 { stamp := 5, command := false, arrived := 5 } }).setObj 0x3200 1 2))) :=
  ⟨⟨_, h.1.1 (convState { triggers := [{ stamp := 5, command := false, arrived := 5 }] }) later host 0 (cardAt 0x3200 1) (takes (by decide +kernel)) (by decide +kernel) (by decide +kernel) (by decide +kernel) (by decide +kernel)⟩,
   ⟨_, h.1.2.1 (convState { passRunning := true, converting := .entry }) later host 0 (cardAt 0x3200 1) (takes (by decide +kernel)) (by decide +kernel) (by decide +kernel) (by decide +kernel)⟩,
   ⟨_, h.1.2.2.1 (convState { passRunning := true, stop := some .claim }) later host 0 (cardAt 0x3200 1) .claim (takes (by decide +kernel)) (by decide +kernel) (by decide +kernel)⟩,
   ⟨_, h.1.2.2.2.1 (convState {}) later host 0 (cardAt 0x3200 1) (takes (by decide +kernel)) (by decide +kernel) (by decide +kernel) (by decide +kernel)⟩,
   ⟨_, h.1.2.2.2.2.1 ((convState {}).setObj 0x3200 6 0x3000) later host 0 (cardAt 0x3200 1) (takes (by decide +kernel)) (by decide +kernel) (by decide +kernel) (by decide +kernel)⟩,
   ⟨_, h.1.2.2.2.2.2 (convState {}) later host 0 (cardAt 0x3200 1) (takes (by decide +kernel)) (by decide +kernel) (by decide +kernel) (by decide +kernel)⟩,
   ⟨_, h.2.1 (convState { passRunning := true }) later host 0 (cardAt 0x3200 1) (takes (by decide +kernel)) (by decide +kernel) (by decide +kernel)⟩,
   ⟨_, h.2.1 (chainState { mapperUse := true }) later host 0 (cardAt 0x3200 1) (takes (by decide +kernel)) (by decide +kernel) (by decide +kernel)⟩,
   ⟨_, h.2.2.1.1 (convState { passRunning := true, stop := some .command }) later 0 (by decide +kernel) (by decide +kernel)⟩,
   ⟨_, h.2.2.1.2.1 ((convState {}).setObj 0x3200 1 2) later host 0 1 (cardAt 0x3200 8) (takes (by decide +kernel)) (by decide +kernel) (by decide +kernel) (by decide +kernel) (by decide +kernel)⟩,
   goes ((by refine h.2.2.1.2.2.1 ((convState { nextTimer := some 1999900 }).setObj 0x3200 1 2) later 0 1999900 ?_ ?_ ?_ ?_ ?_ <;> decide +kernel)),
   ⟨_, h.2.2.1.2.2.2 (convState { refSettling := true, referenceAt := 1000000 }) later 0 (by decide +kernel) (by decide +kernel)⟩,
   goesA (h.2.2.2 ((convState { triggers := List.replicate 4 { stamp := 5, command := false, arrived := 5 } }).setObj 0x3200 1 2) later host 0 1 (cardAt 0x3200 8) (takes (by decide +kernel)) (by decide +kernel) (by decide +kernel) (by decide +kernel) (by decide +kernel) (unselected_of (by decide +kernel)))⟩

theorem witness_PassesConvertEntries (h : Obligations.PassesConvertEntries) :
    goesOn (exec (.passStart later 0) (((convState { startAt := 1000000 }).setObj 0x3200 1 1))) ∧
    goesOn (exec (.passStart later 0) (((convState { triggers := [{ stamp := 5, command := false, arrived := 5 }] }).setObj 0x3200 1 2))) ∧
    goesOn (exec (.entryEnd later 0 ([2048])) ((((convState { converting := .entry, passRunning := true, word := 0x40000, settles := 0, started := 1000 }).setObj 0x3200 1 1).setObj 0x3200 5 2))) ∧
    goesOn (exec (.rawEntryWrite later 0 ([1, 2])) ((convState { rawLeft := [raw1] }))) :=
  ⟨⟨_, (by refine h.1 ((convState { startAt := 1000000 }).setObj 0x3200 1 1) later 0 1000000 ?_ ?_ ?_ ?_ ?_ ?_ ?_ ?_ <;> decide +kernel)⟩,
   ⟨_, (by refine h.1 ((convState { triggers := [{ stamp := 5, command := false, arrived := 5 }] }).setObj 0x3200 1 2) later 0 440 ?_ ?_ ?_ ?_ ?_ ?_ ?_ ?_ <;> decide +kernel)⟩,
   goes ((by refine h.2.1 (((convState { converting := .entry, passRunning := true, word := 0x40000, settles := 0, started := 1000 }).setObj 0x3200 1 1).setObj 0x3200 5 2) later 0 [2048] (3, 0) ?_ ?_ ?_ ?_ ?_ ?_ ?_ ?_ ?_ ?_ ?_ ?_ ?_ ?_ <;> decide +kernel)),
   ⟨_, h.2.2 (convState { rawLeft := [raw1] }) later 0 [1, 2] raw1 (by decide +kernel) (by decide +kernel) (by decide +kernel) (by decide +kernel)⟩⟩

theorem witness_UrgentRequestsAndDiagnoses (h : Obligations.UrgentRequestsAndDiagnoses) :
    goesOn (exec (.urgentRequest later host 0 0x40000) ((convState {}))) ∧
    goesOn (exec (.urgentStart later 0) ((convState { slot := .request true 1000000 1000400 }))) ∧
    goesOn (exec (.urgentEnd later 0 ([2048])) ((convState { slot := .request false 1000000 1000400, converting := .urgent, word := 0x40000, started := 1000 }))) ∧
    goesOn (exec (.diagnosisCommand later host 0 4) ((convState {}))) ∧
    goesOn (exec (.diagnosisEnd 1000000000 0 (410000 + 100) (2048000 + 100) (3686000 + 100)) ((convState { slot := .diagnosis false 1000000 1000400, converting := .diagnosis, started := 0 }))) ∧
    goesOn (exec (.eventSelectWrite later host (0x3200 + 0) 0x19 2) ((convState {}))) ∧
    goesOn (exec (.eventCausesClear later host (0x3200 + 0) 0x1A 2) (((convState {}).setObj 0x3200 0x1A 3))) ∧
    goesOn (exec (.eventSelectWrite later host 0x3200 1 0) ((convState {}))) :=
  ⟨⟨_, h.1.1 (convState {}) later host 0 0x40000 (cardAt 0x3200 0x0F) 0x40000 (takes (by decide +kernel)) (by decide +kernel) (by decide +kernel) (by decide +kernel)⟩,
   ⟨_, (by refine h.1.2.1 (convState { slot := .request true 1000000 1000400 }) later 0 1000000 1000400 ?_ ?_ ?_ ?_ ?_ ?_ <;> decide +kernel)⟩,
   goes ((by refine h.1.2.2 (convState { slot := .request false 1000000 1000400, converting := .urgent, word := 0x40000, started := 1000 }) later 0 [2048] ?_ ?_ ?_ ?_ ?_ ?_ ?_ ?_ ?_ (unselected_of (by decide +kernel)) ?_ <;> decide +kernel)),
   ⟨_, h.2.1.1 (convState {}) later host 0 4 (cardAt 0x3200 0x11) 4 (takes (by decide +kernel)) (by decide +kernel) (by decide +kernel) (by decide +kernel) (by decide +kernel)⟩,
   goes ((by refine h.2.1.2 (convState { slot := .diagnosis false 1000000 1000400, converting := .diagnosis, started := 0 }) 1000000000 0 100 ?_ ?_ ?_ ?_ ?_ ?_ ?_ ?_ (unselected_of (by decide +kernel)) ?_ <;> decide +kernel)),
   ⟨_, h.2.2.1 (convState {}) later host 0 2 (cardAt 0x3200 0x19) 2 (takes (by decide +kernel)) (by decide +kernel)⟩,
   ⟨_, h.2.2.2.1 ((convState {}).setObj 0x3200 0x1A 3) later host 0 2 (cardAt 0x3200 0x1A) 2 (takes (by decide +kernel)) (by decide +kernel)⟩,
   ⟨_, h.2.2.2.2 (convState {}) later host 0x3200 1 0 (by decide +kernel)⟩⟩

theorem witness_ChainsGiveOutputs (h : Obligations.ChainsGiveOutputs) :
    goesOn (exec (.coarseOutput later 0 0 [5]) (((convState { done := [conversion1] }).setChain 0 { lanes := [(0, { phaseLeft := 3 })] }))) ∧
    goesOn (exec (.sampleDropped later 0 0) (((convState { done := [{ conversion1 with word := 600 * 2 ^ 18 + 0x20, taken := 600 }] }).setObj 0x2201 3 650))) ∧
    goesOn (exec (.sampleDropped later 0 0) ((({ convState {} with gov := { vcoreFrom := 900 } } : State).setObj 0x2201 3 900))) ∧
    goesOn (exec (.coarseOutput later 0 0 []) ((chainState { lanes := [(0, { readyCoarse := [{ stamp := 5, frac := 7, flags := 0, gain := 0, range := 0, measure := 0, reference := 0, bank := .a, fading := false, repeated := false, urgent := false, index := 0, settlingOut := false }], readyFine := [{ stamp := 5, frac := 7, flags := 0, gain := 0, range := 0, measure := 0, reference := 0, bank := .a, fading := false, repeated := false, urgent := false, index := 0, settlingOut := false }] })] }))) ∧
    goesOn (exec (.fineOutput later 0 0 []) ((chainState { lanes := [(0, { readyCoarse := [{ stamp := 5, frac := 7, flags := 0, gain := 0, range := 0, measure := 0, reference := 0, bank := .a, fading := false, repeated := false, urgent := false, index := 0, settlingOut := false }], readyFine := [{ stamp := 5, frac := 7, flags := 0, gain := 0, range := 0, measure := 0, reference := 0, bank := .a, fading := false, repeated := false, urgent := false, index := 0, settlingOut := false }] })] }))) :=
  ⟨goes ((by refine h.1.1 ((convState { done := [conversion1] }).setChain 0 { lanes := [(0, { phaseLeft := 3 })] }) later 0 0 5 conversion1 1000 ?_ ?_ ?_ ?_ ?_ ?_ ?_ ?_ ?_ <;> decide +kernel)),
   goes (h.1.2.1 ((convState { done := [{ conversion1 with word := 600 * 2 ^ 18 + 0x20, taken := 600 }] }).setObj 0x2201 3 650) later 0 0 24960 (by decide +kernel) (by decide +kernel) (by decide +kernel) (by decide +kernel) (unselected_of (by decide +kernel))),
   ⟨_, h.1.2.2 (({ convState {} with gov := { vcoreFrom := 900 } } : State).setObj 0x2201 3 900) later 0 0 (by decide +kernel)⟩,
   goes (h.2.1 (chainState { lanes := [(0, { readyCoarse := [{ stamp := 5, frac := 7, flags := 0, gain := 0, range := 0, measure := 0, reference := 0, bank := .a, fading := false, repeated := false, urgent := false, index := 0, settlingOut := false }], readyFine := [{ stamp := 5, frac := 7, flags := 0, gain := 0, range := 0, measure := 0, reference := 0, bank := .a, fading := false, repeated := false, urgent := false, index := 0, settlingOut := false }] })] }) later 0 0 { stamp := 5, frac := 7, flags := 0, gain := 0, range := 0, measure := 0, reference := 0, bank := .a, fading := false, repeated := false, urgent := false, index := 0, settlingOut := false } [] (by decide +kernel) (by decide +kernel) (by decide +kernel)),
   goes (h.2.2 (chainState { lanes := [(0, { readyCoarse := [{ stamp := 5, frac := 7, flags := 0, gain := 0, range := 0, measure := 0, reference := 0, bank := .a, fading := false, repeated := false, urgent := false, index := 0, settlingOut := false }], readyFine := [{ stamp := 5, frac := 7, flags := 0, gain := 0, range := 0, measure := 0, reference := 0, bank := .a, fading := false, repeated := false, urgent := false, index := 0, settlingOut := false }] })] }) later 0 0 { stamp := 5, frac := 7, flags := 0, gain := 0, range := 0, measure := 0, reference := 0, bank := .a, fading := false, repeated := false, urgent := false, index := 0, settlingOut := false } [] (by decide +kernel) (by decide +kernel) (by decide +kernel))⟩

theorem witness_ChainsAreSet (h : Obligations.ChainsAreSet) :
    goesOn (exec (.chainConfigWrite later host 0 9 1) ((chainState {}))) ∧
    goesOn (exec (.chainConfigWrite later host 0 9 1) (((chainState {}).setObj 0x3200 1 1))) ∧
    goesOn (exec (.bankWrite later host 0 .b ([1, 0, 0, 0])) ((chainState {}))) ∧
    goesOn (exec (.bankWrite later host 0 .a ([1, 0, 0, 0])) ((chainState {}))) ∧
    goesOn (exec (.swapRequest later host 0 1) ((chainState {}))) ∧
    goesOn (exec (.swapRequest later host 0 0) ((chainState {}))) ∧
    goesOn (exec (.fadeEnd later 0) ((chainState { fade := some fade1 }))) ∧
    goesOn (exec (.syncCommand later host 0 2) (((chainState {}).setObj 0x3300 0x10 2))) ∧
    goesOn (exec (.syncInputEdge later 1999000) (((({ device .run [] with timebase := { locked := true, syncIn := some 1999000 } } : State).setObj 0x3300 0x10 1).setObj 0x370C 1 0x20))) ∧
    goesOn (exec (.syncReset later 0) ((chainState { sync := some 1500000 }))) :=
  ⟨goesA (h.1.1 (chainState {}) later host 0 9 1 (cardAt 0x3300 9) 1 (by decide +kernel) (takes (by decide +kernel)) (by decide +kernel) (by decide +kernel) (by decide +kernel) (by decide +kernel) (unselected_of (by decide +kernel)) (fun _ => ⟨rfl, rfl⟩)),
   ⟨_, h.1.2.1 ((chainState {}).setObj 0x3200 1 1) later host 0 9 1 (cardAt 0x3300 9) (by decide +kernel) (takes (by decide +kernel)) (by decide +kernel)⟩,
   ⟨_, (by refine h.1.2.2.1 (chainState {}) later host 0 [1, 0, 0, 0] (cardAt 0x3300 0x19) (takesBytes (by decide +kernel)) ?_ ?_ ?_ ?_ ?_ <;> decide +kernel)⟩,
   ⟨_, (by refine h.1.2.2.2 (chainState {}) later host 0 [1, 0, 0, 0] (cardAt 0x3300 0x18) (takesBytes (by decide +kernel)) ?_ ?_ ?_ ?_ ?_ <;> decide +kernel)⟩,
   (by obtain ⟨_, w⟩ := h.2.1.1 (chainState {}) later host 0 (cardAt 0x3300 0x1B) (takes (by decide +kernel)) (by decide +kernel) (by decide +kernel) (by decide +kernel); exact ⟨_, w⟩),
   ⟨_, h.2.1.2.1 (chainState {}) later host 0 (cardAt 0x3300 0x1B) (takes (by decide +kernel)) (by decide +kernel) (by decide +kernel) (by decide +kernel)⟩,
   goes (h.2.1.2.2 (chainState { fade := some fade1 }) later 0 fade1 (by decide +kernel) (by decide +kernel) (by decide +kernel) (unselected_of (by decide +kernel))),
   goesA (h.2.2.1 ((chainState {}).setObj 0x3300 0x10 2) later host 0 2 (cardAt 0x3300 0x11) 2 (takes (by decide +kernel)) (by decide +kernel) (fun _ => rfl)),
   goes (h.2.2.2.1 ((({ device .run [] with timebase := { locked := true, syncIn := some 1999000 } } : State).setObj 0x3300 0x10 1).setObj 0x370C 1 0x20) later 1999000 (by decide +kernel) (by decide +kernel) (by decide +kernel) (fun _ => rfl)),
   goes (h.2.2.2.2 (chainState { sync := some 1500000 }) later 0 1500000 (by decide +kernel) (by decide +kernel) (by decide +kernel) (unselected_of (by decide +kernel)) (unselected_of (by decide +kernel)) (fun _ => ⟨rfl, rfl⟩))⟩

theorem witness_PortsChangeOwnersThroughPark (h : Obligations.PortsChangeOwnersThroughPark) :
    goesOn (exec (.parkExit later 0) ((portState 1 { park := some parkOver }))) ∧
    (∃ k, ((State.settleOwner (portState 1 { latched := some .senseOpen }) .disable 0).port 0).park = some k) ∧
    State.settleOwner (portState 1 {}) .enable 0 = portState 1 {} :=
  ⟨goes (h.1 (portState 1 { park := some parkOver }) later 0 parkOver (by decide +kernel) (by decide +kernel) (by decide +kernel)),
   (h.2.1 (portState 1 { latched := some .senseOpen }) .disable 0 (by decide +kernel) (by decide +kernel)).imp fun _ w => w.1,
   h.2.2 (portState 1 {}) .enable 0 (by decide +kernel) (by decide +kernel)⟩

theorem witness_PinsAndTestAccessPort (h : Obligations.PinsAndTestAccessPort) :
    goesOn (exec (.servicePinFunctionWrite later host 5 0) ((device .idle [(clsCycle, 0)]))) ∧
    goesOn (exec (.servicePinFunctionWrite later host 5 1) ((device .idle [(clsCycle, 0)]))) ∧
    goesOn (exec (.servicePinFunctionWrite later host 5 0x2F) ((device .idle [(clsCycle, 0)]))) ∧
    goesOn (exec (.contentionDetect later 5) (((device .idle []).setPin 5 { opposedSince := some 1000000 }))) :=
  ⟨⟨_, h.1.1 (device .idle [(clsCycle, 0)]) later host 5 0 (cardAt 0x3705 1) 0 (takes (by decide +kernel)) (by decide +kernel) (by decide +kernel) (by decide +kernel)⟩,
   ⟨_, h.1.2.1 (device .idle [(clsCycle, 0)]) later host 5 1 (cardAt 0x3705 1) 1 (takes (by decide +kernel)) (by decide +kernel) (by decide +kernel) (by decide +kernel) (by decide +kernel)⟩,
   ⟨_, h.1.2.2.1 (device .idle [(clsCycle, 0)]) later host 5 0x2F (cardAt 0x3705 1) (takes (by decide +kernel)) (by decide +kernel)⟩,
   ⟨_, h.1.2.2.2 ((device .idle []).setPin 5 { opposedSince := some 1000000 }) later 5 1000000 (by decide +kernel) (by decide +kernel)⟩⟩

theorem witness_MapsRunToTheirEnd (h : Obligations.MapsRunToTheirEnd) :
    goesOn (exec (.mapperEnable later host) ((State.setObj (mapState {}) 0x3400 1 0))) ∧
    goesOn (exec (.mapperDisable later host) ((mapState { phase := .ready }))) ∧
    goesOn (exec (.referenceWrite later host 0 ((zeroBytes 64))) ((mapState { phase := .ready }))) ∧
    goesOn (exec (.referenceWrite later host 0 ([])) ((mapState { phase := .ready }))) ∧
    goesOn (exec (.referenceWrite later host 0 ([])) (({ mapState { phase := .ready } with cellar := busyCellar } : State))) ∧
    goesOn (exec (.mapStart later host) (((mapState { phase := .ready }).setObj 0x3400 0x0B 1))) ∧
    goesOn (exec (.mapBudgetGranted later) ((((mapState { phase := .waiting, points := [0] }).setObj 0x2201 0xA 2000).setObj 0x2201 0xB 1000))) ∧
    goesOn (exec (.mapBudgetWaitExpired later) ((mapState { phase := .waiting, waitSince := 1000000 }))) ∧
    goesOn (exec (.mapBudgetWaitExpired 100000000000) ((mapState { phase := .waiting, waitSince := 0 }))) ∧
    goesOn (exec (.mapGroupEnd later ([]) ([])) ((mapState { phase := .pass1, phaseStart := 1000000 }))) ∧
    goesOn (exec (.mapGroupEnd 100000000 ([(0, [5])]) onePoint) ((mapState { phase := .pass1, points := [0], periods := 0, groups := [[(0, 0)], [(1, 1)]] }))) ∧
    goesOn (exec (.mapGroupEnd 100000000 ([]) ([])) ((mapState { phase := .pass2, pass := 2, points := [], groups := [[(0, 0)]] }))) ∧
    goesOn (exec (.mapGroupEnd 100000000 ([(0, [5])]) overPoint) ((mapState { phase := .pass1, points := [0], groups := [[(0, 0)]], periods := 1 }))) ∧
    goesOn (exec (.mapAbortCommand later host) ((mapState { phase := .pass1 }))) ∧
    goesOn (exec (.mapEnd later) ((mapState { phase := .analysis, pass := 3 }))) ∧
    goesOn (exec (.mapAnalysisEnd later) ((mapState { phase := .analysis, pass := 1 }))) ∧
    goesOn (exec (.mapRoundEnd 100000000 ([{ a := 0, b := 1, amps := (List.replicate 8 [1000]), volts := (List.replicate 8 [1000]) }])) ((mapState { phase := .refinement, rounds := [[(0, 1)], []], links := [{ a := 0, b := 1, g := { num := 1, den := 100 } }], iref := 100000 }))) :=
  ⟨⟨_, h.1.1 (State.setObj (mapState {}) 0x3400 1 0) later host (cardAt 0x3400 1) (takes (by decide +kernel)) (by decide +kernel) (by decide +kernel) (by decide +kernel)⟩,
   ⟨_, h.1.2.1 (mapState { phase := .ready }) later host (cardAt 0x3400 1) (takes (by decide +kernel)) (by decide +kernel)⟩,
   ⟨_, h.1.2.2 (mapState { phase := .ready }) later host 0 (zeroBytes 64) (cardAt 0x3410 1) (takesBytes (by decide +kernel)) (by decide +kernel) (by decide +kernel) (by decide +kernel)⟩,
   goes₂ ((by refine h.2.1.1 (mapState { phase := .ready }) later host 0 [] (cardAt 0x3410 1) (takesBytes (by decide +kernel)) ?_ ?_ ?_ ?_ ?_ <;> decide +kernel)),
   goes₂ ((by refine h.2.1.2 ({ mapState { phase := .ready } with cellar := busyCellar } : State) later host 0 [] (cardAt 0x3410 1) (takesBytes (by decide +kernel)) ?_ ?_ ?_ ?_ ?_ ?_ <;> decide +kernel)),
   goesA (h.2.2.1.1 ((mapState { phase := .ready }).setObj 0x3400 0x0B 1) later host (cardAt 0x3400 0x0A) (takes (by decide +kernel)) (by decide +kernel) (by decide +kernel) (by decide +kernel)),
   goes (h.2.2.1.2.1 (((mapState { phase := .waiting, points := [0] }).setObj 0x2201 0xA 2000).setObj 0x2201 0xB 1000) later 1 (by decide +kernel) (by decide +kernel)),
   ⟨_, h.2.2.1.2.2.1 (mapState { phase := .waiting, waitSince := 1000000 }) later (by decide +kernel) (by decide +kernel)⟩,
   goes (h.2.2.1.2.2.2 (mapState { phase := .waiting, waitSince := 0 }) 100000000000 (by decide +kernel) (by decide +kernel) (by decide +kernel)),
   ⟨_, h.2.2.2.1 (mapState { phase := .pass1, phaseStart := 1000000 }) later [] [] (by decide +kernel) (by decide +kernel)⟩,
   ⟨_, (by refine h.2.2.2.2.1 (mapState { phase := .pass1, points := [0], periods := 0, groups := [[(0, 0)], [(1, 1)]] }) 100000000 [(0, [5])] onePoint ?_ ?_ ?_ ?_ ?_ ?_ <;> decide +kernel)⟩,
   goes ((by refine h.2.2.2.2.2.1 (mapState { phase := .pass2, pass := 2, points := [], groups := [[(0, 0)]] }) 100000000 [] [] ?_ ?_ ?_ ?_ ?_ ?_ <;> decide +kernel)),
   goes ((by refine h.2.2.2.2.2.2.1 (mapState { phase := .pass1, points := [0], groups := [[(0, 0)]], periods := 1 }) 100000000 [(0, [5])] overPoint ?_ ?_ ?_ ?_ ?_ ?_ <;> decide +kernel)),
   goesA (h.2.2.2.2.2.2.2.1 (mapState { phase := .pass1 }) later host (cardAt 0x3400 0x0A) (takes (by decide +kernel)) (by decide +kernel) (by decide +kernel)),
   goes (h.2.2.2.2.2.2.2.2.1 (mapState { phase := .analysis, pass := 3 }) later (by decide +kernel) (by decide +kernel)),
   goes ((by refine h.2.2.2.2.2.2.2.2.2.1 (mapState { phase := .analysis, pass := 1 }) later ?_ ?_ ?_ ?_ ?_ <;> decide +kernel)),
   goes ((by refine h.2.2.2.2.2.2.2.2.2.2 (mapState { phase := .refinement, rounds := [[(0, 1)], []], links := [{ a := 0, b := 1, g := { num := 1, den := 100 } }], iref := 100000 }) 100000000 [{ a := 0, b := 1, amps := (List.replicate 8 [1000]), volts := (List.replicate 8 [1000]) }] ?_ ?_ ?_ ?_ ?_ <;> decide +kernel))⟩

theorem witness_PlansStart (h : Obligations.PlansStart) :
    goesOn (exec (.planImageWrite later host 0 waitPlan) ((device .idle [(clsCycle, 0)]))) ∧
    goesOn (exec (.planImageWrite later host 0 waitPlan) (({ device .idle [(clsCycle, 0)] with cellar := busyCellar } : State))) ∧
    goesOn (exec (.planImageWrite later host 0 ((zeroBytes 64))) ((device .idle [(clsCycle, 0)]))) ∧
    goesOn (exec (.planStart later host) (({ planState waitPlan {} with disp := {} } : State))) ∧
    goesOn (exec (.planAbort later host) ((planState waitPlan {}))) :=
  ⟨goes₂ ((by refine h.1.1 (device .idle [(clsCycle, 0)]) later host 0 waitPlan (cardAt 0x3510 1) (takesBytes (by decide +kernel)) ?_ ?_ ?_ ?_ ?_ <;> decide +kernel)),
   goes₂ ((by refine h.1.2.1 ({ device .idle [(clsCycle, 0)] with cellar := busyCellar } : State) later host 0 waitPlan (cardAt 0x3510 1) (takesBytes (by decide +kernel)) ?_ ?_ ?_ ?_ ?_ ?_ <;> decide +kernel)),
   ⟨_, h.1.2.2 (device .idle [(clsCycle, 0)]) later host 0 (zeroBytes 64) (cardAt 0x3510 1) 1 0xFFFF (takesBytes (by decide +kernel)) (by decide +kernel) (by decide +kernel) (by decide +kernel) (by decide +kernel)⟩,
   goesA ((by refine h.2.1 ({ planState waitPlan {} with disp := {} } : State) later host (cardAt 0x3500 1) (takes (by decide +kernel)) ?_ ?_ ?_ ?_ ?_ ?_ <;> decide +kernel)),
   ⟨_, h.2.2 (planState waitPlan {}) later host (cardAt 0x3500 1) 0 (takes (by decide +kernel)) (by decide +kernel) (by decide +kernel) (by decide +kernel) (by decide +kernel) (unselected_of (by decide +kernel))⟩⟩

theorem witness_StepsRunInTime (h : Obligations.StepsRunInTime) :
    goesOn (exec (.dispatch later 0) ((planState waitPlan { stage := .ready }))) ∧
    goesOn (exec (.dispatch later 0) ((planState waitPlan { stage := .ready }))) ∧
    goesOn (exec (.dispatch later 0) (({ planState waitPlan { stage := .ready } with gov := { bucket := 0 }, cellar := { State.reset.cellar with items := [(4 * 2 ^ 32, some (waitPlan.set 76 1#8))], stage := 2 } } : State))) ∧
    goesOn (exec (.waitStepElapsed later 0) ((planState waitPlan { stage := .inFlight, dispatchedAt := 1000000 }))) ∧
    goesOn (exec (.stepTimeout later 0) ((planState waitPlan { stage := .inFlight, dispatchedAt := 1000000 }))) ∧
    goesOn (exec (.stepTimeout later 0) ((planState waitPlan { stage := .inFlight, dispatchedAt := 1000000 }))) :=
  ⟨⟨_, (by refine h.1.1 (planState waitPlan { stage := .ready }) later 0 ((planState waitPlan { stage := .ready }).advance later) ?_ ?_ ?_ ?_ ?_ ?_ <;> decide +kernel)⟩,
   goes ((by refine h.1.2.1 (planState waitPlan { stage := .ready }) later 0 ?_ ?_ ?_ ?_ ?_ ?_ ?_ ?_ <;> decide +kernel)),
   goes (h.1.2.2 ({ planState waitPlan { stage := .ready } with gov := { bucket := 0 }, cellar := { State.reset.cellar with items := [(4 * 2 ^ 32, some (waitPlan.set 76 1#8))], stage := 2 } } : State) later 0 (by decide +kernel) (by decide +kernel) (by decide +kernel)),
   ⟨_, h.2.1 (planState waitPlan { stage := .inFlight, dispatchedAt := 1000000 }) later 0 (by decide +kernel) (by decide +kernel) (by decide +kernel) (by decide +kernel)⟩,
   ⟨_, h.2.2.1 (planState waitPlan { stage := .inFlight, dispatchedAt := 1000000 }) later 0 (by decide +kernel) (by decide +kernel)⟩,
   ⟨_, (by refine h.2.2.2 (planState waitPlan { stage := .inFlight, dispatchedAt := 1000000 }) later 0 ?_ ?_ ?_ ?_ ?_ <;> decide +kernel)⟩⟩

theorem witness_StepsAndSweepsEnd (h : Obligations.StepsAndSweepsEnd) :
    goesOn (exec (.stepEnd later 0) ((planState waitPlan { stage := .inFlight, done := some 0 }))) ∧
    goesOn (exec (.stepBudgetWaitExpired 1000000000000 0) ((planState waitPlan { stage := .ready, deferCause := 1 }))) ∧
    goesOn (exec (.stepHeld 1000000000000 0) ((planState waitPlan { stage := .ready, deferCause := 1 }))) ∧
    goesOn (exec (.peakTailEnd later) (({ device .run [] with disp := { tails := [{ until_ := 5, module_ := 1, dies := [] }] } } : State))) ∧
    goesOn (exec (.sweepLevelMeasured 1000000000000 0 ({ codes := [List.replicate (sweepSamples (stepAction sweepPlan 0)) 5], compliance := false, sourceClamps := 0 })) ((((planState sweepPlan { stage := .inFlight }).setPort 0 { owner := { kind := .sweeper, unit := 0 } }).setSweep 0 { step := some 0, ports := [0], forces := true }))) ∧
    goesOn (exec (.sweepEnd later 0) (((planState sweepPlan { stage := .inFlight }).setSweep 0 { step := some 0, ports := [0], forces := true, ended := some 0 }))) :=
  ⟨goes (h.1.1 (planState waitPlan { stage := .inFlight, done := some 0 }) later 0 0 (by decide +kernel) (by decide +kernel) (by decide +kernel)),
   goes (h.1.2.1 (planState waitPlan { stage := .ready, deferCause := 1 }) 1000000000000 0 (by decide +kernel) (by decide +kernel) (by decide +kernel) (by decide +kernel)),
   ⟨_, (by refine h.1.2.2.1 (planState waitPlan { stage := .ready, deferCause := 1 }) 1000000000000 0 ?_ ?_ ?_ ?_ ?_ (unselected_of (by decide +kernel)) <;> decide +kernel)⟩,
   goes (h.1.2.2.2 ({ device .run [] with disp := { tails := [{ until_ := 5, module_ := 1, dies := [] }] } } : State) later),
   goes ((by refine h.2.1 (((planState sweepPlan { stage := .inFlight }).setPort 0 { owner := { kind := .sweeper, unit := 0 } }).setSweep 0 { step := some 0, ports := [0], forces := true }) 1000000000000 0 { codes := [List.replicate (sweepSamples (stepAction sweepPlan 0)) 5], compliance := false, sourceClamps := 0 } 0 ?_ ?_ ?_ ?_ ?_ ?_ ?_ ?_ <;> decide +kernel)),
   goes (h.2.2 ((planState sweepPlan { stage := .inFlight }).setSweep 0 { step := some 0, ports := [0], forces := true, ended := some 0 }) later 0 0 0 (by decide +kernel) (by decide +kernel) (by decide +kernel) (by decide +kernel))⟩

theorem witness_CanEnginesExchangeFrames (h : Obligations.CanEnginesExchangeFrames) :
    goesOn (exec (.canEnable later host 0 1) (((canState {}).setObj 0x3600 1 0))) ∧
    goesOn (exec (.canEnable later host 0 1) ((device .run [(clsCan, 0)]))) ∧
    goesOn (exec (.canEnable later host 0 0) ((canState { transmit := some ([], none) }))) ∧
    goesOn (exec (.canTransmit later host 0 ([1, 0, 0, 0, 0, 0, 0, 0])) ((canState {}))) ∧
    goesOn (exec (.canTransmit later host 0 ([1, 0, 0, 0, 0, 0, 0, 0])) ((canState { transmit := some ([], none) }))) ∧
    goesOn (exec (.canRecover later host 0 1) ((canState { state := .busOff }))) ∧
    goesOn (exec (.busOffRecoveryComplete later 0) ((canState { state := .busOff, recovering := true }))) ∧
    goesOn (exec (.canFrameTransmitted later 0) ((canState { transmit := some ([1], none) }))) ∧
    goesOn (exec (.canFrameTransmitted later 0) (((canState {}).setObj 0x3600 5 4))) ∧
    goesOn (exec (.canFrameReceived later 0 ({ start := 5, ident := 1, data := [] })) ((canState {}))) ∧
    goesOn (exec (.canFrameReceived later 0 ({ start := 5, ident := 0x40000001, data := [] })) (((canState {}).setObj 0x3600 5 0))) ∧
    goesOn (exec (.canError later 0 200 5 ⟨true, false⟩) ((canState { transmit := some ([1], none) }))) ∧
    goesOn (exec (.canError later 0 200 5 ⟨false, false⟩) (((canState {}).setObj 0x3600 5 4))) ∧
    goesOn (exec (.canBusOff later 0) ((canState {}))) ∧
    goesOn (exec (.canFrameReceived later 0 ({ start := 5, ident := 1, data := [] })) ((device .run []))) :=
  ⟨⟨_, h.1.1 ((canState {}).setObj 0x3600 1 0) later host 0 (cardAt 0x3600 1) (takes (by decide +kernel)) (by decide +kernel) (by decide +kernel) (by decide +kernel)⟩,
   ⟨_, h.1.2.1 (device .run [(clsCan, 0)]) later host 0 (cardAt 0x3600 1) (takes (by decide +kernel)) (by decide +kernel) (by decide +kernel)⟩,
   ⟨_, h.1.2.2.1 (canState { transmit := some ([], none) }) later host 0 (cardAt 0x3600 1) (takes (by decide +kernel)) (by decide +kernel) (fun _ _ e => nomatch e)⟩,
   ⟨_, h.1.2.2.2.1 (canState {}) later host 0 [1, 0, 0, 0, 0, 0, 0, 0] (cardAt 0x3600 6) [1, 0, 0, 0, 0, 0, 0, 0] (takesBytes (by decide +kernel)) (by decide +kernel) (by decide +kernel)⟩,
   ⟨_, h.1.2.2.2.2.1 (canState { transmit := some ([], none) }) later host 0 [1, 0, 0, 0, 0, 0, 0, 0] (cardAt 0x3600 6) [1, 0, 0, 0, 0, 0, 0, 0] (takesBytes (by decide +kernel)) (by decide +kernel) (by decide +kernel) (by decide +kernel) (by decide +kernel)⟩,
   ⟨_, h.1.2.2.2.2.2.1 (canState { state := .busOff }) later host 0 (cardAt 0x3600 9) (takes (by decide +kernel)) (by decide +kernel) (by decide +kernel)⟩,
   ⟨_, h.1.2.2.2.2.2.2 (canState { state := .busOff, recovering := true }) later 0 (by decide +kernel) (unselected_of (by decide +kernel))⟩,
   ⟨_, h.2.1 (canState { transmit := some ([1], none) }) later 0 [1] (by decide +kernel) (by decide +kernel) (by decide +kernel) (unselected_of (by decide +kernel)) (unselected_of (by decide +kernel))⟩,
   ⟨_, h.2.2.1 ((canState {}).setObj 0x3600 5 4) later 0 (by decide +kernel)⟩,
   ⟨_, (by refine h.2.2.2.1 (canState {}) later 0 { start := 5, ident := 1, data := [] } ?_ ?_ ?_ ?_ ?_ ?_ (unselected_of (by decide +kernel)) (unselected_of (by decide +kernel)) <;> decide +kernel)⟩,
   ⟨_, h.2.2.2.2.1 ((canState {}).setObj 0x3600 5 0) later 0 { start := 5, ident := 0x40000001, data := [] } (by decide +kernel)⟩,
   ⟨_, h.2.2.2.2.2.1 (canState { transmit := some ([1], none) }) later 0 200 5 true false (by decide +kernel) (by decide +kernel) (by decide +kernel) (fun _ _ e => nomatch e) (unselected_of (by decide +kernel))⟩,
   ⟨_, h.2.2.2.2.2.2.1 ((canState {}).setObj 0x3600 5 4) later 0 200 5 false (by decide +kernel) (by decide +kernel) (by decide +kernel) (by decide +kernel) (unselected_of (by decide +kernel))⟩,
   ⟨_, h.2.2.2.2.2.2.2.1 (canState {}) later 0 (by decide +kernel) (by decide +kernel) (by decide +kernel) (unselected_of (by decide +kernel)) (unselected_of (by decide +kernel))⟩,
   ⟨_, (h.2.2.2.2.2.2.2.2 (device .run []) later 0 { start := 5, ident := 1, data := [] } 5 5 false false (by decide +kernel)).1⟩⟩

theorem witness_PortEnginesReceive (h : Obligations.PortEnginesReceive) :
    goesOn (exec (enableOf later host 1 (0, 0)) ((engineState 0x3610 0))) ∧
    goesOn (exec (enableOf later host 1 (1, 0)) ((engineState 0x3618 0))) ∧
    goesOn (exec (enableOf later host 1 (2, 0)) ((engineState 0x3620 0))) ∧
    goesOn (exec (enableOf later host 1 (0, 0)) (((State.setObj (engineState 0x3610 0) 0x3618 1 1).setObj 0x3618 2 0))) ∧
    goesOn (exec (enableOf later host 0 (0, 0)) ((engineState 0x3610 1))) ∧
    goesOn (exec (enableOf later host 0 (1, 0)) ((engineState 0x3618 1))) ∧
    goesOn (exec (enableOf later host 0 (2, 0)) ((engineState 0x3620 1))) ∧
    goesOn (exec (.linHeaderReceived later 1500000 0 5) (((engineState 0x3610 1).setObj 0x3610 3 1))) ∧
    goesOn (exec (.linFrameReceived later 0 ({ start := 5, headerEnd := 6, ident := 1, data := [1], checksum := 0 })) ((engineState 0x3610 1))) ∧
    goesOn (exec (.linMissingResponse later 0) (((engineState 0x3610 1).setLin 0 { header := some { ident := 1, start := 5, step := none } }))) ∧
    goesOn (exec (.sentFrameReceived later 0 ({ start := 5, calibration := 672000, status := 0, nibbles := [1, 2, 3, 4, 5, 6], crc := sentCrc false [1, 2, 3, 4, 5, 6], pauseMissing := false, serial := none })) (((engineState 0x3618 1).setSent 0 { lastCalibration := none }))) ∧
    goesOn (exec (.sentFrameReceived later 0 ({ start := 5, calibration := 1, status := 0, nibbles := [1, 2, 3, 4, 5, 6], crc := 0, pauseMissing := false, serial := none })) (((engineState 0x3618 1).setSent 0 { lastCalibration := none }))) ∧
    goesOn (exec (.pwmResult later 0 ({ firstEdge := 5, period := 100, high := 50 })) ((engineState 0x3620 1))) ∧
    goesOn (exec (.protocolResponseTimeout later 0) ((planState pwmPlan { stage := .inFlight }))) :=
  ⟨⟨_, h.1.1 (engineState 0x3610 0) later host 0 0 (cardAt 0x3610 1) (takes (by decide +kernel)) (by decide +kernel) (by decide +kernel) (by decide +kernel) (by decide +kernel)⟩,
   ⟨_, h.1.1 (engineState 0x3618 0) later host 1 0 (cardAt 0x3618 1) (takes (by decide +kernel)) (by decide +kernel) (by decide +kernel) (by decide +kernel) (by decide +kernel)⟩,
   ⟨_, h.1.1 (engineState 0x3620 0) later host 2 0 (cardAt 0x3620 1) (takes (by decide +kernel)) (by decide +kernel) (by decide +kernel) (by decide +kernel) (by decide +kernel)⟩,
   ⟨_, h.1.2.1 ((State.setObj (engineState 0x3610 0) 0x3618 1 1).setObj 0x3618 2 0) later host 0 0 (cardAt 0x3610 1) (takes (by decide +kernel)) (by decide +kernel) (by decide +kernel) (by decide +kernel) (by decide +kernel)⟩,
   ⟨_, h.1.2.2 (engineState 0x3610 1) later host 0 0 (cardAt 0x3610 1) (takes (by decide +kernel)) (by decide +kernel) (by decide +kernel) (fun _ _ _ e => nomatch e)⟩,
   ⟨_, h.1.2.2 (engineState 0x3618 1) later host 1 0 (cardAt 0x3618 1) (takes (by decide +kernel)) (by decide +kernel) (by decide +kernel) (fun _ _ e => nomatch e)⟩,
   ⟨_, h.1.2.2 (engineState 0x3620 1) later host 2 0 (cardAt 0x3620 1) (takes (by decide +kernel)) (by decide +kernel) (by decide +kernel) (fun _ _ e => nomatch e)⟩,
   ⟨_, h.2.1 ((engineState 0x3610 1).setObj 0x3610 3 1) later 1500000 0 5 (by decide +kernel) (by decide +kernel)⟩,
   ⟨_, h.2.2.1 (engineState 0x3610 1) later 0 { start := 5, headerEnd := 6, ident := 1, data := [1], checksum := 0 } (by decide +kernel) (by decide +kernel) (by decide +kernel) (fun _ e => nomatch e) (by decide +kernel) (unselected_of (by decide +kernel))⟩,
   ⟨_, (by refine h.2.2.2.1 ((engineState 0x3610 1).setLin 0 { header := some { ident := 1, start := 5, step := none } }) later 0 { ident := 1, start := 5, step := none } ?_ ?_ ?_ ?_ ?_ (unselected_of (by decide +kernel)) <;> decide +kernel)⟩,
   ⟨_, (by refine h.2.2.2.2.1 ((engineState 0x3618 1).setSent 0 { lastCalibration := none }) later 0 { start := 5, calibration := 672000, status := 0, nibbles := [1, 2, 3, 4, 5, 6], crc := sentCrc false [1, 2, 3, 4, 5, 6], pauseMissing := false, serial := none } ?_ ?_ ?_ ?_ ?_ ?_ (unselected_of (by decide +kernel)) <;> decide +kernel)⟩,
   ⟨_, h.2.2.2.2.2.1 ((engineState 0x3618 1).setSent 0 { lastCalibration := none }) later 0 { start := 5, calibration := 1, status := 0, nibbles := [1, 2, 3, 4, 5, 6], crc := 0, pauseMissing := false, serial := none } (by decide +kernel) (by decide +kernel) (by decide +kernel) (by decide +kernel) (unselected_of (by decide +kernel))⟩,
   goes ((by refine h.2.2.2.2.2.2.1 (engineState 0x3620 1) later 0 { firstEdge := 5, period := 100, high := 50 } ?_ ?_ ?_ ?_ ?_ ?_ (unselected_of (by decide +kernel)) <;> decide +kernel)),
   ⟨_, (by refine h.2.2.2.2.2.2.2 (planState pwmPlan { stage := .inFlight }) later 0 ?_ ?_ ?_ ?_ ?_ <;> decide +kernel)⟩⟩

theorem witness_CoreArithmeticAndCompares (h : Obligations.CoreArithmeticAndCompares) :
    goesOn (exec (.add later 1 3 1 2) (coreState (regs 7#32 3#32) (wordR 0x01 3 1 2))) ∧
    goesOn (exec (.div later 1 3 1 2) (coreState (regs 7#32 3#32) (wordR 0x0C 3 1 2))) ∧
    goesOn (exec (.addi later 1 3 1 9#16) (coreState (regs 7#32 3#32) (wordI 0x11 3 1 9#16))) ∧
    goesOn (exec (.lui later 1 3 (9#16)) ((coreState (regs 7#32 3#32) (wordI 0x20 3 0 9#16)))) ∧
    goesOn (exec (.nop later 1) ((coreState (regs 7#32 3#32) (wordR 0x45 0 0 0)))) ∧
    goesOn (exec (.cmp later 1 1 2) ((coreState (regs 7#32 3#32) (wordR 0x0F 0 1 2)))) ∧
    goesOn (exec (.cmpi later 1 1 (9#16)) ((coreState (regs 7#32 3#32) (wordI 0x1F 0 1 9#16)))) :=
  ⟨goes ((h.1.1 (coreState (regs 7#32 3#32) (wordR 0x01 3 1 2)) later 1 3 1 2) _ (List.mem_of_getElem? (i := 0) rfl) ⟨by decide +kernel, by decide +kernel⟩),
   goes ((h.1.2.1 (coreState (regs 7#32 3#32) (wordR 0x0C 3 1 2)) later 1 3 1 2 (by decide +kernel)) _ (List.mem_of_getElem? (i := 0) rfl) ⟨by decide +kernel, by decide +kernel⟩),
   goes ((h.1.2.2.1 (coreState (regs 7#32 3#32) (wordI 0x11 3 1 9#16)) later 1 3 1 9#16 0) _ (List.mem_of_getElem? (i := 0) rfl) ⟨by decide +kernel, by decide +kernel⟩),
   goes (h.1.2.2.2.1 (coreState (regs 7#32 3#32) (wordI 0x20 3 0 9#16)) later 1 3 9#16 ⟨by decide +kernel, by decide +kernel⟩),
   goes (h.1.2.2.2.2 (coreState (regs 7#32 3#32) (wordR 0x45 0 0 0)) later 1 ⟨by decide +kernel, by decide +kernel⟩),
   goes (h.2.1 (coreState (regs 7#32 3#32) (wordR 0x0F 0 1 2)) later 1 1 2 7#32 3#32 (by decide +kernel) (by decide +kernel) ⟨by decide +kernel, by decide +kernel⟩),
   goes (h.2.2 (coreState (regs 7#32 3#32) (wordI 0x1F 0 1 9#16)) later 1 1 9#16 7#32 9#32 (by decide +kernel) (by decide +kernel) ⟨by decide +kernel, by decide +kernel⟩)⟩

theorem witness_CoreMemory (h : Obligations.CoreMemory) :
    goesOn (exec (.ldw later 1 3 1 9#16) (coreState (regs 7#32 3#32) (wordI 0x21 3 1 9#16))) ∧
    goesOn (exec (.stw later 1 3 1 9#16) (coreState (regs 7#32 3#32) (wordI 0x26 3 1 9#16))) ∧
    goesOn (exec (.xchg later 1 3 1 2) ((coreState (regs 16#32 3#32) (wordR 0x29 3 1 2)))) :=
  ⟨goes ((h.1 (coreState (regs 7#32 3#32) (wordI 0x21 3 1 9#16)) later 1 3 1 9#16 16 (localBase 1 + 16) (by decide +kernel)) _ (List.mem_of_getElem? (i := 0) rfl) ⟨by decide +kernel, by decide +kernel⟩ (by decide +kernel) (by decide +kernel) (by decide +kernel)),
   goes ((h.2.1 (coreState (regs 7#32 3#32) (wordI 0x26 3 1 9#16)) later 1 3 1 9#16 16 (localBase 1 + 16) (by decide +kernel)) _ (List.mem_of_getElem? (i := 0) rfl) ⟨by decide +kernel, by decide +kernel⟩ (by decide +kernel) (by decide +kernel)),
   goes (h.2.2 (coreState (regs 16#32 3#32) (wordR 0x29 3 1 2)) later 1 3 1 2 16 (localBase 1 + 16) (by decide +kernel) ⟨by decide +kernel, by decide +kernel⟩ (by decide +kernel) (by decide +kernel) (by decide +kernel))⟩

theorem witness_CoreControl (h : Obligations.CoreControl) :
    goesOn (exec (.b later 1 0 (5#20)) ((coreState (regs 7#32 3#32) (wordB 0 5#20)))) ∧
    goesOn (exec (.b later 1 1 (5#20)) ((coreState (regs 7#32 3#32) (wordB 1 5#20)))) ∧
    goesOn (exec (.call later 1 (5#24)) ((coreState (regs 7#32 3#32) (wordJ 5#24)))) ∧
    goesOn (exec (.jr later 1 1) ((coreState (regs 7#32 3#32) (wordR 0x32 0 1 0)))) ∧
    goesOn (exec (.jalr later 1 1 1) ((coreState (regs 7#32 3#32) (wordR 0x33 1 1 0)))) ∧
    goesOn (exec (.jr later 1 1) ((coreState (regs endAddress 3#32) (wordR 0x32 0 1 0)))) :=
  ⟨⟨_, h.1.1 (coreState (regs 7#32 3#32) (wordB 0 5#20)) later 1 0 5#20 ⟨by decide +kernel, by decide +kernel⟩ (by decide +kernel) (by decide +kernel)⟩,
   ⟨_, h.1.2.1 (coreState (regs 7#32 3#32) (wordB 1 5#20)) later 1 1 5#20 ⟨by decide +kernel, by decide +kernel⟩ (by decide +kernel)⟩,
   ⟨_, h.1.2.2.1 (coreState (regs 7#32 3#32) (wordJ 5#24)) later 1 5#24 ⟨by decide +kernel, by decide +kernel⟩ (by decide +kernel)⟩,
   ⟨_, h.1.2.2.2.1 (coreState (regs 7#32 3#32) (wordR 0x32 0 1 0)) later 1 1 ⟨by decide +kernel, by decide +kernel⟩ (by decide +kernel)⟩,
   ⟨_, h.1.2.2.2.2 (coreState (regs 7#32 3#32) (wordR 0x33 1 1 0)) later 1 1 1 ⟨by decide +kernel, by decide +kernel⟩ (by decide +kernel)⟩,
   ⟨_, h.2 (coreState (regs endAddress 3#32) (wordR 0x32 0 1 0)) later 1 1 ⟨by decide +kernel, by decide +kernel⟩ (by decide +kernel) (by decide +kernel) (by decide +kernel)⟩⟩

theorem witness_CoreSystemAndExceptions (h : Obligations.CoreSystemAndExceptions) :
    goesOn (exec (.mfs later 1 3 (7#16)) ((coreState (regs 7#32 3#32) (wordI 0x40 3 0 7#16)))) ∧
    goesOn (exec (.mts later 1 0 1) ((coreState (regs 7#32 3#32) (wordI 0x41 0 1 0)))) ∧
    goesOn (exec (.mts later 1 7 1) ((coreState (regs 7#32 3#32) (wordI 0x41 0 1 7)))) ∧
    goesOn (exec (.reti later 1) ((coreState { psr := 0x80#32, fepsr := 1#32 } (wordR 0x42 0 0 0)))) ∧
    goesOn (exec (.reti later 1) ((coreState { psr := 0x60#32, fastEvent := some 9 } (wordR 0x42 0 0 0)))) ∧
    goesOn (exec (.reti later 1) ((coreState { psr := 0x40#32 } (wordR 0x42 0 0 0)))) ∧
    goesOn (exec (.illegalInstruction later 1) (coreState (regs 7#32 3#32) 0#32)) ∧
    goesOn (exec (.mfs later 1 3 99#16) (coreState (regs 7#32 3#32) (wordI 0x40 3 0 99#16))) ∧
    goesOn (exec (.reti later 1) (coreState (regs 7#32 3#32) (wordR 0x42 0 0 0))) ∧
    goesOn (exec (.ldw later 1 3 1 0#16) (coreState (regs 7#32 3#32) (wordI 0x21 3 1 0#16))) ∧
    goesOn (exec (.ldw later 1 3 1 9#16) (flipped 16 (coreState (regs 7#32 3#32) (wordI 0x21 3 1 9#16)))) ∧
    goesOn (exec (.stw later 1 3 1 0#16) (coreState (regs 0x80000000#32 0#32) (wordI 0x26 3 1 0#16))) ∧
    goesOn (exec (.fetchFault later 1) (coreState { pc := 2#32 } 0#32)) ∧
    goesOn (exec (.div later 1 3 1 2) (coreState (regs 7#32 0#32) (wordR 0x0C 3 1 2))) ∧
    goesOn (exec (.trap later 1 5#16) (coreState (regs 7#32 3#32) (wordI 0x43 0 0 5#16))) :=
  ⟨goes (h.1.1 (coreState (regs 7#32 3#32) (wordI 0x40 3 0 7#16)) later 1 3 7#16 0#32 ⟨by decide +kernel, by decide +kernel⟩ (by decide +kernel)),
   ⟨_, h.1.2.1 (coreState (regs 7#32 3#32) (wordI 0x41 0 1 0)) later 1 1 ⟨by decide +kernel, by decide +kernel⟩⟩,
   ⟨_, h.1.2.2.1 (coreState (regs 7#32 3#32) (wordI 0x41 0 1 7)) later 1 1 ⟨by decide +kernel, by decide +kernel⟩⟩,
   ⟨_, h.1.2.2.2.1 (coreState { psr := 0x80#32, fepsr := 1#32 } (wordR 0x42 0 0 0)) later 1 ⟨by decide +kernel, by decide +kernel⟩ (by decide +kernel)⟩,
   ⟨_, h.1.2.2.2.2.1 (coreState { psr := 0x60#32, fastEvent := some 9 } (wordR 0x42 0 0 0)) later 1 ⟨by decide +kernel, by decide +kernel⟩ (by decide +kernel) (by decide +kernel) (by decide +kernel) (by decide +kernel)⟩,
   ⟨_, h.1.2.2.2.2.2 (coreState { psr := 0x40#32 } (wordR 0x42 0 0 0)) later 1 ⟨by decide +kernel, by decide +kernel⟩ (by decide +kernel) (by decide +kernel) (by decide +kernel) (by decide +kernel)⟩,
   goes ((h.2 (coreState (regs 7#32 3#32) 0#32) later 1 (by decide +kernel) (by decide +kernel)).1 0#32 (by decide +kernel) (by decide +kernel) (by decide +kernel)),
   goes ((h.2 (coreState (regs 7#32 3#32) (wordI 0x40 3 0 99#16)) later 1 (by decide +kernel) (by decide +kernel)).2.1 3 99#16 ⟨by decide +kernel, by decide +kernel⟩ (by decide +kernel)),
   goes ((h.2 (coreState (regs 7#32 3#32) (wordR 0x42 0 0 0)) later 1 (by decide +kernel) (by decide +kernel)).2.2.1 ⟨by decide +kernel, by decide +kernel⟩ (by decide +kernel) (by decide +kernel)),
   goes ((h.2 (coreState (regs 7#32 3#32) (wordI 0x21 3 1 0#16)) later 1 (by decide +kernel) (by decide +kernel)).2.2.2.1 3 1 0#16 7 (by decide +kernel)|>.1 _ (List.mem_of_getElem? (i := 0) rfl) ⟨by decide +kernel, by decide +kernel⟩ (by decide +kernel)),
   goes ((h.2 (flipped 16 (coreState (regs 7#32 3#32) (wordI 0x21 3 1 9#16))) later 1 (by decide +kernel) (by decide +kernel)).2.2.2.1 3 1 9#16 16 (by decide +kernel)|>.2.1 _ (List.mem_of_getElem? (i := 0) rfl) (localBase 1 + 16) (localBase 1 + 16) ⟨by decide +kernel, by decide +kernel⟩ (by decide +kernel) (by decide +kernel) (by decide +kernel)),
   goes ((h.2 (coreState (regs 0x80000000#32 0#32) (wordI 0x26 3 1 0#16)) later 1 (by decide +kernel) (by decide +kernel)).2.2.2.1 3 1 0#16 0x80000000 (by decide +kernel)|>.2.2 _ (List.mem_of_getElem? (i := 0) rfl) ⟨by decide +kernel, by decide +kernel⟩ (by decide +kernel) (by decide +kernel)),
   goes ((h.2 (coreState { pc := 2#32 } 0#32) later 1 (by decide +kernel) (by decide +kernel)).2.2.2.2.1 (by decide +kernel) (by decide +kernel)),
   goes ((h.2 (coreState (regs 7#32 0#32) (wordR 0x0C 3 1 2)) later 1 (by decide +kernel) (by decide +kernel)).2.2.2.2.2.1 3 1 2 (by decide +kernel) _ (List.mem_of_getElem? (i := 0) rfl) ⟨by decide +kernel, by decide +kernel⟩),
   goes ((h.2 (coreState (regs 7#32 3#32) (wordI 0x43 0 0 5#16)) later 1 (by decide +kernel) (by decide +kernel)).2.2.2.2.2.2 5#16 ⟨by decide +kernel, by decide +kernel⟩)⟩

theorem witness_CoreReadsAndWritesObjects (h : Obligations.CoreReadsAndWritesObjects) :
    goesOn (exec (.odr later 1 3 1 (0#16)) ((coreState (regs 0x200101#32 3#32) (wordI 0x50 3 1 0#16)))) ∧
    goesOn (exec (.odr later 1 3 1 (0#16)) ((coreState (regs 0x0F0101#32 3#32) (wordI 0x50 3 1 0#16)))) ∧
    goesOn (exec (.odw later 1 1 2) ((coreState (regs 7#32 0x1230005#32) (wordR 0x51 0 1 2)))) ∧
    goesOn (exec (.odw later 1 1 2) ((coreState (regs 1#32 0x300004#32) (wordR 0x51 0 1 2)))) ∧
    goesOn (exec (.odw later 1 1 2) ((coreState (regs 1#32 0x200101#32) (wordR 0x51 0 1 2)))) :=
  ⟨⟨_, h.1 (coreState (regs 0x200101#32 3#32) (wordI 0x50 3 1 0#16)) later 1 3 1 0#16 0x200101#32 _ _ ⟨by decide +kernel, by decide +kernel⟩ (by decide +kernel) rfl⟩,
   ⟨_, h.2.1 (coreState (regs 0x0F0101#32 3#32) (wordI 0x50 3 1 0#16)) later 1 3 1 0#16 0x0F0101#32 ⟨by decide +kernel, by decide +kernel⟩ (by decide +kernel) (by decide +kernel) (by decide +kernel)⟩,
   ⟨_, h.2.2.1 (coreState (regs 7#32 0x1230005#32) (wordR 0x51 0 1 2)) later 1 1 2 _ ⟨by decide +kernel, by decide +kernel⟩ rfl (by decide +kernel)⟩,
   ⟨_, h.2.2.2.1 (coreState (regs 1#32 0x300004#32) (wordR 0x51 0 1 2)) later 1 1 2 _ _ ⟨by decide +kernel, by decide +kernel⟩ rfl (by decide +kernel) (by decide +kernel) rfl rfl⟩,
   ⟨_, h.2.2.2.2 (coreState (regs 1#32 0x200101#32) (wordR 0x51 0 1 2)) later 1 1 2 _ _ ⟨by decide +kernel, by decide +kernel⟩ rfl (by decide +kernel) (by decide +kernel) rfl⟩⟩

theorem witness_CoreQueues (h : Obligations.CoreQueues) :
    goesOn (exec (.qput later 1 1 2) ((coreState (regs 5#32 64#32) (wordR 0x52 0 1 2)))) ∧
    goesOn (exec (.qput later 1 1 2) ((coreState (regs 5#32 64#32) (wordR 0x52 0 1 2)))) ∧
    goesOn (exec (.qput later 1 1 2) ((flipped 64 (coreState (regs 5#32 64#32) (wordR 0x52 0 1 2))))) ∧
    goesOn (exec (.qget later 1 1 2) (({ coreState (regs 5#32 64#32) (wordR 0x53 0 1 2) with queues := [(5, some { capacity := 4, entries := [] })] } : State))) ∧
    goesOn (exec (.qget later 1 1 2) (({ coreState (regs 5#32 64#32) (wordR 0x53 0 1 2) with queues := [(5, some { capacity := 4, entries := [{ stamp := 1, tag := 2, kind := 0x80, flags := 0, seq := 0, payload := zeroBytes 16, writtenAt := 0 }] })] } : State))) ∧
    goesOn (exec (.qget later 1 1 2) ((coreState (regs 5#32 65#32) (wordR 0x53 0 1 2)))) :=
  ⟨⟨_, (by refine h.1 (coreState (regs 5#32 64#32) (wordR 0x52 0 1 2)) later 1 1 2 64 ⟨by decide +kernel, by decide +kernel⟩ ?_ ?_ ?_ ?_ ?_ <;> decide +kernel)⟩,
   ⟨_, h.2.1 (coreState (regs 5#32 64#32) (wordR 0x52 0 1 2)) later 1 1 2 64 _ _ ⟨by decide +kernel, by decide +kernel⟩ (by decide +kernel) (by decide +kernel) (by decide +kernel) (by decide +kernel) rfl rfl⟩,
   goes ((by refine h.2.2.1 (flipped 64 (coreState (regs 5#32 64#32) (wordR 0x52 0 1 2))) later 1 1 2 64 (localBase 1 + 64) ⟨by decide +kernel, by decide +kernel⟩ ?_ ?_ ?_ ?_ ?_ ?_ <;> decide +kernel)),
   ⟨_, h.2.2.2.1 ({ coreState (regs 5#32 64#32) (wordR 0x53 0 1 2) with queues := [(5, some { capacity := 4, entries := [] })] } : State) later 1 1 2 64 _ ⟨by decide +kernel, by decide +kernel⟩ (by decide +kernel) (by decide +kernel) (by decide +kernel) rfl rfl⟩,
   goes (h.2.2.2.2.1 ({ coreState (regs 5#32 64#32) (wordR 0x53 0 1 2) with queues := [(5, some { capacity := 4, entries := [{ stamp := 1, tag := 2, kind := 0x80, flags := 0, seq := 0, payload := zeroBytes 16, writtenAt := 0 }] })] } : State) later 1 1 2 64 _ { stamp := 1, tag := 2, kind := 0x80, flags := 0, seq := 0, payload := zeroBytes 16, writtenAt := 0 } [] ⟨by decide +kernel, by decide +kernel⟩ (by decide +kernel) (by decide +kernel) (by decide +kernel) rfl rfl (by decide +kernel)),
   goes (h.2.2.2.2.2 (coreState (regs 5#32 65#32) (wordR 0x53 0 1 2)) later 1 1 2 ⟨by decide +kernel, by decide +kernel⟩ (by decide +kernel) (by decide +kernel) (by decide +kernel))⟩

theorem witness_CoreWaitsAndBudget (h : Obligations.CoreWaitsAndBudget) :
    goesOn (exec (.waite later 1 3 1) ((coreState (regs 5#32 0#32) (wordR 0x54 3 1 0)))) ∧
    goesOn (exec (.waite later 1 3 1) ((coreState { regs 5#32 0#32 with psr := 0x20#32, fastEvent := some 9 } (wordR 0x54 3 1 0)))) ∧
    goesOn (exec (.waite later 1 3 1) ((coreState (regs 5#32 0#32) (wordR 0x54 3 1 0)))) ∧
    goesOn (exec (.waiteTimeout later 1) (((coreState (regs 5#32 0#32) 0#32).setCore 1 { stage := .waiting, wait := some (.program, 3, some 1500000) }))) ∧
    goesOn (exec (.ecmp later 1 1) (((coreState (regs 5#32 0#32) (wordR 0x55 0 1 0)).setSource 5 { stage := .service, holder := some 1, pending := 1 }))) ∧
    goesOn (exec (.ecmp later 1 1) (((coreState (regs 5#32 0#32) (wordR 0x55 0 1 0)).setSource 5 { stage := .service, holder := some 1 }))) ∧
    goesOn (exec (.ecmp later 1 1) ((coreState (regs 5#32 0#32) (wordR 0x55 0 1 0)))) ∧
    goesOn (exec (.ecmp later 1 1) ((coreState (regs 1024#32 0#32) (wordR 0x55 0 1 0)))) ∧
    goesOn (exec (.breq later 1 3 1) ((coreState (regs 5#32 0#32) (wordR 0x56 3 1 0)))) ∧
    goesOn (exec (.breq later 1 3 1) (({ coreState { regs 5#32 0#32 with step := some 0 } (wordR 0x56 3 1 0) with gov := { bucket := 100 } } : State))) ∧
    goesOn (exec (.breq later 1 3 1) (({ coreState { regs 5#32 0#32 with step := some 0 } (wordR 0x56 3 1 0) with gov := { bucket := 1 } } : State))) ∧
    goesOn (exec (.tsr later 1 3 0) ((coreState {} (wordI 0x57 3 0 0)))) ∧
    goesOn (exec (.tsr later 1 3 1) ((coreState { tsr := some 7#32 } (wordI 0x57 3 0 1)))) :=
  ⟨⟨_, h.1.1 (coreState (regs 5#32 0#32) (wordR 0x54 3 1 0)) later 1 3 1 ⟨by decide +kernel, by decide +kernel⟩ (by decide +kernel) (by decide +kernel)⟩,
   ⟨_, h.1.2.1 (coreState { regs 5#32 0#32 with psr := 0x20#32, fastEvent := some 9 } (wordR 0x54 3 1 0)) later 1 3 1 9 ⟨by decide +kernel, by decide +kernel⟩ (by decide +kernel) (by decide +kernel) (by decide +kernel)⟩,
   ⟨_, h.1.2.2.1 (coreState (regs 5#32 0#32) (wordR 0x54 3 1 0)) later 1 3 1 ⟨by decide +kernel, by decide +kernel⟩ (by decide +kernel) (by decide +kernel) (by decide +kernel)⟩,
   ⟨_, h.1.2.2.2.1 ((coreState (regs 5#32 0#32) 0#32).setCore 1 { stage := .waiting, wait := some (.program, 3, some 1500000) }) later 1 .program 3 1500000 (by decide +kernel) (by decide +kernel)⟩,
   ⟨_, h.1.2.2.2.2.1 ((coreState (regs 5#32 0#32) (wordR 0x55 0 1 0)).setSource 5 { stage := .service, holder := some 1, pending := 1 }) later 1 1 5 ⟨by decide +kernel, by decide +kernel⟩ (by decide +kernel) (by decide +kernel) (by decide +kernel) (by decide +kernel)⟩,
   ⟨_, (by refine h.1.2.2.2.2.2.1 ((coreState (regs 5#32 0#32) (wordR 0x55 0 1 0)).setSource 5 { stage := .service, holder := some 1 }) later 1 1 5 ⟨by decide +kernel, by decide +kernel⟩ ?_ ?_ ?_ ?_ ?_ ?_ <;> decide +kernel)⟩,
   ⟨_, h.1.2.2.2.2.2.2.1 (coreState (regs 5#32 0#32) (wordR 0x55 0 1 0)) later 1 1 5 ⟨by decide +kernel, by decide +kernel⟩ (by decide +kernel) (by decide +kernel) (by decide +kernel)⟩,
   goes (h.1.2.2.2.2.2.2.2 (coreState (regs 1024#32 0#32) (wordR 0x55 0 1 0)) later 1 1 ⟨by decide +kernel, by decide +kernel⟩ (by decide +kernel) (by decide +kernel) (by decide +kernel)),
   ⟨_, h.2.1 (coreState (regs 5#32 0#32) (wordR 0x56 3 1 0)) later 1 3 1 ⟨by decide +kernel, by decide +kernel⟩ (by decide +kernel)⟩,
   goes ((by refine h.2.2.1 ({ coreState { regs 5#32 0#32 with step := some 0 } (wordR 0x56 3 1 0) with gov := { bucket := 100 } } : State) later 1 3 1 0 5 ⟨by decide +kernel, by decide +kernel⟩ ?_ ?_ ?_ ?_ ?_ <;> decide +kernel)),
   ⟨_, (by refine h.2.2.2.1 ({ coreState { regs 5#32 0#32 with step := some 0 } (wordR 0x56 3 1 0) with gov := { bucket := 1 } } : State) later 1 3 1 0 5 ⟨by decide +kernel, by decide +kernel⟩ ?_ ?_ ?_ ?_ ?_ ?_ <;> decide +kernel)⟩,
   ⟨_, h.2.2.2.2.1 (coreState {} (wordI 0x57 3 0 0)) later 1 3 ⟨by decide +kernel, by decide +kernel⟩⟩,
   ⟨_, h.2.2.2.2.2 (coreState { tsr := some 7#32 } (wordI 0x57 3 0 1)) later 1 3 7#32 ⟨by decide +kernel, by decide +kernel⟩ (by decide +kernel)⟩⟩

theorem witness_CoresAreSupervised (h : Obligations.CoresAreSupervised) :
    goesOn (exec (.normalEntry later 1) ((coreState { normalEvent := some 5, psr := putFlag 0#32 flagNE true } 0#32))) ∧
    goesOn (exec (.fastEntry later 1) ((coreState { fastEvent := some 5, psr := putFlag 0#32 flagFE true } 0#32))) ∧
    goesOn (exec (.normalEntry later 1) ((coreState { psr := putFlag 0#32 flagFA true } 0#32))) ∧
    goesOn (exec (.coreStart later host 1) (((device .run [(clsCycle, 0)]).setCore 1 { lastSess := 0 }))) ∧
    goesOn (exec (.coreStop later host 1) (((device .run [(clsCycle, 0)]).setCore 1 { stage := .program }))) ∧
    goesOn (exec (.coreReset later host 1) (((device .run [(clsCycle, 0)]).setCore 1 { stage := .program }))) ∧
    goesOn (exec (.localMemoryWrite later host 1 ([1, 2, 3, 4])) (((device .run [(clsCycle, 0)]).setCore 1 { lastSess := 0 }))) ∧
    goesOn (exec (.coreStart later host 0) ((device .run [(clsCycle, 0)]))) ∧
    goesOn (exec (.scrubberStallCheck later) ((device .run []))) ∧
    goesOn (exec (.scrubberStallCheck 1000000000) ((device .run []))) :=
  ⟨⟨_, (by refine h.1.1 (coreState { normalEvent := some 5, psr := putFlag 0#32 flagNE true } 0#32) later 1 5 ?_ ?_ ?_ ?_ ?_ <;> decide +kernel)⟩,
   ⟨_, h.1.2.1 (coreState { fastEvent := some 5, psr := putFlag 0#32 flagFE true } 0#32) later 1 5 (by decide +kernel) (by decide +kernel) (by decide +kernel) (by decide +kernel)⟩,
   ⟨_, (h.1.2.2 (coreState { psr := putFlag 0#32 flagFA true } 0#32) later 1 (by decide +kernel)).1⟩,
   (by obtain ⟨x, u, w, _⟩ := h.2.1.1 ((device .run [(clsCycle, 0)]).setCore 1 { lastSess := 0 }) later host 1 (cardAt 0x2511 2) (takes (by decide +kernel)) (by decide +kernel) (by decide +kernel) (by decide +kernel) (by decide +kernel); exact ⟨_, w⟩),
   ⟨_, h.2.1.2.1 ((device .run [(clsCycle, 0)]).setCore 1 { stage := .program }) later host 1 (cardAt 0x2511 2) (takes (by decide +kernel)) (by decide +kernel) (by decide +kernel) (by decide +kernel) (by decide +kernel)⟩,
   ⟨_, h.2.1.2.2.1 ((device .run [(clsCycle, 0)]).setCore 1 { stage := .program }) later host 1 (cardAt 0x2511 2) (takes (by decide +kernel)) (by decide +kernel) (by decide +kernel) (by decide +kernel) (by decide +kernel)⟩,
   ⟨_, h.2.1.2.2.2.1 ((device .run [(clsCycle, 0)]).setCore 1 { lastSess := 0 }) later host 1 [1, 2, 3, 4] (cardAt 0x2511 5) (takesBytes (by decide +kernel)) (by decide +kernel) (by decide +kernel) (by decide +kernel)⟩,
   ⟨_, h.2.1.2.2.2.2 (device .run [(clsCycle, 0)]) later host (cardAt 0x2510 2) (takes (by decide +kernel))⟩,
   ⟨_, h.2.2.1 (device .run []) later (by decide +kernel)⟩,
   goes (h.2.2.2 (device .run []) 1000000000 (by decide +kernel) (by decide +kernel) (by decide +kernel))⟩

theorem witness_EventsAreCommitted (h : Obligations.EventsAreCommitted) :
    goesOn (exec (.eventTimeLimit later 0) ((sourceState { stage := .pending, pending := 1, first := 1999000 }))) ∧
    goesOn (exec (.eventCommit later 0) ((sourceState { stage := .due, pending := 1 }))) ∧
    goesOn (exec (.eventCommit later 0) (((((device .run []).setOwn 0 0x2401 0x10 1).setQueue (eventQueue 0) (some { capacity := 128 })).setSource 0 { stage := .due, pending := 1 }))) ∧
    goesOn (exec (.eventCommit later 0) (((device .run []).setSource 0 { stage := .due, pending := 1 }))) ∧
    goesOn (exec (.levelVanished later 0) ((sourceState { stage := .service, level := true, pending := 1 }))) ∧
    goesOn (exec (.levelVanished later 0) (((device .run []).setPort 0 { filter := { level := true } }))) ∧
    goesOn (exec (.sessionCompletion later host 0) ((sourceState { stage := .service, holder := some 8 }))) ∧
    goesOn (exec (.sessionCompletion later host 0) ((sourceState {}))) :=
  ⟨goes (h.1 (sourceState { stage := .pending, pending := 1, first := 1999000 }) later 0 (by decide +kernel) (by decide +kernel) (by decide +kernel)),
   goes (h.2.1.1 (sourceState { stage := .due, pending := 1 }) later 0 1 (by decide +kernel) (by decide +kernel) (by decide +kernel) (by decide +kernel) (onlyDue (by decide +kernel))),
   ⟨_, h.2.1.2.1 ((((device .run []).setOwn 0 0x2401 0x10 1).setQueue (eventQueue 0) (some { capacity := 128 })).setSource 0 { stage := .due, pending := 1 }) later 0 8 (by decide +kernel) (by decide +kernel) (by decide +kernel) (by decide +kernel) (onlyDue (by decide +kernel))⟩,
   ⟨_, h.2.1.2.2 ((device .run []).setSource 0 { stage := .due, pending := 1 }) later 0 (by decide +kernel)⟩,
   ⟨_, (by refine h.2.2.1 (sourceState { stage := .service, level := true, pending := 1 }) later 0 ?_ ?_ ?_ ?_ ?_ <;> decide +kernel)⟩,
   ⟨_, h.2.2.2.1 ((device .run []).setPort 0 { filter := { level := true } }) later 0 (by decide +kernel)⟩,
   goesA ((by refine h.2.2.2.2.1 (sourceState { stage := .service, holder := some 8 }) later host 0 0 (cardAt 0x2401 2) (takes (by decide +kernel)) ?_ ?_ ?_ ?_ ?_ <;> decide +kernel)),
   ⟨_, h.2.2.2.2.2 (sourceState {}) later host 0 0 (cardAt 0x2401 2) (takes (by decide +kernel)) (by decide +kernel) (by decide +kernel)⟩⟩

theorem witness_ControllerSettings (h : Obligations.ControllerSettings) :
    goesOn (exec (.sourceConfigurationWrite later host 0 0x10) ((sourceState {}))) ∧
    goesOn (exec (.sourceConfigurationWrite later host 0 0) ((sourceState {}))) ∧
    goesOn (exec (.subscriptionWrite later host 0 5) ((sourceState {}))) ∧
    goesOn (exec (.booksSelect later host 0) ((sourceState {}))) :=
  ⟨goesA (h.1 (sourceState {}) later host 0 0x10 (cardAt 0x2410 1) 0x10 (takes (by decide +kernel)) (by decide +kernel) (by decide +kernel) (by decide +kernel) (by decide +kernel)),
   ⟨_, h.2.1 (sourceState {}) later host 0 0 (cardAt 0x2410 1) 0 (takes (by decide +kernel)) (by decide +kernel) (by decide +kernel)⟩,
   goesA (h.2.2.1 (sourceState {}) later host 0 5 (cardAt 0x2401 0x10) 5 (takes (by decide +kernel)) (by decide +kernel) (by decide +kernel)),
   goesA (h.2.2.2 (sourceState {}) later host 0 0 (cardAt 0x2401 3) (takes (by decide +kernel)) (by decide +kernel))⟩

theorem witness_ReferenceAndLock (h : Obligations.ReferenceAndLock) :
    goesOn (exec (.referenceLost later true) ((syncState {}))) ∧
    goesOn (exec (.referenceLost later true) (({ device .run [] with timebase := {} } : State))) ∧
    goesOn (exec (.referenceLocked later 0) (({ device .run [] with timebase := { calendarLost := false, calendar := some 77 } } : State))) ∧
    goesOn (exec (.holdoverExpired later) (({ device .run [] with timebase := { holdover := true, lostAt := 5 } } : State))) ∧
    goesOn (exec (.referenceLocked later 0) (({ device .run [] with timebase := { everLocked := true } } : State))) ∧
    goesOn (exec (.lockHeld 1000000000) (({ syncState { lockedAt := 0 } with mode := .hold, power := { State.reset.power with causes := [.referenceLost] } } : State))) :=
  ⟨goes ((by refine h.1 (syncState {}) later true ?_ ?_ ?_ ?_ ?_ (noWaiting_of (by decide +kernel)) <;> decide +kernel)),
   goes (h.2.1 ({ device .run [] with timebase := {} } : State) later true (by decide +kernel) (by decide +kernel) (by decide +kernel) (unselected_of (by decide +kernel))),
   goes ((by refine h.2.2.1 ({ device .run [] with timebase := { calendarLost := false, calendar := some 77 } } : State) later 0 77 ?_ ?_ ?_ ?_ ?_ ?_ (unselected_of (by decide +kernel)) (unselected_of (by decide +kernel)) <;> decide +kernel)),
   ⟨_, h.2.2.2.1 ({ device .run [] with timebase := { holdover := true, lostAt := 5 } } : State) later (by decide +kernel) (by decide +kernel)⟩,
   goes ((by refine h.2.2.2.2.1 ({ device .run [] with timebase := { everLocked := true } } : State) later 0 ?_ ?_ ?_ ?_ ?_ <;> decide +kernel)),
   goes (h.2.2.2.2.2 ({ syncState { lockedAt := 0 } with mode := .hold, power := { State.reset.power with causes := [.referenceLost] } } : State) 1000000000 (by decide +kernel) (by decide +kernel) (by decide +kernel) (by decide +kernel))⟩

theorem witness_SyncAndTriggerOutputs (h : Obligations.SyncAndTriggerOutputs) :
    goesOn (exec (.epochWrite later host 5) ((syncState {}))) ∧
    goesOn (exec (.syncOutputCommand later host 1) ((syncState {}))) ∧
    goesOn (exec (.syncOutputEdge later) ((syncState { syncEdges := [1500000] }))) ∧
    goesOn (exec (.syncOutputEdge later) ((syncState { syncEdges := [1500000], syncHigh := some 2499990 }))) ∧
    goesOn (exec (.syncPulseEnd later) ((syncState { syncHigh := some 1499990 }))) ∧
    goesOn (exec (.triggerOutputCommand later host 0 1) ((trigState {}))) ∧
    goesOn (exec (.triggerOutputTimer later 0) (((trigState { nextTimer := some 1500000 }).setObj 0x2310 1 0x3000))) ∧
    goesOn (exec (.triggerOutputRise later 0) ((trigState { waiting := [{ stamp := 5, command := true, arrived := 5 }] }))) ∧
    goesOn (exec (.triggerOutputRise later 0) ((trigState { waiting := [{ stamp := 1999999, command := true, arrived := 1999999 }] }))) ∧
    goesOn (exec (.triggerOutputFall later 0) ((trigState { highUntil := some 1500000 }))) :=
  ⟨⟨_, h.1.1 (syncState {}) later host 5 (cardAt 0x2300 5) 5 (takes (by decide +kernel)) (by decide +kernel)⟩,
   ⟨_, h.1.2.1 (syncState {}) later host (cardAt 0x2300 7) (takes (by decide +kernel)) (by decide +kernel)⟩,
   goes ((by refine h.1.2.2.1 (syncState { syncEdges := [1500000] }) later 1500000 [] ?_ ?_ ?_ ?_ ?_ ?_ <;> decide +kernel)),
   ⟨_, (by refine h.1.2.2.2.1 (syncState { syncEdges := [1500000], syncHigh := some 2499990 }) later 1500000 [] 2499990 ?_ ?_ ?_ ?_ ?_ ?_ (unselected_of (by decide +kernel)) <;> decide +kernel)⟩,
   ⟨_, h.1.2.2.2.2 (syncState { syncHigh := some 1499990 }) later 1499990 (by decide +kernel)⟩,
   ⟨_, h.2.1 (trigState {}) later host 0 (cardAt 0x2310 5) (takes (by decide +kernel)) (by decide +kernel) (by decide +kernel) (by decide +kernel)⟩,
   goes ((by refine h.2.2.1 ((trigState { nextTimer := some 1500000 }).setObj 0x2310 1 0x3000) later 0 1500000 ?_ ?_ ?_ ?_ ?_ <;> decide +kernel)),
   goes ((by refine h.2.2.2.1 (trigState { waiting := [{ stamp := 5, command := true, arrived := 5 }] }) later 0 { stamp := 5, command := true, arrived := 5 } [] ?_ ?_ ?_ ?_ ?_ <;> decide +kernel)),
   ⟨_, h.2.2.2.2.1 (trigState { waiting := [{ stamp := 1999999, command := true, arrived := 1999999 }] }) later 0 { stamp := 1999999, command := true, arrived := 1999999 } [] (by decide +kernel) (by decide +kernel) (by decide +kernel) (by decide +kernel)⟩,
   ⟨_, h.2.2.2.2.2 (trigState { highUntil := some 1500000 }) later 0 1500000 (by decide +kernel)⟩⟩

theorem witness_QueueWindows (h : Obligations.QueueWindows) :
    goesOn (exec (.queueCreate later host 5 ((128 + 2 ^ 32))) (((queueState none).setHolder clsQueue 5 none))) ∧
    goesOn (exec (.queueCreate later host 5 ((128 + 2 ^ 32))) (({ (queueState none).setHolder clsQueue 5 none with pantry := { larderReady := true, space := 1048576 } } : State))) ∧
    goesOn (exec (.queueCreate later host 5 ((128 + 2 ^ 32))) ((queueState (some { capacity := 128 })))) ∧
    goesOn (exec (.queueSettingsWrite later host 5 2) ((queueState (some { capacity := 128, larderBacked := true })))) ∧
    goesOn (exec (.queueDelete later host 5) ((queueState (some { capacity := 128 })))) ∧
    goesOn (exec (.queueFlush later host 5) ((queueState (some { capacity := 128, entries := [entryOf 0], written := 1, blocks := [{ filled := 1, held := 1, spilling := false }] })))) ∧
    goesOn (exec (.queueRemove later host 5 ((2 ^ 32))) ((queueState (some { capacity := 128, entries := [entryOf 0], written := 1, blocks := [{ filled := 1, held := 1, spilling := false }] })))) :=
  ⟨⟨_, (by refine h.1 ((queueState none).setHolder clsQueue 5 none) later host 5 (128 + 2 ^ 32) (cardAt 0x4005 2) (128 + 2 ^ 32) 5 (takes (by decide +kernel)) ?_ ?_ ?_ ?_ ?_ ?_ ?_ <;> decide +kernel)⟩,
   ⟨_, (by refine h.2.1 ({ (queueState none).setHolder clsQueue 5 none with pantry := { larderReady := true, space := 1048576 } } : State) later host 5 (128 + 2 ^ 32) (cardAt 0x4005 2) (128 + 2 ^ 32) 5 (takes (by decide +kernel)) ?_ ?_ ?_ ?_ ?_ ?_ ?_ ?_ <;> decide +kernel)⟩,
   ⟨_, (by refine h.2.2.1 (queueState (some { capacity := 128 })) later host 5 (128 + 2 ^ 32) (cardAt 0x4005 2) (128 + 2 ^ 32) 5 { capacity := 128 } (takes (by decide +kernel)) ?_ ?_ ?_ ?_ ?_ <;> decide +kernel)⟩,
   ⟨_, (by refine h.2.2.2.1 (queueState (some { capacity := 128, larderBacked := true })) later host 5 2 (cardAt 0x4005 3) 2 5 { capacity := 128, larderBacked := true } (takes (by decide +kernel)) ?_ ?_ ?_ ?_ ?_ ?_ ?_ ?_ <;> decide +kernel)⟩,
   goesA ((by refine h.2.2.2.2.1 (queueState (some { capacity := 128 })) later host 5 (cardAt 0x4005 4) 5 { capacity := 128 } (takes (by decide +kernel)) ?_ ?_ ?_ ?_ ?_ ?_ <;> decide +kernel)),
   goesA ((by refine h.2.2.2.2.2.1 (queueState (some { capacity := 128, entries := [entryOf 0], written := 1, blocks := [{ filled := 1, held := 1, spilling := false }] })) later host 5 (cardAt 0x4005 4) 5 { capacity := 128, entries := [entryOf 0], written := 1, blocks := [{ filled := 1, held := 1, spilling := false }] } (takes (by decide +kernel)) ?_ ?_ ?_ ?_ ?_ ?_ <;> decide +kernel)),
   (by obtain ⟨y, w, _⟩ := (by refine h.2.2.2.2.2.2 (queueState (some { capacity := 128, entries := [entryOf 0], written := 1, blocks := [{ filled := 1, held := 1, spilling := false }] })) later host 5 (2 ^ 32) (cardAt 0x4005 9) (2 ^ 32) 5 { capacity := 128, entries := [entryOf 0], written := 1, blocks := [{ filled := 1, held := 1, spilling := false }] } (takes (by decide +kernel)) ?_ ?_ ?_ ?_ ?_ ?_ ?_ ?_ ?_ <;> decide +kernel); exact ⟨_, w⟩)⟩

theorem witness_QueuesTakeAndSpillEntries (h : Obligations.QueuesTakeAndSpillEntries) :
    goesOn (exec (.entryWrite later 5 ({ stamp := 1, tag := 2, kind := 0x80, flags := 0, payload := zeroBytes 16 })) ((queueState (some { capacity := 128 })))) ∧
    goesOn (exec (.entryWrite later 5 ({ stamp := 1, tag := 2, kind := 0x80, flags := 0, payload := zeroBytes 16 })) ((queueState (some { capacity := 0 })))) ∧
    goesOn (exec (.entryWrite later 5 ({ stamp := 1, tag := 2, kind := 0x80, flags := 0, payload := zeroBytes 16 })) (((queueState (some { capacity := 128 })).setQueue 7 (some { capacity := 5000000, blocks := List.replicate 12288 { filled := 128, held := 128, spilling := false } })))) ∧
    goesOn (exec (.entryWrite later 6 ({ stamp := 1, tag := 2, kind := 0x80, flags := 0, payload := zeroBytes 16 })) (((streamState (some { queue := 6, sent := 1 }) { capacity := 1, policy := 1, entries := [entryOf 0], written := 1, blocks := [{ filled := 128, held := 1, spilling := false }] }).setQueue 7 (some { capacity := 5000000, blocks := List.replicate 12287 { filled := 128, held := 128, spilling := false } })))) ∧
    goesOn (exec (.entryWrite later 5 ({ stamp := 1, tag := 2, kind := 0x80, flags := 0, payload := zeroBytes 16 })) ((queueState none))) ∧
    goesOn (exec (.entryWrite later 5 ({ stamp := 1, tag := 2, kind := 0x80, flags := 0, payload := zeroBytes 16 })) ((queueState (some { capacity := 1, policy := 1, entries := [entryOf 0], written := 1, blocks := [{ filled := 1, held := 1, spilling := false }] })))) ∧
    goesOn (exec (.entryWrite later 5 ({ stamp := 1, tag := 2, kind := 0x80, flags := 0, payload := zeroBytes 16 })) ((device .wake []))) ∧
    goesOn (exec (.spillStart later) ((queueState (some { capacity := 1280, larderBacked := true, share := 1, blocks := List.replicate 3 { filled := 128, held := 128, spilling := false } })))) ∧
    goesOn (exec (.spillStart later) (({ device .run [] with pantry := { spills := List.replicate 64 none } } : State))) ∧
    goesOn (exec (.spillAck later) (({ queueState (some { capacity := 1280, larderBacked := true, blocks := [{ filled := 128, held := 100, spilling := true }] }) with pantry := { spills := [some 5] } } : State))) :=
  ⟨(by obtain ⟨y, w, _⟩ := (by refine h.1.1 (queueState (some { capacity := 128 })) later 5 { stamp := 1, tag := 2, kind := 0x80, flags := 0, payload := zeroBytes 16 } { capacity := 128 } ?_ ?_ ?_ ?_ ?_ <;> decide +kernel); exact ⟨_, w⟩),
   ⟨_, (by refine h.1.2.1 (queueState (some { capacity := 0 })) later 5 { stamp := 1, tag := 2, kind := 0x80, flags := 0, payload := zeroBytes 16 } { capacity := 0 } ?_ ?_ ?_ ?_ ?_ (unselected_of (by decide +kernel)) <;> decide +kernel)⟩,
   ⟨_, (by refine h.1.2.2.1 ((queueState (some { capacity := 128 })).setQueue 7 (some { capacity := 5000000, blocks := List.replicate 12288 { filled := 128, held := 128, spilling := false } })) later 5 { stamp := 1, tag := 2, kind := 0x80, flags := 0, payload := zeroBytes 16 } { capacity := 128 } ?_ ?_ ?_ ?_ ?_ ?_ (unselected_of (by decide +kernel)) <;> decide +kernel)⟩,
   ⟨_, (by refine h.1.2.2.2.1 ((streamState (some { queue := 6, sent := 1 }) { capacity := 1, policy := 1, entries := [entryOf 0], written := 1, blocks := [{ filled := 128, held := 1, spilling := false }] }).setQueue 7 (some { capacity := 5000000, blocks := List.replicate 12287 { filled := 128, held := 128, spilling := false } })) later 6 { stamp := 1, tag := 2, kind := 0x80, flags := 0, payload := zeroBytes 16 } { capacity := 1, policy := 1, entries := [entryOf 0], written := 1, blocks := [{ filled := 128, held := 1, spilling := false }] } ?_ ?_ ?_ ?_ ?_ ?_ ?_ ?_ (unselected_of (by decide +kernel)) <;> decide +kernel)⟩,
   ⟨_, h.1.2.2.2.2.1 (queueState none) later 5 { stamp := 1, tag := 2, kind := 0x80, flags := 0, payload := zeroBytes 16 } (by decide +kernel) (by decide +kernel) (unselected_of (by decide +kernel))⟩,
   (by obtain ⟨y, w, _⟩ := (by refine h.1.2.2.2.2.2.1 (queueState (some { capacity := 1, policy := 1, entries := [entryOf 0], written := 1, blocks := [{ filled := 1, held := 1, spilling := false }] })) later 5 { stamp := 1, tag := 2, kind := 0x80, flags := 0, payload := zeroBytes 16 } { capacity := 1, policy := 1, entries := [entryOf 0], written := 1, blocks := [{ filled := 1, held := 1, spilling := false }] } (entryOf 0) [] ?_ ?_ ?_ ?_ ?_ ?_ ?_ ?_ <;> decide +kernel); exact ⟨_, w⟩),
   ⟨_, h.1.2.2.2.2.2.2 (device .wake []) later 5 { stamp := 1, tag := 2, kind := 0x80, flags := 0, payload := zeroBytes 16 } (by decide +kernel)⟩,
   ⟨_, (by refine h.2.1 (queueState (some { capacity := 1280, larderBacked := true, share := 1, blocks := List.replicate 3 { filled := 128, held := 128, spilling := false } })) later 5 { capacity := 1280, larderBacked := true, share := 1, blocks := List.replicate 3 { filled := 128, held := 128, spilling := false } } { filled := 128, held := 128, spilling := false } { filled := 128, held := 128, spilling := false } [{ filled := 128, held := 128, spilling := false }] ?_ ?_ ?_ ?_ ?_ ?_ <;> decide +kernel)⟩,
   ⟨_, h.2.2.1 ({ device .run [] with pantry := { spills := List.replicate 64 none } } : State) later (by decide +kernel)⟩,
   ⟨_, (by refine h.2.2.2 ({ queueState (some { capacity := 1280, larderBacked := true, blocks := [{ filled := 128, held := 100, spilling := true }] }) with pantry := { spills := [some 5] } } : State) later 5 [] { capacity := 1280, larderBacked := true, blocks := [{ filled := 128, held := 100, spilling := true }] } { filled := 128, held := 100, spilling := true } [] ?_ ?_ ?_ ?_ ?_ ?_ <;> decide +kernel)⟩⟩

theorem witness_StreamsRun (h : Obligations.StreamsRun) :
    goesOn (exec (.streamOpen later netHost 0 6) ((streamState none { capacity := 128 }))) ∧
    goesOn (exec (.streamClose later netHost 0) ((streamState (some { queue := 6 }) { capacity := 128 }))) ∧
    goesOn (exec (.streamClose later ((.core 1)) 0) ((darkStream (some { queue := 6 })))) ∧
    goesOn (exec (.creditGrant later netHost 0 10) ((streamState (some { queue := 6 }) { capacity := 128 }))) ∧
    goesOn (exec (.streamAcknowledgement later netHost 0 1) ((streamState (some { queue := 6, sent := 1 }) { capacity := 128, entries := [entryOf 0], written := 1, blocks := [{ filled := 1, held := 1, spilling := false }] }))) ∧
    goesOn (exec (.resendRequest later netHost 0 1) ((streamState (some { queue := 6, sent := 1 }) { capacity := 128, entries := [entryOf 0], written := 1, blocks := [{ filled := 1, held := 1, spilling := false }] }))) ∧
    goesOn (exec (.resendTimeout 10000000000 1 0) ((streamState (some { queue := 6, sent := 1 }) { capacity := 128, entries := [entryOf 0], written := 1, blocks := [{ filled := 1, held := 1, spilling := false }] }))) ∧
    goesOn (exec (.datagramSend later 1 0) ((State.setOwn (streamState (some { queue := 6, granted := 5 }) { capacity := 128, entries := [entryOf 0], written := 1, blocks := [{ filled := 1, held := 1, spilling := false }] }) 1 0x2803 0x29 1))) ∧
    goesOn (exec (.datagramSend later 1 0) ((State.setOwn (streamState (some { queue := 6, granted := 5, opened := 1999999 }) { capacity := 128, entries := [entryOf 0], written := 1, blocks := [{ filled := 1, held := 1, spilling := false }] }) 1 0x2803 0x29 2))) ∧
    goesOn (exec (.creditReturn later ((tagged (streamState (some { queue := 6 }) { capacity := 128 }) later (netDatagram 2 0 (natLe 4 5 ++ zeroBytes 8))))) ((streamState (some { queue := 6 }) { capacity := 128 }))) :=
  ⟨⟨_, (by refine h.1.1 (streamState none { capacity := 128 }) later netHost 0 6 (cardAt 0x2803 1) 6 { capacity := 128 } (takes (by decide +kernel)) ?_ ?_ ?_ ?_ ?_ ?_ ?_ ?_ ?_ <;> decide +kernel)⟩,
   goesA (h.1.2.1 (streamState (some { queue := 6 }) { capacity := 128 }) later netHost 0 (cardAt 0x2803 1) { queue := 6 } (takes (by decide +kernel)) (by decide +kernel) (by decide +kernel) (by decide +kernel)),
   ⟨_, h.1.2.2.1 (darkStream (some { queue := 6 })) later (.core 1) 0 (cardAt 0x2803 1) { queue := 6 } (takes (by decide +kernel)) (by decide +kernel) (by decide +kernel) (by decide +kernel)⟩,
   ⟨_, (by refine h.1.2.2.2.1 (streamState (some { queue := 6 }) { capacity := 128 }) later netHost 0 10 (cardAt 0x2803 9) 10 { queue := 6 } { capacity := 128 } (takes (by decide +kernel)) ?_ ?_ ?_ ?_ ?_ <;> decide +kernel)⟩,
   goesA ((by refine h.1.2.2.2.2.1 (streamState (some { queue := 6, sent := 1 }) { capacity := 128, entries := [entryOf 0], written := 1, blocks := [{ filled := 1, held := 1, spilling := false }] }) later netHost 0 1 (cardAt 0x2803 0x19) 1 { queue := 6, sent := 1 } { capacity := 128, entries := [entryOf 0], written := 1, blocks := [{ filled := 1, held := 1, spilling := false }] } (takes (by decide +kernel)) ?_ ?_ ?_ ?_ ?_ ?_ ?_ ?_ <;> decide +kernel)),
   ⟨_, (by refine h.1.2.2.2.2.2 (streamState (some { queue := 6, sent := 1 }) { capacity := 128, entries := [entryOf 0], written := 1, blocks := [{ filled := 1, held := 1, spilling := false }] }) later netHost 0 (cardAt 0x2803 0x21) { queue := 6, sent := 1 } { capacity := 128, entries := [entryOf 0], written := 1, blocks := [{ filled := 1, held := 1, spilling := false }] } (takes (by decide +kernel)) ?_ ?_ ?_ ?_ ?_ <;> decide +kernel)⟩,
   ⟨_, (by refine h.2.1 (streamState (some { queue := 6, sent := 1 }) { capacity := 128, entries := [entryOf 0], written := 1, blocks := [{ filled := 1, held := 1, spilling := false }] }) 10000000000 1 0 { queue := 6, sent := 1 } { capacity := 128, entries := [entryOf 0], written := 1, blocks := [{ filled := 1, held := 1, spilling := false }] } ?_ ?_ ?_ ?_ ?_ <;> decide +kernel)⟩,
   goes₂ ((by refine h.2.2.1 (State.setOwn (streamState (some { queue := 6, granted := 5 }) { capacity := 128, entries := [entryOf 0], written := 1, blocks := [{ filled := 1, held := 1, spilling := false }] }) 1 0x2803 0x29 1) later 1 0 { queue := 6, granted := 5 } { capacity := 128, entries := [entryOf 0], written := 1, blocks := [{ filled := 1, held := 1, spilling := false }] } (entryOf 0) [] ?_ ?_ ?_ ?_ ?_ ?_ ?_ <;> decide +kernel)),
   ⟨_, (by refine h.2.2.2.1 (State.setOwn (streamState (some { queue := 6, granted := 5, opened := 1999999 }) { capacity := 128, entries := [entryOf 0], written := 1, blocks := [{ filled := 1, held := 1, spilling := false }] }) 1 0x2803 0x29 2) later 1 0 { queue := 6, granted := 5, opened := 1999999 } { capacity := 128, entries := [entryOf 0], written := 1, blocks := [{ filled := 1, held := 1, spilling := false }] } (entryOf 0) [] ?_ ?_ ?_ ?_ ?_ ?_ <;> decide +kernel)⟩,
   goes ((by refine h.2.2.2.2 (streamState (some { queue := 6 }) { capacity := 128 }) later (tagged (streamState (some { queue := 6 }) { capacity := 128 }) later (netDatagram 2 0 (natLe 4 5 ++ zeroBytes 8))) { queue := 6 } { capacity := 128 } ?_ ?_ ?_ (authentic_tagged (by decide +kernel)) ?_ ?_ ?_ ?_ ?_ ?_ ?_ ?_ <;> decide +kernel))⟩

theorem witness_LarderStates (h : Obligations.LarderStates) :
    goesOn (exec (.larderTrainingDone later true) (device .save [])) ∧
    goesOn (exec (.descriptorCopyDone later) (device .save [])) ∧
    goesOn (exec (.larderEccError later .corrected) (device .save [])) ∧
    goesOn (exec (.larderTrainingDone later true) (((device .run []).setObj 0x2800 6 1))) ∧
    goesOn (exec (.larderTrainingDone later false) (((device .run []).setObj 0x2800 6 1))) ∧
    goesOn (exec (.descriptorCopyDone later) (({ device .run [] with pantry := { copying := true } } : State))) ∧
    goesOn (exec (.larderEccError later .corrected) (({ device .run [] with pantry := { larderReady := true } } : State))) ∧
    goesOn (exec (.larderEccError later (.descriptor 5)) (({ queueState (some { capacity := 128 }) with pantry := { larderReady := true } } : State))) ∧
    goesOn (exec (.larderEccError later (.entry 5 0)) (({ queueState (some { capacity := 128, entries := [entryOf 0], written := 1, larder := 1 }) with pantry := { larderReady := true } } : State))) :=
  ⟨⟨_, (h.1 (device .save []) later (by decide +kernel)).1 true⟩,
   ⟨_, (h.1 (device .save []) later (by decide +kernel)).2.1⟩,
   ⟨_, (h.1 (device .save []) later (by decide +kernel)).2.2 .corrected⟩,
   ⟨_, h.2.1 ((device .run []).setObj 0x2800 6 1) later (by decide +kernel) (by decide +kernel) (by decide +kernel)⟩,
   goes (h.2.2.1 ((device .run []).setObj 0x2800 6 1) later (by decide +kernel) (by decide +kernel) (by decide +kernel)),
   goes (h.2.2.2.1 ({ device .run [] with pantry := { copying := true } } : State) later (by decide +kernel) (by decide +kernel) (by decide +kernel) (by decide +kernel)),
   ⟨_, h.2.2.2.2.1 ({ device .run [] with pantry := { larderReady := true } } : State) later (by decide +kernel) (by decide +kernel)⟩,
   ⟨_, h.2.2.2.2.2.1 ({ queueState (some { capacity := 128 }) with pantry := { larderReady := true } } : State) later 5 { capacity := 128 } (by decide +kernel) (by decide +kernel) (by decide +kernel) (unselected_of (by decide +kernel))⟩,
   ⟨_, (by refine h.2.2.2.2.2.2 ({ queueState (some { capacity := 128, entries := [entryOf 0], written := 1, larder := 1 }) with pantry := { larderReady := true } } : State) later 5 0 { capacity := 128, entries := [entryOf 0], written := 1, larder := 1 } ?_ ?_ ?_ ?_ ?_ (unselected_of (by decide +kernel)) <;> decide +kernel)⟩⟩

theorem witness_ZonesStartAndDrain (h : Obligations.ZonesStartAndDrain) :
    goesOn (exec (.zoneStart later host 0) ((zoneState { stage := .ready, decl := emptyDecl }))) ∧
    goesOn (exec (.zoneStop later host 0) ((zoneState { stage := .running, decl := emptyDecl }))) ∧
    goesOn (exec (.zoneErase later host 0) ((zoneState { stage := .ready, decl := emptyDecl, hasImage := true }))) ∧
    goesOn (exec (.zoneErase later host 0) ((zoneState { stage := .running, decl := emptyDecl }))) ∧
    goesOn (exec (.zoneStop later host 0) (zoneState { stage := .loading })) ∧
    goesOn (exec (.zoneErase later host 0) (zoneState {})) ∧
    goesOn (exec (.zoneClamp later 0 []) ((zoneState { stage := .draining }))) ∧
    goesOn (exec (.zoneClamp later 0 (1 :: ([]))) ((zoneState { stage := .draining, drainAt := 3000000 }))) ∧
    goesOn (exec (.zoneClamp later 0 ([5])) ((zoneState { stage := .draining, decl := emptyDecl }))) ∧
    goesOn (exec (.zoneClamp later 0 ((((zoneState { stage := .draining, drainAt := 1000000, decl := { emptyDecl with channels := [channelOf false] }, driven := [(channelOf false).requestLane], released := [(channelOf false).requestLane] }).setZone 1 { stage := .running, released := [sinkLane (channelOf false).requestLane] })).openChannels 0)) (((zoneState { stage := .draining, drainAt := 1000000, decl := { emptyDecl with channels := [channelOf false] }, driven := [(channelOf false).requestLane], released := [(channelOf false).requestLane] }).setZone 1 { stage := .running, released := [sinkLane (channelOf false).requestLane] }))) ∧
    goesOn (exec (.zoneResetDone later 0) ((zoneState { stage := .draining, clampedAt := some 1000000, next := .ready }))) ∧
    goesOn (exec (.blockMemoryZeroed later 0) ((zoneState { zeroing := some 1500000 }))) ∧
    goesOn (exec (.zoneSpeedMeasure later 0 900) ((zoneState {}))) :=
  ⟨goesA (h.1.1 (zoneState { stage := .ready, decl := emptyDecl }) later host 0 (cardAt 0x2720 2) (takes (by decide +kernel)) (by decide +kernel) (by decide +kernel) (noWaiting_of (by decide +kernel)) (by decide +kernel)),
   goesA (h.1.2.1 (zoneState { stage := .running, decl := emptyDecl }) later host 0 (cardAt 0x2720 2) (takes (by decide +kernel)) (by decide +kernel) (by decide +kernel) (noWaiting_of (by decide +kernel)) (by decide +kernel)),
   goesA (h.1.2.2.1 (zoneState { stage := .ready, decl := emptyDecl, hasImage := true }) later host 0 (cardAt 0x2720 2) (takes (by decide +kernel)) (by decide +kernel) (by decide +kernel) (noWaiting_of (by decide +kernel)) (by decide +kernel)),
   goesA (h.1.2.2.2.1 (zoneState { stage := .running, decl := emptyDecl }) later host 0 (cardAt 0x2720 2) (takes (by decide +kernel)) (by decide +kernel) (by decide +kernel) (noWaiting_of (by decide +kernel)) (by decide +kernel)),
   ⟨_, (h.1.2.2.2.2 (zoneState { stage := .loading }) later host 0 (cardAt 0x2720 2) (noWaiting_of (by decide +kernel)) (by decide +kernel)).1 (takes (by decide +kernel)) (by decide +kernel) (by decide +kernel)⟩,
   ⟨_, (h.1.2.2.2.2 (zoneState {}) later host 0 (cardAt 0x2720 2) (noWaiting_of (by decide +kernel)) (by decide +kernel)).2 (takes (by decide +kernel)) (by decide +kernel) (by decide +kernel)⟩,
   goes (h.2.1 (zoneState { stage := .draining }) later 0 (by decide +kernel) (by decide +kernel) (by decide +kernel) (by decide +kernel)),
   ⟨_, h.2.2.1 (zoneState { stage := .draining, drainAt := 3000000 }) later 0 1 [] (by decide +kernel)⟩,
   ⟨_, h.2.2.2.1 (zoneState { stage := .draining, decl := emptyDecl }) later 0 [5] (by decide +kernel)⟩,
   goes ((by refine h.2.2.2.2.1 ((zoneState { stage := .draining, drainAt := 1000000, decl := { emptyDecl with channels := [channelOf false] }, driven := [(channelOf false).requestLane], released := [(channelOf false).requestLane] }).setZone 1 { stage := .running, released := [sinkLane (channelOf false).requestLane] }) later 0 (channelOf false) 1 ?_ ?_ ?_ ?_ ?_ ?_ ?_ <;> decide +kernel)),
   goes ((by refine h.2.2.2.2.2.1 (zoneState { stage := .draining, clampedAt := some 1000000, next := .ready }) later 0 1000000 ?_ ?_ ?_ ?_ ?_ ?_ (noWaiting_of (by decide +kernel)) <;> decide +kernel)),
   ⟨_, h.2.2.2.2.2.2.1 (zoneState { zeroing := some 1500000 }) later 0 1500000 (by decide +kernel)⟩,
   ⟨_, h.2.2.2.2.2.2.2 (zoneState {}) later 0 900 (by decide +kernel) (by decide +kernel)⟩⟩

theorem witness_ZonesDrivePortsAndLinks (h : Obligations.ZonesDrivePortsAndLinks) :
    goesOn (exec (.laneRelease later 0 ({ side := 1, lane := 2, role := .outData })) ((zoneState { stage := .running, decl := { emptyDecl with channels := [channelOf false] } }))) ∧
    goesOn (exec (.laneRelease later 0 ({ side := 1, lane := 0, role := .inRequest })) (((zoneState { stage := .running, decl := { emptyDecl with channels := [channelOf true] } }).setZone 1 { stage := .running }))) ∧
    goesOn (exec (.fabricPortOutputChange later 0 (.port 0) true true) ((zoneState { stage := .running, decl := { emptyDecl with ports := [0] } }))) ∧
    goesOn (exec (.fabricPortOutputChange later 0 (.pin 5) true true) ((zoneState { stage := .running, decl := { emptyDecl with sioPins := [5] } }))) ∧
    goesOn (exec (.scheduleEntryArrival later 0 2500000 true true) ((zoneState { stage := .running, decl := { emptyDecl with ports := [0] } }))) ∧
    goesOn (exec (.scheduleEntryArrival later 0 2400000 true true) (((zoneState { stage := .running, decl := { emptyDecl with ports := [0] } }).setPort 0 { lastScheduled := some 2500000 }))) ∧
    goesOn (exec (.scheduleEntryArrival later 0 2000001 true true) ((zoneState { stage := .running, decl := { emptyDecl with ports := [0] } }))) ∧
    goesOn (exec (.scheduleEntryApply later 0) (((zoneState { stage := .running, decl := { emptyDecl with ports := [0] } }).setPort 0 { schedule := [(1500000, true, true)] }))) ∧
    goesOn (exec (.tapOutputTaken later 0 0) ((zoneState { stage := .running, taps := [(0, [.restart 1])] }))) ∧
    goesOn (exec (.queuePortWrite later 0 0 ({ queue := 5, kind := 0x80, flags := 0, payload := zeroBytes 16, stamp := none })) ((zoneState { stage := .running, decl := { emptyDecl with queuePorts := 1 } }))) ∧
    goesOn (exec (.queuePortWrite later 0 0 ({ queue := 5, kind := 0x80, flags := 0, payload := zeroBytes 16, stamp := none })) (((zoneState { stage := .running, decl := { emptyDecl with queuePorts := 1 } }).setQueue 5 (some { capacity := 128 })))) ∧
    goesOn (exec (.timePortRequest later 0) ((zoneState { stage := .running }))) ∧
    goesOn (exec (.userEventLineChange later 0 0 true) ((zoneState { stage := .running, decl := { emptyDecl with userLines := 1 } }))) ∧
    goesOn (exec (.blockMemoryWrite later host 0 ([1, 2, 3, 4])) ((zoneState { stage := .ready }))) ∧
    goesOn (exec (.dualRailError later ⟨0, .rails 8 3⟩) ((zoneState { stage := .running, rails := [(8, some 0)] }))) ∧
    goesOn (exec (.dualRailError later ⟨0, .rails 8 1⟩) ((zoneState { stage := .running }))) ∧
    goesOn (exec (.dualRailError later ⟨0, .handshake 0⟩) ((zoneState { stage := .running }))) ∧
    goesOn (exec (.dualRailError later ⟨0, .blockWrite 0 false 0 5⟩) ((zoneState { stage := .running }))) ∧
    goesOn (exec (.dualRailError later ⟨0, .blockRead 0 false 0⟩) ((zoneState { stage := .running }))) ∧
    goesOn (exec (.dualRailError later ⟨0, .lane ({ side := 1, lane := 0, role := .outRequest }) true⟩) (((zoneState { stage := .running, decl := { emptyDecl with channels := [channelOf false] } }).setZone 1 { stage := .running }))) ∧
    goesOn (exec (.dualRailError later ⟨0, .lane ((channelOf true)).acknowledgeLane false⟩) ((zoneState { stage := .running, decl := { emptyDecl with channels := [channelOf true] }, driven := [(channelOf true).acknowledgeLane], released := [(channelOf true).acknowledgeLane], brokenInputs := [(channelOf true).requestLane] }))) ∧
    goesOn (exec (.dualRailError later ⟨0, .cell 0 5 7⟩) ((zoneState { stage := .running }))) :=
  ⟨⟨_, h.1.1 (zoneState { stage := .running, decl := { emptyDecl with channels := [channelOf false] } }) later 0 { side := 1, lane := 2, role := .outData } (by decide +kernel) (by decide +kernel) (by decide +kernel) (by decide +kernel)⟩,
   ⟨_, (by refine h.1.2.1 ((zoneState { stage := .running, decl := { emptyDecl with channels := [channelOf true] } }).setZone 1 { stage := .running }) later 0 { side := 1, lane := 0, role := .inRequest } 1 ?_ ?_ ?_ ?_ ?_ ?_ <;> decide +kernel)⟩,
   ⟨_, h.1.2.2.1 (zoneState { stage := .running, decl := { emptyDecl with ports := [0] } }) later 0 0 true true⟩,
   ⟨_, h.1.2.2.2.2.1 (zoneState { stage := .running, decl := { emptyDecl with sioPins := [5] } }) later 0 5 true true (by decide +kernel) (by decide +kernel)⟩,
   ⟨_, (by refine h.1.2.2.2.2.2.1 (zoneState { stage := .running, decl := { emptyDecl with ports := [0] } }) later 0 2500000 true true 0 ?_ ?_ ?_ ?_ ?_ <;> decide +kernel)⟩,
   ⟨_, (by refine h.1.2.2.2.2.2.2.1 ((zoneState { stage := .running, decl := { emptyDecl with ports := [0] } }).setPort 0 { lastScheduled := some 2500000 }) later 0 2400000 true true 0 2500000 ?_ ?_ ?_ ?_ ?_ <;> decide +kernel)⟩,
   ⟨_, (by refine h.1.2.2.2.2.2.2.2.1 (zoneState { stage := .running, decl := { emptyDecl with ports := [0] } }) later 0 2000001 true true 0 ?_ ?_ ?_ ?_ ?_ (unselected_of (by decide +kernel)) <;> decide +kernel)⟩,
   ⟨_, h.1.2.2.2.2.2.2.2.2 ((zoneState { stage := .running, decl := { emptyDecl with ports := [0] } }).setPort 0 { schedule := [(1500000, true, true)] }) later 0 1500000 true true [] 0 (by decide +kernel) (by decide +kernel) (by decide +kernel)⟩,
   ⟨_, h.2.1.1 (zoneState { stage := .running, taps := [(0, [.restart 1])] }) later 0 0 (.restart 1) [] (by decide +kernel) (by decide +kernel)⟩,
   ⟨_, h.2.1.2.1 (zoneState { stage := .running, decl := { emptyDecl with queuePorts := 1 } }) later 0 0 { queue := 5, kind := 0x80, flags := 0, payload := zeroBytes 16, stamp := none } (by decide +kernel) (by decide +kernel) (by decide +kernel) (unselected_of (by decide +kernel))⟩,
   (by obtain ⟨y, w, _⟩ := (by refine h.2.1.2.2.1 ((zoneState { stage := .running, decl := { emptyDecl with queuePorts := 1 } }).setQueue 5 (some { capacity := 128 })) later 0 0 { queue := 5, kind := 0x80, flags := 0, payload := zeroBytes 16, stamp := none } { capacity := 128 } ?_ ?_ ?_ ?_ ?_ ?_ ?_ ?_ ?_ ?_ ?_ <;> decide +kernel); exact ⟨_, w⟩),
   ⟨_, h.2.1.2.2.2.1 (zoneState { stage := .running }) later 0 (by decide +kernel)⟩,
   goes (h.2.1.2.2.2.2.1 (zoneState { stage := .running, decl := { emptyDecl with userLines := 1 } }) later 0 0 true (by decide +kernel) (by decide +kernel) (by decide +kernel)),
   ⟨_, h.2.1.2.2.2.2.2 (zoneState { stage := .ready }) later host 0 [1, 2, 3, 4] (cardAt 0x2720 0x1D) (takesBytes (by decide +kernel)) (by decide +kernel) (by decide +kernel)⟩,
   ⟨_, h.2.2.1 (zoneState { stage := .running, rails := [(8, some 0)] }) later 0 8 (by decide +kernel) (by decide +kernel) (unselected_of (by decide +kernel))⟩,
   ⟨_, h.2.2.2.1 (zoneState { stage := .running }) later 0 8 1 (by decide +kernel) (by decide +kernel)⟩,
   ⟨_, h.2.2.2.2.1 (zoneState { stage := .running }) later 0 0 (by decide +kernel)⟩,
   ⟨_, h.2.2.2.2.2.1 (zoneState { stage := .running }) later 0 0 false 0 5 (by decide +kernel) (by decide +kernel) (by show _ * 0 < _; simp)⟩,
   goes (h.2.2.2.2.2.2.1 (zoneState { stage := .running }) later 0 0 false 0 (by decide +kernel) (by decide +kernel) (by show _ * 0 < _; simp)),
   goes (h.2.2.2.2.2.2.2.1 ((zoneState { stage := .running, decl := { emptyDecl with channels := [channelOf false] } }).setZone 1 { stage := .running }) later 0 { side := 1, lane := 0, role := .outRequest } true (by decide +kernel) (by decide +kernel) (by decide +kernel) (by decide +kernel)),
   goes ((by refine h.2.2.2.2.2.2.2.2.1 (zoneState { stage := .running, decl := { emptyDecl with channels := [channelOf true] }, driven := [(channelOf true).acknowledgeLane], released := [(channelOf true).acknowledgeLane], brokenInputs := [(channelOf true).requestLane] }) later 0 (channelOf true) ?_ ?_ ?_ ?_ ?_ <;> decide +kernel)),
   goes (h.2.2.2.2.2.2.2.2.2 (zoneState { stage := .running }) later 0 0 5 7 (by decide +kernel))⟩

theorem witness_RecordsAreTaken (h : Obligations.RecordsAreTaken) :
    goesOn (exec (.zoneBeginRecord later) ((loadState { session := some 0, bytes := (plainStream 1 (zoneBegin ++ endOf 1)) } {}))) ∧
    goesOn (exec (.zoneBeginRecord later) ((loadState { session := some 0, bytes := (plainStream 1 (zoneBegin ++ endOf 1)) } { stage := .running }))) ∧
    goesOn (exec (.framesRecord later none) ((loadState { session := some 0, bytes := (plainStream 1 (oneFrame ++ endOf 1)), parse := { zone := some 0, begun := [0] } } { stage := .loading }))) ∧
    goesOn (exec (.framesRecord later (some 0)) ((loadState { session := some 0, bytes := (plainStream 1 (oneFrame ++ endOf 1)), parse := { zone := some 0, begun := [0] } } { stage := .loading }))) ∧
    goesOn (exec (.blockMemoryRecord later) ((loadState { session := some 0, bytes := (plainStream 1 (blockData ++ endOf 1)), parse := { zone := some 0, begun := [0] } } { stage := .loading }))) :=
  ⟨goes (h.1 (loadState { session := some 0, bytes := (plainStream 1 (zoneBegin ++ endOf 1)) } {}) later { type := 1, zone := 0, body := zoneBegin.drop 8 } (front_of (by decide +kernel)) (by decide +kernel) (by decide +kernel) (noWaiting_of (by decide +kernel)) (by decide +kernel) (by decide +kernel)),
   goes (h.2.1 (loadState { session := some 0, bytes := (plainStream 1 (zoneBegin ++ endOf 1)) } { stage := .running }) later { type := 1, zone := 0, body := zoneBegin.drop 8 } (front_of (by decide +kernel)) (by decide +kernel) (by decide +kernel) (noWaiting_of (by decide +kernel)) (by decide +kernel) (by decide +kernel)),
   goes (h.2.2.1 (loadState { session := some 0, bytes := (plainStream 1 (oneFrame ++ endOf 1)), parse := { zone := some 0, begun := [0] } } { stage := .loading }) later { type := 2, zone := 0, body := oneFrame.drop 8 } (front_of (by decide +kernel)) (by decide +kernel) (noWaiting_of (by decide +kernel))),
   goes ((by refine h.2.2.2.1 (loadState { session := some 0, bytes := (plainStream 1 (oneFrame ++ endOf 1)), parse := { zone := some 0, begun := [0] } } { stage := .loading }) later { type := 2, zone := 0, body := oneFrame.drop 8 } 0 ?_ ?_ ?_ ?_ ?_ ?_ ?_ ?_ (unselected_of (by decide +kernel)) (unselected_of (by decide +kernel)) (unselected_of (by decide +kernel)) (noWaiting_of (by decide +kernel)) ?_ <;> decide +kernel)),
   goes (h.2.2.2.2 (loadState { session := some 0, bytes := (plainStream 1 (blockData ++ endOf 1)), parse := { zone := some 0, begun := [0] } } { stage := .loading }) later { type := 3, zone := 0, body := blockData.drop 8 } (front_of (by decide +kernel)) (by decide +kernel) (by decide +kernel) (noWaiting_of (by decide +kernel)))⟩

theorem witness_StreamsLoadZones (h : Obligations.StreamsLoadZones) :
    goesOn (exec (.streamDataWrite later host ([1])) ((loadState {} {}))) ∧
    goesOn (exec (.streamDataWrite later host ((plainHeader 1000 1))) ((loadState {} {}))) ∧
    goesOn (exec (.streamDataWrite later host ([1])) ((loadState { session := some 0, bytes := plainHeader 1000 1 } {}))) ∧
    goesOn (exec (.streamDataWrite later host ([1])) ((loadState { session := some 1 } {}))) ∧
    goesOn (exec (.streamAbort later host) ((loadState { session := some 0 } {}))) ∧
    goesOn (exec (.streamIdleTimeout 100000000000) ((loadState { session := some 0 } {}))) ∧
    goesOn (exec (.streamEndRecord later) ((loadState { session := some 0, bytes := plainStream 1 (endOf 1), parse := { zone := some 0, begun := [0], written := List.range 512 } } { stage := .loading }))) ∧
    goesOn (exec (.streamEndRecord later) ((loadState { session := some 0, bytes := (plainStream 1 (endOf 1)).set 79 0#8 } {}))) :=
  ⟨⟨_, (by refine h.1.1 (loadState {} {}) later host [1] ?_ ?_ ?_ ?_ ?_ (noWaiting_of (by decide +kernel)) ?_ <;> decide +kernel)⟩,
   goesA ((by refine h.1.2.1 (loadState {} {}) later host (plainHeader 1000 1) (cardAt 0x2700 1) (takesBytes (by decide +kernel)) ?_ ?_ ?_ ?_ ?_ ?_ ?_ ?_ (noWaiting_of (by decide +kernel)) ?_ <;> decide +kernel)),
   ⟨_, (by refine h.1.2.2.1 (loadState { session := some 0, bytes := plainHeader 1000 1 } {}) later host [1] (cardAt 0x2700 1) (takesBytes (by decide +kernel)) ?_ ?_ ?_ ?_ ?_ ?_ ?_ ?_ (noWaiting_of (by decide +kernel)) <;> decide +kernel)⟩,
   ⟨_, h.1.2.2.2.1 (loadState { session := some 1 } {}) later host [1] (cardAt 0x2700 1) (takesBytes (by decide +kernel)) (by decide +kernel) (by decide +kernel) (noWaiting_of (by decide +kernel))⟩,
   ⟨_, h.1.2.2.2.2.1 (loadState { session := some 0 } {}) later host (cardAt 0x2700 2) (takes (by decide +kernel)) (by decide +kernel) (by decide +kernel) (by refine ⟨?_, ?_, ?_, ?_⟩ <;> decide +kernel) (unselected_of (by decide +kernel)) (noWaiting_of (by decide +kernel)) (by decide +kernel)⟩,
   ⟨_, h.1.2.2.2.2.2 (loadState { session := some 0 }  {}) 100000000000 (by decide +kernel) (by decide +kernel) (by refine ⟨?_, ?_, ?_, ?_⟩ <;> decide +kernel) (unselected_of (by decide +kernel)) (noWaiting_of (by decide +kernel)) (by decide +kernel)⟩,
   goes ((by refine h.2.1 (loadState { session := some 0, bytes := plainStream 1 (endOf 1), parse := { zone := some 0, begun := [0], written := List.range 512 } } { stage := .loading }) later 0 ?_ ?_ ?_ ?_ ?_ (noWaiting_of (by decide +kernel)) ?_ (unselected_of (by decide +kernel)) ?_ (endRecord_of (by decide +kernel)) ?_ ?_ ?_ (unselected_of (by decide +kernel)) (unselected_of (by decide +kernel)) <;> decide +kernel)),
   ⟨_, h.2.2 (loadState { session := some 0, bytes := (plainStream 1 (endOf 1)).set 79 0#8 } {}) later 9 (fieldLe ((plainStream 1 (endOf 1)).set 79 0#8) 76 4) (by refine ⟨?_, ?_, ?_, ?_⟩ <;> decide +kernel) (by decide +kernel) (endRecord_of (by decide +kernel)) (by decide +kernel) (unselected_of (by decide +kernel)) (noWaiting_of (by decide +kernel)) (by decide +kernel) (by decide +kernel)⟩⟩

theorem witness_KeysAreWritten (h : Obligations.KeysAreWritten) :
    goesOn (exec (.kekWrite later host ((zeroBytes 32))) ((keyState .safe {}))) ∧
    goesOn (exec (.kekWrite later host ((zeroBytes 32))) ((keyState .safe { kek := some exampleKek }))) ∧
    goesOn (exec (.ekWrite later host exampleWrapped) ((keyState .idle { kek := some exampleKek }))) ∧
    goesOn (exec (.ekWrite later host exampleWrapped) ((keyState .idle {}))) ∧
    goesOn (exec (.ekWrite later host ((zeroBytes 40))) ((keyState .idle { kek := some exampleKek }))) ∧
    goesOn (exec (.batteryKeyWrite later host 0 exampleWrapped) ((keyState .idle { kek := some exampleKek }))) ∧
    goesOn (exec (.batteryKeyWrite later host 0 []) ((keyState .idle { kek := some exampleKek }))) ∧
    goesOn (exec (.policyWrite later host 1) ((keyState .idle { kek := some exampleKek }))) ∧
    goesOn (exec (.policyWrite later host 1) ((keyState .idle { policy := 2 }))) ∧
    goesOn (exec (.minimumSecurityVersionWrite later host 1) ((keyState .idle { kek := some exampleKek }))) ∧
    goesOn (exec (.lockoutEnd later) ((keyState .idle { lockoutUntil := some 5 }))) :=
  ⟨⟨_, h.1.1 (keyState .safe {}) later host (zeroBytes 32) (cardAt 0x2701 2) (takesBytes (by decide +kernel)) (by decide +kernel) (by decide +kernel)⟩,
   ⟨_, h.1.2.1 (keyState .safe { kek := some exampleKek }) later host (zeroBytes 32) (cardAt 0x2701 2) exampleKek (takesBytes (by decide +kernel)) (by decide +kernel) (by decide +kernel)⟩,
   ⟨_, h.1.2.2.1 (keyState .idle { kek := some exampleKek }) later host exampleWrapped (cardAt 0x2701 3) exampleKek exampleKey (takesBytes (by decide +kernel)) (by decide +kernel) example_unwraps (by decide +kernel) (by decide +kernel) (by decide +kernel)⟩,
   ⟨_, h.1.2.2.2.1 (keyState .idle {}) later host exampleWrapped (cardAt 0x2701 3) (takesBytes (by decide +kernel)) (by decide +kernel)⟩,
   ⟨_, h.1.2.2.2.2.1 (keyState .idle { kek := some exampleKek }) later host (zeroBytes 40) (cardAt 0x2701 3) exampleKek (takesBytes (by decide +kernel)) (by decide +kernel) example_damaged⟩,
   ⟨_, h.1.2.2.2.2.2.1 (keyState .idle { kek := some exampleKek }) later host 0 exampleWrapped (cardAt 0x2701 4) exampleKek exampleKey (takesBytes (by decide +kernel)) (by decide +kernel) (by decide +kernel) example_unwraps (by decide +kernel) (by decide +kernel)⟩,
   ⟨_, h.1.2.2.2.2.2.2 (keyState .idle { kek := some exampleKek }) later host 0 (cardAt 0x2701 4) (takesBytes (by decide +kernel)) (by decide +kernel) (by decide +kernel) (by decide +kernel)⟩,
   ⟨_, h.2.1 (keyState .idle { kek := some exampleKek }) later host 1 (cardAt 0x2701 8) 1 (takes (by decide +kernel)) (by decide +kernel)⟩,
   ⟨_, h.2.1 (keyState .idle { policy := 2 }) later host 1 (cardAt 0x2701 8) 1 (takes (by decide +kernel)) (by decide +kernel)⟩,
   ⟨_, h.2.2.1 (keyState .idle { kek := some exampleKek }) later host 1 (cardAt 0x2701 9) 1 (takes (by decide +kernel)) (by decide +kernel)⟩,
   ⟨_, h.2.2.2 (keyState .idle { lockoutUntil := some 5 }) later 5 (by decide +kernel)⟩⟩

theorem witness_BatteryKeysAreLost (h : Obligations.BatteryKeysAreLost) :
    goesOn (exec (.vbatLost later) (({ device .keep [] with power := { State.reset.power with vsupGood := false } } : State))) ∧
    goesOn (exec (.powerFail later 4000) ((device .wake []))) ∧
    goesOn (exec (.saveSupplyCollapse later) ((device .save []))) ∧
    goesOn (exec (.saveEnd 1000000000) (({ device .save [] with power := { State.reset.power with vsupGood := false } } : State))) ∧
    goesOn (exec (.powerFail later 4000) ((device .off []))) ∧
    goesOn (exec (.rstnRelease later) (({ device .off [] with power := { State.reset.power with rstnLow := true, batteryGone := true } } : State))) ∧
    goesOn (exec (.vsupGood later 24000) (({ device .off [] with power := { State.reset.power with batteryGone := true } } : State))) ∧
    goesOn (exec (.batteryKeyWrite later host 0 []) ((keyState .idle { kek := some exampleKek }))) ∧
    goesOn (exec (.batteryKeyWrite later host 0 exampleWrapped) ((keyState .idle { kek := some exampleKek }))) ∧
    goesOn (exec (.clearBatteryKeys later host 1) ((keyState .idle { kek := some exampleKek }))) :=
  ⟨goes (h.1 ({ device .keep [] with power := { State.reset.power with vsupGood := false } } : State) later (by decide +kernel) (by decide +kernel)),
   goes (h.2.1 (device .wake []) later 4000 (by decide +kernel) (by decide +kernel) (by decide +kernel)),
   goes (h.2.2.1 (device .save []) later (by decide +kernel) (by decide +kernel)),
   goes (h.2.2.2.1 ({ device .save [] with power := { State.reset.power with vsupGood := false } } : State) 1000000000 (by decide +kernel) (by decide +kernel) (by decide +kernel) (by decide +kernel)),
   goes (h.2.2.2.2.1 (device .off []) later 4000 (by decide +kernel) (by decide +kernel) (by decide +kernel)),
   goes (h.2.2.2.2.2.1 ({ device .off [] with power := { State.reset.power with rstnLow := true, batteryGone := true } } : State) later (by decide +kernel) (by decide +kernel) (by decide +kernel) (by decide +kernel)),
   goes (h.2.2.2.2.2.2.1 ({ device .off [] with power := { State.reset.power with batteryGone := true } } : State) later 24000 (by decide +kernel) (by decide +kernel) (by decide +kernel) (by decide +kernel)),
   goesA (h.2.2.2.2.2.2.2.2.1 (keyState .idle { kek := some exampleKek }) later host 0 (cardAt 0x2701 4) (takesBytes (by decide +kernel)) (by decide +kernel) (by decide +kernel) (by decide +kernel)),
   goesA (h.2.2.2.2.2.2.2.2.2.1 (keyState .idle { kek := some exampleKek }) later host 0 exampleWrapped (cardAt 0x2701 4) exampleKek exampleKey (takesBytes (by decide +kernel)) (by decide +kernel) (by decide +kernel) example_unwraps (by decide +kernel) (by decide +kernel)),
   ⟨_, h.2.2.2.2.2.2.2.2.2.2 (keyState .idle { kek := some exampleKek }) later host 1 (cardAt 0x2701 0x0A) (takes (by decide +kernel)) (by decide +kernel) (unselected_of (by decide +kernel))⟩⟩

theorem witness_SlotsAndRepairCopies (h : Obligations.SlotsAndRepairCopies) :
    goesOn (exec (.streamSlotWrite later host 0 noZones) ((busyWith (keyState .idle {})))) ∧
    goesOn (exec (.streamSlotWrite later host 0 noZones) ((keyState .idle {}))) ∧
    goesOn (exec (.streamSlotWrite later host 0 ((zeroBytes 64))) ((keyState .idle {}))) ∧
    goesOn (exec (.cellarLoad later host 0) (({ loadState {} {} with cellar := { State.reset.cellar with items := [(5 * 2 ^ 32, some noZones)], stage := 2 } } : State))) ∧
    goesOn (exec (.repairCopyStore later 0) ((loadState {} { stage := .ready, repairDue := true }))) ∧
    goesOn (exec (.repairCopyStore later 0) ((busyWith (loadState {} { stage := .ready, repairDue := true })))) :=
  ⟨goes₂ ((by refine h.1 (busyWith (keyState .idle {})) later host 0 noZones (cardAt 0x2740 1) (takesBytes (by decide +kernel)) ?_ ?_ ?_ ?_ ?_ ?_ ?_ ?_ <;> decide +kernel)),
   goes₂ ((by refine h.2.1 (keyState .idle {}) later host 0 noZones (cardAt 0x2740 1) (takesBytes (by decide +kernel)) ?_ ?_ ?_ ?_ ?_ ?_ ?_ <;> decide +kernel)),
   ⟨_, h.2.2.1 (keyState .idle {}) later host 0 (zeroBytes 64) (cardAt 0x2740 1) 1 (some 0) (takesBytes (by decide +kernel)) (by decide +kernel) (by decide +kernel) (by decide +kernel)⟩,
   goesA ((by refine h.2.2.2.1 ({ loadState {} {} with cellar := { State.reset.cellar with items := [(5 * 2 ^ 32, some noZones)], stage := 2 } } : State) later host 0 (cardAt 0x2700 9) 0 { type := 0x0F, zone := 0xFF, body := natLe 4 0 } (takes (by decide +kernel)) ?_ ?_ ?_ ?_ ?_ ?_ ?_ ?_ ?_ (noWaiting_of (by decide +kernel)) ?_ <;> decide +kernel)),
   goes₂ (h.2.2.2.2.1 (loadState {} { stage := .ready, repairDue := true }) later 0 (by decide +kernel) (by decide +kernel) (by decide +kernel) (by decide +kernel)),
   goes₂ ((by refine h.2.2.2.2.2 (busyWith (loadState {} { stage := .ready, repairDue := true })) later 0 ?_ ?_ ?_ ?_ ?_ <;> decide +kernel))⟩

theorem witness_ScrubberRepairsFrames (h : Obligations.ScrubberRepairsFrames) :
    goesOn (exec (.scrubberFrameCheck later 0 { frame := none }) (({ loadState {} { stage := .ready } with scrub := { active := [1, 0x9FFF0000, 0, 0, 0] }, loft := [(0, List.replicate 3 (some 5#32))] } : State))) ∧
    goesOn (exec (.scrubberFrameCheck later 0 {}) (({ loadState {} { stage := .ready } with scrub := { active := [1, 0x9FFF0000, 0, 0, 0] }, frames := [(0, [1#8])], loft := [(0, [some (frameSignature 0 [1#8]), some 5#32, some (frameSignature 0 [1#8])])] } : State))) ∧
    goesOn (exec (.scrubberFrameCheck later 0 { words := [(((localBase 1)), (1#32))] }) ((device .save []))) ∧
    (State.frameLost (loadState {} { stage := .ready }) 0 1 5 7).scrub.unrepairable = true ∧
    goesOn (exec (.frameRepair later true) repairState) ∧
    goesOn (exec (.frameRepair later false) repairState) ∧
    goesOn (exec (.scrubberSweepEnd later) (({ device .idle [] with scrub := { copies := List.replicate 3 [1, 0, 0, 0, 0] } } : State))) :=
  ⟨⟨_, h.1 ({ loadState {} { stage := .ready } with scrub := { active := [1, 0x9FFF0000, 0, 0, 0] }, loft := [(0, List.replicate 3 (some 5#32))] } : State) later 0 5#32 none (by decide +kernel) (by decide +kernel) (by decide +kernel) (by decide +kernel) (noWaiting_of (by decide +kernel)) (by decide +kernel)⟩,
   goes ((by refine h.2.1 ({ loadState {} { stage := .ready } with scrub := { active := [1, 0x9FFF0000, 0, 0, 0] }, frames := [(0, [1#8])], loft := [(0, [some (frameSignature 0 [1#8]), some 5#32, some (frameSignature 0 [1#8])])] } : State) later 0 (frameSignature 0 [1#8]) 5#32 ?_ ?_ ?_ ?_ ?_ ?_ (unselected_of (by decide +kernel)) (noWaiting_of (by decide +kernel)) ?_ <;> decide +kernel)),
   ⟨_, h.2.2.1 (device .save []) later 0 (localBase 1) 1#32 (by decide +kernel) (by decide +kernel) (noWaiting_of (by decide +kernel)) (by decide +kernel)⟩,
   congrArg Scrubber.unrepairable (h.2.2.2.1 (loadState {} { stage := .ready }) 0 1 5 7 (by decide +kernel)).1,
   goes ((by refine h.2.2.2.2.1 repairState later 0 5 1000000 [] true ?_ ?_ ?_ ?_ ?_ (noWaiting_of (by decide +kernel)) ?_ <;> decide +kernel)),
   goes ((by refine h.2.2.2.2.1 repairState later 0 5 1000000 [] false ?_ ?_ ?_ ?_ ?_ (noWaiting_of (by decide +kernel)) ?_ <;> decide +kernel)),
   ⟨_, (by refine h.2.2.2.2.2 ({ device .idle [] with scrub := { copies := List.replicate 3 [1, 0, 0, 0, 0] } } : State) later 1 0 0 0 0 ?_ ?_ ?_ ?_ ?_ <;> decide +kernel)⟩⟩

theorem witness_SessionsOpenByProof (h : Obligations.SessionsOpenByProof) :
    goesOn (exec (.openDatagram later openFrame) ((keyed .idle {}))) ∧
    goesOn (exec (.openDatagram later ({ openFrame with payload := [] })) ((keyed .idle {}))) ∧
    goesOn (exec (.proof later proofFrame) ((keyed .idle (waitingOn .net0)))) ∧
    goesOn (exec (.openDatagram later (netDatagram 1 0 [])) (keyed .idle {})) ∧
    goesOn (exec (.proof later (netDatagram 3 0 [])) (keyed .idle {})) ∧
    goesOn (exec (.sessionOpenWrite later ((zeroBytes 17))) (((keyed .safe {}).setSession 0 {}))) ∧
    goesOn (exec (.sessionProofWrite later ((hostProof slotKey 0 0 [] []))) provingHost) ∧
    goesOn (exec (.proofTimeout later 1) ((keyed .idle (waitingOn .net0)))) ∧
    goesOn (exec (.proofTimeout 4001000000 1) ((keyed .idle (waitingOn .net0)))) ∧
    goesOn (exec (.keySlotLockoutEnd later 0) (({ device .idle [] with keyLockouts := [(0, some 5)] } : State))) :=
  ⟨⟨_, (by refine h.1 (keyed .idle {}) later openFrame 1 ?_ ?_ ?_ ?_ ?_ ?_ ?_ ?_ ?_ <;> decide +kernel)⟩,
   ⟨_, (by refine h.2.1 (keyed .idle {}) later { openFrame with payload := [] } 0x06070010 ?_ ?_ ?_ ?_ ?_ ?_ (unselected_of (by decide +kernel)) <;> decide +kernel)⟩,
   ⟨_, (by refine h.2.2.1 (keyed .idle (waitingOn .net0)) later proofFrame 1 (waitingOn .net0) slotKey ?_ ?_ ?_ ?_ ?_ ?_ ?_ ?_ ?_ ?_ ?_ ?_ ?_ ?_ ?_ ?_ (unselected_of (by decide +kernel)) <;> decide +kernel)⟩,
   ⟨_, (h.2.2.2.1 (keyed .idle {}) later (netDatagram 1 0 []) (by decide +kernel) (by decide +kernel) (by decide +kernel) (by decide +kernel)).1 rfl⟩,
   ⟨_, (h.2.2.2.1 (keyed .idle {}) later (netDatagram 3 0 []) (by decide +kernel) (by decide +kernel) (by decide +kernel) (by decide +kernel)).2 rfl⟩,
   ⟨_, h.2.2.2.2.1 ((keyed .safe {}).setSession 0 {}) later (zeroBytes 17) (cardAt 0x2105 1) 0 (takesBytes (by decide +kernel)) (by decide +kernel) (by decide +kernel) (by decide +kernel)⟩,
   ⟨_, (by refine h.2.2.2.2.2.1 provingHost later (hostProof slotKey 0 0 [] []) (cardAt 0x2105 3) (waitingOn .can0) slotKey (takesBytes (by decide +kernel)) ?_ ?_ ?_ ?_ ?_ ?_ ?_ (unselected_of (by decide +kernel)) <;> decide +kernel)⟩,
   ⟨_, h.2.2.2.2.2.2.1 (keyed .idle (waitingOn .net0)) later 1 (by decide +kernel) (by decide +kernel)⟩,
   goes (h.2.2.2.2.2.2.2.1 (keyed .idle (waitingOn .net0)) 4001000000 1 (by decide +kernel) (by decide +kernel) (by decide +kernel) (unselected_of (by decide +kernel))),
   ⟨_, h.2.2.2.2.2.2.2.2 ({ device .idle [] with keyLockouts := [(0, some 5)] } : State) later 0 5 (by decide +kernel)⟩⟩

theorem witness_NetworkRequestsAreServed (h : Obligations.NetworkRequestsAreServed) :
    goesOn (exec (.keepalive later ((tagged (queueState none) later (netDatagram 0x06 0 [])))) ((queueState none))) ∧
    goesOn (exec (.read later ((tagged (queueState none) later (netDatagram 0x10 0 (frameAt 0x2401 1))))) ((queueState none))) ∧
    goesOn (exec (.domainRead later ((tagged (queueState none) later (netDatagram 0x12 0 (frameAt 0x4005 5 ++ zeroBytes 5 ++ natLe 2 8))))) ((queueState none))) ∧
    goesOn (exec (.write later ((tagged (queueState none) later (netDatagram 0x11 0 (frameAt 0x2101 2 ++ natLe 1 4 ++ zeroBytes 4 ++ natLe 4 1000 ++ zeroBytes 4))))) ((queueState none))) ∧
    goesOn (exec (.write later ((tagged (queueState none) later (netDatagram 0x11 0 (frameAt 0x1018 1 ++ natLe 1 4 ++ zeroBytes 12))))) ((queueState none))) ∧
    goesOn (exec (.close later ((tagged (queueState none) later (netDatagram 0x05 0 [])))) ((queueState none))) ∧
    goesOn (exec (.read later ((tagged (((queueState none)).setSession 1 { stage := .open_, link := .net0, lease := 60, kept := [⟨7, 0x10, 1, []⟩] }) later (netDatagram 0x10 0 [])))) ((((queueState none)).setSession 1 { stage := .open_, link := .net0, lease := 60, kept := [⟨7, 0x10, 1, []⟩] }))) ∧
    goesOn (exec (.domainBegin later ((tagged (queueState none) later (netDatagram 0x13 0 (frameAt 0x2102 1 ++ zeroBytes 1 ++ natLe 4 8))))) ((queueState none))) ∧
    goesOn (exec (.domainSegment later ((tagged (transferState (transferOf [])) later (netDatagram 0x14 0 (natLe 4 7 ++ natLe 4 0 ++ mapperEntry))))) ((transferState (transferOf [])))) ∧
    goesOn (exec (.domainEnd later ((tagged (transferState (transferOf [])) later (netDatagram 0x15 0 (natLe 4 7))))) ((transferState (transferOf [])))) ∧
    goesOn (exec (.domainEnd later endFrame) wholeState) ∧
    goesOn (exec (.keepalive later ((netDatagram 0x06 0 []))) ((queueState none))) :=
  ⟨⟨_, h.1.1 (queueState none) later (tagged (queueState none) later (netDatagram 0x06 0 [])) (acts (by decide +kernel))⟩,
   ⟨_, h.1.2.1 (queueState none) later (tagged (queueState none) later (netDatagram 0x10 0 (frameAt 0x2401 1))) _ _ (acts (by decide +kernel)) (by decide +kernel) rfl⟩,
   ⟨_, h.1.2.2.1 (queueState none) later (tagged (queueState none) later (netDatagram 0x12 0 (frameAt 0x4005 5 ++ zeroBytes 5 ++ natLe 2 8))) _ _ (acts (by decide +kernel)) (by decide +kernel) (by decide +kernel) (by decide +kernel) rfl⟩,
   ⟨_, h.1.2.2.2.1 (queueState none) later (tagged (queueState none) later (netDatagram 0x11 0 (frameAt 0x2101 2 ++ natLe 1 4 ++ zeroBytes 4 ++ natLe 4 1000 ++ zeroBytes 4))) (okState (((queueState none).took later (tagged (queueState none) later (netDatagram 0x11 0 (frameAt 0x2101 2 ++ natLe 1 4 ++ zeroBytes 4 ++ natLe 4 1000 ++ zeroBytes 4)))).writeObject (asSession 1) 0x2101 2 (natLe 4 1000))) (acts (by decide +kernel)) (by decide +kernel) (by decide +kernel) (by decide +kernel) (ok_of (by decide +kernel)) (by decide +kernel) (noWaiting_of (by decide +kernel)) (by decide +kernel)⟩,
   ⟨_, h.1.2.2.2.2.1 (queueState none) later (tagged (queueState none) later (netDatagram 0x11 0 (frameAt 0x1018 1 ++ natLe 1 4 ++ zeroBytes 12))) 0x06010002 (acts (by decide +kernel)) (by decide +kernel) (by decide +kernel) (by decide +kernel) rfl (by decide +kernel) (noWaiting_of (by decide +kernel)) (by decide +kernel)⟩,
   ⟨_, h.1.2.2.2.2.2.1 (queueState none) later (tagged (queueState none) later (netDatagram 0x05 0 [])) (acts (by decide +kernel)) (by decide +kernel)⟩,
   ⟨_, (by refine h.1.2.2.2.2.2.2 (((queueState none)).setSession 1 { stage := .open_, link := .net0, lease := 60, kept := [⟨7, 0x10, 1, []⟩] }) later (tagged (((queueState none)).setSession 1 { stage := .open_, link := .net0, lease := 60, kept := [⟨7, 0x10, 1, []⟩] }) later (netDatagram 0x10 0 [])) ⟨7, 0x10, 1, []⟩ ?_ ?_ ?_ ?_ ?_ ?_ <;> decide +kernel)⟩,
   ⟨_, h.2.1 (queueState none) later (tagged (queueState none) later (netDatagram 0x13 0 (frameAt 0x2102 1 ++ zeroBytes 1 ++ natLe 4 8))) (acts (by decide +kernel)) (by decide +kernel) rfl⟩,
   ⟨_, h.2.2.1 (transferState (transferOf [])) later (tagged (transferState (transferOf [])) later (netDatagram 0x14 0 (natLe 4 7 ++ natLe 4 0 ++ mapperEntry))) (transferOf []) (acts (by decide +kernel)) (by decide +kernel) (by decide +kernel) (by decide +kernel) (by decide +kernel)⟩,
   ⟨_, h.2.2.2.1 (transferState (transferOf [])) later (tagged (transferState (transferOf [])) later (netDatagram 0x15 0 (natLe 4 7))) (transferOf []) 0 (acts (by decide +kernel)) (by decide +kernel) (by decide +kernel) (by decide +kernel) (by decide +kernel) (noWaiting_of (by decide +kernel)) (by decide +kernel)⟩,
   ⟨_, h.2.2.2.2.1 wholeState later endFrame wholeTransfer writtenState (acts (by decide +kernel)) (by decide +kernel) (by decide +kernel) (by decide +kernel) (by decide +kernel) (ok_of (by decide +kernel)) (by decide +kernel) (noWaiting_of (by decide +kernel)) (by decide +kernel)⟩,
   ⟨_, (by refine h.2.2.2.2.2 (queueState none) later (netDatagram 0x06 0 []) ?_ ?_ ?_ ?_ ?_ ?_ <;> decide +kernel)⟩⟩

theorem witness_Can0Serves (h : Obligations.Can0Serves) :
    goesOn (exec (.usdoRequest later ⟨0x600 + ((device .idle [(clsCycle, 0)])).links.nodeId, .upload 0x2000 1⟩) ((device .idle [(clsCycle, 0)]))) ∧
    goesOn (exec (.usdoRequest later ⟨0x600 + ((device .idle [(clsCycle, 0)])).links.nodeId, .download 0x2101 2 ((natLe 4 1000))⟩) ((device .idle [(clsCycle, 0)]))) ∧
    goesOn (exec (.usdoRequest later (⟨0x605, .upload 0x2000 1⟩)) ((device .idle []))) ∧
    goesOn (exec (.usdoTimeout later) (({ device .idle [] with links := { State.reset.links with usdo := some ⟨0x2000, 1, true, 0, [], false, 0⟩ } } : State))) ∧
    goesOn (exec (.nmtStopped later) (device .idle [])) ∧
    goesOn (exec (.nmtOperational later true) (device .idle [])) ∧
    goesOn (exec (.nmtOperational later false) (device .idle [])) ∧
    goesOn (exec (.nmtReset later) (device .idle [])) ∧
    goesOn (exec (.heartbeat later) (((device .idle []).setObj 0x1017 0 100))) ∧
    goesOn (exec (.hostLinkStateChange later (.frame 0 (.arp 0xC0000201))) ((device .idle []))) ∧
    goesOn (exec (.hostLinkStateChange later (.frame 0 (.echo4 0xC0000201 ([5])))) ((device .idle []))) ∧
    goesOn (exec (.hostLinkStateChange later (.frame 0 .vlan)) (device .idle [])) ∧
    goesOn (exec (.hostLinkStateChange later (.frame 0 .jumbo)) (device .idle [])) ∧
    goesOn (exec (.hostLinkStateChange later (.frame 0 .fragment)) (device .idle [])) :=
  ⟨⟨_, h.1 (device .idle [(clsCycle, 0)]) later 0x2000 1 _ _ (canHeard (device .idle [(clsCycle, 0)])) (by decide +kernel) (by decide +kernel) (by decide +kernel) (by decide +kernel) rfl rfl (by decide +kernel) (noWaiting_of (by decide +kernel)) (by decide +kernel)⟩,
   ⟨_, h.2.1 (device .idle [(clsCycle, 0)]) later 0x2101 2 (natLe 4 1000) (canHeard (device .idle [(clsCycle, 0)])) (okState ((canHeard (device .idle [(clsCycle, 0)])).writeObject (.session 0) 0x2101 2 (natLe 4 1000))) (by decide +kernel) (by decide +kernel) (by decide +kernel) (by decide +kernel) rfl (by decide +kernel) (ok_of (by decide +kernel)) (by decide +kernel) (noWaiting_of (by decide +kernel)) (by decide +kernel)⟩,
   ⟨_, h.2.2.1 (device .idle []) later ⟨0x605, .upload 0x2000 1⟩ (noWaiting_of (by decide +kernel)) (by decide +kernel) (by decide +kernel)⟩,
   ⟨_, h.2.2.2.1 ({ device .idle [] with links := { State.reset.links with usdo := some ⟨0x2000, 1, true, 0, [], false, 0⟩ } } : State) later ⟨0x2000, 1, true, 0, [], false, 0⟩ (by decide +kernel)⟩,
   ⟨_, (h.2.2.2.2.1 (device .idle []) later (by decide +kernel)).1⟩,
   ⟨_, (h.2.2.2.2.1 (device .idle []) later (by decide +kernel)).2.1⟩,
   ⟨_, (h.2.2.2.2.1 (device .idle []) later (by decide +kernel)).2.2.1⟩,
   ⟨_, (h.2.2.2.2.1 (device .idle []) later (by decide +kernel)).2.2.2 _ _ rfl rfl⟩,
   ⟨_, h.2.2.2.2.2.1 ((device .idle []).setObj 0x1017 0 100) later (by decide +kernel) (by decide +kernel) (by decide +kernel) (by decide +kernel)⟩,
   ⟨_, h.2.2.2.2.2.2.2.1 (device .idle []) later 0 0xC0000201 (by decide +kernel) (by decide +kernel)⟩,
   ⟨_, h.2.2.2.2.2.2.2.2.1 (device .idle []) later 0 0xC0000201 [5] (by decide +kernel) (by decide +kernel)⟩,
   ⟨_, (h.2.2.2.2.2.2.2.2.2.1 (device .idle []) later 0 (by decide +kernel) (by decide +kernel)) .vlan (by decide)⟩,
   ⟨_, (h.2.2.2.2.2.2.2.2.2.1 (device .idle []) later 0 (by decide +kernel) (by decide +kernel)) .jumbo (by decide)⟩,
   ⟨_, (h.2.2.2.2.2.2.2.2.2.1 (device .idle []) later 0 (by decide +kernel) (by decide +kernel)) .fragment (by decide)⟩⟩

theorem witness_ClaimsAndSessionsEnd (h : Obligations.ClaimsAndSessionsEnd) :
    goesOn (exec (.claim later host ((oneEntry clsZone 3))) ((device .idle []))) ∧
    goesOn (exec (.claim later host ((oneEntry clsZone 3))) (((device .idle []).setHolder clsZone 3 (some 1)))) ∧
    goesOn (exec (.release later host ((oneEntry clsZone 3))) ((device .idle [(clsZone, 3)]))) ∧
    goesOn (exec (.release later host ((oneEntry clsCycle 0))) (({ device .run [(clsCycle, 0)] with cycle := { boundBy := some 0 }, disp := { slot := some 0 } } : State))) ∧
    goesOn (exec (.releaseAll later host 1) ((device .idle [(clsZone, 3)]))) ∧
    ((device .idle [(clsZone, 3)]).endClaims 0 [(clsZone, 3)]).holder clsZone 3 = none ∧
    goesOn (exec (.claimQuery later host ((leNat (oneEntry clsZone 3)))) ((device .idle []))) ∧
    goesOn (exec (.leaseExpired 300000000 0) ((device .idle []))) ∧
    goesOn (exec (.leaseExpired later 0) ((device .idle []))) ∧
    ((device .idle []).endSession 0 0).session 0 = {} :=
  ⟨goesA (h.1.1 (device .idle []) later host (oneEntry clsZone 3) (cardAt 0x2102 1) (takesBytes (by decide +kernel)) (by decide +kernel) (by decide +kernel)),
   ⟨_, h.1.2.1 ((device .idle []).setHolder clsZone 3 (some 1)) later host (oneEntry clsZone 3) (cardAt 0x2102 1) (claimEntry (leNat (oneEntry clsZone 3))) (takesBytes (by decide +kernel)) (by decide +kernel) rfl⟩,
   ⟨_, h.1.2.2.1 (device .idle [(clsZone, 3)]) later host (oneEntry clsZone 3) (cardAt 0x2102 2) (((device .idle [(clsZone, 3)]).heard later host).endClaims ((device .idle [(clsZone, 3)]).sessionOf host) ((claimEntries (oneEntry clsZone 3)).flatMap ClaimEntry.resources)) (takesBytes (by decide +kernel)) (by decide +kernel) (.inl (by decide +kernel)) rfl (by decide +kernel)⟩,
   ⟨_, (by refine h.1.2.2.2.1 ({ device .run [(clsCycle, 0)] with cycle := { boundBy := some 0 }, disp := { slot := some 0 } } : State) later host (oneEntry clsCycle 0) (cardAt 0x2102 2) (takesBytes (by decide +kernel)) ?_ ?_ ?_ ?_ ?_ (noWaiting_of (by decide +kernel)) ?_ <;> decide +kernel)⟩,
   ⟨_, h.1.2.2.2.2.1 (device .idle [(clsZone, 3)]) later host 1 (cardAt 0x2102 3) (((device .idle [(clsZone, 3)]).heard later host).endClaims ((device .idle [(clsZone, 3)]).sessionOf host) ((device .idle [(clsZone, 3)]).heldBy ((device .idle [(clsZone, 3)]).sessionOf host))) (takes (by decide +kernel)) (by decide +kernel) (by decide +kernel) rfl (by decide +kernel)⟩,
   h.1.2.2.2.2.2.1 (device .idle [(clsZone, 3)]) 0 [(clsZone, 3)] clsZone 3 (by decide +kernel) (by decide +kernel) (by decide +kernel),
   ⟨_, h.1.2.2.2.2.2.2 (device .idle []) later host (leNat (oneEntry clsZone 3)) (cardAt 0x2103 1) (leNat (oneEntry clsZone 3)) (takes (by decide +kernel)) (by decide +kernel)⟩,
   ⟨_, h.2.1 (device .idle []) 300000000 0 (by decide +kernel) (by decide +kernel) (by decide +kernel)⟩,
   ⟨_, h.2.2.1 (device .idle []) later 0 (noWaiting_of (by decide +kernel)) (by decide +kernel) (.inr (.inr (by decide +kernel)))⟩,
   (h.2.2.2 (device .idle []) 0 0 (by decide +kernel)).1⟩

theorem witness_FixtureCycle (h : Obligations.FixtureCycle) :
    goesOn (exec (.bind later host) ((device .idle [(clsCycle, 0)]))) ∧
    goesOn (exec (.fixtureRelease later host) (({ device .run [(clsCycle, 0)] with cycle := { boundBy := some 0 }, disp := { slot := some 0 } } : State))) ∧
    goesOn (exec (.fixtureRelease later host) ((fixtureState .run {}))) ∧
    goesOn (exec (.fixtureRelease later host) ((fixtureState .run { boundBy := some 0 }))) :=
  ⟨goesA (h.1 (device .idle [(clsCycle, 0)]) later host (cardAt 0x2104 1) (takes (by decide +kernel)) (by decide +kernel) (unselected_of (by decide +kernel)) (unselected_of (by decide +kernel)) (by decide +kernel)),
   ⟨_, h.2.1 ({ device .run [(clsCycle, 0)] with cycle := { boundBy := some 0 }, disp := { slot := some 0 } } : State) later host (cardAt 0x2104 1) (takes (by decide +kernel)) (by decide +kernel) (by decide +kernel) (by decide +kernel) (noWaiting_of (by decide +kernel)) (by decide +kernel)⟩,
   ⟨_, h.2.2.1 (fixtureState .run {}) later host (cardAt 0x2104 1) (takes (by decide +kernel)) (by decide +kernel) (.inl (by decide +kernel)) (noWaiting_of (by decide +kernel)) (by decide +kernel)⟩,
   goesA (h.2.2.2 (fixtureState .run { boundBy := some 0 }) later host (cardAt 0x2104 1) (takes (by decide +kernel)) (by decide +kernel) (by decide +kernel) (by decide +kernel) (by decide +kernel) (.inl (by decide +kernel)) (noWaiting_of (by decide +kernel)))⟩

theorem witness_CellarTransactions (h : Obligations.CellarTransactions) :
    goesOn (exec (.hostKeyWrite later host 0 exampleWrapped) ((busyWith (keyState .idle { kek := some exampleKek })))) ∧
    goesOn (exec (.hostKeyWrite later host 0 exampleWrapped) ((keyState .idle { kek := some exampleKek }))) ∧
    goesOn (exec (.hostKeyWrite later host 0 []) ((busyWith (keyState .idle { kek := some exampleKek })))) ∧
    goesOn (exec (.store later host 0x65766173) ((busyWith (device .idle [(clsCycle, 0)])))) ∧
    goesOn (exec (.restoreDefaults later host 0x64616F6C) ((busyWith (device .idle [(clsCycle, 0)])))) ∧
    goesOn (exec (.store later host 1) (device .idle [(clsCycle, 0)])) ∧
    goesOn (exec (.restoreDefaults later host 1) (device .idle [(clsCycle, 0)])) ∧
    goesOn (exec (.cellarCommit later) ((openTxn .idle none 0))) ∧
    goesOn (exec (.cellarCommit later) ((openTxn .idle (some (.plain 0)) 0))) ∧
    goesOn (exec (.cellarAbandon later (.readBack 16)) ((openTxn .idle (some (.plain 0)) 0))) ∧
    goesOn (exec (.cellarAbandon later .space) ((openTxn .idle (some (.plain 0)) 1281))) ∧
    goesOn (exec (.cellarAbandon later .space) ((openTxn .idle none 1280))) ∧
    goesOn (exec (.cellarCommit later) ((openTxn .save none 0))) :=
  ⟨goes (h.1.1 (busyWith (keyState .idle { kek := some exampleKek })) later host 0 exampleWrapped (cardAt 0x2110 1) exampleKek exampleKey (takesBytes (by decide +kernel)) (by decide +kernel) (by decide +kernel) example_unwraps (by decide +kernel) (by decide +kernel) (by unfold State.cellarTakes; decide +kernel)),
   goes (h.1.1 (keyState .idle { kek := some exampleKek }) later host 0 exampleWrapped (cardAt 0x2110 1) exampleKek exampleKey (takesBytes (by decide +kernel)) (by decide +kernel) (by decide +kernel) example_unwraps (by decide +kernel) (by decide +kernel) (by unfold State.cellarTakes; decide +kernel)),
   goes (h.1.2.1 (busyWith (keyState .idle { kek := some exampleKek })) later host 0 (cardAt 0x2110 1) (takesBytes (by decide +kernel)) (by decide +kernel) (by decide +kernel) (by decide +kernel) (by unfold State.cellarTakes; decide +kernel)),
   goes (h.1.2.2.1 (busyWith (device .idle [(clsCycle, 0)])) later host 0x65766173 (cardAt 0x1010 1) (takes (by decide +kernel)) (by decide +kernel) (by unfold State.cellarTakes; decide +kernel)),
   goes (h.1.2.2.2.1 (busyWith (device .idle [(clsCycle, 0)])) later host 0x64616F6C (cardAt 0x1011 1) (takes (by decide +kernel)) (by decide +kernel) (by unfold State.cellarTakes; decide +kernel)),
   ⟨_, (h.1.2.2.2.2 (device .idle [(clsCycle, 0)]) later host 1 (cardAt 0x1010 1)).1 (takes (by decide +kernel)) (by decide +kernel)⟩,
   ⟨_, (h.1.2.2.2.2 (device .idle [(clsCycle, 0)]) later host 1 (cardAt 0x1011 1)).2 (takes (by decide +kernel)) (by decide +kernel)⟩,
   goes (h.2.1 (openTxn .idle none 0) later (theTxn none 0) ⟨by decide +kernel, .inl ⟨by decide +kernel, by decide +kernel, by decide +kernel⟩⟩ (by decide +kernel) (by decide +kernel) ⟨by decide +kernel, noWaiting_of (by decide +kernel), by decide +kernel⟩),
   goes (h.2.2.1 (openTxn .idle (some (.plain 0)) 0) later (theTxn (some (.plain 0)) 0) 0 ⟨by decide +kernel, .inl ⟨by decide +kernel, by decide +kernel, by decide +kernel⟩⟩ (by decide +kernel) (by decide +kernel) ⟨by decide +kernel, noWaiting_of (by decide +kernel), by decide +kernel⟩),
   goes (h.2.2.2.1 (openTxn .idle (some (.plain 0)) 0) later (theTxn (some (.plain 0)) 0) 0 16 ⟨by decide +kernel, .inl ⟨by decide +kernel, by decide +kernel, by decide +kernel⟩⟩ (by decide +kernel) ⟨by decide +kernel, noWaiting_of (by decide +kernel), by decide +kernel⟩ (unselected_of (by decide +kernel))),
   goes (h.2.2.2.2.1 (openTxn .idle (some (.plain 0)) 1281) later (theTxn (some (.plain 0)) 1281) 0 ⟨by decide +kernel, .inl ⟨by decide +kernel, by decide +kernel, by decide +kernel⟩⟩ (by decide +kernel) (by decide +kernel) ⟨by decide +kernel, noWaiting_of (by decide +kernel), by decide +kernel⟩ (unselected_of (by decide +kernel)) (unselected_of (by decide +kernel))),
   ⟨_, h.2.2.2.2.2.1 (openTxn .idle none 1280) later (theTxn none 1280) ⟨by decide +kernel, .inl ⟨by decide +kernel, by decide +kernel, by decide +kernel⟩⟩ (by decide +kernel) ⟨by decide +kernel, noWaiting_of (by decide +kernel), by decide +kernel⟩⟩,
   ⟨_, (h.2.2.2.2.2.2 (openTxn .save none 0) later .space (by decide +kernel) ⟨by decide +kernel, noWaiting_of (by decide +kernel), by decide +kernel⟩).1⟩⟩

theorem witness_CellarReplaysAndCompacts (h : Obligations.CellarReplaysAndCompacts) :
    State.objAt ({ device .wake [] with cellar := { State.reset.cellar with values := [(5, some 7)] } } : State).applyValues 5 = 7 ∧
    (device .wake []).replays.keys.failures = 0 ∧
    ({ device .wake [] with cellar := { State.reset.cellar with badAt := some 48, journal := 96 } } : State).replays.cellar.journal = 48 ∧
    (∃ off, (State.cellar ({ device .wake [] with cellar := { State.reset.cellar with badAt := some 48, journal := 96 } } : State)).replayStop = some off ∧ off ≤ 48) ∧
    (State.replays ({ device .wake [] with cellar := { State.reset.cellar with roots := [] } } : State)).cellar.stage = 5 ∧
    goesOn (exec (.compactionStart later) ((cellarState 2))) ∧
    goesOn (exec (.compactionEnd later) ((cellarState 3))) ∧
    goesOn (exec (.compactionEnd later) ((cellarState 3))) ∧
    goesOn (exec (.cellarEccError later .corrected) ((cellarState 2))) ∧
    goesOn (exec (.cellarEccError later ((.journal 5))) ((cellarState 2))) ∧
    goesOn (exec (.cellarEccError later (.item 1 5 0x300010)) (({ device .idle [] with cellar := { State.reset.cellar with stage := 2, values := [(5, some 7)], halves := [{ values := [(5, some 7)] }, {}] } } : State))) ∧
    goesOn (exec (.cellarEccError later (.journal 0x100010)) (({ device .idle [] with cellar := { State.reset.cellar with stage := 2, journal := 96 } } : State))) ∧
    goesOn (exec (.cellarEccError later (.root 0 16)) ((cellarState 2))) ∧
    goesOn (exec (.cellarEccError later .roots) ((openTxn .idle none 0))) :=
  ⟨h.2.1 ({ device .wake [] with cellar := { State.reset.cellar with values := [(5, some 7)] } } : State) 5 7 (by decide +kernel) (by decide +kernel),
   (h.2.2.1 (device .wake []) (by decide +kernel) ⟨0, by decide +kernel⟩ (by decide +kernel) (by decide +kernel)).2.1,
   (h.2.2.2.1 ({ device .wake [] with cellar := { State.reset.cellar with badAt := some 48, journal := 96 } } : State) 48 (by decide +kernel) ⟨0, by decide +kernel⟩ (by decide +kernel) (by decide +kernel)).2.1,
   h.2.2.2.2.1 ({ device .wake [] with cellar := { State.reset.cellar with badAt := some 48, journal := 96 } } : State) 48 (by decide +kernel),
   h.2.2.2.2.2.1 ({ device .wake [] with cellar := { State.reset.cellar with roots := [] } } : State) (by decide +kernel),
   ⟨_, h.2.2.2.2.2.2.1 (cellarState 2) later (by decide +kernel) (by decide +kernel) (by decide +kernel)⟩,
   ⟨_, h.2.2.2.2.2.2.2.1 (cellarState 3) later (by decide +kernel) (by decide +kernel) (unselected_of (by decide +kernel))⟩,
   goes (h.2.2.2.2.2.2.2.2.1 (cellarState 3) later (by decide +kernel) ⟨0, by decide +kernel⟩ (by decide +kernel) (by decide +kernel) (by decide +kernel) (by decide +kernel)),
   ⟨_, h.2.2.2.2.2.2.2.2.2.1 (cellarState 2) later ⟨by decide +kernel, noWaiting_of (by decide +kernel), by decide +kernel⟩⟩,
   ⟨_, h.2.2.2.2.2.2.2.2.2.2.1 (cellarState 2) later (.journal 5) ⟨by decide +kernel, noWaiting_of (by decide +kernel), by decide +kernel⟩ (by decide +kernel)⟩,
   goes (h.2.2.2.2.2.2.2.2.2.2.2.1 ({ device .idle [] with cellar := { State.reset.cellar with stage := 2, values := [(5, some 7)], halves := [{ values := [(5, some 7)] }, {}] } } : State) later 5 0x300010 { values := [(5, some 7)] } ⟨by decide +kernel, noWaiting_of (by decide +kernel), by decide +kernel⟩ (unselected_of (by decide +kernel)) (by decide +kernel) (by decide +kernel) (by decide +kernel) (by decide +kernel)),
   goes (h.2.2.2.2.2.2.2.2.2.2.2.2.1 ({ device .idle [] with cellar := { State.reset.cellar with stage := 2, journal := 96 } } : State) later 0x100010 ⟨by decide +kernel, noWaiting_of (by decide +kernel), by decide +kernel⟩ (unselected_of (by decide +kernel)) (by decide +kernel) (by decide +kernel) (by decide +kernel)),
   goes (h.2.2.2.2.2.2.2.2.2.2.2.2.2.1 (cellarState 2) later 0 16 ⟨by decide +kernel, noWaiting_of (by decide +kernel), by decide +kernel⟩ (unselected_of (by decide +kernel)) (by decide +kernel) (by decide +kernel)),
   goes (h.2.2.2.2.2.2.2.2.2.2.2.2.2.2 (openTxn .idle none 0) later ⟨by decide +kernel, noWaiting_of (by decide +kernel), by decide +kernel⟩)⟩

theorem witness_GovernorKeepsTheBooks (h : Obligations.GovernorKeepsTheBooks) :
    goesOn (exec (.portFiguresSampled later (List.replicate 16 250) [{ src := .port 0, uv := 1000000, na := 5 }]) (device .idle [])) ∧
    goesOn (exec (.portFiguresSampled later ((List.replicate 16 250)) ([{ src := .port 0, uv := 1000000, na := 5 }, { src := .port 0, uv := 5, na := 6 }])) ((device .idle []))) ∧
    goesOn (exec (.portFiguresSampled later ((List.replicate 16 250)) ([])) ((device .save []))) ∧
    goesOn (exec (.governorPeriodEnd 4000000 0) ((device .idle []))) ∧
    goesOn (exec (.governorPeriodEnd 4000000 0) ((device .idle []))) ∧
    goesOn (exec (.governorPeriodEnd later 0) ((device .save []))) ∧
    allowedPower 45000 700 600 = 45000 ∧
    allowedPower 45000 700 700 = min 6000 45000 ∧
    (6000 ≤ allowedPower 45000 700 650 ∧ allowedPower 45000 700 650 ≤ 45000) ∧
    dieAllowance 1000 700 650 ≤ 1000 :=
  ⟨goes (h.1 (device .idle []) later (List.replicate 16 250) 0 1000000 5 (by decide +kernel)),
   goes (h.2.1 (device .idle []) later (List.replicate 16 250) [{ src := .port 0, uv := 1000000, na := 5 }, { src := .port 0, uv := 5, na := 6 }] (by decide +kernel)),
   ⟨_, h.2.2.1 (device .save []) later (List.replicate 16 250) [] (by decide +kernel)⟩,
   (by obtain ⟨u, f, _, w, _⟩ := h.2.2.2.1 (device .idle []) 4000000 0 (by decide +kernel) (by decide +kernel); exact ⟨_, w⟩),
   goes (h.2.2.2.2.1 (device .idle []) 4000000 0 (by decide +kernel) (by decide +kernel) ⟨by decide +kernel, noWaiting_of (by decide +kernel), by decide +kernel⟩ (by decide +kernel) (by decide +kernel)),
   ⟨_, h.2.2.2.2.2.1 (device .save []) later 0 (.inl (by decide +kernel)) (noWaiting_of (by decide +kernel)) (by decide +kernel)⟩,
   (h.2.2.2.2.2.2.1 45000 700 600).1 (by decide),
   (h.2.2.2.2.2.2.1 45000 700 700).2.1 (by decide),
   (h.2.2.2.2.2.2.1 45000 700 650).2.2 (by decide) (by decide) (by decide),
   (h.2.2.2.2.2.2.2 1000 700 650 (by decide +kernel)).1⟩

theorem witness_RangesIncludeTheirEnds (h : Obligations.RangesIncludeTheirEnds) :
    Card.rangeAbort { lo := 0, hi := 0, ty := .u8, acc := .rw, dflt := 0, min := 1, max := 5, mask := 0 } 5 = none ∧
    goesOn (exec (.objectWrite later host 0x3000 4 ([6])) ((device .idle [(clsPort, 0)]))) ∧
    goesOn (exec (.objectWrite later host 0x3000 2 ((natLe 4 (2 ^ 32 - 5000001)))) ((device .idle [(clsPort, 0)]))) :=
  ⟨(h.1 { lo := 0, hi := 0, ty := .u8, acc := .rw, dflt := 0, min := 1, max := 5, mask := 0 } 5 (by decide +kernel) (by decide +kernel) (by decide +kernel) (by decide +kernel)).mpr (by decide),
   goes ((by refine h.2.1 (device .idle [(clsPort, 0)]) later host 0x3000 4 [6] (cardAt 0x3000 4) (reachesRange (by decide +kernel)) ?_ ?_ ?_ ?_ ?_ (noWaiting_of (by decide +kernel)) ?_ <;> decide +kernel)),
   goes ((by refine h.2.2 (device .idle [(clsPort, 0)]) later host 0x3000 2 (natLe 4 (2 ^ 32 - 5000001)) (cardAt 0x3000 2) (reachesRange (by decide +kernel)) ?_ ?_ ?_ ?_ ?_ ?_ (noWaiting_of (by decide +kernel)) ?_ <;> decide +kernel))⟩

theorem witness_RequestsAreJudged (h : Obligations.RequestsAreJudged) :
    goesOn (exec (.objectWrite later host 0x2000 2 ([5])) ((device .off []))) ∧
    goesOn (exec (.objectWrite later host 0x2000 2 ([5])) ((openTxn .idle (some (.plain 0)) 0))) ∧
    goesOn (exec (.objectWrite later host 0x2FFF 1 [5]) (device .idle [])) ∧
    goesOn (exec (.objectWrite later host 0x2000 0x70 [5]) (device .idle [])) ∧
    goesOn (exec (.objectWrite later host 0x2000 1 [5]) (device .idle [])) ∧
    goesOn (exec (.objectWrite later (.session 1) 0x2101 2 [5]) (device .idle [])) ∧
    goesOn (exec (.objectWrite later host 0x2101 2 [5]) (device .idle [])) ∧
    goesOn (exec (.objectWrite later host 0x1017 0 ((natLe 2 0))) ((device .idle [(clsCycle, 0)]))) ∧
    goesOn (exec (.objectWrite later host 0x1017 0 ((natLe 2 10))) ((device .idle [(clsCycle, 0)]))) :=
  ⟨⟨_, h.1 (device .off []) later host 0x2000 2 [5] (by decide +kernel) (noWaiting_of (by decide +kernel)) (by decide +kernel)⟩,
   ⟨_, h.2.1 (openTxn .idle (some (.plain 0)) 0) later host 0x2000 2 [5] 0 (by decide +kernel) (by decide +kernel) (by decide +kernel) (by decide +kernel)⟩,
   ⟨_, (h.2.2.1 (device .idle []) later host 0x2FFF 1 [5] (by decide +kernel) (by decide +kernel) (noWaiting_of (by decide +kernel)) (by decide +kernel)).1 (by decide +kernel)⟩,
   ⟨_, (h.2.2.1 (device .idle []) later host 0x2000 0x70 [5] (by decide +kernel) (by decide +kernel) (noWaiting_of (by decide +kernel)) (by decide +kernel)).2.1 (by decide +kernel) (by decide +kernel)⟩,
   ⟨_, (h.2.2.1 (device .idle []) later host 0x2000 1 [5] (by decide +kernel) (by decide +kernel) (noWaiting_of (by decide +kernel)) (by decide +kernel)).2.2 (cardAt 0x2000 1) (by decide +kernel) |>.1 (.inl (by decide +kernel))⟩,
   ⟨_, (h.2.2.1 (device .idle []) later (.session 1) 0x2101 2 [5] (by decide +kernel) (by decide +kernel) (noWaiting_of (by decide +kernel)) (by decide +kernel)).2.2 (cardAt 0x2101 2) (by decide +kernel) |>.2.1 (by decide +kernel) (by decide +kernel) 0x0F010001 (by decide +kernel)⟩,
   ⟨_, (h.2.2.1 (device .idle []) later host 0x2101 2 [5] (by decide +kernel) (by decide +kernel) (noWaiting_of (by decide +kernel)) (by decide +kernel)).2.2 (cardAt 0x2101 2) (by decide +kernel) |>.2.2 (by decide +kernel) (by decide +kernel) (by decide +kernel) (by decide +kernel)⟩,
   ⟨_, h.2.2.2 (device .idle [(clsCycle, 0)]) later host (natLe 2 0) (cardAt 0x1017 0) 0 (takes (by decide +kernel)) (by decide +kernel) (.inl (by decide)) (noWaiting_of (by decide +kernel)) (by decide +kernel)⟩,
   ⟨_, h.2.2.2 (device .idle [(clsCycle, 0)]) later host (natLe 2 10) (cardAt 0x1017 0) 10 (takes (by decide +kernel)) (by decide +kernel) (.inr (by decide)) (noWaiting_of (by decide +kernel)) (by decide +kernel)⟩⟩

theorem witness_SuppliesAndResets (h : Obligations.SuppliesAndResets) :
    goesOn (exec (.vsupGood later 48000) ((powerState .off { vio := some true, advance := false }))) ∧
    goesOn (exec (.vsupGood later 4300) ((powerState .off { vio := some true, advance := false }))) ∧
    goesOn (exec (.vsupGood later 48000) ((powerState .idle { vio := some true, advance := false }))) ∧
    goesOn (exec (.vsupGood later 48000) ((powerState .off { vio := some true, advance := false, rstnLow := true }))) ∧
    goesOn (exec (.powerFail later 4200) ((powerState .idle { vio := some true, advance := false }))) ∧
    goesOn (exec (.powerFail later 4100) ((powerState .idle { vio := some true, advance := false }))) ∧
    goesOn (exec (.powerFail later 4100) ((powerState .wake { vio := some true, advance := false }))) ∧
    goesOn (exec (.saveEnd later) ((powerState .save { vio := some true, advance := false }))) ∧
    goesOn (exec (.saveEnd 12000000) ((powerState .save { vio := some true, advance := false }))) ∧
    goesOn (exec (.saveSupplyCollapse later) ((powerState .save { vio := some true, advance := false }))) ∧
    goesOn (exec (.vbatLost later) ((powerState .idle { vio := some true, advance := false }))) ∧
    goesOn (exec (.vbatLost later) ((powerState .keep { vio := some true, advance := false, vsupGood := false }))) ∧
    goesOn (exec (.vioChange later 3300) (powerState .idle { vio := some true, advance := false })) ∧
    exec (.vioChange later 1800) (powerState .idle { vio := some true, advance := false, vioFell := false, vioLast := some true }) = .fault .vioBandSkipped ∧
    goesOn (exec (.resetCommand later host 0x746F6F62) ((modeState .idle))) ∧
    goesOn (exec (.resetCommand later host 0x746F6F62) ((device .run [(clsCycle, 0)]))) ∧
    goesOn (exec (.rstnLow later) ((powerState .idle { vio := some true, advance := false }))) ∧
    goesOn (exec (.rstnLow later) ((powerState .idle { vio := none, advance := false }))) ∧
    goesOn (exec (.rstnLow later) ((powerState .save { vio := some true, advance := false }))) ∧
    goesOn (exec (.rstnRelease later) ((powerState .wake { vio := some true, advance := false, rstnLow := true }))) ∧
    goesOn (exec (.rstnRelease later) ((powerState .off { vio := some true, advance := false, rstnLow := true }))) ∧
    goesOn (exec (.watchdogExpired later) (powerState .idle { vio := some true, advance := false })) ∧
    goesOn (exec (.watchdogExpired later) (powerState .save { vio := some true, advance := false })) ∧
    goesOn (exec (.coreBrownOut later) (powerState .save { vio := some true, advance := false })) :=
  ⟨goes (h.1.1 (powerState .off { vio := some true, advance := false }) later 48000 (by decide +kernel) (.inl (by decide +kernel)) (by decide +kernel)),
   ⟨_, h.1.2.1 (powerState .off { vio := some true, advance := false }) later 4300 (by decide +kernel)⟩,
   ⟨_, h.1.2.2.1 (powerState .idle { vio := some true, advance := false }) later 48000 (by decide +kernel) (by decide +kernel) (by decide +kernel)⟩,
   goes (h.1.2.2.2.1 (powerState .off { vio := some true, advance := false, rstnLow := true }) later 48000 (by decide +kernel) (.inl (by decide +kernel)) (by decide +kernel)),
   ⟨_, h.1.2.2.2.2.1 (powerState .idle { vio := some true, advance := false }) later 4200 (by decide +kernel)⟩,
   goes (h.1.2.2.2.2.2.1 (powerState .idle { vio := some true, advance := false }) later 4100 (by decide +kernel) (by decide +kernel)),
   goes (h.1.2.2.2.2.2.2.1 (powerState .wake { vio := some true, advance := false }) later 4100 (by decide +kernel) (by decide +kernel)),
   ⟨_, h.1.2.2.2.2.2.2.2.1 (powerState .save { vio := some true, advance := false }) later (by decide +kernel) (by decide +kernel)⟩,
   goes (h.1.2.2.2.2.2.2.2.2.1 (powerState .save { vio := some true, advance := false }) 12000000 (by decide +kernel) (by decide +kernel)),
   goes (h.1.2.2.2.2.2.2.2.2.2.1 (powerState .save { vio := some true, advance := false }) later (by decide +kernel)),
   ⟨_, h.1.2.2.2.2.2.2.2.2.2.2.2.1 (powerState .idle { vio := some true, advance := false }) later (by decide +kernel)⟩,
   goes (h.1.2.2.2.2.2.2.2.2.2.2.2.2.1 (powerState .keep { vio := some true, advance := false, vsupGood := false }) later (by decide +kernel) (by decide +kernel)),
   goes ((h.1.2.2.2.2.2.2.2.2.2.2.2.2.2 (powerState .idle { vio := some true, advance := false }) later 3300).1 (by decide +kernel)),
   (h.1.2.2.2.2.2.2.2.2.2.2.2.2.2 (powerState .idle { vio := some true, advance := false, vioFell := false, vioLast := some true }) later 1800).2 (by decide +kernel),
   goes (h.2.1 (modeState .idle) later host 0x746F6F62 (cardAt 0x2000 3) (takes (by decide +kernel)) (by decide +kernel) (.inr (.inl (by decide +kernel))) (by decide +kernel)),
   ⟨_, h.2.2.1 (device .run [(clsCycle, 0)]) later host 0x746F6F62 (cardAt 0x2000 3) (takes (by decide +kernel)) (by decide +kernel) (by decide +kernel) (by decide +kernel) (by decide +kernel)⟩,
   goes (h.2.2.2.1 (powerState .idle { vio := some true, advance := false }) later (by decide +kernel) (by decide +kernel)),
   ⟨_, h.2.2.2.2.1 (powerState .idle { vio := none, advance := false }) later (by decide +kernel)⟩,
   ⟨_, h.2.2.2.2.2.1 (powerState .save { vio := some true, advance := false }) later (by decide +kernel) (by decide +kernel)⟩,
   goes (h.2.2.2.2.2.2.1 (powerState .wake { vio := some true, advance := false, rstnLow := true }) later (by decide +kernel) (by decide +kernel)),
   goes (h.2.2.2.2.2.2.2.1 (powerState .off { vio := some true, advance := false, rstnLow := true }) later (by decide +kernel) (.inl (by decide +kernel)) (by decide +kernel)),
   (by obtain ⟨u, v, w, _⟩ := h.2.2.2.2.2.2.2.2.1 (powerState .idle { vio := some true, advance := false }) later (by decide +kernel); exact ⟨_, w⟩),
   ⟨_, (h.2.2.2.2.2.2.2.2.2.1 (powerState .save { vio := some true, advance := false }) later (by decide +kernel)).1⟩,
   ⟨_, (h.2.2.2.2.2.2.2.2.2.1 (powerState .save { vio := some true, advance := false }) later (by decide +kernel)).2⟩⟩

theorem witness_ModesAndHold (h : Obligations.ModesAndHold) :
    goesOn (exec (.readinessSet later 7) ((device .idle []))) ∧
    goesOn (exec (.readinessSet later 8) (((powerState .idle { vio := some true, advance := false }).setObj 0x2001 1 0))) ∧
    goesOn (exec (.readinessSet later 0) ((wakeState 0x9E { vio := some true, advance := false }))) ∧
    goesOn (exec (.advanceToIdle later) (({ modeState .safe with power := { vio := some true, advance := true } } : State))) ∧
    goesOn (exec (.advanceToIdle later) ((({ modeState .safe with power := { vio := some true, advance := true }, cellar := { State.reset.cellar with items := [(5 * 2 ^ 32, some noZones)], stage := 2 } } : State).setObj 0x2700 0x0C 0))) ∧
    goesOn (exec (.advanceToIdle later) ((device .idle []))) ∧
    goesOn (exec (.modeRequestSafe later host) ((modeState .idle))) ∧
    goesOn (exec (.modeRequestSafe later host) ((modeState .hold))) ∧
    goesOn (exec (.modeRequestSafe later host) (({ modeState .quiesce with map := { phase := .pass1 } } : State))) ∧
    goesOn (exec (.modeRequestSafe later host) ((modeState .quiesce))) ∧
    goesOn (exec (.modeRequestIdle later host) ((modeState .safe))) ∧
    goesOn (exec (.modeRequestIdle later host) (((modeState .safe).setObj 0x2001 1 0x1F))) ∧
    goesOn (exec (.modeRequestIdle later host) ((modeState .hold))) ∧
    goesOn (exec (.modeRequestIdle later host) (({ modeState .hold with power := { vio := some true, advance := false, causes := [.interlock] } } : State))) ∧
    goesOn (exec (.modeRequestIdle later host) ((({ modeState .hold with power := { vio := some true, advance := false } } : State).setObj 0x3711 1 0x30 |>.setPin 17 { outside := some false }))) ∧
    goesOn (exec (.modeRequestResume later host) ((modeState .quiesce))) ∧
    goesOn (exec (.modeRequestQuiesce later host) ((modeState .idle))) ∧
    goesOn (exec (.modeRequestHold later host) ((modeState .idle))) ∧
    goesOn (exec (.modeRequestResume later host) ((modeState .idle))) ∧
    goesOn (exec (.holdCause later (.sensorFault) 5) ((modeState .idle))) ∧
    goesOn (exec (.holdCause later (.sensorFault) 5) ((modeState .safe))) ∧
    goesOn (exec (.holdCause later (.sensorFault) 5) ((powerState .wake { vio := some true, advance := false }))) ∧
    goesOn (exec (.holdCauseCleared later (.sensorFault)) ((device .wake []))) ∧
    goesOn (exec (.holdCauseCleared later (.portRail)) ((powerState .safe { vio := some true, advance := false, causes := [.portRail] }))) ∧
    goesOn (exec (.holdCauseCleared later (.sensorFault)) ((modeState .idle))) ∧
    goesOn (exec (.interlockTrip later) ((interlockState .idle))) ∧
    goesOn (exec (.interlockTrip 1000001) ((interlockState .idle))) ∧
    goesOn (exec (.quiesceDrained later) ((modeState .quiesce))) ∧
    goesOn (exec (.quiesceDrained later) ((modeState .idle))) :=
  ⟨⟨_, h.1.1 (device .idle []) later 7 (.inl (by decide +kernel))⟩,
   goes (h.1.2.1 ((powerState .idle { vio := some true, advance := false }).setObj 0x2001 1 0) later 8 (by decide +kernel) (by decide +kernel) (by decide +kernel) (unselected_of (by decide +kernel))),
   goes ((by refine h.1.2.2.1 (wakeState 0x9E { vio := some true, advance := false }) later 0 ?_ ?_ ?_ ?_ ?_ ?_ (unselected_of (by decide +kernel)) <;> decide +kernel)),
   goes ((by refine h.1.2.2.2.1 ({ modeState .safe with power := { vio := some true, advance := true } } : State) later ?_ ?_ ?_ ?_ ?_ <;> decide +kernel)),
   goes ((by refine h.1.2.2.2.2.1 (({ modeState .safe with power := { vio := some true, advance := true }, cellar := { State.reset.cellar with items := [(5 * 2 ^ 32, some noZones)], stage := 2 } } : State).setObj 0x2700 0x0C 0) later ?_ ?_ ?_ ?_ ?_ ?_ <;> decide +kernel)),
   ⟨_, h.1.2.2.2.2.2 (device .idle []) later (.inl (by decide +kernel))⟩,
   goes (h.2.1.1 (modeState .idle) later host (cardAt 0x2000 2) (takesRequest (by decide +kernel) (by decide +kernel)) (by decide +kernel)),
   goes (h.2.1.2.1 (modeState .hold) later host (cardAt 0x2000 2) (takesRequest (by decide +kernel) (by decide +kernel)) (by decide +kernel) (by decide +kernel) (by decide +kernel)),
   ⟨_, h.2.1.2.2.1 ({ modeState .quiesce with map := { phase := .pass1 } } : State) later host (cardAt 0x2000 2) (takesRequest (by decide +kernel) (by decide +kernel)) (by decide +kernel) (by decide +kernel)⟩,
   goes (h.2.1.2.2.2.1 (modeState .quiesce) later host (cardAt 0x2000 2) (takesRequest (by decide +kernel) (by decide +kernel)) (by decide +kernel) (by decide +kernel) (by decide +kernel)),
   goes (h.2.1.2.2.2.2.1 (modeState .safe) later host (cardAt 0x2000 2) (takesRequest (by decide +kernel) (by decide +kernel)) (by decide +kernel) (by decide +kernel)),
   ⟨_, h.2.1.2.2.2.2.2.1 ((modeState .safe).setObj 0x2001 1 0x1F) later host (cardAt 0x2000 2) (takesRequest (by decide +kernel) (by decide +kernel)) (by decide +kernel) (by decide +kernel)⟩,
   goes (h.2.1.2.2.2.2.2.2.1 (modeState .hold) later host (cardAt 0x2000 2) (takesRequest (by decide +kernel) (by decide +kernel)) (by decide +kernel) (by decide +kernel) (by decide +kernel)),
   ⟨_, h.2.1.2.2.2.2.2.2.2.1 ({ modeState .hold with power := { vio := some true, advance := false, causes := [.interlock] } } : State) later host (cardAt 0x2000 2) (takesRequest (by decide +kernel) (by decide +kernel)) (by decide +kernel) (.inl (by decide +kernel))⟩,
   ⟨_, h.2.1.2.2.2.2.2.2.2.1 (({ modeState .hold with power := { vio := some true, advance := false } } : State).setObj 0x3711 1 0x30 |>.setPin 17 { outside := some false }) later host (cardAt 0x2000 2) (takesRequest (by decide +kernel) (by decide +kernel)) (by decide +kernel) (.inr (by decide +kernel))⟩,
   goes (h.2.1.2.2.2.2.2.2.2.2.1 (modeState .quiesce) later host (cardAt 0x2000 2) (takesRequest (by decide +kernel) (by decide +kernel))),
   goes (h.2.1.2.2.2.2.2.2.2.2.2.1 (modeState .idle) later host (cardAt 0x2000 2) (takesRequest (by decide +kernel) (by decide +kernel)) (unselected_of (by decide +kernel))),
   goes (h.2.1.2.2.2.2.2.2.2.2.2.2.1 (modeState .idle) later host (cardAt 0x2000 2) (takesRequest (by decide +kernel) (by decide +kernel))),
   ⟨_, h.2.1.2.2.2.2.2.2.2.2.2.2.2 (modeState .idle) later host (cardAt 0x2000 2) (takes (by decide +kernel)) (by decide +kernel) (by decide +kernel) (noWaiting_of (by decide +kernel)) (by decide +kernel)⟩,
   goes (h.2.2.1 (modeState .idle) later .sensorFault 5 (by decide +kernel) (by decide +kernel) (by decide +kernel) (noWaiting_of (by decide +kernel))),
   goes (h.2.2.2.1 (modeState .safe) later .sensorFault 5 (by decide +kernel) (by decide +kernel) (by decide +kernel) (noWaiting_of (by decide +kernel))),
   ⟨_, h.2.2.2.2.1 (powerState .wake { vio := some true, advance := false }) later .sensorFault 5 (by decide +kernel) (by intro x hx; cases hx) (by decide +kernel) (noWaiting_of (by decide +kernel))⟩,
   ⟨_, h.2.2.2.2.2.1 (device .wake []) later .sensorFault (by decide +kernel)⟩,
   ⟨_, h.2.2.2.2.2.2.1 (powerState .safe { vio := some true, advance := false, causes := [.portRail] }) later .portRail (by decide +kernel) (by decide +kernel) (by decide +kernel) (by decide +kernel) (unselected_of (by decide +kernel))⟩,
   ⟨_, h.2.2.2.2.2.2.2.1 (modeState .idle) later .sensorFault (by decide +kernel) (.inl (by decide +kernel))⟩,
   goes ((by refine h.2.2.2.2.2.2.2.2.1 (interlockState .idle) later 1000000 ?_ ?_ ?_ ?_ ?_ <;> decide +kernel)),
   ⟨_, h.2.2.2.2.2.2.2.2.2.1 (interlockState .idle) 1000001 1000000 (by decide +kernel) (by decide +kernel)⟩,
   ⟨_, h.2.2.2.2.2.2.2.2.2.2.1 (modeState .quiesce) later (by decide +kernel) (by decide +kernel) (unselected_of (by decide +kernel))⟩,
   ⟨_, h.2.2.2.2.2.2.2.2.2.2.2 (modeState .idle) later (.inl (by decide +kernel))⟩⟩

theorem witness_CalibrationRuns (h : Obligations.CalibrationRuns) :
    goesOn (exec (.calibrationUnitStart later) ((calState .idle busRun))) ∧
    goesOn (exec (.calibrationUnitStart later) ((calState .idle { busRun with stage := 1 }))) ∧
    goesOn (exec (.calibrationUnitStart later) (((calState .idle { stage := 2, left := [0], whole := [0], preempting := [0] }).setObj 0x3200 1 1))) ∧
    goesOn (exec (.calibrationUnitStart later) ((calState .safe busRun))) ∧
    goesOn (exec (.calibrationUnitEnd later ({ atZero := 501, atFull := 2048600, path := { mean := 0, peak := 0 }, residual := { mean := 0, peak := 0 } })) ((inUnit { stage := 2, left := [3], whole := [3] } 0))) ∧
    goesOn (exec (.calibrationUnitEnd later ({ atZero := -5, atFull := 20000100, path := { mean := 0, peak := 0 }, residual := { mean := 0, peak := 0 } })) ((inUnit { stage := 2, left := [3], whole := [3] } 2))) ∧
    goesOn (exec (.calibrationUnitEnd later ({ atZero := 0, atFull := 0, path := { mean := 5000000, peak := 0 }, residual := { mean := 0, peak := 0 } })) (((inUnit { stage := 2, left := [3], whole := [3] } 6).setObj 0x2611 1 0xFFFFFFFF))) ∧
    goesOn (exec (.calibrationDeadline 1000000000000 0 ((.bus 0))) ((calState .idle { busRun with mayPreempt := true }))) ∧
    goesOn (exec (.calibrationDeadline 1000000000000 0 ((.bus 0))) ((calState .idle busRun))) ∧
    goesOn (exec (.calibrationRetry later 0) ((calState .idle { retryAt := some 2000000 }))) ∧
    goesOn (exec (.calibrateDies later host) (((calState .idle {}).setObj 0x2610 3 5))) ∧
    goesOn (exec (.calibrateDies later host) (((calState .idle busRun).setObj 0x2610 3 1))) ∧
    goesOn (exec (.calibrateQuad later host) (((calState .idle {}).setObj 0x2610 3 5))) ∧
    goesOn (exec (.cancelDueRuns later host) ((calState .idle { busRun with stage := 1 }))) ∧
    goesOn (exec (.globalCalibration later host) ((calState .quiesce {}))) ∧
    goesOn (exec (.globalCalibrationEnd later ([])) (({ calState .calibrate {} with cal := { State.reset.cal with global := true } } : State))) ∧
    goesOn (exec (.globalCalibrationEnd later ([])) ((calState .idle {}))) ∧
    goesOn (exec (.setImport later host 1 ((exampleSet 1))) ((busyWith (calState .idle {})))) ∧
    goesOn (exec (.setImport later host 1 ((List.replicate 34880 0#8))) ((calState .idle {}))) :=
  ⟨goes (h.1.1 (calState .idle busRun) later 0 16 (by decide +kernel) (by decide +kernel) (by decide +kernel) (by decide +kernel)),
   goes (h.1.2.1 (calState .idle { busRun with stage := 1 }) later 0 16 (by decide +kernel) (by decide +kernel) (by decide +kernel) (by decide +kernel)),
   goes (h.1.2.2.1 ((calState .idle { stage := 2, left := [0], whole := [0], preempting := [0] }).setObj 0x3200 1 1) later 0 0 0 (by decide +kernel) (by decide +kernel) (by decide +kernel) (by decide +kernel)),
   ⟨_, h.1.2.2.2.1 (calState .safe busRun) later (.inr (.inl (by decide +kernel)))⟩,
   goes ((by refine h.1.2.2.2.2.1 (inUnit { stage := 2, left := [3], whole := [3] } 0) later { atZero := 501, atFull := 2048600, path := { mean := 0, peak := 0 }, residual := { mean := 0, peak := 0 } } { die := 0, item := 3, unit := 0, startedAt := 1000000, preempted := false } 259 2048000 500 ?_ ?_ ?_ ?_ ?_ ?_ <;> decide +kernel)),
   goes ((by refine h.1.2.2.2.2.1 (inUnit { stage := 2, left := [3], whole := [3] } 2) later { atZero := -5, atFull := 20000100, path := { mean := 0, peak := 0 }, residual := { mean := 0, peak := 0 } } { die := 0, item := 3, unit := 2, startedAt := 1000000, preempted := false } 13 20000000 1000 ?_ ?_ ?_ ?_ ?_ ?_ <;> decide +kernel)),
   goes ((by refine h.1.2.2.2.2.2.1 ((inUnit { stage := 2, left := [3], whole := [3] } 6).setObj 0x2611 1 0xFFFFFFFF) later { atZero := 0, atFull := 0, path := { mean := 5000000, peak := 0 }, residual := { mean := 0, peak := 0 } } { die := 0, item := 3, unit := 6, startedAt := 1000000, preempted := false } 13 ?_ ?_ ?_ ?_ ?_ ?_ ?_ ?_ ?_ <;> decide +kernel)),
   ⟨_, (by refine h.1.2.2.2.2.2.2.1 (calState .idle { busRun with mayPreempt := true }) 1000000000000 0 (.bus 0) ?_ ?_ ?_ ?_ ?_ <;> decide +kernel)⟩,
   goes ((by refine h.1.2.2.2.2.2.2.2.1 (calState .idle busRun) 1000000000000 0 (.bus 0) ?_ ?_ ?_ ?_ ?_ <;> decide +kernel)),
   ⟨_, h.1.2.2.2.2.2.2.2.2 (calState .idle { retryAt := some 2000000 }) later 0 2000000 (by decide +kernel) (by decide +kernel) (by decide +kernel) (by decide +kernel)⟩,
   goesA (h.2.1 ((calState .idle {}).setObj 0x2610 3 5) later host (cardAt 0x2610 2) (takes (by decide +kernel)) (by decide +kernel) (by decide +kernel)),
   ⟨_, h.2.2.1 ((calState .idle busRun).setObj 0x2610 3 1) later host (cardAt 0x2610 2) 0 (takes (by decide +kernel)) (by decide +kernel) (by decide +kernel) (by decide +kernel) (by decide +kernel)⟩,
   ⟨_, h.2.2.2.1 ((calState .idle {}).setObj 0x2610 3 5) later host (cardAt 0x2610 2) 5 (takes (by decide +kernel)) (by decide +kernel) (by decide +kernel) (by decide +kernel) (by decide +kernel)⟩,
   goesA (h.2.2.2.2.1 (calState .idle { busRun with stage := 1 }) later host (cardAt 0x2610 2) (takes (by decide +kernel)) (by decide +kernel)),
   goesA ((by refine h.2.2.2.2.2.1 (calState .quiesce {}) later host (cardAt 0x2610 2) (takes (by decide +kernel)) ?_ ?_ ?_ ?_ ?_ <;> decide +kernel)),
   goes (h.2.2.2.2.2.2.1 ({ calState .calibrate {} with cal := { State.reset.cal with global := true } } : State) later [] (by decide +kernel) (by decide +kernel)),
   ⟨_, h.2.2.2.2.2.2.2.1 (calState .idle {}) later [] (by decide +kernel)⟩,
   goes (h.2.2.2.2.2.2.2.2.1 (busyWith (calState .idle {})) later host 1 (exampleSet 1) (cardAt 0x2640 2) (takesBytes_length (x := List.replicate 34880 0#8) (takesBytes (by decide +kernel)) (by rw [exampleSet_length, List.length_replicate])) (exampleSet_valid 1 (by decide)) (by decide +kernel) (by unfold State.cellarTakes; decide +kernel)),
   ⟨_, h.2.2.2.2.2.2.2.2.2 (calState .idle {}) later host 1 (List.replicate 34880 0#8) (cardAt 0x2640 2) (takesBytes (by decide +kernel)) (by decide +kernel)⟩⟩

theorem witness_StepRunsTheFrontCommand (h : Obligations.StepRunsTheFrontCommand) :
    goesOn (step State.reset) :=
  ⟨_, h.2 State.reset (by decide +kernel)⟩

theorem witness_CommandsKeepTheQueue (h : Obligations.CommandsKeepTheQueue) :
    goesOn (exec (.settlingEnd later 0) (device .idle [])) :=
  ⟨_, (have _w := h (.settlingEnd later 0) (device .idle []) _ rfl; rfl)⟩

theorem witness_StepKeepsInvariant (h : Obligations.StepKeepsInvariant) :
    (∃ u, step oneWaiting = .next u ∧ u.Inv) :=
  ⟨_, rfl, h oneWaiting _ (by refine ⟨?_, ?_, ?_, ?_, ?_, ?_, ?_, ?_, ?_⟩ <;> decide +kernel) rfl⟩

end

end Sys2Proof.Tests
end

section
/-!
SUPPORT. What no command leaves behind where nothing waits: requests that wait, a load and a commanded reset go on only where
there is one.
-/

namespace Sys2Proof.Machine

/-- No unbind is under way. -/
theorem unbindDue_of_none {s : State} (h : s.cycle.unbindAt = none) : s.unbindDue = s := by
  simp only [State.unbindDue, h]

/-- LOAD alone ends by itself. -/
theorem loadSettles_of_mode {s : State} (h : s.mode ≠ .load) : s.loadSettles = s := by
  simp [State.loadSettles, h]

/-- A walk that leaves the state at each of its steps leaves it. -/
theorem each_eq_self {s : State} {f : State → Nat → State} (l : List Nat) (h : ∀ n ∈ l, f s n = s) : s.each l f = s := by
  induction l with
  | nil => rfl
  | cons n l ih =>
    have hn : f s n = s := h n (by simp)
    simpa only [State.each, List.foldl_cons, hn] using ih fun m hm => h m (by simp [hm])

/-- A session that holds no request back and does not end stays as it is. -/
theorem endsNow_of_not_ending {s : State} {n : Nat} (h : (s.session n).ending = false) : s.endsNow n = s := by
  simp [State.endsNow, h]

theorem transportSettles_of_noWaiting {s : State} (h : s.noWaiting) : s.transportSettles = s := by
  refine each_eq_self _ fun n _ => ?_
  obtain ⟨hw, he⟩ := h.2 n
  simp [hw, endsNow_of_not_ending he]

/-- Nothing that waited goes on where nothing waits (R449, R469, R511). -/
theorem letGo_of_noWaiting {s : State} (h : s.noWaiting) (hm : s.mode ≠ .load) : s.letGo = s := by
  rw [State.letGo, unbindDue_of_none h.1, loadSettles_of_mode hm, transportSettles_of_noWaiting h]

/-- What waits depends on the sessions and on the cycle alone. -/
theorem noWaiting_congr {s u : State} (hc : u.cycle = s.cycle) (hs : u.sessions = s.sessions) (h : s.noWaiting) :
    u.noWaiting :=
  ⟨hc ▸ h.1, fun n => session_congr hs n ▸ h.2 n⟩

/-- A session replaced by one that holds nothing back and does not end. -/
theorem noWaiting_setSession {s : State} {n : Nat} {x : Session} (hw : x.waiting = []) (he : x.ending = false)
    (h : s.noWaiting) : (s.setSession n x).noWaiting := by
  refine ⟨h.1, fun m => ?_⟩
  by_cases e : m = n
  · subst e
    simp [hw, he]
  · simpa [e] using h.2 m

/-- A request that renews its lease makes nothing wait (R462). -/
theorem noWaiting_renew {s : State} (n : Nat) (h : s.noWaiting) : (s.renew n).noWaiting := by
  unfold State.renew
  split
  · exact noWaiting_setSession (h.2 n).1 (h.2 n).2 h
  · exact h

theorem noWaiting_advance {s : State} (t : Tk) (h : s.noWaiting) : (s.advance t).noWaiting :=
  noWaiting_congr (advance_cycle s t) (advance_sessions s t) h

theorem noWaiting_send {s : State} (o : Out) (h : s.noWaiting) : (s.send o).noWaiting :=
  noWaiting_congr (send_cycle s o) (send_sessions s o) h

theorem noWaiting_heard {s : State} (t : Tk) (a : Accessor) (h : s.noWaiting) : (s.heard t a).noWaiting := by
  cases a with
  | session n => exact noWaiting_renew n (noWaiting_advance t h)
  | core _ => exact noWaiting_advance t h

end Sys2Proof.Machine
end
section
/-!
SUPPORT. A write outside the range of its object (R9, R441, R442).
-/

namespace Sys2Proof.Machine

/-- The range of a card whose type has one: both ends are in it (R9). -/
theorem rangeAbort_of_span {c : Card} (v : Int) (h1 : c.ty ≠ .bool) (h2 : c.ty ≠ .real32) (h3 : c.ty ≠ .domain)
    (h4 : c.ty ≠ .str) :
    c.rangeAbort v = if c.max < v then some 0x06090031 else if v < c.min then some 0x06090032 else none := by
  cases e : c.ty <;> simp_all [Card.rangeAbort]

theorem isByteObject_of_card {idx sub : Nat} {c : Card} (h : cardOf idx sub = some c) : isByteObject idx sub = c.ty.isBytes := by
  simp [isByteObject, h]

/-- A write that passes every check before the range of its object meets that range. -/
theorem guardWrite_reaches {s : State} {t : Tk} {a : Accessor} {idx sub : Nat} {bytes : Bytes} {c : Card}
    (h : ReachesRange s t a idx sub bytes c) {code : Nat} (hr : c.rangeAbort (c.ty.value bytes) = some code) (k : Int → Res) :
    (s.heard t a).guardWrite a idx sub bytes k = refuse code := by
  simp only [State.guardWrite, headChecks_ok h.found h.writable h.session h.length h.whole, ok_bind,
    gateChecks_ok h.ready h.mode h.claim, hr, refuseWith_some]
  rfl

theorem isBytes_eq_false {ty : OType} (h1 : ty ≠ .domain) (h2 : ty ≠ .str) : ty.isBytes = false := by
  cases ty <;> simp_all [OType.isBytes]

/-- A write outside the range of its object is answered with the refusal of that range (R9). -/
theorem objectWrite_out_of_range {s : State} {t : Tk} {a : Accessor} {idx sub : Nat} {bytes : Bytes} {c : Card}
    (h : ReachesRange s t a idx sub bytes c) (hb : c.ty.isBytes = false) {code : Nat}
    (hr : c.rangeAbort (c.ty.value bytes) = some code) (hn : s.noWaiting) (hm : s.mode ≠ .load) :
    exec (.objectWrite t a idx sub bytes) s = .next ((s.heard t a).refusedWith code) := by
  have hl : ((s.heard t a).refusedWith code).letGo = (s.heard t a).refusedWith code :=
    letGo_of_noWaiting (noWaiting_send _ (noWaiting_heard t a hn)) (by simpa [State.refusedWith] using hm)
  simp only [exec, execObjectWrite, request_served h.served h.turn, State.writeObject, isByteObject_of_card h.found, hb,
    Bool.false_eq_true, if_false, guardWrite_reaches h hr, finish_refuse, afterwards, hl]

/-- A refused write leaves every object. -/
theorem refusedWith_obj (s : State) (t : Tk) (a : Accessor) (code idx sub : Nat) :
    ((s.heard t a).refusedWith code).obj idx sub = s.obj idx sub :=
  obj_congr ((send_objs _ _).trans (heard_objs s t a)) idx sub

end Sys2Proof.Machine

open Sys2Proof Sys2Proof.Machine

/-- Settles O59: an integer's range refusal is the two comparisons of R9, and a write that reaches it is refused with their
code. -/
theorem rangesIncludeTheirEnds : Obligations.RangesIncludeTheirEnds := by
  unfold Obligations.RangesIncludeTheirEnds
  refine ⟨fun c v h1 h2 h3 h4 => ?_, ?_, ?_⟩
  · rw [rangeAbort_of_span v h1 h2 h3 h4]
    split
    · simp; omega
    · split <;> simp <;> omega
  · intro s t a idx sub bytes c h h1 h2 h3 h4 hv hn hm
    have hr : c.rangeAbort (c.ty.value bytes) = some 0x06090031 := by
      rw [rangeAbort_of_span _ h1 h2 h3 h4, if_pos hv]
    exact ⟨_, objectWrite_out_of_range h (isBytes_eq_false h3 h4) hr hn hm, rfl, refusedWith_obj s t a _ idx sub⟩
  · intro s t a idx sub bytes c h h1 h2 h3 h4 hv hle hn hm
    have hr : c.rangeAbort (c.ty.value bytes) = some 0x06090032 := by
      rw [rangeAbort_of_span _ h1 h2 h3 h4, if_neg (by omega), if_pos hv]
    exact ⟨_, objectWrite_out_of_range h (isBytes_eq_false h3 h4) hr hn hm, rfl, refusedWith_obj s t a _ idx sub⟩
end

section
/-!
SUPPORT. The frames of the updates of the state, of a happening with all that it sets off (R129, R299), and of a log record (R529).
-/

namespace Sys2Proof.Machine

/-! ## Updates of one part -/

section
variable (s : State)

theorem changes_advance (t : Tk) : Changes [.now] s (s.advance t) := (changes_iff _ _ _).mpr rfl
theorem changes_setObjAt (k : Nat) (v : Int) : Changes [.objs] s (s.setObjAt k v) := (changes_iff _ _ _).mpr rfl
theorem changes_setObj (i j : Nat) (v : Int) : Changes [.objs] s (s.setObj i j v) := (changes_iff _ _ _).mpr rfl
theorem changes_countUp (i j d : Nat) : Changes [.objs] s (s.countUp i j d) := (changes_iff _ _ _).mpr rfl
theorem changes_setBlob (i j : Nat) (bs : Bytes) : Changes [.blobs] s (s.setBlob i j bs) := (changes_iff _ _ _).mpr rfl
theorem changes_setConv (q : Nat) (c : Converter) : Changes [.convs] s (s.setConv q c) := (changes_iff _ _ _).mpr rfl
theorem changes_setSource (n : Nat) (c : Source) : Changes [.sources] s (s.setSource n c) := (changes_iff _ _ _).mpr rfl
theorem changes_setTrigOut (o : Nat) (c : TrigOut) : Changes [.trigOuts] s (s.setTrigOut o c) := (changes_iff _ _ _).mpr rfl
theorem changes_setStep (k : Nat) (r : StepRec) : Changes [.disp] s (s.setStep k r) := (changes_iff _ _ _).mpr rfl
theorem changes_setSession (n : Nat) (x : Session) : Changes [.sessions] s (s.setSession n x) := (changes_iff _ _ _).mpr rfl
theorem changes_setCalRun (d : Nat) (r : CalRun) : Changes [.cal] s (s.setCalRun d r) := (changes_iff _ _ _).mpr rfl
theorem changes_setCalFigure (i : Nat) (f : CalFigure) : Changes [.cal] s (s.setCalFigure i f) := (changes_iff _ _ _).mpr rfl
theorem changes_nextFresh : Changes [.fresh] s s.nextFresh := (changes_iff _ _ _).mpr rfl
theorem changes_send (o : Out) : Changes [.outbox] s (s.send o) := (changes_iff _ _ _).mpr rfl
theorem changes_caused (i cau bit : Nat) : Changes [.objs] s (s.caused i cau bit) := changes_setObj s _ _ _

end

/-! ## A happening and what it sets off -/

/-- The parts that a happening with all that it sets off may change. -/
abbrev signalParts : List Part := [.objs, .convs, .disp, .sources, .trigOuts]

theorem changes_settleSource (s : State) (n : Nat) (relax : Bool) : Changes [.sources] s (s.settleSource n relax) := by
  unfold State.settleSource
  dsimp only
  have same := Changes.refl [.sources] s
  have set := changes_setSource s n
  split
  · exact same
  · split
    · exact set _
    · split
      · split
        · exact same
        · exact set _
      · split
        · exact same
        · exact set _

theorem changes_arrival (s : State) (n stamp : Nat) : Changes [.objs, .sources] s (s.arrival n stamp) := by
  unfold State.arrival
  dsimp only
  split
  · exact (changes_countUp _ _ _ _).step rfl ((changes_setSource s n _).mono rfl)
  · exact (changes_settleSource _ n false).step rfl ((changes_setSource s n _).mono rfl)

theorem changes_levelArrival (s : State) (n : Nat) : Changes [.objs, .sources] s (s.levelArrival n) := by
  unfold State.levelArrival
  dsimp only
  split
  · exact changes_arrival s n _
  · exact Changes.refl _ _

theorem changes_controllerEdge (s : State) (n stamp : Nat) (rising : Bool) :
    Changes [.objs, .sources] s (s.controllerEdge n stamp rising) := by
  unfold State.controllerEdge
  split
  · exact Changes.refl _ _
  · split
    · split
      · exact changes_levelArrival s n
      · exact Changes.refl _ _
    · split
      · exact changes_arrival s n stamp
      · exact Changes.refl _ _
    · split
      · exact Changes.refl _ _
      · exact changes_arrival s n stamp
    · exact changes_arrival s n stamp

theorem changes_setLevel (s : State) (n : Nat) (level : Bool) (stamp : Tk) :
    Changes [.objs, .sources] s (s.setLevel n level stamp) := by
  unfold State.setLevel
  dsimp only
  have h := fun x => (changes_setSource s n x).mono (l := [.objs, .sources]) rfl
  split
  · exact (changes_countUp _ _ _ _).step rfl (h _)
  · exact h _

theorem changes_edgeToSteps (s : State) (n stamp : Nat) (rising : Bool) :
    Changes [.disp] s (s.edgeToSteps n stamp rising) :=
  Changes.foldl _ (fun t x h => (changes_setStep t x.1 _).step rfl h) (Changes.refl _ _)

theorem changes_signalOnce (s : State) (x : Signal) : Changes signalParts s (s.signalOnce x).1 := by
  cases x with
  | cause idx bit stamp =>
    unfold State.signalOnce
    dsimp only
    split
    · exact (changes_setObj s _ _ _).mono rfl
    · exact Changes.refl _ _
  | edge n stamp rising =>
    exact (changes_edgeToSteps _ n stamp rising).step rfl ((changes_controllerEdge _ n stamp rising).step rfl
      ((changes_setLevel s n rising stamp).mono rfl))
  | trigger q stamp command arrived =>
    unfold State.signalOnce
    dsimp only
    split
    · exact (changes_countUp s _ _ _).mono rfl
    · have h := fun c => (changes_setConv s q c).mono (l := signalParts) rfl
      split
      · exact (changes_countUp _ _ _ _).step rfl (h _)
      · exact h _
  | request o stamp command arrived =>
    unfold State.signalOnce
    dsimp only
    split
    · exact (changes_countUp s _ _ _).mono rfl
    · exact (changes_setTrigOut s o _).mono rfl

theorem changes_signal (fuel : Nat) (s : State) (x : Signal) : Changes signalParts s (s.signal fuel x) := by
  induction fuel generalizing s x with
  | zero => exact Changes.refl _ _
  | succ fuel ih => exact Changes.foldl _ (fun t y h => h.trans (ih t y)) (changes_signalOnce s x)

/-- A cause, selected or not, reaches the event controller and what takes its edges, and nothing else (R129, R299). -/
theorem changes_cause (s : State) (idx bit stamp : Nat) : Changes signalParts s (s.cause idx bit stamp) :=
  changes_signal _ s _

/-! ## A cause that the event select leaves out -/

/-- The event select and the event causes of a block are two objects. -/
theorem blockSubs_ne {idx sel cau : Nat} (h : blockSubs idx = some (sel, cau)) : sel ≠ cau := by
  have all : (blockSubs idx).all (fun x => x.1 != x.2) = true := by
    simp [blockSubs, apply_ite (Option.all fun x : Nat × Nat => x.1 != x.2)]
  simpa [h] using all

theorem objN_caused_select (s : State) {idx sel cau : Nat} (bit : Nat) (h : blockSubs idx = some (sel, cau)) :
    (s.caused idx cau bit).objN idx sel = s.objN idx sel := by
  have hk : objKey idx sel ≠ objKey idx cau := by
    have := blockSubs_ne h
    simp only [objKey]
    omega
  simp only [State.objN, State.caused, obj_setObj_other _ _ hk]

/-- A cause that its block does not select sets its bit and no more (R129). -/
theorem cause_eq_caused {s : State} {idx sel cau bit : Nat} (stamp : Nat) (hb : blockSubs idx = some (sel, cau))
    (hs : bitOf (s.objN idx sel) bit = false) : s.cause idx bit stamp = s.caused idx cau bit := by
  have h : s.signalOnce (.cause idx bit stamp) = (s.caused idx cau bit, []) := by
    have hsel := objN_caused_select s bit hb
    unfold State.caused at hsel
    simp only [State.signalOnce, hb, hsel, hs, Bool.false_eq_true, if_false, State.caused]
  unfold State.cause signalDepth State.signal
  rw [h]
  rfl

/-- The same where the block's event select is known by its subindex. -/
theorem cause_of_unselected {s : State} {idx sel bit cau : Nat} (stamp : Nat) (h : s.unselected idx sel bit)
    (hb : blockSubs idx = some (sel, cau)) : s.cause idx bit stamp = s.caused idx cau bit :=
  cause_eq_caused stamp hb h.2

/-! ## A log record -/

theorem changes_logRec (s : State) (stamp tag kind : Nat) (detail : Bytes) :
    Changes [.objs, .log] s (s.logRec stamp tag kind detail) := by
  have lost := (changes_countUp s 0x5000 7 1).mono (l := [.objs, .log]) rfl
  unfold State.logRec
  dsimp only
  split
  · exact lost
  · split
    · exact (changes_iff _ _ _).mpr rfl
    · split
      · exact (changes_iff _ _ _).mpr rfl
      · exact lost

/-- A log record leaves every object but the count of lost records. -/
theorem obj_logRec (s : State) (stamp tag kind : Nat) (detail : Bytes) {idx sub : Nat}
    (h : objKey idx sub ≠ objKey 0x5000 7) : (s.logRec stamp tag kind detail).obj idx sub = s.obj idx sub := by
  have lost : (s.countUp 0x5000 7).obj idx sub = s.obj idx sub := obj_setObj_other s _ h
  unfold State.logRec
  dsimp only
  split
  · exact lost
  · split
    · rfl
    · split
      · rfl
      · exact lost

end Sys2Proof.Machine
end

section
/-!
SUPPORT. What the Cellar's operations change and leave: the answers that it owes, memory errors (R486), compaction (R484), and
replay (R483).
-/

namespace Sys2Proof.Machine

/-! ## Nothing waits -/

/-- Whether anything waits depends on the power, the cycle, the sessions and the mode alone. -/
theorem undisturbed_of_changes {l : List Part} {s u : State} (h : Changes l s u)
    (hl : ([.power, .cycle, .sessions, .mode] : List Part).all (fun p => !l.contains p) = true) (hs : s.undisturbed) :
    u.undisturbed := by
  simp only [List.all_cons, List.all_nil, Bool.and_true, Bool.and_eq_true, Bool.not_eq_true'] at hl
  obtain ⟨hp, hc, hx, hm⟩ := hl
  have power : u.power = s.power := h .power hp
  have mode : u.mode = s.mode := h .mode hm
  obtain ⟨hr, hw, hl⟩ := hs
  exact ⟨power ▸ hr, noWaiting_congr (h .cycle hc) (h .sessions hx) hw, mode ▸ hl⟩

/-- Where nothing waits for the Cellar, nothing goes on after its commands (R449, R525). -/
theorem cellarGoesOn_of_undisturbed {s : State} (h : s.undisturbed) : s.cellarGoesOn = s := by
  obtain ⟨hr, hw, hl⟩ := h
  rw [State.cellarGoesOn, letGo_of_noWaiting hw hl, State.resetSettles, hr]

/-! ## Answers that were owed (R450) -/

theorem changes_renew (s : State) (n : Nat) : Changes [.sessions] s (s.renew n) := by
  unfold State.renew
  split
  · exact changes_setSession s n _
  · exact Changes.refl _ _

theorem changes_sendDatagram (s : State) (n op flags reqId : Nat) (payload : Bytes) :
    Changes [.sessions, .outbox] s (s.sendDatagram n op flags reqId payload) :=
  (changes_send _ _).step rfl ((changes_setSession s n _).mono rfl)

theorem changes_respond (s : State) (n op reqId flags : Nat) (payload : Bytes) :
    Changes [.sessions, .outbox] s (s.respond n op reqId flags payload) :=
  (changes_sendDatagram _ n op flags reqId payload).step rfl ((changes_setSession s n _).mono rfl)

theorem changes_respondCode (s : State) (n op reqId code : Nat) (payload : Bytes) :
    Changes [.sessions, .outbox] s (s.respondCode n op reqId code payload) := by
  unfold State.respondCode
  split
  · exact changes_respond s n op reqId 1 payload
  · exact changes_respond s n op reqId 3 _

theorem changes_replyLater (s : State) (r : ReplyTo) (code : Nat) : Changes [.sessions, .outbox] s (s.replyLater r code) := by
  cases r with
  | plain n => exact (changes_send _ _).step rfl ((changes_renew s n).mono rfl)
  | datagram n op reqId =>
    unfold State.replyLater
    dsimp only
    split
    · exact (changes_respondCode _ n op reqId code []).step rfl ((changes_renew s n).mono rfl)
    · exact Changes.refl _ _
  | usdo => exact (changes_send _ _).step rfl ((changes_renew s 0).mono rfl)

theorem changes_txnAnswers (s : State) (t : Txn) (code : Nat) : Changes [.sessions, .outbox] s (s.txnAnswers t code) := by
  unfold State.txnAnswers
  split
  · exact changes_replyLater s _ code
  · exact Changes.refl _ _

theorem noWaiting_sendDatagram {s : State} (n op flags reqId : Nat) (payload : Bytes) (h : s.noWaiting) :
    (s.sendDatagram n op flags reqId payload).noWaiting :=
  noWaiting_send _ (noWaiting_setSession (h.2 n).1 (h.2 n).2 h)

theorem noWaiting_respond {s : State} (n op reqId flags : Nat) (payload : Bytes) (h : s.noWaiting) :
    (s.respond n op reqId flags payload).noWaiting :=
  noWaiting_sendDatagram _ _ _ _ _ (noWaiting_setSession (h.2 n).1 (h.2 n).2 h)

theorem noWaiting_replyLater {s : State} (r : ReplyTo) (code : Nat) (h : s.noWaiting) : (s.replyLater r code).noWaiting := by
  cases r with
  | plain n => exact noWaiting_send _ (noWaiting_renew n h)
  | datagram n op reqId =>
    unfold State.replyLater State.respondCode
    dsimp only
    split
    · split
      · exact noWaiting_respond _ _ _ _ _ (noWaiting_renew n h)
      · exact noWaiting_respond _ _ _ _ _ (noWaiting_renew n h)
    · exact h
  | usdo => exact noWaiting_send _ (noWaiting_renew 0 h)

/-- An answer to a request that has completed wakes no other where none waits. -/
theorem undisturbed_txnAnswers {s : State} (t : Txn) (code : Nat) (h : s.undisturbed) : (s.txnAnswers t code).undisturbed := by
  have hf := changes_txnAnswers s t code
  have power : (s.txnAnswers t code).power = s.power := hf .power rfl
  have mode : (s.txnAnswers t code).mode = s.mode := hf .mode rfl
  obtain ⟨hr, hw, hl⟩ := h
  refine ⟨power ▸ hr, ?_, mode ▸ hl⟩
  unfold State.txnAnswers
  split
  · exact noWaiting_replyLater _ code hw
  · exact hw

/-! ## The failure of the Cellar (R486) -/

/-- What a failed Cellar holds: no transaction, open or waiting. -/
theorem cellarFails_cellar (s : State) :
    s.cellarFails.cellar = { s.cellar with stage := 5, open_ := none, waiting := [] } :=
  Changes.foldl (l := [.sessions, .outbox]) _ (fun u t h => h.trans (changes_txnAnswers u t _)) (Changes.refl _ _) .cellar rfl

theorem undisturbed_cellarFails {s : State} (h : s.undisturbed) : s.cellarFails.undisturbed := by
  unfold State.cellarFails
  exact List.foldlRecOn _ _ (motive := State.undisturbed) h fun u hu t _ => undisturbed_txnAnswers t _ hu

/-! ## Memory errors (R486) -/

theorem changes_cellarFault (s : State) (addr : Nat) : Changes (.log :: signalParts) s (s.cellarFault addr) :=
  (changes_logRec _ _ _ _ _).step rfl ((changes_cause _ _ _ _).step rfl ((changes_countUp s _ _ _).mono rfl))

/-- An error that the event select of the Cellar leaves out is counted, shown and logged, and reaches nothing else. -/
theorem cellarFault_of_unselected {s : State} (addr : Nat) (h : s.unselected 0x2600 0x0D 3) :
    Changes [.objs, .log] s (s.cellarFault addr) ∧
      (s.cellarFault addr).obj 0x2600 0x0C = addWrap 32 (s.objN 0x2600 0x0C) 1 := by
  have hsel : bitOf ((s.countUp 0x2600 0x0C).objN 0x2600 0x0D) 3 = false := by
    have e : (s.countUp 0x2600 0x0C).obj 0x2600 0x0D = s.obj 0x2600 0x0D := obj_setObj_other s _ (by decide)
    rw [State.objN, e]
    exact h.2
  have e : (s.countUp 0x2600 0x0C).cause 0x2600 3 s.now = (s.countUp 0x2600 0x0C).caused 0x2600 0x0E 3 :=
    cause_eq_caused s.now rfl hsel
  unfold State.cellarFault
  rw [e]
  constructor
  · exact (changes_logRec _ _ _ _ _).step rfl ((changes_caused _ _ _ _).step rfl ((changes_countUp s _ _ _).mono rfl))
  · rw [obj_logRec _ _ _ _ _ (by decide), State.caused, obj_setObj_other _ _ (by decide), State.countUp, obj_setObj]

theorem changes_recordLost (s : State) (addr : Nat) : Changes [.cellar] s (s.recordLost addr) := by
  unfold State.recordLost
  dsimp only
  split
  · exact (changes_iff _ _ _).mpr rfl
  · exact Changes.refl _ _

theorem changes_setAbsent (s : State) (d : Nat) : Changes [.cal] s (s.setAbsent d) := (changes_iff _ _ _).mpr rfl

theorem changes_itemAbsent (s : State) (cls key : Nat) : Changes [.cellar, .cal] s (s.itemAbsent cls key) := by
  unfold State.itemAbsent
  dsimp only
  split
  · exact (changes_iff _ _ _).mpr rfl
  · split
    · exact (changes_setAbsent _ key).step rfl ((changes_iff _ _ _).mpr rfl)
    · exact (changes_iff _ _ _).mpr rfl

theorem changes_itemLost (s : State) (cls key : Nat) : Changes [.cellar, .cal] s (s.itemLost cls key) := by
  have mark : ∀ d, Changes [.cellar, .cal] s { s with cellar := s.cellar.markHalf s.cellar.activeHalf d } :=
    fun _ => (changes_iff _ _ _).mpr rfl
  unfold State.itemLost
  extract_lets d d' u
  split
  · exact mark d'
  · exact (changes_itemAbsent u cls key).step rfl (mark d')

/-- The value of an object that the directory loses: the directory has it no more, and neither has the Cellar where no later
record of the journal holds it. -/
theorem itemLost_value (s : State) (key : Nat) : s.itemLost 1 key = { s with cellar := { s.cellar with
    values := if s.cellar.journalled 1 key = true then s.cellar.values else Table.set none s.cellar.values key none
    halves := s.cellar.halves.set s.cellar.activeHalf { s.cellar.half s.cellar.activeHalf with
      values := Table.set none (s.cellar.half s.cellar.activeHalf).values key none } } } := by
  have e : ∀ d, (s.cellar.markHalf s.cellar.activeHalf d).journalled 1 key = s.cellar.journalled 1 key := fun _ => rfl
  unfold State.itemLost State.itemAbsent
  simp only [e, if_true]
  split <;> rfl

/-- Where the address of an error lies does not depend on time. -/
theorem errorLies_advance (s : State) (t : Tk) (h : CellarHit) : (s.advance t).errorLies h = s.errorLies h := by
  cases h <;> simp [State.errorLies, State.hasItem]

/-- A memory error makes nothing wait. -/
theorem undisturbed_cellarError {s : State} (h : CellarHit) (hs : s.undisturbed) : (s.cellarError h).undisturbed := by
  have fault : ∀ addr, (s.cellarFault addr).undisturbed := fun addr =>
    undisturbed_of_changes (changes_cellarFault s addr) rfl hs
  unfold State.cellarError
  split
  · exact hs
  · cases h with
    | corrected => exact undisturbed_of_changes (changes_countUp s _ _ _) rfl hs
    | journal addr => exact undisturbed_of_changes (changes_recordLost _ addr) rfl (fault addr)
    | item cls key addr => exact undisturbed_of_changes (changes_itemLost _ cls key) rfl (fault addr)
    | extent cls key addr => exact undisturbed_of_changes (changes_itemAbsent _ cls key) rfl (fault addr)
    | root k addr =>
      dsimp only
      split
      · exact fault addr
      · exact undisturbed_cellarFails (fault addr)
    | roots =>
      exact undisturbed_cellarFails (undisturbed_of_changes (changes_cellarFault _ 0) rfl hs)

/-- CELLAR_ECC_ERROR where nothing waits: its instant comes, and the error has its effect. -/
theorem exec_cellarEccError {s : State} (t : Tk) (h : CellarHit) (hs : s.undisturbed) :
    exec (.cellarEccError t h) s = .next ((s.advance t).cellarError h) :=
  congrArg Host.Outcome.next (cellarGoesOn_of_undisturbed
    (undisturbed_cellarError h (undisturbed_of_changes (changes_advance s t) rfl hs)))

/-- An error outside the place that it names has no effect (log entry 167). -/
theorem cellarError_of_not_lies {s : State} {h : CellarHit} (hl : s.errorLies h = false) : s.cellarError h = s := by
  simp [State.cellarError, hl]

theorem cellarError_journal {s : State} {addr : Nat} (hl : s.errorLies (.journal addr) = true) :
    s.cellarError (.journal addr) = (s.cellarFault addr).recordLost addr := by
  simp [State.cellarError, hl]

theorem cellarError_item {s : State} {cls key addr : Nat} (hl : s.errorLies (.item cls key addr) = true) :
    s.cellarError (.item cls key addr) = (s.cellarFault addr).itemLost cls key := by
  simp [State.cellarError, hl]

/-- The state in which a root copy has failed, before the other one is looked at. -/
def State.rootFault (s : State) (k addr : Nat) : State :=
  { s.cellarFault addr with cellar := s.cellar.rootLost k }

theorem cellarFault_cellar (s : State) (addr : Nat) : (s.cellarFault addr).cellar = s.cellar :=
  changes_cellarFault s addr .cellar rfl

/-- The loss of a root copy leaves the other one. -/
theorem root_rootLost (c : Cellar) (k : Fin 2) : (c.rootLost k).root (1 - k) = c.root (1 - k) := by
  have hk : (k : Nat) ≠ 1 - k := by omega
  simp [Cellar.root, Cellar.rootLost, List.getD, List.getElem?_set_ne hk]

theorem cellarError_root {s : State} {k : Fin 2} {addr : Nat} (hl : s.errorLies (.root k addr) = true) :
    s.cellarError (.root k addr) =
      if (s.cellar.root (1 - k)).sound = true then s.rootFault k addr else (s.rootFault k addr).cellarFails := by
  simp only [State.cellarError, hl, Bool.not_true, Bool.false_eq_true, if_false, cellarFault_cellar, root_rootLost,
    State.rootFault]

/-! ## Compaction (R484) -/

/-- Where none waits, none begins. -/
theorem nextTxn_of_waiting {s : State} (h : s.cellar.waiting = []) : s.nextTxn = s := by
  simp only [State.nextTxn, h]

/-- A transaction that begins leaves the roots and the halves. -/
theorem nextTxn_roots (s : State) : s.nextTxn.cellar.roots = s.cellar.roots ∧ s.nextTxn.cellar.halves = s.cellar.halves ∧
    s.nextTxn.cellar.activeHalf = s.cellar.activeHalf ∧ s.nextTxn.cellar.generation = s.cellar.generation ∧
    s.nextTxn.cellar.firstTxn = s.cellar.firstTxn := by
  unfold State.nextTxn
  split
  · split
    · exact ⟨rfl, rfl, rfl, rfl, rfl⟩
    · exact ⟨rfl, rfl, rfl, rfl, rfl⟩
  · exact ⟨rfl, rfl, rfl, rfl, rfl⟩

theorem rooted_congr {c d : Cellar} (hr : d.roots = c.roots) (hh : d.halves = c.halves) (ha : d.activeHalf = c.activeHalf)
    (hg : d.generation = c.generation) (hf : d.firstTxn = c.firstTxn) (h : c.rooted) : d.rooted := by
  cases c
  cases d
  cases hr
  cases hh
  cases ha
  cases hg
  cases hf
  exact h

/-- The root copy that a compaction writes: the one that is not in force. -/
def Cellar.spareCopy (c : Cellar) : Nat :=
  if (c.root 0).half = c.activeHalf ∧ (c.root 0).generation = c.generation ∧ (c.root 0).sound = true then 1 else 0

/-- The Cellar as a compaction leaves it: the journal is empty, and the other half holds what the Cellar holds, under a root copy
of the next generation. -/
def Cellar.compacted (c : Cellar) : Cellar := { c with
  stage := 2, activeHalf := 1 - c.activeHalf, generation := addWrap 32 c.generation 1
  firstTxn := c.nextId, journal := 0, records := [], badAt := none
  halves := c.halves.set (1 - c.activeHalf) { values := c.values, items := c.items, heap := c.heap }
  roots := c.roots.set c.spareCopy
    { half := 1 - c.activeHalf, generation := addWrap 32 c.generation 1, firstTxn := c.nextId, sound := true } }

/-- The state in which a compaction has ended and is counted. -/
def State.compacted (s : State) : State := State.countUp { s with cellar := s.cellar.compacted } 0x2600 0x0A

/-- COMPACTION_END of a compaction that runs. -/
theorem compactEnds_of_stage {s : State} (h : s.cellar.stage = 3) :
    s.compactEnds = (s.compacted.cause 0x2600 0 s.now).nextTxn := by
  simp [State.compactEnds, h, State.compacted, Cellar.compacted, Cellar.spareCopy, Cellar.markHalf, Cellar.root, and_assoc]


theorem root_compacted (c : Cellar) (h : c.roots.length = 2) : (c.compacted).root c.spareCopy =
    { half := 1 - c.activeHalf, generation := addWrap 32 c.generation 1, firstTxn := c.nextId, sound := true } := by
  have hk : c.spareCopy < c.roots.length := by
    unfold Cellar.spareCopy
    split <;> omega
  simp [Cellar.root, Cellar.compacted, List.getD, hk]

theorem root_compacted_other (c : Cellar) {k : Nat} (h : k ≠ c.spareCopy) : (c.compacted).root k = c.root k := by
  simp [Cellar.root, Cellar.compacted, List.getD, List.getElem?_set_ne h.symm]

theorem half_compacted (c : Cellar) (h : c.halves.length = 2) : ((c.compacted).half (1 - c.activeHalf)).sound = true := by
  have hk : 1 - c.activeHalf < c.halves.length := by omega
  simp [Cellar.half, Cellar.compacted, List.getD, hk]

theorem half_compacted_active (c : Cellar) (h : c.activeHalf < 2) : (c.compacted).half c.activeHalf = c.half c.activeHalf := by
  have hk : 1 - c.activeHalf ≠ c.activeHalf := by omega
  simp [Cellar.half, Cellar.compacted, List.getD, List.getElem?_set_ne hk]

/-- A root in force is one of the two copies, and valid. -/
theorem inForce_valid {c : Cellar} {k : Nat} (h : c.inForce = some k) : (k = 0 ∨ k = 1) ∧ c.rootValid k = true := by
  unfold Cellar.inForce at h
  split at h
  · next e =>
    simp only [Bool.and_eq_true] at e
    split at h <;> cases h <;> simp [e]
  · split at h
    · next e => cases h; simp [e]
    · split at h
      · next e => cases h; simp [e]
      · cases h

/-- Of two valid copies, one of the two of higher generation is in force. -/
theorem inForce_of_newer {c : Cellar} {k : Nat} (hk : k = 0 ∨ k = 1) (h : c.rootValid k = true) (h' : c.rootValid (1 - k) = true)
    (hg : (c.root (1 - k)).generation < (c.root k).generation) : c.inForce = some k := by
  rcases hk with rfl | rfl
  · have : ¬ (c.root 0).generation < (c.root 1).generation := by simp at hg; omega
    simp_all [Cellar.inForce]
  · simp_all [Cellar.inForce]

/-- The root in force is not the copy that a compaction writes. -/
theorem spareCopy_of_inForce {c : Cellar} {k : Nat} (h : c.inForce = some k) (hh : (c.root k).half = c.activeHalf)
    (hg : (c.root k).generation = c.generation) : c.spareCopy = 1 - k := by
  obtain ⟨hk, hv⟩ := inForce_valid h
  rcases hk with rfl | rfl
  · have hs : (c.root 0).sound = true := by
      simp only [Cellar.rootValid, Bool.and_eq_true] at hv
      exact hv.1
    simp [Cellar.spareCopy, hh, hg, hs]
  · unfold Cellar.spareCopy
    split
    · next e =>
      obtain ⟨e1, e2, e3⟩ := e
      have hv0 : c.rootValid 0 = true := by simp_all [Cellar.rootValid]
      simp [Cellar.inForce, hv, hv0, e2, hg] at h
    · rfl

/-- The root copy that a compaction writes is in force after it (R484). -/
theorem rooted_compacted {c : Cellar} (h : c.rooted) (ha : c.activeHalf < 2) (hr : c.roots.length = 2)
    (hl : c.halves.length = 2) (hg : c.generation + 1 < 2 ^ 32) : c.compacted.rooted := by
  obtain ⟨k, hf, hh, hgen, -⟩ := h
  obtain ⟨hk, hv⟩ := inForce_valid hf
  have hs : c.spareCopy = 1 - k := spareCopy_of_inForce hf hh hgen
  have new := root_compacted c hr
  have old : c.compacted.root k = c.root k := root_compacted_other c (by omega)
  have hgen' : addWrap 32 c.generation 1 = c.generation + 1 := Nat.mod_eq_of_lt hg
  have back : 1 - c.spareCopy = k := by omega
  refine ⟨c.spareCopy, inForce_of_newer (by omega) ?_ ?_ ?_, ?_⟩
  · simp [Cellar.rootValid, new, half_compacted c hl]
  · rw [back, Cellar.rootValid, old, hh, half_compacted_active c ha, ← hh]
    exact hv
  · rw [back, new, old, hgen, hgen']
    exact Nat.lt_succ_self _
  · rw [new]
    exact ⟨rfl, rfl, rfl⟩

end Sys2Proof.Machine
end

section
/-!
SUPPORT. Replay (R8, R483): what the Cellar holds after it, and what it gives the objects and the counters.
-/

namespace Sys2Proof.Machine

/-! ## Committed values (R8) -/

/-- An object takes its committed value, where it has one. -/
def State.takesValue (s : State) (x : Nat × Option Int) : State :=
  match x.2 with
  | some v => s.setObjAt x.1 v
  | none => s

theorem applyValues_eq (s : State) : s.applyValues = (s.cellar.values.foldl State.takesValue s).each [0x1E00, 0x1E01]
    fun s idx => if s.hasItem 1 (objKey idx 7) then s.setBlob idx 7 (s.item 1 (objKey idx 7)) else s := rfl

theorem changes_takesValue (s : State) (x : Nat × Option Int) : Changes [.objs] s (s.takesValue x) := by
  unfold State.takesValue
  split
  · exact changes_setObjAt s _ _
  · exact Changes.refl _ _

theorem changes_takesAddresses (s : State) : Changes [.blobs] s (s.each [0x1E00, 0x1E01]
    fun s idx => if s.hasItem 1 (objKey idx 7) then s.setBlob idx 7 (s.item 1 (objKey idx 7)) else s) := by
  refine Changes.each _ (fun t idx h => ?_) (Changes.refl _ _)
  split
  · exact (changes_setBlob t _ _ _).step rfl h
  · exact h

theorem changes_applyValues (s : State) : Changes [.objs, .blobs] s s.applyValues :=
  (changes_takesAddresses _).step rfl (Changes.foldl _ (fun t x h => (changes_takesValue t x).step rfl h) (Changes.refl _ _))

/-- Values of other keys leave an object. -/
theorem objAt_takesValues_other {t : Table (Option Int)} {k : Nat} (h : ∀ x ∈ t, x.1 ≠ k) (s : State) :
    (t.foldl State.takesValue s).objAt k = s.objAt k := by
  induction t generalizing s with
  | nil => rfl
  | cons x t ih =>
    rw [List.foldl_cons, ih fun y hy => h y (by simp [hy])]
    unfold State.takesValue
    split
    · exact objAt_setObjAt_other s _ (h x (by simp)).symm
    · rfl

/-- Each object takes the value that the table holds for it. -/
theorem objAt_takesValues {t : Table (Option Int)} (ht : t.Pairwise fun x y => x.1 < y.1) {k : Nat} {v : Int}
    (h : Table.get none t k = some v) (s : State) : (t.foldl State.takesValue s).objAt k = v := by
  induction t generalizing s with
  | nil => cases h
  | cons x t ih =>
    obtain ⟨j, w⟩ := x
    obtain ⟨hj, ht⟩ := List.pairwise_cons.mp ht
    simp only [Table.get] at h
    rw [List.foldl_cons]
    split at h
    · next e =>
      subst e h
      rw [objAt_takesValues_other fun y hy => (Nat.ne_of_gt (hj y hy))]
      exact objAt_setObjAt s j v
    · exact ih ht h _

/-- A committed value takes the place of the default (R8). -/
theorem objAt_applyValues {s : State} {k : Nat} {v : Int} (hw : Table.wf none s.cellar.values = true)
    (h : Table.get none s.cellar.values k = some v) : s.applyValues.objAt k = v := by
  have blobs : s.applyValues.objs = (s.cellar.values.foldl State.takesValue s).objs := changes_takesAddresses _ .objs rfl
  rw [objAt_congr blobs, objAt_takesValues ((Table.wf_iff none _).mp hw).1 h]

/-! ## What the rest of a replay changes -/

theorem changes_applySettings (s : State) :
    Changes [.links, .pantry, .power, .timebase, .trigOuts, .scrub] s s.applySettings := by
  unfold State.applySettings
  extract_lets _ _ _ _ u p _ v w set _
  have hv : Changes [.links, .pantry, .power, .timebase, .trigOuts, .scrub] s v := (changes_iff _ _ _).mpr rfl
  have hw : Changes [.links, .pantry, .power, .timebase, .trigOuts, .scrub] s w := by
    refine Changes.foldl _ (fun t o h => ?_) hv
    dsimp only
    split
    · exact (changes_setTrigOut t o _).step rfl h
    · exact h
  exact hw.upd rfl

theorem changes_applyCounters (s : State) : Changes [.keys, .keyFailures] s s.applyCounters := (changes_iff _ _ _).mpr rfl

theorem changes_applySets (s : State) : Changes (.cal :: signalParts) s s.applySets := by
  refine Changes.each _ (fun t d h => ?_) ((changes_iff _ _ _).mpr rfl)
  extract_lets r u
  have hu : Changes (.cal :: signalParts) s u := (changes_setCalRun t d _).step rfl h
  split
  · exact (changes_cause _ _ _ _).step rfl hu
  · exact hu

theorem changes_larderState (s : State) (code : Nat) : Changes (.log :: signalParts) s (s.larderState code) := by
  unfold State.larderState
  dsimp only
  split
  · exact Changes.refl _ _
  · exact (changes_cause _ _ _ _).step rfl ((changes_logRec _ _ _ _ _).step rfl ((changes_setObj s _ _ _).mono rfl))

theorem changes_figuresStored (s : State) (d : Nat) : Changes [.cal] s (s.figuresStored d) := (changes_iff _ _ _).mpr rfl

theorem changes_importCommits (s : State) (d : Nat) : Changes [.cal, .fresh] s (s.importCommits d) := by
  unfold State.importCommits
  extract_lets b gen _ u v w _
  have hu : Changes [.cal, .fresh] s u := (changes_iff _ _ _).mpr rfl
  have hv : Changes [.cal, .fresh] s v := by
    refine Changes.each _ (fun t k h => ?_) hu
    refine Changes.each _ (fun x p hx => ?_) ((changes_setCalFigure t _ _).step rfl h)
    exact (changes_nextFresh _).step rfl ((changes_setCalFigure x p _).step rfl hx)
  have hw : Changes [.cal, .fresh] s w := Changes.each _ (fun t k h => (changes_setCalFigure t _ _).step rfl h) hv
  exact (changes_figuresStored _ d).step rfl ((changes_setCalRun w d _).step rfl hw)

/-- Replay gives a die the figures of its set, and leaves the Cellar as it was found. -/
theorem replaysJournal_cellar (s : State) : s.replaysJournal.cellar = s.cellar.replayed := by
  unfold State.replaysJournal
  extract_lets old u
  have h : Changes [.cal, .fresh] u (u.each (List.range 4) fun s d =>
      if Table.get none old.items (itemKey 2 d) == Table.get none s.cellar.items (itemKey 2 d) then s
      else if s.hasItem 2 d then s.importCommits d else s.setAbsent d) := by
    refine Changes.each _ (fun t d h => ?_) (Changes.refl _ _)
    split
    · exact h
    · split
      · exact (changes_importCommits t d).step rfl h
      · exact (changes_setAbsent t d).step rfl h
  exact h .cellar rfl

/-! ## The whole replay -/

/-- A write of each key of a list leaves what was written under each. -/
theorem get_foldl_set (f : Nat → Nat) {l : List Nat} {k : Nat} (hk : k ∈ l) (t : Table Nat) :
    Table.get 0 (l.foldl (fun t h => Table.set 0 t h (f h)) t) k = f k := by
  induction l using List.reverseRecOn with
  | nil => cases hk
  | append_singleton l a ih =>
    rw [List.foldl_concat, Table.get_set_of]
    split
    · next e => rw [e]
    · next e => exact ih (by simpa [e] using hk)

/-- The failure counters of a state are those that a Cellar holds (R424, R460). -/
def State.countersOf (s : State) (c : Cellar) : Prop :=
  s.keys.failures = fieldLe ((Table.get none c.items (itemKey 8 0)).getD []) 0 4 ∧
    ∀ h < 8, Table.get 0 s.keyFailures h = fieldLe ((Table.get none c.items (itemKey 8 (0x10 + h))).getD []) 0 4

theorem countersOf_applyCounters (s : State) : s.applyCounters.countersOf s.cellar :=
  ⟨rfl, fun _ hh => get_foldl_set (fun h => fieldLe (s.item 8 (0x10 + h)) 0 4) (List.mem_range.mpr hh) []⟩

theorem countersOf_of_changes {l : List Part} {s u : State} {c : Cellar} (h : Changes l s u) (hk : l.contains .keys = false)
    (hf : l.contains .keyFailures = false) (hs : s.countersOf c) : u.countersOf c := by
  have keys : u.keys = s.keys := h .keys hk
  have failures : u.keyFailures = s.keyFailures := h .keyFailures hf
  unfold State.countersOf
  rw [keys, failures]
  exact hs

/-- A replay of a Cellar that has not failed, and in which no transaction waits: the Cellar is ready with what replay found, and
the counters are those that it holds. -/
theorem replays_ready {s : State} (h : s.cellar.stage ≠ 5) (hr : s.cellar.replayed.stage ≠ 5)
    (hw : s.cellar.replayed.waiting = []) : s.replays.cellar = { s.cellar.replayed with stage := 2 } ∧
      s.replays.countersOf s.cellar.replayed := by
  unfold State.replays
  extract_lets u v dropped w x _ y
  have found : u.cellar = s.cellar.replayed := by rw [show u = s.replaysJournal from if_neg h, replaysJournal_cellar]
  rw [if_neg (found ▸ hr)]
  have set := (changes_applySettings u.applyValues).step (l := [.objs, .blobs, .links, .pantry, .power, .timebase, .trigOuts,
    .scrub]) rfl ((changes_applyValues u).mono rfl)
  have settings : u.applyValues.applySettings.cellar = s.cellar.replayed := (set .cellar rfl).trans found
  have counters := countersOf_applyCounters u.applyValues.applySettings
  rw [settings] at counters
  have sets : Changes (.cal :: signalParts) u.applyValues.applySettings.applyCounters v := changes_applySets _
  have boot : Changes (.cal :: signalParts) u.applyValues.applySettings.applyCounters w :=
    (changes_setObj _ _ _ _).step rfl ((changes_setObj _ _ _ _).step rfl sets)
  have hx : Changes (.cal :: signalParts) u.applyValues.applySettings.applyCounters x := by
    dsimp only [x]
    split
    · exact boot
    · exact (changes_cause _ _ _ _).step rfl boot
  clear_value x
  have cellar : x.cellar = s.cellar.replayed := (hx .cellar rfl).trans settings
  have waits : x.cellar.waiting = [] := (congrArg Cellar.waiting cellar).trans hw
  have ready : y = { x with cellar := { x.cellar with stage := 2 } } :=
    nextTxn_of_waiting (s := { x with cellar := { x.cellar with stage := 2 } }) waits
  have hy : y.cellar = { s.cellar.replayed with stage := 2 } ∧ y.countersOf s.cellar.replayed := by
    rw [ready, cellar]
    exact ⟨rfl, countersOf_of_changes (u := x) hx rfl rfl counters⟩
  split
  · have larder := changes_larderState y 1
    exact ⟨(larder .cellar rfl).trans hy.1, countersOf_of_changes larder rfl rfl hy.2⟩
  · exact hy

/-- Without a valid root the Cellar has failed (R486). -/
theorem replays_failed {s : State} (h : s.cellar.inForce = none) : s.replays.cellar.stage = 5 := by
  unfold State.replays
  extract_lets u _
  have failed : u.cellar.stage = 5 := by
    dsimp only [u]
    split
    · assumption
    · simp only [replaysJournal_cellar, Cellar.replayed, h]
  have settings : u.applySettings.cellar = u.cellar := changes_applySettings u .cellar rfl
  rw [if_pos failed, settings, failed]

/-! ## What replay finds -/

theorem replayed_of_rooted {c : Cellar} (h : c.rooted) :
    c.replayed = match c.replayStop with | none => c | some off => c.replayedTo off := by
  obtain ⟨k, hf, hh, hg, ht⟩ := h
  unfold Cellar.replayed
  simp only [hf, hh, hg, ht, beq_self_eq_true, Bool.and_true, Bool.true_and]
  cases c.replayStop <;> rfl

/-- Stored changes leave the stage of the Cellar and the transactions that wait. -/
theorem applyStored_frame (cs : List (Stored × List Nat)) (c : Cellar) :
    (cs.foldl applyStored c).stage = c.stage ∧ (cs.foldl applyStored c).waiting = c.waiting := by
  induction cs generalizing c with
  | nil => exact ⟨rfl, rfl⟩
  | cons x cs ih =>
    rw [List.foldl_cons, (ih _).1, (ih _).2]
    obtain ⟨_ | _, us⟩ := x <;> exact ⟨rfl, rfl⟩

/-- The values after stored changes depend on the values before them alone. -/
theorem applyStored_values_congr (cs : List (Stored × List Nat)) {c d : Cellar} (h : c.values = d.values) :
    (cs.foldl applyStored c).values = (cs.foldl applyStored d).values := by
  induction cs generalizing c d with
  | nil => exact h
  | cons x cs ih =>
    refine ih ?_
    obtain ⟨_ | _, us⟩ := x
    · simp only [applyStored, h]
    · exact h

/-- A begin record changes no value. -/
theorem applyStored_begins_values (t : JournalTxn) (c : Cellar) : (t.begins.foldl applyStored c).values = c.values := by
  unfold JournalTxn.begins
  cases t.repair <;> rfl

theorem applyStored_kept_values (ts : List JournalTxn) (c : Cellar) :
    ((ts.flatMap fun t => t.begins ++ t.changes).foldl applyStored c).values =
      ((ts.flatMap JournalTxn.changes).foldl applyStored c).values := by
  induction ts generalizing c with
  | nil => rfl
  | cons t ts ih =>
    simp only [List.flatMap_cons, List.foldl_append]
    rw [ih, applyStored_values_congr _ (applyStored_values_congr t.changes (applyStored_begins_values t c))]

theorem applyStored_gone_values (ts : List JournalTxn) (c : Cellar) :
    ((ts.flatMap JournalTxn.begins).foldl applyStored c).values = c.values := by
  induction ts generalizing c with
  | nil => rfl
  | cons t ts ih =>
    rw [List.flatMap_cons, List.foldl_append, ih, applyStored_begins_values]

/-- An item that an error has hit is absent after replay. -/
def Cellar.withoutItem (c : Cellar) (k : Nat) : Cellar :=
  { c with items := Table.set none c.items k none, heap := Table.set [] c.heap k [] }

theorem withoutItems_frame (ks : List Nat) (c : Cellar) : (ks.foldl Cellar.withoutItem c).values = c.values ∧
    (ks.foldl Cellar.withoutItem c).stage = c.stage ∧ (ks.foldl Cellar.withoutItem c).waiting = c.waiting := by
  induction ks generalizing c with
  | nil => exact ⟨rfl, rfl, rfl⟩
  | cons k ks ih => exact ih (c.withoutItem k)

/-- What replay takes of a journal up to an offset. -/
def Cellar.taken (c : Cellar) (off : Nat) : Cellar :=
  (((c.records.filter fun t => t.upTo ≤ off).flatMap fun t => t.begins ++ t.changes) ++
    (c.records.filter fun t => off < t.upTo).flatMap JournalTxn.begins).foldl applyStored
    { c with values := (c.half c.activeHalf).values, items := (c.half c.activeHalf).items, heap := (c.half c.activeHalf).heap }

/-- Replay up to an offset: the journal ends there, and a value is that of the directory and the transactions before it. -/
theorem replayedTo_facts (c : Cellar) (off : Nat) : (c.replayedTo off).stage = c.stage ∧
    (c.replayedTo off).waiting = c.waiting ∧ (c.replayedTo off).journal = off ∧ (c.replayedTo off).badAt = none ∧
    (c.replayedTo off).values = (((c.records.filter fun r => r.upTo ≤ off).flatMap JournalTxn.changes).foldl applyStored
      { c with values := (c.half c.activeHalf).values }).values := by
  obtain ⟨hv, hs, hw⟩ := withoutItems_frame c.lost (c.taken off)
  have frame : (c.taken off).stage = c.stage ∧ (c.taken off).waiting = c.waiting := applyStored_frame _ _
  have values : (c.taken off).values = (((c.records.filter fun r => r.upTo ≤ off).flatMap JournalTxn.changes).foldl
      applyStored { c with values := (c.half c.activeHalf).values }).values := by
    rw [Cellar.taken, List.foldl_append, applyStored_gone_values, applyStored_kept_values]
    exact applyStored_values_congr _ rfl
  exact ⟨hs.trans frame.1, hw.trans frame.2, rfl, rfl, hv.trans values⟩

/-- Replay stops at the first record that fails its CRC, or before it (R483). -/
theorem replayStop_of_badAt {c : Cellar} {b : Nat} (h : c.badAt = some b) : ∃ off, c.replayStop = some off ∧ off ≤ b := by
  unfold Cellar.replayStop
  cases hi : idStop c.firstTxn c.records with
  | none => exact ⟨b, by simp [h], Nat.le_refl b⟩
  | some i => exact ⟨min b i, by simp [h], Nat.min_le_left b i⟩

end Sys2Proof.Machine
end

section
/-!
The Cellar's replay, compaction and memory errors (R8, R483, R484, R486): a theorem for each clause of the statement.
-/

open Sys2Proof Sys2Proof.Machine

/-- The replay of a power-up happens once, in WAKE and out of reset (R483, R507). -/
theorem cellarReplay_once (s : State) (t : Tk) : exec (.cellarReplay t) s = .next (
    if s.mode = .wake ∧ s.power.rstnLow = false ∧ s.ready 7 = false then (s.advance t).replays.setReady 7 else s.advance t) := by
  simp [exec, execCellarReplay, State.replaysOnce, and_assoc]

/-- A replay that reads its whole journal leaves what the Cellar held. -/
theorem replays_whole {s : State} (h : s.cellar.stage ≠ 5) (hr : s.cellar.rooted) (hs : s.cellar.replayStop = none)
    (hw : s.cellar.waiting = []) : s.replays.cellar = { s.cellar with stage := 2 } ∧ s.replays.countersOf s.cellar := by
  have found : s.cellar.replayed = s.cellar := by rw [replayed_of_rooted hr, hs]
  simpa only [found] using replays_ready (s := s) h (by rwa [found]) (by rwa [found])

/-- A replay that stops short leaves what stands before its stop. -/
theorem replays_stopped {s : State} {off : Nat} (h : s.cellar.stage ≠ 5) (hr : s.cellar.rooted)
    (hs : s.cellar.replayStop = some off) (hw : s.cellar.waiting = []) :
    s.replays.cellar = { s.cellar.replayedTo off with stage := 2 } := by
  have found : s.cellar.replayed = s.cellar.replayedTo off := by rw [replayed_of_rooted hr, hs]
  obtain ⟨hstage, hwait, -⟩ := replayedTo_facts s.cellar off
  have ready := replays_ready (s := s) h (by rw [found, hstage]; exact h) (by rw [found, hwait, hw])
  rw [ready.1, found]

/-- COMPACTION_START: above the first mark between transactions, or above the second one in IDLE (R484). -/
theorem compactionStart_next {s : State} (t : Tk) (hm : s.mode ≠ .save) (hs : s.cellar.stage = 2) (ho : s.cellar.open_ = none) :
    exec (.compactionStart t) s = .next (
      if 1572864 < s.cellar.journal ∨ (s.cellar.compactSince.isSome = true ∧ s.mode = .idle ∧ s.cellar.waiting = []) then
        { s.advance t with cellar := { s.cellar with
            stage := 3, compactSince := none
            halves := s.cellar.halves.set (1 - s.cellar.activeHalf) { s.cellar.half (1 - s.cellar.activeHalf) with sound := false } } }
      else s.advance t) := by
  have due : (s.advance t).compactDue = true ↔
      1572864 < s.cellar.journal ∨ (s.cellar.compactSince.isSome = true ∧ s.mode = .idle ∧ s.cellar.waiting = []) := by
    simp [State.compactDue, hm, hs, ho, journalHigh, and_assoc]
  simp only [exec, execCompactionStart, State.compactStarts, due]
  rfl

theorem compactionEnd_next {s : State} (t : Tk) (hs : s.cellar.stage = 3) : exec (.compactionEnd t) s =
    .next ((s.advance t).compacted.cause 0x2600 0 (s.advance t).now).nextTxn :=
  congrArg Host.Outcome.next (compactEnds_of_stage (s := s.advance t) hs)

/-- COMPACTION_END where its cause is not selected and no transaction waits. -/
theorem compactionEnd_quiet {s : State} (t : Tk) (hs : s.cellar.stage = 3) (hw : s.cellar.waiting = [])
    (hu : s.unselected 0x2600 0x0D 0) :
    exec (.compactionEnd t) s = .next ((s.advance t).compacted.caused 0x2600 0x0E 0) := by
  have select : (s.advance t).compacted.obj 0x2600 0x0D = s.obj 0x2600 0x0D := obj_setObj_other _ _ (by decide)
  have leftOut : bitOf ((s.advance t).compacted.objN 0x2600 0x0D) 0 = false := by
    rw [State.objN, select]
    exact hu.2
  have waits : ((s.advance t).compacted.caused 0x2600 0x0E 0).cellar.waiting = [] := hw
  rw [compactionEnd_next t hs, cause_eq_caused _ rfl leftOut, nextTxn_of_waiting waits]

/-- The root that a compaction writes is in force after it. -/
theorem compactionEnd_rooted {s : State} (t : Tk) (hs : s.cellar.stage = 3) (hr : s.cellar.rooted) (ha : s.cellar.activeHalf < 2)
    (hc : s.cellar.roots.length = 2) (hh : s.cellar.halves.length = 2) (hg : s.cellar.generation + 1 < 2 ^ 32) :
    ∃ u, exec (.compactionEnd t) s = .next u ∧ u.cellar.rooted ∧ u.cellar.activeHalf = 1 - s.cellar.activeHalf ∧
      u.cellar.generation = s.cellar.generation + 1 := by
  refine ⟨_, compactionEnd_next t hs, ?_⟩
  have cellar : ((s.advance t).compacted.cause 0x2600 0 (s.advance t).now).cellar = s.cellar.compacted :=
    changes_cause _ _ _ _ .cellar rfl
  obtain ⟨roots, halves, active, generation, first⟩ :=
    nextTxn_roots ((s.advance t).compacted.cause 0x2600 0 (s.advance t).now)
  rw [cellar] at roots halves active generation first
  exact ⟨rooted_congr roots halves active generation first (rooted_compacted hr ha hc hh hg), active,
    generation.trans (Nat.mod_eq_of_lt hg)⟩

/-- An uncorrectable error in the directory loses the value that stands there. -/
theorem cellarEccError_value {s : State} (t : Tk) {key addr : Nat} {d : Directory} (hu : s.undisturbed)
    (hs : s.unselected 0x2600 0x0D 3) (hd : s.cellar.half s.cellar.activeHalf = d)
    (hlo : 0x300000 + s.cellar.activeHalf * 0x80000 ≤ addr) (hhi : addr < 0x300000 + s.cellar.activeHalf * 0x80000 + 0x80000)
    (hv : (Table.get none d.values key).isSome = true) : ∃ u, exec (.cellarEccError t (.item 1 key addr)) s = .next u ∧
      u.cellar = { s.cellar with
        values := if s.cellar.journalled 1 key = true then s.cellar.values else Table.set none s.cellar.values key none
        halves := s.cellar.halves.set s.cellar.activeHalf { d with values := Table.set none d.values key none } } ∧
      u.obj 0x2600 0x0C = addWrap 32 (s.objN 0x2600 0x0C) 1 ∧ Changes [.now, .objs, .cellar, .log] s u := by
  have lies : (s.advance t).errorLies (.item 1 key addr) = true := by
    simp [State.errorLies, liesIn, halfBase, halfRegion, hd, hlo, hhi, hv]
  have cellar : ((s.advance t).cellarFault addr).cellar = s.cellar := cellarFault_cellar _ addr
  obtain ⟨frame, count⟩ := cellarFault_of_unselected (s := s.advance t) addr hs
  refine ⟨_, exec_cellarEccError t _ hu, ?_⟩
  rw [cellarError_item lies, itemLost_value, cellar, hd]
  exact ⟨rfl, count, (frame.step rfl ((changes_advance s t).mono rfl)).upd rfl⟩

/-- An uncorrectable error in a record of the journal stops the next replay there. -/
theorem cellarEccError_journal {s : State} (t : Tk) {addr : Nat} (hu : s.undisturbed) (hs : s.unselected 0x2600 0x0D 3)
    (hlo : 0x100000 ≤ addr) (hhi : addr < 0x300000) (hj : addr - 0x100000 < s.cellar.journal) :
    ∃ u, exec (.cellarEccError t (.journal addr)) s = .next u ∧ u.cellar = { s.cellar with
        badAt := some (min (addr - 0x100000) (s.cellar.badAt.getD (addr - 0x100000))) } ∧
      u.obj 0x2600 0x0C = addWrap 32 (s.objN 0x2600 0x0C) 1 ∧ Changes [.now, .objs, .cellar, .log] s u := by
  have lies : (s.advance t).errorLies (.journal addr) = true := by
    simp [State.errorLies, liesIn, journalBase, journalRegion, hlo, hhi]
  have cellar : ((s.advance t).cellarFault addr).cellar = s.cellar := cellarFault_cellar _ addr
  have lost : ((s.advance t).cellarFault addr).recordLost addr = { (s.advance t).cellarFault addr with cellar := { s.cellar with
      badAt := some (min (addr - 0x100000) (s.cellar.badAt.getD (addr - 0x100000))) } } := by
    simp [State.recordLost, journalBase, cellar, hj]
  obtain ⟨frame, count⟩ := cellarFault_of_unselected (s := s.advance t) addr hs
  refine ⟨_, exec_cellarEccError t _ hu, ?_⟩
  rw [cellarError_journal lies, lost]
  exact ⟨rfl, count, (frame.step rfl ((changes_advance s t).mono rfl)).upd rfl⟩

/-- An uncorrectable error in a root copy loses it, and the Cellar fails where the other one is not sound. -/
theorem cellarEccError_root {s : State} (t : Tk) {k : Fin 2} {addr : Nat} (hu : s.undisturbed) (hlo : k.val * 0x8000 ≤ addr)
    (hhi : addr < k.val * 0x8000 + 64) : ∃ u, exec (.cellarEccError t (.root k addr)) s = .next u ∧
      ((s.cellar.root (1 - k)).sound = true → u.cellar = { s.cellar with
        roots := s.cellar.roots.set k { s.cellar.root k with sound := false } }) ∧
      ((s.cellar.root (1 - k)).sound = false → u.cellar.stage = 5 ∧ u.cellar.open_ = none) := by
  have lies : (s.advance t).errorLies (.root k addr) = true := by
    simp [State.errorLies, liesIn, rootBase, hlo, hhi]
  refine ⟨_, exec_cellarEccError t _ hu, fun hk => ?_, fun hk => ?_⟩
  · have other : ((s.advance t).cellar.root (1 - k)).sound = true := hk
    rw [cellarError_root lies, if_pos other]
    rfl
  · have other : ¬ ((s.advance t).cellar.root (1 - k)).sound = true := Bool.eq_false_iff.mp hk
    rw [cellarError_root lies, if_neg other, cellarFails_cellar]
    exact ⟨rfl, rfl⟩

/-- Where no root is left, the Cellar has failed. -/
theorem cellarEccError_roots {s : State} (t : Tk) (hu : s.undisturbed) : ∃ u, exec (.cellarEccError t .roots) s = .next u ∧
    u.cellar.stage = 5 ∧ u.cellar.open_ = none ∧ u.cellar.waiting = [] := by
  refine ⟨_, exec_cellarEccError t _ hu, ?_⟩
  have e : (s.advance t).cellarError .roots = (State.cellarFault { s.advance t with
      cellar := (s.cellar.rootLost 0).rootLost 1 } 0).cellarFails := rfl
  rw [e, cellarFails_cellar]
  exact ⟨rfl, rfl, rfl⟩

/-- Settles O53: of a replay, what the steps after the journal leave alone; of a compaction, that it writes the root copy that is
not in force; of a memory error, that only its own place changes where nothing waits. -/
theorem cellarReplaysAndCompacts : Obligations.CellarReplaysAndCompacts := by
  unfold Obligations.CellarReplaysAndCompacts
  refine ⟨cellarReplay_once, fun _ _ _ => objAt_applyValues, fun _ => replays_whole, ?_, fun _ _ => replayStop_of_badAt,
    fun _ => replays_failed, fun _ t => compactionStart_next t, ?_, fun _ t => compactionEnd_rooted t, ?_, ?_,
    fun _ t _ _ _ => cellarEccError_value t, fun _ t _ => cellarEccError_journal t,
    fun _ t _ _ hu _ => cellarEccError_root t hu, fun _ t => cellarEccError_roots t⟩
  · intro s off h hr hs hw
    obtain ⟨-, -, journal, bad, values⟩ := replayedTo_facts s.cellar off
    rw [replays_stopped h hr hs hw]
    exact ⟨values, journal, bad⟩
  · intro s t hs hw hu
    exact compactionEnd_quiet t hs hw hu
  · intro s t hu
    exact exec_cellarEccError t .corrected hu
  · intro s t h hu hl
    rw [exec_cellarEccError t h hu, cellarError_of_not_lies ((errorLies_advance s t h).trans hl)]
end

section
/-!
SUPPORT. Entries of a device block and spills (R348, R354, R355, R357): what each answer to an entry leaves, and the block that a
spill takes.
-/

namespace Sys2Proof.Machine

/-- A count leaves the event select of a block, which is another object. -/
theorem unselected_countUp {s : State} {idx sel bit i j : Nat} (hk : objKey idx sel ≠ objKey i j) (h : s.unselected idx sel bit) :
    (s.countUp i j).unselected idx sel bit := by
  refine ⟨h.1, ?_⟩
  have e : (s.countUp i j).obj idx sel = s.obj idx sel := obj_setObj_other s _ hk
  rw [State.objN, e]
  exact h.2

/-! ## Refusals (R347, R354, R355) -/

theorem refuseFull_of_unselected {s : State} (q : Nat) (qu : Queue) (h : s.unselected 0x2800 0x0E 1) :
    s.refuseFull q qu = ((s.setQueue q (some { qu with refused := addWrap 32 qu.refused 1 })).countUp 0x2800 9).caused
      0x2800 0x0F 1 :=
  cause_of_unselected _ (unselected_countUp (by decide) h) rfl

theorem refusePantry_of_unselected {s : State} (q : Nat) (qu : Queue) (h : s.unselected 0x2800 0x0E 2) :
    s.refusePantry q qu = ((s.setQueue q (some { qu with refused := addWrap 32 qu.refused 1 })).countUp 0x2800 0x0A).caused
      0x2800 0x0F 2 :=
  cause_of_unselected _ (unselected_countUp (by decide) h) rfl

/-! ## What the queue system answers to an entry -/

section
variable {s : State} {q : Nat} {qu : Queue} (e : NewEntry) (hq : s.queue q = some qu)
include hq

theorem blockEntry_of_queue (hd : qu.damaged = false) : s.blockEntry q e = (s.offerEntry q e).1 := by
  simp [State.blockEntry, hq, hd]

theorem offerEntry_room (hd : qu.damaged = false) (hl : qu.entries.length < qu.capacity) (hf : 0 < s.freeBlocks) :
    s.offerEntry q e = (s.acceptEntry q qu e, 0) := by
  simp [State.offerEntry, hq, hd, hl, Nat.ne_of_gt hf]

theorem offerEntry_full (hd : qu.damaged = false) (hl : qu.capacity ≤ qu.entries.length) (hp : qu.policy ≠ 1) :
    s.offerEntry q e = (s.refuseFull q qu, 0x0F010801) := by
  simp [State.offerEntry, hq, hd, hl, hp]

theorem offerEntry_noBlock (hd : qu.damaged = false) (hl : qu.entries.length < qu.capacity) (hb : qu.needsBlock = true)
    (hf : s.freeBlocks = 0) : s.offerEntry q e = (s.refusePantry q qu, 0x0F010802) := by
  simp [State.offerEntry, hq, hd, hl, hb, hf]

/-- A full queue that discards, and needs a block where none is free, keeps an oldest entry that is in flight (R354, R355). -/
theorem offerEntry_moving (hd : qu.damaged = false) (hl : qu.capacity ≤ qu.entries.length) (hp : qu.policy = 1)
    (hm : s.inFlight q qu ≠ 0) (hb : qu.needsBlock = true) (hf : s.freeBlocks = 0) :
    s.offerEntry q e = (s.refusePantry q qu, 0x0F010802) := by
  simp only [State.offerEntry, hq, hd, hl, hp, hb, hf, bne_iff_ne.mpr hm]
  cases qu.blocks.find? fun b => b.held != 0 <;> simp

/-- A full queue that discards gives its oldest entry for the new one (R354). -/
theorem offerEntry_discards (hd : qu.damaged = false) (hl : qu.capacity ≤ qu.entries.length) (hp : qu.policy = 1)
    (hm : s.inFlight q qu = 0) (he : qu.entries ≠ []) (hb : qu.needsBlock = false ∨ 0 < s.freeBlocks) :
    s.offerEntry q e = (s.acceptEntry q { qu.takeOne with discarded := addWrap 32 qu.discarded 1 } e, 0) := by
  have block : (qu.needsBlock && s.freeBlocks == 0) = false := by
    rcases hb with h | h
    · simp [h]
    · simp [Nat.ne_of_gt h]
  simp [State.offerEntry, hq, hd, hl, hp, hm, he, block]

end

/-- The oldest entry leaves a queue, and what was written and refused stays counted. -/
theorem takeOne_of_cons {qu : Queue} {o : Entry} {r : List Entry} (h : qu.entries = o :: r) :
    qu.takeOne.entries = r ∧ qu.takeOne.written = qu.written ∧ qu.takeOne.refused = qu.refused := by
  have rest : qu.entries.drop 1 = r := by rw [h]; rfl
  have some_ : qu.entries.isEmpty = false := by rw [h]; rfl
  rw [Queue.takeOne, some_, if_neg Bool.false_ne_true]
  split
  · exact ⟨rest, rfl, rfl⟩
  · exact ⟨rest, rfl, rfl⟩

/-- ENTRY_WRITE in a working mode reaches the queue at its instant. -/
theorem exec_entryWrite_working {s : State} (t : Tk) (q : QueueNo) (e : NewEntry) (hm : s.mode.working = true) :
    exec (.entryWrite t q e) s = .next ((s.advance t).blockEntry q e) := by
  have h : (s.advance t).entryArrives q e = (s.advance t).blockEntry q e := by
    rw [State.entryArrives, advance_mode, if_pos hm]
  exact congrArg Host.Outcome.next h

/-- ENTRY_WRITE to a queue that takes or refuses it. -/
theorem exec_entryWrite_queue {s u : State} {t : Tk} {q : QueueNo} {e : NewEntry} {qu : Queue} {code : Nat}
    (hm : s.mode.working = true) (hq : s.queue q = some qu) (hd : qu.damaged = false)
    (h : (s.advance t).offerEntry q e = (u, code)) : exec (.entryWrite t q e) s = .next u := by
  rw [exec_entryWrite_working t q e hm, blockEntry_of_queue (s := s.advance t) e hq hd, h]

/-- Outside the working modes no block writes an entry (log entry 48). -/
theorem exec_entryWrite_idle {s : State} (t : Tk) (q : QueueNo) (e : NewEntry) (hm : s.mode.working = false) :
    exec (.entryWrite t q e) s = .next (s.advance t) := by
  have h : (s.advance t).entryArrives q e = s.advance t := by
    rw [State.entryArrives, advance_mode, hm, if_neg Bool.false_ne_true]
  exact congrArg Host.Outcome.next h

/-- ENTRY_WRITE to a queue that does not exist is counted (R347). -/
theorem exec_entryWrite_none {s : State} (t : Tk) (q : QueueNo) (e : NewEntry) (hm : s.mode.working = true)
    (hq : s.queue q = none) (hs : s.unselected 0x2800 0x0E 5) :
    exec (.entryWrite t q e) s = .next (((s.advance t).countUp 0x2800 0x0B).caused 0x2800 0x0F 5) := by
  have he : (s.advance t).blockEntry q e = ((s.advance t).countUp 0x2800 0x0B).cause 0x2800 5 (s.advance t).now := by
    simp [State.blockEntry, hq]
  rw [exec_entryWrite_working t q e hm, he,
    cause_of_unselected _ (unselected_countUp (s := s.advance t) (by decide) hs) rfl]

/-! ## Spills (R357) -/

/-- The oldest block that is not spilling and not the newest begins to spill. -/
theorem spillBlock_cons {b : Block} (c : Block) (r : List Block) (h : b.spilling = false) :
    spillBlock (b :: c :: r) = { b with spilling := true } :: c :: r := by
  simp [spillBlock, h]

theorem spillStarts_full {s : State} (h : 64 ≤ s.pantry.spills.length) : s.spillStarts = s := by
  rw [State.spillStarts, if_pos h]

theorem spillStarts_of_choice {s : State} {q : Nat} {qu : Queue} {b c : Block} {r : List Block}
    (hl : s.pantry.spills.length < 64) (hc : s.spillChoice = some q) (hq : s.queue q = some qu) (hb : qu.blocks = b :: c :: r)
    (hs : b.spilling = false) : s.spillStarts = State.countUp
      { s.setQueue q (some { qu with blocks := { b with spilling := true } :: c :: r }) with
        pantry := { s.pantry with spills := s.pantry.spills ++ [some q] } } 0x2800 7 := by
  have changed : ({ b with spilling := true } : Block) ≠ b := fun e => by
    have := congrArg Block.spilling e
    simp [hs] at this
  simp only [State.spillStarts, if_neg (Nat.not_le.mpr hl), hc, hq, hb, spillBlock_cons c r hs]
  rw [if_neg fun e => changed (List.head_eq_of_cons_eq e)]
  rfl

/-- The oldest block of a queue, where it spills and holds entries, is the one whose acknowledgement comes. -/
theorem spilled_cons {qu : Queue} {b : Block} {bs : List Block} (hb : qu.blocks = b :: bs) (hs : b.spilling = true)
    (hh : 0 < b.held) : qu.spilled =
      ({ qu with blocks := bs, larder := qu.larder + b.held, larderTail := qu.larderTail + b.filled }, false) := by
  simp [Queue.spilled, hb, hs, Nat.ne_of_gt hh]

theorem spillAcknowledged_of_block {s : State} {q : Nat} {r : List (Option Nat)} {qu : Queue} {b : Block} {bs : List Block}
    (hp : s.pantry.spills = some q :: r) (hq : s.queue q = some qu) (hb : qu.blocks = b :: bs) (hs : b.spilling = true)
    (hh : 0 < b.held) : s.spillAcknowledged = State.setQueue { s with pantry := { s.pantry with spills := r } } q (some
      { qu with blocks := bs, larder := qu.larder + b.held, larderTail := qu.larderTail + b.filled }) := by
  have hq' : State.queue { s with pantry := { s.pantry with spills := r } } q = some qu := hq
  simp [State.spillAcknowledged, hp, hq', spilled_cons hb hs hh]

end Sys2Proof.Machine

open Sys2Proof Sys2Proof.Machine

/-- Settles O36: by the answer that the queue system gives to an entry in each state of its queue, and by the block at the front of
the queue that a spill takes. -/
theorem queuesTakeAndSpillEntries : Obligations.QueuesTakeAndSpillEntries := by
  unfold Obligations.QueuesTakeAndSpillEntries
  refine ⟨⟨?room, ?full, ?noBlock, ?moving, fun _ t q e => exec_entryWrite_none t q e, ?discards,
    fun _ t q e => exec_entryWrite_idle t q e⟩, ?start, ?many, ?ack⟩
  case room =>
    intro s t q e qu hm hq hd hl hf
    exact ⟨_, exec_entryWrite_queue hm hq hd (offerEntry_room e hq hd hl hf), rfl, rfl, rfl, rfl, rfl⟩
  case full =>
    intro s t q e qu hm hq hd hl hp hs
    rw [exec_entryWrite_queue hm hq hd (offerEntry_full (s := s.advance t) e hq hd hl hp), refuseFull_of_unselected (s := s.advance t) q qu hs]
  case noBlock =>
    intro s t q e qu hm hq hd hl hb hf hs
    rw [exec_entryWrite_queue hm hq hd (offerEntry_noBlock (s := s.advance t) e hq hd hl hb hf), refusePantry_of_unselected (s := s.advance t) q qu hs]
  case moving =>
    intro s t q e qu hm hq hd hl hp hi hb hf hs
    rw [exec_entryWrite_queue hm hq hd (offerEntry_moving (s := s.advance t) e hq hd hl hp hi hb hf), refusePantry_of_unselected (s := s.advance t) q qu hs]
  case discards =>
    intro s t q e qu o r hm hq hd hl hp hi he hb
    obtain ⟨entries, written, refused⟩ := takeOne_of_cons he
    have ne : qu.entries ≠ [] := by simp [he]
    refine ⟨_, exec_entryWrite_queue hm hq hd (offerEntry_discards e hq hd hl hp hi ne hb), ?_, ?_, rfl, refused⟩
    · simp [Queue.append, entries, written, State.advance]
    · simp [Queue.append, written]
  case start =>
    intro s t q qu b c r hm hl hc hq hb hs
    have h : exec (.spillStart t) s = .next (s.advance t).spillStarts := congrArg Host.Outcome.next (if_pos hm)
    rw [h, spillStarts_of_choice (s := s.advance t) hl hc hq hb hs]
    rfl
  case many =>
    intro s t hl
    have h : (s.advance t).spillStarts = s.advance t := spillStarts_full hl
    exact congrArg Host.Outcome.next ((congrArg (ite (s.mode.working = true) · _) h).trans (ite_self _))
  case ack =>
    intro s t q r qu b bs hm hp hq hb hs hh
    have h : exec (.spillAck t) s = .next (s.advance t).spillAcknowledged := congrArg Host.Outcome.next (if_pos hm)
    rw [h, spillAcknowledged_of_block (s := s.advance t) hp hq hb hs hh]
    rfl
end

section
/-!
SUPPORT. The end of a session (R463) in a state whose claims name a session as the holder of another one's event queue: the claim
stays, because the holder of an event queue is read off its session (R314), and the list of ended claims passes it over.
-/

namespace Sys2Proof.Machine

/-- Session 0 is open, and the claims name it under the key of the event queue of session 1, which is not open. No command writes
such an entry: a claim list takes no event queue (R466). -/
def State.foreignClaim : State :=
  { State.reset with sessions := [(0, { stage := .open_ })], claims := [(claimKey clsQueue (eventQueue 1), some 0)] }

/-- The entry is among the claims of session 0, and session 0 does not hold the queue. -/
theorem foreignClaim_notHeld : State.foreignClaim.heldBy 0 = [(clsQueue, eventQueue 1)] ∧
    State.foreignClaim.holder clsQueue (eventQueue 1) = none := by decide +kernel

/-- The end of session 0 leaves the entry, which the key of a zone number past the last also reads. -/
theorem foreignClaim_stays :
    (State.foreignClaim.endSession 0 0).holder clsZone (2 ^ 20 + eventQueue 1) = some 0 := by decide +kernel

end Sys2Proof.Machine

open Sys2Proof Sys2Proof.Machine

/-- Refutes O50: its last clause says of every state, every class and every number that a session which has ended holds nothing;
it fails where the claims table holds an entry under the key of another session's event queue, which a number of 2^20 or more in the
class before it reads. -/
theorem not_claimsAndSessionsEnd : ¬ Obligations.ClaimsAndSessionsEnd := by
  unfold Obligations.ClaimsAndSessionsEnd
  rintro ⟨-, -, -, ended⟩
  obtain ⟨-, holdsNothing⟩ := ended State.foreignClaim 0 0 (by decide +kernel)
  exact holdsNothing clsZone (2 ^ 20 + eventQueue 1) foreignClaim_stays
end

section
/-!
SUPPORT. The frames of the operations that several blocks share: queues and lines, owners and modes, chains, converters and the net
mapper. Each is the sum of the frames of what the operation is made of. What a bind of the fixture cycle sets off is also shown to
spare the objects of the cycle (R469), whose values the bind itself gives.
-/

namespace Sys2Proof.Machine

/-! ## Updates of one part -/

section
variable (s : State)

theorem changes_setPort (p : Nat) (c : PortCell) : Changes [.ports] s (s.setPort p c) := (changes_iff _ _ _).mpr rfl
theorem changes_setPin (n : Nat) (c : PinCell) : Changes [.pins] s (s.setPin n c) := (changes_iff _ _ _).mpr rfl
theorem changes_setChain (n : Nat) (c : Chain) : Changes [.chains] s (s.setChain n c) := (changes_iff _ _ _).mpr rfl
theorem changes_setLane (n l : Nat) (x : ChainLane) : Changes [.chains] s (s.setLane n l x) := (changes_iff _ _ _).mpr rfl
theorem changes_setBusSource (n : Nat) (c : BusSource) : Changes [.busSources] s (s.setBusSource n c) :=
  (changes_iff _ _ _).mpr rfl
theorem changes_setCore (n : Nat) (c : Core) : Changes [.cores] s (s.setCore n c) := (changes_iff _ _ _).mpr rfl
theorem changes_setQueue (q : Nat) (c : Option Queue) : Changes [.queues] s (s.setQueue q c) := (changes_iff _ _ _).mpr rfl
theorem changes_setZone (z : Nat) (c : Zone) : Changes [.zones] s (s.setZone z c) := (changes_iff _ _ _).mpr rfl
theorem changes_resetObjs (i : Nat) (p : Nat → Bool) : Changes [.objs] s (s.resetObjs i p) := (changes_iff _ _ _).mpr rfl
theorem changes_setFilter (l : FilterLine) (f : Filter) : Changes [.ports, .pins] s (s.setFilter l f) := by
  cases l with
  | port p => exact (changes_setPort s p _).mono rfl
  | pin n => exact (changes_setPin s n _).mono rfl

end

/-- An operation that a condition chooses. -/
theorem Changes.ite {l : List Part} {s u v : State} {c : Prop} [Decidable c] (hu : Changes l s u) (hv : Changes l s v) :
    Changes l s (if c then u else v) := by
  split
  · exact hu
  · exact hv

/-! ## Frames that spare the fixture cycle's objects -/

/-- `u` is as `s` was in every part but those listed, and in the objects of the fixture cycle (0x2104). -/
structure Spares (l : List Part) (s u : State) : Prop where
  changes : Changes l s u
  cycle : ∀ sub < 256, u.obj 0x2104 sub = s.obj 0x2104 sub

section
variable {k l : List Part} {s t u v : State}

/-- What leaves all objects spares those of the cycle. -/
theorem Changes.spares (h : Changes l s u) (hl : l.contains .objs = false) : Spares l s u :=
  have objs : u.objs = s.objs := h .objs hl
  ⟨h, fun _ _ => by rw [State.obj, State.objAt, objs]; rfl⟩

theorem Spares.refl (l : List Part) (s : State) : Spares l s s := ⟨Changes.refl _ _, fun _ _ => rfl⟩

theorem Spares.mono (h : Spares k s u) (hk : k.all l.contains = true) : Spares l s u := ⟨h.changes.mono hk, h.cycle⟩

theorem Spares.trans (h : Spares l s t) (g : Spares l t u) : Spares l s u :=
  ⟨h.changes.trans g.changes, fun sub hs => (g.cycle sub hs).trans (h.cycle sub hs)⟩

theorem Spares.step (g : Spares k t u) (hk : k.all l.contains = true) (h : Spares l s t) : Spares l s u := h.trans (g.mono hk)

/-- An update that the list covers and that leaves the objects. -/
theorem Spares.upd (h : Spares l s t) (e : u.hide l = t.hide l) (ho : u.objs = t.objs) : Spares l s u :=
  ⟨h.changes.upd e, fun sub hs => Eq.trans (by rw [State.obj, State.objAt, ho]; rfl) (h.cycle sub hs)⟩

theorem Spares.ite {c : Prop} [Decidable c] (hu : Spares l s u) (hv : Spares l s v) : Spares l s (if c then u else v) := by
  split
  · exact hu
  · exact hv

theorem Spares.foldl {β : Type} {f : State → β → State} (xs : List β) (hf : ∀ t x, Spares l s t → Spares l s (f t x))
    (h : Spares l s t) : Spares l s (xs.foldl f t) := by
  induction xs generalizing t with
  | nil => exact h
  | cons x xs ih => exact ih (hf t x h)

end

section
variable (s : State)

theorem spares_setObj (i j : Nat) (v : Int) (hi : i ≠ 0x2104 := by omega) (hj : j < 256 := by omega) :
    Spares [.objs] s (s.setObj i j v) :=
  ⟨changes_setObj s i j v, fun sub hs => obj_setObj_other s v (by simp only [objKey]; omega)⟩

theorem spares_countUp (i j d : Nat) (hi : i ≠ 0x2104 := by omega) (hj : j < 256 := by omega) :
    Spares [.objs] s (s.countUp i j d) :=
  spares_setObj s i j _ hi hj

end

/-! ## A happening and a log record -/

/-- The event causes of a block are none of the objects of the fixture cycle. -/
theorem blockSubs_spares {idx sel cau : Nat} (h : blockSubs idx = some (sel, cau)) : idx ≠ 0x2104 ∧ cau < 256 := by
  have all : (blockSubs idx).all (fun x => decide (x.2 < 256)) = true := by
    simp [blockSubs, apply_ite (Option.all fun x : Nat × Nat => decide (x.2 < 256))]
  refine ⟨?_, by simpa [h] using all⟩
  rintro rfl
  have none : blockSubs 0x2104 = none := by decide
  rw [none] at h
  cases h

theorem spares_arrival (s : State) (n stamp : Nat) : Spares [.objs, .sources] s (s.arrival n stamp) := by
  have set := fun x => ((changes_setSource s n x).spares rfl).mono (l := [.objs, .sources]) rfl
  exact Spares.ite ((spares_countUp _ _ _ _).step rfl (set _))
    (((changes_settleSource _ n false).spares rfl).step rfl (set _))

theorem spares_levelArrival (s : State) (n : Nat) : Spares [.objs, .sources] s (s.levelArrival n) :=
  Spares.ite (spares_arrival s n _) (Spares.refl _ _)

theorem spares_controllerEdge (s : State) (n stamp : Nat) (rising : Bool) :
    Spares [.objs, .sources] s (s.controllerEdge n stamp rising) := by
  have same := Spares.refl [.objs, .sources] s
  have arrives := spares_arrival s n stamp
  unfold State.controllerEdge
  split
  · exact same
  · split
    · exact Spares.ite (spares_levelArrival s n) same
    · exact Spares.ite arrives same
    · exact Spares.ite same arrives
    · exact arrives

theorem spares_setLevel (s : State) (n : Nat) (level : Bool) (stamp : Tk) :
    Spares [.objs, .sources] s (s.setLevel n level stamp) := by
  have set := fun x => ((changes_setSource s n x).spares rfl).mono (l := [.objs, .sources]) rfl
  exact Spares.ite ((spares_countUp _ _ _ _).step rfl (set _)) (set _)

theorem spares_signalOnce (s : State) (x : Signal) : Spares signalParts s (s.signalOnce x).1 := by
  cases x with
  | cause idx bit stamp =>
    unfold State.signalOnce
    dsimp only
    split
    next h =>
      obtain ⟨hi, hj⟩ := blockSubs_spares h
      exact (spares_setObj s _ _ _ hi hj).mono rfl
    next => exact Spares.refl _ _
  | edge n stamp rising =>
    exact ((changes_edgeToSteps _ n stamp rising).spares rfl).step rfl ((spares_controllerEdge _ n stamp rising).step rfl
      ((spares_setLevel s n rising stamp).mono rfl))
  | trigger q stamp command arrived =>
    have set := fun c => ((changes_setConv s q c).spares rfl).mono (l := signalParts) rfl
    unfold State.signalOnce
    dsimp only
    split
    · exact (spares_countUp s _ _ _).mono rfl
    · split
      · exact (spares_countUp _ _ _ _).step rfl (set _)
      · exact set _
  | request o stamp command arrived =>
    unfold State.signalOnce
    dsimp only
    split
    · exact (spares_countUp s _ _ _).mono rfl
    · exact ((changes_setTrigOut s o _).spares rfl).mono rfl

theorem spares_signal (fuel : Nat) (s : State) (x : Signal) : Spares signalParts s (s.signal fuel x) := by
  induction fuel generalizing s x with
  | zero => exact Spares.refl _ _
  | succ fuel ih => exact Spares.foldl _ (fun t y h => h.trans (ih t y)) (spares_signalOnce s x)

theorem spares_cause (s : State) (idx bit stamp : Nat) : Spares signalParts s (s.cause idx bit stamp) := spares_signal _ s _

/-- An edge of a source reaches what a cause reaches (R299). -/
theorem spares_edge (s : State) (n stamp : Nat) (rising : Bool) : Spares signalParts s (s.edge n stamp rising) :=
  spares_signal _ s _

theorem spares_logRec (s : State) (stamp tag kind : Nat) (detail : Bytes) :
    Spares [.objs, .log] s (s.logRec stamp tag kind detail) :=
  ⟨changes_logRec s stamp tag kind detail, fun _ hs => obj_logRec s stamp tag kind detail (by simp only [objKey]; omega)⟩

/-! ## Writing an entry -/

/-- The parts that an entry of a device block may change. -/
abbrev entryParts : List Part := .queues :: signalParts

theorem spares_watermark (s u : State) : Spares signalParts u (State.watermark s u) :=
  Spares.ite (spares_cause _ _ _ _) (Spares.refl _ _)

theorem spares_acceptEntry (s : State) (q : Nat) (qu : Queue) (e : NewEntry) : Spares entryParts s (s.acceptEntry q qu e) :=
  (spares_watermark _ _).step rfl (((changes_setQueue s q _).spares rfl).mono rfl)

theorem spares_refuseFull (s : State) (q : Nat) (qu : Queue) : Spares entryParts s (s.refuseFull q qu) :=
  (spares_cause _ _ _ _).step rfl ((spares_countUp _ _ _ _).step rfl (((changes_setQueue s q _).spares rfl).mono rfl))

theorem spares_refusePantry (s : State) (q : Nat) (qu : Queue) : Spares entryParts s (s.refusePantry q qu) :=
  (spares_cause _ _ _ _).step rfl ((spares_countUp _ _ _ _).step rfl (((changes_setQueue s q _).spares rfl).mono rfl))

theorem spares_offerEntry (s : State) (q : Nat) (e : NewEntry) : Spares entryParts s (s.offerEntry q e).1 := by
  have same := Spares.refl entryParts s
  have accept := fun qu => spares_acceptEntry s q qu e
  have full := spares_refuseFull s q
  have pantry := spares_refusePantry s q
  unfold State.offerEntry
  split
  · exact same
  · dsimp only
    split
    · exact same
    · split
      · split
        · exact full _
        · split
          · split
            · split
              · exact accept _
              · exact pantry _
            · exact pantry _
          · split
            · exact full _
            · exact accept _
      · split
        · exact pantry _
        · exact accept _

theorem spares_blockEntry (s : State) (q : Nat) (e : NewEntry) : Spares entryParts s (s.blockEntry q e) := by
  have missing : Spares entryParts s ((s.countUp 0x2800 0x0B).cause 0x2800 5 s.now) :=
    (spares_cause _ _ _ _).step rfl ((spares_countUp s _ _ _).mono rfl)
  unfold State.blockEntry
  split
  · exact missing
  · exact Spares.ite missing (spares_offerEntry s q e)

theorem spares_blockEntryTo (s : State) (v : Nat) (e : NewEntry) : Spares entryParts s (s.blockEntryTo v e) :=
  Spares.ite (Spares.refl _ _) (spares_blockEntry s v e)

/-! ## Lines: filters of ports and pins (R86 to R89) -/

/-- The parts that a line may change: cells, what their edges set off, and the queues of their captures. -/
abbrev lineParts : List Part := [.objs, .ports, .pins, .convs, .disp, .sources, .timebase, .trigOuts, .queues]

theorem spares_rejectEdge (s : State) (l : FilterLine) : Spares lineParts s (s.rejectEdge l) := by
  have set := ((changes_setFilter s l { s.filter l with skipped := (s.filter l).skipped + 1 }).spares rfl).mono (l := lineParts) rfl
  cases l with
  | port p => exact (spares_countUp _ _ _ _).step rfl set
  | pin n => exact set

theorem spares_captureEdge (s : State) (l : FilterLine) (stamp : Nat) (level afterPark late : Bool) (skipped : Nat) :
    Spares lineParts s (s.captureEdge l stamp level afterPark late skipped) := by
  cases l with
  | pin n => exact Spares.refl _ _
  | port p =>
    refine Spares.ite (Spares.refl _ _) ?_
    have entry := fun e => (spares_blockEntryTo s (s.objN (0x3100 + p) 0x0D) e).mono (l := lineParts) rfl
    exact Spares.ite (entry _) (((changes_setFilter _ _ _).spares rfl).step rfl (entry _))

theorem spares_acceptEdge (s : State) (l : FilterLine) (stamp accepted : Nat) (level late : Bool) :
    Spares lineParts s (s.acceptEdge l stamp accepted level late) := by
  unfold State.acceptEdge
  extract_lets f d u v w b x
  have hu : Spares lineParts s u := ((changes_setFilter s l _).spares rfl).mono rfl
  have hv : Spares lineParts s v := by
    cases l with
    | port p => exact (spares_setObj _ _ _ _).step rfl ((spares_countUp _ _ _ _).step rfl hu)
    | pin n => exact (spares_countUp _ _ _ _).step rfl hu
  have hw : Spares lineParts s w := (spares_captureEdge _ _ _ _ _ _ _).step rfl hv
  have hx : Spares lineParts s x := by
    cases l with
    | port p => exact hw
    | pin n => exact Spares.ite (hw.upd rfl rfl) hw
  exact (spares_edge _ _ _ _).step rfl hx

theorem spares_endDebounce (s : State) (l : FilterLine) : Spares lineParts s (s.endDebounce l) := by
  unfold State.endDebounce
  dsimp only
  split
  · have set := fun f => ((changes_setFilter s l f).spares rfl).mono (l := lineParts) rfl
    exact Spares.ite (Spares.refl _ _) (Spares.ite (set _) ((spares_acceptEdge _ _ _ _ _ _).step rfl (set _)))
  · exact Spares.refl _ _

theorem spares_debounceBefore (s : State) (l : FilterLine) (t : Tk) : Spares lineParts s (s.debounceBefore l t) := by
  unfold State.debounceBefore
  split
  · exact Spares.ite (spares_endDebounce s l) (Spares.refl _ _)
  · exact Spares.refl _ _

theorem spares_acceptLevel (s : State) (l : FilterLine) : Spares lineParts s (s.acceptLevel l) := by
  unfold State.acceptLevel
  extract_lets f at' u g v
  have hv : Spares lineParts s v := ((changes_setFilter _ _ _).spares rfl).step rfl (spares_debounceBefore s l at')
  exact Spares.ite (Spares.refl _ _) (Spares.ite ((spares_rejectEdge _ _).step rfl hv)
    (Spares.ite hv ((spares_acceptEdge _ _ _ _ _ _).step rfl hv)))

theorem spares_defineLevel (s : State) (l : FilterLine) : Spares lineParts s (s.defineLevel l) := by
  unfold State.defineLevel
  extract_lets f u n v
  have hv : Spares lineParts s v := (spares_setLevel _ _ _ _).step rfl (((changes_setFilter s l _).spares rfl).mono rfl)
  exact Spares.ite (Spares.refl _ _) (Spares.ite ((spares_levelArrival _ _).step rfl hv) hv)

theorem spares_lineSignal (s : State) (l : FilterLine) (level : Bool) : Spares lineParts s (s.lineSignal l level) := by
  have due : Spares lineParts s (s.lineDue l) :=
    (spares_endDebounce _ _).step rfl ((spares_acceptLevel _ _).step rfl (spares_defineLevel s l))
  have set := fun f => ((changes_setFilter (s.lineDue l) l f).spares rfl).step (l := lineParts) rfl due
  exact Spares.ite due (Spares.ite ((spares_rejectEdge _ _).step rfl (set _)) (set _))

/-! ## Service pins -/

theorem spares_followPin (s : State) (n : PinNo) : Spares lineParts s (s.followPin n) := by
  unfold State.followPin
  extract_lets c since low u
  have hu : Spares lineParts s u := ((changes_setPin s n _).spares rfl).mono rfl
  exact Spares.ite (((changes_setFilter _ _ _).spares rfl).step rfl hu)
    (Spares.ite ((spares_setLevel _ _ _ _).step rfl (((changes_setFilter _ _ _).spares rfl).step rfl hu))
      ((spares_lineSignal _ _ _).step rfl hu))

theorem spares_followPins (s : State) : Spares lineParts s s.followPins :=
  Spares.foldl _ (fun t n h => (spares_followPin t n).step rfl h) (Spares.refl _ _)

theorem changes_freezePins (s : State) : Changes [.pins] s s.freezePins :=
  Changes.each _ (fun t n h => (changes_setPin t n _).step rfl h) (Changes.refl _ _)

/-! ## Port cells and their owners -/

theorem spares_noteMark (s : State) (p : Nat) : Spares [.ports] s (s.noteMark p) := by
  unfold State.noteMark
  dsimp only
  split
  · exact (changes_setPort s p _).spares rfl
  · exact Spares.ite (Spares.refl _ _) ((changes_setPort s p _).spares rfl)

theorem spares_recompare (s : State) (p : Nat) : Spares [.ports] s (s.recompare p) :=
  Spares.ite (Spares.refl _ _) ((changes_setPort s p _).spares rfl)

theorem spares_followPort (s : State) (p : PortNo) : Spares lineParts s (s.followPort p) :=
  Spares.ite (Spares.refl _ _) (Spares.ite (spares_lineSignal s _ _) (((changes_setFilter s _ _).spares rfl).mono rfl))

theorem spares_cellFollows (s : State) (p : PortNo) : Spares lineParts s (s.cellFollows p) :=
  (spares_noteMark _ _).step rfl ((spares_followPort _ _).step rfl ((spares_recompare s p).mono rfl))

theorem spares_startPark (s : State) (p : Nat) (new : Owner) (cause : OwnerCause) :
    Spares [.objs, .ports, .fresh] s (s.startPark p new cause) :=
  (spares_setObj _ _ _ _).step rfl ((spares_countUp _ _ _ _).step rfl (((changes_nextFresh _).spares rfl).step rfl
    ((spares_noteMark _ _).step rfl (((changes_setPort s p _).spares rfl).mono rfl))))

theorem spares_settleOwner (s : State) (cause : OwnerCause) (p : Nat) :
    Spares [.objs, .ports, .fresh] s (s.settleOwner cause p) := by
  have set := fun c => ((changes_setPort s p c).spares rfl).mono (l := [.objs, .ports, .fresh]) rfl
  unfold State.settleOwner
  dsimp only
  split
  · exact Spares.ite (set _) (Spares.ite (set _) (Spares.refl _ _))
  · exact Spares.ite (Spares.refl _ _) (spares_startPark s p _ cause)

theorem spares_settleOwners (s : State) (cause : OwnerCause) : Spares [.objs, .ports, .fresh] s (s.settleOwners cause) :=
  Spares.foldl _ (fun t p h => (spares_settleOwner t cause p).step rfl h) (Spares.refl _ _)

/-! ## A change of mode -/

/-- The parts that a change of mode may change (R512). -/
abbrev modeParts : List Part := .mode :: .log :: lineParts

theorem spares_changeMode (s : State) (m : Mode) (why : Nat) : Spares modeParts s (s.changeMode m why) := by
  unfold State.changeMode
  extract_lets old drives u v
  have hu : Spares modeParts s u := (spares_setObj _ _ _ _).step rfl ((Spares.refl _ s).upd rfl rfl)
  have hv : Spares modeParts s v := Spares.ite (Spares.ite hu (hu.upd rfl rfl)) (Spares.ite (hu.upd rfl rfl) hu)
  exact (spares_cause _ _ _ _).step rfl ((spares_logRec _ _ _ _ _).step rfl hv)

theorem spares_modeBecomes (s : State) (m : Mode) (why : Nat) : Spares modeParts s (s.modeBecomes m why) :=
  (spares_followPins _).step rfl (spares_changeMode s m why)

/-! ## Chains and converters -/

/-- The parts that the restart of a chain may change: its taps take markers (R399). -/
abbrev chainParts : List Part := .chains :: .zones :: signalParts

theorem changes_tapItems (s : State) (n l : Nat) (fine : Bool) (x : TapItem) : Changes chainParts s (s.tapItems n l fine x) :=
  Changes.ite (Changes.refl _ _) <| Changes.foldl _ (fun t z h =>
    (Changes.ite ((changes_cause _ _ _ _).step rfl ((changes_countUp t _ _ _).mono rfl)) ((changes_setZone t _ _).mono rfl)
      : Changes chainParts t (t.tapItem z.1 z.2 x)).step rfl h) (Changes.refl _ _)

theorem changes_markRestart (s : State) (n l : Nat) (fine : Bool) (cause : Nat) :
    Changes chainParts s (s.markRestart n l fine cause) :=
  Changes.ite (changes_tapItems s n l fine _) ((changes_setLane s n l _).mono rfl)

theorem changes_restartLane (s : State) (n l cause missing stamp : Nat) (lag : Bool) :
    Changes chainParts s (s.restartLane n l cause missing stamp lag) :=
  (changes_markRestart _ _ _ _ _).step rfl ((changes_markRestart _ _ _ _ _).step rfl ((changes_cause _ _ _ _).step rfl
    ((changes_setLane s n l _).mono rfl)))

theorem changes_finishFade (s : State) (n : Nat) (bk : Bank) (at' : Tk) : Changes chainParts s (s.finishFade n bk at') :=
  (changes_cause _ _ _ _).step rfl ((changes_setObj _ _ _ _).step rfl ((changes_setChain s n _).mono rfl))

theorem changes_cutFade (s : State) (n : Nat) (at' : Tk) : Changes chainParts s (s.cutFade n at') := by
  unfold State.cutFade
  dsimp only
  split
  · exact Changes.refl _ _
  · exact changes_finishFade s n _ at'

theorem changes_letConversions (s : State) (n : Nat) : Changes [.convs] s (s.letConversions n) :=
  Changes.ite (Changes.refl _ _) (changes_setConv s n _)

theorem changes_restartChain (s : State) (n cause at' : Nat) : Changes chainParts s (s.restartChain n cause at') := by
  unfold State.restartChain
  extract_lets u c v w
  have hv : Changes chainParts s v := (changes_setChain _ _ _).step rfl (changes_cutFade s n at')
  have hw : Changes chainParts s w := Changes.each _ (fun t l h => (changes_setLane _ _ _ _).step rfl
    ((changes_restartLane t n l cause 0 at' false).step rfl h)) hv
  exact (changes_letConversions _ _).step rfl hw

theorem changes_conversionEnds (s : State) (q taken : Nat) (cut : Bool) : Changes [.convs] s (s.conversionEnds q taken cut) :=
  changes_setConv s q _

theorem changes_abortSlot (s : State) (q : Nat) : Changes signalParts s (s.abortSlot q) := by
  have ends := fun c idx v bit at' => (changes_cause (((s.setConv q c).setObj (0x3200 + q) idx v)) (0x3200 + q) bit at').step
    (l := signalParts) rfl ((changes_setObj _ _ _ _).step rfl ((changes_setConv s q c).mono rfl))
  unfold State.abortSlot
  dsimp only
  split
  · exact Changes.refl _ _
  · exact ends _ _ _ _ _
  · exact ends _ _ _ _ _

theorem changes_followLevel (s : State) (n stamp : Nat) : Changes signalParts s (s.followLevel n stamp) :=
  Changes.ite (Changes.refl _ _) (spares_edge s n stamp _).changes

theorem changes_followBlock (s : State) (idx : Nat) : Changes signalParts s (s.followBlock idx) := by
  unfold State.followBlock
  split
  · exact Changes.refl _ _
  · exact Changes.ite (Changes.each _ (fun t b h => (changes_followLevel t _ _).step rfl h) (Changes.refl _ _))
      (changes_followLevel s _ _)

theorem changes_resetBlock (s : State) (idx : Nat) : Changes signalParts s (s.resetBlock idx) :=
  (changes_followBlock _ idx).step rfl ((changes_resetObjs s idx _).mono rfl)

theorem changes_periodChanged (s : State) (q : Nat) : Changes chainParts s (s.periodChanged q) := by
  have set := fun c => (changes_setConv s q c).mono (l := chainParts) rfl
  exact Changes.ite (Changes.ite (set _) ((changes_restartChain _ _ _ _).step rfl ((changes_setObj _ _ _ _).step rfl (set _))))
    (set _)

theorem changes_convDefaults (s : State) (q : Nat) : Changes chainParts s (s.convDefaults q) := by
  have reset := (changes_resetBlock s (0x3200 + q)).mono (l := chainParts) rfl
  exact (changes_periodChanged _ _).step rfl (Changes.ite ((changes_setConv _ _ _).step rfl reset) reset)

theorem changes_sequenceStops (s : State) (q : Nat) (cause : StopCause) : Changes chainParts s (s.sequenceStops q cause) := by
  unfold State.sequenceStops
  extract_lets c k u c' v
  have hu : Changes chainParts s u := Changes.ite
    ((changes_setConv _ _ _).step rfl ((changes_conversionEnds s q k false).mono rfl)) (Changes.refl _ _)
  have hv : Changes chainParts s v := (changes_setConv _ _ _).step rfl hu
  have tells : Changes chainParts s (((v.setObj (0x3200 + q) 1 0).abortSlot q).cause (0x3200 + q) 5 v.now) :=
    (changes_cause _ _ _ _).step rfl ((changes_abortSlot _ _).step rfl ((changes_setObj _ _ _ _).step rfl hv))
  cases cause with
  | command => exact hv
  | queue => exact hv
  | mode => exact tells
  | claim => exact (changes_convDefaults _ q).step rfl tells

theorem changes_convHalt (s : State) (q : Nat) : Changes chainParts s (s.convHalt q) :=
  (changes_sequenceStops _ _ _).step rfl (Changes.ite (Changes.refl _ _) ((changes_abortSlot s q).mono rfl))

/-! ## The net mapper -/

/-- The parts that the end of a map may change (R186, R187). -/
abbrev mapParts : List Part := [.objs, .ports, .pins, .convs, .chains, .map, .disp, .busSources, .sources, .timebase, .trigOuts,
  .queues, .zones]

theorem changes_sourceOff (s : State) (n : Nat) : Changes [.busSources] s (s.sourceOff n) :=
  Changes.ite ((changes_setBusSource _ _ _).step rfl (changes_setBusSource s n _)) (Changes.refl _ _)

theorem changes_setGrants (s : State) (m : Nat) (dies : List Nat) : Changes [.objs] s (s.setGrants m dies) :=
  Changes.foldl _ (fun t _ h => (changes_setObj t _ _ _).step rfl h) (changes_setObj s _ _ _)

theorem changes_mapReleases (s : State) : Changes mapParts s s.mapReleases := by
  unfold State.mapReleases
  extract_lets m u free v
  have hu : Changes mapParts s u := Changes.ite
    (Changes.each _ (fun t n h => (changes_sourceOff t n).step rfl h) (Changes.refl _ _)) (Changes.refl _ _)
  have hv : Changes mapParts s v := Changes.foldl _ (fun t q h => (changes_restartChain _ _ _ _).step rfl
    ((changes_setObj _ _ _ _).step rfl ((changes_setConv _ _ _).step rfl ((changes_setChain t q _).step rfl h)))) hu
  split
  exact (changes_setGrants _ _ _).step rfl (hv.upd rfl)

theorem changes_mapStepDone (s : State) (verdict diffs cause : Nat) : Changes [.disp] s (s.mapStepDone verdict diffs cause) := by
  unfold State.mapStepDone
  split
  · exact Changes.refl _ _
  · exact Changes.ite (Changes.refl _ _) (changes_setStep s _ _)

theorem changes_pointRests (s : State) (excited : List Nat) (p : Nat) : Changes lineParts s (s.pointRests excited p) := by
  have set := fun c => (changes_setPort s p c).mono (l := lineParts) rfl
  exact (spares_cellFollows _ _).changes.step rfl (Changes.ite (set _) ((changes_setPort _ _ _).step rfl (set _)))

theorem changes_mapFinishes (s : State) (verdict diffs cause : Nat) : Changes mapParts s (s.mapFinishes verdict diffs cause) := by
  unfold State.mapFinishes
  extract_lets m excited a b c d e f y g
  have ha : Changes mapParts s a := (spares_blockEntryTo s _ _).changes.mono rfl
  have hb : Changes mapParts s b := (changes_setObj _ _ _ _).step rfl (Changes.ite ha ((changes_setObj _ _ _ _).step rfl ha))
  have hd : Changes mapParts s d := (changes_setObj _ _ _ _).step rfl ((changes_setObj _ _ _ _).step rfl
    ((changes_setObj _ _ _ _).step rfl ((changes_countUp _ _ _ _).step rfl hb)))
  have hf : Changes mapParts s f := (changes_mapStepDone _ _ _ _).step rfl ((changes_mapReleases _).step rfl hd)
  have hg : Changes mapParts s g := hf.upd rfl
  exact (changes_cause _ _ _ _).step rfl (Changes.each _ (fun t p h => (changes_pointRests t excited p).step rfl h) hg)

theorem changes_mapAborts (s : State) (cause : Nat) : Changes mapParts s (s.mapAborts cause) := by
  refine Changes.ite (Changes.refl _ _) (Changes.ite ?_ ?_)
  · exact ((changes_setObj _ 0x3401 2 cause).step rfl (changes_mapReleases s)).upd rfl
  · exact (changes_mapFinishes _ _ _ _).step rfl ((spares_blockEntryTo s _ _).changes.mono rfl)

end Sys2Proof.Machine
end

section
/-!
SUPPORT. Entry to SAVE and the end of the Cellar's work there (R522, R485): what they leave of the supplies and of the mode.
-/

namespace Sys2Proof.Machine

/-! ## What entry to SAVE stops -/

/-- The parts that the failure of a configuration stream may change (R419). -/
abbrev streamParts : List Part := .fresh :: .loader :: .sessions :: .outbox :: .zones :: signalParts

theorem changes_zoneStage (s : State) (z : Nat) (st : ZoneStage) : Changes (.zones :: signalParts) s (s.zoneStage z st) :=
  (changes_cause _ _ _ _).step rfl ((changes_setObj _ _ _ _).step rfl ((changes_setZone s z _).mono rfl))

theorem changes_zoneFails (s : State) (z code : Nat) : Changes (.zones :: signalParts) s (s.zoneFails z code) :=
  (changes_cause _ _ _ _).step rfl ((changes_setObj _ _ _ _).step rfl
    ((changes_zoneStage _ z .failed).step rfl ((changes_setZone s z _).mono rfl)))

theorem changes_loadingFails (s : State) (z : Nat) :
    Changes (.zones :: signalParts) s (if (s.zone z).stage == .loading then s.zoneFails z 1 else s) :=
  Changes.ite (changes_zoneFails s z 1) (Changes.refl _ _)

theorem changes_loaderAnswers (s : State) (code : Nat) : Changes [.loader, .sessions, .outbox] s (s.loaderAnswers code) := by
  unfold State.loaderAnswers
  split
  · exact (changes_replyLater _ _ _).step rfl ((changes_iff _ _ _).mpr rfl)
  · exact Changes.refl _ _

theorem changes_streamLosesMode (s : State) (m : Mode) : Changes streamParts s (s.streamLosesMode m) := by
  unfold State.streamLosesMode State.streamFails
  refine Changes.ite (Changes.refl _ _) ?_
  extract_lets l u v d w x y z
  have hu : Changes streamParts s u := Changes.foldl _ (fun t k h => (changes_loadingFails t k).step rfl h) (Changes.refl _ _)
  have hv : Changes streamParts s v := by
    dsimp only [v]
    split
    · exact (changes_setZone _ _ _).step rfl hu
    · exact hu
  have hy : Changes streamParts s y := (changes_setObj _ _ _ _).step rfl ((changes_setObj _ _ _ _).step rfl
    ((changes_setObj _ _ _ _).step rfl ((changes_setObj _ _ _ _).step rfl hv)))
  have hz : Changes streamParts s z := (changes_loaderAnswers _ _).step rfl hy
  exact (changes_cause _ _ _ _).step rfl (hz.upd rfl)

theorem changes_completeSource (s : State) (n : Nat) : Changes [.objs, .sources] s (s.completeSource n) :=
  (changes_levelArrival _ _).step rfl ((changes_settleSource _ _ _).step rfl ((changes_setSource s n _).mono rfl))

theorem changes_resetCore (s : State) (n : Nat) : Changes [.objs, .sources, .cores] s (s.resetCore n) :=
  (changes_setCore _ n _).step rfl
    (Changes.foldl _ (fun t k h => (changes_completeSource t k).step rfl h) (Changes.refl _ _))

theorem changes_resetCores (s : State) : Changes [.objs, .sources, .cores] s s.resetCores :=
  Changes.foldl _ (fun t n h => (changes_resetCore t n).step rfl h) (Changes.refl _ _)

theorem changes_continuePass (s : State) (q : Nat) : Changes [.convs] s (s.continuePass q) :=
  Changes.ite (changes_setConv s q _) (Changes.refl _ _)

theorem changes_unitLeaves (s : State) : Changes [.cal, .convs, .objs, .ports, .fresh] s s.unitLeaves := by
  unfold State.unitLeaves
  split
  · exact Changes.refl _ _
  · refine Changes.each _ (fun t p h => (spares_settleOwner t .disable p).changes.step rfl h) ?_
    exact (changes_continuePass _ _).step rfl ((changes_setConv _ _ _).step rfl ((changes_iff _ _ _).mpr rfl))

theorem changes_setScrub (s : State) (c : Scrubber) : Changes [.scrub] s { s with scrub := c } := (changes_iff _ _ _).mpr rfl
theorem changes_planHalts (s : State) : Changes [.disp, .sweeps, .busSources] s s.planHalts := (changes_iff _ _ _).mpr rfl
theorem changes_globalDiscarded (s : State) : Changes [.cal] s s.globalDiscarded := (changes_iff _ _ _).mpr rfl
theorem changes_cellarStops (s : State) : Changes [.cellar] s s.cellarStops := (changes_iff _ _ _).mpr rfl
theorem changes_clampAll (s : State) : Changes [.ports] s s.clampAll := (changes_iff _ _ _).mpr rfl

/-- The parts that entry to SAVE may change once the mode and the supplies are set. -/
abbrev saveParts : List Part := [.objs, .ports, .pins, .convs, .chains, .map, .disp, .sweeps, .busSources, .cores, .sources,
  .timebase, .trigOuts, .queues, .zones, .loader, .scrub, .sessions, .cellar, .cal, .outbox, .fresh]

/-- Entry to SAVE notes its instant, the mode before it and the voltage; a commanded reset no longer waits (R522). -/
theorem enterSave_facts (s : State) (mv : Nat) : (s.enterSave mv).mode = .save ∧ (s.enterSave mv).power =
    { s.power with vsupGood := false, vsupMv := mv, saveAt := s.now, saveFrom := s.mode, resetPending := none } := by
  have hs := changes_freezePins s
  have kept : s.freezePins.power = s.power := hs .power rfl
  have now : s.freezePins.now = s.now := hs .now rfl
  rw [← kept, ← now]
  unfold State.enterSave
  extract_lets old u power v w a b c d e f g h
  have mode : w.mode = .save := rfl
  have power : w.power = { u.power with vsupGood := false, vsupMv := mv, saveAt := u.now, saveFrom := s.mode,
                                        resetPending := none } := rfl
  clear_value w
  have ha : Changes saveParts w a := (changes_setObj _ _ _ _).step rfl ((changes_setObj w _ _ _).mono rfl)
  have hc : Changes saveParts w c := (changes_streamLosesMode _ _).step rfl (ha.upd rfl)
  have hd : Changes saveParts w d := Changes.each _ (fun t q h => (changes_convHalt t q).step rfl h) hc
  have he : Changes saveParts w e := (changes_resetCores _).step rfl ((changes_mapAborts _ _).step rfl
    ((changes_planHalts d).step rfl hd))
  have hf : Changes saveParts w f := (changes_unitLeaves _).step rfl ((changes_globalDiscarded e).step rfl he)
  have hh : Changes saveParts w h := (changes_setScrub f _).step rfl hf
  have hz : Changes saveParts w h.cellarStops.clampAll.followPins := (spares_followPins _).changes.step rfl
    ((changes_clampAll _).step rfl ((changes_cellarStops h).step rfl hh))
  exact ⟨(hz .mode rfl).trans mode, (hz .power rfl).trans power⟩

end Sys2Proof.Machine
end

section
/-!
SUPPORT. What a reset and the loss of VSUP keep (R526): the device wakes, goes dark, or is reset from the mode that it is in.
-/

namespace Sys2Proof.Machine

/-! ## The end of SAVE (R485, R523) -/

/-- The parts that a Cellar transaction that ends in SAVE may change. -/
abbrev closingParts : List Part := .cellar :: .cal :: .fresh :: signalParts

theorem changes_commitTxn (s : State) : Changes (.cellar :: signalParts) s s.commitTxn := by
  unfold State.commitTxn
  split
  · exact Changes.refl _ _
  · exact (changes_countUp _ _ _ _).step rfl ((changes_iff _ _ _).mpr rfl)

theorem changes_abandonTxn (s : State) : Changes (.cellar :: signalParts) s s.abandonTxn := by
  unfold State.abandonTxn
  split
  · exact Changes.refl _ _
  · exact (changes_cause _ _ _ _).step rfl ((changes_countUp _ _ _ _).step rfl ((changes_iff _ _ _).mpr rfl))

theorem changes_runCommits (s : State) (d : Nat) : Changes (.cal :: signalParts) s (s.runCommits d) :=
  Changes.ite (Changes.refl _ _) ((changes_cause _ _ _ _).step rfl ((changes_countUp _ _ _ _).step rfl
    ((changes_figuresStored _ d).step rfl ((changes_setCalRun s d _).mono rfl))))

theorem changes_runStoreFails (s : State) (d : Nat) : Changes [.cal] s (s.runStoreFails d) :=
  Changes.ite (Changes.refl _ _) (changes_setCalRun s d _)

theorem changes_txnDone (s : State) (why : TxnFor) : Changes closingParts s (s.txnDone why) := by
  unfold State.txnDone
  split
  · exact (changes_runCommits s _).mono rfl
  · exact Changes.each _ (fun t d h => (changes_runCommits t d).step rfl h) (Changes.refl _ _)
  · exact (changes_importCommits s _).mono rfl
  · exact Changes.ite ((changes_cause s _ _ _).mono rfl) (Changes.refl _ _)
  · exact Changes.refl _ _

theorem changes_txnLost (s : State) (why : TxnFor) : Changes [.cal] s (s.txnLost why) := by
  unfold State.txnLost
  split
  · exact changes_runStoreFails s _
  · exact Changes.each _ (fun t d h => (changes_runStoreFails t d).step rfl h) (Changes.refl _ _)
  · exact Changes.refl _ _

/-- The end of the Cellar's work in SAVE tells the supplies only how it ended (R528). -/
theorem cellarCloses_power (s : State) : ∃ act, s.cellarCloses.power = { s.power with saveAction := act } := by
  unfold State.cellarCloses
  split
  next _ t act h =>
    have kept : t.power = s.power := by
      split at h
      · cases h
        rfl
      · split at h
        · cases h
          exact (changes_txnDone _ _ .power rfl).trans (changes_commitTxn s .power rfl)
        · cases h
          exact (changes_txnLost _ _ .power rfl).trans (changes_abandonTxn s .power rfl)
    exact ⟨act, congrArg (fun p : Power => { p with saveAction := act }) kept⟩

theorem changes_saveRecord (s : State) : Changes [.objs, .log] s s.saveRecord := changes_logRec s _ _ _ _

/-! ## Waking and going dark (R425, R526) -/

/-- What a reset leaves of the Cellar: its stored items, and no transaction. -/
theorem cold_cellar (s : State) (m : Mode) : (s.cold m).cellar.values = s.cellar.values ∧
    (s.cold m).cellar.items = s.cellar.items ∧ (s.cold m).cellar.open_ = none := by
  cases h : s.cellar.open_ with
  | none => simp [State.cold, State.rebase, h]
  | some t => simp [State.cold, State.rebase, h, Cellar.closed]

/-- The supplies that a reset leaves. -/
def Power.afterReset (p : Power) : Power :=
  { vsupGood := p.vsupGood, vsupMv := p.vsupMv, vbat := p.vbat, vio := p.vio, vioFell := p.vioFell, vioLast := p.vioLast,
    rstnLow := p.rstnLow, resetCause := p.resetCause, batteryGone := p.batteryGone, tap := p.tap }

theorem cold_power (s : State) (m : Mode) : (s.cold m).power = s.power.afterReset := rfl

/-- Telling of the lost battery keys leaves the keys as they are, and the supplies but for the mark that it was due (R425). -/
theorem tellsBattery_facts (s : State) : Changes (.keys :: .power :: signalParts) s s.tellsBattery ∧
    s.tellsBattery.keys.kek = s.keys.kek ∧ s.tellsBattery.keys.battery = s.keys.battery ∧
    s.tellsBattery.power = { s.power with batteryGone := false } := by
  unfold State.tellsBattery
  split
  · have keys : ∀ u : State, (u.cause 0x2700 3 0).keys = u.keys := fun u => changes_cause u _ _ _ .keys rfl
    exact ⟨(changes_cause _ _ _ _).step rfl ((changes_iff _ _ _).mpr rfl), (congrArg KeyStore.kek (keys _)).trans rfl,
      (congrArg KeyStore.battery (keys _)).trans rfl, changes_cause _ _ _ _ .power rfl⟩
  next h =>
    refine ⟨Changes.refl _ _, rfl, rfl, ?_⟩
    rw [← Bool.eq_false_of_not_eq_true h]

/-- A log record that is not yet written leaves those that are (R529). -/
theorem logRec_records {s : State} (stamp tag kind : Nat) (detail : Bytes) (h : s.log.booted = false) :
    (s.logRec stamp tag kind detail).log.records = s.log.records := by
  have waits : s.logReady = false := by rw [State.logReady, h, Bool.and_false]
  unfold State.logRec
  dsimp only
  rw [waits]
  split
  · rfl
  · split
    · contradiction
    · split <;> rfl

/-- What the device keeps when it wakes, and what it sets (R425, R526). -/
theorem wakes_facts (s : State) (old : Mode) (cause : Nat) :
    Changes (.keys :: .power :: .cellar :: .log :: signalParts) (s.cold .wake) (s.wakes old cause) ∧
    (s.wakes old cause).power = { s.power.afterReset with resetCause := cause, batteryGone := false } ∧
    (s.wakes old cause).keys.kek = s.keys.kek ∧ (s.wakes old cause).keys.battery = s.keys.battery ∧
    (s.wakes old cause).cellar.values = s.cellar.values ∧ (s.wakes old cause).cellar.items = s.cellar.items ∧
    (s.wakes old cause).cellar.open_ = none ∧ (s.wakes old cause).log.records = s.log.records := by
  unfold State.wakes
  extract_lets a b c d e f
  obtain ⟨values, items, idle⟩ := cold_cellar s .wake
  obtain ⟨told, kek, battery, power⟩ := tellsBattery_facts (e.setObj 0x2000 0x0E (putBit (e.objN 0x2000 0x0E) 0 true : Nat))
  have logged := changes_logRec f 0 0x04E0 2 (natLe 1 old.code ++ natLe 1 Mode.wake.code)
  have set : Changes [.cellar, .power, .objs] a (e.setObj 0x2000 0x0E (putBit (e.objN 0x2000 0x0E) 0 true : Nat)) :=
    (changes_iff _ _ _).mpr rfl
  have keys := logged .keys rfl
  have cellar := (logged .cellar rfl).trans (told .cellar rfl)
  have records : f.log = a.log := told .log rfl
  refine ⟨logged.step rfl (told.step rfl (set.mono rfl)), (logged .power rfl).trans power, (congrArg KeyStore.kek keys).trans kek,
    (congrArg KeyStore.battery keys).trans battery, (congrArg Cellar.values cellar).trans values,
    (congrArg Cellar.items cellar).trans items, (congrArg Cellar.open_ cellar).trans idle, ?_⟩
  rw [logRec_records _ _ _ _ (congrArg Log.booted records), records]
  rfl

end Sys2Proof.Machine
end

section
/-!
SUPPORT. The supplies and the sources of a reset, by the mode that they find (R506, R512, R522, R523, R525, R536).
-/

namespace Sys2Proof.Machine

variable {s : State}

/-! ## Waking and going dark -/

@[simp] theorem wakes_mode (old : Mode) (cause : Nat) : (s.wakes old cause).mode = .wake := (wakes_facts s old cause).1 .mode rfl

@[simp] theorem wakes_now (old : Mode) (cause : Nat) : (s.wakes old cause).now = 0 := (wakes_facts s old cause).1 .now rfl

theorem wakes_power (old : Mode) (cause : Nat) :
    (s.wakes old cause).power = { s.power.afterReset with resetCause := cause, batteryGone := false } :=
  (wakes_facts s old cause).2.1

theorem batteryEmpties_mode (s : State) : s.batteryEmpties.mode = s.mode := by
  unfold State.batteryEmpties
  split <;> rfl

theorem batteryEmpties_vsupGood (s : State) : s.batteryEmpties.power.vsupGood = s.power.vsupGood := by
  unfold State.batteryEmpties
  split <;> rfl

@[simp] theorem goesDark_mode (s : State) : s.goesDark.mode = s.darkMode := batteryEmpties_mode _

@[simp] theorem goesDark_vsupGood (s : State) : s.goesDark.power.vsupGood = s.power.vsupGood := batteryEmpties_vsupGood _

/-- Without VBAT and VSUP the battery keys and the calendar are lost (R425). -/
theorem goesDark_battery (hb : s.power.vbat = false) (hv : s.power.vsupGood = false) :
    s.goesDark.keys.battery = List.replicate 4 none ∧ s.goesDark.timebase.calendarLost = true := by
  have lost : ((s.cold .off).power.vbat || (s.cold .off).power.vsupGood) = false := by
    rw [cold_power, Power.afterReset, hb, hv]
    rfl
  unfold State.goesDark State.batteryEmpties
  simp [hb, lost, List.replicate]

/-! ## Resets (R525) -/

theorem resets_of_working (cause : Nat) (h : s.mode.working = true) : s.resets cause = s.wakes s.mode cause := if_pos h

theorem resets_of_save (cause : Nat) (h : s.mode = .save) : s.resets cause = s := by
  unfold State.resets
  rw [h, if_neg (by decide), if_neg (by decide)]

theorem rstnFalls_of_vio (h : s.power.vio.isSome = true) :
    s.rstnFalls = State.resets { s with power := { s.power with rstnLow := true } } 3 := by
  have present : ¬ s.power.vio.isNone = true := by
    rw [Option.isNone_iff_eq_none]
    exact Option.isSome_iff_ne_none.mp h
  exact if_neg present

theorem rstnFalls_of_no_vio (h : s.power.vio = none) : s.rstnFalls = s := by
  unfold State.rstnFalls
  rw [h]
  rfl

/-! ## Supplies -/

theorem vsupReturns_of_low {mv : Nat} (h : mv < 4400) : s.vsupReturns mv = s := if_pos h

theorem vsupReturns_of_up {mv : Nat} (h : 4400 ≤ mv) (ho : s.mode ≠ .off) (hk : s.mode ≠ .keep) :
    s.vsupReturns mv = { s with power := { s.power with vsupGood := true, vsupMv := mv } } := by
  have up : (s.mode == .off || s.mode == .keep) = false := by simp [ho, hk]
  unfold State.vsupReturns
  rw [if_neg (Nat.not_lt.mpr h)]
  dsimp only
  rw [up]
  rfl

/-- A device that is down comes up, or waits for RSTN (R506, R525). -/
theorem vsupReturns_of_down {mv : Nat} (h : 4400 ≤ mv) (hm : s.mode = .off ∨ s.mode = .keep) :
    s.vsupReturns mv =
      let up := { s.rebase with power := { s.power with vsupGood := true, vsupMv := mv, resetCause := 1 } }
      if s.power.rstnLow then up else up.wakes s.mode 1 := by
  have down : (s.mode == .off || s.mode == .keep) = true := by simpa using hm
  unfold State.vsupReturns
  rw [if_neg (Nat.not_lt.mpr h)]
  dsimp only
  rw [down]
  cases hr : s.power.rstnLow with
  | false => simp [State.rebase, hr]
  | true => simp [State.rebase, hr]

theorem powerFails_of_high {mv : Nat} (h : 4200 ≤ mv) : s.powerFails mv = s := if_pos h

theorem powerFails_of_working {mv : Nat} (h : mv < 4200) (hm : s.mode.working = true) : s.powerFails mv = s.enterSave mv := by
  unfold State.powerFails
  rw [if_neg (Nat.not_le.mpr h), if_pos hm]

theorem powerFails_of_wake {mv : Nat} (h : mv < 4200) (hm : s.mode = .wake) : s.powerFails mv =
    State.goesDark { s with power := { s.power with vsupGood := false, vsupMv := mv } } := by
  unfold State.powerFails
  rw [if_neg (Nat.not_le.mpr h), hm, if_neg (by decide)]
  simp [hm]

theorem saveEnds_of_early (h : s.now < s.power.saveAt + 12000000) : s.saveEnds = s := by
  have early : s.now < s.power.saveAt + 3 * tkMs := h
  unfold State.saveEnds
  simp [early]

/-- The closing of the Cellar and the log in SAVE leaves the supplies. -/
theorem cellarCloses_supplies (s : State) :
    s.cellarCloses.power.vsupGood = s.power.vsupGood ∧ s.cellarCloses.power.vbat = s.power.vbat := by
  obtain ⟨act, h⟩ := cellarCloses_power s
  rw [h]
  exact ⟨rfl, rfl⟩

theorem saveRecord_power (s : State) : s.saveRecord.power = s.power := changes_saveRecord s .power rfl

theorem saveEnds_of_due (hm : s.mode = .save) (h : s.power.saveAt + 12000000 ≤ s.now) : s.saveEnds =
    if s.power.vsupGood then s.cellarCloses.saveRecord.wakes .save 2 else s.cellarCloses.saveRecord.goesDark := by
  have due : ¬ s.now < s.power.saveAt + 3 * tkMs := Nat.not_lt.mpr h
  have supply : s.cellarCloses.saveRecord.power.vsupGood = s.power.vsupGood := by
    rw [saveRecord_power, (cellarCloses_supplies s).1]
  unfold State.saveEnds
  simp [hm, due, supply]

theorem darkMode_of_vbat {u : State} (h : u.power.vbat = s.power.vbat) : u.darkMode = s.darkMode := by
  rw [State.darkMode, h, State.darkMode]

/-- Where the supply collapses in SAVE the device goes dark, however much of the Cellar and the log has closed (R523). -/
theorem saveCollapses_dark (hm : s.mode = .save) : ∃ u : State, s.saveCollapses = u.goesDark ∧ u.power.vsupGood = false ∧
    u.power.vbat = s.power.vbat := by
  unfold State.saveCollapses
  split
  next working => simp [hm] at working
  extract_lets closed power u v
  have hu : u.power.vsupGood = false ∧ u.power.vbat = s.power.vbat := ⟨rfl, rfl⟩
  clear_value closed u
  have hv : v.power.vsupGood = false ∧ v.power.vbat = s.power.vbat := by
    obtain ⟨good, vbat⟩ := cellarCloses_supplies u
    dsimp only [v]
    split
    · exact ⟨good.trans hu.1, vbat.trans hu.2⟩
    · exact hu
  split
  · exact ⟨_, rfl, by rw [saveRecord_power, hv.1], by rw [saveRecord_power, hv.2]⟩
  · exact ⟨_, rfl, hv⟩

theorem vbatRises_eq (s : State) : s.vbatRises = { s with
    power := { s.power with vbat := true }, mode := if s.mode = .off ∧ s.power.vsupGood = false then .keep else s.mode } := by
  unfold State.vbatRises
  by_cases h : s.mode = .off ∧ s.power.vsupGood = false
  · simp [h.1, h.2]
  · rw [if_neg h]
    exact if_neg (by simpa using h)

theorem vbatFalls_of_keep (h : s.mode = .keep) :
    s.vbatFalls = State.goesDark { s with power := { s.power with vbat := false } } := if_pos h

/-! ## RSTN and VIO -/

theorem rstnRises_of_wake (h : s.power.rstnLow = true) (hm : s.mode = .wake) :
    s.rstnRises = State.rebase { s with power := { s.power with rstnLow := false } } := by
  unfold State.rstnRises
  simp [h, hm]

theorem rstnRises_of_down (h : s.power.rstnLow = true) (hm : s.mode = .off ∨ s.mode = .keep) (hv : s.power.vsupGood = true) :
    s.rstnRises = State.wakes { s with power := { s.power with rstnLow := false } } s.mode s.power.resetCause := by
  unfold State.rstnRises
  rcases hm with hm | hm <;> simp [h, hm, hv]

theorem rstnRises_vio (s : State) : s.rstnRises.power.vio = s.power.vio := by
  unfold State.rstnRises
  split
  · rfl
  · dsimp only
    split
    · rfl
    · split
      · rw [wakes_power]; rfl
      · rfl
    · split
      · rw [wakes_power]; rfl
      · rfl
    · rfl

theorem vioChanges_vio (s : State) (mv : Nat) : (s.vioChanges mv).power.vio = vioBand mv := by
  unfold State.vioChanges
  extract_lets band was fell last power u links v w
  have hv : v.power.vio = band := by
    dsimp only [v]
    split <;> rfl
  have hw : w.power.vio = band := by
    dsimp only [w]
    split
    · exact (rstnRises_vio v).trans hv
    · exact hv
  exact (congrArg Power.vio ((spares_followPins w).changes .power rfl)).trans hw

end Sys2Proof.Machine
end

section
/-!
SUPPORT. The reset command (R525), and what settles the obligation about supplies and resets.
-/

namespace Sys2Proof.Machine

variable {s : State} {t : Tk} {a : Accessor}

/-! ## The reset command -/

/-- A write that passes every check of R442 and that its effect refuses leaves an answer with the abort code. -/
theorem write_refuses {idx sub : Nat} {bytes : Bytes} {c : Card} (h : TakesWrite s t a idx sub bytes c) {code : Nat}
    {k : State → Int → Res} (hk : k (s.heard t a) (c.written bytes) = refuse code) :
    s.requestValue t a idx sub bytes k = .next ((s.heard t a).refusedWith code) := by
  rw [State.requestValue, request_served h.served h.turn, guardWrite_ok h, hk, finish_refuse]

theorem sessionOf_heard (s : State) (t : Tk) (a : Accessor) : (s.heard t a).sessionOf a = s.sessionOf a := by
  cases a with
  | session n => rfl
  | core n => simp [State.sessionOf, State.core]

/-- The authority over the device does not depend on when the request is heard. -/
theorem deviceAuthority_heard (s : State) (t : Tk) (a : Accessor) (who : Nat) :
    (s.heard t a).deviceAuthority who = s.deviceAuthority who := by
  simp [State.deviceAuthority, State.claimAbort, State.holder, State.claimOf, clsCycle, clsQueue]

/-- A reset that is commanded waits in this state. -/
def State.resetNoted (s : State) (who : Nat) : State :=
  let s := s.logRec s.now 0x04E0 0x0D [BitVec.ofNat 8 who]
  { s with power := { s.power with resetPending := some (s.now + 100 * tkMs) } }

theorem resetCommanded_takes {who : Nat} (hm : s.mode = .safe ∨ s.mode = .idle ∨ s.mode = .hold)
    (ha : s.deviceAuthority who = none) : s.resetCommanded who 0x746F6F62 = .ok (s.resetNoted who) := by
  have mode : (s.mode != .safe && s.mode != .idle && s.mode != .hold) = false := by
    rcases hm with h | h | h <;> rw [h] <;> rfl
  unfold State.resetCommanded
  rw [mode, ha]
  rfl

theorem resetCommanded_refuses (who v : Nat) (h1 : s.mode ≠ .safe) (h2 : s.mode ≠ .idle) (h3 : s.mode ≠ .hold) :
    s.resetCommanded who v = refuse 0x0F011101 := by
  have mode : (s.mode != .safe && s.mode != .idle && s.mode != .hold) = true := by simp [h1, h2, h3]
  unfold State.resetCommanded
  rw [mode]
  rfl

theorem resetSettles_of_none (h : s.power.resetPending = none) : s.resetSettles = s := by
  rw [State.resetSettles, h]

theorem resetSettles_of_busy {e : Tk} (h : s.power.resetPending = some e) (hc : s.cellarIdle = false) (he : s.now < e) :
    s.resetSettles = s := by
  have later : decide (e ≤ s.now) = false := decide_eq_false (Nat.not_le.mpr he)
  rw [State.resetSettles, h]
  dsimp only
  rw [hc, later]
  rfl

theorem resetSettles_of_idle {e : Tk} (h : s.power.resetPending = some e) (hc : s.cellarIdle = true) :
    s.resetSettles = s.resets 4 := by
  rw [State.resetSettles, h]
  dsimp only
  rw [hc]
  rfl

/-- A request that is accepted and answered changes the supplies only in the mark that the device advances (R510). -/
theorem answered_power (s u : State) : ∃ adv, (s.answered u).power = { u.power with advance := adv } := by
  unfold State.answered State.accepted
  split
  · exact ⟨false, rfl⟩
  · exact ⟨u.power.advance, rfl⟩

theorem changes_answered (s u : State) : Changes [.power, .outbox] u (s.answered u) :=
  (changes_send _ _).step rfl (Changes.ite ((changes_iff _ _ _).mpr rfl) (Changes.refl _ _))

theorem resetNoted_facts (s : State) (who : Nat) : Changes [.objs, .log, .power] s (s.resetNoted who) ∧
    (s.resetNoted who).power = { s.power with resetPending := some (s.now + 100 * tkMs) } := by
  have logged := changes_logRec s s.now 0x04E0 0x0D [BitVec.ofNat 8 who]
  have now : (s.logRec s.now 0x04E0 0x0D [BitVec.ofNat 8 who]).now = s.now := logged .now rfl
  have power : (s.logRec s.now 0x04E0 0x0D [BitVec.ofNat 8 who]).power = s.power := logged .power rfl
  refine ⟨(logged.mono rfl).upd rfl, ?_⟩
  unfold State.resetNoted
  dsimp only
  rw [now, power]

/-- What the reset command does where its mode takes it. -/
theorem exec_resetCommand_takes {v : Nat} {c : Card} (h : TakesWrite s t a 0x2000 3 (natLe 4 v) c)
    (hv : c.written (natLe 4 v) = 0x746F6F62) (hm : s.mode = .safe ∨ s.mode = .idle ∨ s.mode = .hold)
    (ha : s.deviceAuthority (s.sessionOf a) = none) : exec (.resetCommand t a v) s =
      .next ((s.heard t a).answered ((s.heard t a).resetNoted (s.sessionOf a))).resetSettles := by
  have frame := (resetNoted_facts (s.heard t a) (s.sessionOf a)).1
  have cellar : ((s.heard t a).resetNoted (s.sessionOf a)).cellar = (s.heard t a).cellar := frame .cellar rfl
  have owes := owes_of_eq (congrArg Loader.owed (frame .loader rfl)) (congrArg Cellar.open_ cellar) (congrArg Cellar.waiting cellar)
  have taken : (s.heard t a).resetCommanded ((s.heard t a).sessionOf a) (c.written (natLe 4 v)).toNat =
      .ok ((s.heard t a).resetNoted (s.sessionOf a)) := by
    rw [sessionOf_heard, hv]
    exact resetCommanded_takes (by rw [heard_mode]; exact hm) (by rw [deviceAuthority_heard]; exact ha)
  have write := write_completes h (k := fun s x => s.resetCommanded (s.sessionOf a) x.toNat) taken owes
  show execResetCommand t a v s = _
  rw [execResetCommand, State.writes, write]

theorem exec_resetCommand_refuses {v : Nat} {c : Card} (h : TakesWrite s t a 0x2000 3 (natLe 4 v) c) (h1 : s.mode ≠ .safe)
    (h2 : s.mode ≠ .idle) (h3 : s.mode ≠ .hold) : exec (.resetCommand t a v) s =
      .next ((s.heard t a).refusedWith 0x0F011101).resetSettles := by
  have write := write_refuses h (k := fun s x => s.resetCommanded (s.sessionOf a) x.toNat)
    (resetCommanded_refuses _ _ (by rw [heard_mode]; exact h1) (by rw [heard_mode]; exact h2) (by rw [heard_mode]; exact h3))
  show execResetCommand t a v s = _
  rw [execResetCommand, State.writes, write]

/-- The state in which the reset command has been answered: the reset waits 100 ms for the Cellar. -/
theorem resetAnswered_facts (s : State) (t : Tk) (a : Accessor) (who : Nat) :
    let u := (s.heard t a).answered ((s.heard t a).resetNoted who)
    u.mode = s.mode ∧ u.cellar = s.cellar ∧ u.now = max s.now t ∧ u.power.resetPending = some (max s.now t + 400000000) := by
  obtain ⟨frame, power⟩ := resetNoted_facts (s.heard t a) who
  obtain ⟨adv, answered⟩ := answered_power (s.heard t a) ((s.heard t a).resetNoted who)
  have all := (changes_answered (s.heard t a) ((s.heard t a).resetNoted who)).step
    (l := [.objs, .log, .power, .outbox]) rfl (frame.mono rfl)
  refine ⟨(all .mode rfl).trans (heard_mode s t a), (all .cellar rfl).trans (heard_cellar s t a),
    (all .now rfl).trans (heard_now s t a), ?_⟩
  rw [answered, power, heard_now]
  rfl

theorem cellarIdle_of_cellar {u : State} (h : u.cellar = s.cellar) : u.cellarIdle = s.cellarIdle := by
  rw [State.cellarIdle, h, State.cellarIdle]

theorem vioChange_skips {mv : Nat} (h : s.vioSkips mv = true) : exec (.vioChange t mv) s = .fault .vioBandSkipped := if_pos h

theorem vioChange_takes {mv : Nat} (h : s.vioSkips mv = false) :
    exec (.vioChange t mv) s = .next ((s.advance t).vioChanges mv) := if_neg (by simp [h])

end Sys2Proof.Machine

open Sys2Proof Sys2Proof.Machine

/-- Settles O55: each source of supply or reset by the mode that it finds; a reset by what its cold state keeps. -/
theorem suppliesAndResets : Obligations.SuppliesAndResets := by
  unfold Obligations.SuppliesAndResets
  refine ⟨⟨?_, ?_, ?_, ?_, ?_, ?_, ?_, ?_, ?_, ?_, ?_, ?_, ?_, ?_⟩, ?_, ?_, ?_, ?_, ?_, ?_, ?_, ?_, ?_, ?_⟩
  -- supplies: VSUP, SAVE, VBAT and VIO
  · intro s t mv h hm hr
    have up := vsupReturns_of_down (s := s.advance t) h (by simpa using hm)
    simp only [advance_power, hr, Bool.false_eq_true, if_false] at up
    exact ⟨_, congrArg Host.Outcome.next up, wakes_mode _ _, wakes_now _ _, by simp [wakes_power, Power.afterReset]⟩
  · intro s t mv h
    exact congrArg Host.Outcome.next (vsupReturns_of_low h)
  · intro s t mv h ho hk
    have up := vsupReturns_of_up (s := s.advance t) h (by simpa using ho) (by simpa using hk)
    rw [advance_power] at up
    exact congrArg Host.Outcome.next up
  · intro s t mv h hm hr
    have up := vsupReturns_of_down (s := s.advance t) h (by simpa using hm)
    simp only [advance_power, hr, if_true] at up
    exact ⟨_, congrArg Host.Outcome.next up, advance_mode s t, rfl, by simp only [hr]⟩
  · intro s t mv h
    exact congrArg Host.Outcome.next (powerFails_of_high h)
  · intro s t mv h hm
    have fails := powerFails_of_working (s := s.advance t) h (by simpa using hm)
    obtain ⟨mode, power⟩ := enterSave_facts (s.advance t) mv
    refine ⟨_, congrArg Host.Outcome.next fails, mode, ?_⟩
    rw [power, advance_mode]
    exact ⟨advance_now s t, rfl, rfl, rfl⟩
  · intro s t mv h hm
    have fails := powerFails_of_wake (s := s.advance t) h (by simpa using hm)
    exact ⟨_, congrArg Host.Outcome.next fails, (goesDark_mode _).trans (darkMode_of_vbat (by simp))⟩
  · intro s t hm h
    exact congrArg Host.Outcome.next (saveEnds_of_early (s := s.advance t) (by simpa using h))
  · intro s t hm h
    have ends := saveEnds_of_due (s := s.advance t) (by simpa using hm) (by simpa using h)
    refine ⟨_, congrArg Host.Outcome.next ends, fun good => ?_, fun bad => ?_⟩
    · simp [good, wakes_power]
    · have vbat := (cellarCloses_supplies (s.advance t)).2
      rw [advance_power] at vbat
      simp [bad, darkMode_of_vbat ((congrArg Power.vbat (saveRecord_power _)).trans vbat)]
  · intro s t hm
    obtain ⟨u, dark, good, vbat⟩ := saveCollapses_dark (s := s.advance t) (by simpa using hm)
    rw [advance_power] at vbat
    exact ⟨_, congrArg Host.Outcome.next dark, (goesDark_mode u).trans (darkMode_of_vbat vbat),
      (goesDark_vsupGood u).trans good⟩
  · intro s t
    have rises := vbatRises_eq (s.advance t)
    rw [advance_power, advance_mode] at rises
    exact congrArg Host.Outcome.next rises
  · intro s t hm
    exact congrArg Host.Outcome.next ((if_neg (by simpa using hm)).trans (by simp))
  · intro s t hm hv
    have falls := vbatFalls_of_keep (s := s.advance t) (by simpa using hm)
    obtain ⟨battery, calendar⟩ := goesDark_battery
      (s := { s.advance t with power := { (s.advance t).power with vbat := false } }) rfl (by simpa using hv)
    exact ⟨_, congrArg Host.Outcome.next falls, goesDark_mode _, battery, calendar⟩
  · intro s t mv
    exact ⟨fun h => ⟨_, vioChange_takes h, vioChanges_vio _ mv⟩, vioChange_skips⟩
  -- resets: the command, RSTN, the watchdog and the brown-out detector, and what any of them keeps
  · intro s t a v c h hv hm ha
    obtain ⟨mode, cellar, now, pending⟩ := resetAnswered_facts s t a (s.sessionOf a)
    have same := cellarIdle_of_cellar cellar
    refine ⟨_, exec_resetCommand_takes h hv hm ha, fun busy => ?_, fun idle => ?_⟩
    · rw [resetSettles_of_busy pending (same.trans busy) (by rw [now]; exact Nat.lt_add_of_pos_right (by decide))]
      exact ⟨mode, pending⟩
    · have works : s.mode.working = true := by rcases hm with h | h | h <;> rw [h] <;> rfl
      rw [resetSettles_of_idle pending (same.trans idle), resets_of_working _ (mode ▸ works)]
      exact ⟨wakes_mode _ _, wakes_now _ _, by rw [wakes_power]⟩
  · intro s t a v c h h1 h2 h3 hp
    rw [exec_resetCommand_refuses h h1 h2 h3, resetSettles_of_none]
    exact (congrArg Power.resetPending (heard_power s t a)).trans hp
  · intro s t hv hm
    have falls := rstnFalls_of_vio (s := s.advance t) (by simpa using hv)
    rw [resets_of_working _ (by simpa using hm)] at falls
    exact ⟨_, congrArg Host.Outcome.next falls, wakes_mode _ _, wakes_now _ _, by rw [wakes_power]; exact ⟨rfl, rfl⟩⟩
  · intro s t hv
    exact congrArg Host.Outcome.next (rstnFalls_of_no_vio (s := s.advance t) (by simpa using hv))
  · intro s t hv hm
    have falls := rstnFalls_of_vio (s := s.advance t) (by simpa using hv)
    rw [resets_of_save _ (by simpa using hm), advance_power] at falls
    exact congrArg Host.Outcome.next falls
  · intro s t hr hm
    have rises := rstnRises_of_wake (s := s.advance t) (by simpa using hr) (by simpa using hm)
    rw [advance_power] at rises
    exact ⟨_, congrArg Host.Outcome.next rises, (advance_mode s t).trans hm, rfl, rfl⟩
  · intro s t hr hm hv
    have rises := rstnRises_of_down (s := s.advance t) (by simpa using hr) (by simpa using hm) (by simpa using hv)
    exact ⟨_, congrArg Host.Outcome.next rises, wakes_mode _ _, by simp [wakes_power]⟩
  · intro s t hm
    have works : (s.advance t).mode.working = true := by simpa using hm
    exact ⟨_, _, congrArg Host.Outcome.next (resets_of_working 5 works), wakes_mode _ _, by rw [wakes_power],
      congrArg Host.Outcome.next (resets_of_working 6 works), wakes_mode _ _, by rw [wakes_power], wakes_now _ _⟩
  · intro s t hm
    have save : (s.advance t).mode = .save := by simpa using hm
    exact ⟨congrArg Host.Outcome.next (resets_of_save 5 save), congrArg Host.Outcome.next (resets_of_save 6 save)⟩
  · intro s old cause
    obtain ⟨frame, -, kek, battery, values, items, idle, records⟩ := wakes_facts s old cause
    exact ⟨values, items, idle, kek, battery, records, frame .claims rfl, frame .queues rfl, frame .sessions rfl,
      frame .zones rfl, frame .mem rfl⟩
end

section
/-!
SUPPORT. The fixture cycle (R25, R26, R469): what a bind leaves, and how a release ends.
-/

namespace Sys2Proof.Machine

variable {s : State} {t : Tk} {a : Accessor}

/-! ## A change of mode -/

theorem changeMode_mode (s : State) (m : Mode) (why : Nat) : (s.changeMode m why).mode = m := by
  unfold State.changeMode
  extract_lets old drives u v
  have hv : Changes lineParts u v := Changes.ite (Changes.ite (Changes.refl _ _) ((Changes.refl _ u).upd rfl))
    (Changes.ite ((Changes.refl _ u).upd rfl) (Changes.refl _ _))
  exact (changes_cause _ _ _ _ .mode rfl).trans ((changes_logRec v _ _ _ _ .mode rfl).trans (hv .mode rfl))

theorem modeBecomes_mode (s : State) (m : Mode) (why : Nat) : (s.modeBecomes m why).mode = m :=
  ((spares_followPins _).changes .mode rfl).trans (changeMode_mode s m why)

/-! ## A bind (R25, R469) -/

/-- The fixture cycle is bound by a session. -/
def State.boundTo (s : State) (who : Nat) : State := { s with cycle := { boundBy := some who } }

/-- A bound device enters the mode `m`, and tells of the bind. -/
def State.runBegins (s : State) (m : Mode) (why : Nat) : State :=
  let s := s.modeBecomes m why
  let s := ((s.setObj 0x2104 4 s.now).countUp 0x2104 6).cause 0x2100 4 s.now
  s.settleOwners .bind

theorem runBegins_facts (s : State) (m : Mode) (why : Nat) : Changes (.fresh :: modeParts) s (s.runBegins m why) ∧
    (s.runBegins m why).mode = m ∧ (s.runBegins m why).obj 0x2104 4 = s.now ∧
    (s.runBegins m why).obj 0x2104 6 = addWrap 32 (s.objN 0x2104 6) 1 := by
  unfold State.runBegins
  extract_lets u v
  have entered : Spares modeParts s u := spares_modeBecomes s m why
  have mode : u.mode = m := modeBecomes_mode s m why
  clear_value u
  have now : u.now = s.now := entered.changes .now rfl
  have count : u.objN 0x2104 6 = s.objN 0x2104 6 := congrArg Int.toNat (entered.cycle 6 (by decide))
  have told : Spares (.ports :: .fresh :: signalParts) ((u.setObj 0x2104 4 u.now).countUp 0x2104 6) (v.settleOwners .bind) :=
    (spares_settleOwners v .bind).step rfl ((spares_cause _ 0x2100 4 u.now).mono rfl)
  have booked : Changes [.objs] u ((u.setObj 0x2104 4 u.now).countUp 0x2104 6) :=
    (changes_countUp _ _ _ _).step rfl (changes_setObj u _ _ _)
  have after : Changes (.ports :: .fresh :: signalParts) u (v.settleOwners .bind) := told.changes.step rfl (booked.mono rfl)
  refine ⟨after.step rfl (entered.changes.mono rfl), (after .mode rfl).trans mode, ?_, ?_⟩
  · rw [told.cycle 4 (by decide), State.countUp, obj_setObj_other _ _ (by decide), obj_setObj, now]
  · rw [told.cycle 6 (by decide), State.countUp, obj_setObj, State.objN, obj_setObj_other _ _ (by decide)]
    exact congrArg (fun n : Nat => ((addWrap 32 n 1 : Nat) : Int)) count

/-- The state that a bind by a session begins. -/
def State.bindDone (s : State) (who : Nat) : State :=
  (s.boundTo who).runBegins (if 1 ≤ (s.boundTo who).objN 0x2201 1 then .throttle else .run) (0x10 + who)

theorem binds_of_idle (h : s.mode = .idle) (who : Nat) : s.binds who = .ok (s.bindDone who) := by
  have idle : (s.mode != .idle) = false := by rw [h]; rfl
  unfold State.binds
  rw [idle]
  rfl

theorem bindDone_facts (s : State) (who : Nat) : Changes (.cycle :: .fresh :: modeParts) s (s.bindDone who) ∧
    (s.bindDone who).cycle = { boundBy := some who } ∧
    (s.bindDone who).mode = (if s.objN 0x2201 1 = 0 then .run else .throttle) ∧
    (s.bindDone who).obj 0x2104 4 = s.now ∧ (s.bindDone who).obj 0x2104 6 = addWrap 32 (s.objN 0x2104 6) 1 := by
  have level : (s.boundTo who).objN 0x2201 1 = s.objN 0x2201 1 := rfl
  have bound : Changes [.cycle] s (s.boundTo who) := (changes_iff _ _ _).mpr rfl
  unfold State.bindDone
  rw [level]
  obtain ⟨frame, mode, since, count⟩ := runBegins_facts (s.boundTo who)
    (if 1 ≤ s.objN 0x2201 1 then .throttle else .run) (0x10 + who)
  refine ⟨frame.step rfl (bound.mono rfl), frame .cycle rfl, mode.trans ?_, since, count⟩
  by_cases h : s.objN 0x2201 1 = 0
  · simp [h]
  · rw [if_neg h, if_pos (Nat.one_le_iff_ne_zero.mpr h)]

/-! ## A release (R26, R469) -/

theorem fixtureReleases_of_plan (hb : s.bound = true) (hp : s.disp.slot.isSome = true) (who : Nat) :
    s.fixtureReleases who = refuse 0x0F010103 := by
  have runs : (s.bound && s.disp.slot.isSome) = true := by rw [hb, hp]; rfl
  unfold State.fixtureReleases
  rw [runs]
  rfl

theorem fixtureReleases_of_no_plan (h : (s.bound && s.disp.slot.isSome) = false) (who : Nat) :
    s.fixtureReleases who = .ok (if s.cycle.releasing then s else s.unbindBegins (0x10 + who) false .release) := by
  unfold State.fixtureReleases
  rw [h]
  rfl

/-- A release of a cycle that is not bound, or that is already being released, does nothing. -/
theorem fixtureReleases_of_idle (h : s.bound = false ∨ s.disp.slot = none ∧ s.cycle.releasing = true) (who : Nat) :
    s.fixtureReleases who = .ok s := by
  rcases h with hb | ⟨hp, hr⟩
  · have unbound : s.unbindBegins (0x10 + who) false .release = s := by simp [State.unbindBegins, hb]
    rw [fixtureReleases_of_no_plan (by rw [hb]; rfl), unbound, ite_self]
  · rw [fixtureReleases_of_no_plan (by rw [hp]; exact Bool.and_false _), hr]
    rfl

theorem changes_unbindAt (s : State) (at' : Tk) : Changes (.cycle :: signalParts) s (s.unbindAt at') :=
  Changes.ite ((changes_cause _ _ _ _).step rfl ((changes_setObj _ _ _ _).step rfl ((changes_iff _ _ _).mpr rfl)))
    ((changes_iff _ _ _).mpr rfl)

theorem unbindAt_cycle (s : State) (at' : Tk) : (s.unbindAt at').cycle = {} := by
  unfold State.unbindAt
  split
  · exact changes_cause _ _ _ _ .cycle rfl
  · rfl

theorem changes_compactCheck (s : State) : Changes [.cellar] s s.compactCheck := (changes_iff _ _ _).mpr rfl

theorem compactCheck_cellar (s : State) :
    s.compactCheck.cellar.open_ = s.cellar.open_ ∧ s.compactCheck.cellar.waiting = s.cellar.waiting := ⟨rfl, rfl⟩

/-- The return to IDLE is a change of mode, of which two objects and the Cellar's idle time tell. -/
theorem returnToIdle_facts (s : State) (why : Nat) : Changes (.cellar :: modeParts) s (s.returnToIdle why) ∧
    (s.returnToIdle why).mode = .idle ∧ (s.returnToIdle why).cellar.open_ = s.cellar.open_ ∧
    (s.returnToIdle why).cellar.waiting = s.cellar.waiting := by
  have entered : Changes modeParts s (s.modeBecomes .idle why) := (spares_modeBecomes s .idle why).changes
  have mode := modeBecomes_mode s .idle why
  unfold State.returnToIdle
  generalize s.modeBecomes .idle why = u at entered mode
  have told : Changes [.objs] u ((u.setObj 0x2000 4 0xFF).setObj 0x2000 5 0) :=
    (changes_setObj _ _ _ _).step rfl (changes_setObj u _ _ _)
  obtain ⟨opened, waiting⟩ := compactCheck_cellar ((u.setObj 0x2000 4 0xFF).setObj 0x2000 5 0)
  have checked := changes_compactCheck ((u.setObj 0x2000 4 0xFF).setObj 0x2000 5 0)
  have cellar := (told .cellar rfl).trans (entered .cellar rfl)
  exact ⟨checked.step rfl (told.step rfl (entered.mono rfl)), (checked .mode rfl).trans ((told .mode rfl).trans mode),
    opened.trans (congrArg Cellar.open_ cellar), waiting.trans (congrArg Cellar.waiting cellar)⟩

/-- The parts that a release may change. -/
abbrev releaseParts : List Part := .cycle :: .cellar :: .fresh :: .mode :: .log :: mapParts

/-- `u` is a state in which the unbind that `s` has begun waits for the last park, or has acted. -/
structure State.Unbinds (s u : State) : Prop where
  frame : Changes releaseParts s u
  cellar : u.cellar.open_ = s.cellar.open_ ∧ u.cellar.waiting = s.cellar.waiting
  ends : u.cycle = {} ∧ u.mode = .idle ∨ u.cycle.releasing = true ∧ u.cycle.unbindAt = none ∧ u.mode = s.mode

theorem unbindSettles_of_park (h : s.anyPark = true) : s.unbindSettles = s := by
  unfold State.unbindSettles
  simp [h]

theorem unbindSettles_of_clear (hm : s.mode = .run ∨ s.mode = .throttle) (hr : s.cycle.releasing = true)
    (hs : s.cycle.toSafe = false) (hu : s.cycle.unbindAt = none) (hp : s.anyPark = false) :
    s.unbindSettles = (s.unbindAt s.now).returnToIdle s.cycle.why := by
  have mode : (s.unbindAt s.now).mode = s.mode := changes_unbindAt s s.now .mode rfl
  unfold State.unbindSettles
  rcases hm with h | h <;> simp [hr, hs, hu, hp, mode, h]

theorem unbindSettles_unbinds (hm : s.mode = .run ∨ s.mode = .throttle) (hr : s.cycle.releasing = true)
    (hs : s.cycle.toSafe = false) (hu : s.cycle.unbindAt = none) : s.Unbinds s.unbindSettles := by
  cases hp : s.anyPark with
  | true =>
    rw [unbindSettles_of_park hp]
    exact ⟨Changes.refl _ _, ⟨rfl, rfl⟩, .inr ⟨hr, hu, rfl⟩⟩
  | false =>
    rw [unbindSettles_of_clear hm hr hs hu hp]
    have unbound := changes_unbindAt s s.now
    have cycle := unbindAt_cycle s s.now
    generalize s.unbindAt s.now = w at unbound cycle
    have cellar : w.cellar = s.cellar := unbound .cellar rfl
    obtain ⟨frame, mode, opened, waiting⟩ := returnToIdle_facts w s.cycle.why
    have kept : (w.returnToIdle s.cycle.why).cycle = w.cycle := frame .cycle rfl
    exact ⟨frame.step rfl (unbound.mono rfl), ⟨opened.trans (congrArg Cellar.open_ cellar),
      waiting.trans (congrArg Cellar.waiting cellar)⟩, .inl ⟨kept.trans cycle, mode⟩⟩

/-- A release is noted in the fixture cycle. -/
def State.releaseNoted (s : State) (why : Nat) : State :=
  { s with cycle := { s.cycle with releasing := true, why := why, toSafe := false } }

/-- A release of a bound cycle that no instant awaits begins the unbind, and ends it where no port is in park. -/
theorem unbindBegins_unbinds (hb : s.bound = true) (hm : s.mode = .run ∨ s.mode = .throttle) (hu : s.cycle.unbindAt = none)
    (why : Nat) (cause : OwnerCause) : s.Unbinds (s.unbindBegins why false cause) := by
  have begun : s.unbindBegins why false cause = ((((s.releaseNoted why).mapAborts 4).settleOwners cause).unbindSettles) := by
    unfold State.unbindBegins State.releaseNoted
    rw [if_neg (by simp [hb])]
  have noted : Changes [.cycle] s (s.releaseNoted why) := (changes_iff _ _ _).mpr rfl
  have stopped : Changes (.fresh :: mapParts) (s.releaseNoted why) (((s.releaseNoted why).mapAborts 4).settleOwners cause) :=
    (spares_settleOwners _ cause).changes.step rfl ((changes_mapAborts _ 4).mono rfl)
  rw [begun]
  generalize ((s.releaseNoted why).mapAborts 4).settleOwners cause = w at stopped
  have mode : w.mode = s.mode := stopped .mode rfl
  have cycle : w.cycle = (s.releaseNoted why).cycle := stopped .cycle rfl
  have cellar : w.cellar = s.cellar := stopped .cellar rfl
  obtain ⟨frame, kept, ends⟩ := unbindSettles_unbinds (s := w) (mode ▸ hm) (by rw [cycle]; rfl) (by rw [cycle]; rfl)
    (by rw [cycle]; exact hu)
  exact ⟨(stopped.step rfl (noted.mono rfl)).trans frame, cellar ▸ kept, mode ▸ ends⟩

/-- Where the unbind has begun or acted nothing else waits. -/
theorem noWaiting_of_unbinds {u : State} (h : s.Unbinds u) (hs : s.noWaiting) : u.noWaiting := by
  have unbindAt : u.cycle.unbindAt = none := by
    rcases h.ends with ⟨cycle, -⟩ | ⟨-, none, -⟩
    · rw [cycle]
    · exact none
  exact ⟨unbindAt, fun n => session_congr (h.frame .sessions rfl) n ▸ hs.2 n⟩

/-! ## The two commands -/

theorem bound_heard (s : State) (t : Tk) (a : Accessor) : (s.heard t a).bound = s.bound := by simp [State.bound]

theorem noWaiting_answered {s u : State} (h : u.noWaiting) : (s.answered u).noWaiting :=
  noWaiting_congr (changes_answered s u .cycle rfl) (changes_answered s u .sessions rfl) h

/-- A bind in IDLE is answered in the state that it begins. -/
theorem exec_bind_of_idle {c : Card} (h : TakesWrite s t a 0x2104 1 (natLe 1 1) c) (hv : c.written (natLe 1 1) = 1)
    (hm : s.mode = .idle) :
    exec (.bind t a) s = .next ((s.heard t a).answered ((s.heard t a).bindDone (s.sessionOf a))) := by
  have taken : (s.heard t a).cycleCommand ((s.heard t a).sessionOf a) (c.written (natLe 1 1)).toNat =
      .ok ((s.heard t a).bindDone (s.sessionOf a)) := by
    rw [sessionOf_heard, hv]
    exact binds_of_idle ((heard_mode s t a).trans hm) (s.sessionOf a)
  have frame := (bindDone_facts (s.heard t a) (s.sessionOf a)).1
  have cellar := frame .cellar rfl
  exact write_completes h (k := fun s x => s.cycleCommand (s.sessionOf a) x.toNat) taken
    (owes_of_eq (congrArg Loader.owed (frame .loader rfl)) (congrArg Cellar.open_ cellar) (congrArg Cellar.waiting cellar))

/-- A release that is taken is answered in the state that it leaves, where nothing waits there. -/
theorem exec_release_takes {c : Card} {u : State} (h : TakesWrite s t a 0x2104 1 (natLe 1 2) c) (hv : c.written (natLe 1 2) = 2)
    (hu : (s.heard t a).fixtureReleases (s.sessionOf a) = .ok u) (ho : (s.heard t a).owes u = false) (hw : u.noWaiting)
    (hm : u.mode ≠ .load) : exec (.fixtureRelease t a) s = .next ((s.heard t a).answered u) := by
  have taken : (s.heard t a).cycleCommand ((s.heard t a).sessionOf a) (c.written (natLe 1 2)).toNat = .ok u := by
    rw [sessionOf_heard, hv]
    exact hu
  have write := write_completes h (k := fun s x => s.cycleCommand (s.sessionOf a) x.toNat) taken ho
  have mode : ((s.heard t a).answered u).mode = u.mode := changes_answered _ u .mode rfl
  show afterwards (s.requestValue t a 0x2104 1 (natLe 1 2) _) = _
  rw [write, afterwards, letGo_of_noWaiting (noWaiting_answered hw) (mode ▸ hm)]

theorem exec_release_refuses {c : Card} {code : Nat} (h : TakesWrite s t a 0x2104 1 (natLe 1 2) c)
    (hv : c.written (natLe 1 2) = 2) (hr : (s.heard t a).fixtureReleases (s.sessionOf a) = refuse code) (hw : s.noWaiting)
    (hm : s.mode ≠ .load) : exec (.fixtureRelease t a) s = .next ((s.heard t a).refusedWith code) := by
  have refused : (s.heard t a).cycleCommand ((s.heard t a).sessionOf a) (c.written (natLe 1 2)).toNat = refuse code := by
    rw [sessionOf_heard, hv]
    exact hr
  have write := write_refuses h (k := fun s x => s.cycleCommand (s.sessionOf a) x.toNat) refused
  show afterwards (s.requestValue t a 0x2104 1 (natLe 1 2) _) = _
  rw [write, afterwards, State.refusedWith,
    letGo_of_noWaiting (noWaiting_send _ (noWaiting_heard t a hw)) (by rw [send_mode, heard_mode]; exact hm)]

end Sys2Proof.Machine

open Sys2Proof Sys2Proof.Machine

/-- Settles O51: a bind by the frame of what it sets off, which spares the objects of the cycle; a release by the unbind, which
waits for the last park or acts. -/
theorem fixtureCycle : Obligations.FixtureCycle := by
  unfold Obligations.FixtureCycle
  refine ⟨?_, ?_, ?_, ?_⟩
  · intro s t a c h hv _ _ hm
    obtain ⟨frame, cycle, mode, since, count⟩ := bindDone_facts (s.heard t a) (s.sessionOf a)
    have objN : ∀ i j, (s.heard t a).objN i j = s.objN i j := fun i j => by simp [State.objN, State.obj, State.objAt]
    rw [objN] at mode count
    rw [heard_now] at since
    exact ⟨_, exec_bind_of_idle h hv hm, cycle, mode, since, count, frame.mono rfl⟩
  · intro s t a c h hv hb hp hw hm
    exact exec_release_refuses h hv (fixtureReleases_of_plan ((bound_heard s t a).trans hb) (by simpa using hp) _) hw hm
  · intro s t a c h hv hi hw hm
    exact exec_release_takes h hv (fixtureReleases_of_idle (by simpa [bound_heard] using hi) _) (owes_of_eq rfl rfl rfl)
      (noWaiting_heard t a hw) (by rw [heard_mode]; exact hm)
  · intro s t a c h hv hb hp hr hm hw
    have waits := noWaiting_heard t a hw
    have unbinds := unbindBegins_unbinds (s := s.heard t a) ((bound_heard s t a).trans hb) (by simpa using hm) waits.1
      (0x10 + s.sessionOf a) .release
    have taken := fixtureReleases_of_no_plan (s := s.heard t a) (by simp [hp]) (s.sessionOf a)
    rw [heard_cycle, hr, if_neg Bool.false_ne_true] at taken
    have loader := unbinds.frame .loader rfl
    have ends := unbinds.ends
    rw [heard_mode] at ends
    refine ⟨_, exec_release_takes h hv taken (owes_of_eq (congrArg Loader.owed loader) unbinds.cellar.1 unbinds.cellar.2)
      (noWaiting_of_unbinds unbinds waits) ?_, ?_, unbinds.frame.mono rfl⟩
    · rcases ends with ⟨-, mode⟩ | ⟨-, -, mode⟩
      · rw [mode]
        decide
      · rw [mode]
        rcases hm with h | h <;> rw [h] <;> decide
    · exact ends.imp_right fun ⟨releasing, _, mode⟩ => ⟨releasing, mode⟩
end

section
/-!
SUPPORT. Which objects a happening may write (R129, R299), and the entries and the lines of ports and pins with it: every other
object stays. So the settings of the ports stay, whatever the lines set off.
-/

namespace Sys2Proof.Machine

/-- Whether a happening, an entry of a device block or a line may write an object of this index: event causes and counts of blocks,
the counters of the event controller, the trigger outputs, and the records of ports and pins. -/
def happens (idx : Nat) : Bool :=
  (blockSubs idx).isSome || idx == 0x2400 || (0x2310 ≤ idx && idx < 0x2314) || (0x3100 ≤ idx && idx < 0x3200) ||
    (0x3700 ≤ idx && idx < 0x3720)

/-- `u` has every object of `s` that a happening does not write. -/
def HappensOnly (s u : State) : Prop := ∀ k, happens (k / 256) = false → u.objAt k = s.objAt k

/-- A port object is none that a happening writes. -/
theorem happens_port {q : Nat} (hq : q < 256) : happens (0x3000 + q) = false := by
  have block : blockSubs (0x3000 + q) = none := by
    unfold blockSubs
    repeat rw [if_neg (by simp; omega)]
  simp only [happens, block, Option.isSome_none, Bool.false_or, Bool.or_eq_false_iff, Bool.and_eq_false_iff, beq_eq_false_iff_ne,
    decide_eq_false_iff_not]
  omega

section
variable {s t u : State}

theorem HappensOnly.refl (s : State) : HappensOnly s s := fun _ _ => rfl

theorem HappensOnly.trans (h : HappensOnly s t) (g : HappensOnly t u) : HappensOnly s u :=
  fun k hk => (g k hk).trans (h k hk)

/-- What leaves all objects writes none. -/
theorem HappensOnly.of_objs (h : u.objs = s.objs) : HappensOnly s u := fun k _ => objAt_congr h k

theorem Changes.happensOnly {l : List Part} (h : Changes l s u) (hl : l.contains .objs = false) : HappensOnly s u :=
  .of_objs (h .objs hl)

theorem HappensOnly.ite {c : Prop} [Decidable c] {v : State} (hu : HappensOnly s u) (hv : HappensOnly s v) :
    HappensOnly s (if c then u else v) := by
  split
  · exact hu
  · exact hv

theorem HappensOnly.foldl {β : Type} {f : State → β → State} (xs : List β) (hf : ∀ t, ∀ x ∈ xs, HappensOnly t (f t x))
    (s : State) : HappensOnly s (xs.foldl f s) := by
  induction xs generalizing s with
  | nil => exact .refl s
  | cons x xs ih => exact (hf s x (by simp)).trans (ih (fun t y hy => hf t y (by simp [hy])) _)

/-- The settings of the ports stay. -/
theorem HappensOnly.portObj (h : HappensOnly s u) {q j : Nat} (hq : q < 256) (hj : j < 256) :
    u.obj (0x3000 + q) j = s.obj (0x3000 + q) j := by
  refine h _ ?_
  rw [objKey, show ((0x3000 + q) * 256 + j) / 256 = 0x3000 + q by omega]
  exact happens_port hq

end

section
variable (s : State)

theorem happensOnly_setObj {i j : Nat} (v : Int) (hi : happens i = true) (hj : j < 256 := by omega) :
    HappensOnly s (s.setObj i j v) := fun k hk =>
  objAt_setObjAt_other s v (by
    rintro rfl
    rw [objKey, show (i * 256 + j) / 256 = i by omega, hi] at hk
    cases hk)

theorem happensOnly_countUp {i j : Nat} (d : Nat) (hi : happens i = true) (hj : j < 256 := by omega) :
    HappensOnly s (s.countUp i j d) :=
  happensOnly_setObj s _ hi hj

end

/-! ## A happening -/

theorem happens_converter {q : Nat} (hq : q < 72) : happens (0x3200 + q) = true := by
  have block : blockSubs (0x3200 + q) = some (0x19, 0x1A) := if_pos (by simp; omega)
  simp [happens, block]

theorem happens_trigOut {o : Nat} (ho : o < 4) : happens (0x2310 + o) = true := by
  simp only [happens, Bool.or_eq_true, Bool.and_eq_true, decide_eq_true_eq]
  omega

theorem happensOnly_arrival (s : State) (n stamp : Nat) : HappensOnly s (s.arrival n stamp) := by
  have set := fun x => (changes_setSource s n x).happensOnly rfl
  exact .ite ((set _).trans (happensOnly_countUp _ _ rfl)) ((set _).trans ((changes_settleSource _ n false).happensOnly rfl))

theorem happensOnly_levelArrival (s : State) (n : Nat) : HappensOnly s (s.levelArrival n) :=
  .ite (happensOnly_arrival s n _) (.refl s)

theorem happensOnly_controllerEdge (s : State) (n stamp : Nat) (rising : Bool) :
    HappensOnly s (s.controllerEdge n stamp rising) := by
  have same := HappensOnly.refl s
  have arrives := happensOnly_arrival s n stamp
  unfold State.controllerEdge
  split
  · exact same
  · split
    · exact .ite (happensOnly_levelArrival s n) same
    · exact .ite arrives same
    · exact .ite same arrives
    · exact arrives

theorem happensOnly_setLevel (s : State) (n : Nat) (level : Bool) (stamp : Tk) : HappensOnly s (s.setLevel n level stamp) := by
  have set := fun x => (changes_setSource s n x).happensOnly rfl
  exact .ite ((set _).trans (happensOnly_countUp _ _ rfl)) (set _)

/-- A trigger or request that names a converter or trigger output of the device. -/
def Signal.reaches : Signal → Prop
  | .trigger q _ _ _ => q < 72
  | .request o _ _ _ => o < 4
  | _ => True

/-- A happening sets off triggers and requests of the device's own converters and trigger outputs alone. -/
theorem signalOnce_reaches (s : State) (x : Signal) (hx : x.reaches) : ∀ y ∈ (s.signalOnce x).2, y.reaches := by
  cases x with
  | cause idx bit stamp =>
    unfold State.signalOnce
    dsimp only
    split
    · split <;> simp [Signal.reaches]
    · simp
  | edge n stamp rising =>
    intro y hy
    simp only [State.signalOnce, List.mem_append, List.mem_map, List.mem_filter, List.mem_range] at hy
    rcases hy with ⟨q, ⟨hq, -⟩, rfl⟩ | ⟨o, ⟨ho, -⟩, rfl⟩
    · exact hq
    · exact ho
  | trigger q stamp command arrived =>
    unfold State.signalOnce
    dsimp only
    split
    · simp [Signal.reaches]
    · split <;> simp [Signal.reaches]
  | request o stamp command arrived =>
    unfold State.signalOnce
    dsimp only
    split <;> simp [Signal.reaches]

theorem happensOnly_signalOnce (s : State) (x : Signal) (hx : x.reaches) : HappensOnly s (s.signalOnce x).1 := by
  cases x with
  | cause idx bit stamp =>
    unfold State.signalOnce
    dsimp only
    split
    next h => exact happensOnly_setObj s _ (by simp [happens, h]) (blockSubs_spares h).2
    next => exact .refl s
  | edge n stamp rising =>
    exact ((happensOnly_setLevel s n rising stamp).trans (happensOnly_controllerEdge _ n stamp rising)).trans
      ((changes_edgeToSteps _ n stamp rising).happensOnly rfl)
  | trigger q stamp command arrived =>
    have set := fun c => (changes_setConv s q c).happensOnly rfl
    have block := happens_converter hx
    unfold State.signalOnce
    dsimp only
    split
    · exact happensOnly_countUp s _ block
    · split
      · exact (set _).trans (happensOnly_countUp _ _ block)
      · exact set _
  | request o stamp command arrived =>
    unfold State.signalOnce
    dsimp only
    split
    · exact happensOnly_countUp s _ (happens_trigOut hx)
    · exact (changes_setTrigOut s o _).happensOnly rfl

theorem happensOnly_signal (fuel : Nat) (s : State) (x : Signal) (hx : x.reaches) : HappensOnly s (s.signal fuel x) := by
  induction fuel generalizing s x with
  | zero => exact .refl s
  | succ fuel ih =>
    exact (happensOnly_signalOnce s x hx).trans (.foldl _ (fun t y hy => ih t y (signalOnce_reaches s x hx y hy)) _)

theorem happensOnly_cause (s : State) (idx bit stamp : Nat) : HappensOnly s (s.cause idx bit stamp) :=
  happensOnly_signal _ s _ trivial

theorem happensOnly_edge (s : State) (n stamp : Nat) (rising : Bool) : HappensOnly s (s.edge n stamp rising) :=
  happensOnly_signal _ s _ trivial

/-! ## Writing an entry -/

theorem happensOnly_acceptEntry (s : State) (q : Nat) (qu : Queue) (e : NewEntry) : HappensOnly s (s.acceptEntry q qu e) :=
  ((changes_setQueue s q _).happensOnly rfl).trans (.ite (happensOnly_cause _ _ _ _) (.refl _))

/-- A refused entry is counted for its queue and for the queue system. -/
theorem happensOnly_refused (s : State) (q : Nat) (qu : Option Queue) {sub : Nat} (bit : Nat) (hs : sub < 256) :
    HappensOnly s (((s.setQueue q qu).countUp 0x2800 sub).cause 0x2800 bit s.now) :=
  (((changes_setQueue s q _).happensOnly rfl).trans (happensOnly_countUp _ _ rfl hs)).trans (happensOnly_cause _ _ _ _)

theorem happensOnly_offerEntry (s : State) (q : Nat) (e : NewEntry) : HappensOnly s (s.offerEntry q e).1 := by
  have same := HappensOnly.refl s
  have accept := fun qu => happensOnly_acceptEntry s q qu e
  have full : ∀ qu, HappensOnly s (s.refuseFull q qu) := fun qu => happensOnly_refused s q _ 1 (by decide)
  have pantry : ∀ qu, HappensOnly s (s.refusePantry q qu) := fun qu => happensOnly_refused s q _ 2 (by decide)
  unfold State.offerEntry
  split
  · exact same
  · dsimp only
    split
    · exact same
    · split
      · split
        · exact full _
        · split
          · split
            · split
              · exact accept _
              · exact pantry _
            · exact pantry _
          · split
            · exact full _
            · exact accept _
      · split
        · exact pantry _
        · exact accept _

theorem happensOnly_blockEntryTo (s : State) (v : Nat) (e : NewEntry) : HappensOnly s (s.blockEntryTo v e) := by
  have missing : HappensOnly s ((s.countUp 0x2800 0x0B).cause 0x2800 5 s.now) :=
    (happensOnly_countUp s _ rfl).trans (happensOnly_cause _ _ _ _)
  refine .ite (.refl s) ?_
  unfold State.blockEntry
  split
  · exact missing
  · exact .ite missing (happensOnly_offerEntry s v e)

end Sys2Proof.Machine
end

section
/-!
SUPPORT. What follows a change at a port cell (R54 to R57, R86 to R89): comparators, filter and what the lane shows. Nothing else of
the cell, no other cell and no setting of a port changes.
-/

namespace Sys2Proof.Machine

/-- From `s` to `u` the comparators, the filter and the marks of a port follow. -/
structure Follows (p : Nat) (s u : State) : Prop where
  cell : ∃ f m r x y, u.port p =
    { s.port p with filter := f, marks := m, receiver := r, windowAbove := x, windowBelow := y }
  others : ∀ q : Nat, q ≠ p → u.port q = s.port q
  objs : HappensOnly s u

section
variable {p : Nat} {s t u v : State}

/-- What leaves the cells and writes no setting of a port. -/
theorem Follows.of_ports (h : u.ports = s.ports) (g : HappensOnly s u) : Follows p s u :=
  ⟨⟨_, _, _, _, _, port_congr h p⟩, fun q _ => port_congr h q, g⟩

theorem Follows.refl (p : Nat) (s : State) : Follows p s s := .of_ports rfl (.refl s)

theorem Follows.trans (h : Follows p s t) (g : Follows p t u) : Follows p s u := by
  obtain ⟨f, m, r, x, y, cell⟩ := h.cell
  obtain ⟨f', m', r', x', y', cell'⟩ := g.cell
  exact ⟨⟨f', m', r', x', y', by rw [cell', cell]⟩, fun q hq => (g.others q hq).trans (h.others q hq), h.objs.trans g.objs⟩

theorem Follows.ite {c : Prop} [Decidable c] (hu : Follows p s u) (hv : Follows p s v) : Follows p s (if c then u else v) := by
  split
  · exact hu
  · exact hv

end

section
variable (s : State) (p : Nat)

theorem follows_setPort (f : Filter) (m : List LaneMark) (r x y : Bool) : Follows p s (s.setPort p
    { s.port p with filter := f, marks := m, receiver := r, windowAbove := x, windowBelow := y }) :=
  ⟨⟨f, m, r, x, y, port_setPort s p _⟩, fun _ hq => port_setPort_other s _ hq, .of_objs rfl⟩

theorem follows_noteMark : Follows p s (s.noteMark p) := by
  unfold State.noteMark
  dsimp only
  split
  · exact follows_setPort s p _ _ _ _ _
  · exact .ite (.refl p s) (follows_setPort s p _ _ _ _ _)

theorem follows_recompare : Follows p s (s.recompare p) := .ite (.refl p s) (follows_setPort s p _ _ _ _ _)

end

section
variable (s : State) (p : PortNo)

theorem happens_line : happens (0x3100 + p) = true := by
  have hp := p.isLt
  simp only [happens, Bool.or_eq_true, Bool.and_eq_true, decide_eq_true_eq]
  omega

theorem follows_setFilter (f : Filter) : Follows p s (s.setFilter (.port p) f) := follows_setPort s p f _ _ _ _

/-- A count or value of the line's own record is written. -/
theorem follows_lineObj {sub : Nat} (v : Int) (hs : sub < 256 := by decide) : Follows p s (s.setObj (0x3100 + p) sub v) :=
  .of_ports rfl (happensOnly_setObj s v (happens_line p) hs)

theorem follows_rejectEdge : Follows p s (s.rejectEdge (.port p)) :=
  (follows_setFilter s p _).trans (follows_lineObj _ p _)

theorem follows_captureEdge (stamp : Nat) (level afterPark late : Bool) (skipped : Nat) :
    Follows p s (s.captureEdge (.port p) stamp level afterPark late skipped) := by
  have entry := fun v e => Follows.of_ports (p := p) ((spares_blockEntryTo s v e).changes .ports rfl)
    (happensOnly_blockEntryTo s v e)
  exact .ite (.refl p s) (.ite (entry _ _) ((entry _ _).trans (follows_setFilter _ p _)))

theorem follows_edge (n stamp : Nat) (rising : Bool) : Follows p s (s.edge n stamp rising) :=
  .of_ports ((spares_edge s n stamp rising).changes .ports rfl) (happensOnly_edge s n stamp rising)

theorem follows_acceptEdge (stamp accepted : Nat) (level late : Bool) :
    Follows p s (s.acceptEdge (.port p) stamp accepted level late) :=
  ((((follows_setFilter s p _).trans (follows_lineObj _ p _)).trans (follows_lineObj _ p _)).trans
    (follows_captureEdge _ p _ _ _ _ _)).trans (follows_edge _ p _ _ _)

theorem follows_endDebounce : Follows p s (s.endDebounce (.port p)) := by
  have set := fun f => follows_setFilter s p f
  unfold State.endDebounce
  dsimp only
  split
  · exact .ite (.refl p s) (.ite (set _) ((set _).trans (follows_acceptEdge _ p _ _ _ _)))
  · exact .refl p s

theorem follows_debounceBefore (t : Tk) : Follows p s (s.debounceBefore (.port p) t) := by
  unfold State.debounceBefore
  split
  · exact .ite (follows_endDebounce s p) (.refl p s)
  · exact .refl p s

theorem follows_acceptLevel : Follows p s (s.acceptLevel (.port p)) := by
  unfold State.acceptLevel
  extract_lets f at' u g v
  have hv : Follows p s v := (follows_debounceBefore s p at').trans (follows_setFilter _ p _)
  exact .ite (.refl p s) (.ite (hv.trans (follows_rejectEdge _ p)) (.ite hv (hv.trans (follows_acceptEdge _ p _ _ _ _))))

theorem follows_defineLevel : Follows p s (s.defineLevel (.port p)) := by
  unfold State.defineLevel
  extract_lets f u n v
  have level := Follows.of_ports (p := p) ((spares_setLevel u n f.raw f.since).changes .ports rfl)
    (happensOnly_setLevel u n f.raw f.since)
  have hv : Follows p s v := (follows_setFilter s p _).trans level
  exact .ite (.refl p s) (.ite (hv.trans
    (.of_ports ((spares_levelArrival v n).changes .ports rfl) (happensOnly_levelArrival v n))) hv)

theorem follows_lineSignal (level : Bool) : Follows p s (s.lineSignal (.port p) level) := by
  have due : Follows p s (s.lineDue (.port p)) :=
    ((follows_defineLevel s p).trans (follows_acceptLevel _ p)).trans (follows_endDebounce _ p)
  have set := fun f => due.trans (follows_setFilter _ p f)
  exact .ite due (.ite ((set _).trans (follows_rejectEdge _ p)) (set _))

theorem follows_followPort : Follows p s (s.followPort p) :=
  .ite (.refl p s) (.ite (follows_lineSignal s p _) (follows_setFilter s p _))

/-- What a changed setting leaves behind at its cell (R54 to R57). -/
theorem follows_cellFollows : Follows p s (s.cellFollows p) :=
  ((follows_recompare s p).trans (follows_followPort _ p)).trans (follows_noteMark _ p)

end

end Sys2Proof.Machine
end

section
/-!
SUPPORT. Writes to the port object (R33, R49 to R52, R60): what the port's settings read after an update, what each setting does at
the cell, and how the command of each setting ends.
-/

namespace Sys2Proof.Machine

/-! ## Tables -/

/-- A key entered twice holds what was entered last. -/
theorem Table.put_put {α : Type} (t : Table α) (k : Nat) (v w : α) : Table.put (Table.put t k v) k w = Table.put t k w := by
  induction t with
  | nil => simp [Table.put]
  | cons x t ih =>
    obtain ⟨j, u⟩ := x
    by_cases before : k < j
    · simp [Table.put, before]
    · by_cases here : k = j
      · subst here
        simp [Table.put]
      · simp [Table.put, before, here, ih]

theorem Table.drop_put {α : Type} (t : Table α) (k : Nat) (v : α) : Table.drop (Table.put t k v) k = Table.drop t k := by
  induction t with
  | nil => simp [Table.put, Table.drop]
  | cons x t ih =>
    obtain ⟨j, u⟩ := x
    by_cases before : k < j
    · simp [Table.put, before, Table.drop]
    · by_cases here : k = j
      · subst here
        simp [Table.put, Table.drop]
      · simp only [Table.drop] at ih
        simp [Table.put, before, here, Table.drop, List.filter_cons, ih]

/-- A cell written twice is as it was written last. The first one is not the cell of reset, which no table lists. -/
theorem setPort_setPort (s : State) (p : Nat) {c : PortCell} (d : PortCell) (hc : c ≠ {}) :
    (s.setPort p c).setPort p d = s.setPort p d := by
  have ports : Table.set {} (Table.set {} s.ports p c) p d = Table.set {} s.ports p d := by
    simp only [Table.set, if_neg hc, Table.put_put, Table.drop_put]
  exact congrArg (fun ports => { s with ports := ports }) ports

/-! ## Settings that the cell has -/

/-- What a cell has of a setting depends on its held writes and its object. -/
theorem setting_congr {s u : State} {p sub : Nat} (hh : (u.port p).held = (s.port p).held)
    (ho : u.obj (0x3000 + p) sub = s.obj (0x3000 + p) sub) : u.setting p sub = s.setting p sub := by
  rw [State.setting, State.setting, hh, ho]

/-- A port without held writes has the settings that are stored. -/
theorem setting_of_held_nil {s : State} {p : Nat} (h : (s.port p).held = []) (sub : Nat) :
    s.setting p sub = s.obj (0x3000 + p) sub := by
  rw [State.setting, h]
  rfl

section
variable (s : State) (p : Nat)

theorem setting_setObj {i sub : Nat} (v : Int) (h : sub ≠ i) : (s.setObj (0x3000 + p) i v).setting p sub = s.setting p sub :=
  setting_congr rfl (obj_setObj_other s v (by simp only [objKey]; omega))

theorem settingN_setObj {i sub : Nat} (v : Int) (h : sub ≠ i) : (s.setObj (0x3000 + p) i v).settingN p sub = s.settingN p sub :=
  congrArg Int.toNat (setting_setObj s p v h)

end

/-! ## What hearing a write leaves -/

section
variable (s : State) (t : Tk) (a : Accessor)

/-- A write is heard as its instant comes: only the lease of its session is renewed. -/
theorem heard_eq : s.heard t a = { s.advance t with sessions := (s.heard t a).sessions } := by
  cases a with
  | core n => rfl
  | session n =>
    simp only [State.heard, State.hears, State.renew]
    split <;> rfl

theorem portConflict_heard (p sub : Nat) (v : Int) : (s.heard t a).portConflict p sub v = s.portConflict p sub v := by
  rw [heard_eq]
  rfl

theorem staticActs_heard (p : Nat) : (s.heard t a).staticActs p = (s.advance t).staticActs p := by
  rw [heard_eq]
  rfl

theorem writeWaits_heard (p sub : Nat) : (s.heard t a).writeWaits p sub = (s.advance t).writeWaits p sub := by
  rw [heard_eq]
  rfl

/-- The write of a setting leaves the other settings that the cell has. -/
theorem settingN_write (p : Nat) {i sub : Nat} (v : Int) (h : sub ≠ i) :
    ((s.heard t a).setObj (0x3000 + p) i v).settingN p sub = s.settingN p sub := by
  rw [settingN_setObj _ p v h, heard_eq]
  rfl

theorem fullScale_write (p : Nat) {i : Nat} (v : Int) (h4 : 4 ≠ i) (h9 : 9 ≠ i) :
    ((s.heard t a).setObj (0x3000 + p) i v).fullScale p = s.fullScale p := by
  rw [State.fullScale, settingN_write s t a p v h4, settingN_write s t a p v h9, State.fullScale]

end

/-! ## A stored write (R33) -/

section
variable {s : State} {p : PortNo} {sub : Nat}

theorem portStore_of_waits (v : Int) (h : s.writeWaits p sub = true) : s.portStore p sub v =
    (s.setObj (0x3000 + p) sub (roundSetting sub v)).setPort p { s.port p with held := (s.port p).held ++
      [{ sub := sub, old := s.obj (0x3000 + p) sub, new := roundSetting sub v }] } := if_pos h

theorem writeActs_of_acts {old new : Int} {at' : Nat} (h : s.staticActs p = true) :
    s.writeActs p sub old new at' = s.applySetting p sub old new at' := if_pos h

theorem portStore_of_acts (v : Int) (h : s.writeWaits p sub = false) (ha : s.staticActs p = true) : s.portStore p sub v =
    (s.setObj (0x3000 + p) sub (roundSetting sub v)).applySetting p sub (s.obj (0x3000 + p) sub) (roundSetting sub v) s.now :=
  (if_neg (ne_true_of_eq_false h)).trans (writeActs_of_acts ha)

/-- Where the static setting does not act, a stored setting but the analogue control is followed by the comparators and filters. -/
theorem portStore_of_rests (v : Int) (h : s.writeWaits p sub = false) (ha : s.staticActs p = false) (h9 : sub ≠ 9) :
    s.portStore p sub v = (s.setObj (0x3000 + p) sub (roundSetting sub v)).cellFollows p :=
  (if_neg (ne_true_of_eq_false h)).trans ((if_neg (ne_true_of_eq_false ha)).trans (by simp [h9]))

theorem changes_restartReceiver (s : State) (p : Nat) (old new : Int) (at' : Tk) :
    Changes [.ports] s (s.restartReceiver p old new at') :=
  .ite (changes_setPort s p _) (.refl _ s)

theorem changes_settle (s : State) (p at' time : Nat) : Changes [.ports] s (s.settle p at' time) := changes_setPort s p _

theorem changes_applyFunction (s : State) (p old new at' : Nat) : Changes [.ports] s (s.applyFunction p old new at') :=
  .ite (.refl _ s) (changes_setPort s p _)

/-- A setting that takes effect changes cells, which comparators, filter and marks then follow. -/
theorem applySetting_follows (s : State) (p : PortNo) (sub : Nat) (old new : Int) (at' : Nat) :
    ∃ u, Changes [.ports] s u ∧ s.applySetting p sub old new at' = u.cellFollows p := by
  have same := Changes.refl [.ports] s
  have set := changes_setPort s p
  have settle := fun time => changes_settle s p at' time
  refine ⟨_, ?_, rfl⟩
  refine .ite (changes_applyFunction s p _ _ at') (.ite (.ite (settle _) same) (.ite (.ite (settle _) same)
    (.ite (.ite (set _) same) (.ite ?_ (.ite (set _) same)))))
  exact .trans (.trans (.ite (settle _) same) (changes_restartReceiver _ p old new at')) (.ite (.refl _ _) (changes_setPort _ p _))

theorem writeActs_follows (s : State) (p : PortNo) (sub : Nat) (old new : Int) (at' : Nat) :
    ∃ u, Changes [.ports] s u ∧ s.writeActs p sub old new at' = u.cellFollows p := by
  unfold State.writeActs
  split
  · exact applySetting_follows s p sub old new at'
  · exact ⟨_, .ite (changes_restartReceiver s p old new at') (.refl _ s), rfl⟩

/-- A port write changes the object that it names, and no other setting of a port. -/
theorem portStore_facts (s : State) (p : PortNo) (sub : Nat) (v : Int) : Changes lineParts s (s.portStore p sub v) ∧
    HappensOnly (s.setObj (0x3000 + p) sub (roundSetting sub v)) (s.portStore p sub v) := by
  have stored := (changes_setObj s (0x3000 + p) sub (roundSetting sub v)).mono (l := lineParts) rfl
  cases h : s.writeWaits p sub with
  | true =>
    rw [portStore_of_waits v h]
    exact ⟨stored.trans ((changes_setPort _ p _).mono rfl), .of_objs rfl⟩
  | false =>
    obtain ⟨u, ports, acts⟩ := writeActs_follows (s.setObj (0x3000 + p) sub (roundSetting sub v)) p sub (s.obj (0x3000 + p) sub)
      (roundSetting sub v) s.now
    rw [show s.portStore p sub v = u.cellFollows p from (if_neg (ne_true_of_eq_false h)).trans acts]
    exact ⟨(stored.trans (ports.mono rfl)).trans (spares_cellFollows u p).changes,
      (ports.happensOnly rfl).trans (follows_cellFollows u p).objs⟩

theorem obj_portStore (s : State) (p : PortNo) {sub : Nat} (v : Int) (hs : sub < 256) :
    (s.portStore p sub v).obj (0x3000 + p) sub = roundSetting sub v :=
  ((portStore_facts s p sub v).2.portObj p.isLt hs).trans (obj_setObj s _ _ _)

end

/-! ## A write as a command -/

/-- What leaves the loader and the Cellar owes no answer. -/
theorem owes_of_changes {l : List Part} {s u : State} (h : Changes l s u) (hl : l.contains .loader = false)
    (hc : l.contains .cellar = false) : s.owes u = false :=
  owes_of_eq (congrArg Loader.owed (h .loader hl)) (congrArg Cellar.open_ (h .cellar hc)) (congrArg Cellar.waiting (h .cellar hc))

section
variable {s : State} {t : Tk} {a : Accessor} {p : PortNo} {sub : Nat} {bytes : Bytes} {c : Card}

/-- A write to the port object that its chapter does not refuse is stored and answered. -/
theorem portWrite_completes (h : TakesWrite s t a (0x3000 + p) sub bytes c)
    (hc : s.portConflict p sub (c.written bytes) = none) :
    s.requestValue t a (0x3000 + p) sub bytes (fun s x => s.portWrite p sub x) =
      .next ((s.heard t a).answered ((s.heard t a).portStore p sub (c.written bytes))) := by
  have frame := (portStore_facts (s.heard t a) p sub (c.written bytes)).1
  refine write_completes h ?_ (owes_of_changes frame rfl rfl)
  rw [State.portWrite, portConflict_heard, hc]
  rfl

theorem portWrite_refuses (h : TakesWrite s t a (0x3000 + p) sub bytes c) {code : Nat}
    (hc : s.portConflict p sub (c.written bytes) = some code) :
    s.requestValue t a (0x3000 + p) sub bytes (fun s x => s.portWrite p sub x) = .next ((s.heard t a).refusedWith code) := by
  refine write_refuses h ?_
  rw [State.portWrite, portConflict_heard, hc]
  rfl

/-- A setting that waits is stored and held for its cell (R33, R50, R70). -/
theorem portWrite_waits (h : TakesWrite s t a (0x3000 + p) sub bytes c) (hc : s.portConflict p sub (c.written bytes) = none)
    (hw : (s.advance t).writeWaits p sub = true) :
    s.requestValue t a (0x3000 + p) sub bytes (fun s x => s.portWrite p sub x) = .next ((s.heard t a).answered
      (((s.heard t a).setObj (0x3000 + p) sub (roundSetting sub (c.written bytes))).setPort p
        { s.port p with held := (s.port p).held ++
            [{ sub := sub, old := s.obj (0x3000 + p) sub, new := roundSetting sub (c.written bytes) }] })) := by
  rw [portWrite_completes h hc, portStore_of_waits _ ((writeWaits_heard s t a p sub).trans hw), port_heard, obj_heard]

/-- A setting on which no static setting acts is stored, and the comparators follow it. -/
theorem portWrite_rests (h : TakesWrite s t a (0x3000 + p) sub bytes c) (hc : s.portConflict p sub (c.written bytes) = none)
    (hs : (s.advance t).staticActs p = false) (hw : (s.advance t).writeWaits p sub = false) (h9 : sub ≠ 9) :
    s.requestValue t a (0x3000 + p) sub bytes (fun s x => s.portWrite p sub x) = .next ((s.heard t a).answered
      (((s.heard t a).setObj (0x3000 + p) sub (roundSetting sub (c.written bytes))).cellFollows p)) := by
  rw [portWrite_completes h hc, portStore_of_rests _ ((writeWaits_heard s t a p sub).trans hw)
    ((staticActs_heard s t a p).trans hs) h9]

/-- A setting of a port whose static setting acts takes effect at the instant of its write. -/
theorem portWrite_acts (h : TakesWrite s t a (0x3000 + p) sub bytes c) (hc : s.portConflict p sub (c.written bytes) = none)
    (hs : (s.advance t).staticActs p = true) (hw : (s.advance t).writeWaits p sub = false) :
    s.requestValue t a (0x3000 + p) sub bytes (fun s x => s.portWrite p sub x) = .next ((s.heard t a).answered
      (((s.heard t a).setObj (0x3000 + p) sub (roundSetting sub (c.written bytes))).applySetting p sub (s.obj (0x3000 + p) sub)
        (roundSetting sub (c.written bytes)) (max s.now t))) := by
  rw [portWrite_completes h hc, portStore_of_acts _ ((writeWaits_heard s t a p sub).trans hw)
    ((staticActs_heard s t a p).trans hs), obj_heard, heard_now]

end

/-! ## What a setting does at its cell (R49 to R52, R60) -/

section
variable {s : State} {p : PortNo} {at' : Nat}

/-- A change of function settles, is dated and clears the clamps; the sense fallback stays while the amplifier forces on. -/
theorem applySetting_function {old new : Nat} (h : old ≠ new) : s.applySetting p 1 old new at' =
    (s.setPort p { (s.port p).settles at' (s.functionSettling p old new) with
      changedAt := at', changedFrom := old, sourceClamp := false, sinkClamp := false, voltageClamp := false, clampSince := none,
      amp := isForce new, senseFallback := (s.port p).senseFallback && isForce old && isForce new }).cellFollows p :=
  congrArg (State.cellFollows · p) (if_neg h)

/-- A level of the present function settles for the full-scale time, twice that for a current. -/
theorem applySetting_level {cur : Bool} {old new : Int} (h : s.settingN p 1 = if cur then 2 else 1) :
    s.applySetting p (if cur then 3 else 2) old new at' =
      (s.setPort p ((s.port p).settles at' ((if cur then 2 else 1) * s.fullScale p))).cellFollows p := by
  cases cur with
  | true => exact congrArg (State.cellFollows · p) (if_pos (beq_iff_eq.mpr h))
  | false =>
    rw [show (if false = true then 2 else 1) * s.fullScale p = s.fullScale p from Nat.one_mul _]
    exact congrArg (State.cellFollows · p) (if_pos (beq_iff_eq.mpr h))

/-- A new range of a force function settles, and its change runs, for its range-change time. -/
theorem applySetting_range {old new : Int} (hf : isForce (s.settingN p 1) = true) (hn : old ≠ new) :
    s.applySetting p 4 old new at' = (s.setPort p
      { (s.port p).settles at' (rangeChangeTime new.toNat * compFactor (s.settingN p 9)) with
        rangeEnd := some (at' + rangeChangeTime new.toNat * compFactor (s.settingN p 9)), rangeFrom := old.toNat }).cellFollows p :=
  have forces : (isForce (s.settingN p 1) && old != new) = true := by simp [hf, hn]
  congrArg (State.cellFollows · p) (if_pos forces)

/-- A new bus opens the old pair at once, and the new pair closes later. -/
theorem applySetting_bus {old b : Int} (h0 : 0 ≤ b) (h8 : b < 8) (hb : (s.port p).bus ≠ some b.toNat) :
    s.applySetting p 0x10 old b at' = (s.setPort p { s.port p with
      bus := none, busNext := some (b.toNat, at' + if (s.port p).bus.isSome then 16000 else 20000) }).cellFollows p := by
  simp [State.applySetting, h0, h8, hb]

end

theorem functionSettling_eq (s : State) (p old new : Nat) : s.functionSettling p old new = s.changeTime p old new := by
  simp [State.functionSettling, State.changeTime, isForce]

/-- Function, range and bus are codes, which no circuit rounds (R35). -/
theorem roundSetting_code {sub : Nat} (h : sub = 1 ∨ sub = 4 ∨ sub = 0x10) (v : Int) : roundSetting sub v = v := by
  rcases h with rfl | rfl | rfl <;> rfl

end Sys2Proof.Machine

open Sys2Proof Sys2Proof.Machine

/-- Settles O6: a write that rests, waits or acts, and what each setting does where it acts. -/
theorem portSettingsAct : Obligations.PortSettingsAct := by
  unfold Obligations.PortSettingsAct
  refine ⟨⟨?_, ?_, ?_, ?_, ?_, ?_⟩, ?_, ⟨?_, ?_, ?_⟩, ?_⟩
  -- the static setting does not act, or the write waits
  · intro s t a p v c h hs hw hc
    exact portWrite_rests h hc hs hw (by decide)
  · intro s t a p cur v c h hs hw
    exact portWrite_rests h (by cases cur <;> rfl) hs hw (by cases cur <;> decide)
  · intro s t a p v c h hs hw
    exact portWrite_rests h rfl hs hw (by decide)
  · intro s t a p v c h hs hw hc
    exact portWrite_rests h hc hs hw (by decide)
  · intro s t a p v c h hw
    exact portWrite_waits h rfl hw
  · intro s t a p v c h hw hc
    exact portWrite_waits h hc hw
  -- it acts: function, level, range and bus
  · intro s t a p v c old new h hs hw hc ho hn hne
    have acts := portWrite_acts h hc hs hw
    rw [hn, ho] at acts
    refine Eq.trans acts ?_
    rw [roundSetting_code (.inl rfl), applySetting_function hne, functionSettling_eq, port_setObj, port_heard, State.changeTime,
      fullScale_write _ _ _ _ _ (by decide) (by decide)]
    rfl
  · intro s t a p cur v c h hs hw hf
    have other : ∀ j, j ≠ 2 → j ≠ 3 → j ≠ if cur then 3 else 2 := fun j h2 h3 => by split <;> assumption
    refine (portWrite_acts h (by cases cur <;> rfl) hs hw).trans ?_
    rw [applySetting_level ((settingN_write s t a p _ (other 1 (by decide) (by decide))).trans hf),
      fullScale_write _ _ _ _ _ (other 4 (by decide) (by decide)) (other 9 (by decide) (by decide)), port_setObj, port_heard]
  · intro s t a p v c h hs hw hf hn
    refine (portWrite_acts h rfl hs hw).trans ?_
    rw [roundSetting_code (.inr (.inl rfl)), applySetting_range
      ((congrArg isForce (settingN_write s t a p _ (by decide))).trans hf) hn, settingN_write s t a p _ (by decide), port_setObj,
      port_heard]
  · intro s t a p v c b h hb h0 h8 hs hw hc hn
    subst hb
    have bus : (((s.heard t a).setObj (0x3000 + p) 0x10 (c.written (natLe 1 v))).port p).bus ≠
        some (c.written (natLe 1 v)).toNat := by
      simpa using hn
    refine (portWrite_acts h hc hs hw).trans ?_
    rw [roundSetting_code (.inr (.inr rfl)), applySetting_bus h0 h8 bus, port_setObj, port_heard]
  -- what follows a setting
  · intro s p
    have follows := follows_cellFollows s p
    obtain ⟨f, m, r, x, y, cell⟩ := follows.cell
    exact ⟨f, m, r, x, y, cell, follows.others, fun q j hq hj => follows.objs.portObj hq hj, (spares_cellFollows s p).changes⟩
end

section
/-!
SUPPORT. Bus connections against functions (R61), and the changes at a port that end with time (R49, R50, R60).
-/

namespace Sys2Proof.Machine

/-! ## The conflict of function and bus connection (R61) -/

section
variable {s : State} {p : Nat} {b : Int}

theorem portConflict_bus_idle (h : b.toNat < 8 ∨ b = 0xFF) (hf : s.obj (0x3000 + p) 1 = 0 ∨ s.obj (0x3000 + p) 1 = 3) :
    s.portConflict p 0x10 b = none := by
  have range : (7 < b.toNat && b.toNat != 0xFF) = false := by
    rcases h with h | rfl
    · simp; omega
    · rfl
  simp only [State.portConflict, range]
  rcases hf with hf | hf <;> simp [hf]

theorem portConflict_bus_other (h0 : 0 ≤ b) (h8 : b < 8) (hf : s.obj (0x3000 + p) 1 ≠ 0) (hm : s.obj (0x3000 + p) 1 ≠ 3) :
    s.portConflict p 0x10 b = some 0x0F010301 := by
  have low : ¬ 7 < b.toNat := by omega
  have bus : b.toNat ≠ 0xFF := by omega
  simp [State.portConflict, low, bus, hf, hm]

theorem portConflict_function {f : Int} (h0 : 0 ≤ f) (hf : f ≠ 0) (hm : f ≠ 3) (hb : s.obj (0x3000 + p) 0x10 ≠ 0xFF) :
    s.portConflict p 1 f = some 0x0F010301 := by
  have off : f.toNat ≠ 0 := by omega
  have measure : f.toNat ≠ 3 := by omega
  simp [State.portConflict, off, measure, hb]

end

/-! ## Changes that end with time -/

section
variable {s : State} {p : PortNo} {e : Tk}

theorem endRangeChange_early (h : (s.port p).rangeEnd = some e) (hn : s.now < e) : s.endRangeChange p = s := by
  simp [State.endRangeChange, h, hn]

theorem endRangeChange_free (h : (s.port p).rangeEnd = some e) (hn : e ≤ s.now) (hh : (s.port p).held = []) :
    s.endRangeChange p = s.setPort p { s.port p with rangeEnd := none } := by
  simp [State.endRangeChange, h, Nat.not_lt.mpr hn, hh, State.releaseHeld]

/-- A cell whose range change has ended, and for which no write is held. -/
def PortCell.freed (c : PortCell) : PortCell := { c with rangeEnd := none, held := [] }

theorem staticActs_iff : s.staticActs p = true ↔ (s.port p).owner.kind = .static ∧ s.parked p = false := by
  simp [State.staticActs, State.worksAs]

/-- A cell's owner and park say whether the static setting acts. -/
theorem staticActs_setPort {c : PortCell} (ho : c.owner = (s.port p).owner) (hp : c.park = (s.port p).park) :
    (s.setPort p c).staticActs p = s.staticActs p := by
  simp [State.staticActs, State.worksAs, State.parked, ho, hp]

/-- A range change that ends where the static setting acts lets the held writes go. -/
theorem endRangeChange_releases (h : (s.port p).rangeEnd = some e) (hn : e ≤ s.now) (hs : s.staticActs p = true)
    (hl : (s.port p).latched = none) : s.endRangeChange p =
      State.releaseHeld p e (s.port p).held.length (s.setPort p { s.port p with rangeEnd := none }) := by
  have acts := (staticActs_setPort (c := { s.port p with rangeEnd := none }) rfl rfl).trans hs
  have goes : ((s.port p).latched.isSome || (s.setPort p { s.port p with rangeEnd := none }).parked p ||
      (s.port p).owner.kind == .clamp) = false := by
    rw [hl, (staticActs_iff.mp acts).2, (staticActs_iff.mp hs).1]
    rfl
  simp only [State.endRangeChange, h]
  rw [if_neg (Nat.not_lt.mpr hn), if_neg (ne_true_of_eq_false goes)]

theorem releaseHeld_one {w : HeldWrite} (hr : (s.port p).rangeEnd = none) (hh : (s.port p).held = [w]) :
    State.releaseHeld p e 1 s = (s.setPort p { s.port p with held := [] }).writeActs p w.sub w.old w.new e := by
  simp [State.releaseHeld, hr, hh]

/-- The one held write reaches the cell as its range change ends. -/
theorem endRangeChange_one {w : HeldWrite} (h : (s.port p).rangeEnd = some e) (hn : e ≤ s.now) (hs : s.staticActs p = true)
    (hl : (s.port p).latched = none) (hh : (s.port p).held = [w]) :
    s.endRangeChange p = (s.setPort p (s.port p).freed).writeActs p w.sub w.old w.new e := by
  have owned : ({ s.port p with rangeEnd := none } : PortCell) ≠ {} := by
    intro reset
    have clamped := congrArg (fun c => c.owner.kind) reset
    simp [(staticActs_iff.mp hs).1] at clamped
  rw [endRangeChange_releases h hn hs hl, hh, List.length_singleton, releaseHeld_one (w := w) (by simp) (by simp [hh]),
    port_setPort, setPort_setPort s p _ owned]
  rfl

/-- The held write of a level takes effect at the end of the range change (R50). -/
theorem endRangeChange_level {old new : Int} (h : (s.port p).rangeEnd = some e) (hn : e ≤ s.now) (hs : s.staticActs p = true)
    (hl : (s.port p).latched = none) (hh : (s.port p).held = [{ sub := 2, old := old, new := new }])
    (hf : s.objN (0x3000 + p) 1 = 1) : s.endRangeChange p = (s.setPort p ((s.port p).freed.settles e
        (fullScaleTime (s.objN (0x3000 + p) 4) * compFactor (s.objN (0x3000 + p) 9)))).cellFollows p := by
  have owned : (s.port p).freed ≠ {} := by
    intro reset
    have clamped := congrArg (fun c => c.owner.kind) reset
    simp [PortCell.freed, (staticActs_iff.mp hs).1] at clamped
  have setting : ∀ sub, (s.setPort p (s.port p).freed).settingN p sub = s.objN (0x3000 + p) sub := fun sub =>
    congrArg Int.toNat (setting_of_held_nil (by simp [PortCell.freed]) sub)
  have acts := (staticActs_setPort (c := (s.port p).freed) rfl rfl).trans hs
  have level := applySetting_level (cur := false) (old := old) (new := new) (at' := e) ((setting 1).trans hf)
  simp only [State.fullScale, setting, port_setPort, setPort_setPort s p _ owned, Bool.false_eq_true, if_false,
    Nat.one_mul] at level
  rw [endRangeChange_one h hn hs hl hh, writeActs_of_acts acts]
  exact level

end

theorem settled_eq (s : State) (p : Nat) : s.settled p =
    if (s.port p).settlingEnd ≤ s.now then s.setPort p { s.port p with settling := false } else s := rfl

theorem busCloses_eq {s : State} {p b : Nat} {e : Tk} (h : (s.port p).busNext = some (b, e)) : s.busCloses p =
    if e ≤ s.now then s.setPort p { s.port p with bus := some b, busNext := none } else s := by
  simp only [State.busCloses, h]

end Sys2Proof.Machine

open Sys2Proof Sys2Proof.Machine

/-- Settles O7: by the conflict that the port object finds, or does not find, between the two. -/
theorem busConnectionNeedsIdleFunction : Obligations.BusConnectionNeedsIdleFunction := by
  unfold Obligations.BusConnectionNeedsIdleFunction
  refine ⟨?_, ?_, ?_⟩
  · intro s t a p v c b h hb h0 h8 hf
    subst hb
    have range : (c.written (natLe 1 v)).toNat < 8 ∨ c.written (natLe 1 v) = 0xFF := h8.imp_left (by omega)
    exact ⟨_, portWrite_completes h (portConflict_bus_idle range hf),
      (obj_portStore _ p _ (by decide)).trans (roundSetting_code (.inr (.inr rfl)) _)⟩
  · intro s t a p v c b h hb h0 h8 hf hm
    subst hb
    exact portWrite_refuses h (portConflict_bus_other h0 h8 hf hm)
  · intro s t a p v c f h hb h0 hf hm hc
    subst hb
    exact portWrite_refuses h (portConflict_function h0 hf hm hc)

/-- Settles O8: each change by its instant; the held level by the write that its release makes. -/
theorem portChangesEnd : Obligations.PortChangesEnd := by
  unfold Obligations.PortChangesEnd
  refine ⟨⟨?_, ?_, ?_, ?_⟩, ?_⟩
  · intro s t p e h hn
    exact congrArg Host.Outcome.next (endRangeChange_early (s := s.advance t) h hn)
  · intro s t p e h hn hh
    exact congrArg Host.Outcome.next (endRangeChange_free (s := s.advance t) h hn hh)
  · intro s t p
    exact congrArg Host.Outcome.next (settled_eq (s.advance t) p)
  · intro s t p b e h
    exact congrArg Host.Outcome.next (busCloses_eq (s := s.advance t) h)
  · intro s t p e old new h hn hs hl hh hf
    exact congrArg Host.Outcome.next (endRangeChange_level (s := s.advance t) h hn hs hl hh hf)
end

section
/-!
SUPPORT. Faults of ports (R39 to R43, R66 to R69): what the change of owner after a fault leaves, what a fault leaves at its
port and at the others, and the faults of a current limit.
-/

namespace Sys2Proof.Machine

/-! ## The change of owner -/

/-- From `s` to `u` a port keeps its owner and its latch; no other cell and no setting of a port changes. -/
structure StaysOwned (p : Nat) (s u : State) : Prop where
  latched : (u.port p).latched = (s.port p).latched
  owner : (u.port p).owner = (s.port p).owner
  others : ∀ q : Nat, q ≠ p → u.port q = s.port q
  objs : HappensOnly s u

section
variable {p : Nat} {s t u : State}

theorem StaysOwned.refl (p : Nat) (s : State) : StaysOwned p s s := ⟨rfl, rfl, fun _ _ => rfl, .refl s⟩

theorem StaysOwned.trans (h : StaysOwned p s t) (g : StaysOwned p t u) : StaysOwned p s u :=
  ⟨g.latched.trans h.latched, g.owner.trans h.owner, fun q hq => (g.others q hq).trans (h.others q hq), h.objs.trans g.objs⟩

theorem StaysOwned.of_ports (h : u.ports = s.ports) (g : HappensOnly s u) : StaysOwned p s u :=
  have port := port_congr h
  ⟨congrArg PortCell.latched (port p), congrArg PortCell.owner (port p), fun q _ => port q, g⟩

theorem Follows.staysOwned (h : Follows p s u) : StaysOwned p s u := by
  obtain ⟨f, m, r, x, y, cell⟩ := h.cell
  exact ⟨by rw [cell], by rw [cell], h.others, h.objs⟩

theorem staysOwned_setPort (s : State) {c : PortCell} (hl : c.latched = (s.port p).latched) (ho : c.owner = (s.port p).owner) :
    StaysOwned p s (s.setPort p c) :=
  ⟨by rw [port_setPort, hl], by rw [port_setPort, ho], fun _ hq => port_setPort_other s c hq, .of_objs rfl⟩

end

theorem staysOwned_startPark (s : State) (p : PortNo) (new : Owner) (cause : OwnerCause) :
    StaysOwned p s (s.startPark p new cause) := by
  unfold State.startPark
  extract_lets c entry hold park u
  have parks : StaysOwned p s (s.setPort p { c with park := some park, schedule := [], lastScheduled := none }) :=
    staysOwned_setPort s rfl rfl
  have hu : StaysOwned p s u := parks.trans (follows_noteMark _ p).staysOwned
  have fresh : StaysOwned p u u.nextFresh := .of_ports rfl (.of_objs rfl)
  exact ((hu.trans fresh).trans (follows_lineObj _ p _).staysOwned).trans (follows_lineObj _ p _).staysOwned

/-- A port that follows its enabled owners goes into park: its owner shows at the exit (R81, R83). -/
theorem staysOwned_settleOwner (s : State) (cause : OwnerCause) (p : PortNo) : StaysOwned p s (s.settleOwner cause p) := by
  unfold State.settleOwner
  dsimp only
  split
  · split
    · exact staysOwned_setPort s rfl rfl
    · split
      · exact staysOwned_setPort s rfl rfl
      · exact .refl _ s
  · split
    · exact .refl _ s
    · exact staysOwned_startPark s p _ cause

/-! ## One fault -/

/-- The parts that a fault of a port may change. -/
abbrev faultParts : List Part := [.now, .objs, .ports, .log, .fresh]

/-- A fault that is counted and logged (R68). -/
def State.faultNoted (s : State) (p : Nat) (cause : PortCause) : State :=
  let t := s.countUp (0x3000 + p) 0x1C
  t.logRec t.now p 4 [BitVec.ofNat 8 (PortCause.code cause), BitVec.ofNat 8 (s.port p).owner.kind.code]

theorem faultNoted_facts (s : State) (p : PortNo) (cause : PortCause) : Changes [.objs, .log] s (s.faultNoted p cause) ∧
    (s.faultNoted p cause).obj (0x3000 + p) 0x1C = addWrap 32 (s.objN (0x3000 + p) 0x1C) 1 := by
  have hp := p.isLt
  exact ⟨(changes_logRec _ _ _ _ _).step rfl ((changes_countUp s _ _ _).mono rfl),
    (obj_logRec _ _ _ _ _ (by simp only [objKey]; omega)).trans (obj_setObj s _ _ _)⟩

theorem port_faultNoted (s : State) (p : PortNo) (cause : PortCause) (q : Nat) : (s.faultNoted p cause).port q = s.port q :=
  port_congr ((faultNoted_facts s p cause).1 .ports rfl) q

theorem portFault_of_latched {s : State} {p : PortNo} (cause : PortCause) (h : (s.port p).latched.isSome = true) :
    s.portFault p cause = s.faultNoted p cause := by
  rw [← port_faultNoted s p cause] at h
  exact if_pos h

/-- A fault is latched where the latch is clear, and the port goes to the safety clamp. -/
theorem portFault_of_clear {s : State} {p : PortNo} (cause : PortCause) (h : (s.port p).latched = none) :
    s.portFault p cause =
      ((s.faultNoted p cause).setPort p { s.port p with latched := some cause }).settleOwner .fault p := by
  rw [← port_faultNoted s p cause] at h ⊢
  exact if_neg (ne_true_of_eq_false (congrArg Option.isSome h))

/-- What a fault leaves at its port, and that it leaves the other cells. -/
theorem portFault_faulted (s : State) (p : PortNo) (cause : PortCause) :
    s.Faulted (s.portFault p cause) p cause ∧ ∀ q : Nat, q ≠ p → (s.portFault p cause).port q = s.port q := by
  obtain ⟨noted, count⟩ := faultNoted_facts s p cause
  have port := port_faultNoted s p cause
  cases old : (s.port p).latched with
  | some first =>
    rw [portFault_of_latched cause (by simp [old])]
    exact ⟨⟨by rw [port, old]; rfl, count, by rw [port], noted.mono rfl⟩, fun q _ => port q⟩
  | none =>
    rw [portFault_of_clear cause old]
    generalize s.faultNoted p cause = u at noted count port
    have stays := staysOwned_settleOwner (u.setPort p { s.port p with latched := some cause }) .fault p
    have frame := (spares_settleOwner (u.setPort p { s.port p with latched := some cause }) .fault p).changes
    refine ⟨⟨?_, ?_, ?_, ?_⟩, fun q hq => ?_⟩
    · rw [stays.latched, port_setPort, old]
      rfl
    · exact (stays.objs.portObj p.isLt (by decide)).trans count
    · rw [stays.owner, port_setPort]
    · exact frame.step rfl ((changes_setPort u p _).step rfl (noted.mono rfl))
    · rw [stays.others q hq, port_setPort_other _ _ hq, port]

/-- A fault of a port that nothing else watches is the fault of its cell alone. -/
theorem portFails_eq {s : State} (p : PortNo) {cause : PortCause} (hm : s.mode.working = true) (hc : cause ≠ .rail)
    (hu : s.unwatched p) : s.portFails p cause = s.portFault p cause := by
  obtain ⟨points, steps⟩ := hu
  have frame := (portFault_faulted s p cause).1.frame
  have flight : (s.portFault p cause).inFlightSteps = [] := by
    rw [State.inFlightSteps, frame .disp rfl]
    exact steps
  have held : (s.portFault p cause).stepsLosePort p = s.portFault p cause := by
    simp [State.stepsLosePort, flight]
  have map : ((s.portFault p cause).map.points.contains (p : Nat)) = false := by
    rw [frame .map rfl]
    exact points
  simp only [State.portFails, hm, hc, held, State.mapLosesPoint, map]
  rfl

theorem State.Faulted.of_advance {s u : State} {t : Tk} {p : Nat} {cause : PortCause} (h : (s.advance t).Faulted u p cause) :
    s.Faulted u p cause :=
  ⟨h.latched, h.counted, h.owner, Changes.trans ((changes_advance s t).mono rfl) h.frame⟩

/-- A port that fails, as its command leaves it. -/
theorem portFails_faulted {s : State} (t : Tk) (p : PortNo) {cause : PortCause} (hm : s.mode.working = true) (hc : cause ≠ .rail)
    (hu : s.unwatched p) : s.Faulted ((s.advance t).portFails p cause) p cause := by
  rw [portFails_eq (s := s.advance t) p hm hc hu]
  exact .of_advance (portFault_faulted (s.advance t) p cause).1

/-! ## The faults of a current limit (R66) -/

/-- Faults of one cause at several ports: each latches, and no other port does. -/
theorem portsFail_facts {cause : PortCause} (hc : cause ≠ .rail) (ps : List Nat) (hp : ∀ p ∈ ps, p < 256) (s : State)
    (hm : s.mode.working = true) (hs : s.inFlightSteps = []) (hn : s.map.points = []) :
    Changes faultParts s (s.each ps fun s p => s.portFails p cause) ∧
      ∀ q, ((s.each ps fun s p => s.portFails p cause).port q).latched =
        if q ∈ ps then ((s.port q).latched.orElse fun _ => some cause) else (s.port q).latched := by
  induction ps generalizing s with
  | nil => exact ⟨.refl _ s, fun q => by simp [State.each]⟩
  | cons p ps ih =>
    have lt : p < 256 := hp p (by simp)
    obtain ⟨faulted, others⟩ := portFault_faulted s ⟨p, lt⟩ cause
    have fails := portFails_eq ⟨p, lt⟩ hm hc ⟨by rw [hn]; rfl, hs⟩
    have step : s.each (p :: ps) (fun s p => s.portFails p cause) = (s.portFault p cause).each ps fun s p => s.portFails p cause :=
      congrArg (State.each · ps fun s p => s.portFails p cause) fails
    obtain ⟨frame, latches⟩ := ih (fun q hq => hp q (by simp [hq])) (s.portFault p cause)
      (by rw [faulted.frame .mode rfl]; exact hm) (by rw [State.inFlightSteps, faulted.frame .disp rfl]; exact hs)
      (by rw [faulted.frame .map rfl]; exact hn)
    rw [step]
    refine ⟨Changes.trans faulted.frame frame, fun q => ?_⟩
    rw [latches q]
    by_cases same : q = p
    · subst same
      have latched := faulted.latched
      simp only at latched
      rw [latched]
      cases (s.port q).latched <;> simp
    · rw [others q same]
      simp [same]

/-- The faults of a limit, as its command leaves them. -/
theorem limitedPorts_facts {s : State} (t : Tk) (die : Option DieNo) {cause : PortCause} (hc : cause ≠ .rail)
    (hm : s.mode.working = true) (hs : s.inFlightSteps = []) (hn : s.map.points = []) :
    Changes faultParts s ((s.advance t).each ((s.advance t).limitedPorts die) fun s p => s.portFails p cause) ∧ ∀ q,
      (((s.advance t).each ((s.advance t).limitedPorts die) fun s p => s.portFails p cause).port q).latched =
        if q ∈ (s.advance t).limitedPorts die then ((s.port q).latched.orElse fun _ => some cause) else (s.port q).latched := by
  have range : ∀ p ∈ (s.advance t).limitedPorts die, p < 256 := fun p hp => List.mem_range.mp (List.mem_filter.mp hp).1
  obtain ⟨frame, latches⟩ := portsFail_facts hc _ range (s.advance t) hm hs hn
  exact ⟨Changes.trans ((changes_advance s t).mono rfl) frame, latches⟩

theorem mem_limitedPorts {s : State} {die : Option DieNo} {q : Nat} (hq : q < 256) :
    q ∈ s.limitedPorts die ↔ s.driving q = true ∧ ∀ d, die = some d → q / 64 = d := by
  cases die <;> simp [State.limitedPorts, hq]

/-! ## Clamps and the sense check (R39 to R43) -/

section
variable {s : State} {p : Nat}

theorem clampsChange_of_driving (so si vo : Bool) (h : s.driving p = true) : s.clampsChange p so si vo = s.setPort p { s.port p with
    sourceClamp := so, sinkClamp := si, voltageClamp := vo,
    clampSince := if so || si || vo then ((s.port p).clampSince.orElse fun _ => some s.now) else none } := by
  simp [State.clampsChange, h]

theorem clampsChange_of_rest (so si vo : Bool) (h : s.driving p = false) :
    s.clampsChange p so si vo = s.setPort p (s.port p).unclamped := by
  simp [State.clampsChange, h]

theorem senseOpens_falls_back (h : s.senseRuns p = true) (hf : fieldOf (s.settingN p 9) 0 2 = 2) :
    s.senseOpens p = s.setPort p { s.port p with senseFallback := true } := by
  simp [State.senseOpens, h, hf]

theorem senseOpens_faults (h : s.senseRuns p = true) (hf : fieldOf (s.settingN p 9) 0 2 = 0) :
    s.senseOpens p = s.portFails p .senseOpen := by
  simp [State.senseOpens, h, hf]

theorem sensePasses_resumes (h : s.senseRuns p = true) :
    s.sensePasses p = s.setPort p { s.port p with senseFallback := false } := if_pos h

end

/-! ## Fault clear (R69) -/

/-- Whether the cause of a fault has gone: that of a clamp timeout is gone at once, that of the rails never by a clear. -/
def PortCell.causeGone (c : PortCell) (cause : PortCause) (gone : Bool) : Bool :=
  match cause with
  | .clampTimeout => true
  | .rail => false
  | .ballOvervoltage => c.ballsWithin
  | _ => gone

section
variable {s : State} {p : PortNo}

theorem clearFault_opens {v : Int} {cause : PortCause} {gone : Bool} (hv : v ≠ 0) (hl : (s.port p).latched = some cause)
    (hg : (s.port p).causeGone cause gone = true) :
    s.clearFault p v gone = .ok ((s.setPort p { s.port p with latched := none }).settleOwner .disable p) := by
  simp only [State.clearFault, if_neg hv, hl]
  exact if_pos hg

theorem clearFault_refuses {v : Int} {cause : PortCause} {gone : Bool} (hv : v ≠ 0) (hl : (s.port p).latched = some cause)
    (hg : (s.port p).causeGone cause gone = false) : s.clearFault p v gone = refuse 0x0F010302 := by
  simp only [State.clearFault, if_neg hv, hl]
  exact if_neg (ne_true_of_eq_false hg)

/-- Outside HOLD the errors of the moment are not latched by a clear. -/
theorem latchErrors_heard (t : Tk) (a : Accessor) (h : s.mode ≠ .hold) : (s.heard t a).latchErrors = s.heard t a := by
  simp [State.latchErrors, h]

/-- A cause that lasts: its cell reports it, or shows it at its balls. -/
theorem causeGone_eq_false {c : PortCell} {cause : PortCause} (hc : cause ≠ .clampTimeout)
    (hb : cause ≠ .ballOvervoltage ∨ c.ballsWithin = false) : c.causeGone cause false = false := by
  cases cause <;> simp_all [PortCell.causeGone]

end

end Sys2Proof.Machine

open Sys2Proof Sys2Proof.Machine

/-- Settles O9: clamps and sense check by their branches, each fault by the fault of its cell, a limit by the faults of its
ports. -/
theorem portFaultsLatch : Obligations.PortFaultsLatch := by
  unfold Obligations.PortFaultsLatch
  refine ⟨⟨?_, ?_, ?_, ?_⟩, ⟨?_, ?_, ?_⟩, ?_, ?_, ?_, ?_⟩
  -- clamps and the sense check
  · intro s t p so si vo h
    exact congrArg Host.Outcome.next (clampsChange_of_driving so si vo h)
  · intro s t p so si vo h
    exact congrArg Host.Outcome.next (clampsChange_of_rest so si vo h)
  · intro s t p h hf
    exact congrArg Host.Outcome.next (senseOpens_falls_back (s := s.advance t) h hf)
  · intro s t p h
    exact congrArg Host.Outcome.next (sensePasses_resumes h)
  -- faults of one port
  · intro s t p cause hm hc hu
    exact ⟨_, rfl, portFails_faulted t p hm hc hu⟩
  · intro s t p hm h hu
    exact ⟨_, congrArg Host.Outcome.next (if_pos h), portFails_faulted t p hm (by decide) hu⟩
  · intro s t p hm h hf hu
    exact ⟨_, congrArg Host.Outcome.next (senseOpens_faults (s := s.advance t) h hf), portFails_faulted t p hm (by decide) hu⟩
  -- the current limits
  · intro s t die hm hs hn
    obtain ⟨frame, latches⟩ := limitedPorts_facts t die (cause := if die.isSome then .dieCurrent else .moduleCurrent)
      (by split <;> decide) hm hs hn
    refine ⟨_, rfl, frame, fun q hq => (latches q).trans ?_⟩
    simp only [mem_limitedPorts hq]
  -- fault clear
  · intro s t a p cause gone c h hv hm hl hg
    have ended : ((s.heard t a).port p).causeGone cause gone = true := by
      rw [port_heard]
      cases cause <;> exact hg
    have clears := clearFault_opens (s := s.heard t a) (v := c.written (natLe 1 1)) (by rw [hv]; decide)
      ((congrArg PortCell.latched (port_heard s t a p)).trans hl) ended
    rw [port_heard] at clears
    have owes := owes_of_changes
      (spares_settleOwner ((s.heard t a).setPort p { s.port p with latched := none }) .disable p).changes rfl rfl
    exact write_completes h (k := fun s x => s.latchErrors.clearFault p x gone) (by rw [latchErrors_heard t a hm, clears])
      owes
  · intro s t a p cause c h hv hm hl hc hb
    have refuses := clearFault_refuses (s := s.heard t a) (v := c.written (natLe 1 1)) (by rw [hv]; decide)
      ((congrArg PortCell.latched (port_heard s t a p)).trans hl) (by rw [port_heard]; exact causeGone_eq_false hc hb)
    exact write_refuses h (k := fun s x => s.latchErrors.clearFault p x false) (by rw [latchErrors_heard t a hm, refuses])
  · intro s t a p gone c h hv hm
    exact write_completes h (k := fun s x => s.latchErrors.clearFault p x gone)
      (by rw [latchErrors_heard t a hm, hv]; rfl) (owes_of_eq rfl rfl rfl)
end

section
/-!
SUPPORT. Filters and debounce (R86 to R89): what a line with nothing on its way takes, what an accepted level leaves, and the ends
of the debounce window and of a restart.
-/

namespace Sys2Proof.Machine

section
variable {s u : State} {l : FilterLine}

/-! ## The filter of a line -/

theorem filter_setFilter (s : State) (l : FilterLine) (f : Filter) : (s.setFilter l f).filter l = f := by
  cases l with
  | port p => exact congrArg PortCell.filter (port_setPort s p _)
  | pin n => exact congrArg PinCell.filter (pin_setPin s n _)

/-- The filter of a line stands in its cell. -/
theorem filter_congr (hp : u.ports = s.ports) (hn : u.pins = s.pins) (l : FilterLine) : u.filter l = s.filter l := by
  cases l with
  | port p => exact congrArg PortCell.filter (port_congr hp p)
  | pin n => exact congrArg PinCell.filter (pin_congr hn n)

theorem filter_advance (s : State) (t : Tk) (l : FilterLine) : (s.advance t).filter l = s.filter l :=
  filter_congr (advance_ports s t) (advance_pins s t) l

theorem debounceTime_setFilter (s : State) (l : FilterLine) (f : Filter) : (s.setFilter l f).debounceTime l = s.debounceTime l := by
  cases l <;> rfl

/-! ## A line with nothing on its way -/

theorem lineDue_of_quiet (h : (s.filter l).quiet) : s.lineDue l = s := by
  obtain ⟨resync, window, held, -⟩ := h
  have defines : s.defineLevel l = s := by simp [State.defineLevel, resync]
  have accepts : s.acceptLevel l = s := by simp [State.acceptLevel, held]
  have ends : s.endDebounce l = s := by simp [State.endDebounce, window]
  rw [State.lineDue, defines, accepts, ends]

/-- A level that a quiet filter has already is no change. -/
theorem lineSignal_same (h : (s.filter l).quiet) {level : Bool} (hl : level = (s.filter l).raw) : s.lineSignal l level = s := by
  simp [State.lineSignal, lineDue_of_quiet h, hl]

/-- Another level arrives at a quiet filter now. -/
theorem lineSignal_arrives (h : (s.filter l).quiet) {level : Bool} (hl : level ≠ (s.filter l).raw) :
    s.lineSignal l level = s.setFilter l { s.filter l with raw := level, since := s.now } := by
  obtain ⟨resync, window, held, -⟩ := id h
  have differs : ((s.filter l).raw == level) = false := beq_eq_false_iff_ne.mpr hl.symm
  simp [State.lineSignal, lineDue_of_quiet h, differs, resync, window, held]

/-! ## An accepted level (R87, R88) -/

/-- A capture changes the filter in what it has counted alone. -/
theorem filter_captureEdge (s : State) (l : FilterLine) (stamp : Nat) (level afterPark late : Bool) (skipped : Nat) :
    ∃ k, (s.captureEdge l stamp level afterPark late skipped).filter l = { s.filter l with skipped := k } := by
  cases l with
  | pin n => exact ⟨_, rfl⟩
  | port p =>
    have entry := fun v e => filter_congr ((spares_blockEntryTo s v e).changes .ports rfl)
      ((spares_blockEntryTo s v e).changes .pins rfl) (.port p)
    unfold State.captureEdge
    dsimp only
    split
    · exact ⟨_, rfl⟩
    · split
      · exact ⟨_, entry _ _⟩
      · exact ⟨0, by rw [filter_setFilter, entry]⟩

/-- An accepted edge opens the debounce window, with the stamp of its transition. -/
theorem filter_acceptEdge (s : State) (l : FilterLine) (stamp accepted : Nat) (level late : Bool) :
    ∃ k, (s.acceptEdge l stamp accepted level late).filter l = { s.filter l with
      level := level, afterPark := false, lastEdge := stamp
      debounce := if s.debounceTime l = 0 then none else some (accepted + s.debounceTime l), skipped := k } := by
  unfold State.acceptEdge
  extract_lets f d u v w b x
  have hv : v.filter l = u.filter l := by cases l <;> rfl
  obtain ⟨k, hw⟩ : ∃ k, w.filter l = { v.filter l with skipped := k } := filter_captureEdge v l _ _ _ _ _
  have hx : x.filter l = w.filter l := by
    cases l with
    | port p => rfl
    | pin n =>
      unfold x
      dsimp only
      split <;> rfl
  have edge := spares_edge x (lineSource l) stamp level
  exact ⟨k, by rw [filter_congr (edge.changes .ports rfl) (edge.changes .pins rfl), hx, hw, hv, filter_setFilter]⟩

/-- A level that has held for the glitch time, outside a debounce window, is accepted where it differs from the accepted level. -/
theorem acceptLevel_accepts (hr : (s.filter l).resync = false) (hd : (s.filter l).debounce = none)
    (hg : (s.filter l).raw ≠ (s.filter l).glitch) (hl : (s.filter l).raw ≠ (s.filter l).level)
    (hn : (s.filter l).since + s.glitchTime l ≤ s.now) :
    s.acceptLevel l = (s.setFilter l { s.filter l with glitch := (s.filter l).raw }).acceptEdge l (s.filter l).since
      ((s.filter l).since + s.glitchTime l) (s.filter l).raw false := by
  have before : s.debounceBefore l ((s.filter l).since + s.glitchTime l) = s := by simp [State.debounceBefore, hd]
  simp [State.acceptLevel, hr, hg, hl, hd, Nat.not_lt.mpr hn, before, filter_setFilter]

/-- What the accepted level leaves at its filter. -/
theorem filter_acceptLevel (hr : (s.filter l).resync = false) (hd : (s.filter l).debounce = none)
    (hg : (s.filter l).raw ≠ (s.filter l).glitch) (hl : (s.filter l).raw ≠ (s.filter l).level)
    (hn : (s.filter l).since + s.glitchTime l ≤ s.now) :
    ∃ k, (s.acceptLevel l).filter l = { s.filter l with
      glitch := (s.filter l).raw, level := (s.filter l).raw, afterPark := false, lastEdge := (s.filter l).since
      debounce := if s.debounceTime l = 0 then none else some ((s.filter l).since + s.glitchTime l + s.debounceTime l)
      skipped := k } := by
  obtain ⟨k, filter⟩ := filter_acceptEdge (s.setFilter l { s.filter l with glitch := (s.filter l).raw }) l (s.filter l).since
    ((s.filter l).since + s.glitchTime l) (s.filter l).raw false
  rw [debounceTime_setFilter, filter_setFilter, ← acceptLevel_accepts hr hd hg hl hn] at filter
  exact ⟨k, filter⟩

/-! ## Ends of a window and of a restart (R87, R89) -/

theorem endDebounce_same {e : Tk} (hd : (s.filter l).debounce = some e) (hn : e ≤ s.now)
    (hg : (s.filter l).glitch = (s.filter l).level) : s.endDebounce l = s.setFilter l { s.filter l with debounce := none } := by
  simp [State.endDebounce, hd, Nat.not_lt.mpr hn, hg]

/-- The first level after a restart, where it is 0 and the source has no level, gives no arrival. -/
theorem defineLevel_low (hr : (s.filter l).resync = true) (hw : (s.filter l).raw = false)
    (hn : (s.filter l).since + s.glitchTime l ≤ s.now) (hs : (s.source (lineSource l)).level = false) :
    s.defineLevel l =
      (s.setFilter l { s.filter l with resync := false, glitch := false, level := false, debounce := none }).setSource
      (lineSource l) { s.source (lineSource l) with level := false } := by
  have source : ∀ f, (s.setFilter l f).source (lineSource l) = s.source (lineSource l) := by cases l <;> exact fun _ => rfl
  simp [State.defineLevel, hr, hw, Nat.not_lt.mpr hn, State.setLevel, source, hs]

end

end Sys2Proof.Machine
end

section
/-!
SUPPORT. The signals of ports and pins (R54 to R57, R81, R98): what a cell reads after a change at its ball, what its comparators
then give, and how a signal reaches its filter.
-/

namespace Sys2Proof.Machine

/-! ## What a cell reads from its owner, its park and its settings -/

/-- `u` differs from `s` in cells alone, and the cell of a port has the same owner, park, held writes and fabric output. -/
structure CellAlike (p : Nat) (s u : State) : Prop where
  frame : Changes [.ports] s u
  owner : (u.port p).owner = (s.port p).owner
  park : (u.port p).park = (s.port p).park
  held : (u.port p).held = (s.port p).held
  output : (u.port p).fabricOE = (s.port p).fabricOE

section
variable {p : Nat} {s t u : State}

theorem CellAlike.trans (h : CellAlike p s t) (g : CellAlike p t u) : CellAlike p s u :=
  ⟨h.frame.trans g.frame, g.owner.trans h.owner, g.park.trans h.park, g.held.trans h.held, g.output.trans h.output⟩

theorem cellAlike_setPort (s : State) {c : PortCell} (ho : c.owner = (s.port p).owner) (hk : c.park = (s.port p).park)
    (hh : c.held = (s.port p).held) (hf : c.fabricOE = (s.port p).fabricOE) : CellAlike p s (s.setPort p c) :=
  ⟨changes_setPort s p c, by rw [port_setPort, ho], by rw [port_setPort, hk], by rw [port_setPort, hh],
    by rw [port_setPort, hf]⟩

section
variable (h : CellAlike p s u)
include h

theorem CellAlike.setting (sub : Nat) : u.setting p sub = s.setting p sub :=
  setting_congr h.held (obj_congr (h.frame .objs rfl) _ _)

theorem CellAlike.settingN (sub : Nat) : u.settingN p sub = s.settingN p sub := congrArg Int.toNat (h.setting sub)

theorem CellAlike.parked : u.parked p = s.parked p := by
  have now : u.now = s.now := h.frame .now rfl
  simp only [State.parked, h.park, now]

theorem CellAlike.masked : u.masked p = s.masked p := by
  simp only [State.masked, h.parked, h.owner]

theorem CellAlike.eventSignal : u.eventSignal p = s.eventSignal p := by
  simp only [State.eventSignal, h.settingN]

theorem CellAlike.ownerReceives (o : Owner) : u.ownerReceives p o = s.ownerReceives p o := by
  simp only [State.ownerReceives, h.settingN]

theorem CellAlike.receiverOn (hr : (u.port p).receiverAt = (s.port p).receiverAt) : u.receiverOn p = s.receiverOn p := by
  have now : u.now = s.now := h.frame .now rfl
  simp only [State.receiverOn, h.ownerReceives, h.owner, hr, now]

theorem CellAlike.signalSeen (hr : (u.port p).receiverAt = (s.port p).receiverAt) : u.signalSeen p = s.signalSeen p := by
  simp only [State.signalSeen, h.masked, h.eventSignal, h.receiverOn hr]

theorem CellAlike.cellFunction : u.cellFunction p = s.cellFunction p := by
  have sweep := sweep_congr (h.frame .sweeps rfl)
  have map : u.map = s.map := h.frame .map rfl
  have refining : u.refining = s.refining := by simp only [State.refining, map]
  simp only [State.cellFunction, h.parked, State.ownerFunction, h.owner, h.settingN, sweep, refining, h.output]

theorem CellAlike.receiverBand : u.receiverBand p = s.receiverBand p := by
  simp only [State.receiverBand, h.cellFunction, h.setting, h.settingN]

theorem CellAlike.cellMeasure : u.cellMeasure p = s.cellMeasure p := by
  have sweep : u.sweep = s.sweep := funext (sweep_congr (h.frame .sweeps rfl))
  simp only [State.cellMeasure, State.forcingSweep, h.owner, h.settingN, sweep]

end
end

/-! ## Comparators (R54, R56) -/

/-- What the window comparators of a port give: above the high limit, and below the low one. -/
def State.windowNow (s : State) (p : Nat) : Bool × Bool :=
  let (x, high, low, steps) := s.windowInputs p
  (compareBand (s.port p).windowAbove (high - steps) high x, compareBand (s.port p).windowBelow (-low - steps) (-low) (-x))

/-- A cell whose comparators have judged its inputs. -/
def State.compared (s : State) (p : Nat) : PortCell := { s.port p with
  receiver := s.receiverNow p (s.port p).receiver, windowAbove := (s.windowNow p).1, windowBelow := (s.windowNow p).2 }

theorem port_recompare (s : State) (p : Nat) : (s.recompare p).port p = s.compared p := by
  have judged : s.recompare p = if s.compared p = s.port p then s else s.setPort p (s.compared p) := rfl
  rw [judged]
  split
  next same => exact same.symm
  next => exact port_setPort s p _

theorem port_recompare_other (s : State) {p q : Nat} (h : q ≠ p) : (s.recompare p).port q = s.port q :=
  (follows_recompare s p).others q h

theorem cellAlike_recompare (s : State) (p : Nat) : CellAlike p s (s.recompare p) := by
  have cell := port_recompare s p
  exact ⟨(spares_recompare s p).changes, by rw [cell]; rfl, by rw [cell]; rfl, by rw [cell]; rfl, by rw [cell]; rfl⟩

theorem compareBand_above {old : Bool} {low high v : Int} (h : high < v) : compareBand old low high v = true := if_pos h

/-! ## The signal of a port -/

section
variable {s : State} {p : PortNo}

theorem rawSignal_receiver (h : s.eventSignal p = 0) : s.rawSignal p = ((s.port p).receiver && s.receiverOn p) := by
  simp only [State.rawSignal, h]

theorem rawSignal_above (h : s.eventSignal p = 2) : s.rawSignal p = (s.port p).windowAbove := by
  simp only [State.rawSignal, h]

theorem rawSignal_below (h : s.eventSignal p = 3) : s.rawSignal p = (s.port p).windowBelow := by
  simp only [State.rawSignal, h]

theorem masked_of_seen (h : s.signalSeen p = true) : s.masked p = false := by
  simp only [State.signalSeen, Bool.and_eq_true, Bool.not_eq_true'] at h
  exact h.1

/-- A signal that is not masked reaches the filter of its port. -/
theorem signalMoves_seen (hm : s.mode.working = true) (hs : s.signalSeen p = true) (old : Bool) :
    s.signalMoves p old = s.lineSignal (.port p) (s.rawSignal p) := by
  have masked := masked_of_seen hs
  obtain ⟨⟨present, clamp⟩, -⟩ : (s.parked p = false ∧ (s.port p).owner.kind ≠ .clamp) ∧ _ := by
    simpa [State.masked] using masked
  simp [State.signalMoves, hm, present, clamp, State.followPort, masked, hs, State.portSignal]

/-- A signal that differs arrives at a quiet filter. -/
theorem signalMoves_arrives (hm : s.mode.working = true) (hs : s.signalSeen p = true) (hq : (s.port p).filter.quiet) {level : Bool}
    (hr : s.rawSignal p = level) (hl : level ≠ (s.port p).filter.raw) (old : Bool) : s.signalMoves p old =
      s.setPort p { s.port p with filter := { (s.port p).filter with raw := level, since := s.now } } := by
  rw [signalMoves_seen hm hs, hr]
  exact lineSignal_arrives (l := .port p) hq hl

/-- In park a signal that changes is suppressed and counted (R81). -/
theorem signalMoves_parked {old : Bool} (hm : s.mode.working = true) (hk : s.parked p = true) (hr : s.rawSignal p ≠ old) :
    s.signalMoves p old = (s.setPort p { s.port p with filter :=
      { (s.port p).filter with skipped := (s.port p).filter.skipped + 1 } }).countUp (0x3100 + p) 0x0B := by
  simp [State.signalMoves, hm, hk, hr, State.suppressEdge, State.setFilter, State.filter]

end

theorem countUp_objs_congr {s u : State} (h : u.objs = s.objs) (i j d : Nat) : (u.countUp i j d).objs = (s.countUp i j d).objs := by
  simp only [State.countUp, State.setObj, State.setObjAt, objN_congr h, h]

/-! ## A change at a ball -/

/-- The ball of a port shows new values. -/
def State.atBall (s : State) (p : Nat) (f v i : Int) : State :=
  s.setPort p { s.port p with forceUv := f, senseUv := v, currentPa := i }

/-- The ball shows new values, and the comparators have judged them. -/
def State.ballJudged (s : State) (p : Nat) (f v i : Int) : State := (s.atBall p f v i).recompare p

theorem exec_ball (s : State) (t : Tk) (p : PortNo) (f v i : Int) : exec (.pinSignalChange t (.ball p f v i)) s =
    .next (((s.advance t).ballJudged p f v i).signalMoves p ((s.advance t).rawSignal p)) := rfl

section
variable (s : State) (p : PortNo) (f v i : Int)

theorem cellAlike_atBall : CellAlike p s (s.atBall p f v i) := cellAlike_setPort s rfl rfl rfl rfl

theorem cellAlike_ballJudged : CellAlike p s (s.ballJudged p f v i) := (cellAlike_atBall s p f v i).trans (cellAlike_recompare _ p)

theorem port_atBall : (s.atBall p f v i).port p = { s.port p with forceUv := f, senseUv := v, currentPa := i } := port_setPort s p _

/-- What a change at the ball leaves of its cell: the comparators alone have moved. -/
theorem port_ballJudged : (s.ballJudged p f v i).port p = { s.port p with
    forceUv := f, senseUv := v, currentPa := i, receiver := ((s.ballJudged p f v i).port p).receiver
    windowAbove := ((s.ballJudged p f v i).port p).windowAbove, windowBelow := ((s.ballJudged p f v i).port p).windowBelow } := by
  rw [State.ballJudged, port_recompare, State.compared, port_atBall]

theorem port_ballJudged_other {q : Nat} (h : q ≠ p) : (s.ballJudged p f v i).port q = s.port q :=
  (port_recompare_other _ h).trans (port_setPort_other s _ h)

end

section
variable {s : State} {p : PortNo} {f v i : Int}

/-- The receiver is 1 beyond its threshold and half the hysteresis (R54). -/
theorem receiver_ballJudged (h : (s.receiverBand p).2 < 10 * f) : ((s.ballJudged p f v i).port p).receiver = true := by
  rw [State.ballJudged, port_recompare]
  refine compareBand_above ?_
  rw [(cellAlike_atBall s p f v i).receiverBand, port_atBall]
  exact h

/-- The window comparators on the sense ball (R56). -/
theorem windowInputs_atBall (h : s.cellMeasure p = 1) :
    (s.atBall p f v i).windowInputs p = (v, s.setting p 0x0E, s.setting p 0x0F, 16000) := by
  have alike := cellAlike_atBall s p f v i
  simp [State.windowInputs, alike.cellMeasure, h, alike.setting, port_atBall]

theorem windowAbove_ballJudged (hc : s.cellMeasure p = 1) (h : s.setting p 0x0E < v) :
    ((s.ballJudged p f v i).port p).windowAbove = true := by
  rw [State.ballJudged, port_recompare, State.compared, State.windowNow, windowInputs_atBall hc]
  exact compareBand_above h

theorem windowBelow_ballJudged (hc : s.cellMeasure p = 1) (h : v < s.setting p 0x0F) :
    ((s.ballJudged p f v i).port p).windowBelow = true := by
  rw [State.ballJudged, port_recompare, State.compared, State.windowNow, windowInputs_atBall hc]
  exact compareBand_above (by omega)

/-- The signal of a change at the ball arrives at a quiet filter of level 0 where the event signal takes it. -/
theorem ball_arrives (t : Tk) (hm : s.mode.working = true) (hs : (s.advance t).signalSeen p = true) (hq : (s.port p).filter.quiet)
    (hw : (s.port p).filter.raw = false) (hr : ((s.advance t).ballJudged p f v i).rawSignal p = true) :
    ∃ u, exec (.pinSignalChange t (.ball p f v i)) s = .next u ∧ s.onlyPort u p { s.port p with
      forceUv := f, senseUv := v, currentPa := i
      receiver := (((s.advance t).ballJudged p f v i).port p).receiver
      windowAbove := (((s.advance t).ballJudged p f v i).port p).windowAbove
      windowBelow := (((s.advance t).ballJudged p f v i).port p).windowBelow
      filter := { (s.port p).filter with raw := true, since := max s.now t } } := by
  have alike := cellAlike_ballJudged (s.advance t) p f v i
  have cell := port_ballJudged (s.advance t) p f v i
  have others := fun q => port_ballJudged_other (s.advance t) p f v i (q := q)
  rw [exec_ball]
  generalize (s.advance t).ballJudged p f v i = u at alike cell others hr
  have frame : Changes [.now, .ports] s u := Changes.trans ((changes_advance s t).mono rfl) (alike.frame.mono rfl)
  have mode : u.mode = s.mode := frame .mode rfl
  have now : u.now = max s.now t := alike.frame .now rfl
  have filter : (u.port p).filter = (s.port p).filter := by rw [cell]; rfl
  have receiverAt : (u.port p).receiverAt = (s.port p).receiverAt := by rw [cell]; rfl
  have moves := signalMoves_arrives (level := true) (mode ▸ hm) ((alike.signalSeen receiverAt).trans hs) (filter ▸ hq) hr
    (by rw [filter, hw]; decide) ((s.advance t).rawSignal p)
  rw [moves]
  refine ⟨_, rfl, ?_, fun q hq => (port_setPort_other _ _ hq).trans (others q hq), (changes_setPort _ _ _).step rfl frame⟩
  rw [port_setPort, filter, now]
  exact congrArg (fun c : PortCell => { c with filter := { (s.port p).filter with raw := true, since := max s.now t } }) cell

/-- In park the signal of a change at the ball is suppressed and counted (R81). -/
theorem ball_suppressed (t : Tk) (hm : s.mode.working = true) (hk : (s.advance t).parked p = true)
    (hr : ((s.advance t).ballJudged p f v i).rawSignal p ≠ (s.advance t).rawSignal p) :
    ∃ u, exec (.pinSignalChange t (.ball p f v i)) s = .next u ∧ u.port p = { s.port p with
        forceUv := f, senseUv := v, currentPa := i
        receiver := (((s.advance t).ballJudged p f v i).port p).receiver
        windowAbove := (((s.advance t).ballJudged p f v i).port p).windowAbove
        windowBelow := (((s.advance t).ballJudged p f v i).port p).windowBelow
        filter := { (s.port p).filter with skipped := (s.port p).filter.skipped + 1 } } ∧
      u.objs = (s.setObj (0x3100 + p) 0x0B (addWrap 32 (s.objN (0x3100 + p) 0x0B) 1)).objs ∧
      Changes [.now, .ports, .objs] s u := by
  have alike := cellAlike_ballJudged (s.advance t) p f v i
  have cell := port_ballJudged (s.advance t) p f v i
  rw [exec_ball]
  generalize (s.advance t).ballJudged p f v i = u at alike cell hr
  have frame : Changes [.now, .ports] s u := Changes.trans ((changes_advance s t).mono rfl) (alike.frame.mono rfl)
  have mode : u.mode = s.mode := frame .mode rfl
  have objs : u.objs = s.objs := frame .objs rfl
  have filter : (u.port p).filter = (s.port p).filter := by rw [cell]; rfl
  rw [signalMoves_parked (mode ▸ hm) (alike.parked.trans hk) hr]
  refine ⟨_, rfl, ?_, ?_, (changes_countUp _ _ _ _).step rfl ((changes_setPort _ _ _).step rfl (frame.mono rfl))⟩
  · refine (port_setPort _ _ _).trans ?_
    rw [filter]
    exact congrArg (fun c : PortCell => { c with
      filter := { (s.port p).filter with skipped := (s.port p).filter.skipped + 1 } }) cell
  · exact countUp_objs_congr objs _ _ _

end

/-! ## The restart of a receiver (R55) -/

section
variable {s : State} {p : PortNo} {level : Bool} {e : Tk}

/-- The receiver of a port is valid with a level. -/
def State.receiverSet (s : State) (p : Nat) (level : Bool) : State :=
  s.setPort p { s.port p with receiverAt := none, receiver := level }

theorem receiverValid_early (h : (s.port p).receiverAt = some e) (hn : s.now < e) : s.receiverValid p level = s := by
  simp [State.receiverValid, h, Nat.not_le.mpr hn]

theorem receiverValid_due (h : (s.port p).receiverAt = some e) (hn : e ≤ s.now) : s.receiverValid p level =
    (s.receiverSet p (s.receiverNow p level)).signalMoves p (s.rawSignal p) := by
  simp only [State.receiverValid, h, if_pos hn, State.receiverSet]

theorem port_receiverSet (s : State) (p : Nat) (level : Bool) :
    (s.receiverSet p level).port p = { s.port p with receiverAt := none, receiver := level } := port_setPort s p _

/-- A valid receiver of a port that is not masked is the signal that the filter sees, where the event signal takes it. -/
theorem receiverSet_seen (hk : s.masked p = false) (he : s.eventSignal p = 0) (hr : s.ownerReceives p (s.port p).owner = true) :
    (s.receiverSet p level).signalSeen p = true ∧ (s.receiverSet p level).rawSignal p = level := by
  have alike : CellAlike p s (s.receiverSet p level) := cellAlike_setPort s rfl rfl rfl rfl
  have cell := port_receiverSet s p level
  have receives : (s.receiverSet p level).receiverOn p = true := by
    simp [State.receiverOn, alike.ownerReceives, cell, hr]
  exact ⟨by simp [State.signalSeen, alike.masked, hk, receives], by
    rw [rawSignal_receiver (alike.eventSignal.trans he), receives, cell, Bool.and_true]⟩

/-- A receiver whose restart is over sends its level into the filter. -/
theorem receiverValid_signals (h : (s.port p).receiverAt = some e) (hn : e ≤ s.now) (hm : s.mode.working = true)
    (hk : s.masked p = false) (he : s.eventSignal p = 0) (hr : s.ownerReceives p (s.port p).owner = true) {l : Bool}
    (hl : s.receiverNow p level = l) : s.receiverValid p level = (s.receiverSet p l).lineSignal (.port p) l := by
  obtain ⟨seen, raw⟩ := receiverSet_seen (level := l) hk he hr
  rw [receiverValid_due h hn, hl, signalMoves_seen (s := s.receiverSet p l) hm seen, raw]

/-- A restarted receiver of another level than its filter has gives an edge of that instant. -/
theorem receiver_arrives (t : Tk) (h : (s.port p).receiverAt = some e) (hn : e ≤ max s.now t) (hm : s.mode.working = true)
    (hk : (s.advance t).masked p = false) (hq : (s.port p).filter.quiet) (he : s.eventSignal p = 0)
    (hr : s.ownerReceives p (s.port p).owner = true) {l : Bool} (hl : (s.advance t).receiverNow p level = l)
    (hd : l ≠ (s.port p).filter.raw) :
    ∃ u, exec (.receiverRestartDone t p level) s = .next u ∧ s.onlyPort u p { s.port p with
      receiverAt := none, receiver := l, filter := { (s.port p).filter with raw := l, since := max s.now t } } := by
  have signals := receiverValid_signals (s := s.advance t) h hn hm hk he hr hl
  have cell := port_receiverSet (s.advance t) p l
  have arrives := lineSignal_arrives (s := (s.advance t).receiverSet p l) (l := .port p) (level := l)
    (by simp only [State.filter, cell]; exact hq) (by simp only [State.filter, cell]; exact hd)
  refine ⟨_, congrArg Host.Outcome.next (signals.trans arrives), ?_, fun q hq => ?_, ?_⟩
  · simp only [State.setFilter, State.filter, port_setPort, cell]
    rfl
  · exact (port_setPort_other _ _ hq).trans (port_setPort_other _ _ hq)
  · exact (changes_setPort _ _ _).step rfl ((changes_setPort _ _ _).step rfl ((changes_advance s t).mono rfl))

/-- A restarted receiver of the level that its filter has gives no edge. -/
theorem receiver_same (t : Tk) (h : (s.port p).receiverAt = some e) (hn : e ≤ max s.now t) (hm : s.mode.working = true)
    (hk : (s.advance t).masked p = false) (hq : (s.port p).filter.quiet) (he : s.eventSignal p = 0)
    (hr : s.ownerReceives p (s.port p).owner = true) {l : Bool} (hl : (s.advance t).receiverNow p level = l)
    (hd : l = (s.port p).filter.raw) :
    ∃ u, exec (.receiverRestartDone t p level) s = .next u ∧
      s.onlyPort u p { s.port p with receiverAt := none, receiver := l } := by
  have signals := receiverValid_signals (s := s.advance t) h hn hm hk he hr hl
  have cell := port_receiverSet (s.advance t) p l
  have same := lineSignal_same (s := (s.advance t).receiverSet p l) (l := .port p) (level := l)
    (by simp only [State.filter, cell]; exact hq) (by simp only [State.filter, cell]; exact hd)
  exact ⟨_, congrArg Host.Outcome.next (signals.trans same), cell, fun q hq => port_setPort_other _ _ hq,
    (changes_setPort _ _ _).step rfl ((changes_advance s t).mono rfl)⟩

end

/-! ## A change at a pad (R98) -/

section
variable {s : State} {n : PinNo} {level : Bool}

/-- The outside holds a level at the pad of a pin. -/
def State.padHeld (s : State) (n : Nat) (level : Bool) : State := s.setPin n { s.pin n with outside := some level }

theorem pinDrives_setPin {s : State} {n : Nat} {c : PinCell} (hd : c.fabricD = (s.pin n).fabricD)
    (ho : c.fabricOE = (s.pin n).fabricOE) (hf : c.frozen = (s.pin n).frozen) : (s.setPin n c).pinDrives n = s.pinDrives n := by
  have function : (s.setPin n c).pinFunction n = s.pinFunction n := rfl
  have inverts : (s.setPin n c).pinInverts n = s.pinInverts n := rfl
  have syncs : (s.setPin n c).syncs = s.syncs := rfl
  simp only [State.pinDrives, function, inverts, syncs, pin_setPin, hd, ho, hf, setPin_power, setPin_mode, setPin_timebase,
    objN_setPin, trigOut_setPin]

/-- An input that is not inverted, and whose pad the outside holds, sends that level into its filter. -/
theorem pinSignal_input (hv : s.power.vio.isSome = true) (hf : s.pinFunction n = 1) (hi : s.pinInverts n = false)
    (ho : (s.pin n).outside = some level) : s.pinSignal n = level := by
  have vio : s.power.vio.isNone = false := by simpa using hv
  simp [State.pinSignal, isInputFunction, hf, State.inputLevel, hi, State.padLevel, vio, ho]

/-- The filter of an input follows its pad, which nothing opposes. -/
theorem followPin_input (hv : s.power.vio.isSome = true) (hf : s.pinFunction n = 1) (hi : s.pinInverts n = false)
    (hd : s.pinDrives n = none) (ho : (s.pin n).outside = some level) : s.followPin n =
      (s.setPin n { s.pin n with opposedSince := none, contention := false, lowSince := none }).lineSignal (.pin n) level := by
  have unopposed : s.opposed n = false := by simp [State.opposed, hd]
  have signal := pinSignal_input
    (s := s.setPin n { s.pin n with opposedSince := none, contention := false, lowSince := none })
      hv hf hi (by rw [pin_setPin]; exact ho)
  have function : (s.setPin n { s.pin n with opposedSince := none, contention := false, lowSince := none }).pinFunction n = 1 := hf
  have vio : s.power.vio.isNone = false := by simpa using hv
  simp [State.followPin, unopposed, hf, function, vio, signal]

/-- Another level at the pad of an input arrives at its quiet filter now. -/
theorem pad_arrives (t : Tk) (hv : s.power.vio.isSome = true) (hf : s.pinFunction n = 1) (hi : s.pinInverts n = false)
    (hd : s.pinDrives n = none) (hq : (s.pin n).filter.quiet) (hl : level ≠ (s.pin n).filter.raw) :
    ∃ u, exec (.pinSignalChange t (.pad n (some level))) s = .next u ∧ s.onlyPin u n { s.pin n with
      outside := some level, opposedSince := none, contention := false, lowSince := none,
      filter := { (s.pin n).filter with raw := level, since := max s.now t } } := by
  have pin : ((s.advance t).padHeld n level).pin n = { s.pin n with outside := some level } := pin_setPin _ _ _
  have drives : ((s.advance t).padHeld n level).pinDrives n = none := 
    (pinDrives_setPin (s := s.advance t) (c := { s.pin n with outside := some level }) rfl rfl rfl).trans hd
  have follows := followPin_input (s := (s.advance t).padHeld n level) (level := level) hv hf hi drives (by rw [pin])
  have arrives := lineSignal_arrives (l := .pin n) (level := level) (s := ((s.advance t).padHeld n level).setPin n
    { s.pin n with outside := some level, opposedSince := none, contention := false, lowSince := none })
    (by simp only [State.filter, pin_setPin]; exact hq) (by simp only [State.filter, pin_setPin]; exact hl)
  rw [pin] at follows
  refine ⟨_, congrArg Host.Outcome.next (follows.trans arrives), ?_, fun q hq => ?_, ?_⟩
  · simp only [State.setFilter, State.filter, pin_setPin]
    rfl
  · simp only [State.setFilter, pin_setPin_other _ _ hq, State.padHeld]
    rfl
  · exact (changes_setPin _ _ _).step rfl ((changes_setPin _ _ _).step rfl ((changes_setPin _ _ _).step rfl
      ((changes_advance s t).mono rfl)))

end

end Sys2Proof.Machine

open Sys2Proof Sys2Proof.Machine

/-- Settles O10: a change at a ball or pad, and a restarted receiver, by the arrival at a quiet filter; the filter by its steps. -/
theorem signalsPassTheFilters : Obligations.SignalsPassTheFilters := by
  unfold Obligations.SignalsPassTheFilters
  refine ⟨⟨?_, ?_, ?_, ?_, ?_⟩, ⟨?_, ?_, ?_⟩, ?_, ?_, ?_⟩
  -- balls and pads
  · intro s t p f v i hm hs hq he hr hw hb
    have alike := cellAlike_ballJudged (s.advance t) p f v i
    have receiver := receiver_ballJudged (v := v) (i := i) hb
    have on : ((s.advance t).ballJudged p f v i).receiverOn p = true :=
      (alike.receiverOn (by rw [port_ballJudged])).trans hr
    obtain ⟨u, run, cell, rest⟩ := ball_arrives t hm hs hq hw
      (by rw [rawSignal_receiver (alike.eventSignal.trans he), receiver, on]; rfl)
    exact ⟨u, run, by rw [cell, receiver], rest⟩
  · intro s t p f v i hm hs hq he hc hw hb
    have alike := cellAlike_ballJudged (s.advance t) p f v i
    have above := windowAbove_ballJudged (s := s.advance t) (p := p) (f := f) (i := i) hc hb
    obtain ⟨u, run, cell, rest⟩ := ball_arrives t hm hs hq hw (by rw [rawSignal_above (alike.eventSignal.trans he), above])
    exact ⟨u, run, by rw [cell, above], rest⟩
  · intro s t p f v i hm hs hq he hc hw hb
    have alike := cellAlike_ballJudged (s.advance t) p f v i
    have below := windowBelow_ballJudged (s := s.advance t) (p := p) (f := f) (i := i) hc hb
    obtain ⟨u, run, cell, rest⟩ := ball_arrives t hm hs hq hw (by rw [rawSignal_below (alike.eventSignal.trans he), below])
    exact ⟨u, run, by rw [cell, below], rest⟩
  · intro s t n level hv hf hi hd hq hl
    exact pad_arrives t hv hf hi hd hq hl
  · intro s t p f v i hm hk he hc hw hb
    have alike := cellAlike_ballJudged (s.advance t) p f v i
    have above := windowAbove_ballJudged (s := s.advance t) (p := p) (f := f) (i := i) hc hb
    have old : (s.advance t).rawSignal p = false := (rawSignal_above (s := s.advance t) he).trans hw
    obtain ⟨u, run, cell, rest⟩ := ball_suppressed t hm hk
      (by rw [rawSignal_above (alike.eventSignal.trans he), above, old]; decide)
    exact ⟨u, run, by rw [cell, above], rest⟩
  -- the restart of a receiver
  · intro s t p level e l h hn hm hk hq he hr hl hd
    exact receiver_arrives t h hn hm hk hq he hr hl hd
  · intro s t p level e l h hn hm hk hq he hr hl hd
    exact receiver_same t h hn hm hk hq he hr hl hd
  · intro s t p level e h hn
    exact congrArg Host.Outcome.next (receiverValid_early (s := s.advance t) h hn)
  -- the filter
  · intro s t l hw hr hd hg hl hn
    rw [← filter_advance s t] at hr hd hg hl hn ⊢
    obtain ⟨k, filter⟩ := filter_acceptLevel hr hd hg hl hn
    have frame := (spares_acceptLevel (s.advance t) l).changes
    exact ⟨_, congrArg Host.Outcome.next (if_pos hw), congrArg Filter.level filter, congrArg Filter.glitch filter,
      congrArg Filter.lastEdge filter, congrArg Filter.debounce filter,
      Changes.trans ((changes_advance s t).mono rfl) (frame.mono rfl)⟩
  · intro s t l e hw hd hn hg
    rw [← filter_advance s t] at hd hg ⊢
    exact congrArg Host.Outcome.next ((if_pos hw).trans (endDebounce_same hd hn hg))
  · intro s t l hw hr hraw hn hs
    rw [← filter_advance s t] at hr hraw hn ⊢
    exact congrArg Host.Outcome.next ((if_pos hw).trans (defineLevel_low hr hraw hn hs))
end

section
/-!
SUPPORT. A change of owner (R76, R78, R81, R83): the park that it begins, and what the port shows once that park is over.
-/

namespace Sys2Proof.Machine

/-! ## The end of a park (R83, R89) -/

/-- The port has left the park `k`: its new owner shows. -/
structure State.LeftPark (s : State) (p : Nat) (k : Park) : Prop where
  owner : (s.port p).owner = k.target
  park : (s.port p).park = none
  exit : (s.port p).lastParkExit = k.exit
  range : (s.port p).rangeEnd = none

section
variable {s u : State} {p : Nat} {k : Park}

/-- What comparators, filter and marks do leaves the new owner. -/
theorem State.LeftPark.follows (h : s.LeftPark p k) (f : Follows p s u) : u.LeftPark p k := by
  obtain ⟨owner, park, exit, range⟩ := h
  obtain ⟨_, _, _, _, _, cell⟩ := f.cell
  exact ⟨by rw [cell]; exact owner, by rw [cell]; exact park, by rw [cell]; exact exit, by rw [cell]; exact range⟩

/-- What the new owner forces or drives settles. -/
theorem State.LeftPark.settle (h : s.LeftPark p k) (at' time : Nat) : (s.settle p at' time).LeftPark p k := by
  obtain ⟨owner, park, exit, range⟩ := h
  have cell : (s.settle p at' time).port p = (s.port p).settles at' time := port_setPort s p _
  exact ⟨by rw [cell]; exact owner, by rw [cell]; exact park, by rw [cell]; exact exit, by rw [cell]; exact range⟩

theorem State.LeftPark.ite {c : Prop} [Decidable c] {v : State} (hu : u.LeftPark p k) (hv : v.LeftPark p k) :
    (if c then u else v).LeftPark p k := by
  split
  · exact hu
  · exact hv

theorem leftPark_parkEnds (s : State) (p : Nat) (k : Park) : (s.parkEnds p k).LeftPark p k := by
  unfold State.parkEnds
  extract_lets c t bus
  exact ⟨by rw [port_setPort], by rw [port_setPort], by rw [port_setPort], by rw [port_setPort]⟩

theorem changes_parkEnds (s : State) (p : Nat) (k : Park) : Changes [.ports] s (s.parkEnds p k) :=
  (changes_setPort _ p _).step rfl (.ite (.refl _ s) (.ite (.refl _ s) (changes_setPort s p _)))

/-- A record of the change of owner (R90). -/
theorem spares_captureOwner (s : State) (p : Nat) (k : Park) : Spares entryParts s (s.captureOwner p k) :=
  .ite (.refl _ s) (spares_blockEntryTo s _ _)

theorem happensOnly_captureOwner (s : State) (p : Nat) (k : Park) : HappensOnly s (s.captureOwner p k) :=
  .ite (.refl s) (happensOnly_blockEntryTo s _ _)

theorem follows_captureOwner (s : State) (p : Nat) (k : Park) : Follows p s (s.captureOwner p k) :=
  .of_ports ((spares_captureOwner s p k).changes .ports rfl) (happensOnly_captureOwner s p k)

end

/-- What the new owner of a port forces or drives settles from the exit of the park on. -/
def State.ownerSettles (s : State) (p : Nat) (k : Park) : State :=
  if s.ownerForces p k.target then s.settle p k.exit (s.forceSettling p k.target)
  else if s.ownerDrives p k.target then s.settle p k.exit 12000
  else s

/-- The state in which a port has left its park: its owner shows, its change is recorded, and its filter starts again. -/
def State.ownerShows (s : State) (p : PortNo) (k : Park) : State :=
  let s := ((s.parkEnds p k).captureOwner p k).recompare p
  s.restartFilter (.port p) (s.portSignal p) true

theorem leavePark_of_due {s : State} {p : PortNo} {k : Park} (h : (s.port p).park = some k) (hn : k.exit ≤ s.now) :
    s.leavePark p = ((s.ownerShows p k).ownerSettles p k).noteMark p := by
  simp only [State.leavePark, h]
  exact if_neg (Nat.not_lt.mpr hn)

section
variable (s : State) (p : PortNo) (k : Park)

theorem ownerShows_facts : Changes (.ports :: entryParts) s (s.ownerShows p k) ∧ (s.ownerShows p k).LeftPark p k := by
  unfold State.ownerShows
  extract_lets u
  have frame : Changes (.ports :: entryParts) s u := (spares_recompare _ p).changes.step rfl
    ((spares_captureOwner _ p k).changes.step rfl ((changes_parkEnds s p k).mono rfl))
  have left : u.LeftPark p k :=
    ((leftPark_parkEnds s p k).follows (follows_captureOwner _ p k)).follows (follows_recompare _ p)
  exact ⟨(changes_setPort u p _).step rfl frame, left.follows (follows_setFilter u p _)⟩

theorem ownerSettles_facts (h : s.LeftPark p k) :
    Changes [.ports] s (s.ownerSettles p k) ∧ (s.ownerSettles p k).LeftPark p k :=
  have settle := fun time => changes_settle s p k.exit time
  ⟨.ite (settle _) (.ite (settle _) (.refl _ s)), .ite (h.settle _ _) (.ite (h.settle _ _) h)⟩

end

/-- A park that is over leaves its port to the new owner, whose record may be written and whose output settles. -/
theorem leavePark_facts {s : State} {p : PortNo} {k : Park} (h : (s.port p).park = some k) (hn : k.exit ≤ s.now) :
    Changes (.ports :: entryParts) s (s.leavePark p) ∧ (s.leavePark p).LeftPark p k := by
  rw [leavePark_of_due h hn]
  obtain ⟨shows, shown⟩ := ownerShows_facts s p k
  obtain ⟨settles, left⟩ := ownerSettles_facts _ p k shown
  exact ⟨(spares_noteMark _ p).changes.step rfl (settles.step rfl shows), left.follows (follows_noteMark _ p)⟩

/-- A cycle that is not being released goes on, whatever port leaves park (R26). -/
theorem unbindSettles_of_kept {s : State} (h : s.cycle.releasing = false) : s.unbindSettles = s := by
  unfold State.unbindSettles
  simp [h]

/-- PARK_EXIT while the cycle is not being released. -/
theorem exec_parkExit {s : State} (t : Tk) (p : PortNo) {k : Park} (h : (s.port p).park = some k)
    (hr : s.cycle.releasing = false) (hn : k.exit ≤ max s.now t) :
    exec (.parkExit t p) s = .next ((s.advance t).leavePark p) := by
  obtain ⟨frame, -⟩ := leavePark_facts (s := s.advance t) h hn
  have kept : ((s.advance t).leavePark p).cycle = s.cycle := frame .cycle rfl
  have settles : ((s.advance t).leavePark p).unbindSettles = (s.advance t).leavePark p :=
    unbindSettles_of_kept (by rw [kept]; exact hr)
  exact congrArg Host.Outcome.next settles

/-! ## The begin of a park (R81, R83) -/

/-- The park into which a port goes 0.1 us from now. -/
def State.parkTo (s : State) (p : Nat) (new : Owner) (cause : OwnerCause) : Park where
  entry := s.now + 400
  exit := s.now + 400 + s.parkLength p new
  oldOwner := (s.port p).owner
  target := new
  cause := cause
  retargeted := false
  hold := clampInt (-5000000) 26000000 (Config.ballVoltage s.fresh)
  bus := s.keptBus p new

section
variable (s : State) (p : Nat) (new : Owner) (cause : OwnerCause)

/-- A port whose park has begun. -/
def State.parkBegun : State :=
  s.setPort p { s.port p with park := some (s.parkTo p new cause), schedule := [], lastScheduled := none }

theorem startPark_eq : s.startPark p new cause =
    (((s.parkBegun p new cause).noteMark p).nextFresh.countUp (0x3100 + p) 5).setObj (0x3100 + p) 6 (s.now + 400 : Nat) := rfl

theorem port_startPark (q : Nat) : (s.startPark p new cause).port q = ((s.parkBegun p new cause).noteMark p).port q := by
  simp only [startPark_eq, port_setObj, port_countUp, port_nextFresh]

/-- The port keeps its owner when a park begins, and no other cell changes. -/
theorem startPark_cells : ((s.startPark p new cause).port p).park = some (s.parkTo p new cause) ∧
    ((s.startPark p new cause).port p).owner = (s.port p).owner ∧
    ∀ q, q ≠ p → (s.startPark p new cause).port q = s.port q := by
  obtain ⟨⟨_, _, _, _, _, cell⟩, others, -⟩ := follows_noteMark (s.parkBegun p new cause) p
  simp only [port_startPark, cell]
  exact ⟨by simp only [State.parkBegun, port_setPort], by simp only [State.parkBegun, port_setPort],
    fun q hq => (others q hq).trans (port_setPort_other s _ hq)⟩

end

section
variable {s : State} {p : Nat} (cause : OwnerCause)

theorem settleOwner_of_wanted (hk : (s.port p).park = none) (h : (s.port p).owner = s.wantedOwner p) :
    s.settleOwner cause p = s := by
  simp only [State.settleOwner, hk]
  exact if_pos h

theorem settleOwner_of_other (hk : (s.port p).park = none) (h : (s.port p).owner ≠ s.wantedOwner p) :
    s.settleOwner cause p = s.startPark p (s.wantedOwner p) cause := by
  simp only [State.settleOwner, hk]
  exact if_neg h

end

end Sys2Proof.Machine

open Sys2Proof Sys2Proof.Machine

/-- Settles O16: the end of a park by what each of its steps leaves of the cell; its begin by the park that the change of owner
enters there. -/
theorem portsChangeOwnersThroughPark : Obligations.PortsChangeOwnersThroughPark := by
  unfold Obligations.PortsChangeOwnersThroughPark
  refine ⟨?_, ?_, ?_⟩
  · intro s t p k h hn hr
    obtain ⟨frame, owner, park, exit, range⟩ := leavePark_facts (s := s.advance t) h hn
    exact ⟨_, exec_parkExit t p h hr hn, owner, park, exit, range,
      Changes.trans ((changes_advance s t).mono rfl) (frame.mono rfl)⟩
  · intro s cause p hk h
    obtain ⟨park, owner, others⟩ := startPark_cells s p (s.wantedOwner p) cause
    rw [settleOwner_of_other cause hk h]
    exact ⟨_, park, rfl, rfl, rfl, rfl, rfl, owner, others, by rw [startPark_eq, obj_setObj],
      (spares_startPark s p _ cause).changes⟩
  · intro s cause p hk h
    exact settleOwner_of_wanted cause hk h
end

section
/-!
SUPPORT. Service pins and the test-access port (R94, R98, R100, R336, R538): what a write of a pin's function leaves, and the
register that an instruction of the test-access port selects.
-/

namespace Sys2Proof.Machine

/-! ## The function of a pin (R94, R98, R336) -/

section
variable (s : State) (n : PinNo)

theorem pinFunction_heard (t : Tk) (a : Accessor) : (s.heard t a).pinFunction n = s.pinFunction n := by
  simp only [State.pinFunction, heard_mode, objN_heard]

theorem changes_takesSync (old : Nat) (f : Int) : Changes [.timebase] s (s.takesSync old n f) :=
  .ite ((changes_iff _ _ _).mpr rfl) (.refl _ s)

theorem changes_startSensing : Changes [.pins] s (s.startSensing n) := changes_setPin s n _

/-- A function that the pin allows is stored, with the SYNC edges past skipped. -/
def State.takesFunction (v : Int) : State := (s.setObj (0x3700 + n) 1 v).takesSync (s.pinFunction n) n v

theorem changes_takesFunction (v : Int) : Changes lineParts s (s.takesFunction n v) :=
  (changes_takesSync _ n _ v).step rfl ((changes_setObj s _ 1 v).mono rfl)

/-- The write of a function tests for the SYNC output (R336) by Booleans. -/
theorem takesSync_eq (old : Nat) (v : Int) : s.takesSync old n v =
    if (n == 12 && v == 0x21 && old != 0x21) = true then s.syncSkips else s := by
  have named : (n : Nat) = 12 ↔ n = 12 := (Fin.ext_iff (a := n) (b := 12)).symm
  simp [State.takesSync, named, and_assoc]

end

section
variable {s : State} {n : PinNo} {v : Int}

theorem pinWrite_follows (h : pinAllows n v.toNat = true) (hs : s.pinFunction n ≠ 0 ∨ v = 0) :
    s.pinWrite n 1 v = .ok ((s.takesFunction n v).followPin n) := by
  have senses : ¬ (s.pinFunction n = 0 ∧ v ≠ 0) := by
    rintro ⟨none, some⟩
    exact hs.elim (· none) some
  simp [State.pinWrite, h, State.takesFunction, takesSync_eq, senses]

theorem pinWrite_senses (h : pinAllows n v.toNat = true) (ho : s.pinFunction n = 0) (hv : v ≠ 0) :
    s.pinWrite n 1 v = .ok (((s.takesFunction n v).startSensing n).followPin n) := by
  simp [State.pinWrite, h, State.takesFunction, takesSync_eq, ho, hv]

theorem pinWrite_refuses (h : pinAllows n v.toNat = false) : s.pinWrite n 1 v = refuse 0x06090030 := by
  simp only [State.pinWrite, h]
  rfl

end

/-! ## The write as a command -/

section
variable {s : State} {t : Tk} {a : Accessor} {n : PinNo} {v : Nat} {c : Card}

/-- A function that the pin allows is stored, and the pin follows it. -/
theorem exec_pinFunction_follows (h : TakesWrite s t a (0x3700 + n) 1 (natLe 1 v) c)
    (ha : pinAllows n (c.written (natLe 1 v)).toNat = true) (hs : s.pinFunction n ≠ 0 ∨ c.written (natLe 1 v) = 0) :
    exec (.servicePinFunctionWrite t a n v) s = .next ((s.heard t a).answered
      (((s.heard t a).takesFunction n (c.written (natLe 1 v))).followPin n)) :=
  have frame : Changes lineParts (s.heard t a) (((s.heard t a).takesFunction n (c.written (natLe 1 v))).followPin n) :=
    (spares_followPin _ n).changes.step rfl (changes_takesFunction _ n _)
  write_completes h (k := fun s x => s.pinWrite n 1 x) (pinWrite_follows ha (by rwa [pinFunction_heard]))
    (owes_of_changes frame rfl rfl)

/-- A pin that had no function begins to sense. -/
theorem exec_pinFunction_senses (h : TakesWrite s t a (0x3700 + n) 1 (natLe 1 v) c)
    (ha : pinAllows n (c.written (natLe 1 v)).toNat = true) (ho : s.pinFunction n = 0) (hv : c.written (natLe 1 v) ≠ 0) :
    exec (.servicePinFunctionWrite t a n v) s = .next ((s.heard t a).answered
      ((((s.heard t a).takesFunction n (c.written (natLe 1 v))).startSensing n).followPin n)) :=
  have frame : Changes lineParts (s.heard t a)
      ((((s.heard t a).takesFunction n (c.written (natLe 1 v))).startSensing n).followPin n) :=
    (spares_followPin _ n).changes.step rfl ((changes_startSensing _ n).step rfl (changes_takesFunction _ n _))
  write_completes h (k := fun s x => s.pinWrite n 1 x) (pinWrite_senses ha (by rwa [pinFunction_heard]) hv)
    (owes_of_changes frame rfl rfl)

end

/-! ## Contention and the test-access port (R100, R538) -/

theorem contends_of_due {s : State} {n : Nat} {t0 : Tk} (h : (s.pin n).opposedSince = some t0) (hn : t0 + 4000 ≤ s.now) :
    s.contends n = s.setPin n { s.pin n with contention := true } := by
  simp only [State.contends, h, if_pos hn]

/-- The test-access port has selected a register. -/
def State.tapSelects (s : State) (code : Nat) : State := { s with power := { s.power with tap := code } }

theorem tapTakesCode_idcode (s : State) : s.tapTakesCode tapIdcode = (s.tapSelects 1).send (.tap 0x27256A7F) := rfl

theorem tapTakesCode_silent {s : State} {code : Nat} (he : code ≠ tapExtest) (hi : code ≠ tapIdcode) :
    s.tapTakesCode code = s.tapSelects code := by
  simp [State.tapTakesCode, State.tapSelects, he, hi]

/-- EXTEST acts only while RSTN is low. -/
theorem tapTakesCode_extest (s : State) : s.tapTakesCode tapExtest = s.tapSelects (if s.power.rstnLow then 3 else 0) := by
  unfold State.tapTakesCode
  cases s.power.rstnLow <;> rfl

end Sys2Proof.Machine

open Sys2Proof Sys2Proof.Machine

/-- Settles O58: a write of a pin's function by whether the pin had one; each instruction of the test-access port by the register
that it selects. -/
theorem pinsAndTestAccessPort : Obligations.PinsAndTestAccessPort := by
  unfold Obligations.PinsAndTestAccessPort
  refine ⟨⟨?_, ?_, ?_, ?_⟩, ?_⟩
  · intro s t a n v c f h hv ha hs
    subst hv
    refine (exec_pinFunction_follows h ha hs).trans ?_
    rw [State.takesFunction, pinFunction_heard]
  · intro s t a n v c f h hv ha ho hf
    subst hv
    refine (exec_pinFunction_senses h ha ho hf).trans ?_
    rw [State.takesFunction, pinFunction_heard, ho]
  · intro s t a n v c h ha
    exact write_refuses h (k := fun s x => s.pinWrite n 1 x) (pinWrite_refuses ha)
  · intro s t n t0 h hn
    exact congrArg Host.Outcome.next (contends_of_due (s := s.advance t) h hn)
  · intro s t
    have silent := fun code he hi => tapTakesCode_silent (s := s.advance t) (code := code) he hi
    exact ⟨congrArg Host.Outcome.next (silent tapBypass (by decide) (by decide)),
      congrArg Host.Outcome.next (tapTakesCode_idcode (s.advance t)),
      congrArg Host.Outcome.next (silent tapSample (by decide) (by decide)),
      congrArg Host.Outcome.next (tapTakesCode_extest (s.advance t))⟩
end

section
/-!
SUPPORT. Protocol engines that own a port (R77, R225 to R228, R230): what a write of their enable does, and what they receive with
no exchange on them and no result queue.
-/

namespace Sys2Proof.Machine

/-! ## Enables (R77) -/

theorem exec_enableOf (s : State) (t : Tk) (a : Accessor) (v : Nat) (k : Fin 3) (n : Fin 8) :
    exec (enableOf t a v (k, n)) s = s.requestValue t a (0x3610 + 8 * k + n) 1 (natLe 1 v) fun s x =>
      s.engineEnables (s.sessionOf a) (0x3610 + 8 * k + n) x.toNat := by
  match k with
  | 0 => rfl
  | 1 => rfl
  | 2 => rfl

section
variable {s : State} {who idx : Nat}

theorem engineEnables_takes (h : s.objN idx 1 = 0) (hc : s.claimAbort who clsPort (s.objN idx 2) = none)
    (he : s.engineConflict idx (s.objN idx 2) = false) :
    s.engineEnables who idx 1 = .ok ((s.setObj idx 1 1).settleOwners .enable) := by
  simp only [State.engineEnables, h, hc, he]
  rfl

theorem engineEnables_conflicts (h : s.objN idx 1 = 0) (hc : s.claimAbort who clsPort (s.objN idx 2) = none)
    (he : s.engineConflict idx (s.objN idx 2) = true) : s.engineEnables who idx 1 = refuse 0x0F010303 := by
  simp only [State.engineEnables, h, hc, he]
  rfl

/-- A LIN engine forgets the header that it has heard. -/
def State.engineClears (s : State) (k : Fin 3) (n : Fin 8) : State := if k = 0 then s.setLin n {} else s

theorem requestGone_of_open {step : Option Nat} (h : ∀ j, step = some j → (s.step j).ending = none) : s.requestGone step = s := by
  cases step with
  | none => rfl
  | some j => simp only [State.requestGone, h j rfl]

/-- The write of a disable clears the LIN engines, which stand first among those that own a port, and no other. -/
theorem engineClears_eq {k : Fin 3} {n : Fin 8} (he : idx = 0x3610 + 8 * k + n)
    (hs : ∀ x j, k = 0 → (s.lin n).header = some x → x.step = some j → (s.step j).ending = none) :
    (if idx ≤ 0x3617 then
      (s.setLin (idx - 0x3610) {}).requestGone ((s.lin (idx - 0x3610)).header.bind (·.step)) else s) = s.engineClears k n := by
  have lins : idx ≤ 0x3617 ↔ k = 0 := by omega
  unfold State.engineClears
  by_cases hk : k = 0
  · have here : idx - 0x3610 = n := by omega
    have unended : ∀ j, (s.lin n).header.bind (·.step) = some j → ((s.setLin n {}).step j).ending = none := by
      intro j hj
      obtain ⟨x, hx, hj⟩ := Option.bind_eq_some_iff.mp hj
      rw [step_setLin]
      exact hs x j hk hx hj
    rw [if_pos (lins.mpr hk), if_pos hk, here, requestGone_of_open unended]
  · rw [if_neg (hk ∘ lins.mp), if_neg hk]

theorem engineEnables_lets {k : Fin 3} {n : Fin 8} (h : s.objN (0x3610 + 8 * k + n) 1 = 1)
    (hs : ∀ x j, k = 0 → (s.lin n).header = some x → x.step = some j → (s.step j).ending = none) :
    s.engineEnables who (0x3610 + 8 * k + n) 0 =
      .ok (((s.engineClears k n).setObj (0x3610 + 8 * k + n) 1 0).settleOwners .disable) := by
  simp only [State.engineEnables, h, engineClears_eq rfl hs]
  rfl

end

section
variable {s : State} {t : Tk} {a : Accessor} {k : Fin 3} {n : Fin 8} {c : Card}

theorem engineConflict_heard (idx p : Nat) : (s.heard t a).engineConflict idx p = s.engineConflict idx p := by
  simp only [State.engineConflict, objN_heard]

theorem changes_engineClears (s : State) (k : Fin 3) (n : Fin 8) : Changes [.lins] s (s.engineClears k n) :=
  .ite ((changes_iff _ _ _).mpr rfl) (.refl _ s)

/-- A port that the session holds, and no other engine, is taken. -/
theorem exec_engine_takes (h : TakesWrite s t a (0x3610 + 8 * k + n) 1 (natLe 1 1) c) (hv : c.written (natLe 1 1) = 1)
    (ho : s.objN (0x3610 + 8 * k + n) 1 = 0)
    (hc : (s.heard t a).claimAbort (s.sessionOf a) clsPort (s.objN (0x3610 + 8 * k + n) 2) = none)
    (he : s.engineConflict (0x3610 + 8 * k + n) (s.objN (0x3610 + 8 * k + n) 2) = false) :
    exec (enableOf t a 1 (k, n)) s = .next ((s.heard t a).answered
      (((s.heard t a).setObj (0x3610 + 8 * k + n) 1 1).settleOwners .enable)) := by
  have takes := engineEnables_takes (s := s.heard t a) (who := s.sessionOf a) (idx := 0x3610 + 8 * k + n)
    (by rwa [objN_heard]) (by rwa [objN_heard]) (by rwa [objN_heard, engineConflict_heard])
  have frame := (spares_settleOwners ((s.heard t a).setObj (0x3610 + 8 * k + n) 1 1) .enable).changes.step
    (l := [.objs, .ports, .fresh]) rfl
    ((changes_setObj (s.heard t a) (0x3610 + 8 * k + n) 1 1).mono rfl)
  rw [exec_enableOf]
  exact write_completes h (by rw [sessionOf_heard, hv]; exact takes) (owes_of_changes frame rfl rfl)

/-- A port that another enabled engine has is not taken. -/
theorem exec_engine_conflicts (h : TakesWrite s t a (0x3610 + 8 * k + n) 1 (natLe 1 1) c) (hv : c.written (natLe 1 1) = 1)
    (ho : s.objN (0x3610 + 8 * k + n) 1 = 0)
    (hc : (s.heard t a).claimAbort (s.sessionOf a) clsPort (s.objN (0x3610 + 8 * k + n) 2) = none)
    (he : s.engineConflict (0x3610 + 8 * k + n) (s.objN (0x3610 + 8 * k + n) 2) = true) :
    exec (enableOf t a 1 (k, n)) s = .next ((s.heard t a).refusedWith 0x0F010303) := by
  have conflicts := engineEnables_conflicts (s := s.heard t a) (who := s.sessionOf a) (idx := 0x3610 + 8 * k + n)
    (by rwa [objN_heard]) (by rwa [objN_heard]) (by rwa [objN_heard, engineConflict_heard])
  rw [exec_enableOf]
  exact write_refuses h (by rw [sessionOf_heard, hv]; exact conflicts)

/-- An engine that is disabled lets its port go. -/
theorem exec_engine_lets (h : TakesWrite s t a (0x3610 + 8 * k + n) 1 (natLe 1 0) c) (hv : c.written (natLe 1 0) = 0)
    (ho : s.objN (0x3610 + 8 * k + n) 1 = 1)
    (hs : ∀ x j, k = 0 → (s.lin n).header = some x → x.step = some j → (s.step j).ending = none) :
    exec (enableOf t a 0 (k, n)) s = .next ((s.heard t a).answered
      ((((s.heard t a).engineClears k n).setObj (0x3610 + 8 * k + n) 1 0).settleOwners .disable)) := by
  have lets := engineEnables_lets (s := s.heard t a) (who := s.sessionOf a) (k := k) (n := n) (by rwa [objN_heard])
    (by simpa only [lin_heard, step_heard] using hs)
  have frame := (spares_settleOwners (((s.heard t a).engineClears k n).setObj (0x3610 + 8 * k + n) 1 0) .disable).changes.step
    (l := [.objs, .ports, .lins, .fresh]) rfl
    ((changes_setObj _ (0x3610 + 8 * k + n) 1 0).step rfl ((changes_engineClears (s.heard t a) k n).mono rfl))
  rw [exec_enableOf]
  exact write_completes h (by rw [sessionOf_heard, hv]; exact lets) (owes_of_changes frame rfl rfl)

end

/-! ## What engines have in common when they receive (R230, R231) -/

/-- The event select of a block is read alike in states that have its object. -/
theorem unselected_of_obj {s u : State} {idx sel bit : Nat} (h : u.obj idx sel = s.obj idx sel) (hs : s.unselected idx sel bit) :
    u.unselected idx sel bit :=
  ⟨hs.1, by rw [State.objN, h]; exact hs.2⟩

theorem blockEntryTo_of_none {s : State} {q : Nat} (e : NewEntry) (h : q = 0xFFFFFFFF) : s.blockEntryTo q e = s := if_pos h

theorem saturate16_of_below {s : State} {idx sub lo : Nat} (h : fieldOf (s.objN idx sub) lo 16 ≠ 65535) :
    s.saturate16 idx sub lo = s.setObj idx sub (s.objN idx sub + 2 ^ lo : Nat) := if_neg h

theorem exchanges_of_none {s : State} (h : s.inFlightSteps = []) (cls e : Nat) : s.exchanges cls e = [] := by
  simp only [State.exchanges, h]
  rfl

/-- A cause in a block changes the objects by what they are alone. -/
theorem caused_objs_congr {s u : State} (h : u.objs = s.objs) (idx cau bit : Nat) :
    (u.caused idx cau bit).objs = (s.caused idx cau bit).objs := by
  simp only [State.caused, State.setObj, State.setObjAt, objN_congr h, h]

theorem blockSubs_lin (l : Fin 8) : blockSubs (0x3610 + l) = some (9, 0x0A) := by revert l; decide
theorem blockSubs_sent (r : Fin 8) : blockSubs (0x3618 + r) = some (7, 8) := by revert r; decide
theorem blockSubs_pwm (u : Fin 8) : blockSubs (0x3620 + u) = some (6, 7) := by revert u; decide

/-! ## LIN (R225) -/

section
variable {s : State} {l : Fin 8}

theorem linHeader_of_slave {ident : Nat} (start : Tk) (hon : s.objN (0x3610 + l) 1 = 1) (hm : s.objN (0x3610 + l) 3 = 1) :
    s.linHeader l start ident = s.setLin l { header := some { ident := ident, start := start, step := none } } := by
  simp [State.linHeader, hon, hm]

/-- A LIN frame of no exchange, its checksum right. -/
theorem linReceives_quiet {f : LinFrame} (hon : s.objN (0x3610 + l) 1 = 1) (hd : f.data.length ≤ 8) (hc : f.checksum = 0)
    (hh : ∀ h, (s.lin l).header = some h → h.step = none) (hq : s.objN (0x3610 + l) 6 = 0xFFFFFFFF) :
    s.linReceives l f =
      (s.setLin l {}).cause (0x3610 + l) (if (s.linResponse l f.ident).isSome then 1 else 0) s.now := by
  have takes : (s.objN (0x3610 + l) 1 != 1 || decide (8 < f.data.length) || decide (3 < f.checksum)) = false := by
    simp [hon, hd, hc]
  unfold State.linReceives
  rw [if_neg (ne_true_of_eq_false takes)]
  simp only [objN_setLin, blockEntryTo_of_none _ hq, hc]
  cases hx : (s.lin l).header with
  | none => rfl
  | some x =>
    simp only [hh x hx]
    rfl

/-- A missing response of another node. -/
theorem linMisses_quiet {h : LinHeader} (hh : (s.lin l).header = some h) (hs : h.step = none) (hr : s.linResponse l h.ident = none)
    (hq : s.objN (0x3610 + l) 6 = 0xFFFFFFFF) (hc : fieldOf (s.objN (0x3610 + l) 8) 16 16 ≠ 65535) :
    s.linMisses l = (((s.setLin l {}).nextFresh.setObj (0x3610 + l) 8 (s.objN (0x3610 + l) 8 + 65536 : Nat))).cause (0x3610 + l) 3
      s.now := by
  have own : ¬ (s.linResponse l h.ident).isSome = true := by simp [hr]
  have count : (s.setLin l {}).nextFresh.objN (0x3610 + l) 8 = s.objN (0x3610 + l) 8 := by
    rw [objN_nextFresh, objN_setLin]
  simp only [State.linMisses, hh]
  rw [if_neg own, hs, requestGone_of_open (by simp), blockEntryTo_of_none _ (by rw [objN_setLin]; exact hq),
    saturate16_of_below (by rwa [count]), count]
  rfl

end

/-! ## SENT and PWM capture (R226, R227) -/

section
variable {s : State} {n : Fin 8}

/-- A SENT frame of no exchange, its calibration pulse accepted and its CRC right. -/
theorem sentReceives_quiet {f : SentFrame} (hon : s.objN (0x3618 + n) 1 = 1)
    (hl : f.nibbles.length = fieldOf (s.objN (0x3618 + n) 4) 0 3) (hp : s.calibrationOk n f.calibration = true)
    (hc : f.crc = sentCrc (bitOf (s.objN (0x3618 + n) 4) 6) f.nibbles) (hq : s.objN (0x3618 + n) 5 = 0xFFFFFFFF)
    (hf : s.inFlightSteps = []) :
    s.sentReceives n f = (s.setSent n { lastCalibration := some f.calibration }).cause (0x3618 + n) 0 s.now := by
  unfold State.sentReceives
  extract_lets idx format crcOk u tick v w x i y
  have crc : crcOk = true := beq_iff_eq.mpr hc
  rw [if_neg (by simp [idx, hon]), if_neg (by simp [hp, format, idx, hl])]
  have queue : ∀ e, u.blockEntryTo (u.objN idx 5) e = u := fun e => blockEntryTo_of_none e ((objN_setSent s n _ idx 5).trans hq)
  have hv : v = u := queue _
  have hw : w = u := by
    simp only [w, hv, queue, ite_self]
    cases f.serial <;> rfl
  have hx : x = u := (if_pos crc).trans hw
  have hy : y = u := by
    simp only [y, hx, exchanges_of_none (s := u) hf]
    rfl
  rw [hy]
  rfl

/-- A SENT frame whose calibration pulse is not accepted. -/
theorem sentReceives_rejects {f : SentFrame} (hon : s.objN (0x3618 + n) 1 = 1) (hp : s.calibrationOk n f.calibration = false)
    (hc : fieldOf (s.objN (0x3618 + n) 6) 0 16 ≠ 65535) :
    s.sentReceives n f = (s.setObj (0x3618 + n) 6 (s.objN (0x3618 + n) 6 + 1 : Nat)).cause (0x3618 + n) 2 s.now := by
  simp only [State.sentReceives, hon, hp, saturate16_of_below hc]
  rfl

/-- A PWM result stands in its object (R227). -/
def State.pwmStands (s : State) (n : Nat) (r : PwmReading) : State :=
  (s.staleSnaps (objKey (0x3620 + n) 5)).setObj (0x3620 + n) 5 (r.period + r.high * 2 ^ 32 : Nat)

theorem changes_pwmStands (s : State) (n : Nat) (r : PwmReading) : Changes [.objs, .cores] s (s.pwmStands n r) :=
  (changes_iff _ _ _).mpr rfl

theorem objs_pwmStands (s : State) (n : Nat) (r : PwmReading) :
    (s.pwmStands n r).objs = (s.setObj (0x3620 + n) 5 (r.period + r.high * 2 ^ 32 : Nat)).objs := rfl

theorem obj_pwmStands_other (s : State) (n : Nat) (r : PwmReading) {i j : Nat} (h : objKey i j ≠ objKey (0x3620 + n) 5) :
    (s.pwmStands n r).obj i j = s.obj i j :=
  (obj_congr (objs_pwmStands s n r) i j).trans (obj_setObj_other s _ h)

theorem pwmMeasures_quiet {r : PwmReading} (hon : s.objN (0x3620 + n) 1 = 1) (h0 : 0 < r.period) (h32 : r.period < 2 ^ 32)
    (hh : r.high ≤ r.period) (hq : s.objN (0x3620 + n) 4 = 0xFFFFFFFF) (hf : s.inFlightSteps = []) :
    s.pwmMeasures n r = (s.pwmStands n r).cause (0x3620 + n) 0 s.now := by
  have takes : (s.objN (0x3620 + n) 1 != 1 || decide (r.period = 0) || decide (r.period < r.high) ||
      decide (2 ^ 32 ≤ r.period)) = false := by
    simp [hon, Nat.ne_of_gt h0, Nat.not_lt.mpr hh]
    exact h32
  unfold State.pwmMeasures
  extract_lets idx duty u v w
  rw [if_neg (ne_true_of_eq_false takes)]
  have settings : u.objN idx 4 = s.objN idx 4 :=
    congrArg Int.toNat (obj_pwmStands_other s n r (by simp only [idx, objKey]; omega))
  have hv : v = u := blockEntryTo_of_none _ (settings.trans hq)
  have hw : w = u := by
    simp only [w, hv, exchanges_of_none (s := u) hf]
    rfl
  rw [hw]
  rfl

end

/-! ## The response timeout of an exchange (R228) -/

/-- An exchange with a PWM capture unit stops with the timeout. -/
theorem responseTimesOut_pwm {s : State} {k : Nat} (hk : stepKind s.runningImage k = 5)
    (hc : exchangeClass (stepAction s.runningImage k) = 3) (hs : (s.step k).stage = .inFlight) (hd : (s.step k).done = none)
    (he : (s.step k).ending = none) : s.responseTimesOut k =
      if s.now < (s.step k).dispatchedAt + fieldLe (stepAction s.runningImage k) 4 4 * 4000 then s
      else s.setStep k { s.step k with done := some 0x0A, stoppedAt := s.now } := by
  have cancels : s.exchangeCancels k (stepAction s.runningImage k) = (s, true) := by simp [State.exchangeCancels, hc]
  have stops : s.stopAction k 0x0A 1 = s.setStep k { s.step k with done := some 0x0A, stoppedAt := s.now } := by
    simp [State.stopAction, State.actionStops, hk, hs, hd, he, cancels]
  have waits : (stepKind s.runningImage k != 5 ||
      decide (s.now < (s.step k).dispatchedAt + fieldLe (stepAction s.runningImage k) 4 4 * 4000)) = true ↔
      s.now < (s.step k).dispatchedAt + fieldLe (stepAction s.runningImage k) 4 4 * 4000 := by
    simp [hk]
  rw [← stops]
  exact if_congr waits rfl rfl

end Sys2Proof.Machine

open Sys2Proof Sys2Proof.Machine

/-- Settles O22: a write of an enable by the port that the engine then takes or lets go; what an engine receives by its cause, which
the event select leaves out. -/
theorem portEnginesReceive : Obligations.PortEnginesReceive := by
  unfold Obligations.PortEnginesReceive
  refine ⟨⟨?_, ?_, ?_⟩, ?_, ?_, ?_, ?_, ?_, ?_, ?_⟩
  -- enables
  · intro s t a k n c h hv ho hc he
    exact exec_engine_takes h hv ho hc he
  · intro s t a k n c h hv ho hc he
    exact exec_engine_conflicts h hv ho hc he
  · intro s t a k n c h hv ho hs
    exact exec_engine_lets h hv ho hs
  -- LIN
  · intro s t start l ident hon hm
    exact congrArg Host.Outcome.next (linHeader_of_slave (s := s.advance t) start hon hm)
  · intro s t l f hon hd hc hh hq hu
    have receives := linReceives_quiet (s := s.advance t) hon hd hc hh hq
    have select := unselected_of_obj (u := (s.advance t).setLin l {}) (by rw [obj_setLin, obj_advance]) hu
    exact congrArg Host.Outcome.next (receives.trans (cause_of_unselected _ select (blockSubs_lin l)))
  · intro s t l h hh hs hr hq hc hu
    have misses := linMisses_quiet (s := s.advance t) hh hs hr hq hc
    have select := unselected_of_obj (u := ((s.advance t).setLin l {}).nextFresh.setObj (0x3610 + l) 8
      (s.objN (0x3610 + l) 8 + 65536 : Nat)) (by
        rw [obj_setObj_other _ _ (by simp only [objKey]; omega), obj_nextFresh, obj_setLin, obj_advance]) hu
    exact congrArg Host.Outcome.next (misses.trans (cause_of_unselected _ select (blockSubs_lin l)))
  -- SENT
  · intro s t r f hon hl hp hc hq hf hu
    have receives := sentReceives_quiet (s := s.advance t) hon hl hp hc hq hf
    have select := unselected_of_obj (u := (s.advance t).setSent r { lastCalibration := some f.calibration })
      (by rw [obj_setSent, obj_advance]) hu
    exact congrArg Host.Outcome.next (receives.trans (cause_of_unselected _ select (blockSubs_sent r)))
  · intro s t r f hon _ hp hc hu
    have rejects := sentReceives_rejects (s := s.advance t) hon hp hc
    have select := unselected_of_obj (u := (s.advance t).setObj (0x3618 + r) 6 (s.objN (0x3618 + r) 6 + 1 : Nat))
      (by rw [obj_setObj_other _ _ (by simp only [objKey]; omega), obj_advance]) hu
    exact congrArg Host.Outcome.next (rejects.trans (cause_of_unselected _ select (blockSubs_sent r)))
  -- PWM capture, and the response timeout
  · intro s t n r hon h0 h32 hh hq hf hu
    have measures := pwmMeasures_quiet (s := s.advance t) hon h0 h32 hh hq hf
    have select := unselected_of_obj (u := (s.advance t).pwmStands n r)
      (by rw [obj_pwmStands_other _ _ _ (by simp only [objKey]; omega), obj_advance]) hu
    exact ⟨_, congrArg Host.Outcome.next (measures.trans (cause_of_unselected _ select (blockSubs_pwm n))),
      caused_objs_congr rfl _ _ _,
      (changes_caused _ _ _ _).step rfl ((changes_pwmStands _ _ _).step rfl ((changes_advance s t).mono rfl))⟩
  · intro s t k hk hc hs hd he
    exact congrArg Host.Outcome.next (responseTimesOut_pwm (s := s.advance t) hk hc hs hd he)
end

section
/-!
SUPPORT. Converters: what the end of a conversion leaves of its record (R108, R116), what a result leaves in the newest-result
objects (R124), and what goes on at the boundary after it.
-/

namespace Sys2Proof.Machine

/-! ## The record of one converter -/

section
variable {s t u : State} {q : Nat} {c d : Converter}

theorem onlyConv_setConv (s : State) (q : Nat) (c : Converter) : s.onlyConv (s.setConv q c) q c :=
  ⟨conv_setConv s q c, fun _ hp => conv_setConv_other s c hp, (changes_setConv s q c).mono rfl⟩

theorem State.onlyConv.trans (h : s.onlyConv t q c) (g : t.onlyConv u q d) : s.onlyConv u q d := by
  obtain ⟨-, others, frame⟩ := h
  obtain ⟨conv, others', frame'⟩ := g
  exact ⟨conv, fun p hp => (others' p hp).trans (others p hp), frame.trans frame'⟩

theorem State.onlyConv.conv (h : s.onlyConv u q c) : u.conv q = c := h.1

theorem State.onlyConv.objs (h : s.onlyConv u q c) : u.objs = s.objs := h.2.2 .objs rfl

theorem State.onlyConv.frame (h : s.onlyConv u q c) : Changes [.now, .convs] s u := h.2.2

end

/-! ## Newest results (R124) -/

section
variable (s : State) (q l gain measure flags first : Nat) (mean : Int)

theorem changes_newestResult : Changes [.objs, .cores] s (s.newestResult q l gain measure flags first mean) :=
  (changes_iff _ _ _).mpr rfl

theorem obj_newestResult_first : (s.newestResult q l gain measure flags first mean).obj (0x3200 + q) (0x24 + l) = first :=
  obj_setObj _ _ _ _

theorem obj_newestResult_word : (s.newestResult q l gain measure flags first mean).obj (0x3200 + q) (0x20 + l) =
    newestWord mean 32 (nextCount (s.objN (0x3200 + q) (0x20 + l))) flags gain measure :=
  (obj_setObj_other _ _ (by simp only [objKey]; omega)).trans (obj_setObj _ _ _ _)

/-- A newest result stands in the two objects of its lane, and leaves every other object. -/
theorem obj_newestResult_other {i j : Nat} (hw : objKey i j ≠ objKey (0x3200 + q) (0x20 + l))
    (hf : objKey i j ≠ objKey (0x3200 + q) (0x24 + l)) :
    (s.newestResult q l gain measure flags first mean).obj i j = s.obj i j :=
  (obj_setObj_other _ _ hf).trans (obj_setObj_other (s.staleSnaps _) _ hw)

end

section
variable {s u : State} {q : Nat} {codes : Codes}

theorem entryLane_lt (w : Nat) : entryLane w < 4 := Nat.mod_lt _ (by decide)

/-- An entry or urgent request without a summary gives its newest result alone. -/
theorem writeResult_of_plain (h : entrySummary (s.conv q).word = false) : s.writeResult q codes =
    s.newestResult q (entryLane (s.conv q).word) (entryGain (s.conv q).word)
      (s.laneScaleAt q (entryLane (s.conv q).word) (s.conv q).firstKept).2
      (s.resultFlags q (entryLane (s.conv q).word) (s.objN (0x3200 + q) 3) codes (s.conv q).started (s.conv q).firstKept
        (s.conv q).endAt ((s.conv q).converting == .urgent) false (s.conv q).repeated)
      (s.conv q).firstKept
      (s.meanValue q (entryLane (s.conv q).word) (entryGain (s.conv q).word)
        (s.laneScaleAt q (entryLane (s.conv q).word) (s.conv q).firstKept) codes) := by
  unfold State.writeResult
  dsimp only
  rw [if_neg (ne_true_of_eq_false h)]

theorem changes_writeResult_of_plain (h : entrySummary (s.conv q).word = false) :
    Changes [.objs, .cores] s (s.writeResult q codes) := by
  rw [writeResult_of_plain h]
  exact changes_newestResult _ _ _ _ _ _ _ _

theorem conv_writeResult_of_plain (h : entrySummary (s.conv q).word = false) : (s.writeResult q codes).conv q = s.conv q :=
  conv_congr (changes_writeResult_of_plain h .convs rfl) q

/-- The objects that a result leaves: all but 0x20 to 0x27 of its converter. -/
theorem obj_writeResult_of_plain (h : entrySummary (s.conv q).word = false) {i j : Nat}
    (hk : objKey i j < objKey (0x3200 + q) 0x20 ∨ objKey (0x3200 + q) 0x28 ≤ objKey i j) :
    (s.writeResult q codes).obj i j = s.obj i j := by
  have lane := entryLane_lt (s.conv q).word
  simp only [objKey] at hk
  rw [writeResult_of_plain h]
  exact obj_newestResult_other _ _ _ _ _ _ _ _ (by simp only [objKey]; omega) (by simp only [objKey]; omega)

/-! ## The end of a conversion (R103, R108) -/

/-- A conversion without raw samples leaves, at most, its kept samples to the chain. -/
theorem conversionEnds_of_plain (hr : entryRaw (s.conv q).word = false) (taken : Nat) (cut : Bool) :
    ∃ done, s.conversionEnds q taken cut = s.setConv q { s.conv q with done := done } := by
  unfold State.conversionEnds
  extract_lets c conversion v next c'
  obtain ⟨done, hc⟩ : ∃ done, c' = { c with done := done } := by
    unfold c'
    split
    · exact ⟨_, rfl⟩
    · exact ⟨c.done, rfl⟩
  rw [hc]
  exact ⟨done, by simp [c, hr]⟩

/-- A boundary at which no new period takes effect. -/
theorem atBoundary_of_kept (h : (s.conv q).nextPeriod = none) (at' : Tk) : s.atBoundary q at' =
    s.setConv q { (s.conv q).rests at' with slot := (s.conv q).slot.readyBy at' } := by
  simp [State.atBoundary, Converter.rests, h]

/-! ## What goes on at a boundary (R108, R111, R116, R118, R202) -/

theorem continuePass_of_rest (h : (s.conv q).passRunning = false) : s.continuePass q = s := by
  simp [State.continuePass, h]

theorem continuePass_of_pass (hp : (s.conv q).passRunning = true) (hs : (s.conv q).stop = none)
    (hw : (s.conv q).slot.waits = false) (hc : (s.conv q).calibrationUse = false) : s.continuePass q =
      s.setConv q ({ s.conv q with repeated := (s.conv q).repeatNext, repeatNext := false }.begin .entry
        (s.entryWord q (s.conv q).entry) (nextGrid (s.conv q).origin (s.conv q).period (s.conv q).boundary)) := by
  simp [State.continuePass, hp, hs, hw, hc]

theorem measureContinues_of_none (h : s.inFlightSteps = []) : s.measureContinues q = s := by
  simp only [State.measureContinues, h, List.foldl_nil]

theorem insertRun_congr (h : u.cal = s.cal) (d : Nat) (l : List Nat) : u.insertRun d l = s.insertRun d l := by
  induction l with
  | nil => rfl
  | cons x l ih => simp only [State.insertRun, calRun_congr h, ih]

theorem runOrder_congr (h : u.cal = s.cal) : u.runOrder = s.runOrder := by
  simp only [State.runOrder, insertRun_congr h, calRun_congr h]

/-- The item that may preempt is read off the calibration, the map, the mode and the readiness. -/
theorem preempter_of_changes (h : Changes [.now, .objs, .convs, .cores] s u) (hr : u.obj 0x2001 1 = s.obj 0x2001 1) :
    u.preempter q = s.preempter q := by
  have cal : u.cal = s.cal := h .cal rfl
  have mode : u.mode = s.mode := h .mode rfl
  have map : u.map = s.map := h .map rfl
  have runs : u.mapRunning = s.mapRunning := by
    unfold State.mapRunning
    rw [map]
  simp only [State.preempter, State.calibrates, State.ready, State.objN, State.mapUses,
    runOrder_congr cal, calRun_congr cal, cal, mode, map, runs, hr]
  rfl

end

/-! ## The end of an entry (R108) -/

section
variable {s : State} {q : Nat} {codes : Codes}

/-- The record of a converter whose entry has ended, with others of the pass still to come. -/
def Converter.nextEntry (c : Converter) (done : List Conversion) : Converter :=
  { c.rests c.endBoundary with slot := c.slot.readyBy c.endBoundary, done := done, entry := c.entry + 1 }

/-- The record of a converter that goes on with that entry, of word `w`. -/
def Converter.nextRuns (c : Converter) (done : List Conversion) (w : Nat) : Converter :=
  { c.nextEntry done with repeated := c.repeatNext, repeatNext := false }.begin .entry w
    (nextGrid c.origin c.period c.endBoundary)

theorem entryEnds_of_plain (hs : entrySummary (s.conv q).word = false) (hr : entryRaw (s.conv q).word = false)
    (hp : (s.conv q).nextPeriod = none) (he : (s.conv q).entry + 1 < s.objN (0x3200 + q) 5) :
    ∃ done, (s.writeResult q codes).onlyConv (s.entryEnds q codes) q ((s.conv q).nextEntry done) := by
  have conv := conv_writeResult_of_plain (codes := codes) hs
  obtain ⟨done, ends⟩ := conversionEnds_of_plain (s := s.writeResult q codes) (q := q) (by rwa [conv]) (s.conv q).total false
  have last : ∀ v : State, (s.writeResult q codes).onlyConv v q
      { (s.conv q).rests (s.conv q).endBoundary with slot := (s.conv q).slot.readyBy (s.conv q).endBoundary, done := done } →
      (s.writeResult q codes).onlyConv
        (if (s.conv q).entry + 1 < v.objN (0x3200 + q) 5 then v.setConv q { v.conv q with entry := (s.conv q).entry + 1 }
          else v.passEnds q (s.conv q).endAt) q ((s.conv q).nextEntry done) := by
    intro v only
    have count : v.objN (0x3200 + q) 5 = s.objN (0x3200 + q) 5 :=
      congrArg Int.toNat ((obj_congr only.objs _ _).trans (obj_writeResult_of_plain hs (.inl (by simp only [objKey]; omega))))
    rw [if_pos (by rwa [count]), only.conv]
    exact only.trans (onlyConv_setConv v q _)
  refine ⟨done, last _ ?_⟩
  rw [ends, conv, atBoundary_of_kept (by rw [conv_setConv]; exact hp), conv_setConv]
  exact (onlyConv_setConv _ q _).trans (onlyConv_setConv _ q _)

/-- At the boundary after an entry that another one of the pass follows, and that nothing else takes, that one begins. -/
theorem entryEnds_goesOn (hs : entrySummary (s.conv q).word = false) (hr : entryRaw (s.conv q).word = false)
    (hp : (s.conv q).nextPeriod = none) (he : (s.conv q).entry + 1 < s.objN (0x3200 + q) 5)
    (hrun : (s.conv q).passRunning = true) (hstop : (s.conv q).stop = none) (hslot : (s.conv q).slot = .free)
    (huse : (s.conv q).calibrationUse = false) (hpre : s.preempter q = none) :
    ∃ done, (s.writeResult q codes).onlyConv ((s.entryEnds q codes).sequenceGoesOn q) q
      ((s.conv q).nextRuns done (s.entryWord q ((s.conv q).entry + 1))) := by
  obtain ⟨done, only⟩ := entryEnds_of_plain (codes := codes) hs hr hp he
  have written := changes_writeResult_of_plain (codes := codes) hs
  have obj : ∀ i j, objKey i j < objKey (0x3200 + q) 0x20 ∨ objKey (0x3200 + q) 0x28 ≤ objKey i j →
      (s.entryEnds q codes).obj i j = s.obj i j := fun i j hk =>
    (obj_congr only.objs i j).trans (obj_writeResult_of_plain hs hk)
  have free : (s.entryEnds q codes).preempter q = none :=
    (preempter_of_changes (only.frame.step rfl (written.mono rfl)) (obj _ _ (.inl (by simp only [objKey]; omega)))).trans hpre
  have word : (s.entryEnds q codes).entryWord q ((s.conv q).entry + 1) = s.entryWord q ((s.conv q).entry + 1) :=
    congrArg Int.toNat (obj _ _ (.inr (by simp only [objKey]; omega)))
  have goes : (s.entryEnds q codes).sequenceGoesOn q = (s.entryEnds q codes).continuePass q := by
    rw [State.sequenceGoesOn, free]
  rw [goes, continuePass_of_pass (by rw [only.conv]; exact hrun) (by rw [only.conv]; exact hstop)
    (by rw [only.conv, Converter.nextEntry, hslot]; rfl) (by rw [only.conv]; exact huse), only.conv]
  refine ⟨done, only.trans ?_⟩
  rw [← word]
  exact onlyConv_setConv _ q _

end

/-! ## Pass starts and raw entries (R110, R114, R121) -/

section
variable {s : State} {q : Nat} {at' : Tk}

/-- A converter at rest, with a free urgent slot, begins a pass at its instant. -/
theorem passStarts_of_due (h : s.passStartAt q = some at') (hn : at' ≤ s.now) (hp : (s.conv q).passRunning = false)
    (hc : (s.conv q).converting = .nothing) (hs : (s.conv q).stop = none) (hu : (s.conv q).calibrationUse = false)
    (hf : (s.conv q).slot = .free) (hq : s.passQueuesOk q = true) :
    s.passStarts q = s.setConv q ({ s.conv q with
      triggers := if s.objN (0x3200 + q) 1 = 2 then (s.conv q).triggers.drop 1 else (s.conv q).triggers
      passRunning := true, entry := 0, fresh := true, repeated := false }.begin .entry (s.entryWord q 0) at') := by
  have urgent : (s.conv q).urgentAt = none := by simp [Converter.urgentAt, hf]
  simp [State.passStarts, h, hp, hc, hs, hu, urgent, Nat.not_lt.mpr hn, hq]

/-- The last raw entry that an ended or cut conversion left. -/
theorem writeRaw_of_last {codes : Codes} {r : RawLeft} (h : (s.conv q).rawLeft = [r]) (h6 : r.conv.taken - r.next ≤ 6)
    (hl : codes.length = r.conv.taken - r.next) (ho : codesOk codes = true) :
    s.writeRaw q codes = (s.rawEntry q r.conv r.next (r.cut && decide (codes.length < 6)) codes).setConv q
      { (s.rawEntry q r.conv r.next (r.cut && decide (codes.length < 6)) codes).conv q with rawLeft := [] } := by
  have whole : codes.length = min 6 (r.conv.taken - r.next) := by omega
  simp only [State.writeRaw, h, ho, ← hl, hl ▸ h6]
  simp [hl ▸ h6]

end

end Sys2Proof.Machine

open Sys2Proof Sys2Proof.Machine

/-- Settles O12: the start of a pass by its instant; the end of an entry by its result and by the entry that the boundary begins; the
last raw entry by the list that it empties. -/
theorem passesConvertEntries : Obligations.PassesConvertEntries := by
  unfold Obligations.PassesConvertEntries
  refine ⟨?_, ?_, ?_⟩
  · intro s t q at' h hn hp hc hs hu hf hq
    exact congrArg Host.Outcome.next (passStarts_of_due (s := s.advance t) h hn hp hc hs hu hf hq)
  · intro s t q codes scale hc hn hl ho hs hr hp hrun hstop hf hu hpre he hscale
    have done : (s.advance t).entryDone q codes = true := by simp [State.entryDone, hc, hn, hl, ho]
    have result := writeResult_of_plain (s := s.advance t) (q := q) (codes := codes) hs
    simp only [conv_advance, hc] at result
    obtain ⟨kept, only⟩ := entryEnds_goesOn (s := s.advance t) (q := q) (codes := codes) hs hr hp he hrun hstop hf hu
      (hpre ▸ preempter_of_changes ((changes_advance s t).mono rfl) rfl)
    have obj := obj_congr only.objs
    refine ⟨_, congrArg Host.Outcome.next (if_pos done), ?_, ?_, ?_, ?_, ?_, ?_, ?_⟩
    · exact only.frame.step rfl
        ((changes_writeResult_of_plain (s := s.advance t) hs).step rfl ((changes_advance s t).mono rfl))
    · rw [obj, result]
      exact obj_newestResult_first _ _ _ _ _ _ _ _
    · subst hscale
      rw [obj, result]
      exact obj_newestResult_word _ _ _ _ _ _ _ _
    · exact congrArg Converter.converting only.conv
    · exact congrArg Converter.entry only.conv
    · exact congrArg Converter.word only.conv
    · exact congrArg Converter.started only.conv
  · intro s t q codes r h h6 hl ho
    exact congrArg Host.Outcome.next (writeRaw_of_last (s := s.advance t) h h6 hl ho)
end

section
/-!
SUPPORT. A stop of a converter that waits for its boundary takes the wider of two causes (R111, R119): over the cause of a failed
queue check, which no stop that waits has in a run of the device, the cause of a command is the wider.
-/

namespace Sys2Proof.Machine

/-- A stop that is commanded while another one waits. -/
theorem exec_runModeStop_waits {s : State} {t : Tk} {a : Accessor} {q : ConvNo} {c : Card} {old : StopCause}
    (h : TakesWrite s t a (0x3200 + q) 1 (natLe 1 0) c) (hv : c.written (natLe 1 0) = 0) (hs : (s.conv q).stop = some old) :
    exec (.runModeStop t a q) s = .next ((s.heard t a).answered (((s.heard t a).setObj (0x3200 + q) 1 0).setConv q
      { s.conv q with stop := some (old.with .command) })) := by
  have stops : (s.heard t a).runModeWrite q (c.written (natLe 1 0)).toNat =
      .ok (((s.heard t a).setObj (0x3200 + q) 1 0).setConv q { s.conv q with stop := some (old.with .command) }) := by
    simp [hv, State.runModeWrite, Converter.stopping, hs]
  exact write_completes h (k := fun s x => s.runModeWrite q x.toNat) stops (owes_of_eq rfl rfl rfl)

/-- A device in RUN with a converter that stops for a queue: session 0 holds the cycle, and with it converter 64. -/
def State.stopsForQueue : State :=
  ({ State.reset with
    mode := .run, sessions := [(0, { stage := .open_ })], claims := [(claimKey clsCycle 0, some 0)]
    convs := [(64, { stop := some .queue })] }).setObj 0x2001 1 0x1FFFFFFF

/-- The card of the run mode of converter 64. -/
def runModeCard : Card := (cardOf 0x3240 1).getD { lo := 0, hi := 0, ty := .u8, acc := .ro, dflt := 0, min := 0, max := 0, mask := 0 }

theorem stopsForQueue_takes : TakesWrite State.stopsForQueue 0 (.session 0) (0x3200 + (64 : ConvNo)) 1 (natLe 1 0) runModeCard where
  served := by decide +kernel
  turn := by decide +kernel
  found := by decide +kernel
  writable := by decide +kernel
  session := by decide +kernel
  length := by decide +kernel
  whole := by decide +kernel
  ready := by decide +kernel
  mode := by decide +kernel
  claim := by decide +kernel
  range := by decide +kernel

end Sys2Proof.Machine

open Sys2Proof Sys2Proof.Machine

/-- Refutes O11: its third clause says of every stop that waits that a commanded stop leaves its cause; it fails for the cause of a
failed queue check, over which the cause of the command is taken. -/
theorem not_convertersRunAndStop : ¬ Obligations.ConvertersRunAndStop := by
  unfold Obligations.ConvertersRunAndStop
  rintro ⟨⟨-, -, waiting, -⟩, -⟩
  have written : runModeCard.written (natLe 1 0) = 0 := by decide +kernel
  have stop : (State.stopsForQueue.conv (64 : ConvNo)).stop = some .queue := by decide +kernel
  have kept := waiting State.stopsForQueue 0 (.session 0) 64 runModeCard .queue stopsForQueue_takes written stop
  have taken := exec_runModeStop_waits stopsForQueue_takes written stop
  have same := congrArg (fun u => (u.conv (64 : ConvNo)).stop) (Host.Outcome.next.inj (kept.symm.trans taken))
  exact absurd same (by decide +kernel)
end

section
/-!
SUPPORT. VCORE slews at 1 mV per microsecond (R247), so that it may pass 0.70 V between the state in which a command finds the device
and the instant at which the command acts.
-/

namespace Sys2Proof.Machine

/-- VCORE falls from 800 mV towards 650 mV; 300 kept samples of lane 0 wait for the chain of converter 0. -/
def State.vcoreFalls : State :=
  ({ State.reset with
    convs := [(0, { done := [{ word := 300 * 2 ^ 18 + 0x20, started := 0, settles := 0, period := 40, regrids := [], taken := 300
                               urgent := false, repeated := false, reference := 0 }] })] }).setObj 0x2201 3 650

theorem vcoreFalls_high : 700 ≤ State.vcoreFalls.vcore := by decide +kernel

/-- 250 microseconds later VCORE is at 650 mV, and the newest sample is dropped. -/
theorem vcoreFalls_drops :
    ((((State.vcoreFalls.advance 1000000).dropSample 0 0).chain 0).lane 0).drops = [11960] := by decide +kernel

end Sys2Proof.Machine

open Sys2Proof Sys2Proof.Machine

/-- Refutes O14: its third clause reads VCORE in the state before the command, while the sample meets the input queue at the command's
instant; it fails where VCORE has fallen below 0.70 V by then. -/
theorem not_chainsGiveOutputs : ¬ Obligations.ChainsGiveOutputs := by
  unfold Obligations.ChainsGiveOutputs
  rintro ⟨⟨-, -, noneDropped⟩, -⟩
  have kept : (State.vcoreFalls.advance 1000000).dropSample 0 0 = State.vcoreFalls.advance 1000000 :=
    Host.Outcome.next.inj (noneDropped State.vcoreFalls 1000000 0 0 vcoreFalls_high)
  have same := congrArg (fun u => ((u.chain 0).lane 0).drops) kept
  rw [vcoreFalls_drops] at same
  exact absurd same (by decide +kernel)
end

section
/-!
SUPPORT. Urgent requests and diagnoses of a converter (R115, R116, R127, R128): their acceptance, their start, and what their ends
leave.
-/

namespace Sys2Proof.Machine

/-! ## A cause that is not selected (R129) -/

theorem bitOf_putBit (v i : Nat) : bitOf (putBit v i true) i = true := by
  unfold putBit
  split
  · next h => exact beq_iff_eq.mp h
  · next h =>
    have clear : v / 2 ^ i % 2 = 0 := by
      simp only [bitOf, beq_true, beq_iff_eq] at h
      omega
    simp only [if_true, bitOf, beq_iff_eq, Nat.add_div_right v (Nat.two_pow_pos i)]
    omega

theorem bitOf_caused (s : State) (idx cau bit : Nat) : bitOf ((s.caused idx cau bit).objN idx cau) bit = true := by
  rw [State.objN, State.caused, obj_setObj, Int.toNat_natCast]
  exact bitOf_putBit _ _

/-- An object is apart from the others of its index. -/
theorem obj_setObj_sub (s : State) {i j k : Nat} (v : Int) (h : j ≠ k) : (s.setObj i k v).obj i j = s.obj i j :=
  obj_setObj_other s v (by simp only [objKey]; omega)

theorem obj_caused_sub (s : State) {idx cau bit j : Nat} (h : j ≠ cau) : (s.caused idx cau bit).obj idx j = s.obj idx j :=
  obj_setObj_sub s _ h

theorem blockSubs_conv (q : ConvNo) : blockSubs (0x3200 + q) = some (0x19, 0x1A) := by revert q; decide

/-- Ends of requests and diagnoses at a converter outside a pass: the cause sets its bit, and nothing follows. -/
theorem cause_goesOn_of_rest {s : State} {q : ConvNo} {bit : Nat} (stamp : Nat) (hu : s.unselected (0x3200 + q) 0x19 bit)
    (hp : (s.conv q).passRunning = false) :
    (s.cause (0x3200 + q) bit stamp).continuePass q = s.caused (0x3200 + q) 0x1A bit := by
  rw [cause_of_unselected stamp hu (blockSubs_conv q)]
  exact continuePass_of_rest hp

/-! ## The urgent slot (R115, R127) -/

section
variable {s : State} {t : Tk} {a : Accessor} {q : ConvNo} {v : Nat} {c : Card} {x : Nat}

theorem slotAbort_heard (s : State) (t : Tk) (a : Accessor) (q : Nat) : (s.heard t a).slotAbort q = s.slotAbort q := by
  rw [heard_eq]
  rfl

theorem urgentWrite_takes {who : Nat} (he : s.entryAbort who x = none) (hs : s.slotAbort q = none) :
    s.urgentWrite who q x = .ok (s.urgentAccept q x none) := by
  rw [State.urgentWrite, he, hs]
  rfl

/-- An urgent request with a free slot waits in it. -/
theorem exec_urgentRequest (h : TakesWrite s t a (0x3200 + q) 0x0F (natLe 8 v) c) (hx : c.written (natLe 8 v) = x)
    (he : (s.heard t a).entryAbort (s.sessionOf a) x = none) (hs : s.slotAbort q = none) :
    exec (.urgentRequest t a q v) s = .next ((s.heard t a).answered ((s.heard t a).urgentAccept q x none)) := by
  have takes : (s.heard t a).urgentWrite ((s.heard t a).sessionOf a) q (c.written (natLe 8 v)).toNat =
      .ok ((s.heard t a).urgentAccept q x none) := by
    rw [hx, sessionOf_heard]
    exact urgentWrite_takes he ((slotAbort_heard s t a q).trans hs)
  exact write_completes h (k := fun s x => s.urgentWrite (s.sessionOf a) q x.toNat) takes (owes_of_eq rfl rfl rfl)

theorem pinPathOk_heard (s : State) (t : Tk) (a : Accessor) (p : Nat) : (s.heard t a).pinPathOk p = (s.advance t).pinPathOk p := by
  rw [heard_eq]
  rfl

/-- A diagnosis waits in the urgent slot. -/
def State.diagnosisAccept (s : State) (q x : Nat) : State :=
  ((s.setConv q { s.conv q with slot := .diagnosis true s.now ((s.conv q).slotReady s.now) }).setObj (0x3200 + q) 0x11 x).setObj
    (0x3200 + q) 0x12 1

theorem diagnosisWrite_takes (hp : fieldOf x 2 2 = 1 ∨ fieldOf x 2 2 = 2 ∧ (q : Nat) < 64 ∧
      s.pinPathOk (lanePort q (fieldOf x 0 2)) = true)
    (hg : fieldOf x 4 3 ≤ 5) (hs : s.slotAbort q = none) : s.diagnosisWrite q x = .ok (s.diagnosisAccept q x) := by
  unfold State.diagnosisWrite
  rcases hp with front | ⟨pin, quad, path⟩
  · simp [front, hs, Nat.not_lt.mpr hg, State.diagnosisAccept]
  · simp [pin, hs, Nat.not_lt.mpr hg, Nat.not_le.mpr quad, path, State.diagnosisAccept]

theorem exec_diagnosisCommand (h : TakesWrite s t a (0x3200 + q) 0x11 (natLe 2 v) c) (hx : c.written (natLe 2 v) = x)
    (hp : fieldOf x 2 2 = 1 ∨ fieldOf x 2 2 = 2 ∧ (q : Nat) < 64 ∧ (s.advance t).pinPathOk (lanePort q (fieldOf x 0 2)) = true)
    (hg : fieldOf x 4 3 ≤ 5) (hs : s.slotAbort q = none) :
    exec (.diagnosisCommand t a q v) s = .next ((s.heard t a).answered ((s.heard t a).diagnosisAccept q x)) := by
  have takes : (s.heard t a).diagnosisWrite q (c.written (natLe 2 v)).toNat = .ok ((s.heard t a).diagnosisAccept q x) := by
    rw [hx]
    exact diagnosisWrite_takes (by rwa [pinPathOk_heard]) hg ((slotAbort_heard s t a q).trans hs)
  exact write_completes h (k := fun s x => s.diagnosisWrite q x.toNat) takes (owes_of_eq rfl rfl rfl)

/-- What waits between passes runs at the first grid instant from which it may. -/
theorem urgentStarts_of_due {t0 r : Tk} (h : (s.conv q).slot = .request true t0 r) (hc : (s.conv q).converting = .nothing)
    (hu : (s.conv q).calibrationUse = false) (hs : (s.conv q).stop = none) (hp : (s.conv q).passRunning = false)
    (hn : nextGrid (s.conv q).origin (s.conv q).period (max (s.conv q).boundary r) ≤ s.now) : s.urgentStarts q =
      (s.setConv q ({ s.conv q with slot := .request false t0 r, repeated := false }.begin .urgent (s.objN (0x3200 + q) 0x0F)
        (nextGrid (s.conv q).origin (s.conv q).period (max (s.conv q).boundary r)))).setObj (0x3200 + q) 0x10 2 := by
  simp [State.urgentStarts, State.beginUrgent, Converter.urgentAt, UrgentSlot.waits, h, hc, hu, hs, hp, Nat.not_lt.mpr hn]

end

/-! ## The end of an urgent request (R116, R124) -/

section
variable {s : State} {q : ConvNo} {codes : Codes}

/-- No step waits for the converter where none is in flight. -/
theorem measureContinues_of_changes {l : List Part} {u : State} {q : Nat} (h : Changes l s u) (hl : l.contains .disp = false)
    (hf : s.inFlightSteps = []) : u.measureContinues q = u :=
  measureContinues_of_none (by rw [State.inFlightSteps, h .disp hl]; exact hf)

theorem measureTakes_of_none (h : (s.conv q).urgentStep = none) : s.measureTakes q codes = s := by
  simp only [State.measureTakes, h]

/-- A converter and an object are apart. -/
theorem setObj_setConv (s : State) (q : Nat) (c : Converter) (i j : Nat) (v : Int) :
    (s.setConv q c).setObj i j v = (s.setObj i j v).setConv q c := rfl

/-- The record of a converter whose urgent request has ended. -/
def Converter.urgentOver (c : Converter) (done : List Conversion) : Converter :=
  { c.rests c.endBoundary with slot := .free, urgentStep := none, done := done }

/-- An urgent request outside a pass leaves its result, its status and its cause. -/
theorem urgentEnds_of_rest (hs : entrySummary (s.conv q).word = false) (hr : entryRaw (s.conv q).word = false)
    (hp : (s.conv q).nextPeriod = none) (hrun : (s.conv q).passRunning = false) (hu : s.unselected (0x3200 + q) 0x19 1) :
    ∃ (done : List Conversion) (w : State), s.urgentEnds q codes = w.caused (0x3200 + q) 0x1A 1 ∧
      ((s.writeResult q codes).setObj (0x3200 + q) 0x10 3).onlyConv w q ((s.conv q).urgentOver done) := by
  have conv := conv_writeResult_of_plain (codes := codes) hs
  obtain ⟨done, ends⟩ := conversionEnds_of_plain (s := s.writeResult q codes) (q := q) (by rwa [conv]) (s.conv q).total false
  have only : ((s.writeResult q codes).setObj (0x3200 + q) 0x10 3).onlyConv
      (((((s.writeResult q codes).setObj (0x3200 + q) 0x10 3).setConv q { s.conv q with done := done }).setConv q
        { s.conv q with done := done, slot := .free, urgentStep := none }).atBoundary q (s.conv q).endBoundary) q
      ((s.conv q).urgentOver done) := by
    rw [atBoundary_of_kept (by rw [conv_setConv]; exact hp), conv_setConv]
    exact ((onlyConv_setConv _ q _).trans (onlyConv_setConv _ q _)).trans (onlyConv_setConv _ q _)
  have select := unselected_of_obj ((obj_congr only.objs (0x3200 + q) 0x19).trans ((obj_setObj_sub _ _
    (by decide)).trans (obj_writeResult_of_plain hs (.inl (by simp only [objKey]; omega))))) hu
  refine ⟨done, _, ?_, only⟩
  rw [← cause_goesOn_of_rest (s.conv q).endAt select (by rw [only.conv]; exact hrun)]
  unfold State.urgentEnds
  dsimp only
  rw [ends, conv, conv_setConv, setObj_setConv, setObj_setConv]

end

/-! ## The end of a diagnosis (R128) -/

/-- A quotient without remainder is rounded to itself. -/
theorem divNear_mul {e d : Int} (he : 0 ≤ e) (hd : 0 < d) : divNear (e * d) d.toNat = e := by
  have pos : d.toNat ≠ 0 := by omega
  have cast : (d.toNat : Int) = d := Int.toNat_of_nonneg hd.le
  have half : d / (2 * d) = 0 := Int.ediv_eq_zero_of_lt hd.le (by omega)
  rw [divNear, if_neg pos, if_pos (Int.mul_nonneg he hd.le), cast, show 2 * (e * d) + d = d + e * (2 * d) by ring,
    Int.add_mul_ediv_right _ _ (by omega), half, Int.zero_add]

theorem clampInt_of_mem {lo hi v : Int} (hl : lo ≤ v) (hh : v ≤ hi) : clampInt lo hi v = v := by
  rw [clampInt, min_eq_right hh, max_eq_right hl]

section
variable {s : State} {q : ConvNo} {e : Int}

/-- The objects of a diagnosis whose means all lie above their levels by `e`. -/
def State.diagnosisShows (s : State) (q : Nat) (e : Int) : State :=
  (((s.setObj (0x3200 + q) 0x13 e).setObj (0x3200 + q) 0x14 0).setObj (0x3200 + q) 0x15 e).setObj (0x3200 + q) 0x12
    (if e ≤ s.obj (0x3200 + q) 0x16 then 2 else 3)

theorem changes_diagnosisShows (s : State) (q : Nat) (e : Int) : Changes [.objs] s (s.diagnosisShows q e) :=
  (((changes_setObj s _ _ _).trans (changes_setObj _ _ _ _)).trans (changes_setObj _ _ _ _)).trans (changes_setObj _ _ _ _)

theorem obj_diagnosisShows (s : State) (q : Nat) (e : Int) : (s.diagnosisShows q e).obj (0x3200 + q) 0x13 = e ∧
    (s.diagnosisShows q e).obj (0x3200 + q) 0x14 = 0 ∧ (s.diagnosisShows q e).obj (0x3200 + q) 0x15 = e ∧
    (s.diagnosisShows q e).obj (0x3200 + q) 0x12 = if e ≤ s.obj (0x3200 + q) 0x16 then 2 else 3 := by
  simp [State.diagnosisShows, obj_setObj_sub]

/-- Three means above their levels by the same amount have it as offset and deviation, and no gain error. -/
theorem diagnosisEnds_of_equal {x y z : Int} (hl : diagnosisLevels (entryGain (s.conv q).word) = [x, y, z]) (he : 0 ≤ e)
    (hm : e ≤ 2147483647) (hd : 0 < 3 * (x * x + (y * y + z * z)) - (x + (y + z)) * (x + (y + z))) :
    s.diagnosisEnds q [x + e, y + e, z + e] =
      ((((s.diagnosisShows q e).setConv q { s.conv q with slot := .free }).atBoundary q (s.conv q).diagnosisEnd).cause
        (0x3200 + q) 2 (s.conv q).diagnosisEnd).continuePass q := by
  unfold State.diagnosisEnds
  extract_lets c xs sx sy sxx sxy den offset gain dev idx passed clip u v w
  have levels : xs = [x, y, z] := hl
  have den_eq : den = 3 * (x * x + (y * y + z * z)) - (x + (y + z)) * (x + (y + z)) := by simp [den, sxx, sx, levels]
  have offset_eq : offset = e := by
    have whole : sy * sxx - sx * sxy = e * den := by
      rw [den_eq]
      simp [sy, sxx, sx, sxy, levels]
      ring
    exact (congrArg (divNear · den.toNat) whole).trans (divNear_mul he (den_eq ▸ hd))
  have gain_eq : gain = 0 := by
    have level : (3 * sxy - sx * sy - den) * 1000000 = 0 * den := by
      rw [den_eq]
      simp [sy, sx, sxy, levels]
      ring
    exact (congrArg (divNear · den.toNat) level).trans (divNear_mul le_rfl (den_eq ▸ hd))
  have dev_eq : dev = e := by simp [dev, levels, he]
  have clip_e : clip e = e := clampInt_of_mem (by omega) hm
  have clip_0 : clip 0 = 0 := by decide
  have shows : v = s.diagnosisShows q e := by
    simp only [v, u, passed, offset_eq, gain_eq, dev_eq, clip_e, clip_0, decide_eq_true_eq]
    rfl
  simp only [w, shows, c, idx]

/-- The record of a converter whose diagnosis has ended. -/
def Converter.diagnosisOver (c : Converter) : Converter := { c.rests c.diagnosisEnd with slot := .free }

/-- At gain x1 (R128) the levels are 410, 2,048 and 3,686 mV. -/
theorem diagnosisEnds_of_rest (hg : entryGain (s.conv q).word = 0) (he : 0 ≤ e) (hm : e ≤ 1000)
    (hp : (s.conv q).nextPeriod = none) (hrun : (s.conv q).passRunning = false) (hu : s.unselected (0x3200 + q) 0x19 2) :
    ∃ w : State, s.diagnosisEnds q [410000 + e, 2048000 + e, 3686000 + e] = w.caused (0x3200 + q) 0x1A 2 ∧
      (s.diagnosisShows q e).onlyConv w q (s.conv q).diagnosisOver := by
  have levels : diagnosisLevels (entryGain (s.conv q).word) = [410000, 2048000, 3686000] := by rw [hg]; decide
  have only : (s.diagnosisShows q e).onlyConv
      (((s.diagnosisShows q e).setConv q { s.conv q with slot := .free }).atBoundary q (s.conv q).diagnosisEnd) q
      (s.conv q).diagnosisOver := by
    rw [atBoundary_of_kept (by rw [conv_setConv]; exact hp), conv_setConv]
    exact (onlyConv_setConv _ q _).trans (onlyConv_setConv _ q _)
  have shows : (s.diagnosisShows q e).obj (0x3200 + q) 0x19 = s.obj (0x3200 + q) 0x19 := by
    simp [State.diagnosisShows, obj_setObj_sub]
  have select := unselected_of_obj ((obj_congr only.objs (0x3200 + q) 0x19).trans shows) hu
  refine ⟨_, ?_, only⟩
  rw [diagnosisEnds_of_equal levels he (by omega) (by decide), ← cause_goesOn_of_rest _ select (by rw [only.conv]; exact hrun)]

end

/-! ## Event select and event causes (R129, R299) -/

section
variable {s : State} {t : Tk} {a : Accessor} {q : ConvNo} {bytes : Bytes} {c : Card} {x sub : Nat}

theorem valueWrite_event (s : State) (a : Accessor) (q : ConvNo) {sub : Nat} (x : Int) (h : sub = 0x19 ∨ sub = 0x1A) :
    s.valueWrite a (0x3200 + q) sub x = .ok (s.eventWrite (0x3200 + q) sub x.toNat) := by
  have hq := q.isLt
  have conv : s.valueWrite a (0x3200 + q) sub x = s.convWrite a q sub x := by
    rw [State.valueWrite, if_neg (by omega), State.highWrite, if_neg (by omega), if_neg (by omega), if_pos (by omega),
      Nat.add_sub_cancel_left]
  rw [conv]
  rcases h with rfl | rfl <;> rfl

theorem blockSource_conv (q : ConvNo) : blockSource (0x3200 + q) 0 = 256 + q := by revert q; decide

theorem followBlock_conv (s : State) (q : ConvNo) : s.followBlock (0x3200 + q) = s.followLevel (256 + q) s.now := by
  rw [State.followBlock, blockSubs_conv, ← blockSource_conv]
  exact if_neg (by omega)

theorem eventWrite_select (s : State) (q : ConvNo) (x : Nat) :
    s.eventWrite (0x3200 + q) 0x19 x = (s.setObj (0x3200 + q) 0x19 x).followLevel (256 + q) s.now := by
  rw [State.eventWrite, blockSubs_conv]
  exact followBlock_conv _ q

theorem eventWrite_causes (s : State) (q : ConvNo) (x : Nat) : s.eventWrite (0x3200 + q) 0x1A x =
    (s.setObj (0x3200 + q) 0x1A (clearBits 16 (s.objN (0x3200 + q) 0x1A) x)).followLevel (256 + q) s.now := by
  rw [State.eventWrite, blockSubs_conv]
  exact followBlock_conv _ q

/-- A write of the event select or of the event causes of a converter. -/
theorem eventWrite_completes (h : TakesWrite s t a (0x3200 + q) sub bytes c) (hx : c.written bytes = x)
    (hs : sub = 0x19 ∨ sub = 0x1A) :
    s.requestValue t a (0x3200 + q) sub bytes (fun s x => s.valueWrite a (0x3200 + q) sub x) =
      .next ((s.heard t a).answered ((s.heard t a).eventWrite (0x3200 + q) sub x)) := by
  have frame : Changes signalParts (s.heard t a) ((s.heard t a).eventWrite (0x3200 + q) sub x) := by
    rcases hs with rfl | rfl
    · rw [eventWrite_select]
      exact (changes_followLevel _ _ _).step rfl ((changes_setObj _ _ _ _).mono rfl)
    · rw [eventWrite_causes]
      exact (changes_followLevel _ _ _).step rfl ((changes_setObj _ _ _ _).mono rfl)
  refine write_completes h ?_ (owes_of_changes frame rfl rfl)
  rw [hx, valueWrite_event _ _ _ _ hs]
  rfl

end

end Sys2Proof.Machine

open Sys2Proof Sys2Proof.Machine

/-- Settles O13: what the urgent slot takes by its acceptance and start; the end of a request and of a diagnosis by the objects and the
cause that it leaves; the event objects of a converter by the source that follows them. -/
theorem urgentRequestsAndDiagnoses : Obligations.UrgentRequestsAndDiagnoses := by
  unfold Obligations.UrgentRequestsAndDiagnoses
  refine ⟨⟨?_, ?_, ?_⟩, ⟨?_, ?_⟩, ?_, ?_, ?_⟩
  -- urgent requests
  · intro s t a q v c x h hx he hs
    refine (exec_urgentRequest h hx he hs).trans ?_
    rw [State.urgentAccept, conv_heard, heard_now]
    rfl
  · intro s t q t0 r h hc hu hs hp hn
    exact congrArg Host.Outcome.next (urgentStarts_of_due (s := s.advance t) h hc hu hs hp hn)
  · intro s t q codes hc hn hl ho hs hr hp hrun hstep hu hf
    have done : (s.advance t).urgentDone q codes = true := by simp [State.urgentDone, hc, hn, hl, ho]
    obtain ⟨kept, w, ends, only⟩ := urgentEnds_of_rest (s := s.advance t) (q := q) (codes := codes) hs hr hp hrun hu
    have frame : Changes [.now, .objs, .convs, .cores] s (w.caused (0x3200 + q) 0x1A 1) :=
      (changes_caused _ _ _ _).step rfl (only.frame.step rfl ((changes_setObj _ _ _ _).step rfl
        ((changes_writeResult_of_plain (s := s.advance t) hs).step rfl ((changes_advance s t).mono rfl))))
    have goes : exec (.urgentEnd t q codes) s = .next (w.caused (0x3200 + q) 0x1A 1) := by
      refine congrArg Host.Outcome.next ((if_pos done).trans ?_)
      rw [measureTakes_of_none (s := s.advance t) hstep, ends, measureContinues_of_changes frame rfl hf]
    have lane := entryLane_lt (s.conv q).word
    refine ⟨_, goes, frame, congrArg Converter.slot only.conv, congrArg Converter.converting only.conv,
      congrArg Converter.boundary only.conv, ?_, bitOf_caused w _ _ 1, ?_⟩
    · rw [obj_caused_sub _ (by decide), obj_congr only.objs, obj_setObj]
    · rw [obj_caused_sub _ (by omega), obj_congr only.objs, obj_setObj_sub _ _ (by omega),
        writeResult_of_plain (s := s.advance t) hs]
      exact obj_newestResult_first _ _ _ _ _ _ _ _
  -- diagnoses
  · intro s t a q v c x h hx hp hg hs
    refine (exec_diagnosisCommand h hx hp hg hs).trans ?_
    rw [State.diagnosisAccept, conv_heard, heard_now]
    rfl
  · intro s t q e hc hn hrun hp _ hg h0 hm hu hf
    obtain ⟨w, ends, only⟩ := diagnosisEnds_of_rest (s := s.advance t) (q := q) hg h0 hm hp hrun hu
    have frame : Changes [.now, .objs, .convs] s (w.caused (0x3200 + q) 0x1A 2) :=
      (changes_caused _ _ _ _).step rfl (only.frame.step rfl ((changes_diagnosisShows _ _ _).step rfl
        ((changes_advance s t).mono rfl)))
    have done : (((s.advance t).conv q).converting == .diagnosis &&
        decide (((s.advance t).conv q).diagnosisEnd ≤ (s.advance t).now)) = true := by simp [hc, hn]
    have goes : exec (.diagnosisEnd t q (410000 + e) (2048000 + e) (3686000 + e)) s = .next (w.caused (0x3200 + q) 0x1A 2) := by
      refine congrArg Host.Outcome.next ((if_pos done).trans ?_)
      rw [ends, measureContinues_of_changes frame rfl hf]
    obtain ⟨offset, gain, deviation, status⟩ := obj_diagnosisShows (s.advance t) q e
    have obj : ∀ j, j ≠ 0x1A → (w.caused (0x3200 + q) 0x1A 2).obj (0x3200 + q) j =
        ((s.advance t).diagnosisShows q e).obj (0x3200 + q) j := fun j hj =>
      (obj_caused_sub w hj).trans (obj_congr only.objs _ _)
    exact ⟨_, goes, frame, congrArg Converter.slot only.conv, congrArg Converter.converting only.conv,
      (obj _ (by decide)).trans offset, (obj _ (by decide)).trans gain, (obj _ (by decide)).trans deviation,
      (obj _ (by decide)).trans status⟩
  -- event select and event causes
  · intro s t a q v c x h hx
    refine (if_pos (by rw [blockSubs_conv]; rfl)).trans ((eventWrite_completes h hx (.inl rfl)).trans ?_)
    rw [eventWrite_select, heard_now]
  · intro s t a q v c x h hx
    refine (if_pos (by rw [blockSubs_conv]; rfl)).trans ((eventWrite_completes h hx (.inr rfl)).trans ?_)
    rw [eventWrite_causes, heard_now, objN_heard]
  · intro s t a idx sub v h
    exact if_neg h
end

section
/-!
SUPPORT. Decimation chains: restarts of all four lanes that no tap and no event source sees (R133, R149), banks and swaps (R141, R142),
and synchronising resets (R147, R148).
-/

namespace Sys2Proof.Machine

/-! ## The record of one lane -/

section
variable (s : State) (n : Nat) {l m : Nat} (x : ChainLane)

theorem chain_setLane (l : Nat) :
    (s.setLane n l x).chain n = { s.chain n with lanes := Table.set {} (s.chain n).lanes l x } :=
  chain_setChain s n _

theorem lane_setLane (l : Nat) : ((s.setLane n l x).chain n).lane l = x := by
  rw [chain_setLane]
  exact Table.get_set _ _ _ _

theorem lane_setLane_other (h : m ≠ l) : ((s.setLane n l x).chain n).lane m = (s.chain n).lane m := by
  rw [chain_setLane]
  exact Table.get_set_other _ _ _ h

end

theorem blockSubs_chain (n : ChainNo) : blockSubs (0x3300 + n) = some (0x1E, 0x1F) := by revert n; decide

/-! ## Restarts that nothing but their chain sees -/

/-- A lane that has restarted, and whose first input is still to come (R133). -/
structure ChainLane.AtRestart (x : ChainLane) (r : Nat × Nat) : Prop where
  restart : x.restart = some r
  coarseIn : x.coarseIn = 0
  last : x.last = none

/-- What restarts of lanes of one chain may leave: of the objects of the chain, its event causes; of its record, its lanes and fades;
of the converters, conversions that the chain has let go. A lane that is at its restart stays there. -/
structure State.Restarts (s u : State) (n : ChainNo) (r : Nat × Nat) : Prop where
  frame : Changes [.objs, .convs, .chains] s u
  objs : ∀ j, j ≠ 0x1F → u.obj (0x3300 + n) j = s.obj (0x3300 + n) j
  sync : (u.chain n).sync = (s.chain n).sync
  origin : (u.conv n).origin = (s.conv n).origin
  lanes : ∀ m, ((s.chain n).lane m).AtRestart r → ((u.chain n).lane m).AtRestart r

/-- No tap takes what the chain gives (R399), and its event source does not follow its restarts (R154). -/
structure State.Unwatched (s : State) (n : ChainNo) : Prop where
  select : s.unselected (0x3300 + n) 0x1E 3
  taps : ∀ l, s.tapsOn n l false = [] ∧ s.tapsOn n l true = []

section
variable {s t u : State} {n : ChainNo} {r : Nat × Nat} {l : Nat}

theorem State.Restarts.refl (s : State) (n : ChainNo) (r : Nat × Nat) : s.Restarts s n r :=
  ⟨Changes.refl _ _, fun _ _ => rfl, rfl, rfl, fun _ h => h⟩

theorem State.Restarts.trans (h : s.Restarts t n r) (g : t.Restarts u n r) : s.Restarts u n r where
  frame := h.frame.trans g.frame
  objs := fun j hj => (g.objs j hj).trans (h.objs j hj)
  sync := g.sync.trans h.sync
  origin := g.origin.trans h.origin
  lanes := fun m hm => g.lanes m (h.lanes m hm)

/-- The taps on a lane depend on the zones and the mode alone. -/
theorem tapsOn_of_changes {ps : List Part} (h : Changes ps s u) (hz : ps.contains .zones = false) (hm : ps.contains .mode = false)
    (k l : Nat) (fine : Bool) : u.tapsOn k l fine = s.tapsOn k l fine := by
  have zones : u.zones = s.zones := h .zones hz
  have mode : u.mode = s.mode := h .mode hm
  simp only [State.tapsOn, State.zoneLive, State.zone, zones, mode]
  rfl

theorem State.Unwatched.of_changes {ps : List Part} (hs : s.Unwatched n) (h : Changes ps s u) (hz : ps.contains .zones = false)
    (hm : ps.contains .mode = false) (ho : u.obj (0x3300 + n) 0x1E = s.obj (0x3300 + n) 0x1E) : u.Unwatched n :=
  ⟨unselected_of_obj ho hs.select, fun l => by
    rw [tapsOn_of_changes h hz hm, tapsOn_of_changes h hz hm]
    exact hs.taps l⟩

theorem State.Restarts.unwatched (h : s.Restarts u n r) (hs : s.Unwatched n) : u.Unwatched n :=
  hs.of_changes h.frame rfl rfl (h.objs _ (by decide))

/-- A new record of a lane that is at its restart when the old one was. -/
theorem restarts_setLane {x : ChainLane} (h : ((s.chain n).lane l).AtRestart r → x.AtRestart r) :
    s.Restarts (s.setLane n l x) n r where
  frame := (changes_setLane s n l x).mono rfl
  objs := fun _ _ => rfl
  sync := by rw [chain_setLane]
  origin := rfl
  lanes := fun m hm => by
    by_cases e : m = l
    · subst e
      rw [lane_setLane]
      exact h hm
    · rwa [lane_setLane_other s n x e]

theorem restarts_setNextFrom (s : State) (n : ChainNo) (r : Nat × Nat) (l : Nat) (from' : Tk) :
    s.Restarts (s.setLane n l { (s.chain n).lane l with nextFrom := from' }) n r :=
  restarts_setLane fun hr => ⟨hr.restart, hr.coarseIn, hr.last⟩

/-- A change of the record of a chain that leaves its lanes and its reset. -/
theorem restarts_setChain {c : Chain} (hl : c.lanes = (s.chain n).lanes) (hs : c.sync = (s.chain n).sync) :
    s.Restarts (s.setChain n c) n r where
  frame := (changes_setChain s n c).mono rfl
  objs := fun _ _ => rfl
  sync := by rw [chain_setChain, hs]
  origin := rfl
  lanes := fun m hm => by rwa [chain_setChain, Chain.lane, hl]

theorem restarts_caused (s : State) (n : ChainNo) (r : Nat × Nat) (bit : Nat) : s.Restarts (s.caused (0x3300 + n) 0x1F bit) n r where
  frame := (changes_caused s _ _ _).mono rfl
  objs := fun _ hj => obj_caused_sub s hj
  sync := rfl
  origin := rfl
  lanes := fun _ hm => hm

theorem restarts_letConversions (s : State) (n : ChainNo) (r : Nat × Nat) : s.Restarts (s.letConversions n) n r := by
  unfold State.letConversions
  dsimp only
  split
  · exact .refl _ _ _
  · exact ⟨(changes_setConv s n _).mono rfl, fun _ _ => rfl, rfl, by rw [conv_setConv], fun _ hm => hm⟩

/-- The marker of a restart that no tap takes, or that waits behind an output (R399). -/
theorem restarts_markRestart (h : s.Unwatched n) (fine : Bool) (cause : Nat) : s.Restarts (s.markRestart n l fine cause) n r := by
  have taps : s.tapsOn n l fine = [] := by
    cases fine with
    | false => exact (h.taps l).1
    | true => exact (h.taps l).2
  have items : ∀ x, s.tapItems n l fine x = s := fun x => by simp [State.tapItems, taps]
  unfold State.markRestart
  extract_lets x ahead
  split
  · rw [items]
    exact .refl _ _ _
  · exact restarts_setLane (x := { x with markers := x.markers ++ [(fine, ahead, cause)] })
      fun hr => ⟨hr.restart, hr.coarseIn, hr.last⟩

/-- A lane restarts, and the others stay. -/
theorem restarts_restartLane (h : s.Unwatched n) (l cause missing stamp : Nat) (lag : Bool) :
    s.Restarts (s.restartLane n l cause missing stamp lag) n (cause, missing) ∧
      (((s.restartLane n l cause missing stamp lag).chain n).lane l).AtRestart (cause, missing) := by
  have clears : s.Restarts (s.clearLane n l (some (cause, missing)) lag) n (cause, missing) :=
    restarts_setLane fun _ => ⟨rfl, rfl, rfl⟩
  have cleared : (((s.clearLane n l (some (cause, missing)) lag).chain n).lane l).AtRestart (cause, missing) := by
    rw [State.clearLane, lane_setLane]
    exact ⟨rfl, rfl, rfl⟩
  have causes := restarts_caused (s.clearLane n l (some (cause, missing)) lag) n (cause, missing) 3
  have coarse := restarts_markRestart (l := l) (r := (cause, missing)) ((clears.trans causes).unwatched h) false cause
  have fine := restarts_markRestart (l := l) (r := (cause, missing)) (((clears.trans causes).trans coarse).unwatched h) true cause
  rw [State.restartLane, cause_of_unselected stamp (clears.unwatched h).select (blockSubs_chain n)]
  exact ⟨((clears.trans causes).trans coarse).trans fine, ((causes.trans coarse).trans fine).lanes l cleared⟩

/-- A walk over lanes each of which restarts. -/
theorem restarts_each {f : State → Nat → State} (ls : List Nat)
    (hf : ∀ t l, s.Restarts t n r → t.Restarts (f t l) n r ∧ (((f t l).chain n).lane l).AtRestart r) (ht : s.Restarts t n r) :
    t.Restarts (t.each ls f) n r ∧ ∀ l ∈ ls, (((t.each ls f).chain n).lane l).AtRestart r := by
  induction ls generalizing t with
  | nil => exact ⟨.refl _ _ _, by simp⟩
  | cons k ls ih =>
    obtain ⟨step, done⟩ := hf t k ht
    obtain ⟨rest, all⟩ := ih (ht.trans step)
    exact ⟨step.trans rest, List.forall_mem_cons.mpr ⟨rest.lanes k done, all⟩⟩

theorem cutFade_of_none (h : (s.chain n).fade = none) (at' : Tk) : s.cutFade n at' = s := by
  simp only [State.cutFade, h]

/-- A lane restarts, and takes no sample from before an instant (R148). -/
def State.laneFrom (s : State) (n cause at' l : Nat) : State :=
  let s := s.restartLane n l cause 0 at' false
  s.setLane n l { (s.chain n).lane l with nextFrom := max ((s.chain n).lane l).nextFrom at' }

theorem restarts_laneFrom (h : s.Unwatched n) (cause at' l : Nat) : s.Restarts (s.laneFrom n cause at' l) n (cause, 0) ∧
    (((s.laneFrom n cause at' l).chain n).lane l).AtRestart (cause, 0) := by
  obtain ⟨step, done⟩ := restarts_restartLane h l cause 0 at' false
  have next := restarts_setNextFrom (s.restartLane n l cause 0 at' false) n (cause, 0) l
    (max (((s.restartLane n l cause 0 at' false).chain n).lane l).nextFrom at')
  exact ⟨step.trans next, next.lanes l done⟩

theorem restartChain_of_none (h : (s.chain n).fade = none) (cause at' : Nat) : s.restartChain n cause at' =
    ((s.setChain n { s.chain n with pastFades := [] }).each (List.range 4) fun s l => s.laneFrom n cause at' l).letConversions n := by
  rw [State.restartChain, cutFade_of_none h]
  rfl

/-- All four lanes of a chain restart outside a fade (R133). -/
theorem restarts_restartChain (h : s.Unwatched n) (hf : (s.chain n).fade = none) (cause at' : Nat) :
    s.Restarts (s.restartChain n cause at') n (cause, 0) ∧
      ∀ l < 4, (((s.restartChain n cause at').chain n).lane l).AtRestart (cause, 0) := by
  have past : s.Restarts (s.setChain n { s.chain n with pastFades := [] }) n (cause, 0) := restarts_setChain rfl rfl
  obtain ⟨walk, lanes⟩ := restarts_each (f := fun s l => s.laneFrom n cause at' l) (List.range 4)
    (fun _ l ht => restarts_laneFrom (ht.unwatched (past.unwatched h)) cause at' l) (.refl _ _ _)
  have lets := restarts_letConversions ((s.setChain n { s.chain n with pastFades := [] }).each (List.range 4) fun s l =>
    s.laneFrom n cause at' l) n (cause, 0)
  rw [restartChain_of_none hf]
  exact ⟨(past.trans walk).trans lets, fun l hl => lets.lanes l (lanes l (List.mem_range.mpr hl))⟩

end

/-! ## Configuration (R149) -/

section
variable {s : State} {t : Tk} {a : Accessor} {n : ChainNo} {sub v x : Nat} {c : Card}

theorem chainIsLocked_heard (s : State) (t : Tk) (a : Accessor) (n : Nat) : (s.heard t a).chainIsLocked n = s.chainIsLocked n := by
  rw [heard_eq]
  rfl

theorem exec_chainConfigWrite (h : chainLocked sub = true) : exec (.chainConfigWrite t a n sub v) s =
    s.requestValue t a (0x3300 + n) sub (natLe (if 0x20 ≤ sub ∨ sub ∈ [1, 3, 4, 6, 8] then 2 else 1) v)
      fun s x => s.chainConfig n sub x.toNat := by
  simp only [exec, execChainConfigWrite, h, if_true, State.requestValue]

theorem chainConfig_of_locked (h : s.chainIsLocked n = true) : s.chainConfig n sub x = refuse 0x0F010501 := by
  rw [State.chainConfig, h]
  rfl

theorem chainConfig_of_free (h : s.chainIsLocked n = false)
    (hv : sub ≤ 9 → chainValid (fun k => if k = sub then x else s.objN (0x3300 + n) k) (s.objN (0x3200 + n) 2) = true) :
    s.chainConfig n sub x = .ok ((s.setObj (0x3300 + n) sub x).restartChain n 4 s.now) := by
  have valid : (decide (1 ≤ sub) && decide (sub ≤ 9) &&
      !chainValid (fun k => if k = sub then x else s.chainSet n k) (s.objN (0x3200 + n) 2)) = false := by
    by_cases le : sub ≤ 9
    · simp only [State.chainSet, hv le, Bool.not_true, Bool.and_false]
    · simp only [decide_eq_false le, Bool.and_false, Bool.false_and]
  simp only [State.chainConfig, h, valid, refuseIf_false, ok_bind]
  rfl

end

/-! ## Banks and swaps (R141, R142) -/

section
variable {s : State} {n : ChainNo} {bk : Bank} {bytes : Bytes}

/-- The subindex of a bank. -/
def bankSub : Bank → Nat
  | .a => 0x18
  | .b => 0x19

/-- The other bank takes the leading coefficients, and the rest of it stays. -/
theorem bankStore_of_inactive (hr : bankInRange bytes = true) (hf : (s.chain n).fade = none) (ha : (s.chain n).active ≠ bk) :
    s.bankStore n bk bytes = .ok (s.setBlob (0x3300 + n) (bankSub bk)
      (bytes ++ (s.blob (0x3300 + n) (bankSub bk)).drop bytes.length)) := by
  simp only [State.bankStore, hr, hf, beq_eq_false_iff_ne.mpr ha, Bool.not_true, Option.isSome_none, refuseIf_false, ok_bind]
  cases bk <;> rfl

/-- The bank in use takes no write. -/
theorem bankStore_of_active (hr : bankInRange bytes = true) (hf : (s.chain n).fade = none) (ha : (s.chain n).active = bk) :
    s.bankStore n bk bytes = refuse 0x0F010503 := by
  simp only [State.bankStore, hr, hf, ha, Bool.not_true, Option.isSome_none, refuseIf_false, ok_bind, beq_self_eq_true]
  rfl

/-- A write of a DOMAIN that passes every check of R442 and that its effect refuses leaves an answer with the abort code. -/
theorem bytes_refuse {t : Tk} {a : Accessor} {idx sub : Nat} {c : Card} (h : TakesBytes s t a idx sub bytes c) {code : Nat}
    {k : State → Bytes → Res} (hk : k (s.heard t a) bytes = refuse code) :
    s.requestBytes t a idx sub bytes k = .next ((s.heard t a).refusedWith code) := by
  rw [State.requestBytes, request_served h.served h.turn, guardBytes_ok h, hk, finish_refuse]

/-- A fade to the other bank starts on the grid. -/
theorem startSwap_of_other (h : (s.chain n).active ≠ bk) (at' : Tk) : ∃ past,
    s.startSwap n bk at' = s.setChain n { s.chain n with pastFades := past, fade := some (s.fadeTo n bk at') } :=
  ⟨_, if_neg h⟩

theorem startSwap_of_active (h : (s.chain n).active = bk) (at' : Tk) : s.startSwap n bk at' = s := if_pos h

/-- A fade has the settings that its chain has, whatever swap is requested. -/
theorem fadeTo_request (s : State) (t : Tk) (a : Accessor) (n : ChainNo) (bk : Bank) (v : Int) (at' : Tk) :
    ((s.heard t a).setObj (0x3300 + n) 0x1B v).fadeTo n bk at' = s.fadeTo n bk at' := by
  have own : ∀ j, j ≠ 0x1B → ((s.heard t a).setObj (0x3300 + n) 0x1B v).objN (0x3300 + n) j = s.objN (0x3300 + n) j :=
    fun j hj => by rw [State.objN, obj_setObj_sub _ _ hj, obj_heard, State.objN]
  have period : ((s.heard t a).setObj (0x3300 + n) 0x1B v).objN (0x3200 + n) 0x18 = s.objN (0x3200 + n) 0x18 := by
    rw [State.objN, obj_setObj_other _ _ (by simp only [objKey]; omega), obj_heard, State.objN]
  simp [State.fadeTo, State.fineDecimation, State.chainSet, own, period]

theorem swapWrite_of_none (h : (s.chain n).fade = none) (v : Nat) :
    s.swapWrite n v = (s.setObj (0x3300 + n) 0x1B v).startSwap n (bankOf v) s.now := by
  simp [State.swapWrite, h]

/-- The record of a chain whose fade has ended, with no request held. -/
def Chain.fadeOver (c : Chain) (f : Fade) : Chain :=
  { c with fade := none, pastFades := f :: c.pastFades, heldSwap := none, active := f.target }

/-- At the end of a fade its target is the active bank, and nothing else starts. -/
theorem fadeEnds_of_due {f : Fade} (h : (s.chain n).fade = some f) (hn : f.finish ≤ s.now) (hh : (s.chain n).heldSwap = none)
    (hu : s.unselected (0x3300 + n) 0x1E 2) : s.fadeEnds n =
      ((s.setChain n ((s.chain n).fadeOver f)).setObj (0x3300 + n) 0x1A (bankCode f.target)).caused (0x3300 + n) 0x1F 2 := by
  have select := unselected_of_obj (obj_setObj_sub (s.setChain n ((s.chain n).fadeOver f)) (bankCode f.target)
    (show 0x1E ≠ 0x1A by decide)) hu
  rw [← cause_of_unselected f.finish select (blockSubs_chain n)]
  simp only [State.fadeEnds, State.finishFade, h, hh, if_neg (Nat.not_lt.mpr hn)]
  rfl

end

/-! ## Synchronising resets (R147, R148) -/

section
variable {s t u : State} {n : ChainNo}

/-- A walk over the chains that sets the record of some, each from the state before the walk. -/
theorem chain_each_setChain {f : State → Nat → State} {p : Nat → Prop} [DecidablePred p] {g : Nat → Chain} {ns : List Nat}
    (hd : ns.Nodup) (hf : ∀ t m, Changes [.chains] s t → t.chain m = s.chain m → f t m = if p m then t.setChain m (g m) else t)
    (h : Changes [.chains] s t) (ht : ∀ m ∈ ns, t.chain m = s.chain m) : Changes [.chains] s (t.each ns f) ∧
      ∀ m, (t.each ns f).chain m = if m ∈ ns ∧ p m then g m else t.chain m := by
  induction ns generalizing t with
  | nil => exact ⟨h, fun m => by simp [State.each]⟩
  | cons k ns ih =>
    obtain ⟨fresh, rest⟩ := List.nodup_cons.mp hd
    have step : f t k = if p k then t.setChain k (g k) else t := hf t k h (ht k (by simp))
    have frame : Changes [.chains] s (f t k) := by
      rw [step]
      exact Changes.ite (h.trans (changes_setChain t k _)) h
    have others : ∀ m, m ≠ k → (f t k).chain m = t.chain m := fun m hm => by
      rw [step]
      split
      · exact chain_setChain_other t _ hm
      · rfl
    have own : (f t k).chain k = if p k then g k else t.chain k := by
      rw [step]
      split
      · exact chain_setChain t k _
      · rfl
    obtain ⟨walk, all⟩ := ih rest frame fun m hm =>
      (others m fun e => fresh (e ▸ hm)).trans (ht m (List.mem_cons_of_mem _ hm))
    refine ⟨walk, fun m => (all m).trans ?_⟩
    by_cases e : m = k
    · subst e
      simpa [fresh] using own
    · simp [e, others m e]

/-- The record of a chain on which an event acts: its reset comes at the first multiple of 40 tk that lies 400 tk on (R147). -/
def Chain.resets (c : Chain) (stamp : Tk) (command : Bool) : Chain :=
  { c with sync := some (nextGrid 0 40 (stamp + 400)), syncEvent := (stamp, command) }

theorem syncRequest_of_none {m : Nat} (h : (s.chain m).sync = none) (stamp : Tk) (command : Bool) :
    s.syncRequest m stamp command = s.setChain m ((s.chain m).resets stamp command) := by
  simp [State.syncRequest, Chain.resets, h]

/-- The claims of a converter are claims on ports or on the cycle: what holds them are the claims that were taken. -/
theorem claimsAbort_convClaims (h : u.claims = s.claims) (who m : Nat) :
    u.claimsAbort who (convClaims m) = s.claimsAbort who (convClaims m) := by
  have holds : ∀ cls k, cls ≠ clsQueue → u.claimAbort who cls k = s.claimAbort who cls k := fun cls k hc => by
    simp only [State.claimAbort, State.holder, State.claimOf, beq_eq_false_iff_ne.mpr hc, Bool.false_and, h, Bool.false_eq_true,
      if_false]
  unfold convClaims
  split
  · simp only [State.claimsAbort, quadClaims, List.findSome?_map, Function.comp_def, holds clsPort _ (by decide)]
  · simp only [State.claimsAbort, List.findSome?_cons, List.findSome?_nil, holds clsCycle _ (by decide)]

/-- A command resets the chains of its groups whose claims its session holds. -/
theorem syncGroup_of_none (h : ∀ m, (s.chain m).sync = none) (who mask : Nat) (stamp : Tk) :
    Changes [.chains] s (s.syncGroup who mask stamp) ∧ ∀ m < 72, (s.syncGroup who mask stamp).chain m =
      if (s.objN (0x3300 + m) 0x10 &&& mask &&& 0xFE) ≠ 0 ∧ s.claimsAbort who (convClaims m) = none then
        (s.chain m).resets stamp true
      else s.chain m := by
  obtain ⟨frame, all⟩ := chain_each_setChain (s := s) (t := s) (ns := List.range 72) (g := fun m => (s.chain m).resets stamp true)
    (p := fun m => (s.objN (0x3300 + m) 0x10 &&& mask &&& 0xFE) ≠ 0 ∧ s.claimsAbort who (convClaims m) = none)
    (f := fun t m => if (t.chainSet m 0x10 &&& mask &&& 0xFE) != 0 && (t.claimsAbort who (convClaims m)).isNone then
      t.syncRequest m stamp true else t) List.nodup_range
    (fun t m ht hm => by
      rw [syncRequest_of_none (hm ▸ h m), hm, claimsAbort_convClaims (ht .claims rfl), State.chainSet, objN_congr (ht .objs rfl)]
      simp only [Bool.and_eq_true, bne_iff_ne, Option.isNone_iff_eq_none]) (Changes.refl _ _) fun _ _ => rfl
  exact ⟨frame, fun m hm => (all m).trans (by simp [hm])⟩

/-- An edge of the SYNC input resets the chains that select it. -/
theorem syncEdge_of_none (h : ∀ m, (s.chain m).sync = none) (hs : s.syncs = true) (ho : s.obj 0x2300 6 = 0) (stamp : Tk) :
    Changes [.chains] s (s.syncEdge stamp) ∧ ∀ m < 72, (s.syncEdge stamp).chain m =
      if bitOf (s.objN (0x3300 + m) 0x10) 0 then (s.chain m).resets stamp false else s.chain m := by
  have walk : s.syncEdge stamp = s.each (List.range 72) fun t m =>
      if bitOf (t.chainSet m 0x10) 0 then t.syncRequest m stamp false else t := by
    simp [State.syncEdge, hs, ho]
  obtain ⟨frame, all⟩ := chain_each_setChain (s := s) (t := s) (ns := List.range 72) (g := fun m => (s.chain m).resets stamp false)
    (p := fun m => bitOf (s.objN (0x3300 + m) 0x10) 0)
    (f := fun t m => if bitOf (t.chainSet m 0x10) 0 then t.syncRequest m stamp false else t) List.nodup_range
    (fun t m ht hm => by
      rw [syncRequest_of_none (hm ▸ h m), hm, State.chainSet, objN_congr (ht .objs rfl)]) (Changes.refl _ _) fun _ _ => rfl
  rw [walk]
  exact ⟨frame, fun m hm => (all m).trans (by simp [hm])⟩

/-- The grid of a converter takes a new origin, whatever it converts. -/
theorem regrid_eq (s : State) (q : Nat) (at' : Tk) : ∃ c : Converter, s.regrid q at' = s.setConv q c ∧ c.origin = at' := by
  unfold State.regrid
  dsimp only
  split
  · exact ⟨_, rfl, rfl⟩
  · split
    · exact ⟨_, rfl, rfl⟩
    · exact ⟨_, rfl, rfl⟩

/-- The reset of a chain outside a fade: the grid has its new origin, and the lanes are at their restart. -/
theorem syncResetAt_of_due {ts : Tk} (h : (s.chain n).sync = some ts) (hn : ts ≤ s.now) (hf : (s.chain n).fade = none)
    (hw : s.Unwatched n) (hu : s.unselected (0x3300 + n) 0x1E 1) :
    ∃ w : State, s.syncResetAt n = (w.setObj (0x3300 + n) 0x13 ts).caused (0x3300 + n) 0x1F 1 ∧
      Changes [.objs, .convs, .chains] s w ∧ (w.chain n).sync = none ∧ (w.conv n).origin = ts ∧
      ∀ l < 4, ((w.chain n).lane l).AtRestart (0, 0) := by
  obtain ⟨c, grid, origin⟩ := regrid_eq (s.setChain n { s.chain n with sync := none }) n ts
  have frame : Changes [.objs, .convs, .chains] s ((s.setChain n { s.chain n with sync := none }).setConv n c) :=
    (changes_setConv _ n c).step rfl ((changes_setChain s n _).mono rfl)
  obtain ⟨restarts, lanes⟩ := restarts_restartChain (n := n)
    (s := (s.setChain n { s.chain n with sync := none }).setConv n c) (hw.of_changes frame rfl rfl rfl)
    (by rw [chain_setConv, chain_setChain]; exact hf) 0 ts
  refine ⟨_, ?_, frame.trans restarts.frame, ?_, ?_, lanes⟩
  · have select := unselected_of_obj ((obj_setObj_sub _ (ts : Int) (show 0x1E ≠ 0x13 by decide)).trans
      (restarts.objs 0x1E (by decide))) hu
    rw [← cause_of_unselected ts select (blockSubs_chain n), ← grid]
    simp only [State.syncResetAt, h, if_neg (Nat.not_lt.mpr hn)]
  · rw [restarts.sync, chain_setConv, chain_setChain]
  · rw [restarts.origin, conv_setConv, origin]

end

end Sys2Proof.Machine

open Sys2Proof Sys2Proof.Machine

/-- Settles O15: a configuration write by the restart of the four lanes; banks and swaps by the bank that is active; a reset by the
chains that its event reaches, and by what it leaves at its instant. -/
theorem chainsAreSet : Obligations.ChainsAreSet := by
  unfold Obligations.ChainsAreSet
  refine ⟨⟨?_, ?_, ?_, ?_⟩, ⟨?_, ?_, ?_⟩, ?_, ?_, ?_⟩
  -- configuration and banks
  · intro s t a n sub v c x hl h hx hfree hvalid hf hu htaps
    have apart : sub ≠ 0x1E ∧ sub ≠ 0x1F := by constructor <;> rintro rfl <;> exact absurd hl (by decide)
    have heard : (s.heard t a).Unwatched n := ⟨unselected_of_obj (obj_heard _ _ _ _ _) hu, fun l => by
      rw [heard_eq]
      exact htaps l⟩
    have watch := heard.of_changes (changes_setObj (s.heard t a) (0x3300 + n) sub x) rfl rfl (obj_setObj_sub _ _ apart.1.symm)
    obtain ⟨restarts, lanes⟩ := restarts_restartChain watch (by rw [chain_setObj, chain_heard]; exact hf) 4 (s.heard t a).now
    have frame := restarts.frame.step (l := [.objs, .convs, .chains]) rfl ((changes_setObj (s.heard t a) _ _ _).mono rfl)
    refine ⟨_, ?_, frame, ?_, fun l hl => ⟨(lanes l hl).restart, (lanes l hl).coarseIn, (lanes l hl).last⟩⟩
    · rw [exec_chainConfigWrite hl]
      refine write_completes h ?_ (owes_of_changes frame rfl rfl)
      rw [hx, Int.toNat_natCast]
      exact chainConfig_of_free (by rwa [chainIsLocked_heard]) (by simpa only [objN_heard] using hvalid)
    · rw [restarts.objs sub apart.2, obj_setObj]
  · intro s t a n sub v c hl h hlocked
    rw [exec_chainConfigWrite hl]
    exact write_refuses h (chainConfig_of_locked (by rwa [chainIsLocked_heard]))
  · intro s t a n bytes c h _ _ hr hf ha
    have stores : (s.heard t a).bankStore n .b bytes = _ :=
      bankStore_of_inactive hr (by rwa [chain_heard]) (by rw [chain_heard, ha]; decide)
    refine (bytes_complete h (k := fun s b => s.bankStore n .b b) stores (owes_of_eq rfl rfl rfl)).trans ?_
    rw [blob_heard]
    rfl
  · intro s t a n bytes c h _ _ hr hf ha
    exact bytes_refuse h (k := fun s b => s.bankStore n .a b)
      (bankStore_of_active hr (by rwa [chain_heard]) (by rwa [chain_heard]))
  -- swaps
  · intro s t a n c h hv hf ha
    obtain ⟨past, starts⟩ := startSwap_of_other (s := (s.heard t a).setObj (0x3300 + n) 0x1B 1) (n := n) (bk := .b)
      (by rw [chain_setObj, chain_heard, ha]; decide) (max s.now t)
    rw [fadeTo_request, chain_setObj, chain_heard] at starts
    refine ⟨past, write_completes h (k := fun s x => .ok (s.swapWrite n x.toNat)) ?_ (owes_of_eq rfl rfl rfl)⟩
    rw [hv, swapWrite_of_none (by rwa [chain_heard]), heard_now]
    exact congrArg Except.ok starts
  · intro s t a n c h hv hf ha
    refine write_completes h (k := fun s x => .ok (s.swapWrite n x.toNat)) ?_ (owes_of_eq rfl rfl rfl)
    rw [hv, swapWrite_of_none (by rwa [chain_heard])]
    exact congrArg Except.ok (startSwap_of_active (by rw [chain_setObj, chain_heard, ha]; rfl) _)
  · intro s t n f h hn hh hu
    have ends := fadeEnds_of_due (s := s.advance t) h hn hh hu
    refine ⟨_, congrArg Host.Outcome.next ends, ?_, ?_, ?_, bitOf_caused _ _ _ 2⟩
    · exact (changes_caused _ _ _ _).step rfl ((changes_setObj _ _ _ _).step rfl ((changes_setChain _ _ _).step rfl
        ((changes_advance s t).mono rfl)))
    · exact chain_setChain _ _ _
    · rw [obj_caused_sub _ (by decide), obj_setObj]
  -- synchronising resets
  · intro s t a n v c x h hx hnone
    obtain ⟨frame, chains⟩ := syncGroup_of_none (s := s.heard t a) (by simpa using hnone) (s.sessionOf a) x (max s.now t)
    refine ⟨_, ?_, frame, fun m hm => (chains m hm).trans ?_⟩
    · refine write_completes h (k := fun s x => .ok (s.syncGroup (s.sessionOf a) x.toNat s.now)) ?_ (owes_of_changes frame rfl rfl)
      rw [hx, sessionOf_heard, heard_now]
      rfl
    · rw [objN_heard, chain_heard, claimsAbort_convClaims (heard_claims s t a)]
      rfl
  · intro s t stamp hin hs ho hnone
    obtain ⟨frame, chains⟩ := syncEdge_of_none (s := { s.advance t with timebase := { s.timebase with syncIn := none } })
      hnone hs ho stamp
    have taken : Changes [.now, .timebase, .chains] s { s.advance t with timebase := { s.timebase with syncIn := none } } :=
      (changes_iff _ _ _).mpr rfl
    refine ⟨_, if_pos hin, frame.step rfl taken, ?_, chains⟩
    exact congrArg Timebase.syncIn (frame .timebase rfl)
  · intro s t n ts h hn hf hu hu3 htaps
    obtain ⟨w, resets, frame, sync, origin, lanes⟩ := syncResetAt_of_due (s := s.advance t) h hn hf ⟨hu3, htaps⟩ hu
    refine ⟨_, congrArg Host.Outcome.next resets, ?_, sync, origin, ?_, bitOf_caused _ _ _ 1,
      fun l hl => ⟨(lanes l hl).restart, (lanes l hl).last⟩⟩
    · exact (changes_caused _ _ _ _).step rfl ((changes_setObj _ _ _ _).step rfl (frame.step rfl
        ((changes_advance s t).mono rfl)))
    · rw [obj_caused_sub _ (by decide), obj_setObj]
end

section
/-!
SUPPORT. What the operations of the net mapper leave alone: the record of the map, and the object that shows how a map went (0x3401),
from which its end is read (R187, R191).
-/

namespace Sys2Proof.Machine

/-! ## Objects of one index -/

/-- `u` has every object of an index as `s` had it. -/
def Leaves (i : Nat) (s u : State) : Prop := ∀ sub < 256, u.obj i sub = s.obj i sub

section
variable {i : Nat} {s t u : State}

theorem Leaves.refl (i : Nat) (s : State) : Leaves i s s := fun _ _ => rfl

theorem Leaves.trans (h : Leaves i s t) (g : Leaves i t u) : Leaves i s u := fun sub hs => (g sub hs).trans (h sub hs)

theorem Leaves.ite {c : Prop} [Decidable c] {v : State} (hu : Leaves i s u) (hv : Leaves i s v) :
    Leaves i s (if c then u else v) := by
  split
  · exact hu
  · exact hv

theorem Leaves.foldl {β : Type} {f : State → β → State} (xs : List β) (hf : ∀ t, ∀ x ∈ xs, Leaves i t (f t x)) (s : State) :
    Leaves i s (xs.foldl f s) := by
  induction xs generalizing s with
  | nil => exact .refl i s
  | cons x xs ih => exact (hf s x (by simp)).trans (ih (fun t y hy => hf t y (by simp [hy])) _)

/-- What leaves all objects leaves those of the index. -/
theorem Changes.leaves {l : List Part} (h : Changes l s u) (hl : l.contains .objs = false) : Leaves i s u :=
  fun _ _ => obj_congr (h .objs hl) _ _

/-- A happening leaves the objects of an index that none of its kind writes. -/
theorem HappensOnly.leaves (h : HappensOnly s u) (hi : happens i = false) : Leaves i s u := fun sub hs => h _ (by
  rw [objKey, show (i * 256 + sub) / 256 = i by omega]
  exact hi)

theorem leaves_setObj {j k : Nat} (s : State) (v : Int) (hi : i ≠ j) (hk : k < 256 := by omega) : Leaves i s (s.setObj j k v) :=
  fun _ hs => obj_setObj_other s v (by simp only [objKey]; omega)

theorem leaves_countUp {j k : Nat} (s : State) (d : Nat) (hi : i ≠ j) (hk : k < 256 := by omega) :
    Leaves i s (s.countUp j k d) :=
  leaves_setObj s _ hi hk

end

/-! ## The causes of the mapper (R188) -/

/-- A happening that is no cause of the mapper, and names a converter or trigger output of the device. -/
def Signal.sparesMapper : Signal → Prop
  | .cause idx _ _ => idx ≠ 0x3400
  | .edge _ _ _ => True
  | .trigger q _ _ _ => q < 72
  | .request o _ _ _ => o < 4

/-- Nothing sets off a cause of the mapper. -/
theorem signalOnce_sparesMapper (s : State) (x : Signal) (hx : x.reaches) : ∀ y ∈ (s.signalOnce x).2, y.sparesMapper := by
  cases x with
  | cause idx bit stamp =>
    unfold State.signalOnce
    dsimp only
    split
    · split <;> simp [Signal.sparesMapper]
    · simp
  | edge n stamp rising =>
    intro y hy
    simp only [State.signalOnce, List.mem_append, List.mem_map, List.mem_filter, List.mem_range] at hy
    rcases hy with ⟨q, ⟨hq, -⟩, rfl⟩ | ⟨o, ⟨ho, -⟩, rfl⟩
    · exact hq
    · exact ho
  | trigger q stamp command arrived =>
    have hq : 0x3200 + q ≠ 0x3400 := by simp only [Signal.reaches] at hx; omega
    unfold State.signalOnce
    dsimp only
    split
    · simpa [Signal.sparesMapper] using hq
    · split
      · simpa [Signal.sparesMapper] using hq
      · simp
  | request o stamp command arrived =>
    unfold State.signalOnce
    dsimp only
    split <;> simp [Signal.sparesMapper]

theorem Signal.sparesMapper.reaches {x : Signal} (h : x.sparesMapper) : x.reaches := by
  cases x with
  | cause => trivial
  | edge => trivial
  | trigger => exact h
  | request => exact h

theorem leaves_arrival (s : State) (n stamp : Nat) : Leaves 0x3400 s (s.arrival n stamp) := by
  have set := fun x => (changes_setSource s n x).leaves (i := 0x3400) rfl
  exact .ite ((set _).trans (leaves_countUp _ _ (by decide))) ((set _).trans ((changes_settleSource _ n false).leaves rfl))

theorem leaves_controllerEdge (s : State) (n stamp : Nat) (rising : Bool) :
    Leaves 0x3400 s (s.controllerEdge n stamp rising) := by
  have same := Leaves.refl 0x3400 s
  have arrives := leaves_arrival s n stamp
  unfold State.controllerEdge
  split
  · exact same
  · split
    · exact .ite (.ite (leaves_arrival s n _) same) same
    · exact .ite arrives same
    · exact .ite same arrives
    · exact arrives

theorem leaves_setLevel (s : State) (n : Nat) (level : Bool) (stamp : Tk) : Leaves 0x3400 s (s.setLevel n level stamp) := by
  have set := fun x => (changes_setSource s n x).leaves (i := 0x3400) rfl
  exact .ite ((set _).trans (leaves_countUp _ _ (by decide))) (set _)

theorem leaves_signalOnce (s : State) (x : Signal) (hx : x.sparesMapper) : Leaves 0x3400 s (s.signalOnce x).1 := by
  cases x with
  | cause idx bit stamp =>
    unfold State.signalOnce
    dsimp only
    split
    next h => exact leaves_setObj s _ (Ne.symm hx) (blockSubs_spares h).2
    next => exact .refl _ s
  | edge n stamp rising =>
    exact ((leaves_setLevel s n rising stamp).trans (leaves_controllerEdge _ n stamp rising)).trans
      ((changes_edgeToSteps _ n stamp rising).leaves rfl)
  | trigger q stamp command arrived =>
    have set := fun c => (changes_setConv s q c).leaves (i := 0x3400) rfl
    have hq : 0x3400 ≠ 0x3200 + q := by simp only [Signal.sparesMapper] at hx; omega
    unfold State.signalOnce
    dsimp only
    split
    · exact leaves_countUp s _ hq
    · split
      · exact (set _).trans (leaves_countUp _ _ hq)
      · exact set _
  | request o stamp command arrived =>
    have ho : 0x3400 ≠ 0x2310 + o := by simp only [Signal.sparesMapper] at hx; omega
    unfold State.signalOnce
    dsimp only
    split
    · exact leaves_countUp s _ ho
    · exact (changes_setTrigOut s o _).leaves rfl

theorem leaves_signal (fuel : Nat) (s : State) (x : Signal) (hx : x.sparesMapper) : Leaves 0x3400 s (s.signal fuel x) := by
  induction fuel generalizing s x with
  | zero => exact .refl _ s
  | succ fuel ih =>
    exact (leaves_signalOnce s x hx).trans
      (.foldl _ (fun t y hy => ih t y (signalOnce_sparesMapper s x hx.reaches y hy)) _)

/-- A cause of the mapper stands after all that it sets off. -/
theorem bitOf_cause_mapper (s : State) (bit stamp : Nat) : bitOf ((s.cause 0x3400 bit stamp).objN 0x3400 0x19) bit = true := by
  have later : Leaves 0x3400 (s.signalOnce (.cause 0x3400 bit stamp)).1 (s.cause 0x3400 bit stamp) :=
    .foldl _ (fun t y hy => leaves_signal 11 t y (signalOnce_sparesMapper s (.cause 0x3400 bit stamp) trivial y hy)) _
  have first : (s.signalOnce (.cause 0x3400 bit stamp)).1 = s.caused 0x3400 0x19 bit := rfl
  rw [State.objN, later 0x19 (by decide), first]
  exact bitOf_caused s 0x3400 0x19 bit

/-! ## Restarts of chains -/

theorem happens_zone {z : Nat} (hz : z < 16) : happens (0x2720 + z) = true := by
  have all : ∀ z : Fin 16, happens (0x2720 + z) = true := by decide
  exact all ⟨z, hz⟩

theorem happens_chain {n : Nat} (hn : n < 72) : happens (0x3300 + n) = true := by
  simp [happens, blockSubs_chain ⟨n, hn⟩]

/-- Taps belong to the zones of the device. -/
theorem zone_of_mem_tapsOn {s : State} {n l : Nat} {fine : Bool} {x : Nat × Nat} (h : x ∈ s.tapsOn n l fine) : x.1 < 16 := by
  simp only [State.tapsOn, List.mem_flatMap, List.mem_range] at h
  obtain ⟨z, hz, hx⟩ := h
  split at hx
  · cases hx
  · obtain ⟨y, -, hy⟩ := List.mem_filterMap.mp hx
    split at hy
    · cases hy
      exact hz
    · cases hy

theorem happensOnly_tapItems (s : State) (n l : Nat) (fine : Bool) (x : TapItem) : HappensOnly s (s.tapItems n l fine x) := by
  refine .ite (.refl s) (.foldl _ (fun t z hz => ?_) s)
  have zone := happens_zone (zone_of_mem_tapsOn hz)
  exact .ite ((happensOnly_countUp t _ zone).trans (happensOnly_cause _ _ _ _)) ((changes_setZone t _ _).happensOnly rfl)

theorem happensOnly_markRestart (s : State) (n l : Nat) (fine : Bool) (cause : Nat) :
    HappensOnly s (s.markRestart n l fine cause) :=
  .ite (happensOnly_tapItems s n l fine _) ((changes_setLane s n l _).happensOnly rfl)

theorem happensOnly_restartLane (s : State) (n l cause missing stamp : Nat) (lag : Bool) :
    HappensOnly s (s.restartLane n l cause missing stamp lag) :=
  ((((changes_setLane s n l _).happensOnly rfl).trans (happensOnly_cause _ _ _ _)).trans (happensOnly_markRestart _ _ _ _ _)).trans
    (happensOnly_markRestart _ _ _ _ _)

theorem happensOnly_cutFade (s : State) {n : Nat} (hn : n < 72) (at' : Tk) : HappensOnly s (s.cutFade n at') := by
  unfold State.cutFade
  dsimp only
  split
  · exact .refl s
  · exact (((changes_setChain s n _).happensOnly rfl).trans (happensOnly_setObj _ _ (happens_chain hn))).trans
      (happensOnly_cause _ _ _ _)

/-- The restart of a chain of the device writes what happenings write. -/
theorem happensOnly_restartChain (s : State) {n : Nat} (hn : n < 72) (cause at' : Nat) :
    HappensOnly s (s.restartChain n cause at') := by
  unfold State.restartChain
  extract_lets u c v w
  have hv : HappensOnly s v := (happensOnly_cutFade s hn at').trans ((changes_setChain _ _ _).happensOnly rfl)
  have hw : HappensOnly v w := .foldl _ (fun t l _ => (happensOnly_restartLane t n l cause 0 at' false).trans
    ((changes_setLane _ _ _ _).happensOnly rfl)) v
  exact (hv.trans hw).trans ((changes_letConversions _ _).happensOnly rfl)

/-! ## The record of the map and what it shows -/

/-- `u` has the record of the map, and the object that shows how a map went, as `s` had them. -/
structure MapApart (s u : State) : Prop where
  map : u.map = s.map
  shown : Leaves 0x3401 s u

section
variable {s t u : State}

theorem MapApart.refl (s : State) : MapApart s s := ⟨rfl, .refl _ s⟩

theorem MapApart.trans (h : MapApart s t) (g : MapApart t u) : MapApart s u := ⟨g.map.trans h.map, h.shown.trans g.shown⟩

theorem MapApart.ite {c : Prop} [Decidable c] {v : State} (hu : MapApart s u) (hv : MapApart s v) :
    MapApart s (if c then u else v) := by
  split
  · exact hu
  · exact hv

theorem MapApart.foldl {β : Type} {f : State → β → State} (xs : List β) (hf : ∀ t, ∀ x ∈ xs, MapApart t (f t x)) (s : State) :
    MapApart s (xs.foldl f s) := by
  induction xs generalizing s with
  | nil => exact .refl s
  | cons x xs ih => exact (hf s x (by simp)).trans (ih (fun t y hy => hf t y (by simp [hy])) _)

/-- Happenings leave the record of a map where their parts do. -/
theorem Changes.mapApart {l : List Part} (h : Changes l s u) (hm : l.contains .map = false) (g : HappensOnly s u) : MapApart s u :=
  ⟨h .map hm, g.leaves (by decide)⟩

/-- So does what leaves all objects. -/
theorem Changes.mapApart_of_objs {l : List Part} (h : Changes l s u) (hm : l.contains .map = false) (ho : l.contains .objs = false) :
    MapApart s u :=
  ⟨h .map hm, h.leaves ho⟩

end

section
variable (s : State)

theorem mapApart_setObj {i j : Nat} (v : Int) (hi : 0x3401 ≠ i) (hj : j < 256 := by omega) : MapApart s (s.setObj i j v) :=
  ⟨rfl, leaves_setObj s v hi hj⟩

theorem mapApart_cause (idx bit stamp : Nat) : MapApart s (s.cause idx bit stamp) :=
  (changes_cause s idx bit stamp).mapApart rfl (happensOnly_cause s idx bit stamp)

theorem mapApart_mapWrites (e : NewEntry) : MapApart s (s.mapWrites e) :=
  (spares_blockEntryTo s _ e).changes.mapApart rfl (happensOnly_blockEntryTo s _ e)

theorem mapApart_setGrants (m : Nat) (dies : List Nat) : MapApart s (s.setGrants m dies) :=
  (mapApart_setObj s _ (by decide)).trans (.foldl _ (fun t d hd => by
    have := List.mem_range.mp hd
    exact mapApart_setObj t _ (by decide)) _)

theorem mapApart_restartChain {n : Nat} (hn : n < 72) (cause at' : Nat) : MapApart s (s.restartChain n cause at') :=
  (changes_restartChain s n cause at').mapApart rfl (happensOnly_restartChain s hn cause at')

end

/-- A map holds converters of the device. -/
theorem Map.held_lt {m : Map} {q : Nat} (h : q ∈ m.held) : q < 72 := by
  simp only [Map.held, Map.quads, List.mem_append, List.mem_filter, List.mem_range] at h
  rcases h with ⟨hq, -⟩ | h
  · omega
  · split at h
    · obtain ⟨k, hk, rfl⟩ := List.mem_map.mp h
      have := List.mem_range.mp hk
      omega
    · cases h

/-- The tails of grants are none of what a map shows. -/
theorem mapApart_disp (s : State) (d : Dispatcher) : MapApart s { s with disp := d } := ⟨rfl, fun _ _ => rfl⟩

/-- A map that releases what it holds keeps its record. -/
theorem mapApart_mapReleases (s : State) : MapApart s s.mapReleases := by
  unfold State.mapReleases
  extract_lets m u free v
  have hu : MapApart s u := .ite (.foldl _ (fun t n _ => (changes_sourceOff t n).mapApart_of_objs rfl rfl) s) (.refl s)
  have hfree : ∀ t, ∀ q ∈ m.held, MapApart t (free t q) := by
    intro t q hq
    have lt := Map.held_lt hq
    have chain := fun c => (changes_setChain t q c).mapApart_of_objs rfl rfl
    have conv := fun t c => (changes_setConv t q c).mapApart_of_objs rfl rfl
    exact (((chain _).trans (conv _ _)).trans (mapApart_setObj _ _ (by omega))).trans (mapApart_restartChain _ lt 4 _)
  have hv : MapApart u v := .foldl _ hfree u
  split
  exact ((hu.trans hv).trans (mapApart_disp v _)).trans (mapApart_setGrants _ _ _)

theorem mapApart_mapStepDone (s : State) (verdict diffs cause : Nat) : MapApart s (s.mapStepDone verdict diffs cause) :=
  (changes_mapStepDone s verdict diffs cause).mapApart_of_objs rfl rfl

theorem happensOnly_pointRests (s : State) (excited : List Nat) (p : Nat) : HappensOnly s (s.pointRests excited p) := by
  have set := fun t c => (changes_setPort t p c).happensOnly rfl
  exact (HappensOnly.ite (set s _) ((set s _).trans (set _ _))).trans (follows_cellFollows _ _).objs

theorem mapApart_pointRests (s : State) (excited : List Nat) (p : Nat) : MapApart s (s.pointRests excited p) :=
  (changes_pointRests s excited p).mapApart rfl (happensOnly_pointRests s excited p)

/-! ## The end of a map (R181, R187) -/

/-- What the end of a map leaves of its record. -/
def Map.over (m : Map) (cause : Nat) : Map := { m with phase := if cause = 0 then .done else .aborted, byStep := none }

/-- From `s` to `u` a map ends: its record, its verdict, and the cause of an abort. -/
structure MapEnded (s u : State) (verdict cause : Nat) : Prop where
  map : u.map = s.map.over cause
  verdict : u.obj 0x3401 3 = verdict
  cause : cause ≠ 0 → u.obj 0x3401 2 = cause

theorem MapApart.mapEnded {s t u : State} {verdict cause : Nat} (h : MapApart s t) (g : MapEnded t u verdict cause) :
    MapEnded s u verdict cause :=
  ⟨g.map.trans (congrArg (Map.over · cause) h.map), g.verdict, g.cause⟩

theorem mapFinishes_ends (s : State) (verdict diffs cause : Nat) :
    MapEnded s (s.mapFinishes verdict diffs cause) verdict cause := by
  unfold State.mapFinishes
  extract_lets m excited a b c d e f y g
  have ha : a.map = s.map := (mapApart_mapWrites s _).map
  have hb : b.map = a.map ∧ b.obj 0x3401 3 = verdict ∧ (cause ≠ 0 → b.obj 0x3401 2 = cause) := by
    refine ⟨?_, obj_setObj _ _ _ _, fun h => ?_⟩
    · simp only [b]
      split <;> rfl
    · simp only [b, if_neg h]
      rw [obj_setObj_sub _ _ (by decide), obj_setObj]
  have hd : ∀ j, j = 2 ∨ j = 3 → d.obj 0x3401 j = b.obj 0x3401 j := by
    intro j hj
    simp only [d, c, State.countUp]
    repeat rw [obj_setObj_sub _ _ (by omega)]
  have hf : MapApart d f := (mapApart_mapReleases d).trans (mapApart_mapStepDone _ _ _ _)
  have rest : MapApart g ((g.each g.ownPoints (State.pointRests · excited ·)).cause 0x3400 0 g.now) :=
    (MapApart.foldl _ (fun t p _ => mapApart_pointRests t excited p) g).trans (mapApart_cause _ _ _ _)
  have shown : ∀ j, j = 2 ∨ j = 3 →
      ((g.each g.ownPoints (State.pointRests · excited ·)).cause 0x3400 0 g.now).obj 0x3401 j = b.obj 0x3401 j := by
    intro j hj
    have lt : j < 256 := by omega
    calc _ = g.obj 0x3401 j := rest.shown j lt
      _ = f.obj 0x3401 j := rfl
      _ = d.obj 0x3401 j := hf.shown j lt
      _ = b.obj 0x3401 j := hd j hj
  obtain ⟨bmap, bverdict, bcause⟩ := hb
  refine ⟨rest.map.trans (congrArg (Map.over · cause) (hf.map.trans (bmap.trans ha))), ?_, fun h => ?_⟩
  · exact (shown 3 (.inr rfl)).trans bverdict
  · exact (shown 2 (.inl rfl)).trans (bcause h)

end Sys2Proof.Machine
end

section
/-!
SUPPORT. The course of a map (R163 to R187): how it begins, what a group, a pass, an analysis and a round leave, and how it ends.
-/

namespace Sys2Proof.Machine

/-! ## The end of a map (R181, R187) -/

section
variable {s : State}

theorem mapAborts_of_rest (h : s.mapRunning = false) (cause : Nat) : s.mapAborts cause = s := if_pos (by rw [h]; rfl)

theorem mapAborts_of_running (h : s.mapRunning = true) (hm : s.mode ≠ .save) (cause : Nat) :
    s.mapAborts cause = (s.mapWrites s.mapHeader).mapFinishes 3 0 cause :=
  (if_neg (by simp [h])).trans (if_neg (by simpa using hm))

/-- A running map aborts with verdict 3 and its cause, outside SAVE. -/
theorem mapAborts_ends (h : s.mapRunning = true) (hm : s.mode ≠ .save) (cause : Nat) :
    MapEnded s (s.mapAborts cause) 3 cause := by
  rw [mapAborts_of_running h hm]
  exact (mapApart_mapWrites s _).mapEnded (mapFinishes_ends _ _ _ _)

theorem mapRunning_of_waiting (h : s.map.phase = .waiting) : s.mapRunning = true := by rw [State.mapRunning, h]

theorem mapEnds_ends (hp : s.map.phase = .analysis) (h3 : s.map.pass = 3) :
    ∃ verdict, MapEnded s s.mapEnds verdict 0 ∧ (bitOf s.map.sel 3 = false → verdict = 4) ∧
      Changes (.fresh :: mapParts) s s.mapEnds := by
  unfold State.mapEnds
  dsimp only
  rw [if_neg (by simp [hp, h3])]
  have writes : ∀ es : List NewEntry, MapApart s (es.foldl State.mapWrites s) ∧ Changes mapParts s (es.foldl State.mapWrites s) :=
    fun es => ⟨.foldl _ (fun t e _ => mapApart_mapWrites t e) s,
      Changes.foldl _ (fun t e h => (spares_blockEntryTo t _ e).changes.step rfl h) (Changes.refl _ _)⟩
  refine ⟨_, ((writes _).1.trans ((changes_nextFresh _).mapApart_of_objs rfl rfl)).mapEnded (mapFinishes_ends _ _ _ _), ?_, ?_⟩
  · intro h
    simp [h]
  · exact (changes_mapFinishes _ _ _ _).step rfl ((changes_nextFresh _).step rfl ((writes _).2.mono rfl))

end

/-! ## Grants (R244, R245) -/

section
variable (s : State) (module_ : Nat) (dies : List Nat)

/-- The grants are shown, and nothing else changes. -/
theorem setGrants_objs : ∃ objs, s.setGrants module_ dies = { s with objs := objs } := by
  refine ⟨(s.setGrants module_ dies).objs, ?_⟩
  simp only [State.setGrants, List.range_succ, List.range_zero, List.nil_append, List.cons_append, List.foldl_cons, List.foldl_nil]
  rfl

theorem obj_setGrants {i j : Nat} (h : i ≠ 0x2201 ∨ j < 0x0F) (hj : j < 256) : (s.setGrants module_ dies).obj i j = s.obj i j := by
  simp only [State.setGrants, List.range_succ, List.range_zero, List.nil_append, List.cons_append, List.foldl_cons, List.foldl_nil]
  repeat rw [obj_setObj_other _ _ (by simp only [objKey]; omega)]

/-- What a map may draw does not depend on the grants that are shown. -/
theorem grantFor_setGrants {die : Option Nat} (hd : ∀ d, die = some d → d < 4) (but : Option Nat) :
    (s.setGrants module_ dies).grantFor die but = s.grantFor die but := by
  have allowance : (s.setGrants module_ dies).allowance die = s.allowance die := by
    cases die with
    | none => exact congrArg Int.toNat (obj_setGrants s module_ dies (.inr (by decide)) (by decide))
    | some d =>
      have := hd d rfl
      exact congrArg Int.toNat (obj_setGrants s module_ dies (.inr (by omega)) (by omega))
  obtain ⟨objs, eq⟩ := setGrants_objs s module_ dies
  rw [eq] at allowance ⊢
  simp only [State.grantFor, allowance]
  rfl

end

/-- The grants of the dies that the governor computes for a map. -/
def State.dieGrantsFor (s : State) (but : Option Nat) : List Nat := (List.range 4).map fun d => s.grantFor (some d) but

theorem mapIc_one (s : State) : s.mapIc 1 = 2000 := if_pos rfl

/-- The number of groups of pass 1 that the grants fit (R171, R172). -/
def State.groupsFit (s : State) : Option Nat :=
  (groupPlan 1 s.map.points []).groups (s.objN 0x3400 0x16) (s.mapIc 1) (s.grantFor none s.map.byStep) (s.dieGrantsFor s.map.byStep)

/-- The record of a map whose first pass begins, with its groups and grants (R170, R171). -/
def State.passBegun (s : State) (g : Nat) : Map :=
  { s.map with
    phase := .pass1, pass := 1, group := 0, g1 := g, phaseStart := s.now + 80000
    groups := (List.range g).map ((groupPlan 1 s.map.points []).rows g)
    grant := s.grantFor none s.map.byStep, dieGrants := s.dieGrantsFor s.map.byStep }

/-- The first pass begins: its record, and what the objects of the mapper show of it (R170, R171). -/
def State.passShown (s : State) (g : Nat) : State :=
  ((State.setObj { s.showGrants with map := s.passBegun g } 0x3401 7 g).setObj 0x3401 0x0D
    ((groupPlan 1 s.map.points []).peak g (s.mapIc 1))).setObj 0x3401 0x0E (s.grantFor none s.map.byStep)

/-- More than one group is a cause of the mapper (R188). -/
def State.passBegins (s : State) (g : Nat) : State :=
  if 1 < g then (s.passShown g).cause 0x3400 3 (s.passShown g).now else s.passShown g

theorem changes_showGrants (s : State) : Changes [.objs] s s.showGrants :=
  Changes.ite (changes_setGrants s _ _) (Changes.refl _ _)

theorem showGrants_of_waiting {s : State} (h : s.map.phase = .waiting) :
    s.showGrants = s.setGrants (s.grantFor none s.map.byStep) (s.dieGrantsFor s.map.byStep) :=
  if_pos (by rw [h]; rfl)

/-- What a map that waits does with the grants (R170, R171): it goes on waiting, aborts for want of a grouping, or begins. -/
theorem mapTryStart_of_waiting {s : State} (h : s.map.phase = .waiting) : s.mapTryStart = match s.groupsFit with
    | none => if (groupPlan 1 s.map.points []).firstFits (s.objN 0x3400 0x16) (s.mapIc 1) (s.grantFor none s.map.byStep)
        (s.dieGrantsFor s.map.byStep) then s.showGrants.mapAborts 6 else s.showGrants
    | some g => s.passBegins g := by
  have frame := changes_setGrants s (s.grantFor none s.map.byStep) (s.dieGrantsFor s.map.byStep)
  have same := fun {die} hd => grantFor_setGrants s (s.grantFor none s.map.byStep) (s.dieGrantsFor s.map.byStep) (die := die) hd
    s.map.byStep
  have limit := congrArg Int.toNat (obj_setGrants s (s.grantFor none s.map.byStep) (s.dieGrantsFor s.map.byStep)
    (i := 0x3400) (j := 0x16) (.inl (by decide)) (by decide))
  unfold State.mapTryStart State.passBegins State.passShown
  rw [showGrants_of_waiting h]
  extract_lets u m grant dies plan
  have hm : m = s.map := frame .map rfl
  have hnow : u.now = s.now := frame .now rfl
  have hgrant : grant = s.grantFor none s.map.byStep := by
    simp only [grant, hm]
    exact same (by simp)
  have hdies : dies = s.dieGrantsFor s.map.byStep := by
    simp only [dies, hm]
    exact List.map_congr_left fun d hd => same (by simpa using hd)
  have hplan : plan = groupPlan 1 s.map.points [] := by simp only [plan, hm]
  clear_value m grant dies plan
  subst hm hgrant hdies hplan
  have hlimit : u.objN 0x3400 0x16 = s.objN 0x3400 0x16 := limit
  simp only [mapIc_one, State.groupsFit, State.passBegun, hlimit, hnow]
  cases (groupPlan 1 s.map.points []).groups (s.objN 0x3400 0x16) 2000 (s.grantFor none s.map.byStep)
    (s.dieGrantsFor s.map.byStep) with
  | none => rfl
  | some g => rfl

theorem mapApart_passBegins (s : State) (g : Nat) : MapApart (s.passShown g) (s.passBegins g) :=
  .ite (mapApart_cause _ _ _ _) (.refl _)

theorem passBegins_map (s : State) (g : Nat) : (s.passBegins g).map = s.passBegun g := (mapApart_passBegins s g).map

theorem passBegins_shows (s : State) (g : Nat) : (s.passBegins g).obj 0x3401 7 = g := by
  rw [(mapApart_passBegins s g).shown 7 (by decide), State.passShown, obj_setObj_sub _ _ (by decide),
    obj_setObj_sub _ _ (by decide), obj_setObj]

theorem changes_passBegins (s : State) (g : Nat) : Changes (.map :: signalParts) s (s.passBegins g) := by
  have begun : Changes (.map :: signalParts) s { s.showGrants with map := s.passBegun g } :=
    ((changes_showGrants s).mono (l := .map :: signalParts) rfl).upd rfl
  have shown : Changes (.map :: signalParts) s (s.passShown g) :=
    (changes_setObj _ _ _ _).step rfl ((changes_setObj _ _ _ _).step rfl ((changes_setObj _ _ _ _).step rfl begun))
  exact Changes.ite ((changes_cause _ _ _ _).step rfl shown) shown

theorem showGrants_map (s : State) : s.showGrants.map = s.map := changes_showGrants s .map rfl

section
variable {s : State}

/-- A map that waits goes on waiting, begins its first pass, or aborts with cause 0x06 (R170, R171). -/
theorem mapTryStart_outcomes (h : s.map.phase = .waiting) (hm : s.mode ≠ .save) :
    Changes mapParts s s.mapTryStart ∧ (s.mapTryStart.map = s.map ∨ (∃ g, s.mapTryStart.map = s.passBegun g) ∨
      MapEnded s s.mapTryStart 3 6) := by
  have shown := (changes_showGrants s).mono (l := mapParts) rfl
  have apart : MapApart s s.showGrants := by
    rw [showGrants_of_waiting h]
    exact mapApart_setGrants s _ _
  rw [mapTryStart_of_waiting h]
  cases s.groupsFit with
  | some g => exact ⟨(changes_passBegins s g).mono rfl, .inr (.inl ⟨g, passBegins_map s g⟩)⟩
  | none =>
    dsimp only
    split
    · have runs : s.showGrants.mapRunning = true := mapRunning_of_waiting (by rw [showGrants_map, h])
      have mode : s.showGrants.mode ≠ .save := by rwa [show s.showGrants.mode = s.mode from changes_showGrants s .mode rfl]
      exact ⟨(changes_mapAborts _ 6).step rfl shown, .inr (.inr (apart.mapEnded (mapAborts_ends runs mode 6)))⟩
    · exact ⟨shown, .inl apart.map⟩

end

/-! ## The start of a map (R170, R181, R185) -/

theorem changes_applyPeriod (s : State) (q at' : Nat) : Changes chainParts s (s.applyPeriod q at') := by
  have set := fun c => (changes_setConv s q c).mono (l := chainParts) rfl
  exact Changes.ite (set _) ((changes_restartChain _ _ _ _).step rfl ((changes_setObj _ _ _ _).step rfl (set _)))

theorem changes_mapHolds (s : State) (q : Nat) : Changes chainParts s (s.mapHolds q) :=
  (changes_applyPeriod _ _ _).step rfl ((changes_setChain s q _).mono rfl)

theorem changes_setTarget (s : State) (target : Nat) : Changes (.gov :: signalParts) s (s.setTarget target) :=
  Changes.ite (Changes.refl _ _)
    ((changes_cause _ _ _ _).step rfl ((changes_setObj _ _ _ _).step rfl ((Changes.refl _ s).upd rfl)))

/-- The record of a map at its start. -/
def State.mapBegun (s : State) (who sel slot chip periods : Nat) (step : Option Nat) : Map :=
  { phase := .waiting, start := s.now, session := who, byStep := step, sel := sel, refSlot := slot, chip := chip, periods := periods,
    points := s.mapMask, waitSince := s.now }

/-- The parts that a start may change before the map looks for grants. -/
abbrev holdParts : List Part := .gov :: chainParts

/-- A start begins a map, which then waits, begins its first pass or aborts with cause 0x06; outside SAVE. -/
theorem mapStarts_outcomes (s : State) (hm : s.mode ≠ .save) (who sel slot chip periods : Nat) (step : Option Nat) :
    let u := s.mapStarts who sel slot chip periods step
    let m := s.mapBegun who sel slot chip periods step
    Changes (.gov :: mapParts) s u ∧ (u.map = m ∨ (∃ v : State, v.map = m ∧ v.now = s.now ∧ ∃ g, u.map = v.passBegun g) ∨
      u.map = m.over 6 ∧ u.obj 0x3401 2 = 6) := by
  unfold State.mapStarts
  extract_lets m a b c d u m'
  have ha : Changes (.gov :: mapParts) s a := (Changes.refl _ s).upd rfl
  have hb : Changes holdParts a b := (changes_setObj _ _ _ _).step rfl
    (Changes.foldl _ (fun t q h => (changes_mapHolds t q).step rfl h) (Changes.refl _ _))
  have hc : Changes holdParts a c := Changes.each _ (fun t k h => (changes_setObj t _ k _).step rfl h) hb
  have he : Changes holdParts a (if c.objN 0x2201 3 < 700 then c.setTarget 700 else c) :=
    Changes.ite ((changes_setTarget _ _).step rfl hc) hc
  have emap : (if c.objN 0x2201 3 < 700 then c.setTarget 700 else c).map = m := he .map rfl
  have emode : (if c.objN 0x2201 3 < 700 then c.setTarget 700 else c).mode = s.mode := he .mode rfl
  have enow : (if c.objN 0x2201 3 < 700 then c.setTarget 700 else c).now = s.now := he .now rfl
  obtain ⟨frame, outcome⟩ := mapTryStart_outcomes (congrArg Map.phase emap) (by rwa [emode])
  have hd : Changes (.gov :: mapParts) s d := frame.step rfl (he.step rfl ha)
  have hu : Changes (.gov :: mapParts) s u := Changes.ite ((changes_cause _ _ _ _).step rfl ((changes_cause _ _ _ _).step rfl hd)) hd
  have umap : u.map = d.map := by
    have waits : MapApart d u := .ite ((mapApart_cause _ _ _ _).trans (mapApart_cause _ _ _ _)) (.refl d)
    exact waits.map
  refine ⟨hu, ?_⟩
  rcases outcome with waits | ⟨g, begins⟩ | aborts
  · exact .inl (umap.trans (waits.trans emap))
  · exact .inr (.inl ⟨_, emap, enow, g, umap.trans begins⟩)
  · have ended : d.map = m.over 6 := aborts.map.trans (congrArg (Map.over · 6) emap)
    have rests : u = d := if_neg (by rw [ended]; exact Bool.false_ne_true)
    exact .inr (.inr ⟨umap.trans ended, rests ▸ aborts.cause (by decide)⟩)

/-! ## Points that change their range (R50, R165) -/

/-- What the mapper has set at a cell, and the end of the range change there. -/
def PortCell.ranging (c : PortCell) : MapPoint × Option Tk := (c.point, c.rangeEnd)

theorem Follows.ranging {p : Nat} {s u : State} (h : Follows p s u) (q : Nat) : (u.port q).ranging = (s.port q).ranging := by
  by_cases e : q = p
  · obtain ⟨f, m, r, x, y, cell⟩ := h.cell
    rw [e, cell]
    rfl
  · rw [h.others q e]

/-- A point on its way to a range, from an instant on; the mapper's settling has the factor 2 (log 115). -/
def rangingTo (r : Nat) (now : Tk) : MapPoint × Option Tk := ({ range := r }, some (now + 2 * rangeChangeTime r))

theorem changes_pointToRange (s : State) (r p : Nat) : Changes lineParts s (s.pointToRange r p) :=
  (spares_cellFollows _ _).changes.step rfl ((changes_settle _ _ _ _).step rfl ((changes_setPort s p _).mono rfl))

theorem ranging_pointToRange (s : State) (r p q : Nat) : ((s.pointToRange r p).port q).ranging =
    if q = p then rangingTo r s.now else (s.port q).ranging := by
  unfold State.pointToRange
  dsimp only
  rw [(follows_cellFollows _ _).ranging, State.settle]
  split
  next h =>
    subst h
    rw [port_setPort, port_setPort]
    rfl
  next h => rw [port_setPort_other _ _ h, port_setPort_other _ _ h]

theorem ranging_each (ps : List Nat) (s : State) (r q : Nat) : ((s.each ps fun s p => s.pointToRange r p).port q).ranging =
    if q ∈ ps then rangingTo r s.now else (s.port q).ranging := by
  induction ps generalizing s with
  | nil => rfl
  | cons p ps ih =>
    have now : (s.pointToRange r p).now = s.now := changes_pointToRange s r p .now rfl
    rw [State.each, List.foldl_cons, ← State.each, ih, now, ranging_pointToRange]
    by_cases hq : q ∈ ps
    · simp [hq]
    · by_cases e : q = p <;> simp [hq, e]

theorem changes_pointsToRange (s : State) (r : Nat) : Changes lineParts s (s.pointsToRange r) :=
  Changes.each _ (fun t p h => (changes_pointToRange t r p).step rfl h) (Changes.refl _ _)

/-! ## Groups and passes (R163, R165, R167) -/

/-- The record of a map whose analysis begins. -/
def Map.analysing (m : Map) (now : Tk) : Map := { m with phase := .analysis, phaseStart := now }

/-- After pass 2 every point goes to the range of 2 mA, and the analysis begins (R165). -/
theorem passDone_of_pass2 {s : State} (h : s.map.pass = 2) :
    Changes (.map :: lineParts) s s.passDone ∧ s.passDone.map = s.map.analysing s.now ∧
      (∀ p ∈ s.ownPoints, (s.passDone.port p).ranging = rangingTo 3 s.now) ∧
      bitOf (s.passDone.objN 0x3400 0x19) 2 = true := by
  unfold State.passDone
  extract_lets one m a b
  have h1 : one = false := by simp only [one, h]; rfl
  have ha : Changes (.map :: lineParts) s a := (Changes.refl _ s).upd rfl
  have hb : b = a.pointsToRange 3 := if_pos (by rw [h1]; rfl)
  have bit : (if one then 1 else 2) = 2 := if_neg (by rw [h1]; decide)
  have frame := changes_cause b 0x3400 2 b.now
  have ranges := changes_pointsToRange a 3
  clear_value b
  subst hb
  rw [bit]
  refine ⟨?_, ?_, fun p hp => ?_, bitOf_cause_mapper _ 2 _⟩
  · exact frame.step rfl (ranges.step rfl ha)
  · exact (frame .map rfl).trans (ranges .map rfl)
  · rw [port_congr (frame .ports rfl)]
    exact (ranging_each a.ownPoints a 3 p).trans (if_pos hp)

/-- A group gives its columns of Y, and ends; after the last one the pass has ended (R163, R167). -/
def State.groupTaken (s : State) (samples : MapSamples) : State :=
  let m := s.map
  let y := s.groupY samples
  let m := if m.phase == .pass1 then { m with sums1 := m.sums1 ++ y, group := m.group + 1 }
    else { m with sums2 := m.sums2 ++ y, overItems := m.overItems ++ (samples.filter pointOver).map fun x => netNumber m.nets x.point.val,
                  group := m.group + 1 }
  let s := { s with map := m }
  if m.group < m.groups.length then s else s.passDone

section
variable {s : State} {rests : RestSamples} {samples : MapSamples}

theorem mapGroupEnds_early (h : s.now < s.map.phaseStart + (s.map.group + 1) * s.map.groupTime) :
    s.mapGroupEnds rests samples = s := if_pos (by simp [h])

/-- At the end of a group, with whole samples. -/
structure State.GroupDue (s : State) (rests : RestSamples) (samples : MapSamples) : Prop where
  phase : s.map.phase = .pass1 ∨ s.map.phase = .pass2
  due : s.map.phaseStart + (s.map.group + 1) * s.map.groupTime ≤ s.now
  samples : s.map.samplesOk samples = true
  rests : s.map.restsOk rests = true

theorem mapGroupEnds_of_due (h : s.GroupDue rests samples) : s.mapGroupEnds rests samples =
    if s.map.phase == .pass1 && !(samples.filter pointOver).isEmpty then s.mapAborts 7
    else (s.mapRests rests).groupTaken samples := by
  obtain ⟨hp, hn, hs, hr⟩ := h
  have phase : (s.map.phase == .pass1 || s.map.phase == .pass2) = true := by
    rcases hp with h | h <;> rw [h] <;> rfl
  have kept : (s.mapRests rests).map.phase = s.map.phase := by
    unfold State.mapRests
    split <;> rfl
  unfold State.mapGroupEnds State.groupTaken
  dsimp only
  rw [if_neg (by simp [phase, hn, hs, hr]), kept]

/-- A calibrated value depends on the objects and the calibration alone (R102). -/
theorem valueNum_congr {u : State} (ho : u.objs = s.objs) (hc : u.cal = s.cal) : u.valueNum = s.valueNum := by
  funext q l gain scale code
  simp only [State.valueNum, State.referenceScale, State.correction, objN_congr ho, calFigure_congr hc]

/-- What a group gives depends on the map, the objects and the calibration alone. -/
theorem groupY_congr {u : State} (hm : u.map = s.map) (ho : u.objs = s.objs) (hc : u.cal = s.cal) :
    u.groupY samples = s.groupY samples := by
  simp only [State.groupY, State.pointY, State.laneMean, State.chipLevels, valueNum_congr ho hc, obj_congr ho, hm]

theorem mapRests_eq (s : State) (rests : RestSamples) : s.mapRests rests = { s with map := (s.mapRests rests).map } := by
  unfold State.mapRests
  split <;> rfl

theorem mapRests_advance (s : State) (t : Tk) (rests : RestSamples) :
    (s.advance t).mapRests rests = { s.advance t with map := (s.mapRests rests).map } := by
  unfold State.mapRests
  rw [advance_map]
  split <;> rfl

/-- Rest currents are averaged before pass 1 alone (R166). -/
theorem mapRests_of_pass2 (h : s.map.pass = 2) : s.mapRests rests = s := if_neg (by simp [h])

theorem mapRests_group (s : State) (rests : RestSamples) : (s.mapRests rests).map =
    { s.map with rests := (s.mapRests rests).map.rests } := by
  unfold State.mapRests
  split <;> rfl

/-- A group of pass 1 before the last one. -/
theorem groupTaken_of_pass1 (hp : s.map.phase = .pass1) (hl : s.map.group + 1 < s.map.groups.length) :
    s.groupTaken samples =
      { s with map := { s.map with group := s.map.group + 1, sums1 := s.map.sums1 ++ s.groupY samples } } := by
  simp [State.groupTaken, hp, hl]

/-- A group of pass 1 before the last one, with the rest currents averaged at its start (R166). -/
theorem groupTaken_mapRests (hp : s.map.phase = .pass1) (hl : s.map.group + 1 < s.map.groups.length) :
    (s.mapRests rests).groupTaken samples = { s with
      map := { (s.mapRests rests).map with
        group := s.map.group + 1, sums1 := s.map.sums1 ++ (s.mapRests rests).groupY samples } } := by
  have group := mapRests_group s rests
  have taken := groupTaken_of_pass1 (s := s.mapRests rests) (samples := samples) (by rw [group]; exact hp) (by rw [group]; exact hl)
  rw [taken, congrArg Map.group group, congrArg Map.sums1 group]
  generalize (s.mapRests rests).groupY samples = y
  rw [mapRests_eq]

/-- The record of a map at the end of a group of pass 2 (R167, R174). -/
def State.netsTaken (s : State) (samples : MapSamples) : Map :=
  { s.map with
    group := s.map.group + 1, sums2 := s.map.sums2 ++ s.groupY samples
    overItems := s.map.overItems ++ (samples.filter pointOver).map fun x => netNumber s.map.nets x.point.val }

/-- The last group of pass 2. -/
theorem groupTaken_of_pass2 (hp : s.map.phase = .pass2) (hl : s.map.groups.length ≤ s.map.group + 1) :
    s.groupTaken samples = State.passDone { s with map := s.netsTaken samples } := by
  have late : ¬ s.map.group + 1 < s.map.groups.length := Nat.not_lt.mpr hl
  simp [State.groupTaken, State.netsTaken, hp, late]

end

/-! ## Refinement (R176, R177) -/

/-- The parts that a round may change as it starts. -/
abbrev roundParts : List Part := .busSources :: lineParts

theorem changes_noteSource (s : State) (n at' : Nat) : Changes [.busSources] s (s.noteSource n at') := changes_setBusSource s n _

theorem changes_sourceDrives (s : State) (n : Nat) (current : Bool) (range : Nat) (level : Int) (at' : Tk) :
    Changes [.busSources] s (s.sourceDrives n current range level at') :=
  (changes_noteSource _ _ _).step rfl (changes_setBusSource s n _)

theorem changes_roundStarts (s : State) (tr : Tk) : Changes roundParts s (s.roundStarts tr) := by
  unfold State.roundStarts
  extract_lets u used v
  have hu : Changes roundParts s u := Changes.each _ (fun t p h => (spares_cellFollows _ _).changes.step rfl
    ((changes_setPort t p _).step rfl h)) (Changes.refl _ _)
  have hv : Changes roundParts s v := Changes.foldl _ (fun t x h => (changes_sourceDrives _ _ _ _ _ _).step rfl
    ((changes_sourceDrives t _ _ _ _ _).step rfl h)) hu
  exact Changes.each _ (fun t n h => (changes_sourceOff t n).step rfl h) hv

/-! ## Analysis (R165, R173) -/

section
variable {s : State}

theorem mapLinks_advance (s : State) (t : Tk) : (s.advance t).mapLinks = s.mapLinks := by
  simp only [State.mapLinks, advance_map, objN_advance]

/-- The record of a map that has its links and nets, and looks for nothing more (R165, R173). -/
def State.netsFound (s : State) : Map :=
  { s.map with links := s.mapLinks, nets := netsOf s.map.points (s.mapLinks.map fun l => (l.a, l.b)), pass := 3, phaseStart := s.now }

theorem mapAnalysed_of_pass1 (hp : s.map.phase = .analysis) (h1 : s.map.pass = 1) (hn : bitOf s.map.sel 1 = false)
    (hf : bitOf s.map.sel 2 = false) (hr : ∀ p ∈ s.ownPoints, (s.port p).rangeEnd = none) :
    s.mapAnalysed.map = s.netsFound ∧ s.mapAnalysed.objN 0x3401 0x0A = s.mapLinks.length ∧
      Changes [.objs, .map] s s.mapAnalysed := by
  unfold State.mapAnalysed
  extract_lets m changing links nets u v
  have still : changing = false := by
    simp only [changing, List.any_eq_false]
    intro p hq
    rw [hr p hq]
    exact Bool.false_ne_true
  have hv : v.map = { s.map with links := s.mapLinks, nets := nets } ∧ v.obj 0x3401 0x0A = s.mapLinks.length ∧ v.now = s.now ∧
      Changes [.objs, .map] s v :=
    ⟨rfl, obj_setObj _ _ _ _, rfl, (changes_setObj _ _ _ _).step rfl ((changes_setObj _ _ _ _).step rfl
      ((Changes.refl _ s).upd rfl))⟩
  obtain ⟨vmap, shown, now, frame⟩ := hv
  clear_value v
  have ends : v.mapAfterPasses = { v with map := { v.map with pass := 3, phaseStart := v.now } } := if_neg (by simp [vmap, hf])
  rw [if_neg (by simp [still, m, hp]), if_pos (by exact h1), if_neg (by simp [m, hn]), ends]
  refine ⟨?_, congrArg Int.toNat shown, frame.upd rfl⟩
  simp only [vmap, now]
  rfl

/-! ## The end of a round (R176, R177) -/

theorem demodulate_advance (s : State) (t : Tk) : (s.advance t).demodulate = s.demodulate := by
  funext loop lane gain range phases
  simp only [State.demodulate, valueNum_congr (s := s) (u := s.advance t) rfl rfl]

theorem kelvin_advance (s : State) (t : Tk) : (s.advance t).kelvin = s.kelvin := by
  funext loop l r
  unfold State.kelvin
  rw [demodulate_advance]
  rfl

theorem linkMeasured_advance (s : State) (t : Tk) (rs : RoundResults) : (s.advance t).linkMeasured rs = s.linkMeasured rs := by
  funext l
  unfold State.linkMeasured
  rw [kelvin_advance]
  rfl

/-- The record of a map whose round has ended (R177). -/
def State.roundTaken (s : State) (rs : RoundResults) : Map :=
  { s.map with links := s.map.links.map (s.linkMeasured rs), round := s.map.round + 1 }

/-- A round before the last one ends, and the next one starts. -/
theorem mapRoundEnds_goesOn {rs : RoundResults} (hp : s.map.phase = .refinement)
    (hn : s.map.phaseStart + (s.map.round + 1) * 512000 ≤ s.now)
    (hg : (s.map.loops.all fun x => rs.any fun r => r.a.val == x.1.a && r.b.val == x.1.b) = true) (hw : rs.all loopWhole = true)
    (hl : s.map.round + 1 < s.map.rounds.length) : s.mapRoundEnds rs =
      State.roundStarts { s.nextFresh with map := s.roundTaken rs } (s.map.phaseStart + (s.map.round + 1) * 512000) := by
  unfold State.mapRoundEnds
  extract_lets m tr given m' u
  rw [if_neg (by simp only [m, tr, given, hp, hg, hw]; simpa using hn), if_pos (by exact hl)]
  rfl

end

end Sys2Proof.Machine
end

section
/-!
SUPPORT. The commands that the mapper hears: its enable (R158), its references (R182), whose writes need a transaction of the Cellar
(R450, R481), the start of a map (R185), and the end of its wait (R170).
-/

namespace Sys2Proof.Machine

/-! ## Enabling (R158) -/

theorem mapRunning_heard (s : State) (t : Tk) (a : Accessor) : (s.heard t a).mapRunning = s.mapRunning := by
  rw [State.mapRunning, heard_map]
  rfl

/-- The value of a write of the mapper's enable. -/
theorem written_mapperEnable {c : Card} (h : cardOf 0x3400 1 = some c) :
    c.written (natLe 1 1) = 1 ∧ c.written (natLe 1 0) = 0 := by
  have all : (cardOf 0x3400 1).all (fun c => c.written (natLe 1 1) == 1 && c.written (natLe 1 0) == 0) = true := by decide +kernel
  simpa [h] using all

/-! ## References (R182, R450, R481) -/

section
variable {s : State}

theorem cellarFree_heard (s : State) (t : Tk) (a : Accessor) : (s.heard t a).cellarFree = s.cellarFree := by rw [heard_eq]; rfl
theorem heapFree_heard (s : State) (t : Tk) (a : Accessor) : (s.heard t a).heapFree = s.heapFree := by rw [heard_eq]; rfl

theorem referenceStore_of_bad {slot : Nat} {b : Bytes} (hm : s.mapRunning = false) (hb : b ≠ []) (hr : referenceOk b = false) :
    s.referenceStore slot b = refuse 0x0F010605 := by
  have bad : (!b.isEmpty && !referenceOk b) = true := by simp [hb, hr]
  rw [State.referenceStore, hm, bad]
  rfl

/-- What a write of a reference slot stores. -/
def referenceChange (slot : Nat) (b : Bytes) : Stored := .blob 6 slot (if b.isEmpty then none else some b)

theorem referenceStore_of_good {slot : Nat} {b : Bytes} (hm : s.mapRunning = false) (hr : b = [] ∨ referenceOk b = true) :
    s.referenceStore slot b = s.hostTxn (.reference slot) [referenceChange slot b] := by
  have good : (!b.isEmpty && !referenceOk b) = false := by rcases hr with h | h <;> simp [h]
  rw [State.referenceStore, hm, good]
  rfl

end

/-! ## Host writes that need a transaction (R450, R481, R482) -/

section
variable {s u : State} {who : Nat}

theorem accepted_eq (s u : State) : s.accepted u = { u with power := (s.accepted u).power } := by
  unfold State.accepted
  split <;> rfl

/-- The advance flag that an acceptance leaves depends on the supplies alone (R510). -/
theorem accepted_power (h : u.power = s.power) : (s.accepted u).power = (s.accepted s).power := by
  unfold State.accepted
  split
  · rw [h]
  · exact h

/-- A write of bytes that passes every check, and whose effect owes its answer, completes later. -/
theorem bytes_answersLater {t : Tk} {a : Accessor} {idx sub : Nat} {bytes : Bytes} {c : Card}
    (h : TakesBytes s t a idx sub bytes c) {k : State → Bytes → Res} (hk : k (s.heard t a) bytes = .ok u)
    (ho : (s.heard t a).owes u = true) :
    s.requestBytes t a idx sub bytes k = .next ((s.heard t a).answersLater u (s.sessionOf a)) := by
  rw [State.requestBytes, request_served h.served h.turn, guardBytes_ok h, hk, State.finish, State.finished, if_pos ho]
  rfl

/-- A transaction as a host write asks for it. -/
def hostRequest (why : TxnFor) (changes : List Stored) : Txn :=
  { why := why, changes := changes, units := unitsOf changes, size := txnSize changes, reply := some (.plain 255) }

/-- What the Cellar alone owes addresses its newest transaction. -/
theorem answersLater_facts (hl : u.loader = s.loader) (hf : Changes [.cellar] s u) :
    (s.answersLater u who).cellar = u.cellar.addressed (some (.plain who)) ∧ Changes [.cellar, .power] s (s.answersLater u who) ∧
      (s.answersLater u who).power = (s.accepted s).power := by
  have loader : (s.accepted u).loader = s.loader := by rw [accepted_eq]; exact hl
  have cond : (s.loader.owed.isNone && (s.accepted u).loader.owed.isSome) = false := by
    rw [loader]
    cases s.loader.owed <;> rfl
  have eq : s.answersLater u who = { s.accepted u with cellar := (s.accepted u).cellar.addressed (some (.plain who)) } :=
    if_neg (by rw [cond]; exact Bool.false_ne_true)
  rw [eq]
  refine ⟨?_, ?_, accepted_power (hf .power rfl)⟩
  · rw [accepted_eq]
  · rw [accepted_eq]
    exact (hf.mono (l := [.cellar, .power]) rfl).upd rfl

section
variable {why : TxnFor} {changes : List Stored} {full : Nat}

/-- A host write whose transaction opens: the Cellar is free, and the heap has room. -/
theorem hostTxn_opens (hf : s.cellarFree = true) (hu : unitsOf changes ≤ s.heapFree) :
    ∃ u, s.hostTxn why changes full = .ok u ∧ s.owes u = true ∧ Changes [.cellar] s u ∧
      (s.answersLater u who).cellar.open_ =
        some { hostRequest why changes with id := s.cellar.nextId, reply := some (.plain who) } ∧
      (s.answersLater u who).cellar.waiting = [] := by
  have free := hf
  simp only [State.cellarFree, State.cellarClear, Bool.and_eq_true, beq_iff_eq, Option.isNone_iff_eq_none, List.isEmpty_iff] at free
  obtain ⟨⟨⟨none, stage⟩, -⟩, empty⟩ := free
  have room : ¬ s.heapFree < unitsOf changes := Nat.not_lt.mpr hu
  have frame : Changes [.cellar] s (s.beginTxn (hostRequest why changes)) := (changes_iff _ _ _).mpr rfl
  refine ⟨_, ?_, ?_, frame, ?_⟩
  · simp [State.hostTxn, State.wantTxn, stage, hf, room, hostRequest]
  · simp [State.owes, State.owedReplies, State.beginTxn, none, empty, hostRequest]
  · rw [(answersLater_facts (frame .loader rfl) frame).1]
    simp [Cellar.addressed, State.beginTxn, empty, hostRequest]

/-- A host write whose transaction waits its turn. -/
theorem hostTxn_waits (hf : s.cellarFree = false) (h5 : s.cellar.stage ≠ 5) (h4 : s.cellar.waiting.length < 4) :
    ∃ u, s.hostTxn why changes full = .ok u ∧ s.owes u = true ∧ Changes [.cellar] s u ∧
      (s.answersLater u who).cellar.waiting = s.cellar.waiting ++ [{ hostRequest why changes with reply := some (.plain who) }] := by
  have frame : Changes [.cellar] s { s with cellar := { s.cellar with
      waiting := s.cellar.waiting ++ [hostRequest why changes] } } := (changes_iff _ _ _).mpr rfl
  refine ⟨_, ?_, ?_, frame, ?_⟩
  · simp [State.hostTxn, State.wantTxn, h5, hf, h4, hostRequest]
  · simp [State.owes, State.owedReplies, hostRequest]
  · rw [(answersLater_facts (frame .loader rfl) frame).1]
    simp [Cellar.addressed]

end

end

/-! ## Commands of the mapper (R158, R185) -/

section
variable {s : State} {who : Nat}

theorem mapperWrite_enables (he : s.objN 0x3400 1 = 0) (hp : s.map.phase = .disabled)
    (hc : s.claimsAbort who (s.mapMask.map fun p => (clsPort, p)) = none) : s.mapperWrite who 1 1 =
      .ok (State.settleOwners { s.setObj 0x3400 1 1 with map := { s.map with phase := .ready } } .enable) := by
  have enables : s.mapperWrite who 1 1 = s.mapperEnables who :=
    (if_pos rfl).trans ((if_pos rfl).trans (if_neg (by rw [he]; decide)))
  have off : (s.setObj 0x3400 1 1).map.phase = .disabled := hp
  rw [enables, State.mapperEnables, hc]
  dsimp only [refuseWith_none, ok_bind]
  rw [off]
  rfl

/-- What a write of the mapper's enable may change. -/
theorem changes_mapperEnable (s : State) (v : Int) (m : Map) (cause : OwnerCause) : Changes [.objs, .ports, .fresh, .map] s
    (State.settleOwners { s.setObj 0x3400 1 v with map := m } cause) :=
  (spares_settleOwners _ _).changes.step rfl (((changes_setObj s 0x3400 1 v).mono (l := [.objs, .ports, .fresh, .map]) rfl).upd rfl)

theorem mapperDisables_of_rest (h : s.mapRunning = false) : s.mapperDisables =
    State.settleOwners { s.setObj 0x3400 1 0 with map := { s.map with phase := .disabled } } .disable := by
  rw [State.mapperDisables, mapAborts_of_rest h]

theorem mapStart_accepts (hm : s.mode = .run ∨ s.mode = .throttle)
    (ha : s.mapStartAbort who (s.objN 0x3400 0x0B) (s.objN 0x3400 0x15) = none)
    (hc : bitOf (s.objN 0x3400 0x0B) 2 = false ∨ s.claimAbort who clsCycle 0 = none) : s.mapStart who =
      .ok (s.mapStarts who (s.objN 0x3400 0x0B) (s.objN 0x3400 0x15) (s.objN 0x3400 0x0C) (s.objN 0x3400 0x0D) none) := by
  have mode : (!(s.mode == .run || s.mode == .throttle)) = false := by rcases hm with h | h <;> rw [h] <;> rfl
  have claim : (if bitOf (s.objN 0x3400 0x0B) 2 then s.claimAbort who clsCycle 0 else none) = none := by
    rcases hc with h | h <;> simp [h]
  rw [State.mapStart, mode]
  dsimp only
  rw [ha, claim]
  rfl

theorem mapMask_heard (s : State) (t : Tk) (a : Accessor) : (s.heard t a).mapMask = s.mapMask := by
  simp only [State.mapMask, State.maskBit, objN_heard]

/-- The budget wait of a map that waits is over (R170). -/
theorem mapWaitOver_of_due (hp : s.map.phase = .waiting) (hn : s.map.waitSince + s.objN 0x3400 0x17 * 4000000 ≤ s.now) :
    s.mapWaitOver = s.mapAborts 5 :=
  if_pos (by rw [hp, tkMs, decide_eq_true hn]; rfl)

theorem mapWaitOver_early (hn : s.now < s.map.waitSince + s.objN 0x3400 0x17 * 4000000) : s.mapWaitOver = s :=
  if_neg (by rw [tkMs, decide_eq_false (Nat.not_le.mpr hn), Bool.and_false]; exact Bool.false_ne_true)

end

end Sys2Proof.Machine
end

section
open Sys2Proof Sys2Proof.Machine

/-- Settles O17: what each command of the mapper leaves, read from the record of the map, which nothing but the map's own course
changes, and from the object that shows how a map went, which happenings spare. -/
theorem mapsRunToTheirEnd : Obligations.MapsRunToTheirEnd := by
  unfold Obligations.MapsRunToTheirEnd
  refine ⟨⟨?_, ?_, ?_⟩, ⟨?_, ?_⟩, ⟨?_, ?_, ?_, ?_⟩, ?_, ?_, ?_, ?_, ?_, ?_, ?_, ?_⟩
  -- enabling, disabling and invalid references
  · intro s t a c h hp he hc
    have enables := mapperWrite_enables (s := s.heard t a) (by rwa [objN_heard]) (by rwa [heard_map]) hc
    rw [heard_map] at enables
    refine write_completes h (k := fun s x => s.mapperWrite (s.sessionOf a) 1 x.toNat) ?_
      (owes_of_changes (l := [.objs, .ports, .fresh, .map]) ?_ rfl rfl)
    · rw [(written_mapperEnable h.found).1, sessionOf_heard]
      exact enables
    · exact changes_mapperEnable _ _ _ _
  · intro s t a c h hp
    have idle : (s.heard t a).mapRunning = false := by
      rw [mapRunning_heard, State.mapRunning]
      rcases hp with h | h <;> rw [h]
    have disables := mapperDisables_of_rest idle
    rw [heard_map] at disables
    refine write_completes h (k := fun s _ => .ok s.mapperDisables) (congrArg Except.ok disables)
      (owes_of_changes (l := [.objs, .ports, .fresh, .map]) ?_ rfl rfl)
    exact changes_mapperEnable _ _ _ _
  · intro s t a slot bytes c h hp hb hr
    exact bytes_refuse h (k := fun s b => s.referenceStore slot b)
      (referenceStore_of_bad (by rw [mapRunning_heard, State.mapRunning, hp]) hb hr)
  -- references that the Cellar stores
  · intro s t a slot bytes c h hp hr hf hu _
    have idle : (s.heard t a).mapRunning = false := by rw [mapRunning_heard, State.mapRunning, hp]
    obtain ⟨u, stores, owes, frame, opens, none⟩ := hostTxn_opens (s := s.heard t a) (who := s.sessionOf a)
      (why := .reference slot) (changes := [referenceChange slot bytes]) (full := 0x0F011001)
      (by rwa [cellarFree_heard]) (by rwa [heapFree_heard])
    obtain ⟨-, parts, power⟩ := answersLater_facts (who := s.sessionOf a) (frame .loader rfl) frame
    exact ⟨_, _, bytes_answersLater h (k := fun s b => s.referenceStore slot b) ((referenceStore_of_good idle hr).trans stores) owes,
      rfl, rfl, rfl, opens, none, parts, power⟩
  · intro s t a slot bytes c h hp hr hf h5 h4 _
    have idle : (s.heard t a).mapRunning = false := by rw [mapRunning_heard, State.mapRunning, hp]
    obtain ⟨u, stores, owes, frame, waits⟩ := hostTxn_waits (s := s.heard t a) (who := s.sessionOf a)
      (why := .reference slot) (changes := [referenceChange slot bytes]) (full := 0x0F011001)
      (by rwa [cellarFree_heard]) (by rwa [heard_cellar]) (by rwa [heard_cellar])
    obtain ⟨-, parts, power⟩ := answersLater_facts (who := s.sessionOf a) (frame .loader rfl) frame
    rw [heard_cellar] at waits
    exact ⟨_, _, bytes_answersLater h (k := fun s b => s.referenceStore slot b) ((referenceStore_of_good idle hr).trans stores) owes,
      rfl, rfl, rfl, waits, parts, power⟩
  -- the start of a map
  · intro s t a c h hm hs hc
    have start := mapStart_accepts (s := s.heard t a) (who := s.sessionOf a) (by rwa [heard_mode]) (by simpa only [objN_heard] using hs)
      (by rwa [objN_heard])
    simp only [objN_heard] at start
    have save : (s.heard t a).mode ≠ .save := by
      rw [heard_mode]
      rintro e
      rw [e] at hm
      rcases hm with h | h <;> cases h
    obtain ⟨frame, outcome⟩ := mapStarts_outcomes (s.heard t a) save (s.sessionOf a) (s.objN 0x3400 0x0B)
      (s.objN 0x3400 0x15) (s.objN 0x3400 0x0C) (s.objN 0x3400 0x0D) none
    refine ⟨_, write_completes h (k := fun s _ => s.mapStart (s.sessionOf a)) ?_ (owes_of_changes frame rfl rfl), ?_⟩
    · rw [sessionOf_heard]
      exact start
    · simp only [State.mapBegun, mapMask_heard, heard_now] at outcome
      rcases outcome with waits | ⟨v, vmap, vnow, g, begins⟩ | ⟨aborts, shown⟩
      · rw [waits]
        exact ⟨rfl, rfl, rfl, rfl, rfl, .inl rfl, frame.mono rfl⟩
      · rw [begins, State.passBegun, vmap, vnow]
        exact ⟨rfl, rfl, rfl, rfl, rfl, .inr (.inl ⟨rfl, rfl⟩), frame.mono rfl⟩
      · rw [aborts]
        exact ⟨rfl, rfl, rfl, rfl, rfl, .inr (.inr ⟨rfl, shown⟩), frame.mono rfl⟩
  · intro s t g hp hg
    have granted : (s.advance t).mapGranted = (s.advance t).passBegins g := by
      have fit : (s.advance t).groupsFit = some g := hg
      rw [State.mapGranted, if_pos (by simp [hp]), mapTryStart_of_waiting (s := s.advance t) hp, fit]
    refine ⟨_, congrArg Host.Outcome.next granted, passBegins_map _ g, passBegins_shows _ g, ?_⟩
    exact (changes_passBegins _ g).step rfl ((changes_advance s t).mono rfl)
  · intro s t hp hn
    exact congrArg Host.Outcome.next (mapWaitOver_early (s := s.advance t) hn)
  · intro s t hp hn hm
    have ends := mapAborts_ends (s := s.advance t) (mapRunning_of_waiting hp) hm 5
    refine ⟨_, congrArg Host.Outcome.next (mapWaitOver_of_due (s := s.advance t) hp hn), ends.map, ends.cause (by decide), ?_⟩
    exact (changes_mapAborts _ 5).step rfl ((changes_advance s t).mono rfl)
  -- the course of a map
  · intro s t rests samples hp hn
    exact congrArg Host.Outcome.next (mapGroupEnds_early (s := s.advance t) hn)
  · intro s t rests samples hp hn hs hr ho hl
    have due := mapGroupEnds_of_due (s := s.advance t) ⟨.inl hp, hn, hs, hr⟩
    have none : samples.filter pointOver = [] := by simpa [List.filter_eq_nil_iff] using ho
    have same : ((s.advance t).mapRests rests).groupY samples = (s.mapRests rests).groupY samples := by
      rw [mapRests_advance, mapRests_eq s rests]
      exact groupY_congr rfl rfl rfl
    rw [if_neg (by simp [none]), groupTaken_mapRests (s := s.advance t) hp hl, same, mapRests_advance] at due
    exact congrArg Host.Outcome.next due
  · intro s t rests samples hp h2 hn hs hr hl
    have taken := mapGroupEnds_of_due (s := s.advance t) (rests := rests) (samples := samples) ⟨.inr hp, hn, hs, hr⟩
    rw [if_neg (by simp [hp]), mapRests_of_pass2 (s := s.advance t) h2, groupTaken_of_pass2 (s := s.advance t) hp hl] at taken
    obtain ⟨frame, map, ranges, bit⟩ := passDone_of_pass2 (s := { s.advance t with map := (s.advance t).netsTaken samples }) h2
    refine ⟨_, congrArg Host.Outcome.next taken, map.trans ?_, fun p hp => ?_, bit, ?_⟩
    · rw [State.netsTaken, groupY_congr (s := s) (u := s.advance t) rfl rfl rfl]
      rfl
    · exact ⟨congrArg Prod.fst (ranges p hp), congrArg Prod.snd (ranges p hp)⟩
    · exact frame.step rfl (((changes_advance s t).mono rfl).upd rfl)
  · intro s t rests samples hp hn hs hr ho hm
    have due := mapGroupEnds_of_due (s := s.advance t) (rests := rests) (samples := samples) ⟨.inl hp, hn, hs, hr⟩
    have some : samples.filter pointOver ≠ [] := by simpa [List.filter_eq_nil_iff] using ho
    have ends := mapAborts_ends (s := s.advance t) (by rw [State.mapRunning, advance_map, hp]) hm 7
    rw [if_pos (by simp [hp, some])] at due
    exact ⟨_, congrArg Host.Outcome.next due, ends.map, ends.cause (by decide)⟩
  · intro s t a c h hr hm
    have ends := mapAborts_ends (s := s.heard t a) (by rwa [mapRunning_heard]) (by rwa [heard_mode]) 1
    have frame := changes_mapAborts (s.heard t a) 1
    refine ⟨_, write_completes h (k := fun s _ => .ok (s.mapAborts 1)) rfl (owes_of_changes frame rfl rfl), ?_,
      ends.cause (by decide), frame⟩
    rw [ends.map, heard_map]
    rfl
  · intro s t hp h3
    obtain ⟨verdict, ends, plain, frame⟩ := mapEnds_ends (s := s.advance t) hp h3
    refine ⟨_, rfl, ends.map, fun hb => ends.verdict.trans (congrArg Nat.cast (plain hb)), ?_⟩
    exact frame.step rfl ((changes_advance s t).mono rfl)
  · intro s t hp h1 hn hf hr
    obtain ⟨map, shown, frame⟩ := mapAnalysed_of_pass1 (s := s.advance t) hp h1 hn hf hr
    rw [mapLinks_advance] at shown
    refine ⟨_, rfl, map.trans ?_, shown, frame.step rfl ((changes_advance s t).mono rfl)⟩
    rw [State.netsFound, mapLinks_advance]
    rfl
  · intro s t rs hp hn hg hw hl
    have ends := mapRoundEnds_goesOn (s := s.advance t) (rs := rs) hp hn hg hw hl
    have starts := changes_roundStarts { (s.advance t).nextFresh with map := (s.advance t).roundTaken rs }
      (s.map.phaseStart + (s.map.round + 1) * 512000)
    refine ⟨_, congrArg Host.Outcome.next ends, (starts .map rfl).trans ?_, ?_⟩
    · rw [State.roundTaken, linkMeasured_advance]
      rfl
    · exact starts.step rfl (((changes_nextFresh _).step rfl
        ((changes_advance s t).mono rfl)).upd rfl)
end

section
/-!
SUPPORT. CAN FD engines (R224, R230, R231): writes of their enable, of a frame and of recover, and what they do on the bus with no
exchange on them and no result queue.
-/

namespace Sys2Proof.Machine

/-! ## The record and the causes of an engine -/

/-- A second write of an engine's record stands, unless it would enter a record again that the first one took out. -/
theorem setCan_setCan (s : State) (e : Nat) {c d : CanEngine} (h : c = {} → d = {}) :
    (s.setCan e c).setCan e d = s.setCan e d := by
  have cans : Table.set {} (Table.set {} s.cans e c) e d = Table.set {} s.cans e d := by
    by_cases hc : c = {}
    · simp [Table.set, hc, h hc, Table.drop]
    · simp only [Table.set, if_neg hc, Table.put_put, Table.drop_put]
  exact congrArg (fun cans => { s with cans := cans }) cans

theorem changes_setCan (s : State) (e : Nat) (c : CanEngine) : Changes [.cans] s (s.setCan e c) := (changes_iff _ _ _).mpr rfl

theorem blockSubs_can (e : Fin 4) : blockSubs (0x3600 + e) = some (0x0A, 0x0B) := by revert e; decide

section
variable {s : State} {e : Fin 4} {bit : Nat}

theorem cause_can_of_unselected (stamp : Nat) (h : s.unselected (0x3600 + e) 0x0A bit) :
    s.cause (0x3600 + e) bit stamp = s.caused (0x3600 + e) 0x0B bit := cause_of_unselected stamp h (blockSubs_can e)

theorem unselected_setCan (c : CanEngine) (h : s.unselected (0x3600 + e) 0x0A bit) :
    (s.setCan e c).unselected (0x3600 + e) 0x0A bit := unselected_of_obj (obj_setCan s e c _ _) h

theorem unselected_caused {b : Nat} (h : s.unselected (0x3600 + e) 0x0A bit) :
    (s.caused (0x3600 + e) 0x0B b).unselected (0x3600 + e) 0x0A bit := unselected_of_obj (obj_caused_sub s (by decide)) h

theorem changes_canCounted (s : State) (e : Nat) (c : CanEngine) : Changes [.objs, .cans] s (s.canCounted e c) := by
  have set := (changes_setCan s e c).mono (l := [.objs, .cans]) rfl
  exact .ite set ((changes_caused _ _ _ _).step rfl set)

theorem obj_canCounted (c : CanEngine) {j : Nat} (hj : j ≠ 0x0B) : (s.canCounted e c).obj (0x3600 + e) j = s.obj (0x3600 + e) j := by
  unfold State.canCounted
  split
  · exact obj_setCan s e c _ _
  · exact (obj_caused_sub _ hj).trans (obj_setCan s e c _ _)

/-- New counters, where the event select leaves a change of the error state out. -/
theorem canCounts_eq (tec rx : Nat) (h : s.unselected (0x3600 + e) 0x0A 2) :
    s.canCounts e tec rx = s.canCounted e ((s.can e).count tec rx) := by
  simp only [State.canCounts, State.canCounted, cause_can_of_unselected _ (unselected_setCan _ h)]

end

/-! ## Enable, transmit and recover (R224, R231) -/

section
variable {s : State} {e : Fin 4} {b : Bytes}

theorem canEnables_on (hp : s.objN (0x3700 + 3 * e) 1 = 0x10) (hq : s.objN (0x3700 + 3 * e + 1) 1 = 0x11) :
    s.canEnables e 1 = .ok (s.setObj (0x3600 + e) 1 1) := by
  simp only [State.canEnables, hp, hq]
  rfl

theorem canEnables_refused (hp : s.objN (0x3700 + 3 * e) 1 ≠ 0x10) : s.canEnables e 1 = refuse 0x0F010903 := by
  simp only [State.canEnables, beq_eq_false_iff_ne.mpr hp]
  rfl

/-- A disable drops the pending frame, where no exchange that has ended waits for it. -/
theorem canEnables_off (hs : ∀ b k, (s.can e).transmit = some (b, some k) → (s.step k).ending = none) :
    s.canEnables e 0 = .ok ((s.setCan e { s.can e with transmit := none }).setObj (0x3600 + e) 1 0) := by
  have gone : (s.setCan e { s.can e with transmit := none }).requestGone ((s.can e).transmit.bind (·.2)) =
      s.setCan e { s.can e with transmit := none } := by
    refine requestGone_of_open fun k hk => ?_
    obtain ⟨⟨b, _⟩, hb, rfl⟩ := Option.bind_eq_some_iff.mp hk
    rw [step_setCan]
    exact hs b k hb
  simp only [State.canEnables, gone]
  rfl

theorem domainWrite_can (s : State) (a : Accessor) (e : Fin 4) (bytes : Bytes) : s.domainWrite a (0x3600 + e) 6 bytes =
    (s.canTransmits e (reservedCleared (0x3600 + e) 6 bytes)).bind fun u =>
      .ok (u.setBlob (0x3600 + e) 6 (reservedCleared (0x3600 + e) 6 bytes)) := by
  match e with
  | 0 => rfl
  | 1 => rfl
  | 2 => rfl
  | 3 => rfl

theorem canTransmitAbort_of_pending (hb : b.length = 8 + fieldLe b 4 1) (hn : fieldLe b 4 1 ∈ canLengths)
    (hp : (s.can e).transmit.isSome = true) : s.canTransmitAbort e b = some 0x0F010901 := by
  simp [State.canTransmitAbort, hb, hn, hp]

theorem canTransmitAbort_heard (t : Tk) (a : Accessor) : (s.heard t a).canTransmitAbort e b = s.canTransmitAbort e b := by
  simp only [State.canTransmitAbort, State.canOn, can_heard, objN_heard]
  rfl

theorem canWord_heard (t : Tk) (a : Accessor) (ident : Nat) : (s.heard t a).canWord e ident = s.canWord e ident := by
  simp only [State.canWord, objN_heard]

theorem canRecovers_busOff (h : (s.can e).state = .busOff) : s.canRecovers e 1 = s.setCan e { s.can e with recovering := true } :=
  if_pos (by rw [h]; rfl)

end

/-! ## On the bus (R224, R228, R230) -/

section
variable {s : State} {e : Fin 4}

/-- The exchanges of an engine that has none fail. -/
theorem canExchangesFail_nil (s : State) (e : Nat) : s.canExchangesFail e [] = s := by
  rcases h : (s.can e).transmit with _ | ⟨b, _ | k⟩ <;> simp [State.canExchangesFail, h]

theorem canAwaits_of_none (h : s.inFlightSteps = []) : s.canAwaits e = [] := by
  rw [State.canAwaits, exchanges_of_none h]
  rfl

/-- A frame of no exchange has been sent. -/
theorem canTransmitted_sends {b : Bytes} (hp : (s.can e).transmit = some (b, none)) (hon : s.canOn e = true)
    (hl : s.canListens e = false) (h1 : s.unselected (0x3600 + e) 0x0A 1) (h2 : s.unselected (0x3600 + e) 0x0A 2) :
    s.canTransmitted e = (s.canCounted e { s.can e with
      transmit := none, tec := (s.can e).tec - 1,
      state := canStateOf (s.can e).state ((s.can e).tec - 1) (s.can e).rxErr }).caused (0x3600 + e) 0x0B 1 := by
  have counts : (s.setCan e { s.can e with transmit := none }).canCounts e ((s.can e).tec - 1) (s.can e).rxErr =
      s.canCounted e { s.can e with
        transmit := none, tec := (s.can e).tec - 1,
        state := canStateOf (s.can e).state ((s.can e).tec - 1) (s.can e).rxErr } := by
    rw [canCounts_eq _ _ (unselected_setCan _ h2), can_setCan]
    have rest : ({ s.can e with transmit := none } : CanEngine) = {} →
        ({ s.can e with transmit := none } : CanEngine).count ((s.can e).tec - 1) (s.can e).rxErr = {} := by
      intro h
      simp only [CanEngine.mk.injEq] at h
      obtain ⟨state, tec, rx, -, rec⟩ := h
      simp [CanEngine.count, state, tec, rx, rec, canStateOf]
    unfold State.canCounted
    rw [can_setCan, setCan_setCan s e rest]
    rfl
  unfold State.canTransmitted
  simp only [hp, hon, hl, counts, State.requestGone, Bool.not_true, Bool.or_self, Bool.false_eq_true, if_false]
  exact cause_can_of_unselected _ (unselected_of_obj (obj_canCounted _ (by decide)) h1)

/-- An engine that is off, or only listens, sends nothing. -/
theorem canTransmitted_of_silent (h : s.canOn e = false ∨ s.canListens e = true) : s.canTransmitted e = s := by
  have silent : (!s.canOn e || s.canListens e) = true := by rcases h with h | h <;> simp [h]
  cases hp : (s.can e).transmit with
  | none => simp only [State.canTransmitted, hp]
  | some x => simp only [State.canTransmitted, hp, silent, if_true]

/-- A frame that meets no exchange and no result queue is received. -/
theorem canReceives_quiet {f : CanFrame} (hon : s.canOn e = true) (hd : f.data.length ∈ canLengths)
    (hq : s.objN (0x3600 + e) 7 = 0xFFFFFFFF) (hw : s.canWord e f.ident = f.ident) (hf : s.inFlightSteps = [])
    (hr : (s.can e).rxErr ≤ 127) (h0 : s.unselected (0x3600 + e) 0x0A 0) (h2 : s.unselected (0x3600 + e) 0x0A 2) :
    s.canReceives e f = (s.nextFresh.canCounted e { s.can e with
      rxErr := (s.can e).rxErr - 1,
      state := canStateOf (s.can e).state (s.can e).tec ((s.can e).rxErr - 1) }).caused (0x3600 + e) 0x0B 0 := by
  have takes : (!s.canOn e || !canLengths.contains f.data.length || s.canWord e f.ident != f.ident) = false := by
    simp [hon, hd, hw]
  unfold State.canReceives
  rw [if_neg (ne_true_of_eq_false takes)]
  extract_lets c back rx u v i w
  have counts : u = s.nextFresh.canCounted e { s.can e with
      rxErr := (s.can e).rxErr - 1
      state := canStateOf (s.can e).state (s.can e).tec ((s.can e).rxErr - 1) } := by
    have back : rx = (s.can e).rxErr - 1 := if_neg (Nat.not_lt.mpr hr)
    simp only [u, back]
    exact canCounts_eq _ _ (unselected_of_obj (obj_nextFresh s _ _) h2)
  have obj : ∀ j, j ≠ 0x0B → u.obj (0x3600 + e) j = s.obj (0x3600 + e) j := fun j hj => by
    rw [counts, obj_canCounted _ hj, obj_nextFresh]
  have entries : v = u := by
    have none : ∀ x, u.blockEntryTo (u.objN (0x3600 + e) 7) x = u := fun x =>
      blockEntryTo_of_none x ((congrArg Int.toNat (obj 7 (by decide))).trans hq)
    exact (if_congr Iff.rfl (List.foldl_fixed' none _) rfl).trans (ite_self u)
  have exchanges : w = u := by
    have steps : u.inFlightSteps = [] := by
      rw [State.inFlightSteps, counts, changes_canCounted _ _ _ .disp rfl]
      exact hf
    simp only [w, entries, exchanges_of_none steps]
    rfl
  rw [exchanges, cause_can_of_unselected _ (unselected_of_obj (obj _ (by decide)) h0), counts]

theorem canReceives_of_excluded {f : CanFrame} (h : s.canWord e f.ident ≠ f.ident) : s.canReceives e f = s :=
  if_pos (by simp [h])

theorem canReceives_of_off {f : CanFrame} (h : s.canOn e = false) : s.canReceives e f = s :=
  if_pos (by simp [h])

/-- An error on the bus of an engine that sends, with no exchange on it. -/
theorem canErrs_sends (tec rx : Nat) (frame crc : Bool) (hon : s.canOn e = true) (hl : s.canListens e = false)
    (hf : s.inFlightSteps = []) (hp : ∀ b k, (s.can e).transmit ≠ some (b, some k)) (h2 : s.unselected (0x3600 + e) 0x0A 2) :
    s.canErrs e tec rx ⟨frame, crc⟩ = (s.setCan e { s.can e with
      tec := tec, rxErr := rx, state := canStateOf (s.can e).state tec rx,
      transmit := if frame && s.canOnce e then none else (s.can e).transmit }).caused (0x3600 + e) 0x0B 2 := by
  have awaits : ∀ c, (s.setCan e c).canAwaits e = [] := fun c => canAwaits_of_none hf
  have once : ∀ c, (s.setCan e c).canOnce e = s.canOnce e := fun c => by rw [State.canOnce, objN_setCan]; rfl
  rw [← cause_can_of_unselected s.now (unselected_setCan _ h2)]
  rcases hx : (s.can e).transmit with _ | ⟨b, _ | k⟩
  · simp [State.canErrs, hon, hl, hx, awaits, canExchangesFail_nil, CanEngine.count]
  · have again : ∀ c d, c.transmit ≠ none → (s.setCan e c).setCan e d = s.setCan e d := fun c d hc =>
      setCan_setCan s e fun h => absurd (congrArg CanEngine.transmit h) hc
    cases hg : frame && s.canOnce e
    · simp [State.canErrs, hon, hl, hx, awaits, canExchangesFail_nil, CanEngine.count, hg, once]
    · simp [State.canErrs, hon, hl, hx, awaits, canExchangesFail_nil, CanEngine.count, hg, once, again]
  · exact absurd hx (hp b k)

/-- An error on the bus of an engine that only listens. -/
theorem canErrs_listens (tec rx : Nat) (crc : Bool) (hon : s.canOn e = true) (hl : s.canListens e = true)
    (hf : s.inFlightSteps = []) (hp : (s.can e).transmit = none) (h2 : s.unselected (0x3600 + e) 0x0A 2) :
    s.canErrs e tec rx ⟨false, crc⟩ = s.caused (0x3600 + e) 0x0B 2 := by
  simp only [State.canErrs, hon, hl, hp, canAwaits_of_none hf, canExchangesFail_nil, ite_self, if_true, Bool.not_true, Bool.false_eq_true, if_false]
  exact cause_can_of_unselected _ h2

theorem canErrs_of_off {tec rx : Nat} {x : CanFault} (h : s.canOn e = false) : s.canErrs e tec rx x = s :=
  if_pos (by simp [h])

theorem canGoesOff_quiet (hon : s.canOn e = true) (hf : s.inFlightSteps = []) (h2 : s.unselected (0x3600 + e) 0x0A 2)
    (h3 : s.unselected (0x3600 + e) 0x0A 3) :
    s.canGoesOff e = ((s.setCan e { s.can e with state := .busOff }).caused (0x3600 + e) 0x0B 2).caused (0x3600 + e) 0x0B 3 := by
  have none := exchanges_of_none (s := s.setCan e { s.can e with state := .busOff }) hf 0 e
  unfold State.canGoesOff
  rw [if_neg (by simp [hon])]
  dsimp only
  rw [none, canExchangesFail_nil, cause_can_of_unselected _ (unselected_setCan _ h2),
    cause_can_of_unselected _ (unselected_caused (unselected_setCan _ h3))]

theorem canGoesOff_of_off (h : s.canOn e = false) : s.canGoesOff e = s :=
  if_pos (by simp [h])

theorem canRecovered_quiet (hr : (s.can e).recovering = true) (h2 : s.unselected (0x3600 + e) 0x0A 2) :
    s.canRecovered e = (s.setCan e { s.can e with state := .active, tec := 0, rxErr := 0, recovering := false }).caused
      (0x3600 + e) 0x0B 2 :=
  (if_pos hr).trans (cause_can_of_unselected _ (unselected_setCan _ h2))

end

end Sys2Proof.Machine

open Sys2Proof Sys2Proof.Machine

/-- Settles O21: each write by what the engine takes or refuses; what happens on the bus by its causes, which the event select leaves
out. -/
theorem canEnginesExchangeFrames : Obligations.CanEnginesExchangeFrames := by
  unfold Obligations.CanEnginesExchangeFrames
  refine ⟨⟨?_, ?_, ?_, ?_, ?_, ?_, ?_⟩, ?_, ?_, ?_, ?_, ?_, ?_, ?_, ?_⟩
  -- writes of the enable
  · intro s t a e c h hv hp hq
    have on := canEnables_on (s := s.heard t a) (e := e) ((objN_heard s t a _ _).trans hp) ((objN_heard s t a _ _).trans hq)
    exact write_completes h (k := fun s x => s.canEnables e x.toNat) (by rw [hv]; exact on)
      (owes_of_changes (changes_setObj _ _ _ _) rfl rfl)
  · intro s t a e c h hv hp
    have refused := canEnables_refused (s := s.heard t a) (e := e) (by rwa [objN_heard])
    exact write_refuses h (k := fun s x => s.canEnables e x.toNat) (by rw [hv]; exact refused)
  · intro s t a e c h hv hs
    have off := canEnables_off (s := s.heard t a) (e := e) (by simpa only [can_heard, step_heard] using hs)
    rw [can_heard] at off
    have frame := (changes_setObj _ (0x3600 + e) 1 0).step (l := [.objs, .cans]) rfl
      ((changes_setCan (s.heard t a) e { s.can e with transmit := none }).mono rfl)
    exact write_completes h (k := fun s x => s.canEnables e x.toNat) (by rw [hv]; exact off) (owes_of_changes frame rfl rfl)
  -- frames, and recover
  · intro s t a e bytes c b h hb ha
    have takes : (s.heard t a).domainWrite a (0x3600 + e) 6 bytes =
        .ok (((s.heard t a).setCan e { s.can e with
          transmit := some (natLe 4 (s.canWord e (fieldLe b 0 4)) ++ b.drop 4, none) }).setBlob (0x3600 + e) 6 b) := by
      rw [domainWrite_can, hb, State.canTransmits, canTransmitAbort_heard, ha, State.canSends, canWord_heard, can_heard]
      rfl
    have frame := fun c => (changes_setBlob _ (0x3600 + e) 6 b).step (l := [.blobs, .cans]) rfl
      ((changes_setCan (s.heard t a) e c).mono rfl)
    exact bytes_complete h (k := fun s b => s.domainWrite a (0x3600 + e) 6 b) takes (owes_of_changes (frame _) rfl rfl)
  · intro s t a e bytes c b h hb hl hn hp
    have refuses : (s.heard t a).domainWrite a (0x3600 + e) 6 bytes = refuse 0x0F010901 := by
      rw [domainWrite_can, hb, State.canTransmits, canTransmitAbort_heard, canTransmitAbort_of_pending hl hn hp]
      rfl
    exact bytes_refuse h (k := fun s b => s.domainWrite a (0x3600 + e) 6 b) refuses
  · intro s t a e c h hv hs
    have recovers := canRecovers_busOff (s := s.heard t a) (e := e) (by rwa [can_heard])
    rw [can_heard] at recovers
    exact write_completes h (k := fun s x => .ok (s.canRecovers e x.toNat)) (by rw [hv]; exact congrArg Except.ok recovers)
      (owes_of_changes (changes_setCan _ e _) rfl rfl)
  · intro s t e hr h2
    exact congrArg Host.Outcome.next (canRecovered_quiet (s := s.advance t) hr h2)
  -- on the bus
  · intro s t e bytes hp hon hl h1 h2
    exact congrArg Host.Outcome.next (canTransmitted_sends (s := s.advance t) hp hon hl h1 h2)
  · intro s t e hl
    exact congrArg Host.Outcome.next (canTransmitted_of_silent (s := s.advance t) (.inr hl))
  · intro s t e f hon hd hq hw hf hr h0 h2
    exact congrArg Host.Outcome.next (canReceives_quiet (s := s.advance t) hon hd hq hw hf hr h0 h2)
  · intro s t e f hw
    exact congrArg Host.Outcome.next (canReceives_of_excluded (s := s.advance t) hw)
  · intro s t e tec rx frame crc hon hl hf hp h2
    exact congrArg Host.Outcome.next (canErrs_sends (s := s.advance t) tec rx frame crc hon hl hf hp h2)
  · intro s t e tec rx crc hon hl hf hp h2
    exact congrArg Host.Outcome.next (canErrs_listens (s := s.advance t) tec rx crc hon hl hf hp h2)
  · intro s t e hon hf _ h2 h3
    exact congrArg Host.Outcome.next (canGoesOff_quiet (s := s.advance t) hon hf h2 h3)
  · intro s t e f tec rx frame crc hoff
    exact ⟨congrArg Host.Outcome.next (canReceives_of_off (s := s.advance t) hoff),
      congrArg Host.Outcome.next (canErrs_of_off (s := s.advance t) hoff),
      congrArg Host.Outcome.next (canGoesOff_of_off (s := s.advance t) hoff),
      congrArg Host.Outcome.next (canTransmitted_of_silent (s := s.advance t) (.inl hoff))⟩
end

section
/-!
SUPPORT. Plans and the dispatcher: what a happening, an entry and a decision leave of the running plan (R129, R207, R208), its start
and its abort (R204, R205, R216), and the write of a plan image (R192, R198).
-/

namespace Sys2Proof.Machine

/-! ## What moves steps alone -/

/-- Nothing differs but what an entry of a device block may change, and of the running plan nothing but its steps. -/
structure StepsMove (s u : State) : Prop where
  changes : Changes entryParts s u
  plan : u.disp = { s.disp with steps := u.disp.steps }

section
variable {s t u v : State}

theorem StepsMove.refl (s : State) : StepsMove s s := ⟨.refl _ s, rfl⟩

theorem StepsMove.trans (h : StepsMove s t) (g : StepsMove t u) : StepsMove s u :=
  ⟨h.changes.trans g.changes, g.plan.trans (by rw [h.plan])⟩

theorem StepsMove.ite {c : Prop} [Decidable c] (hu : StepsMove s u) (hv : StepsMove s v) : StepsMove s (if c then u else v) := by
  split
  · exact hu
  · exact hv

theorem StepsMove.foldl {β : Type} {f : State → β → State} (xs : List β) (hf : ∀ t x, StepsMove t (f t x)) (s : State) :
    StepsMove s (xs.foldl f s) := by
  induction xs generalizing s with
  | nil => exact .refl s
  | cons x xs ih => exact (hf s x).trans (ih _)

/-- A change of other parts than the dispatcher. -/
theorem Changes.stepsMove {l : List Part} (h : Changes l s u) (hl : l.all entryParts.contains = true)
    (hd : l.contains .disp = false) : StepsMove s u :=
  ⟨h.mono hl, by rw [show u.disp = s.disp from h .disp hd]⟩

end

section
variable (s : State)

theorem stepsMove_setStep (k : Nat) (r : StepRec) : StepsMove s (s.setStep k r) := ⟨(changes_setStep s k r).mono rfl, rfl⟩

theorem stepsMove_setObj (i j : Nat) (v : Int) : StepsMove s (s.setObj i j v) := (changes_setObj s i j v).stepsMove rfl rfl

theorem stepsMove_countUp (i j d : Nat) : StepsMove s (s.countUp i j d) := (changes_countUp s i j d).stepsMove rfl rfl

theorem stepsMove_signalOnce (x : Signal) : StepsMove s (s.signalOnce x).1 := by
  cases x with
  | cause idx bit stamp =>
    unfold State.signalOnce
    dsimp only
    split
    · exact stepsMove_setObj s _ _ _
    · exact .refl s
  | edge n stamp rising =>
    have level := (changes_setLevel s n rising stamp).stepsMove rfl rfl
    have edge := (changes_controllerEdge (s.setLevel n rising stamp) n stamp rising).stepsMove rfl rfl
    exact (level.trans edge).trans (.foldl _ (fun t (x : Nat × StepRec) => stepsMove_setStep t x.1 _) _)
  | trigger q stamp command arrived =>
    have set := fun c => (changes_setConv s q c).stepsMove rfl rfl
    unfold State.signalOnce
    dsimp only
    split
    · exact stepsMove_countUp s _ _ _
    · split
      · exact (set _).trans (stepsMove_countUp _ _ _ _)
      · exact set _
  | request o stamp command arrived =>
    unfold State.signalOnce
    dsimp only
    split
    · exact stepsMove_countUp s _ _ _
    · exact (changes_setTrigOut s o _).stepsMove rfl rfl

theorem stepsMove_signal (fuel : Nat) (x : Signal) : StepsMove s (s.signal fuel x) := by
  induction fuel generalizing s x with
  | zero => exact .refl s
  | succ fuel ih => exact (stepsMove_signalOnce s x).trans (.foldl _ (fun t y => ih t y) _)

theorem stepsMove_cause (idx bit stamp : Nat) : StepsMove s (s.cause idx bit stamp) := stepsMove_signal s _ _

theorem stepsMove_acceptEntry (q : Nat) (qu : Queue) (e : NewEntry) : StepsMove s (s.acceptEntry q qu e) :=
  ((changes_setQueue s q _).stepsMove rfl rfl).trans (.ite (stepsMove_cause _ _ _ _) (.refl _))

/-- An entry that a queue refuses is counted for it and for the queue system. -/
theorem stepsMove_refused (q : Nat) (qu : Option Queue) (sub bit : Nat) :
    StepsMove s (((s.setQueue q qu).countUp 0x2800 sub).cause 0x2800 bit s.now) :=
  (((changes_setQueue s q qu).stepsMove rfl rfl).trans (stepsMove_countUp _ _ _ _)).trans (stepsMove_cause _ _ _ _)

theorem stepsMove_offerEntry (q : Nat) (e : NewEntry) : StepsMove s (s.offerEntry q e).1 := by
  have same := StepsMove.refl s
  have accept := fun qu => stepsMove_acceptEntry s q qu e
  have full : ∀ qu, StepsMove s (s.refuseFull q qu) := fun qu => stepsMove_refused s q _ _ 1
  have pantry : ∀ qu, StepsMove s (s.refusePantry q qu) := fun qu => stepsMove_refused s q _ _ 2
  unfold State.offerEntry
  split
  · exact same
  · dsimp only
    split
    · exact same
    · split
      · split
        · exact full _
        · split
          · split
            · split
              · exact accept _
              · exact pantry _
            · exact pantry _
          · split
            · exact full _
            · exact accept _
      · split
        · exact pantry _
        · exact accept _

theorem stepsMove_blockEntryTo (v : Nat) (e : NewEntry) : StepsMove s (s.blockEntryTo v e) := by
  have missing : StepsMove s ((s.countUp 0x2800 0x0B).cause 0x2800 5 s.now) :=
    (stepsMove_countUp s _ _ _).trans (stepsMove_cause _ _ _ _)
  refine .ite (.refl s) ?_
  unfold State.blockEntry
  split
  · exact missing
  · exact .ite missing (stepsMove_offerEntry s v e)

/-! ## Ready and skipped steps, and decisions (R207, R208, R215) -/

theorem stepsMove_skipStep (k : Nat) : StepsMove s (s.skipStep k) :=
  (stepsMove_setStep s k _).trans (.ite (.refl _) (stepsMove_blockEntryTo _ _ _))

theorem stepsMove_updateStep (k : Nat) : StepsMove s (s.updateStep k) :=
  .ite (.refl s) (.ite (stepsMove_skipStep s k) (.ite (stepsMove_setStep s k _) (.refl s)))

theorem stepsMove_updateReady : StepsMove s s.updateReady := .ite (.refl s) (.foldl _ stepsMove_updateStep s)

theorem stepsMove_judgeReady : StepsMove s s.judgeReady := by
  have shown := (changes_showGrants s).stepsMove rfl rfl
  exact .ite shown (shown.trans (.foldl _ (fun t (x : Nat × StepRec) => stepsMove_setStep t x.1 _) _))

end

/-! ## The start of a plan (R204) -/

section
variable {s : State} {who : Nat}

/-- The result queues that a plan image names. -/
def namedQueues (i : Bytes) : List Nat := ((List.range (stepCount i)).map (stepQueue i)).filter (· != 0xFFFFFFFF)

/-- A plan has begun, and no step of it is ready yet. -/
def State.planBegun (s : State) (who : Nat) : State :=
  let slot := s.objN 0x3500 2
  let i := s.planImage slot
  [5, 9, 0x0A, 0x12, 0x13].foldl (fun (s : State) sub => s.setObj 0x3501 sub 0)
    (State.setObj (State.setObj { s with disp :=
      { slot := some slot, session := who, tails := s.disp.tails, queuesNamed := namedQueues i } } 0x3501 3 (planId i)) 0x3501 0x0B s.now)

theorem changes_planBegun (s : State) (who : Nat) : Changes [.objs, .disp] s (s.planBegun who) :=
  Changes.foldl _ (fun _ _ h => (changes_setObj _ _ _ _).step rfl h)
    ((changes_setObj _ _ _ _).step rfl ((changes_setObj _ _ _ _).step rfl ((changes_iff _ _ _).mpr rfl)))

theorem disp_planBegun (s : State) (who : Nat) : (s.planBegun who).disp =
    { slot := some (s.objN 0x3500 2), session := who, tails := s.disp.tails,
      queuesNamed := namedQueues (s.planImage (s.objN 0x3500 2)) } := rfl

/-- Whether what a plan claims and names fits the device. -/
structure State.PlanFits (s : State) (who : Nat) (i : Bytes) : Prop where
  claims : s.claimsAbort who (s.planClaims i) = none
  energy : ∀ k < stepCount i, stepClaim i k ≤ s.gov.capacity
  queues : s.pantry.larderReady = true →
    s.pinnedCount + ((namedQueues i).eraseDups.filter fun q => !s.pinned q).length ≤ 16000

theorem planStarts_begins (hm : s.mode = .run ∨ s.mode = .throttle) (hs : s.disp.slot = none)
    (hi : s.planImage (s.objN 0x3500 2) ≠ []) (hf : s.PlanFits who (s.planImage (s.objN 0x3500 2))) :
    s.planStarts who = .ok (s.planBegun who).updateReady.judgeReady := by
  have mode : (!(s.mode == .run || s.mode == .throttle)) = false := by rcases hm with h | h <;> rw [h] <;> rfl
  have image : (s.planImage (s.objN 0x3500 2)).isEmpty = false := by simpa using hi
  have energy : ((List.range (stepCount (s.planImage (s.objN 0x3500 2)))).any fun k =>
      decide (s.gov.capacity < stepClaim (s.planImage (s.objN 0x3500 2)) k)) = false := by
    simpa using hf.energy
  have queues : (s.pantry.larderReady && decide (16000 < s.pinnedCount +
      ((namedQueues (s.planImage (s.objN 0x3500 2))).eraseDups.filter fun q => !s.pinned q).length)) = false := by
    simpa using hf.queues
  unfold namedQueues at queues
  unfold State.planStarts
  dsimp only
  rw [mode, hs, image, hf.claims, energy, queues]
  rfl

/-! ## The abort of a plan with no step in flight (R205, R216) -/

/-- A plan has ended with verdict 3 and a cause; its peaks have their tails. -/
def State.planOver (s : State) (cause : Nat) : State :=
  { (s.setObj 0x3501 9 3).setObj 0x3501 0x0A cause with disp := { tails := s.disp.tails } }

theorem changes_planOver (s : State) (cause : Nat) : Changes [.objs, .disp] s (s.planOver cause) :=
  ((changes_setObj (s.setObj 0x3501 9 3) 0x3501 0x0A cause).step rfl ((changes_setObj s 0x3501 9 3).mono rfl)).upd rfl

theorem obj_planOver (s : State) (cause : Nat) {j : Nat} (hj : j < 256) : (s.planOver cause).obj 0x3500 j = s.obj 0x3500 j := by
  have same : (s.planOver cause).obj 0x3500 j = ((s.setObj 0x3501 9 3).setObj 0x3501 0x0A cause).obj 0x3500 j := rfl
  rw [same, obj_setObj_other _ _ (by simp only [objKey]; omega), obj_setObj_other _ _ (by simp only [objKey]; omega)]

theorem blockSubs_dispatcher : blockSubs 0x3500 = some (6, 7) := by decide

/-- A plan that is aborted ends with verdict 3 and the cause of its abort. -/
theorem planSettles_of_aborted {slot cause : Nat} (hs : s.disp.slot = some slot) (hd : s.disp.stopped = true)
    (ha : s.disp.abortCause = some cause) (ho : s.openSteps = []) (hq : s.objN 0x3500 3 = 0xFFFFFFFF)
    (hu : s.unselected 0x3500 6 0) :
    s.planSettles = (s.planOver cause).setObj 0x3500 7 (putBit (s.objN 0x3500 7) 0 true : Nat) := by
  have ends : s.planSettles = (s.planOver cause).cause 0x3500 0 s.now := by
    simp only [State.planSettles, hs, hd, ha, ho, List.isEmpty_nil, Bool.not_true, Bool.false_and, Bool.or_self, Bool.false_eq_true,
      if_false, blockEntryTo_of_none _ hq]
    rfl
  rw [ends, cause_of_unselected _ (unselected_of_obj (obj_planOver s cause (by decide)) hu) blockSubs_dispatcher, State.caused,
    State.objN, obj_planOver s cause (by decide)]
  rfl

/-- The abort of a plan, before the plan ends with it. -/
def State.abortNoted (s : State) (cause : Nat) : State :=
  { s with disp := { s.disp with stopped := true, abortCause := some cause } }

theorem planAborts_of_rest {slot cause : Nat} (hs : s.disp.slot = some slot) (ha : s.disp.abortCause = none)
    (ho : s.openSteps = []) (hq : s.objN 0x3500 3 = 0xFFFFFFFF) (hu : s.unselected 0x3500 6 0) :
    s.planAborts cause = (s.planOver cause).setObj 0x3500 7 (putBit (s.objN 0x3500 7) 0 true : Nat) := by
  have flight : s.inFlightSteps = [] := by
    refine List.filter_eq_nil_iff.mpr fun x hx h => ?_
    exact List.filter_eq_nil_iff.mp ho x hx (Bool.and_eq_true_iff.mp h).1
  have goes : (s.disp.slot.isNone || s.disp.abortCause.isSome) = false := by rw [hs, ha]; rfl
  have settles := planSettles_of_aborted (s := s.abortNoted cause) hs rfl rfl ho hq hu
  unfold State.planAborts
  rw [if_neg (ne_true_of_eq_false goes), flight]
  exact settles

theorem written_planCommand {c : Card} (h : cardOf 0x3500 1 = some c) :
    c.written (natLe 1 1) = 1 ∧ c.written (natLe 1 2) = 2 := by
  have all : (cardOf 0x3500 1).all (fun c => c.written (natLe 1 1) == 1 && c.written (natLe 1 2) == 2) = true := by decide +kernel
  simpa [h] using all

end

/-! ## Plan images (R192, R198) -/

section
variable {s : State} {slot : Nat} {b : Bytes}

/-- What a write of a plan slot stores. -/
def planChange (slot : Nat) (b : Bytes) : Stored := .blob 4 slot (if b.isEmpty then none else some b)

/-- The load result of a plan image that is good (R198). -/
def planLoaded (slot : Nat) : Int := (0xFFFF00 + slot * 2 ^ 24 : Nat)

theorem planBytes_setObj (s : State) (i j : Nat) (v : Int) (slot : Nat) : (s.setObj i j v).planBytes slot = s.planBytes slot := rfl

theorem planStore_of_good (hs : s.disp.slot ≠ some slot) (hb : b = [] ∨ loadCheck b = (0, 0xFFFF))
    (hr : s.planBytes slot + b.length ≤ 12582912) : s.planStore slot b =
      (s.setObj 0x3500 9 (planLoaded slot)).hostTxn (.plan slot) [planChange slot b] := by
  have free : (s.disp.slot == some slot) = false := beq_eq_false_iff_ne.mpr hs
  have check : (if b.isEmpty then (0, 0xFFFF) else loadCheck b) = (0, 0xFFFF) := by
    rcases hb with h | h <;> simp [h]
  have room : decide (12582912 < s.planBytes slot + b.length) = false := decide_eq_false (Nat.not_lt.mpr hr)
  unfold State.planStore
  rw [free, check]
  dsimp only [refuseIf_false, ok_bind]
  rw [if_neg (by decide), planBytes_setObj, room]
  simp only [Nat.zero_add, Nat.reduceMul]
  rfl

theorem planStore_of_bad {code k : Nat} (hs : s.disp.slot ≠ some slot) (hb : b ≠ []) (hc : loadCheck b = (code, k)) (h0 : code ≠ 0) :
    s.planStore slot b = refuseAfter 0x0F010701 (s.setObj 0x3500 9 (code + k * 256 + slot * 2 ^ 24 : Nat)) := by
  have free : (s.disp.slot == some slot) = false := beq_eq_false_iff_ne.mpr hs
  have check : (if b.isEmpty then (0, 0xFFFF) else loadCheck b) = (code, k) := by simp [hb, hc]
  have bad : (code != 0) = true := bne_iff_ne.mpr h0
  unfold State.planStore
  rw [free, check]
  dsimp only [refuseIf_false, ok_bind]
  rw [if_pos bad]

end

/-! ## The commands -/

section
variable {s : State} {t : Tk} {a : Accessor}

theorem planImage_heard (slot : Nat) : (s.heard t a).planImage slot = s.planImage slot := by
  simp only [State.planImage, State.item, heard_cellar]

theorem planBytes_heard (slot : Nat) : (s.heard t a).planBytes slot = s.planBytes slot := by
  simp only [State.planBytes, planImage_heard]

theorem planClaims_heard (i : Bytes) : (s.heard t a).planClaims i = s.planClaims i := by
  simp only [State.planClaims, objN_heard]

theorem objs_setObj_heard (i j : Nat) (v : Int) : ((s.heard t a).setObj i j v).objs = (s.setObj i j v).objs := by
  rw [heard_eq]
  rfl

/-- A write of bytes that its chapter refuses, with a trace. -/
theorem bytes_refuseAfter {u : State} {idx sub : Nat} {bytes : Bytes} {c : Card} (h : TakesBytes s t a idx sub bytes c) {code : Nat}
    {k : State → Bytes → Res} (hk : k (s.heard t a) bytes = refuseAfter code u) :
    s.requestBytes t a idx sub bytes k = .next (u.refusedWith code) := by
  rw [State.requestBytes, request_served h.served h.turn, guardBytes_ok h, hk]
  rfl

section
variable (s u : State) (i j : Nat) (v : Int) (who : Nat)

theorem cellarFree_setObj : (s.setObj i j v).cellarFree = s.cellarFree := rfl

theorem heapFree_setObj : (s.setObj i j v).heapFree = s.heapFree := rfl

theorem owes_setObj : (s.setObj i j v).owes u = s.owes u := rfl

theorem answersLater_setObj : (s.setObj i j v).answersLater u who = s.answersLater u who := rfl

end

/-- A good plan image is stored as its transaction is, and the answer waits for it (R192, R450). -/
theorem planImage_answersLater {slot : Fin 4} {bytes : Bytes} {c : Card} {u : State}
    (h : TakesBytes s t a (0x3510 + slot) 1 bytes c) (hs : s.disp.slot ≠ some slot.val)
    (hb : bytes = [] ∨ loadCheck bytes = (0, 0xFFFF)) (hr : s.planBytes slot + bytes.length ≤ 12582912)
    (stores : ((s.heard t a).setObj 0x3500 9 (planLoaded slot)).hostTxn (.plan slot) [planChange slot bytes] = .ok u)
    (owes : ((s.heard t a).setObj 0x3500 9 (planLoaded slot)).owes u = true)
    (frame : Changes [.cellar] ((s.heard t a).setObj 0x3500 9 (planLoaded slot)) u) :
    let v := ((s.heard t a).setObj 0x3500 9 (planLoaded slot)).answersLater u (s.sessionOf a)
    exec (.planImageWrite t a slot bytes) s = .next v ∧ v.objs = (s.setObj 0x3500 9 (planLoaded slot)).objs ∧
      Changes [.cellar, .power, .objs] (s.heard t a) v := by
  obtain ⟨-, parts, -⟩ := answersLater_facts (who := s.sessionOf a) (frame .loader rfl) frame
  have good := planStore_of_good (s := s.heard t a) (by rwa [heard_disp]) hb (by rwa [planBytes_heard])
  refine ⟨?_, (parts .objs rfl).trans (objs_setObj_heard _ _ _), parts.step rfl ((changes_setObj _ _ _ _).mono rfl)⟩
  rw [answersLater_setObj]
  rw [owes_setObj] at owes
  exact bytes_answersLater h (k := fun s b => s.planStore slot b) (good.trans stores) owes

/-- A start that fits is accepted; what follows it moves steps alone. -/
theorem exec_planStart {c : Card} (h : TakesWrite s t a 0x3500 1 (natLe 1 1) c) (hm : s.mode = .run ∨ s.mode = .throttle)
    (hs : s.disp.slot = none) (hi : s.planImage (s.objN 0x3500 2) ≠ [])
    (hf : (s.heard t a).PlanFits (s.sessionOf a) (s.planImage (s.objN 0x3500 2))) :
    ∃ u, exec (.planStart t a) s = .next ((s.heard t a).answered u) ∧ StepsMove ((s.heard t a).planBegun (s.sessionOf a)) u := by
  have image : (s.heard t a).planImage ((s.heard t a).objN 0x3500 2) = s.planImage (s.objN 0x3500 2) := by
    rw [planImage_heard, objN_heard]
  have starts := planStarts_begins (s := s.heard t a) (who := s.sessionOf a) (by rwa [heard_mode]) (by rwa [heard_disp])
    (by rwa [image]) (by rwa [image])
  have moves := (stepsMove_updateReady ((s.heard t a).planBegun (s.sessionOf a))).trans (stepsMove_judgeReady _)
  have frame : Changes entryParts (s.heard t a) _ := moves.changes.step rfl ((changes_planBegun _ _).mono rfl)
  refine ⟨_, ?_, moves⟩
  refine write_completes h (k := fun s x => s.dispatcherWrite (s.sessionOf a) 1 x.toNat) ?_ (owes_of_changes frame rfl rfl)
  rw [(written_planCommand h.found).1, sessionOf_heard]
  exact starts

theorem exec_planAbort {c : Card} {slot : Nat} (h : TakesWrite s t a 0x3500 1 (natLe 1 2) c) (hs : s.disp.slot = some slot)
    (ha : s.disp.abortCause = none) (ho : s.openSteps = []) (hq : s.objN 0x3500 3 = 0xFFFFFFFF) (hu : s.unselected 0x3500 6 0) :
    exec (.planAbort t a) s = .next ((s.heard t a).answered (((s.heard t a).planOver 6).setObj 0x3500 7
      (putBit (s.objN 0x3500 7) 0 true : Nat))) := by
  have aborts := planAborts_of_rest (s := s.heard t a) (cause := 6) (by rwa [heard_disp]) (by rwa [heard_disp])
    (by rwa [State.openSteps, heard_disp]) (by rwa [objN_heard]) (unselected_of_obj (obj_heard s t a _ _) hu)
  rw [objN_heard] at aborts
  refine write_completes h (k := fun s x => s.dispatcherWrite (s.sessionOf a) 1 x.toNat) ?_
    (owes_of_changes ((changes_setObj _ 0x3500 7 _).step rfl (changes_planOver _ 6)) rfl rfl)
  rw [(written_planCommand h.found).2]
  exact congrArg Except.ok aborts

end

end Sys2Proof.Machine

open Sys2Proof Sys2Proof.Machine

/-- Settles O18: a write of an image by its check and by the transaction that stores it; a start by the record of the plan, which the
steps that become ready leave alone; an abort by the end of the plan that follows at once. -/
theorem plansStart : Obligations.PlansStart := by
  unfold Obligations.PlansStart
  refine ⟨⟨?_, ?_, ?_⟩, ?_, ?_⟩
  -- images
  · intro s t a slot bytes c h hs hb hr hf hu
    obtain ⟨u, stores, owes, frame, opens, none⟩ := hostTxn_opens (s := (s.heard t a).setObj 0x3500 9 (planLoaded slot))
      (who := s.sessionOf a) (why := .plan slot) (changes := [planChange slot bytes]) (full := 0x0F011001)
      (by rwa [cellarFree_setObj, cellarFree_heard]) (by rwa [heapFree_setObj, heapFree_heard])
    obtain ⟨written, objs, parts⟩ := planImage_answersLater h hs hb hr stores owes frame
    exact ⟨_, _, written, rfl, rfl, rfl, opens, none, objs, parts⟩
  · intro s t a slot bytes c h hs hb hr hf h5 h4
    obtain ⟨u, stores, owes, frame, waits⟩ := hostTxn_waits (s := (s.heard t a).setObj 0x3500 9 (planLoaded slot))
      (who := s.sessionOf a) (why := .plan slot) (changes := [planChange slot bytes]) (full := 0x0F011001)
      (by rwa [cellarFree_setObj, cellarFree_heard]) (by rwa [setObj_cellar, heard_cellar]) (by rwa [setObj_cellar, heard_cellar])
    obtain ⟨written, objs, parts⟩ := planImage_answersLater h hs hb hr stores owes frame
    rw [setObj_cellar, heard_cellar] at waits
    exact ⟨_, _, written, rfl, rfl, rfl, waits, objs, parts⟩
  · intro s t a slot bytes c code k h hs hb hc h0
    have bad := planStore_of_bad (s := s.heard t a) (by rwa [heard_disp]) hb hc h0
    exact bytes_refuseAfter h (k := fun s b => s.planStore slot b) bad
  -- start and abort
  · intro s t a c h hm hs hi hc he hp
    obtain ⟨u, starts, moves⟩ := exec_planStart h hm hs hi
      ⟨by rwa [planClaims_heard], by rwa [heard_gov], fun hl => hp (by rwa [heard_pantry] at hl)⟩
    have frame : Changes entryParts (s.heard t a) u := moves.changes.step rfl ((changes_planBegun _ _).mono rfl)
    have plan := moves.plan
    rw [disp_planBegun, objN_heard, heard_disp] at plan
    exact ⟨u, starts, by rw [plan], by rw [plan], by rw [plan], by rw [plan], by rw [plan], frame.mono rfl⟩
  · intro s t a c slot h hs ha ho hq hu
    have aborts := exec_planAbort h hs ha ho hq hu
    rw [State.planOver, heard_disp] at aborts
    exact aborts
end

section
/-!
SUPPORT. A ready step whose deferral a second writing of the ready steps would show (R207, R208), in a table of steps that lists one
step twice: its two entries are both dropped when the step's record is written back as the record of a step that has none.
-/

namespace Sys2Proof.Machine

/-- Step 5 is ready. Step 3 is listed twice: its first entry carries a deferral cause and no more, the second one is ready and held. -/
def State.listsStepTwice : State :=
  { State.reset with
    mode := .run
    disp := { slot := some 0, steps := [(3, { deferCause := 1 }), (3, { stage := .ready, held := true }), (5, { stage := .ready })] } }

theorem listsStepTwice_dispatching : State.listsStepTwice.dispatching = true := by decide +kernel

theorem listsStepTwice_ready : (State.listsStepTwice.step 5).stage = .ready := by decide +kernel

/-- The held entry goes before step 5, which defers it (R208). -/
theorem listsStepTwice_deferred : (State.listsStepTwice.advance 0).stepTestCause 5 = 4 := by decide +kernel

/-- Step 3 is judged before step 5, and its record is then that of a step with no entry. -/
theorem listsStepTwice_dispatch :
    (((State.listsStepTwice.advance 0).dispatchStep State.put 5).step 5).deferCause = 0 := by decide +kernel

end Sys2Proof.Machine

open Sys2Proof Sys2Proof.Machine

/-- Refutes O19: its clause of a step that stays ready is about all tables of steps, those too that list a step twice, which
`Table.set` never makes; there the judgement of another step may drop the held entry that deferred this one. -/
theorem not_stepsRunInTime : ¬ Obligations.StepsRunInTime := by
  unfold Obligations.StepsRunInTime
  rintro ⟨⟨-, -, staysReady⟩, -⟩
  obtain ⟨u, dispatched, -, defers, -⟩ := staysReady State.listsStepTwice 0 5 listsStepTwice_dispatching listsStepTwice_ready
    (.inl (ne_of_eq_of_ne listsStepTwice_deferred (by decide)))
  have left : (State.listsStepTwice.advance 0).dispatchStep State.put 5 = u := Host.Outcome.next.inj dispatched
  have cause : (0 : Nat) = 4 := by
    calc 0 = (u.step 5).deferCause := by rw [← left]; exact listsStepTwice_dispatch.symm
      _ = (State.listsStepTwice.advance 0).stepTestCause 5 := defers
      _ = 4 := listsStepTwice_deferred
  exact absurd cause (by decide)
end

section
/-!
SUPPORT. A step that ends and sets the dispatcher's cause bit 4 (R129, R216), whose edge a second entry of the same step awaits, in a
table of steps that lists one step twice: the second entry then takes the place of the record that the step ended with.
-/

namespace Sys2Proof.Machine

/-- Step 0 has stopped with cause 5. A second entry of it waits for the edge of event source 448, the dispatcher's; the image in slot
0 says of the step only that the plan stops where it fails. -/
def State.awaitsItself : State :=
  ({ State.reset with
    mode := .run
    disp := { slot := some 0, steps := [(0, { stage := .inFlight, done := some 5 }), (0, { stage := .inFlight, waitsFor := some 448 })] }
    cellar := { State.reset.cellar with items := [(itemKey 4 0, some [0, 2])] } }).setObj 0x3500 6 0x10

theorem awaitsItself_runs : State.awaitsItself.disp.slot.isSome = true := by decide +kernel

theorem awaitsItself_inFlight : (State.awaitsItself.step 0).stage = .inFlight := by decide +kernel

theorem awaitsItself_stopped : (State.awaitsItself.step 0).done = some 5 := by decide +kernel

/-- The end of the step leaves the plan running, and the step in flight. -/
theorem awaitsItself_stepEnds : ((State.awaitsItself.advance 0).stepEnds 0).disp.slot = some 0 ∧
    (((State.awaitsItself.advance 0).stepEnds 0).step 0).stage = .inFlight := by decide +kernel

end Sys2Proof.Machine

open Sys2Proof Sys2Proof.Machine

/-- Refutes O20: its clause of the end of a step is about all tables of steps, those too that list a step twice, which `Table.set` never
makes; there an entry that lay behind the ended one may take its place. -/
theorem not_stepsAndSweepsEnd : ¬ Obligations.StepsAndSweepsEnd := by
  unfold Obligations.StepsAndSweepsEnd
  rintro ⟨⟨stepEnds, -⟩, -⟩
  obtain ⟨u, ended, -, ends⟩ := stepEnds State.awaitsItself 0 0 5 awaitsItself_runs awaitsItself_inFlight awaitsItself_stopped
  have left : (State.awaitsItself.advance 0).stepEnds 0 = u := Host.Outcome.next.inj ended
  obtain ⟨runs, stays⟩ := awaitsItself_stepEnds
  rw [left] at runs stays
  rcases ends with free | ⟨stage, -⟩ | ⟨-, ready, -⟩
  · exact absurd (free.symm.trans runs) (by decide)
  · exact absurd (stage.symm.trans stays) (by decide)
  · exact absurd (ready.symm.trans stays) (by decide)
end

section
/-!
SUPPORT. The governor's books (R238 to R242) and settings (R252) under what else happens: whatever a command sets off, from a cause
to the entry to HOLD, leaves them as they stand, and makes nothing wait where nothing waits.
-/

namespace Sys2Proof.Machine

/-! ## What stands by -/

/-- What the governor counts and takes, without the course of VCORE and of the converter rates (R246 to R248). -/
def Governor.books (g : Governor) : Governor := { g with overPower := 0, lowered := false, vcoreFrom := 0, vcoreSince := 0 }

/-- The keys of the governor's settings (0x2200) but for its event causes, and of the token rate (R252 to R254). -/
def governed (k : Nat) : Prop := k / 256 = 0x2200 ∧ k % 256 ≠ 0x0C ∨ k = objKey 0x2201 7

/-- An object whose key is none of those: another index, or the event causes, or other state than the token rate. -/
abbrev ungoverned (i j : Nat) : Prop :=
  0x2202 ≤ i ∨ i < 0x2200 ∧ j < 256 ∨ i = 0x2200 ∧ j = 0x0C ∨ i = 0x2201 ∧ j < 256 ∧ j ≠ 7

/-- Nothing goes on after a command: no reset, no request, no load, and no unbind whose instant has come. -/
structure State.Resting (s : State) : Prop where
  reset : s.power.resetPending = none
  sessions : ∀ n, (s.session n).waiting = [] ∧ (s.session n).ending = false
  load : s.mode ≠ .load
  unbind : s.unbindPassed = false

/-- `u` has the books, the settings, the token rate and the instant of `s`, and rests where `s` does. -/
structure SparesBooks (s u : State) : Prop where
  books : u.gov.books = s.gov.books
  now : u.now = s.now
  objs : ∀ k, governed k → u.objAt k = s.objAt k
  rests : s.Resting → u.Resting

/-- The parts that the books, the settings and what waits are read from. -/
abbrev bookParts : List Part := [.gov, .now, .objs, .power, .sessions, .mode, .cycle]

/-- A filter that lets a key pass leaves what it reads. -/
theorem Table.get_filter {α : Type} (d : α) (t : Table α) {f : Nat × α → Bool} {k : Nat} (h : ∀ v, f (k, v) = true) :
    Table.get d (t.filter f) k = Table.get d t k := by
  induction t with
  | nil => rfl
  | cons x t ih =>
    obtain ⟨j, v⟩ := x
    by_cases e : j = k
    · subst e
      simp [h v, Table.get]
    · simp only [List.filter_cons, Table.get, if_neg e]
      split
      · rw [Table.get, if_neg e, ih]
      · exact ih

section
variable {s t u v : State}

theorem resting_of_undisturbed (h : s.undisturbed) : s.Resting := by
  obtain ⟨reset, waiting, load⟩ := h
  exact ⟨reset, waiting.2, load, by rw [State.unbindPassed, waiting.1]⟩

/-- A command that rests ends with what it has done (R449, R469, R511, R525). -/
theorem State.Resting.ends (h : s.Resting) : s.resetSettles.letGo = s := by
  have unbind : s.unbindDue = s := by
    unfold State.unbindDue
    split
    · rw [h.unbind, if_neg Bool.false_ne_true]
    · rfl
  rw [resetSettles_of_none h.reset, State.letGo, unbind, loadSettles_of_mode h.load]
  refine each_eq_self _ fun n _ => ?_
  obtain ⟨waiting, ending⟩ := h.sessions n
  simp [waiting, endsNow_of_not_ending ending]

theorem SparesBooks.refl (s : State) : SparesBooks s s := ⟨rfl, rfl, fun _ _ => rfl, id⟩

theorem SparesBooks.trans (h : SparesBooks s t) (g : SparesBooks t u) : SparesBooks s u :=
  ⟨g.books.trans h.books, g.now.trans h.now, fun k hk => (g.objs k hk).trans (h.objs k hk), g.rests ∘ h.rests⟩

theorem SparesBooks.ite {c : Prop} [Decidable c] (hu : SparesBooks s u) (hv : SparesBooks s v) :
    SparesBooks s (if c then u else v) := by
  split
  · exact hu
  · exact hv

theorem SparesBooks.foldl {β : Type} {f : State → β → State} (xs : List β) (hf : ∀ t, ∀ x ∈ xs, SparesBooks t (f t x))
    (s : State) : SparesBooks s (xs.foldl f s) := by
  induction xs generalizing s with
  | nil => exact .refl s
  | cons x xs ih => exact (hf s x (by simp)).trans (ih (fun t y hy => hf t y (by simp [hy])) _)

/-- What rests depends on the commanded reset, the sessions, the mode, the cycle and the instant alone. -/
theorem SparesBooks.of_parts (books : u.gov.books = s.gov.books) (now : u.now = s.now)
    (objs : ∀ k, governed k → u.objAt k = s.objAt k) (reset : u.power.resetPending = s.power.resetPending)
    (sessions : u.sessions = s.sessions) (load : s.mode ≠ .load → u.mode ≠ .load) (cycle : u.cycle = s.cycle) :
    SparesBooks s u := by
  refine ⟨books, now, objs, fun r => ⟨reset.trans r.reset, fun n => ?_, load r.load, ?_⟩⟩
  · rw [session_congr sessions n]
    exact r.sessions n
  · rw [State.unbindPassed, cycle, now]
    exact r.unbind

/-- What leaves the parts that they are read from leaves the books. -/
theorem Changes.sparesBooks {l : List Part} (h : Changes l s u)
    (hl : bookParts.all (fun p => !l.contains p) = true) : SparesBooks s u := by
  simp only [List.all_cons, List.all_nil, Bool.and_true, Bool.and_eq_true, Bool.not_eq_true'] at hl
  obtain ⟨gov, now, objs, power, sessions, mode, cycle⟩ := hl
  have sameGov : u.gov = s.gov := h .gov gov
  have samePower : u.power = s.power := h .power power
  have sameMode : u.mode = s.mode := h .mode mode
  exact .of_parts (by rw [sameGov]) (h .now now) (fun k _ => objAt_congr (h .objs objs) k) (by rw [samePower])
    (h .sessions sessions) (by rw [sameMode]; exact id) (h .cycle cycle)

/-- A setting of the governor stays. -/
theorem SparesBooks.setting (h : SparesBooks s u) {j : Nat} (hj : j < 256) (hc : j ≠ 0x0C) : u.obj 0x2200 j = s.obj 0x2200 j :=
  h.objs _ (.inl (by simp only [objKey]; omega))

/-- The token rate stays. -/
theorem SparesBooks.rate (h : SparesBooks s u) : u.obj 0x2201 7 = s.obj 0x2201 7 := h.objs _ (.inr rfl)

end

section
variable (s : State)

/-- The governor's settings and token rate lie in two indexes; of the first the event causes are none of them. -/
theorem sparesBooks_setObj {i j : Nat} (v : Int) (h : ungoverned i j) : SparesBooks s (s.setObj i j v) := by
  refine .of_parts rfl rfl (fun k hk => objAt_setObjAt_other s v ?_) rfl rfl id rfl
  simp only [governed, objKey] at hk ⊢
  omega

theorem sparesBooks_countUp {i j : Nat} (d : Nat) (h : ungoverned i j) : SparesBooks s (s.countUp i j d) :=
  sparesBooks_setObj s _ h

theorem sparesBooks_resetObjs (i : Nat) (p : Nat → Bool) (h : 0x2202 ≤ i) : SparesBooks s (s.resetObjs i p) := by
  refine .of_parts rfl rfl (fun k hk => ?_) rfl rfl id rfl
  have other : (k / 256 == i) = false := by
    rw [beq_eq_false_iff_ne]
    simp only [governed, objKey] at hk
    omega
  simp only [State.objAt, State.resetObjs]
  rw [Table.get_filter none s.objs fun v => by simp [other]]

end

/-! ## Parts replaced whole -/

section
variable (s : State)

theorem changes_setLog (l : Log) : Changes [.log] s { s with log := l } := (changes_iff _ _ _).mpr rfl
theorem changes_setTimebase (x : Timebase) : Changes [.timebase] s { s with timebase := x } := (changes_iff _ _ _).mpr rfl
theorem changes_setDisp (d : Dispatcher) : Changes [.disp] s { s with disp := d } := (changes_iff _ _ _).mpr rfl
theorem changes_setMap (m : Map) : Changes [.map] s { s with map := m } := (changes_iff _ _ _).mpr rfl
theorem changes_setCal (c : Calibration) : Changes [.cal] s { s with cal := c } := (changes_iff _ _ _).mpr rfl
theorem changes_setSweep (n : Nat) (c : Sweep) : Changes [.sweeps] s (s.setSweep n c) := (changes_iff _ _ _).mpr rfl

end

/-! ## A happening and a log record -/

/-- The event causes of a block are none of the governor's settings. -/
theorem blockSubs_ungoverned {idx sel cau : Nat} (h : blockSubs idx = some (sel, cau)) :
    ungoverned idx cau := by
  have state : idx ≠ 0x2201 := by
    rintro rfl
    have none : blockSubs 0x2201 = none := by decide
    rw [none] at h
    cases h
  have settings : idx = 0x2200 → cau = 0x0C := by
    rintro rfl
    have causes : blockSubs 0x2200 = some (0x0B, 0x0C) := by decide
    rw [causes] at h
    cases h
    rfl
  have := (blockSubs_spares h).2
  omega

theorem sparesBooks_arrival (s : State) (n stamp : Nat) : SparesBooks s (s.arrival n stamp) := by
  have set := fun x => (changes_setSource s n x).sparesBooks rfl
  exact .ite ((set _).trans (sparesBooks_countUp _ _ (by omega)))
    ((set _).trans ((changes_settleSource _ n false).sparesBooks rfl))

theorem sparesBooks_levelArrival (s : State) (n : Nat) : SparesBooks s (s.levelArrival n) :=
  .ite (sparesBooks_arrival s n _) (.refl s)

theorem sparesBooks_controllerEdge (s : State) (n stamp : Nat) (rising : Bool) :
    SparesBooks s (s.controllerEdge n stamp rising) := by
  have same := SparesBooks.refl s
  have arrives := sparesBooks_arrival s n stamp
  unfold State.controllerEdge
  split
  · exact same
  · split
    · exact .ite (sparesBooks_levelArrival s n) same
    · exact .ite arrives same
    · exact .ite same arrives
    · exact arrives

theorem sparesBooks_setLevel (s : State) (n : Nat) (level : Bool) (stamp : Tk) : SparesBooks s (s.setLevel n level stamp) := by
  have set := fun x => (changes_setSource s n x).sparesBooks rfl
  exact .ite ((set _).trans (sparesBooks_countUp _ _ (by omega))) (set _)

theorem sparesBooks_signalOnce (s : State) (x : Signal) : SparesBooks s (s.signalOnce x).1 := by
  cases x with
  | cause idx bit stamp =>
    unfold State.signalOnce
    dsimp only
    split
    next h => exact sparesBooks_setObj s _ (blockSubs_ungoverned h)
    next => exact .refl s
  | edge n stamp rising =>
    exact ((sparesBooks_setLevel s n rising stamp).trans (sparesBooks_controllerEdge _ n stamp rising)).trans
      ((changes_edgeToSteps _ n stamp rising).sparesBooks rfl)
  | trigger q stamp command arrived =>
    have set := fun c => (changes_setConv s q c).sparesBooks rfl
    unfold State.signalOnce
    dsimp only
    split
    · exact sparesBooks_countUp s _ (by omega)
    · split
      · exact (set _).trans (sparesBooks_countUp _ _ (by omega))
      · exact set _
  | request o stamp command arrived =>
    unfold State.signalOnce
    dsimp only
    split
    · exact sparesBooks_countUp s _ (by omega)
    · exact (changes_setTrigOut s o _).sparesBooks rfl

theorem sparesBooks_signal (fuel : Nat) (s : State) (x : Signal) : SparesBooks s (s.signal fuel x) := by
  induction fuel generalizing s x with
  | zero => exact .refl s
  | succ fuel ih => exact (sparesBooks_signalOnce s x).trans (.foldl _ (fun t y _ => ih t y) _)

/-- A cause, with all that it sets off, leaves the books (R129). -/
theorem sparesBooks_cause (s : State) (idx bit stamp : Nat) : SparesBooks s (s.cause idx bit stamp) := sparesBooks_signal _ s _

theorem sparesBooks_edge (s : State) (n stamp : Nat) (rising : Bool) : SparesBooks s (s.edge n stamp rising) :=
  sparesBooks_signal _ s _

theorem sparesBooks_logRec (s : State) (stamp tag kind : Nat) (detail : Bytes) :
    SparesBooks s (s.logRec stamp tag kind detail) := by
  have lost := sparesBooks_countUp s (i := 0x5000) (j := 7) 1 (by omega)
  have written := fun l => (changes_setLog s l).sparesBooks rfl
  exact .ite lost (.ite (written _) (.ite (written _) lost))

end Sys2Proof.Machine
end

section
/-!
SUPPORT. The governor's books and settings under entries, lines, owners, chains, converters and the net mapper.
-/

namespace Sys2Proof.Machine

/-! ## Writing an entry -/

theorem sparesBooks_acceptEntry (s : State) (q : Nat) (qu : Queue) (e : NewEntry) : SparesBooks s (s.acceptEntry q qu e) :=
  ((changes_setQueue s q _).sparesBooks rfl).trans (.ite (sparesBooks_cause _ _ _ _) (.refl _))

/-- A refused entry is counted for its queue and for the queue system. -/
theorem sparesBooks_refused (s : State) (q : Nat) (qu : Option Queue) (sub bit : Nat) :
    SparesBooks s (((s.setQueue q qu).countUp 0x2800 sub).cause 0x2800 bit s.now) :=
  (((changes_setQueue s q _).sparesBooks rfl).trans (sparesBooks_countUp _ _ (by omega))).trans (sparesBooks_cause _ _ _ _)

theorem sparesBooks_offerEntry (s : State) (q : Nat) (e : NewEntry) : SparesBooks s (s.offerEntry q e).1 := by
  have same := SparesBooks.refl s
  have accept := fun qu => sparesBooks_acceptEntry s q qu e
  have full : ∀ qu, SparesBooks s (s.refuseFull q qu) := fun qu => sparesBooks_refused s q _ _ 1
  have pantry : ∀ qu, SparesBooks s (s.refusePantry q qu) := fun qu => sparesBooks_refused s q _ _ 2
  unfold State.offerEntry
  split
  · exact same
  · dsimp only
    split
    · exact same
    · split
      · split
        · exact full _
        · split
          · split
            · split
              · exact accept _
              · exact pantry _
            · exact pantry _
          · split
            · exact full _
            · exact accept _
      · split
        · exact pantry _
        · exact accept _

theorem sparesBooks_blockEntryTo (s : State) (v : Nat) (e : NewEntry) : SparesBooks s (s.blockEntryTo v e) := by
  have missing : SparesBooks s ((s.countUp 0x2800 0x0B).cause 0x2800 5 s.now) :=
    (sparesBooks_countUp s _ (by omega)).trans (sparesBooks_cause _ _ _ _)
  refine .ite (.refl s) ?_
  unfold State.blockEntry
  split
  · exact missing
  · exact .ite missing (sparesBooks_offerEntry s v e)

/-! ## Lines (R86 to R89) -/

theorem sparesBooks_setFilter (s : State) (l : FilterLine) (f : Filter) : SparesBooks s (s.setFilter l f) :=
  (changes_setFilter s l f).sparesBooks rfl

theorem sparesBooks_rejectEdge (s : State) (l : FilterLine) : SparesBooks s (s.rejectEdge l) := by
  have set := sparesBooks_setFilter s l { s.filter l with skipped := (s.filter l).skipped + 1 }
  cases l with
  | port p => exact set.trans (sparesBooks_countUp _ _ (by omega))
  | pin n => exact set

theorem sparesBooks_captureEdge (s : State) (l : FilterLine) (stamp : Nat) (level afterPark late : Bool) (skipped : Nat) :
    SparesBooks s (s.captureEdge l stamp level afterPark late skipped) := by
  cases l with
  | pin n => exact .refl s
  | port p =>
    have entry := fun e => sparesBooks_blockEntryTo s (s.objN (0x3100 + p) 0x0D) e
    exact .ite (.refl s) (.ite (entry _) ((entry _).trans (sparesBooks_setFilter _ _ _)))

theorem sparesBooks_acceptEdge (s : State) (l : FilterLine) (stamp accepted : Nat) (level late : Bool) :
    SparesBooks s (s.acceptEdge l stamp accepted level late) := by
  unfold State.acceptEdge
  extract_lets f d u v w b x
  have hu : SparesBooks s u := sparesBooks_setFilter s l _
  have hv : SparesBooks u v := by
    cases l with
    | port p => exact (sparesBooks_countUp _ _ (by omega)).trans (sparesBooks_setObj _ _ (by omega))
    | pin n => exact sparesBooks_countUp _ _ (by omega)
  have hw : SparesBooks v w := sparesBooks_captureEdge _ _ _ _ _ _ _
  have hx : SparesBooks w x := by
    cases l with
    | port p => exact .refl w
    | pin n => exact .ite ((changes_setTimebase w _).sparesBooks rfl) (.refl w)
  exact (((hu.trans hv).trans hw).trans hx).trans (sparesBooks_edge _ _ _ _)

theorem sparesBooks_endDebounce (s : State) (l : FilterLine) : SparesBooks s (s.endDebounce l) := by
  have set := sparesBooks_setFilter s l
  unfold State.endDebounce
  dsimp only
  split
  · exact .ite (.refl s) (.ite (set _) ((set _).trans (sparesBooks_acceptEdge _ _ _ _ _ _)))
  · exact .refl s

theorem sparesBooks_debounceBefore (s : State) (l : FilterLine) (t : Tk) : SparesBooks s (s.debounceBefore l t) := by
  unfold State.debounceBefore
  split
  · exact .ite (sparesBooks_endDebounce s l) (.refl s)
  · exact .refl s

theorem sparesBooks_acceptLevel (s : State) (l : FilterLine) : SparesBooks s (s.acceptLevel l) := by
  unfold State.acceptLevel
  extract_lets f at' u g v
  have hv : SparesBooks s v := (sparesBooks_debounceBefore s l at').trans (sparesBooks_setFilter _ _ _)
  exact .ite (.refl s) (.ite (hv.trans (sparesBooks_rejectEdge _ _)) (.ite hv (hv.trans (sparesBooks_acceptEdge _ _ _ _ _ _))))

theorem sparesBooks_defineLevel (s : State) (l : FilterLine) : SparesBooks s (s.defineLevel l) := by
  unfold State.defineLevel
  extract_lets f u n v
  have hv : SparesBooks s v := (sparesBooks_setFilter s l _).trans (sparesBooks_setLevel _ _ _ _)
  exact .ite (.refl s) (.ite (hv.trans (sparesBooks_levelArrival _ _)) hv)

theorem sparesBooks_lineSignal (s : State) (l : FilterLine) (level : Bool) : SparesBooks s (s.lineSignal l level) := by
  have due : SparesBooks s (s.lineDue l) :=
    ((sparesBooks_defineLevel s l).trans (sparesBooks_acceptLevel _ _)).trans (sparesBooks_endDebounce _ _)
  have set := fun f => due.trans (sparesBooks_setFilter _ l f)
  exact .ite due (.ite ((set _).trans (sparesBooks_rejectEdge _ _)) (set _))

theorem sparesBooks_followPin (s : State) (n : PinNo) : SparesBooks s (s.followPin n) := by
  unfold State.followPin
  extract_lets c since low u
  have hu : SparesBooks s u := (changes_setPin s n _).sparesBooks rfl
  have set := fun f => hu.trans (sparesBooks_setFilter u (.pin n) f)
  exact .ite (set _) (.ite ((set _).trans (sparesBooks_setLevel _ _ _ _)) (hu.trans (sparesBooks_lineSignal _ _ _)))

theorem sparesBooks_followPins (s : State) : SparesBooks s s.followPins := .foldl _ (fun t n _ => sparesBooks_followPin t n) s

/-! ## Ports and their owners -/

theorem sparesBooks_cellFollows (s : State) (p : PortNo) : SparesBooks s (s.cellFollows p) := by
  have compared := ((spares_recompare s p).changes).sparesBooks rfl
  have followed : SparesBooks (s.recompare p) ((s.recompare p).followPort p) :=
    .ite (.refl _) (.ite (sparesBooks_lineSignal _ _ _) (sparesBooks_setFilter _ _ _))
  exact (compared.trans followed).trans ((spares_noteMark _ p).changes.sparesBooks rfl)

theorem sparesBooks_startPark (s : State) (p : Nat) (new : Owner) (cause : OwnerCause) :
    SparesBooks s (s.startPark p new cause) :=
  (((((changes_setPort s p _).sparesBooks rfl).trans ((spares_noteMark _ p).changes.sparesBooks rfl)).trans
    ((changes_nextFresh _).sparesBooks rfl)).trans (sparesBooks_countUp _ _ (by omega))).trans
    (sparesBooks_setObj _ _ (by omega))

theorem sparesBooks_settleOwner (s : State) (cause : OwnerCause) (p : Nat) : SparesBooks s (s.settleOwner cause p) := by
  have set := fun c => (changes_setPort s p c).sparesBooks rfl
  unfold State.settleOwner
  dsimp only
  split
  · exact .ite (set _) (.ite (set _) (.refl s))
  · exact .ite (.refl s) (sparesBooks_startPark s p _ cause)

theorem sparesBooks_settleOwners (s : State) (cause : OwnerCause) : SparesBooks s (s.settleOwners cause) :=
  .foldl _ (fun t p _ => sparesBooks_settleOwner t cause p) s

/-! ## A change of mode (R512) -/

theorem sparesBooks_changeMode (s : State) {m : Mode} (hm : m ≠ .load) (why : Nat) : SparesBooks s (s.changeMode m why) := by
  unfold State.changeMode
  extract_lets old drives u v
  have entered : SparesBooks s { s with mode := m } := .of_parts rfl rfl (fun _ _ => rfl) rfl rfl (fun _ => hm) rfl
  have hu : SparesBooks s u := entered.trans (sparesBooks_setObj _ _ (by omega))
  have cut : SparesBooks u u.syncCuts := .ite ((changes_setTimebase u _).sparesBooks rfl) (.refl u)
  have hv : SparesBooks u v := .ite (.ite (.refl u) ((changes_setTimebase u _).sparesBooks rfl)) cut
  exact ((hu.trans hv).trans (sparesBooks_logRec _ _ _ _ _)).trans (sparesBooks_cause _ _ _ _)

theorem sparesBooks_modeBecomes (s : State) {m : Mode} (hm : m ≠ .load) (why : Nat) : SparesBooks s (s.modeBecomes m why) :=
  (sparesBooks_changeMode s hm why).trans (sparesBooks_followPins _)

/-! ## Chains and converters -/

theorem sparesBooks_tapItems (s : State) (n l : Nat) (fine : Bool) (x : TapItem) : SparesBooks s (s.tapItems n l fine x) :=
  .ite (.refl s) (.foldl _ (fun t _ _ => .ite ((sparesBooks_countUp t _ (by omega)).trans (sparesBooks_cause _ _ _ _))
    ((changes_setZone t _ _).sparesBooks rfl)) s)

theorem sparesBooks_markRestart (s : State) (n l : Nat) (fine : Bool) (cause : Nat) :
    SparesBooks s (s.markRestart n l fine cause) :=
  .ite (sparesBooks_tapItems s n l fine _) ((changes_setLane s n l _).sparesBooks rfl)

theorem sparesBooks_restartLane (s : State) (n l cause missing stamp : Nat) (lag : Bool) :
    SparesBooks s (s.restartLane n l cause missing stamp lag) :=
  ((((changes_setLane s n l _).sparesBooks rfl).trans (sparesBooks_cause _ _ _ _)).trans (sparesBooks_markRestart _ _ _ _ _)).trans
    (sparesBooks_markRestart _ _ _ _ _)

theorem sparesBooks_cutFade (s : State) (n : Nat) (at' : Tk) : SparesBooks s (s.cutFade n at') := by
  unfold State.cutFade
  dsimp only
  split
  · exact .refl s
  · exact (((changes_setChain s n _).sparesBooks rfl).trans (sparesBooks_setObj _ _ (by omega))).trans (sparesBooks_cause _ _ _ _)

theorem sparesBooks_restartChain (s : State) (n cause at' : Nat) : SparesBooks s (s.restartChain n cause at') := by
  unfold State.restartChain
  extract_lets u c v w
  have hv : SparesBooks s v := (sparesBooks_cutFade s n at').trans ((changes_setChain _ _ _).sparesBooks rfl)
  have hw : SparesBooks v w := .foldl _ (fun t l _ => (sparesBooks_restartLane t n l cause 0 at' false).trans
    ((changes_setLane _ _ _ _).sparesBooks rfl)) v
  exact (hv.trans hw).trans ((changes_letConversions _ _).sparesBooks rfl)

theorem sparesBooks_periodChanged (s : State) (q : Nat) : SparesBooks s (s.periodChanged q) := by
  have set := fun c => (changes_setConv s q c).sparesBooks rfl
  exact .ite (.ite (set _) (((set _).trans (sparesBooks_setObj _ _ (by omega))).trans (sparesBooks_restartChain _ _ _ _)))
    (set _)

theorem sparesBooks_abortSlot (s : State) (q : Nat) : SparesBooks s (s.abortSlot q) := by
  have ends := fun c j (v : Int) bit at' => (((changes_setConv s q c).sparesBooks rfl).trans
    (sparesBooks_setObj _ (i := 0x3200 + q) (j := j) v (by omega))).trans (sparesBooks_cause _ (0x3200 + q) bit at')
  unfold State.abortSlot
  dsimp only
  split
  · exact .refl s
  · exact ends _ _ _ _ _
  · exact ends _ _ _ _ _

theorem sparesBooks_followLevel (s : State) (n stamp : Nat) : SparesBooks s (s.followLevel n stamp) :=
  .ite (.refl s) (sparesBooks_edge s n stamp _)

theorem sparesBooks_followBlock (s : State) (idx : Nat) : SparesBooks s (s.followBlock idx) := by
  unfold State.followBlock
  split
  · exact .refl s
  · exact .ite (.foldl _ (fun t _ _ => sparesBooks_followLevel t _ _) s) (sparesBooks_followLevel s _ _)

theorem sparesBooks_convDefaults (s : State) (q : Nat) : SparesBooks s (s.convDefaults q) := by
  have reset : SparesBooks s (s.resetBlock (0x3200 + q)) :=
    (sparesBooks_resetObjs s (0x3200 + q) _ (by omega)).trans (sparesBooks_followBlock _ _)
  exact (reset.trans (.ite ((changes_setConv _ _ _).sparesBooks rfl) (.refl _))).trans (sparesBooks_periodChanged _ _)

theorem sparesBooks_sequenceStops (s : State) (q : Nat) (cause : StopCause) : SparesBooks s (s.sequenceStops q cause) := by
  unfold State.sequenceStops
  extract_lets c k u c' v
  have hu : SparesBooks s u := .ite
    (((changes_conversionEnds s q k false).sparesBooks rfl).trans ((changes_setConv _ _ _).sparesBooks rfl)) (.refl s)
  have hv : SparesBooks s v := hu.trans ((changes_setConv _ _ _).sparesBooks rfl)
  have tells : SparesBooks s (((v.setObj (0x3200 + q) 1 0).abortSlot q).cause (0x3200 + q) 5 v.now) :=
    ((hv.trans (sparesBooks_setObj _ _ (by omega))).trans (sparesBooks_abortSlot _ _)).trans (sparesBooks_cause _ _ _ _)
  cases cause with
  | command => exact hv
  | queue => exact hv
  | mode => exact tells
  | claim => exact tells.trans (sparesBooks_convDefaults _ q)

theorem sparesBooks_convStop (s : State) (q : Nat) (cause : StopCause) : SparesBooks s (s.convStop q cause) :=
  .ite (sparesBooks_sequenceStops s q _) ((changes_setConv s q _).sparesBooks rfl)

/-! ## The net mapper (R186, R187) -/

theorem sparesBooks_setGrants (s : State) (m : Nat) (dies : List Nat) : SparesBooks s (s.setGrants m dies) :=
  (sparesBooks_setObj s _ (by omega)).trans (.foldl _ (fun t d hd => by
    have := List.mem_range.mp hd
    exact sparesBooks_setObj t _ (by omega)) _)

theorem sparesBooks_mapReleases (s : State) : SparesBooks s s.mapReleases := by
  unfold State.mapReleases
  extract_lets m u free v
  have hu : SparesBooks s u := .ite (.foldl _ (fun t n _ => (changes_sourceOff t n).sparesBooks rfl) s) (.refl s)
  have hv : SparesBooks u v := .foldl _ (fun t q _ => ((((changes_setChain t q _).sparesBooks rfl).trans
    ((changes_setConv _ _ _).sparesBooks rfl)).trans (sparesBooks_setObj _ _ (by omega))).trans
    (sparesBooks_restartChain _ _ _ _)) u
  split
  exact ((hu.trans hv).trans ((changes_setDisp v _).sparesBooks rfl)).trans (sparesBooks_setGrants _ _ _)

theorem sparesBooks_pointRests (s : State) (excited : List Nat) (p : Nat) : SparesBooks s (s.pointRests excited p) := by
  have set := fun t c => (changes_setPort t p c).sparesBooks rfl
  exact (SparesBooks.ite (set s _) ((set s _).trans (set _ _))).trans (sparesBooks_cellFollows _ _)

theorem sparesBooks_mapFinishes (s : State) (verdict diffs cause : Nat) :
    SparesBooks s (s.mapFinishes verdict diffs cause) := by
  unfold State.mapFinishes
  extract_lets m excited a b c d e f y g
  have ha : SparesBooks s a := sparesBooks_blockEntryTo s _ _
  have hb : SparesBooks a b := SparesBooks.trans (.ite (.refl a) (sparesBooks_setObj a _ (by omega)))
    (sparesBooks_setObj _ _ (by omega))
  have hd : SparesBooks b d := (((sparesBooks_countUp b _ (by omega)).trans (sparesBooks_setObj _ _ (by omega))).trans
    (sparesBooks_setObj _ _ (by omega))).trans (sparesBooks_setObj _ _ (by omega))
  have hf : SparesBooks d f := (sparesBooks_mapReleases d).trans ((changes_mapStepDone _ _ _ _).sparesBooks rfl)
  have hg : SparesBooks f g := (changes_setMap f _).sparesBooks rfl
  exact ((((ha.trans hb).trans hd).trans hf).trans hg).trans
    ((SparesBooks.foldl _ (fun t p _ => sparesBooks_pointRests t excited p) g).trans (sparesBooks_cause _ _ _ _))

theorem sparesBooks_mapAborts (s : State) (cause : Nat) : SparesBooks s (s.mapAborts cause) :=
  .ite (.refl s) (.ite (((sparesBooks_mapReleases s).trans (sparesBooks_setObj _ (i := 0x3401) (j := 2) cause (by omega))).trans
    ((changes_setMap _ _).sparesBooks rfl)) ((sparesBooks_blockEntryTo s _ _).trans (sparesBooks_mapFinishes _ _ _ _)))

end Sys2Proof.Machine
end

section
/-!
SUPPORT. The governor's books and settings under the entry to HOLD (R519): the end of a plan, of a map, of a stream and of what the
cores and converters do.
-/

namespace Sys2Proof.Machine

/-! ## A configuration stream fails (R419) -/

/-- The objects of the zones come after the governor's. -/
theorem zoneObj_above (z : Nat) : 0x2202 ≤ zoneObj z := by
  rw [zoneObj]
  omega

theorem sparesBooks_zoneStage (s : State) (z : Nat) (st : ZoneStage) : SparesBooks s (s.zoneStage z st) :=
  (((changes_setZone s z _).sparesBooks rfl).trans (sparesBooks_setObj _ _ (.inl (zoneObj_above z)))).trans
    (sparesBooks_cause _ _ _ _)

theorem sparesBooks_zoneFails (s : State) (z code : Nat) : SparesBooks s (s.zoneFails z code) :=
  ((((changes_setZone s z _).sparesBooks rfl).trans (sparesBooks_zoneStage _ z .failed)).trans
    (sparesBooks_setObj _ _ (.inl (zoneObj_above z)))).trans (sparesBooks_cause _ _ _ _)

/-- A session that goes on holding back what it held, and ends as it did. -/
theorem sparesBooks_setSession (s : State) (n : Nat) (x : Session) (hw : x.waiting = (s.session n).waiting)
    (he : x.ending = (s.session n).ending) : SparesBooks s (s.setSession n x) := by
  refine ⟨rfl, rfl, fun _ _ => rfl, fun r => ⟨r.reset, fun m => ?_, r.load, r.unbind⟩⟩
  by_cases e : m = n
  · subst e
    rw [session_setSession, hw, he]
    exact r.sessions m
  · rw [session_setSession_other s x e]
    exact r.sessions m

theorem sparesBooks_renew (s : State) (n : Nat) : SparesBooks s (s.renew n) :=
  .ite (sparesBooks_setSession s n _ rfl rfl) (.refl s)

theorem sparesBooks_sendDatagram (s : State) (n op flags reqId : Nat) (payload : Bytes) :
    SparesBooks s (s.sendDatagram n op flags reqId payload) := by
  refine SparesBooks.trans (sparesBooks_setSession s n _ ?_ ?_) ((changes_send _ _).sparesBooks rfl)
  · rfl
  · rfl

theorem sparesBooks_respond (s : State) (n op reqId flags : Nat) (payload : Bytes) :
    SparesBooks s (s.respond n op reqId flags payload) := by
  refine SparesBooks.trans (sparesBooks_setSession s n _ ?_ ?_) (sparesBooks_sendDatagram _ n op flags reqId payload)
  · rfl
  · rfl

/-- A late answer holds back nothing, and ends no session (R450). -/
theorem sparesBooks_replyLater (s : State) (r : ReplyTo) (code : Nat) : SparesBooks s (s.replyLater r code) := by
  have sent := fun t o => (changes_send t o).sparesBooks rfl
  cases r with
  | plain n => exact (sparesBooks_renew s n).trans (sent _ _)
  | datagram n op reqId =>
    exact .ite ((sparesBooks_renew s n).trans (.ite (sparesBooks_respond _ n op reqId 1 _)
      (sparesBooks_respond _ n op reqId 3 _))) (.refl s)
  | usdo => exact (sparesBooks_renew s 0).trans (sent _ _)

theorem changes_setLoader (s : State) (l : Loader) : Changes [.loader] s { s with loader := l } := (changes_iff _ _ _).mpr rfl

theorem sparesBooks_loaderAnswers (s : State) (code : Nat) : SparesBooks s (s.loaderAnswers code) := by
  unfold State.loaderAnswers
  split
  · exact ((changes_setLoader s _).sparesBooks rfl).trans (sparesBooks_replyLater _ _ _)
  · exact .refl s

theorem sparesBooks_streamLosesMode (s : State) (m : Mode) : SparesBooks s (s.streamLosesMode m) := by
  unfold State.streamLosesMode State.streamFails
  refine .ite (.refl s) ?_
  extract_lets l u v d w x y z
  have hu : SparesBooks s u := .foldl _ (fun t k _ => .ite (sparesBooks_zoneFails t k 1) (.refl t)) s
  have hv : SparesBooks u v := by
    dsimp only [v]
    split
    · exact (changes_setZone u _ _).sparesBooks rfl
    · exact .refl u
  have hy : SparesBooks v y := (((sparesBooks_setObj v _ (by omega)).trans (sparesBooks_setObj _ _ (by omega))).trans
    (sparesBooks_setObj _ _ (by omega))).trans (sparesBooks_setObj _ _ (by omega))
  have hz : SparesBooks y z := sparesBooks_loaderAnswers y _
  exact ((((hu.trans hv).trans hy).trans hz).trans ((changes_setLoader z _).sparesBooks rfl)).trans (sparesBooks_cause _ _ _ _)

/-! ## Cores and calibration -/

theorem sparesBooks_completeSource (s : State) (n : Nat) : SparesBooks s (s.completeSource n) :=
  (((changes_setSource s n _).sparesBooks rfl).trans ((changes_settleSource _ n _).sparesBooks rfl)).trans
    (sparesBooks_levelArrival _ n)

theorem sparesBooks_resetCore (s : State) (n : Nat) : SparesBooks s (s.resetCore n) :=
  (SparesBooks.foldl _ (fun t k _ => sparesBooks_completeSource t k) s).trans ((changes_setCore _ n _).sparesBooks rfl)

theorem sparesBooks_resetCores (s : State) : SparesBooks s s.resetCores := .foldl _ (fun t n _ => sparesBooks_resetCore t n) s

theorem sparesBooks_unitLeaves (s : State) : SparesBooks s s.unitLeaves := by
  unfold State.unitLeaves
  split
  · exact .refl s
  · exact ((((changes_setCal s _).sparesBooks rfl).trans ((changes_setConv _ _ _).sparesBooks rfl)).trans
      ((changes_continuePass _ _).sparesBooks rfl)).trans (.foldl _ (fun t p _ => sparesBooks_settleOwner t .disable p) _)

/-! ## The abort of a plan (R205, R206, R216) -/

theorem changes_actionStops (s : State) (k cause : Nat) : Changes [.disp] s (s.actionStops k cause) :=
  Changes.ite (changes_setStep s k _) (Changes.refl _ _)

theorem changes_measureSettles (s : State) (k : Nat) : Changes [.disp] s (s.measureSettles k) :=
  Changes.ite (Changes.refl _ _) (Changes.ite ((changes_actionStops _ k 0).step rfl (changes_setStep s k _))
    (changes_setStep s k _))

theorem sparesBooks_sweepStops (s : State) (m : Nat) : SparesBooks s (s.sweepStops m) :=
  (((((changes_sourceOff s (2 * m)).sparesBooks rfl).trans ((changes_sourceOff _ (2 * m + 1)).sparesBooks rfl)).trans
    ((changes_setSweep _ m {}).sparesBooks rfl)).trans (sparesBooks_settleOwners _ .disable)).trans (sparesBooks_cause _ _ _ _)

/-- An exchange that gives up its engine changes the engine at most (R205). -/
theorem changes_exchangeCancels (s : State) (k : Nat) (a : Bytes) : Changes [.cans, .fresh] s (s.exchangeCancels k a).1 := by
  have set := fun c => (changes_setCan s.nextFresh (exchangeEngine a) c).step (l := [.cans, .fresh]) rfl
    ((changes_nextFresh s).mono rfl)
  have same := Changes.refl [.cans, .fresh] s
  unfold State.exchangeCancels
  dsimp only
  split
  · split
    · split
      · exact same
      · split
        · exact set _
        · exact set _
    · exact same
  · split
    · exact same
    · exact same
  · exact same

theorem sparesBooks_stopAction (s : State) (k cause why : Nat) : SparesBooks s (s.stopAction k cause why) := by
  have set := fun r => (changes_setStep s k r).sparesBooks rfl
  have stops := fun t => (changes_actionStops t k cause).sparesBooks rfl
  unfold State.stopAction
  extract_lets i a x
  refine .ite (.refl s) ?_
  split
  · exact (set _).trans ((changes_measureSettles _ k).sparesBooks rfl)
  · exact (sparesBooks_sweepStops s _).trans (stops _)
  · exact ((set _).trans (sparesBooks_mapAborts _ why)).trans (stops _)
  · have cancels := (changes_exchangeCancels s k a).sparesBooks rfl
    split
    next u h =>
      rw [h] at cancels
      exact cancels.trans (stops _)
    next u h =>
      rw [h] at cancels
      exact cancels.trans ((changes_setStep _ k _).sparesBooks rfl)
  · split
    · exact (stops s).trans (sparesBooks_resetCore _ _)
    · exact stops s
  · exact stops s

theorem sparesBooks_planSettles (s : State) : SparesBooks s s.planSettles := by
  unfold State.planSettles
  extract_lets d
  split
  · exact .refl s
  · refine .ite (.refl s) ?_
    extract_lets
    split
    exact ((((sparesBooks_blockEntryTo s _ _).trans (sparesBooks_setObj _ _ (by omega))).trans
      (sparesBooks_setObj _ _ (by omega))).trans
      ((changes_setDisp _ _).sparesBooks rfl)).trans (sparesBooks_cause _ _ _ _)

theorem sparesBooks_planAborts (s : State) (cause : Nat) : SparesBooks s (s.planAborts cause) :=
  .ite (.refl s) (((SparesBooks.foldl _ (fun t x _ => sparesBooks_stopAction t x.1 cause _) s).trans
    ((changes_setDisp _ _).sparesBooks rfl)).trans (sparesBooks_planSettles _))

/-! ## The entry to HOLD (R517 to R519) -/

theorem sparesBooks_timingHolds (s : State) : SparesBooks s s.timingHolds :=
  ((changes_setTimebase s _).sparesBooks rfl).trans (.foldl _ (fun t n _ => (changes_setTrigOut t n _).sparesBooks rfl) _)

/-- The unbind of an entry to HOLD has its instant 2 microseconds ahead (R469). -/
theorem sparesBooks_unbindLater (s : State) : SparesBooks s s.unbindLater := by
  refine ⟨rfl, rfl, fun _ _ => rfl, fun h => ⟨h.reset, h.sessions, h.load, ?_⟩⟩
  by_cases hb : s.bound = true
  · simp [State.unbindPassed, State.unbindLater, hb]
  · simp [State.unbindPassed, State.unbindLater, hb]

theorem sparesBooks_firstCause (s : State) (c : Option HoldCause) (e : Nat) :
    SparesBooks s { s with power := { s.power with firstCause := c, errorLatched := e } } :=
  .of_parts rfl rfl (fun _ _ => rfl) rfl rfl id rfl

theorem sparesBooks_enterHold (s : State) (c : HoldCause) (why : Nat) : SparesBooks s (s.enterHold c why) := by
  unfold State.enterHold
  extract_lets a power b d e f g h i j k
  have ha : SparesBooks s a := (changes_freezePins s).sparesBooks rfl
  have hb : SparesBooks a b := sparesBooks_firstCause a _ _
  have hd : SparesBooks b d := (sparesBooks_setObj b _ (by omega)).trans (sparesBooks_setObj _ _ (by omega))
  have he : SparesBooks d e := (sparesBooks_modeBecomes d (by decide) why).trans (sparesBooks_cause _ _ _ _)
  have hf : SparesBooks e f := (sparesBooks_setObj e _ (by omega)).trans (sparesBooks_setObj _ _ (by omega))
  have hg : SparesBooks f g := (sparesBooks_streamLosesMode f .hold).trans ((changes_globalDiscarded _).sparesBooks rfl)
  have hh : SparesBooks g h := .foldl _ (fun t q _ => sparesBooks_convStop t q .mode) g
  have hi : SparesBooks h i := ((sparesBooks_unitLeaves h).trans (sparesBooks_planAborts _ 7)).trans (sparesBooks_mapAborts _ 4)
  have hj : SparesBooks i j := (sparesBooks_resetCores i).trans (sparesBooks_timingHolds _)
  have hk : SparesBooks j k := sparesBooks_settleOwners j .modeChange
  have entered : SparesBooks s g := ((((ha.trans hb).trans hd).trans he).trans hf).trans hg
  have stopped : SparesBooks g k := ((hh.trans hi).trans hj).trans hk
  exact ((entered.trans stopped).trans (sparesBooks_unbindLater k)).trans (sparesBooks_followPins _)

theorem sparesBooks_causeArises (s : State) {c : HoldCause} (hc : c ≠ .portRail) (meas : Int) :
    SparesBooks s (s.causeArises c meas) := by
  unfold State.causeArises
  extract_lets power u v w
  have hu : SparesBooks s u := .of_parts rfl rfl (fun _ _ => rfl) rfl rfl id rfl
  have hv : SparesBooks u v := (sparesBooks_logRec u _ _ _ _).trans (sparesBooks_cause _ _ _ _)
  have hw : SparesBooks v w := .ite (sparesBooks_enterHold v c 0) (.refl v)
  rw [if_neg hc]
  exact (hu.trans hv).trans hw

/-- A HOLD cause that latches no port leaves the books and the settings, in whatever mode it arises. -/
theorem sparesBooks_raiseCause (s : State) {c : HoldCause} (hc : c ≠ .portRail) (meas : Int) :
    SparesBooks s (s.raiseCause c meas) := by
  unfold State.raiseCause
  split
  · exact .refl s
  · exact .refl s
  · exact .refl s
  · exact .ite (.refl s) (.of_parts rfl rfl (fun _ _ => rfl) rfl rfl id rfl)
  · exact .ite (.refl s) (sparesBooks_causeArises s hc meas)

end Sys2Proof.Machine
end

section
/-!
SUPPORT. The end of a governor period (R233): the books take the standing energy and the tokens issued, and everything else that it
does leaves them and the settings.
-/

namespace Sys2Proof.Machine

/-! ## VCORE, rates and level (R246 to R250) -/

/-- The course of VCORE and of the rates is none of the books. -/
theorem sparesBooks_course (s : State) (above since' from' : Nat) (lowered : Bool) : SparesBooks s { s with gov :=
    { s.gov with overPower := above, lowered := lowered, vcoreFrom := from', vcoreSince := since' } } :=
  .of_parts rfl rfl (fun _ _ => rfl) rfl rfl id rfl

theorem sparesBooks_setTarget (s : State) (target : Nat) : SparesBooks s (s.setTarget target) :=
  .ite (.refl s) (((sparesBooks_course s s.gov.overPower s.now s.vcore s.gov.lowered).trans (sparesBooks_setObj _ _ (by omega))).trans
    (sparesBooks_cause _ _ _ _))

theorem sparesBooks_ratesFollow (s : State) (lowered : Bool) : SparesBooks s (s.ratesFollow lowered) :=
  ((sparesBooks_course s s.gov.overPower s.gov.vcoreSince s.gov.vcoreFrom lowered).trans
    (.foldl _ (fun t q _ => sparesBooks_periodChanged t q) _)).trans (sparesBooks_cause _ _ _ _)

theorem sparesBooks_vcorePeriod (s : State) (tmax pd : Int) : SparesBooks s (s.vcorePeriod tmax pd) := by
  unfold State.vcorePeriod
  extract_lets tset plim run above gov u hot target again restores lowers v
  have hu : SparesBooks s u := sparesBooks_course s above s.gov.vcoreSince s.gov.vcoreFrom s.gov.lowered
  have hv : SparesBooks u v := .ite
    (SparesBooks.trans (.ite (sparesBooks_ratesFollow u true) (.refl u)) (sparesBooks_setTarget _ _)) (sparesBooks_setTarget u _)
  exact .ite ((hu.trans hv).trans (sparesBooks_ratesFollow v false)) (hu.trans hv)

theorem sparesBooks_levelPeriod (s : State) (tmax pa : Int) : SparesBooks s (s.levelPeriod tmax pa) := by
  unfold State.levelPeriod
  extract_lets level u
  have hu : SparesBooks s u := .ite (.refl s) ((sparesBooks_setObj s _ (by omega)).trans (sparesBooks_cause _ _ _ _))
  exact .ite (((hu.trans (sparesBooks_modeBecomes u (by decide) 0)).trans (sparesBooks_countUp _ _ (by omega))).trans
    (sparesBooks_cause _ _ _ _)) (.ite ((hu.trans (sparesBooks_modeBecomes u (by decide) 0)).trans (sparesBooks_cause _ _ _ _)) hu)

/-! ## The books at the end of a period (R238, R241, R242) -/

/-- The standing energy is charged, and tokens are issued at a rate up to the capacity. -/
def State.posted (s : State) (rate : Int) : State := { s with gov := { s.gov with
  bucket := s.gov.bucket - microjoule s.gov.standing +
    if s.gov.bucket - microjoule s.gov.standing < s.obj 0x2200 4 then
      min rate (s.obj 0x2200 4 - (s.gov.bucket - microjoule s.gov.standing)) else 0
  consumed := s.gov.consumed + microjoule s.gov.standing } }

/-- The snapshot and what it tells leave the books that have been posted. -/
theorem sparesBooks_booksPeriod (s : State) (rate : Int) : SparesBooks (s.posted rate) (s.booksPeriod rate) := by
  unfold State.booksPeriod
  extract_lets c before after issue gov u v w g x y
  have hv : SparesBooks u v := sparesBooks_setObj u _ (by omega)
  have hw : SparesBooks v w := .ite (sparesBooks_cause v _ _ _) (.refl v)
  have hx : SparesBooks w x := (sparesBooks_countUp w _ (by omega)).trans (sparesBooks_setObj _ _ (by omega))
  have hy : SparesBooks x y := (sparesBooks_setObj x _ (by omega)).trans (sparesBooks_setObj _ _ (by omega))
  exact (((hv.trans hw).trans hx).trans hy).trans ((sparesBooks_setObj y _ (by omega)).trans (sparesBooks_setObj _ _ (by omega)))

/-- A period is over: its readings go, and the settings are taken for the next one. -/
def State.periodClosed (s : State) (tset : Int) : State := { s with gov := { s.gov with
  temps := [], samples := 0, poutSum := 0, pportSum := 0, standing := 0, lastEnd := s.now
  share := s.objN 0x2200 0x0A, capacity := s.objN 0x2200 4, tset := tset } }

/-- The end of a period posts the books at the token rate that it has found, between what leaves them as they are. -/
theorem periodEnds_posts (s : State) (pv : Int) : ∃ rate v w, SparesBooks s v ∧
    SparesBooks ((v.setObj 0x2201 7 rate).posted rate) w ∧ (s.periodEnds pv).1 = w.periodClosed (s.obj 0x2200 2) := by
  unfold State.periodEnds
  extract_lets sampled means excluded a b c d ready wasMax pout pp pd tset lost
  have ha : SparesBooks s a := .foldl _ (fun t n _ => sparesBooks_setObj t _ (by omega)) s
  have hb : SparesBooks a b := .ite (sparesBooks_cause a _ _ _) (.refl a)
  have hd : SparesBooks b d := SparesBooks.trans (sparesBooks_setObj b _ (by omega))
    (.ite (sparesBooks_setObj c _ (by omega)) (.refl c))
  have found : SparesBooks s d := (ha.trans hb).trans hd
  have setpoint : tset = s.obj 0x2200 2 := found.setting (by decide) (by decide)
  clear_value tset
  subst setpoint
  split
  next tmax hot _ =>
  extract_lets pa rate e f g dies h i j k l m top gov
  have he : SparesBooks d e := ((sparesBooks_setObj d _ (by omega)).trans (sparesBooks_setObj _ _ (by omega))).trans
    (sparesBooks_setObj _ _ (by omega))
  have shown : SparesBooks e ((e.setObj 0x2201 5 (max 0 pd)).setObj 0x2201 6 (max 0 pp)) :=
    (sparesBooks_setObj e _ (by omega)).trans (sparesBooks_setObj _ _ (by omega))
  have hg : SparesBooks (f.posted rate) g := sparesBooks_booksPeriod f rate
  have hh : SparesBooks g h := .foldl _ (fun t n hn => by
    have := List.mem_range.mp hn
    exact sparesBooks_setObj t _ (by omega)) g
  have hi : SparesBooks h i := .foldl _ (fun t n _ => by
    split
    · exact sparesBooks_setObj t _ (by omega)
    · exact .refl t) h
  have hj : SparesBooks i j := sparesBooks_setObj i _ (by omega)
  have hk : SparesBooks j k := .ite (sparesBooks_vcorePeriod j _ _) (.refl j)
  have hl : SparesBooks k l := .ite (sparesBooks_cause k _ _ _) (.refl k)
  have hm : SparesBooks l m := .ite (sparesBooks_levelPeriod l _ _) (.refl l)
  have allowed : SparesBooks g j := (hh.trans hi).trans hj
  exact ⟨rate, _, m, (found.trans he).trans shown, ((hg.trans allowed).trans (hk.trans hl)).trans hm, rfl⟩

end Sys2Proof.Machine
end

section
/-!
SUPPORT. The governor's commands: what a period that is over leaves in the books, what a sample takes (R234), and how the allowed
power and the allowance of a die fall with temperature (R237, R243).
-/

namespace Sys2Proof.Machine

/-! ## A period that is over (R233) -/

section
variable {s u v : State}

theorem posted_books (hb : v.gov.books = s.gov.books) (hc : v.obj 0x2200 4 = s.obj 0x2200 4) (rate : Int) :
    (v.posted rate).gov.books = (s.posted rate).gov.books := by
  have bucket : v.gov.bucket = s.gov.bucket := (congrArg Governor.bucket hb :)
  have standing : v.gov.standing = s.gov.standing := (congrArg Governor.standing hb :)
  have consumed : v.gov.consumed = s.gov.consumed := (congrArg Governor.consumed hb :)
  have books : ∀ x : State, (x.posted rate).gov.books = { x.gov.books with
    bucket := (x.posted rate).gov.bucket, consumed := (x.posted rate).gov.consumed } := fun _ => rfl
  rw [books v, books s, hb]
  simp only [State.posted, bucket, standing, consumed, hc]

theorem periodClosed_books (hb : v.gov.books = s.gov.books) (hn : v.now = s.now)
    (ha : v.obj 0x2200 0x0A = s.obj 0x2200 0x0A) (hc : v.obj 0x2200 4 = s.obj 0x2200 4) (tset : Int) :
    (v.periodClosed tset).gov.books = (s.periodClosed tset).gov.books := by
  have books : ∀ x : State, (x.periodClosed tset).gov.books = { x.gov.books with
    temps := [], samples := 0, poutSum := 0, pportSum := 0, standing := 0, lastEnd := x.now
    share := x.objN 0x2200 0x0A, capacity := x.objN 0x2200 4, tset := tset } := fun _ => rfl
  rw [books v, books s, hb, hn]
  simp only [State.objN, ha, hc]

/-- `u` stands where a period of `s` is over: the books are posted at the token rate that `u` shows, the readings are gone, the
settings are taken, and nothing waits that did not. -/
structure PeriodOver (s u : State) : Prop where
  now : u.now = s.now
  books : u.gov.books = ((s.posted (u.obj 0x2201 7)).periodClosed (s.obj 0x2200 2)).gov.books
  rests : s.Resting → u.Resting

theorem PeriodOver.trans (h : PeriodOver s u) (g : SparesBooks u v) : PeriodOver s v :=
  ⟨g.now.trans h.now, by rw [g.books, h.books, g.rate], g.rests ∘ h.rests⟩

end

theorem periodEnds_over (s : State) (pv : Int) : PeriodOver s (s.periodEnds pv).1 := by
  obtain ⟨rate, v, w, before, after, ends⟩ := periodEnds_posts s pv
  have shown : w.obj 0x2201 7 = rate := after.rate.trans (obj_setObj v _ _ _)
  have setting : ∀ {j}, j < 256 → j ≠ 0x0C → (v.setObj 0x2201 7 rate).obj 0x2200 j = s.obj 0x2200 j := fun hj hc =>
    (obj_setObj_other v rate (by simp only [objKey]; omega)).trans (before.setting hj hc)
  have posted : w.gov.books = (s.posted rate).gov.books :=
    after.books.trans (posted_books (v := v.setObj 0x2201 7 rate) before.books (setting (by decide) (by decide)) rate)
  have taken : ∀ {j}, j < 256 → j ≠ 0x0C → w.obj 0x2200 j = s.obj 0x2200 j := fun hj hc =>
    (after.setting hj hc).trans (setting hj hc)
  have now : w.now = s.now := after.now.trans before.now
  rw [ends]
  refine ⟨now, ?_, fun h => ?_⟩
  · rw [show (w.periodClosed (s.obj 0x2200 2)).obj 0x2201 7 = rate from shown]
    exact periodClosed_books posted now (taken (by decide) (by decide)) (taken (by decide) (by decide)) _
  · have rests := before.rests h
    have closed := after.rests ⟨rests.reset, rests.sessions, rests.load, rests.unbind⟩
    exact ⟨closed.reset, closed.sessions, closed.load, closed.unbind⟩

/-! ## What follows a period (R208, R251, R491) -/

theorem sparesBooks_periodCauses (s : State) (f : PeriodFound) : SparesBooks s (s.periodCauses f) := by
  unfold State.periodCauses
  extract_lets u
  have hu : SparesBooks s u := by
    dsimp only [u]
    split
    · exact .ite (.refl s) ((sparesBooks_cause s _ _ _).trans (sparesBooks_raiseCause _ (by decide) _))
    · exact .refl s
  exact .ite (hu.trans (sparesBooks_raiseCause u (by decide) _)) hu

theorem changes_runDue (s : State) (d : Nat) (whole ports : List Nat) : Changes [.cal] s (s.runDue d whole ports) :=
  Changes.ite (Changes.refl _ _) (changes_setCalRun s d _)

theorem sparesBooks_runsDue (s : State) : SparesBooks s s.runsDue :=
  .ite (.refl s) (.foldl _ (fun t d _ => .ite ((changes_runDue t d _ _).sparesBooks rfl) (.refl t)) s)

theorem sparesBooks_judgeReady (s : State) : SparesBooks s s.judgeReady := by
  have shown : SparesBooks s s.showGrants := .ite (sparesBooks_setGrants s _ _) (.refl s)
  exact .ite shown (shown.trans (.foldl _ (fun t x _ => (changes_setStep t x.1 _).sparesBooks rfl) _))

/-- What the end of a period sets off, before a commanded reset and what waits: the readiness, HOLD causes, due calibration runs
and a decision instant. -/
def State.periodFollows (u : State) (was : Bool) (f : PeriodFound) : State :=
  ((if u.ready 16 && !was then u.cause 0x2000 3 u.now else u).periodCauses f).runsDue.judgeReady

theorem sparesBooks_periodFollows (u : State) (was : Bool) (f : PeriodFound) : SparesBooks u (u.periodFollows was f) := by
  have told : SparesBooks u (if u.ready 16 && !was then u.cause 0x2000 3 u.now else u) :=
    .ite (sparesBooks_cause u _ _ _) (.refl u)
  exact ((told.trans (sparesBooks_periodCauses _ f)).trans (sparesBooks_runsDue _)).trans (sparesBooks_judgeReady _)

section
variable {s : State} {t : Tk}

theorem exec_governorPeriodEnd_of_due (ht : s.ticks = true) (hd : (s.advance t).periodDue = true) (pv : Int) :
    exec (.governorPeriodEnd t pv) s = .next ((((s.advance t).periodEnds pv).1.periodFollows (s.ready 16)
      ((s.advance t).periodEnds pv).2).resetSettles).letGo := by
  have due : (!((s.advance t).ticks && (s.advance t).periodDue)) = false := by
    rw [hd, show (s.advance t).ticks = true from ht]
    rfl
  show Host.Outcome.next ((s.advance t).governs pv).letGo = _
  unfold State.governs
  rw [if_neg (ne_true_of_eq_false due)]
  rfl

theorem exec_governorPeriodEnd_of_not_due (h : s.ticks = false ∨ (s.advance t).periodDue = false) (hw : s.noWaiting)
    (hm : s.mode ≠ .load) (pv : Int) : exec (.governorPeriodEnd t pv) s = .next (s.advance t) := by
  have idle : (!((s.advance t).ticks && (s.advance t).periodDue)) = true := by
    rcases h with h | h
    · rw [show (s.advance t).ticks = false from h]
      rfl
    · rw [h, Bool.and_false]
      rfl
  show Host.Outcome.next ((s.advance t).governs pv).letGo = _
  unfold State.governs
  rw [if_pos idle, letGo_of_noWaiting (noWaiting_advance t hw) hm]

end

/-! ## A sample (R234, R241) -/

/-- The figures of a sample are taken. -/
def State.figuresTaken (s : State) (figs : Figures) : State := figs.foldl State.takeFigure s

theorem changes_takeFigure (s : State) (f : Figure) : Changes [.ports, .gov] s (s.takeFigure f) := by
  unfold State.takeFigure
  split
  · exact (changes_setPort s _ _).mono rfl
  · exact (changes_iff _ _ _).mpr rfl

theorem changes_figuresTaken (s : State) (figs : Figures) : Changes [.ports, .gov] s (s.figuresTaken figs) :=
  Changes.foldl _ (fun t f h => h.trans (changes_takeFigure t f)) (Changes.refl _ _)

theorem takeFigure_advance (s : State) (t : Tk) (f : Figure) : (s.advance t).takeFigure f = (s.takeFigure f).advance t := by
  unfold State.takeFigure
  split <;> rfl

/-- The instant of a sample is none of what its figures say. -/
theorem figuresTaken_advance (s : State) (t : Tk) (figs : Figures) :
    (s.advance t).figuresTaken figs = (s.figuresTaken figs).advance t := by
  induction figs generalizing s with
  | nil => rfl
  | cons f figs ih => exact (congrArg (State.figuresTaken · figs) (takeFigure_advance s t f)).trans (ih _)

/-- Of the governor, figures change what it knows of the bus sources. -/
theorem takeFigure_gov (s : State) (f : Figure) : (s.takeFigure f).gov = { s.gov with bus := (s.takeFigure f).gov.bus } := by
  unfold State.takeFigure
  split <;> rfl

theorem figuresTaken_gov (s : State) (figs : Figures) :
    (s.figuresTaken figs).gov = { s.gov with bus := (s.figuresTaken figs).gov.bus } := by
  induction figs generalizing s with
  | nil => rfl
  | cons f figs ih =>
    have rest := ih (s.takeFigure f)
    rw [takeFigure_gov s f] at rest
    exact rest

theorem takeFigure_port (s : State) {f : Figure} {p : PortNo} (h : f.src ≠ .port p) : (s.takeFigure f).port p = s.port p := by
  unfold State.takeFigure
  split
  next q hq =>
    have other : (p : Nat) ≠ q := fun e => h (by rw [hq, Fin.ext e])
    exact port_setPort_other s _ other
  next => rfl

/-- A port of which no figure speaks keeps its own. -/
theorem figuresTaken_port (s : State) {figs : Figures} {p : PortNo} (h : ∀ f ∈ figs, f.src ≠ .port p) :
    (s.figuresTaken figs).port p = s.port p := by
  induction figs generalizing s with
  | nil => rfl
  | cons f figs ih => exact (ih (s.takeFigure f) fun g hg => h g (by simp [hg])).trans (takeFigure_port s (h f (by simp)))

/-- A sample takes its figures, and then sensors, sums and the energy of the steps in flight. -/
theorem sampleFigures_facts (s : State) (temps : Temps) (figs : Figures) :
    Changes [.gov, .disp] (s.figuresTaken figs) (s.sampleFigures temps figs) ∧
    (s.sampleFigures temps figs).gov.temps = s.gov.temps ++ [temps] ∧
    (s.sampleFigures temps figs).gov.samples = s.gov.samples + 1 ∧
    (s.sampleFigures temps figs).gov.bus = (s.figuresTaken figs).gov.bus ∧
    (s.sampleFigures temps figs).gov.poutSum = s.gov.poutSum + (s.figuresTaken figs).delivered := by
  have taken := figuresTaken_gov s figs
  unfold State.sampleFigures
  extract_lets u image held v free all
  have hv : Changes [.disp] u v := Changes.foldl _ (fun t x h => (changes_setStep t x.1 _).step rfl h) (Changes.refl _ _)
  have gov : v.gov = u.gov := hv .gov rfl
  have delivered : v.delivered = u.delivered := by rw [State.delivered, gov, show v.ports = u.ports from hv .ports rfl]; rfl
  have sensors : v.gov.temps = s.gov.temps := by rw [gov, show u.gov = _ from taken]
  have samples : v.gov.samples = s.gov.samples := by rw [gov, show u.gov = _ from taken]
  have sum : v.gov.poutSum = s.gov.poutSum := by rw [gov, show u.gov = _ from taken]
  have bus : v.gov.bus = u.gov.bus := by rw [gov]
  exact ⟨(hv.mono (l := [.gov, .disp]) rfl).upd rfl, congrArg (· ++ [temps]) sensors, congrArg (· + 1) samples, bus,
    congrArg₂ (· + ·) sum delivered⟩

section
variable {s : State}

/-- PORT_FIGURES_SAMPLED while the governor runs: what the sample takes, as figures of the state that it finds. -/
theorem exec_portFiguresSampled_ticks (ht : s.ticks = true) (t : Tk) (temps : Temps) (figs : Figures) :
    ∃ u, exec (.portFiguresSampled t temps figs) s = .next u ∧ u.gov.temps = s.gov.temps ++ [temps] ∧
      u.gov.samples = s.gov.samples + 1 ∧ u.ports = (s.figuresTaken figs).ports ∧ u.gov.bus = (s.figuresTaken figs).gov.bus ∧
      u.gov.poutSum = s.gov.poutSum + (s.figuresTaken figs).delivered ∧ Changes [.now, .ports, .gov, .disp] s u := by
  obtain ⟨frame, sensors, samples, bus, sum⟩ := sampleFigures_facts (s.advance t) temps figs
  rw [figuresTaken_advance] at frame bus sum
  refine ⟨_, congrArg Host.Outcome.next (if_pos ht), sensors, samples, frame .ports rfl, bus, sum, ?_⟩
  exact frame.step rfl ((changes_advance _ t).step rfl ((changes_figuresTaken s figs).mono rfl))

theorem exec_portFiguresSampled_idle (ht : s.ticks = false) (t : Tk) (temps : Temps) (figs : Figures) :
    exec (.portFiguresSampled t temps figs) s = .next (s.advance t) :=
  congrArg Host.Outcome.next (if_neg (ne_true_of_eq_false ht))

end

/-! ## Power and current by temperature (R237, R243) -/

/-- A part of `a` in hundredths, between a least part and the whole. -/
theorem hundredths_bounds {a k least : Int} (ha : 0 ≤ a) (hl : 0 ≤ least) (hk : least ≤ k) (h : k ≤ 100) :
    a * least / 100 ≤ divTrunc (a * k) 100 ∧ divTrunc (a * k) 100 ≤ a := by
  have below : a * least ≤ a * k := Int.mul_le_mul_of_nonneg_left hk ha
  have above : a * k ≤ a * 100 := Int.mul_le_mul_of_nonneg_left h ha
  rw [divTrunc, Int.tdiv_eq_ediv_of_nonneg (Int.mul_nonneg ha (hl.trans hk))]
  omega

theorem allowedPower_of_cool {plim tset tmax : Int} (h : tmax ≤ tset - 100) : allowedPower plim tset tmax = plim := if_pos h

theorem allowedPower_of_hot {plim tset tmax : Int} (h : tset ≤ tmax) : allowedPower plim tset tmax = min 6000 plim := by
  unfold allowedPower
  rw [if_neg (by omega), if_pos h]

/-- Between the two it falls by the hundredths that the temperature has come of the way to the setpoint. -/
theorem allowedPower_of_between {plim tset tmax : Int} (h1 : tset - 100 < tmax) (h2 : tmax < tset) (hp : 6000 ≤ plim) :
    allowedPower plim tset tmax = plim - divTrunc ((plim - 6000) * (tmax - (tset - 100))) 100 := by
  unfold allowedPower
  dsimp only
  rw [if_neg (by omega), if_neg (by omega), min_eq_left hp]

/-- The allowance of a die is a part of its limit in hundredths: all, half, or between them what the temperature leaves of it. -/
theorem dieAllowance_hundredths (ld tset tdie : Int) :
    ∃ k, 50 ≤ k ∧ k ≤ 100 ∧ dieAllowance ld tset tdie = divTrunc (ld * k) 100 := by
  unfold dieAllowance
  split
  · exact ⟨100, by omega, by omega, (Int.mul_tdiv_cancel ld (by decide)).symm⟩
  · split
    · refine ⟨50, by omega, by omega, ?_⟩
      rw [show (100 : Int) = 2 * 50 from rfl]
      exact (Int.mul_tdiv_mul_of_pos_left ld 2 (by decide)).symm
    · exact ⟨100 - (tdie - (tset - 50)), by omega, by omega, rfl⟩

end Sys2Proof.Machine

open Sys2Proof Sys2Proof.Machine

/-- Settles O57: a sample by its figures; the end of a period by the books that it posts, which all that follows leaves as they
are; power and current by the hundredths that a temperature leaves of them. -/
theorem governorKeepsTheBooks : Obligations.GovernorKeepsTheBooks := by
  unfold Obligations.GovernorKeepsTheBooks
  refine ⟨?_, ?_, ?_, ?_, ?_, ?_, ?_, ?_⟩
  · intro s t temps p uv na ht
    obtain ⟨u, sampled, sensors, samples, ports, -, -, frame⟩ :=
      exec_portFiguresSampled_ticks ht t temps [{ src := .port p, uv := uv, na := na }]
    refine ⟨u, sampled, ?_, fun q hq => ?_, sensors, samples, frame⟩
    · exact (port_congr ports p).trans (port_setPort s p _)
    · exact (port_congr ports q).trans (port_setPort_other s _ hq)
  · intro s t temps figs ht
    obtain ⟨u, sampled, sensors, samples, ports, bus, sum, frame⟩ := exec_portFiguresSampled_ticks ht t temps figs
    exact ⟨u, sampled, sensors, samples, ports, bus, sum,
      fun p hp => (port_congr ports p).trans (figuresTaken_port s hp), frame⟩
  · exact fun s t temps figs ht => exec_portFiguresSampled_idle ht t temps figs
  · intro s t pv ht hd
    have period := periodEnds_over (s.advance t) pv
    have books := period.books
    refine ⟨_, _, rfl, exec_governorPeriodEnd_of_due ht hd pv, ?_⟩
    exact ⟨(congrArg Governor.lastEnd books :), (congrArg Governor.samples books :), (congrArg Governor.temps books :),
      (congrArg Governor.poutSum books :), (congrArg Governor.pportSum books :), (congrArg Governor.standing books :),
      (congrArg Governor.consumed books :), (congrArg Governor.reserved books :), (congrArg Governor.share books :),
      (congrArg Governor.capacity books :), (congrArg Governor.tset books :)⟩
  · intro s t pv ht hd hu _ _
    have period := (periodEnds_over (s.advance t) pv).trans
      (sparesBooks_periodFollows _ (s.ready 16) ((s.advance t).periodEnds pv).2)
    have books := period.books
    have ends := exec_governorPeriodEnd_of_due ht hd pv
    rw [(period.rests (resting_of_undisturbed (undisturbed_of_changes (changes_advance s t) rfl hu))).ends] at ends
    exact ⟨_, ends, (congrArg Governor.lastEnd books :), (congrArg Governor.samples books :), (congrArg Governor.temps books :),
      (congrArg Governor.standing books :), (congrArg Governor.consumed books :), (congrArg Governor.share books :),
      (congrArg Governor.capacity books :), (congrArg Governor.tset books :), fun _ => (congrArg Governor.bucket books :)⟩
  · exact fun s t pv h hw hm => exec_governorPeriodEnd_of_not_due h hw hm pv
  · intro plim tset tmax
    refine ⟨allowedPower_of_cool, allowedPower_of_hot, fun h1 h2 hp => ?_⟩
    have part := hundredths_bounds (a := plim - 6000) (k := tmax - (tset - 100)) (least := 0) (by omega) (by omega)
      (by omega) (by omega)
    rw [allowedPower_of_between h1 h2 hp]
    omega
  · intro ld tset tdie hl
    obtain ⟨k, hk, h100, part⟩ := dieAllowance_hundredths ld tset tdie
    have bounds := hundredths_bounds hl (by decide) hk h100
    rw [part]
    omega
end

section
open Sys2Proof Sys2Proof.Machine

/-- Settles O5: reset leaves every table and every log of the invariant empty. -/
theorem resetHasInvariant : Obligations.ResetHasInvariant := by
  unfold Obligations.ResetHasInvariant
  exact {
    memory := rfl
    cores := List.forall_mem_nil _
    sources := List.forall_mem_nil _
    triggers := List.forall_mem_nil _
    requests := List.forall_mem_nil _
    queues := List.forall_mem_nil _
    records := Nat.zero_le _
    held := Nat.zero_le _
    spills := Nat.zero_le _ }
end

section
/-!
SUPPORT. How a step core goes on (R257, R259, R266, R268): its registers and flags after an update, the state in which an
instruction acts, and the frame of an instruction whose effect lies in its own core.
-/

namespace Sys2Proof.Machine

/-! ## Flags (R257) -/

/-- The bits of a status word after one of them has been put. -/
theorem getLsbD_putFlag (w : Word) {i j : Nat} (b : Bool) (hi : i < 32) :
    (putFlag w i b).getLsbD j = if j = i then b else w.getLsbD j := by
  by_cases hj : j < 32
  · have bit : (BitVec.ofNat 32 (2 ^ i)).getLsbD j = decide (j = i) := by
      rw [BitVec.getLsbD_ofNat, Nat.testBit_two_pow, decide_eq_true hj, Bool.true_and]
      exact decide_eq_decide.mpr eq_comm
    cases b with
    | true =>
      rw [putFlag, if_pos rfl, BitVec.getLsbD_or, bit]
      by_cases e : j = i <;> simp [e]
    | false =>
      rw [putFlag, if_neg Bool.false_ne_true, BitVec.getLsbD_and, BitVec.getLsbD_not, bit]
      by_cases e : j = i <;> simp [e, hj]
  · rw [if_neg (by omega), BitVec.getLsbD_of_ge w j (by omega)]
    exact BitVec.getLsbD_of_ge _ _ (by omega)

/-- A flag set or cleared where an instruction changes it. -/
def Core.mayFlag (c : Core) (i : Nat) (b : Option Bool) : Core :=
  match b with
  | some b => c.setFlag i b
  | none => c

theorem setFlags_eq (c : Core) (r : Alu) : c.setFlags r =
    (((c.setFlag flagN r.value.msb).setFlag flagZ (r.value == 0#32)).mayFlag flagC r.carry).mayFlag flagV r.overflow := rfl

section
variable (c : Core) {i j : Nat}

theorem flag_setFlag (b : Bool) (hi : i < 32) : (c.setFlag i b).flag j = if j = i then b else c.flag j :=
  getLsbD_putFlag c.psr b hi

theorem flag_mayFlag (b : Option Bool) (hi : i < 32) :
    (c.mayFlag i b).flag j = if j = i then b.getD (c.flag i) else c.flag j := by
  cases b with
  | none =>
    split
    · next e => rw [e]; rfl
    · rfl
  | some b => exact flag_setFlag c b hi

@[simp] theorem flag_next : c.next.flag i = c.flag i := rfl

@[simp] theorem flag_setReg (r : Reg) (v : Word) : (c.setReg r v).flag i = c.flag i := by
  unfold Core.setReg
  split <;> rfl

/-- The flags after a result (R268): N and Z follow it, C and V where it changes them, the others stay. -/
theorem flag_setFlags (r : Alu) : (c.setFlags r).flag i =
    if i = flagV then r.overflow.getD (c.flag flagV) else if i = flagC then r.carry.getD (c.flag flagC)
    else if i = flagZ then r.value == 0#32 else if i = flagN then r.value.msb else c.flag i := by
  simp only [setFlags_eq, flag_mayFlag _ _ (show flagV < 32 by decide), flag_mayFlag _ _ (show flagC < 32 by decide),
    flag_setFlag _ _ (show flagZ < 32 by decide), flag_setFlag _ _ (show flagN < 32 by decide),
    show flagV ≠ flagC ∧ flagV ≠ flagZ ∧ flagV ≠ flagN ∧ flagC ≠ flagZ ∧ flagC ≠ flagN by decide, if_false]

end

/-! ## Registers (R259) -/

theorem isBanked_bounds {r : Reg} (h : isBanked r.val = true) : 8 ≤ r.val ∧ r.val - 8 < 6 := by
  simp only [isBanked, Bool.and_eq_true, decide_eq_true_eq] at h
  omega

section
variable (c : Core) {r q : Reg} (v : Word)

@[simp] theorem reg_next (r : Reg) : c.next.reg r = c.reg r := rfl

@[simp] theorem reg_setReg (r : Reg) : (c.setReg r v).reg r = v := by
  unfold Core.reg
  rw [flag_setReg]
  unfold Core.setReg
  split
  · next h => simp [(isBanked_bounds (Bool.and_eq_true_iff.mp h).2).2]
  · exact Vector.getElem_set_self r.isLt

theorem reg_setReg_other (h : q ≠ r) : (c.setReg r v).reg q = c.reg q := by
  have apart : r.val ≠ q.val := fun e => h (Fin.ext e.symm)
  unfold Core.reg
  rw [flag_setReg]
  unfold Core.setReg
  split
  · next hr =>
    split
    · next hq =>
      have hr := isBanked_bounds (Bool.and_eq_true_iff.mp hr).2
      have hq := isBanked_bounds (Bool.and_eq_true_iff.mp hq).2
      simp [List.getElem?_set_ne (show r.val - 8 ≠ q.val - 8 by omega)]
    · rfl
  · split
    · rfl
    · exact Vector.getElem_set_ne r.isLt q.isLt apart

end

/-! ## An instruction whose effect lies in its own core (R266) -/

/-- A core whose register takes a value, where an instruction writes one. -/
def Core.given (c : Core) (rd : Option (Reg × Word)) : Core :=
  match rd with
  | some (r, v) => c.setReg r v
  | none => c

/-- A core whose flags follow a result, where an instruction has one for them. -/
def Core.flagged (c : Core) (r : Option Alu) : Core :=
  match r with
  | some r => c.setFlags r
  | none => c

section
variable (c : Core)

theorem psr_mayFlag (i : Nat) (b : Option Bool) : c.mayFlag i b = { c with psr := (c.mayFlag i b).psr } := by
  cases b <;> rfl

theorem flagged_eq (r : Option Alu) : c.flagged r = { c with psr := (c.flagged r).psr } := by
  cases r with
  | none => rfl
  | some r => rw [Core.flagged, setFlags_eq, psr_mayFlag, psr_mayFlag]; rfl

theorem given_eq (rd : Option (Reg × Word)) : c.given rd = { c with g := (c.given rd).g, fast := (c.given rd).fast } := by
  cases rd with
  | none => rfl
  | some x =>
    simp only [Core.given, Core.setReg]
    split <;> rfl

@[simp] theorem flag_given (rd : Option (Reg × Word)) (i : Nat) : (c.given rd).flag i = c.flag i := by
  rw [given_eq]
  rfl

theorem flag_flagged (r : Option Alu) {i : Nat} (h : 4 ≤ i ∨ r = none) : (c.flagged r).flag i = c.flag i := by
  cases r with
  | none => rfl
  | some r =>
    have hi : 4 ≤ i := h.resolve_right (by simp)
    have apart : i ≠ flagV ∧ i ≠ flagC ∧ i ≠ flagZ ∧ i ≠ flagN := by simp only [flagV, flagC, flagZ, flagN]; omega
    simp only [Core.flagged, flag_setFlags, apart, if_false]

/-- Flags of a result leave the bank that FA selects, and so every register. -/
theorem reg_flagged (r : Option Alu) (q : Reg) : (c.flagged r).reg q = c.reg q := by
  have bank : (c.flagged r).flag flagFA = c.flag flagFA := flag_flagged c r (.inl (by decide))
  rw [Core.reg, bank, flagged_eq]
  rfl

theorem reg_given_other {rd : Option (Reg × Word)} {q : Reg} (h : ∀ v, rd ≠ some (q, v)) : (c.given rd).reg q = c.reg q := by
  cases rd with
  | none => rfl
  | some x => exact reg_setReg_other c x.2 fun e => h x.2 (by rw [e])

/-- A write to a register leaves the bank that FA does not select. -/
theorem given_bank (rd : Option (Reg × Word)) {q : Reg} (h : isBanked q = true) :
    if c.flag flagFA then (c.given rd).g.get q = c.g.get q else (c.given rd).fast = c.fast := by
  cases rd with
  | none => split <;> rfl
  | some x =>
    obtain ⟨r, v⟩ := x
    simp only [Core.given, Core.setReg]
    split
    · next fa =>
      split
      · rfl
      · next hr =>
        have apart : r.val ≠ q.val := by
          intro e
          simp [fa, e, h] at hr
        exact Vector.getElem_set_ne r.isLt q.isLt apart
    · next fa => simp [fa]

end

/-- The frame of an instruction that gives a register a value, lets the flags follow a result, or does neither. -/
theorem coreGoes (s : State) (n : Nat) (rd : Option (Reg × Word)) (r : Option Alu) :
    s.CoreGoes (s.setCore n (((s.core n).given rd).flagged r).next) n rd (r.map fun r => (r.value, r.carry, r.overflow)) where
  written q v h := by
    subst h
    rw [core_setCore, reg_next, reg_flagged]
    exact reg_setReg _ v q
  kept q h := by rw [core_setCore, reg_next, reg_flagged, reg_given_other _ h]
  bank q h := by
    rw [core_setCore, flagged_eq]
    exact given_bank _ rd h
  result v cf vf h := by
    cases r with
    | none => cases h
    | some r =>
      cases h
      simp only [core_setCore, flag_next, Core.flagged, flag_setFlags, flag_given]
      exact ⟨rfl, rfl, rfl, rfl⟩
  flagsKept i _ h := by
    rw [core_setCore, flag_next, flag_flagged _ r (h.imp id Option.map_eq_none_iff.mp), flag_given]
  next := by
    rw [core_setCore, flagged_eq, given_eq]
    rfl
  rest := by
    rw [core_setCore, flagged_eq, given_eq]
    rfl
  others m h := core_setCore_other s _ h
  frame := (changes_setCore s n _).mono rfl

/-! ## The state in which an instruction acts (R261, R266) -/

/-- A read of memory corrects what it can, counts it, and reports what it cannot. -/
theorem changes_afterRead (s : State) (a n : Nat) : Changes (.flips :: signalParts) s (s.afterRead a n) := by
  unfold State.afterRead
  extract_lets hit fixed lost t v
  have ht : Changes (.flips :: signalParts) s t := (changes_iff _ _ _).mpr rfl
  have hv : Changes (.flips :: signalParts) s v :=
    .ite ht (.ite ((changes_countUp _ _ _ _).step rfl ht) ((changes_countUp _ _ _ _).step rfl ht))
  exact .ite (.refl _ s) (.ite hv ((changes_cause _ _ _ _).step rfl ((changes_countUp _ _ _ _).step rfl hv)))

/-- A read below the block memories reports nothing. -/
theorem changes_afterRead_of_low (s : State) {a : Nat} (n : Nat) (h : a < zoneBase 0) :
    Changes [.objs, .flips] s (s.afterRead a n) := by
  unfold State.afterRead
  extract_lets hit fixed lost t v
  have ht : Changes [.objs, .flips] s t := (changes_iff _ _ _).mpr rfl
  have hv : Changes [.objs, .flips] s v :=
    .ite ht (.ite ((changes_countUp _ _ _ _).step rfl ht) ((changes_countUp _ _ _ _).step rfl ht))
  rw [if_pos (show (decide (a < zoneBase 0) || lost == 0) = true by simp [h])]
  exact .ite (.refl _ s) hv

theorem changes_fetched (s : State) (n : CoreNo) : Changes [.objs, .flips] s (s.fetched n) := by
  have low : ∀ a, a + 4 ≤ 0x100000 → localBase n + a < zoneBase 0 := by
    intro a h
    have := n.isLt
    simp only [localBase, zoneBase]
    omega
  unfold State.fetched
  dsimp only
  split
  · next h => exact changes_afterRead_of_low s _ (low _ h)
  · exact .refl _ s

theorem changes_acting (s : State) (t : Tk) (n : CoreNo) : Changes [.now, .objs, .flips] s (s.acting t n) :=
  (changes_fetched _ n).step rfl ((changes_advance s t).mono rfl)

section
variable (s : State) (t : Tk) (n : CoreNo)

@[simp] theorem acting_now : (s.acting t n).now = max s.now t := changes_fetched (s.advance t) n .now rfl
@[simp] theorem acting_mem : (s.acting t n).mem = s.mem := changes_acting s t n .mem rfl
@[simp] theorem acting_cores : (s.acting t n).cores = s.cores := changes_acting s t n .cores rfl
@[simp] theorem acting_sources : (s.acting t n).sources = s.sources := changes_acting s t n .sources rfl
@[simp] theorem acting_disp : (s.acting t n).disp = s.disp := changes_acting s t n .disp rfl
@[simp] theorem acting_gov : (s.acting t n).gov = s.gov := changes_acting s t n .gov rfl
@[simp] theorem acting_queues : (s.acting t n).queues = s.queues := changes_acting s t n .queues rfl
@[simp] theorem core_acting (m : Nat) : (s.acting t n).core m = s.core m := core_congr (acting_cores s t n) m
@[simp] theorem source_acting (m : Nat) : (s.acting t n).source m = s.source m := source_congr (acting_sources s t n) m
@[simp] theorem step_acting (k : Nat) : (s.acting t n).step k = s.step k := step_congr (acting_disp s t n) k
@[simp] theorem queue_acting (q : Nat) : (s.acting t n).queue q = s.queue q := queue_congr (acting_queues s t n) q
@[simp] theorem readByte_acting (a : Nat) : (s.acting t n).readByte a = s.readByte a := readByte_congr (acting_mem s t n) a

end

/-- A core executes the instruction whose word stands at PC. -/
theorem instruction_of_executes {s : State} {t : Tk} {n : CoreNo} {w : Word} (h : s.executes t n w) (f : State → State) :
    s.instruction t n w f = .next (f (s.acting t n)) := by
  obtain ⟨runs, word⟩ := h
  simp only [State.instruction, runs, word, BEq.rfl, Bool.and_self, if_true]
  rfl

/-- The command of an instruction that its core executes, by what its arm says. -/
theorem exec_of_executes {s : State} {t : Tk} {n : CoreNo} {w : Word} {i : Instr} {f : State → State} (h : s.executes t n w)
    (hi : exec i s = s.instruction t n w f) : exec i s = .next (f (s.acting t n)) :=
  hi.trans (instruction_of_executes h f)

/-- The same where the arm reads the core first. -/
theorem exec_of_core {s : State} {t : Tk} {n : CoreNo} {w : Word} {i : Instr} {f : State → Core → State} (h : s.executes t n w)
    (hi : exec i s = s.instruction t n w fun s => f s (s.core n)) : exec i s = .next (f (s.acting t n) (s.core n)) :=
  (exec_of_executes h hi).trans (by rw [core_acting])

end Sys2Proof.Machine
end

section
/-!
SUPPORT. The arithmetic, logic and compare instructions of the step cores (R268, R269): the results with their flags as numbers.
-/

namespace Sys2Proof.Machine

/-- The overflow of an addition is a sum outside the signed range. -/
theorem aluAdd_eq (x y : Word) : aluAdd x y = ⟨x + y, some (decide (2 ^ 32 ≤ x.toNat + y.toNat)),
    some (decide (x.toInt + y.toInt < -2 ^ 31 ∨ 2 ^ 31 ≤ x.toInt + y.toInt))⟩ := by
  have signs := BitVec.saddOverflow_eq x y
  rw [BitVec.saddOverflow, Bool.or_comm, ← Bool.decide_or] at signs
  exact congrArg (fun v => Alu.mk (x + y) _ (some v)) signs.symm

/-- The overflow of a subtraction is a difference outside the signed range. -/
theorem aluSub_eq (x y : Word) : aluSub x y = ⟨x - y, some (decide (y.toNat ≤ x.toNat)),
    some (decide (x.toInt - y.toInt < -2 ^ 31 ∨ 2 ^ 31 ≤ x.toInt - y.toInt))⟩ := by
  have signs := BitVec.ssubOverflow_eq x y
  rw [BitVec.ssubOverflow, Bool.or_comm, ← Bool.decide_or] at signs
  have same : (x.msb != y.msb && (x - y).msb != x.msb) = (!x.msb && y.msb && (x - y).msb || x.msb && !y.msb && !(x - y).msb) := by
    cases x.msb <;> cases y.msb <;> cases (x - y).msb <;> rfl
  exact congrArg (fun v => Alu.mk (x - y) _ (some v)) (same.trans signs.symm)

theorem mul_eq_ofInt (x y : Word) : x * y = BitVec.ofInt 32 (x.toInt * y.toInt) := by
  rw [BitVec.ofInt_mul, BitVec.ofInt_toInt, BitVec.ofInt_toInt]

theorem div_eq_ofNat (x y : Word) : x / y = BitVec.ofNat 32 (x.toNat / y.toNat) :=
  BitVec.eq_of_toNat_eq (by
    rw [BitVec.toNat_udiv, BitVec.toNat_ofNat, Nat.mod_eq_of_lt ((Nat.div_le_self _ _).trans_lt x.isLt)])

section
variable {s : State} {t : Tk} {c : CoreNo} {w : Word} {i : Instr} {rd : Reg}

/-- An instruction that writes a result with its flags. -/
theorem aluResult_goes {r : State → Alu} {v : Word} {cf vf : Option Bool} (h : s.executes t c w)
    (hi : exec i s = s.instruction t c w fun s => s.aluResult c rd (r s)) (hr : r (s.acting t c) = ⟨v, cf, vf⟩) :
    ∃ u, exec i s = .next u ∧ (s.acting t c).CoreGoes u c (some (rd, v)) (some (v, cf, vf)) := by
  refine ⟨_, exec_of_executes h hi, ?_⟩
  rw [hr]
  exact coreGoes _ _ (some (rd, v)) (some ⟨v, cf, vf⟩)

/-- A register form. -/
theorem registerForm_goes {ra rb : Reg} {f : Word → Word → Alu} {v : Word} {cf vf : Option Bool} (h : s.executes t c w)
    (hi : exec i s = s.instruction t c w fun s => s.aluR c rd ra rb f)
    (hr : f ((s.core c).reg ra) ((s.core c).reg rb) = ⟨v, cf, vf⟩) :
    ∃ u, exec i s = .next u ∧ (s.acting t c).CoreGoes u c (some (rd, v)) (some (v, cf, vf)) :=
  aluResult_goes h hi (by rw [core_acting]; exact hr)

/-- An immediate form, and a shift by an amount in the instruction. -/
theorem immediateForm_goes {ra : Reg} {f : Word → Alu} {v : Word} {cf vf : Option Bool} (h : s.executes t c w)
    (hi : exec i s = s.instruction t c w fun s => s.aluResult c rd (f ((s.core c).reg ra)))
    (hr : f ((s.core c).reg ra) = ⟨v, cf, vf⟩) :
    ∃ u, exec i s = .next u ∧ (s.acting t c).CoreGoes u c (some (rd, v)) (some (v, cf, vf)) :=
  aluResult_goes h hi (by rw [core_acting]; exact hr)

/-- A division whose divisor is not 0. -/
theorem divisionForm_goes {ra rb : Reg} {f : Word → Word → Word} {v : Word} (h : s.executes t c w)
    (hi : exec i s = s.instruction t c w fun s => s.divides c rd ra rb f) (hb : (s.core c).reg rb ≠ 0#32)
    (hr : f ((s.core c).reg ra) ((s.core c).reg rb) = v) :
    ∃ u, exec i s = .next u ∧ (s.acting t c).CoreGoes u c (some (rd, v)) (some (v, none, none)) := by
  refine ⟨_, exec_of_executes h hi, ?_⟩
  rw [State.divides, core_acting, if_neg hb, hr]
  exact coreGoes _ _ (some (rd, v)) (some (aluPlain v))

/-- A comparison leaves the flags of the difference. -/
theorem compare_goes {ra : Reg} {x y : Word} {r : Core → Word} (h : s.executes t c w)
    (hi : exec i s = s.instruction t c w fun s => s.aluCompare c (aluSub ((s.core c).reg ra) (r (s.core c))))
    (hx : (s.core c).reg ra = x) (hy : r (s.core c) = y) :
    ∃ u, exec i s = .next u ∧ (s.acting t c).CoreGoes u c none (some (x - y, some (decide (y.toNat ≤ x.toNat)),
      some (decide (x.toInt - y.toInt < -2 ^ 31 ∨ 2 ^ 31 ≤ x.toInt - y.toInt)))) := by
  refine ⟨_, exec_of_executes h hi, ?_⟩
  rw [core_acting, hx, hy, aluSub_eq]
  exact coreGoes _ _ none (some _)

end

end Sys2Proof.Machine

open Sys2Proof Sys2Proof.Machine

/-- Settles O23: each form is one of four shapes (a result, a division, a comparison, a register alone), whose frame is
`coreGoes`; what is left is the result with its flags, in the numbers of R268. -/
theorem coreArithmeticAndCompares : Obligations.CoreArithmeticAndCompares := by
  unfold Obligations.CoreArithmeticAndCompares
  refine ⟨⟨?_, ?_, ?_, ?_, ?_⟩, ?_, ?_⟩
  · intro s t c rd ra rb
    simp only [registerForms, List.forall_mem_cons, List.not_mem_nil, false_imp_iff, implies_true, and_true]
    refine ⟨?_, ?_, ?_, ?_, ?_, ?_, ?_, ?_, ?_, ?_, ?_⟩
    · exact fun h => registerForm_goes h rfl (aluAdd_eq _ _)
    · exact fun h => registerForm_goes h rfl (aluSub_eq _ _)
    · exact fun h => registerForm_goes h rfl rfl
    · exact fun h => registerForm_goes h rfl rfl
    · exact fun h => registerForm_goes h rfl rfl
    · exact fun h => registerForm_goes h rfl rfl
    · exact fun h => registerForm_goes h rfl rfl
    · exact fun h => registerForm_goes h rfl rfl
    · exact fun h => registerForm_goes h rfl (congrArg aluPlain (mul_eq_ofInt _ _))
    · exact fun h => registerForm_goes h rfl rfl
    · exact fun h => registerForm_goes h rfl rfl
  · intro s t c rd ra rb hb
    simp only [divisionForms, List.forall_mem_cons, List.not_mem_nil, false_imp_iff, implies_true, and_true]
    exact ⟨fun h => divisionForm_goes h rfl hb rfl, fun h => divisionForm_goes h rfl hb (div_eq_ofNat _ _),
      fun h => divisionForm_goes h rfl hb rfl⟩
  · intro s t c rd ra imm k
    simp only [immediateForms, List.forall_mem_cons, List.not_mem_nil, false_imp_iff, implies_true, and_true]
    refine ⟨?_, ?_, ?_, ?_, ?_, ?_, ?_⟩
    · exact fun h => immediateForm_goes (f := (aluAdd · (sext imm))) h rfl (aluAdd_eq _ _)
    · exact fun h => immediateForm_goes (f := fun x => aluPlain (x &&& zext imm)) h rfl rfl
    · exact fun h => immediateForm_goes (f := fun x => aluPlain (x ||| zext imm)) h rfl rfl
    · exact fun h => immediateForm_goes (f := fun x => aluPlain (x ^^^ zext imm)) h rfl rfl
    · exact fun h => immediateForm_goes (f := (aluShl · k)) h rfl rfl
    · exact fun h => immediateForm_goes (f := (aluShr · k)) h rfl rfl
    · exact fun h => immediateForm_goes (f := (aluSar · k)) h rfl rfl
  · exact fun s t c rd imm h =>
      ⟨_, exec_of_executes (f := fun s => s.setCore c ((s.core c).setReg rd (zext imm <<< 16)).next) h rfl,
        coreGoes _ _ (some (rd, zext imm <<< 16)) none⟩
  · exact fun s t c h =>
      ⟨_, exec_of_executes (f := fun s => s.setCore c (s.core c).next) h rfl, coreGoes _ _ none none⟩
  · exact fun s t c ra rb x y hx hy h => compare_goes (r := (·.reg rb)) h rfl hx hy
  · exact fun s t c ra imm x y hx hy h => compare_goes (r := fun _ => sext imm) h rfl hx hy
end

section
/-!
SUPPORT. How a step core leaves its program (R271, R287, R288, R291, R292): jumps, the end of a program, and exceptions of a core
without a step and without events.
-/

namespace Sys2Proof.Machine

/-! ## A core without events (R318) -/

theorem heldSources_congr {s u : State} (h : u.sources = s.sources) (k : Nat) : u.heldSources k = s.heldSources k := by
  simp only [State.heldSources, h]

@[simp] theorem heldSources_acting (s : State) (t : Tk) (n : CoreNo) (k : Nat) : (s.acting t n).heldSources k = s.heldSources k :=
  heldSources_congr (acting_sources s t n) k

theorem completeHeld_of_none {s : State} {k : Nat} (h : s.heldSources k = []) : s.completeHeld k = s := by
  simp only [State.completeHeld, h, List.foldl_nil]

/-- A core that stops, with its registers (R292). -/
def Core.stopped (c : Core) : Core :=
  { c with wait := none, normalEvent := none, fastEvent := none, sess := 255, step := none, stage := .stopped }

theorem stopCore_of_none {s : State} {n : Nat} (h : s.heldSources n = []) :
    s.stopCore n = (s.setObj (0x2510 + n) 9 ((s.core n).g.get 0).toNat).setCore n (s.core n).stopped := by
  have held : (s.setObj (0x2510 + n) 9 ((s.core n).g.get 0).toNat).heldSources n = [] := h
  unfold State.stopCore
  dsimp only
  rw [completeHeld_of_none held]
  rfl

/-! ## Jumps (R271, R291) -/

/-- A second write of an entry stands, unless it would enter again what the first one took out. -/
theorem Table.set_set {α : Type} [DecidableEq α] (d : α) (t : Table α) (k : Nat) {v w : α} (h : v = d → w = d) :
    Table.set d (Table.set d t k v) k w = Table.set d t k w := by
  by_cases hv : v = d
  · simp [Table.set, hv, h hv, Table.drop]
  · simp only [Table.set, if_neg hv, Table.put_put, Table.drop_put]

theorem setCore_setCore (s : State) (n : Nat) {c d : Core} (h : c = {} → d = {}) :
    (s.setCore n c).setCore n d = s.setCore n d :=
  congrArg (fun cores => { s with cores := cores }) (Table.set_set _ _ _ h)

/-- A core that runs is none that reset left. -/
theorem ne_reset_of_runs {c : Core} (h : c.runs = true) : c ≠ {} := by
  rintro rfl
  exact absurd h (by decide)

theorem jumpTo_of_ne {s : State} {n : Nat} {c : Core} {target : Word} (h : target ≠ endAddress) :
    s.jumpTo n c target = s.setCore n { c with pc := target } := if_neg h

theorem setObj_setCore (s : State) (n : Nat) (c : Core) (i j : Nat) (v : Int) :
    (s.setCore n c).setObj i j v = (s.setObj i j v).setCore n c := rfl

/-- G15 lies in no bank that FA selects. -/
theorem setReg_link (c : Core) (v : Word) : c.setReg 15 v = { c with g := c.g.set 15 v } := by
  rw [Core.setReg, show isBanked (15 : Reg) = false from rfl, Bool.and_false]
  rfl

/-- A jump to the end address ends a program that no step started: the core stops, with its registers. -/
theorem jumpTo_end {s : State} {n : Nat} (hr : (s.core n).runs = true) (hs : (s.core n).step = none)
    (hh : s.heldSources n = []) : s.jumpTo n (s.core n) endAddress =
      (s.setObj (0x2510 + n) 9 ((s.core n).g.get 0).toNat).setCore n (s.core n).stopped := by
  have held : (s.setCore n (s.core n)).heldSources n = [] := hh
  have ends : (s.setCore n (s.core n)).coreEnds n = (s.setCore n (s.core n)).stopCore n := by
    simp only [State.coreEnds, core_setCore, hs]
  rw [State.jumpTo, if_pos rfl, ends, stopCore_of_none held, core_setCore, setObj_setCore,
    setCore_setCore _ _ fun h => absurd h (ne_reset_of_runs hr)]

/-! ## Exceptions (R287, R288) -/

/-- A core that an exception stops. -/
def Core.halted (c : Core) : Core :=
  { c with wait := none, normalEvent := none, fastEvent := none, step := none, stage := .exception }

/-- What an exception shows at the object of its core. -/
def State.exceptionShown (s : State) (n code addr : Nat) : State :=
  (((s.setObj (0x2510 + n) 6 code).setObj (0x2510 + n) 7 (s.core n).pc.toNat).setObj (0x2510 + n) 8 addr).setObj (0x2510 + n) 9
    ((s.core n).g.get 0).toNat

theorem changes_exceptionShown (s : State) (n code addr : Nat) : Changes [.objs] s (s.exceptionShown n code addr) :=
  (((changes_setObj _ _ _ _).trans (changes_setObj _ _ _ _)).trans (changes_setObj _ _ _ _)).trans (changes_setObj _ _ _ _)

/-- The record of an exception (R288). -/
def State.exceptionLogged (s : State) (n code : Nat) (pc : Word) : State :=
  s.logRec s.now (0x0410 + n) 6 (natLe 1 code ++ zeroBytes 3 ++ natLe 4 pc.toNat)

/-- What an exception leaves of a core without a step and without events: what it shows and logs, and the core stopped. -/
theorem coreException_of_none {s : State} {n : Nat} (hs : (s.core n).step = none) (hh : s.heldSources n = []) (code addr : Nat) :
    s.coreException n code addr =
      ((s.exceptionShown n code addr).exceptionLogged n code (s.core n).pc).setCore n (s.core n).halted := by
  have frame : Changes [.objs, .log] s ((s.exceptionShown n code addr).exceptionLogged n code (s.core n).pc) :=
    (changes_logRec _ _ _ _ _).step rfl ((changes_exceptionShown s n code addr).mono rfl)
  have step := core_congr (frame .cores rfl) n
  have held := (heldSources_congr (frame .sources rfl) n).trans hh
  generalize hu : (s.exceptionShown n code addr).exceptionLogged n code (s.core n).pc = u at *
  have answers : u.routineAnswers n [((s.core n).g.get 0).toInt] 0x0C = u := by rw [State.routineAnswers, step, hs]
  have ends : u.completeHeld n = u := completeHeld_of_none held
  subst hu
  unfold State.coreException
  exact congrArg (fun v : State => v.setCore n (s.core n).halted) ((congrArg (fun v : State => v.completeHeld n) answers).trans ends)

/-- What the object of the core shows after an exception: the code, PC, the address and G0. -/
theorem obj_exceptionShown (s : State) (n code addr : Nat) :
    (s.exceptionShown n code addr).obj (0x2510 + n) 6 = code ∧
    (s.exceptionShown n code addr).obj (0x2510 + n) 7 = (s.core n).pc.toNat ∧
    (s.exceptionShown n code addr).obj (0x2510 + n) 8 = addr ∧
    (s.exceptionShown n code addr).obj (0x2510 + n) 9 = ((s.core n).g.get 0).toNat := by
  have apart : ∀ {i j : Nat}, i ≠ j → objKey (0x2510 + n) i ≠ objKey (0x2510 + n) j := by
    intro i j h
    simp only [objKey]
    omega
  unfold State.exceptionShown
  refine ⟨?_, ?_, ?_, obj_setObj _ _ _ _⟩
  · rw [obj_setObj_other _ _ (apart (by decide)), obj_setObj_other _ _ (apart (by decide)),
      obj_setObj_other _ _ (apart (by decide)), obj_setObj]
  · rw [obj_setObj_other _ _ (apart (by decide)), obj_setObj_other _ _ (apart (by decide)), obj_setObj]
  · rw [obj_setObj_other _ _ (apart (by decide)), obj_setObj]

theorem coreException_excepted {s : State} {n : CoreNo} (hs : (s.core n).step = none) (hh : s.heldSources n = [])
    (code addr : Nat) : s.Excepted (s.coreException n code addr) n code addr := by
  have logged : ∀ j, 6 ≤ j → j ≤ 9 → (((s.exceptionShown n code addr).exceptionLogged n code (s.core n).pc).setCore n
      (s.core n).halted).obj (0x2510 + n) j = (s.exceptionShown n code addr).obj (0x2510 + n) j := by
    intro j _ _
    have bound := n.isLt
    exact (obj_setCore _ _ _ _ _).trans (obj_logRec _ _ _ _ _ (by simp only [objKey]; omega))
  have frame : Changes [.objs, .log] s ((s.exceptionShown n code addr).exceptionLogged n code (s.core n).pc) :=
    (changes_logRec _ _ _ _ _).step rfl ((changes_exceptionShown s n code addr).mono rfl)
  obtain ⟨shows6, shows7, shows8, shows9⟩ := obj_exceptionShown s n code addr
  rw [coreException_of_none hs hh]
  exact {
    core := core_setCore _ _ _
    others := fun m h => (core_setCore_other _ _ h).trans (core_congr (frame .cores rfl) m)
    code := (logged 6 (by decide) (by decide)).trans shows6
    pc := (logged 7 (by decide) (by decide)).trans shows7
    address := (logged 8 (by decide) (by decide)).trans shows8
    g0 := (logged 9 (by decide) (by decide)).trans shows9
    frame := (changes_setCore _ _ _).step rfl (frame.mono rfl) }

end Sys2Proof.Machine
end

section
open Sys2Proof Sys2Proof.Machine

/-- Settles O25: an instruction that a core executes is a jump or goes on; a jump elsewhere writes PC, and one to the end address
stops the core. -/
theorem coreControl : Obligations.CoreControl := by
  unfold Obligations.CoreControl
  refine ⟨⟨?_, ?_, ?_, ?_, ?_⟩, ?_⟩
  · intro s t c cond off h holds apart
    refine (exec_of_core (f := fun s x => if x.holds cond then s.jumpTo c x (x.branchTarget off) else s.setCore c x.next)
      h rfl).trans ?_
    rw [if_pos holds]
    exact congrArg Host.Outcome.next (jumpTo_of_ne apart)
  · intro s t c cond off h fails
    refine (exec_of_core (f := fun s x => if x.holds cond then s.jumpTo c x (x.branchTarget off) else s.setCore c x.next)
      h rfl).trans ?_
    rw [if_neg (ne_true_of_eq_false fails)]
    rfl
  · intro s t c off h apart
    refine (exec_of_core (f := fun s x => s.jumpTo c (x.setReg 15 (x.pc + 4#32)) (x.branchTarget off)) h rfl).trans ?_
    rw [setReg_link]
    exact congrArg Host.Outcome.next (jumpTo_of_ne apart)
  · intro s t c ra h apart
    exact (exec_of_core (f := fun s x => s.jumpTo c x (x.reg ra)) h rfl).trans (congrArg Host.Outcome.next (jumpTo_of_ne apart))
  · intro s t c rd ra h apart
    exact (exec_of_core (f := fun s x => s.jumpTo c (x.setReg rd (x.pc + 4#32)) (x.reg ra)) h rfl).trans
      (congrArg Host.Outcome.next (jumpTo_of_ne apart))
  · intro s t c ra h ends step held
    have runs : ((s.acting t c).core c).runs = true := by simpa using h.1
    have stops := jumpTo_end runs (by simpa using step) ((heldSources_acting s t c c).trans held)
    rw [core_acting] at stops
    refine (exec_of_core (f := fun s x => s.jumpTo c x (x.reg ra)) h rfl).trans ?_
    simp only [ends, stops, Core.stopped, step]
end

section
/-!
SUPPORT. A byte stored into a word of local memory that holds a flipped bit in another of its bytes: the bit stays flipped (R261, log
entry 104), so that the word goes on reading with a flipped bit.
-/

namespace Sys2Proof.Machine

/-- Core 1 of a device in RUN at an STB of G3 to address 16, in whose word a bit of byte 1 is flipped. -/
def State.storesNextToFlip : State :=
  ({ State.reset with
    mode := .run, flips := [(localBase 1 + 16, 0x100#32)], cores := [(1, { stage := .program, sess := 0 })] }).writeBytes
    (localBase 1) (natLe 4 (wordI 0x28 3 0 16#16).toNat)

theorem storesNextToFlip_executes : State.storesNextToFlip.executes 0 (1 : CoreNo) (wordI 0x28 3 0 16#16) :=
  ⟨by decide +kernel, by decide +kernel⟩

end Sys2Proof.Machine

open Sys2Proof Sys2Proof.Machine

/-- Refutes O24: its clause about stores says that no word of the bytes stored holds a flipped bit afterwards; a byte store leaves
the bits of the other three bytes of its word flipped. -/
theorem not_coreMemory : ¬ Obligations.CoreMemory := by
  unfold Obligations.CoreMemory
  rintro ⟨-, stores, -⟩
  obtain ⟨u, runs, -, -, clean, -⟩ := stores State.storesNextToFlip 0 1 3 0 16#16 16 (localBase 1 + 16) (by decide +kernel)
    _ (List.mem_of_getElem? (i := 2) rfl) storesNextToFlip_executes (by decide +kernel) (by decide +kernel)
  have left := exec_of_executes (i := .stb 0 1 3 0 16#16) (f := fun s => s.stores (1 : CoreNo) 3 0 16#16 1)
    storesNextToFlip_executes rfl
  rw [← Host.Outcome.next.inj (left.symm.trans runs)] at clean
  exact absurd clean (by decide +kernel)
end

section
/-!
SUPPORT. The special registers of the step cores and what raises their exceptions (R257, R258, R270, R286, R287).
-/

namespace Sys2Proof.Machine

section
variable {s : State} {n : CoreNo} (rd ra : Reg) (imm : Imm16)

theorem specialRead_acting (s : State) (t : Tk) (n : CoreNo) (i : Nat) : (s.acting t n).specialRead n i = s.specialRead n i := by
  simp only [State.specialRead, core_acting]

/-! ## Loads and stores that raise an exception (R270, R287) -/

theorem loads_misaligned {size : Nat} (ext : Nat → Word) (h : (s.core n).address ra imm % size ≠ 0) :
    s.loads n rd ra imm size ext = s.coreException n 2 ((s.core n).address ra imm) := by
  simp [State.loads, h]

theorem loads_bad {size m w : Nat} (ext : Nat → Word) (aligned : (s.core n).address ra imm % size = 0)
    (address : s.dataAddress n ((s.core n).address ra imm) size = some m) (bad : s.badWord m size = some w) :
    s.loads n rd ra imm size ext = s.coreException n 6 ((s.core n).address ra imm + w - m) := by
  simp [State.loads, State.coreRead, aligned, address, bad]

theorem stores_unreachable {size : Nat} (aligned : (s.core n).address ra imm % size = 0)
    (address : s.dataAddress n ((s.core n).address ra imm) size = none) :
    s.stores n rd ra imm size = s.coreException n 3 ((s.core n).address ra imm) := by
  simp [State.stores, State.coreWrite, aligned, address, Laws.natLe_length]

/-! ## The arms of the forms -/

theorem exec_loadForms (s : State) (t : Tk) :
    ∀ f ∈ loadForms t n rd ra imm, exec f.1 s = s.instruction t n f.2.1 fun s => s.loads n rd ra imm f.2.2.1 f.2.2.2 := by
  simp only [loadForms, List.forall_mem_cons, List.not_mem_nil, false_imp_iff, implies_true, and_true]
  exact ⟨rfl, rfl, rfl, rfl, rfl⟩

theorem exec_storeForms (s : State) (t : Tk) :
    ∀ f ∈ storeForms t n rd ra imm, exec f.1 s = s.instruction t n f.2.1 fun s => s.stores n rd ra imm f.2.2 := by
  simp only [storeForms, List.forall_mem_cons, List.not_mem_nil, false_imp_iff, implies_true, and_true]
  exact ⟨rfl, rfl, rfl⟩

/-- A division by 0 raises its exception. -/
theorem division_raises {t : Tk} {w : Word} {i : Instr} {rb : Reg} {f : Word → Word → Word} (h : s.executes t n w)
    (hi : exec i s = s.instruction t n w fun s => s.divides n rd ra rb f) (hb : (s.core n).reg rb = 0#32) :
    exec i s = .next ((s.acting t n).coreException n 5 0) := by
  rw [exec_of_executes h hi, State.divides, core_acting, if_pos hb]

theorem exec_divisionForms (s : State) (t : Tk) (rb : Reg) (x y : Word) (hb : (s.core n).reg rb = 0#32) :
    ∀ f ∈ divisionForms t n rd ra rb x y, s.executes t n f.2.1 → exec f.1 s = .next ((s.acting t n).coreException n 5 0) := by
  simp only [divisionForms, List.forall_mem_cons, List.not_mem_nil, false_imp_iff, implies_true, and_true]
  exact ⟨fun h => division_raises rd ra h rfl hb, fun h => division_raises rd ra h rfl hb, fun h => division_raises rd ra h rfl hb⟩

end

/-! ## Exceptions of an instruction (R287, R288) -/

/-- An exception that is raised at an instant is one of the state before it. -/
theorem State.Excepted.of_advance {s u : State} {t : Tk} {n code addr : Nat} (h : (s.advance t).Excepted u n code addr) :
    s.Excepted u n code addr :=
  { h with frame := h.frame.step rfl ((changes_advance s t).mono rfl) }

section
variable {s : State} {t : Tk} {n : CoreNo} (step : (s.core n).step = none) (held : s.heldSources n = [])
include step held

theorem excepted_acting (code addr : Nat) :
    (s.acting t n).Excepted ((s.acting t n).coreException n code addr) n code addr :=
  coreException_excepted (by simpa using step) (by simpa using held) code addr

/-- An instruction whose arm raises an exception. -/
theorem raises_excepted {o : Host.Outcome State Fault Refusal} {code addr : Nat}
    (h : o = .next ((s.acting t n).coreException n code addr)) :
    ∃ u, o = .next u ∧ (s.acting t n).Excepted u n code addr :=
  ⟨_, h, excepted_acting step held code addr⟩

end

/-! ## RETI (R286) -/

section
variable {s : State} {n : Nat} (w : Word)

theorem returns_fast (h : (s.core n).flag flagFA = true) :
    s.returns n w = s.setCore n { s.core n with pc := (s.core n).fepc, psr := (s.core n).fepsr } := if_pos h

theorem returns_abandoned (fa : (s.core n).flag flagFA = false) (na : (s.core n).flag flagNA = true)
    (event : (s.core n).fastEvent.isSome = true) (fe : (s.core n).flag flagFE = true) : s.returns n w = s := by
  simp [State.returns, fa, na, event, fe]

theorem returns_normal (fa : (s.core n).flag flagFA = false) (na : (s.core n).flag flagNA = true)
    (ne : (s.core n).epsr.getLsbD flagNE = false) (none_ : (s.core n).fastEvent = none ∨ (s.core n).flag flagFE = false) :
    s.returns n w = s.setCore n { s.core n with pc := (s.core n).epc, psr := (s.core n).epsr } := by
  have waits : ((s.core n).fastEvent.isSome && (s.core n).flag flagFE) = false := by
    rcases none_ with h | h <;> simp [h]
  simp [State.returns, fa, na, ne, waits]

theorem returns_outside (fa : (s.core n).flag flagFA = false) (na : (s.core n).flag flagNA = false) :
    s.returns n w = s.coreException n 1 w.toNat := by
  simp [State.returns, fa, na, State.illegal]

end

/-- RETI, where its core executes it. -/
theorem reti_of_executes {s : State} {t : Tk} {n : CoreNo} (h : s.executes t n (wordR 0x42 0 0 0)) :
    exec (.reti t n) s = .next ((s.acting t n).returns n (wordR 0x42 0 0 0)) :=
  exec_of_executes (f := fun s => s.returns n (wordR 0x42 0 0 0)) h rfl

/-! ## MFS, MTS and TRAP (R257, R258, R287) -/

section
variable {s : State} {t : Tk} {n : CoreNo} {rd ra : Reg} {imm : Imm16}

theorem mfs_listed {v : Word} (h : s.executes t n (wordI 0x40 rd 0 imm)) (reads : (s.acting t n).specialRead n imm.toNat = some v) :
    exec (.mfs t n rd imm) s = .next ((s.acting t n).setCore n (((s.acting t n).core n).setReg rd v).next) := by
  change execMfs t n rd imm s = _
  rw [execMfs, instruction_of_executes h, reads]

theorem mfs_unlisted (h : s.executes t n (wordI 0x40 rd 0 imm)) (reads : (s.acting t n).specialRead n imm.toNat = none) :
    exec (.mfs t n rd imm) s = .next ((s.acting t n).coreException n 1 (wordI 0x40 rd 0 imm).toNat) := by
  change execMfs t n rd imm s = _
  rw [execMfs, instruction_of_executes h, reads]
  rfl

theorem mts_writes {x : Core} (h : s.executes t n (wordI 0x41 0 ra imm))
    (writes : (s.core n).specialWrite imm.toNat ((s.core n).reg ra) = some x) :
    exec (.mts t n imm ra) s = .next ((s.acting t n).setCore n x.next) := by
  change execMts t n imm ra s = _
  rw [execMts, instruction_of_executes h, core_acting, writes]

end

/-! ## Words that are no instruction, and fetch faults (R267, R272) -/

theorem meetsIllegal_of {s : State} {n : Nat} {w : Word} (runs : (s.core n).runs = true)
    (word : s.fetch n (s.core n).pc = some w) (bad : legalWord w = false) :
    s.meetsIllegal n = (s.fetched n).coreException n 1 w.toNat := by
  simp [State.meetsIllegal, runs, word, bad, State.illegal]

theorem meetsFetchFault_of {s : State} {n : Nat} (runs : (s.core n).runs = true) (word : s.fetch n (s.core n).pc = none) :
    s.meetsFetchFault n = s.coreException n (if (s.core n).pc.toNat % 4 = 0 ∧ (s.core n).pc.toNat + 4 ≤ 0x100000 then 6 else 4)
      (s.core n).pc.toNat := by
  simp [State.meetsFetchFault, runs, word, State.fetchException]

end Sys2Proof.Machine

open Sys2Proof Sys2Proof.Machine

/-- Settles O26: an instruction that its core executes acts as its arm says, and an exception of a core without a step and without
events leaves what `coreException_excepted` says. -/
theorem coreSystemAndExceptions : Obligations.CoreSystemAndExceptions := by
  unfold Obligations.CoreSystemAndExceptions
  refine ⟨⟨?_, ?_, ?_, ?_, ?_, ?_⟩, ?_⟩
  · intro s t c rd imm v h reads
    exact ⟨_, mfs_listed h reads, coreGoes _ _ (some (rd, v)) none⟩
  · exact fun s t c ra h => mts_writes h rfl
  · exact fun s t c ra h => mts_writes h rfl
  · intro s t c h fa
    rw [reti_of_executes h, returns_fast _ (by simpa using fa), core_acting]
  · intro s t c h fa na event fe
    rw [reti_of_executes h, returns_abandoned _ (by simpa using fa) (by simpa using na) (by simpa using event) (by simpa using fe)]
  · intro s t c h fa na ne none_
    rw [reti_of_executes h, returns_normal _ (by simpa using fa) (by simpa using na) (by simpa using ne) (by simpa using none_),
      core_acting]
  · intro s t c step held
    refine ⟨?_, ?_, ?_, ?_, ?_, ?_, ?_⟩
    · intro w runs word bad
      exact raises_excepted step held (congrArg Host.Outcome.next (meetsIllegal_of (s := s.advance t) runs word bad))
    · intro rd imm h reads
      exact raises_excepted step held (mfs_unlisted h reads)
    · intro h fa na
      refine raises_excepted step held ?_
      rw [reti_of_executes h, returns_outside _ (by simpa using fa) (by simpa using na)]
    · rintro rd ra imm a rfl
      have same : ((s.acting t c).core c).address ra imm = ((s.core c).reg ra + imm.signExtend 32).toNat := by
        rw [core_acting]
        rfl
      rw [← same]
      refine ⟨fun f hf h odd => ?_, fun f hf m w h aligned address bad => ?_, fun f hf h aligned address => ?_⟩
      · exact raises_excepted step held ((exec_of_executes h (exec_loadForms rd ra imm s t f hf)).trans
          (congrArg Host.Outcome.next (loads_misaligned rd ra imm _ odd)))
      · exact raises_excepted step held ((exec_of_executes h (exec_loadForms rd ra imm s t f hf)).trans
          (congrArg Host.Outcome.next (loads_bad rd ra imm _ aligned address bad)))
      · exact raises_excepted step held ((exec_of_executes h (exec_storeForms rd ra imm s t f hf)).trans
          (congrArg Host.Outcome.next (stores_unreachable rd ra imm aligned address)))
    · intro runs word
      exact ⟨_, congrArg Host.Outcome.next (meetsFetchFault_of (s := s.advance t) runs word),
        .of_advance (coreException_excepted (s := s.advance t) step held _ _)⟩
    · exact fun rd ra rb hb f hf h => raises_excepted step held (exec_divisionForms rd ra s t rb _ _ hb f hf h)
    · exact fun imm h => raises_excepted step held (exec_of_executes (f := fun s => s.coreException c 7 imm.toNat) h rfl)
end

section
/-!
SUPPORT. The device instructions of the step cores that read and write objects (R274 to R277), and how each of them goes on.
-/

namespace Sys2Proof.Machine

/-- A core that its own instruction left alone goes on. -/
theorem goesOn_of_core {s u : State} {n : Nat} (f : Core → Core) (h : u.core n = s.core n) :
    s.goesOn u n f = u.setCore n (f (s.core n)) := by
  simp [State.goesOn, h]

section
variable {s : State} {n : CoreNo} {w v : Word}

theorem coreOdr_of_ok {k : Core} (rd : Reg) (h : s.coreReads n w = .ok (k, v)) :
    s.coreOdr n rd w = s.setCore n (k.setReg rd v).done := by
  simp only [State.coreOdr, h]
  rfl

/-- An operand word of an index without an object names none (R275). -/
theorem operandCard_of_none (ok : operandOk w = true) (h : cardsOf (operandIndex w) = none) :
    operandCard w = .error { code := 0x06020000, after := none } := by
  simp [operandCard, ok, h]
  rfl

theorem coreOdr_of_refused {r : Refused} (rd : Reg) (h : operandCard w = .error r) :
    s.coreOdr n rd w = s.setCore n ((s.core n).denied r.code) := by
  simp only [State.coreOdr, State.coreReads, h]
  rfl

theorem coreOdw_high {k : Card} (h : operandCard w = .ok k) (part : operandPart w = 1) :
    s.coreOdw n v w = s.setCore n { (s.core n).done with staging := v } := by
  simp only [State.coreOdw, h, part, if_true]
  rfl

section
variable {k : Card} (h : operandCard w = .ok k) (part : operandPart w = 0) (size : k.ty.size ≠ 8)
include h part size

theorem coreOdw_of_ok {u : State} (puts : s.corePuts n k (operandIndex w) (operandSub w) v = .ok u)
    (core : u.core n = s.core n) : s.coreOdw n v w = u.setCore n (s.core n).done := by
  simp only [State.coreOdw, h, part, puts, size, if_false, Nat.zero_ne_one]
  exact goesOn_of_core _ core

theorem coreOdw_of_refused {code : Nat}
    (puts : s.corePuts n k (operandIndex w) (operandSub w) v = .error { code := code, after := none }) :
    s.coreOdw n v w = s.setCore n ((s.core n).denied code) := by
  simp only [State.coreOdw, h, part, puts, size, if_false, Nat.zero_ne_one, Option.getD_none]
  exact goesOn_of_core _ rfl

end
end

section
variable {s : State} {t : Tk} {n : CoreNo}

theorem odr_of_executes {rd ra : Reg} {imm : Imm16} (h : s.executes t n (wordI 0x50 rd ra imm)) :
    exec (.odr t n rd ra imm) s = .next ((s.acting t n).coreOdr n rd ((s.core n).reg ra + imm.zeroExtend 32)) :=
  exec_of_core (f := fun s x => s.coreOdr n rd (x.reg ra + zext imm)) h rfl

theorem odw_of_executes {ra rb : Reg} (h : s.executes t n (wordR 0x51 0 ra rb)) :
    exec (.odw t n ra rb) s = .next ((s.acting t n).coreOdw n ((s.core n).reg ra) ((s.core n).reg rb)) :=
  exec_of_core (f := fun s x => s.coreOdw n (x.reg ra) (x.reg rb)) h rfl

end

end Sys2Proof.Machine

open Sys2Proof Sys2Proof.Machine

/-- Settles O27: the instruction acts on the operand word, and how it ends follows from what the read or the write gives. -/
theorem coreReadsAndWritesObjects : Obligations.CoreReadsAndWritesObjects := by
  unfold Obligations.CoreReadsAndWritesObjects
  refine ⟨?_, ?_, ?_, ?_, ?_⟩
  · intro s t c rd ra imm w k v h hw reads
    rw [odr_of_executes h, hw, coreOdr_of_ok rd reads]
  · intro s t c rd ra imm w h hw ok none_
    rw [odr_of_executes h, hw, coreOdr_of_refused rd (operandCard_of_none ok none_), core_acting]
  · intro s t c ra rb k h card part
    rw [odw_of_executes h, coreOdw_high card part, core_acting]
  · intro s t c ra rb k u h card part size puts core
    rw [odw_of_executes h, coreOdw_of_ok card part size puts (by rw [core, core_acting]), core_acting]
  · intro s t c ra rb k code h card part size puts
    rw [odw_of_executes h, coreOdw_of_refused card part size puts, core_acting]
end

section
/-!
SUPPORT. The queue instructions of the step cores (R278, R279): the record in local memory, and the queue.
-/

namespace Sys2Proof.Machine

/-! ## The record (R261, R278) -/

section
variable {s : State} {n : CoreNo} {a : Nat} (aligned : a % 32 = 0) (inside : a + 32 ≤ 0x100000)

theorem record_below (n : CoreNo) (inside : a + 32 ≤ 0x100000) : localBase n + a < waveBase := by
  have := n.isLt
  simp only [localBase, waveBase]
  omega

theorem record_belowZones (n : CoreNo) (inside : a + 32 ≤ 0x100000) : localBase n + a < zoneBase 0 := by
  have := record_below n inside
  simp only [waveBase, zoneBase] at *
  omega

theorem recordException_misaligned {a : Nat} (h : a % 32 ≠ 0) : recordException a = some (2, a) := if_pos h

include aligned inside

theorem recordException_none : recordException a = none := by
  simp [recordException, aligned, inside]

theorem putException_eq : s.putException n a = (s.badWord (localBase n + a) 32).map fun w => (6, w - localBase n) := by
  rw [State.putException, recordException_none aligned inside]

omit aligned in
/-- A record without an uncorrectable word is read as it was written. -/
theorem eccBytes_record (good : s.badWord (localBase n + a) 32 = none) :
    s.eccBytes (localBase n + a) 32 = s.readBytes (localBase n + a) 32 := by
  rw [State.badWord, if_pos (record_below n inside)] at good
  simp [State.eccBytes, good]

omit aligned in
theorem changes_readRecord (s : State) (n : CoreNo) : Changes [.objs, .flips] s (s.afterRead (localBase n + a) 32) :=
  changes_afterRead_of_low s 32 (record_belowZones n inside)

end

theorem readBytes_acting (s : State) (t : Tk) (n : CoreNo) (a k : Nat) : (s.acting t n).readBytes a k = s.readBytes a k := by
  simp only [State.readBytes, readByte_acting]

/-! ## QPUT (R278) -/

/-- The entry that a record of a core offers (R278). -/
def State.recordEntry (s : State) (n : CoreNo) (a : Nat) (now : Tk) : NewEntry :=
  { stamp := now, tag := 0x0410 + n.val, kind := leNat (sliceBytes (s.readBytes (localBase n + a) 32) 10 1),
    flags := leNat (sliceBytes (s.readBytes (localBase n + a) 32) 11 1), payload := (s.readBytes (localBase n + a) 32).drop 16 }

theorem recordEntry_acting (s : State) (t : Tk) (n : CoreNo) (a : Nat) (now : Tk) :
    (s.acting t n).recordEntry n a now = s.recordEntry n a now := by
  simp only [State.recordEntry, readBytes_acting]

section
variable {s : State} {n : CoreNo} {q addr : Word}

theorem corePutsEntry_excepted {x y : Nat} (h : s.putException n addr.toNat = some (x, y)) :
    s.corePutsEntry n q addr = s.coreException n x y := by
  simp only [State.corePutsEntry, h]

theorem corePutsEntry_offers {u : State} {code : Nat} (aligned : addr.toNat % 32 = 0) (inside : addr.toNat + 32 ≤ 0x100000)
    (good : s.badWord (localBase n + addr.toNat) 32 = none)
    (offers : (s.afterRead (localBase n + addr.toNat) 32).userEntry (s.core n).sess q.toNat (s.recordEntry n addr.toNat s.now) =
      (u, code))
    (core : u.core n = s.core n) :
    s.corePutsEntry n q addr = u.setCore n (if code = 0 then (s.core n).done else (s.core n).denied code) := by
  have frame := changes_readRecord inside s n
  have same := core_congr (frame .cores rfl) n
  have now : (s.afterRead (localBase n + addr.toNat) 32).now = s.now := frame .now rfl
  rw [State.recordEntry] at offers
  have none_ : s.putException n addr.toNat = none := by rw [putException_eq aligned inside, good]; rfl
  rw [State.corePutsEntry]
  simp only [none_, eccBytes_record inside good, now, same, offers]
  rw [goesOn_of_core _ (core.trans same.symm), same]
  rfl

/-- An entry for a queue that does not exist is refused (R278). -/
theorem userEntry_of_none {who k : Nat} (e : NewEntry) (h : s.queue k = none) : s.userEntry who k e = (s, 0x06090030) := by
  simp [State.userEntry, State.userEntryAbort, h]

end

/-! ## QGET (R279) -/

theorem getAbort_congr {s u : State} {l : List Part} (frame : Changes l s u)
    (h : l.contains .queues = false ∧ l.contains .claims = false ∧ l.contains .sessions = false ∧ l.contains .streams = false)
    (who q : Nat) : u.getAbort who q = s.getAbort who q := by
  obtain ⟨queues, claims, sessions, streams⟩ := h
  have same : u.streams = s.streams := frame .streams streams
  simp only [State.getAbort, queue_congr (frame .queues queues), holder_congr (frame .claims claims) (frame .sessions sessions),
    State.streamsOn, same]

/-- A computation that gives a value went on. -/
theorem ok_of_bind {ε α β : Type} {x : Except ε α} {f : α → Except ε β} {b : β} (h : (x >>= f) = .ok b) :
    ∃ a, x = .ok a ∧ f a = .ok b := by
  cases x with
  | error e => cases h
  | ok a => exact ⟨a, rfl, h⟩

/-- A queue that QGET reads exists. -/
theorem queue_of_getAbort {s : State} {who k : Nat} {q : Queue} (h : s.getAbort who k = .ok q) : s.queue k = some q := by
  unfold State.getAbort at h
  split at h
  · cases h
  · next qu found =>
    obtain ⟨_, -, h⟩ := ok_of_bind h
    obtain ⟨_, -, h⟩ := ok_of_bind h
    obtain ⟨_, -, h⟩ := ok_of_bind h
    cases h
    exact found

/-- The oldest entry of a queue that no session owns for its events is read. -/
theorem readEntries_of_some {s : State} {k n : Nat} {q : Queue} (h : s.queue k = some q) (plain : isEventQueue k = false) :
    s.readEntries k n = s.setQueue k (some { Queue.take n q with read := addWrap 32 q.read n }) := by
  simp [State.readEntries, h, plain]

section
variable {s : State} {n : CoreNo} {q addr : Word}

theorem coreGetsEntry_excepted {x y : Nat} (h : recordException addr.toNat = some (x, y)) :
    s.coreGetsEntry n q addr = s.coreException n x y := by
  simp only [State.coreGetsEntry, h]

section
variable {k : Queue} (aligned : addr.toNat % 32 = 0) (inside : addr.toNat + 32 ≤ 0x100000)
  (get : s.getAbort (s.core n).sess q.toNat = .ok k)
include aligned inside get

theorem coreGetsEntry_empty (empty : k.entries = []) :
    s.coreGetsEntry n q addr = s.setCore n ((s.core n).setFlag flagZ true).done := by
  simp only [State.coreGetsEntry, recordException_none aligned inside, get, empty]
  rfl

theorem coreGetsEntry_oldest {e : Entry} {r : List Entry} (oldest : k.entries = e :: r) (plain : isEventQueue q.toNat = false) :
    s.coreGetsEntry n q addr = ((s.eccWrite (localBase n + addr.toNat) e.bytes).setQueue q.toNat
      (some { Queue.take 1 k with read := addWrap 32 k.read 1 })).setCore n ((s.core n).setFlag flagZ false).done := by
  have found : (s.eccWrite (localBase n + addr.toNat) e.bytes).queue q.toNat = some k := queue_of_getAbort get
  simp only [State.coreGetsEntry, recordException_none aligned inside, get, oldest, readEntries_of_some found plain]
  exact goesOn_of_core _ rfl

end
end

section
variable {s : State} {t : Tk} {n : CoreNo} {ra rb : Reg}

theorem qput_of_executes (h : s.executes t n (wordR 0x52 0 ra rb)) :
    exec (.qput t n ra rb) s = .next ((s.acting t n).corePutsEntry n ((s.core n).reg ra) ((s.core n).reg rb)) :=
  exec_of_core (f := fun s x => s.corePutsEntry n (x.reg ra) (x.reg rb)) h rfl

theorem qget_of_executes (h : s.executes t n (wordR 0x53 0 ra rb)) :
    exec (.qget t n ra rb) s = .next ((s.acting t n).coreGetsEntry n ((s.core n).reg ra) ((s.core n).reg rb)) :=
  exec_of_core (f := fun s x => s.coreGetsEntry n (x.reg ra) (x.reg rb)) h rfl

/-- A fetch spares what QGET asks of a queue. -/
theorem getAbort_acting (s : State) (t : Tk) (n : CoreNo) (who k : Nat) : (s.acting t n).getAbort who k = s.getAbort who k :=
  getAbort_congr (changes_acting s t n) ⟨rfl, rfl, rfl, rfl⟩ who k

end

theorem changes_eccWrite (s : State) (a : Nat) (bs : Bytes) : Changes [.mem, .flips] s (s.eccWrite a bs) :=
  (changes_iff _ _ _).mpr rfl

end Sys2Proof.Machine

open Sys2Proof Sys2Proof.Machine

/-- Settles O28: a record that can be read is offered to the queue, or takes its oldest entry; otherwise the core raises its
exception. -/
theorem coreQueues : Obligations.CoreQueues := by
  unfold Obligations.CoreQueues
  refine ⟨?_, ?_, ?_, ?_, ?_, ?_⟩
  · rintro s t c ra rb a h rfl aligned inside good absent
    have frame := changes_readRecord inside (s.acting t c) c
    have none_ : ((s.acting t c).afterRead (localBase c + ((s.core c).reg rb).toNat) 32).queue ((s.core c).reg ra).toNat = none := by
      rw [queue_congr (frame .queues rfl), queue_acting, absent]
    rw [qput_of_executes h, corePutsEntry_offers aligned inside good (userEntry_of_none _ none_) (core_congr (frame .cores rfl) c),
      core_acting]
    rfl
  · rintro s t c ra rb a u code h rfl aligned inside good offers core
    rw [qput_of_executes h, corePutsEntry_offers (u := u) (code := code) aligned inside good
      (by rw [core_acting, recordEntry_acting, acting_now]; exact offers) (core.trans (core_acting s t c c).symm), core_acting]
  · rintro s t c ra rb a w h rfl aligned inside bad step held
    refine raises_excepted step held ?_
    rw [qput_of_executes h, corePutsEntry_excepted (by rw [putException_eq aligned inside, bad]; rfl)]
  · rintro s t c ra rb a q h rfl aligned inside get empty
    rw [qget_of_executes h, coreGetsEntry_empty aligned inside (by rw [core_acting, getAbort_acting]; exact get) empty, core_acting]
  · rintro s t c ra rb a q e r h rfl aligned inside get oldest plain
    have gets := coreGetsEntry_oldest (s := s.acting t c) (n := c) aligned inside
      (by rw [core_acting, getAbort_acting]; exact get) oldest plain
    refine ⟨_, (qget_of_executes h).trans (congrArg _ gets), ?_, ?_, ?_, ?_⟩
    · rw [core_setCore, core_acting]
    · exact congrArg (memWrite · _ _) (acting_mem s t c)
    · rw [queue_setCore, queue_setQueue]
      rfl
    · exact (changes_setCore _ _ _).step rfl ((changes_setQueue _ _ _).step rfl ((changes_eccWrite _ _ _).mono rfl))
  · intro s t c ra rb h odd step held
    refine raises_excepted step held ?_
    rw [qget_of_executes h, coreGetsEntry_excepted (recordException_misaligned odd)]
end

section
/-!
SUPPORT. Waits, completions, the budget and time of the step cores (R280 to R283).
-/

namespace Sys2Proof.Machine

/-! ## WAITE (R280) -/

/-- A step core in WAITE. -/
def State.waits (s : State) (n : Nat) (rd : Reg) (timeout : Word) : Core :=
  { s.core n with
    pc := (s.core n).pc + 4#32, stage := .waiting
    wait := some ((s.core n).stage, rd, if timeout = 0#32 then none else some (s.now + timeout.toNat * 4000)) }

section
variable {s : State} {n : Nat} {rd : Reg} {timeout : Word}

theorem coreWaits_of_none (fast : (s.core n).fastEvent = none) (normal : (s.core n).normalEvent = none) :
    s.coreWaits n rd timeout = (s.setCore n (s.waits n rd timeout)).settleSources := by
  simp only [State.coreWaits, fast, normal]
  rfl

/-- A core in WAITE receives a fast delivery that it takes: it wakes, and the entry into its handler is due. -/
theorem receive_fast {c : Core} {x : Nat} {back : CoreStage} {d : Option Tk} (takes : c.takes true = true)
    (wait : c.wait = some (back, rd, d)) :
    c.receive x true = { (c.setReg rd (BitVec.ofNat 32 x)).setFlag flagZ false with wait := none, stage := back, fastEvent := some x } := by
  simp only [Core.receive, takes, wait]
  rfl

/-- A committed fast delivery that the core takes ends WAITE at once, and stays committed. -/
theorem coreWaits_of_fast {x : Nat} (fast : (s.core n).fastEvent = some x) (fe : (s.core n).flag flagFE = true)
    (fa : (s.core n).flag flagFA = false) :
    s.coreWaits n rd timeout = s.setCore n { ((s.core n).setReg rd (BitVec.ofNat 32 x)).setFlag flagZ false with
      pc := (s.core n).pc + 4#32, wait := none, fastEvent := some x } := by
  have fe' : Core.flag { s.waits n rd timeout with fastEvent := none } flagFE = true := fe
  have fa' : Core.flag { s.waits n rd timeout with fastEvent := none } flagFA = false := fa
  have wakes := receive_fast (c := { s.waits n rd timeout with fastEvent := none }) (x := x) (by simp [Core.takes, fe', fa']) rfl
  have same : { ((Core.setReg { s.waits n rd timeout with fastEvent := none } rd (BitVec.ofNat 32 x)).setFlag flagZ false) with
      wait := none, stage := (s.core n).stage, fastEvent := some x } =
      { ((s.core n).setReg rd (BitVec.ofNat 32 x)).setFlag flagZ false with
        pc := (s.core n).pc + 4#32, wait := none, fastEvent := some x } := by
    simp only [Core.setReg, fa', fa, Bool.false_and]
    rfl
  simp only [State.coreWaits, fast]
  exact congrArg (s.setCore n) (wakes.trans same)

theorem settleSources_of_nil (h : s.sources = []) : s.settleSources = s := by
  simp only [State.settleSources, h, List.map_nil, List.foldl_nil]

/-- A wait whose deadline has come ends; before that it goes on. -/
theorem waitEnds_of_deadline {back : CoreStage} {d : Tk} (stage : (s.core n).stage = .waiting)
    (wait : (s.core n).wait = some (back, rd, some d)) :
    s.waitEnds n = if d ≤ s.now then s.setCore n
      { ((s.core n).setReg rd 0xFFFFFFFF#32).setFlag flagZ true with wait := none, stage := back } else s := by
  simp [State.waitEnds, stage, wait]

end

/-! ## ECMP (R281, R310, R311, R318) -/

section
variable {s : State} {n : CoreNo}

/-- A source in service whose books are empty and whose level is 0 becomes idle. -/
theorem completeSource_of_idle {n : Nat} (pending : (s.source n).pending = 0) (level : (s.source n).level = false) :
    s.completeSource n =
      s.setSource n { s.source n with stage := .idle, holder := none, risen := max (s.source n).risen s.now } := by
  generalize idle : { s.source n with stage := .idle, holder := none, risen := max (s.source n).risen s.now } = x
  have stage : x.stage = .idle := by rw [← idle]
  have books : x.pending = 0 := by rw [← idle]; exact pending
  have low : x.level = false := by rw [← idle]; exact level
  have same : { x with stage := .idle, pending := 0 } = x := by rw [← stage, ← books]
  have settles : (s.setSource n x).settleSource n false = s.setSource n x := by
    have twice : (s.setSource n x).setSource n x = s.setSource n x :=
      congrArg (fun sources => { s with sources := sources }) (Table.set_set _ _ _ id)
    simp [State.settleSource, stage, books, same, twice]
  simp only [State.completeSource, idle, settles]
  simp [State.levelArrival, low]

theorem coreCompletes_of_small {ra : Reg} {v : Nat} (hv : ((s.core n).reg ra).toNat = v) (small : v < 512) :
    s.coreCompletes n ra = (s.writeCompletion n v).setCore n ((s.writeCompletion n v).core n).next := by
  simp only [State.coreCompletes, hv, show ¬ 511 < v by omega, if_false]

theorem coreCompletes_of_large {ra : Reg} (large : 512 ≤ ((s.core n).reg ra).toNat) :
    s.coreCompletes n ra = s.coreException n 1 (wordR 0x55 0 ra 0).toNat := 
  if_pos (show 511 < ((s.core n).reg ra).toNat by omega)

theorem writeCompletion_of_held {v : Nat} (stage : (s.source v).stage = .service) (holder : (s.source v).holder = some n.val) :
    s.writeCompletion n v = s.completeSource v := by
  simp [State.writeCompletion, stage, holder]

/-- A completion by a target that does not hold the source is counted, with its value. -/
theorem writeCompletion_of_stray {v : Nat} (stray : (s.source v).stage ≠ .service ∨ (s.source v).holder ≠ some n.val) :
    s.writeCompletion n v = (s.countUp 0x2400 3).setObj 0x2400 4 (v + n.val * 65536 : Nat) := by
  have off : ((s.source v).stage == .service && (s.source v).holder == some n.val) = false := by
    rcases stray with h | h <;> simp [h]
  simp [State.writeCompletion, off]

end

/-! ## BREQ (R239, R282) -/

theorem clampWord_of_mem {v : Int} (low : -2 ^ 31 ≤ v) (high : v < 2 ^ 31) : clampWord v = BitVec.ofInt 32 v := by
  rw [clampWord, min_eq_right (by omega), max_eq_right low]

section
variable {s : State} {n : CoreNo} {rd : Reg} {amount : Nat}

theorem coreReserves_of_none (h : (s.core n).step = none) :
    s.coreReserves n rd amount = s.setCore n ((s.core n).denied 0x0F010A03) := by
  simp only [State.coreReserves, h]
  rfl

theorem coreReserves_of_some {k : Nat} (h : (s.core n).step = some k) (some_ : 0 < amount) (holds : (amount : Int) ≤ s.gov.bucket) :
    s.coreReserves n rd amount =
      (State.setStep { s with gov := { s.gov with bucket := s.gov.bucket - amount, reserved := s.gov.reserved + amount } } k
        { s.step k with extra := (s.step k).extra + amount }).setCore n
        (((s.core n).setReg rd (clampWord (s.gov.bucket - amount))).setFlag flagZ false).done := by
  simp only [State.coreReserves, h, State.reserve, some_.ne', if_false, holds, if_true]
  rfl

theorem coreReserves_of_less {k : Nat} (h : (s.core n).step = some k) (some_ : 0 < amount) (lacks : s.gov.bucket < (amount : Int)) :
    s.coreReserves n rd amount =
      s.setCore n (((s.core n).setReg rd (clampWord s.gov.bucket)).setFlag flagZ true).done := by
  simp only [State.coreReserves, h, State.reserve, some_.ne', if_false, not_le.mpr lacks]
  rfl

end

/-! ## TSR (R283) -/

section
variable (s : State) (n : CoreNo) (rd : Reg)

theorem coreTime_low : s.coreTime n rd 0 = s.setCore n { (s.core n).setReg rd (BitVec.ofNat 32 s.now) with
    pc := ((s.core n).setReg rd (BitVec.ofNat 32 s.now)).pc + 4#32, tsr := some (BitVec.ofNat 32 (s.now / 2 ^ 32)) } := rfl

theorem coreTime_high {v : Word} (h : (s.core n).tsr = some v) :
    s.coreTime n rd 1 = s.setCore n ((s.core n).setReg rd v).next := by
  change s.setCore n ((s.core n).setReg rd ((s.core n).tsr.getD (highWord s.now))).next = _
  rw [h]
  rfl

theorem pc_setReg (c : Core) (v : Word) : (c.setReg rd v).pc = c.pc := by
  unfold Core.setReg
  split <;> rfl

end

/-! ## The arms -/

section
variable {s : State} {t : Tk} {n : CoreNo} {rd ra : Reg}

theorem waite_of_executes (h : s.executes t n (wordR 0x54 rd ra 0)) :
    exec (.waite t n rd ra) s = .next ((s.acting t n).coreWaits n rd ((s.core n).reg ra)) :=
  exec_of_core (f := fun s x => s.coreWaits n rd (x.reg ra)) h rfl

theorem ecmp_of_executes (h : s.executes t n (wordR 0x55 0 ra 0)) :
    exec (.ecmp t n ra) s = .next ((s.acting t n).coreCompletes n ra) :=
  exec_of_executes (f := fun s => s.coreCompletes n ra) h rfl

theorem breq_of_executes (h : s.executes t n (wordR 0x56 rd ra 0)) :
    exec (.breq t n rd ra) s = .next ((s.acting t n).coreReserves n rd ((s.core n).reg ra).toNat) :=
  exec_of_core (f := fun s x => s.coreReserves n rd (x.reg ra).toNat) h rfl

theorem tsr_of_executes {imm : Imm16} (h : s.executes t n (wordI 0x57 rd 0 imm)) :
    exec (.tsr t n rd imm) s = .next ((s.acting t n).coreTime n rd imm) :=
  exec_of_executes (f := fun s => s.coreTime n rd imm) h rfl

theorem waits_acting (timeout : Word) : (s.acting t n).waits n rd timeout = { s.core n with
    pc := (s.core n).pc + 4#32, stage := .waiting
    wait := some ((s.core n).stage, rd, if timeout = 0#32 then none else some (max s.now t + timeout.toNat * 4000)) } := by
  simp only [State.waits, core_acting, acting_now]

end

end Sys2Proof.Machine

open Sys2Proof Sys2Proof.Machine

/-- Settles O29: each instruction acts on its core and its operands, and the cases of the statement are those of its effect. -/
theorem coreWaitsAndBudget : Obligations.CoreWaitsAndBudget := by
  unfold Obligations.CoreWaitsAndBudget
  refine ⟨⟨?_, ?_, ?_, ?_, ?_, ?_, ?_, ?_⟩, ?_, ?_, ?_, ?_, ?_⟩
  · intro s t c rd ra h fast normal
    rw [waite_of_executes h, coreWaits_of_none (by simpa using fast) (by simpa using normal), waits_acting]
  · intro s t c rd ra x h fast fe fa
    rw [waite_of_executes h, coreWaits_of_fast (by simpa using fast) (by simpa using fe) (by simpa using fa), core_acting]
  · intro s t c rd ra h none_ fast normal
    rw [waite_of_executes h, coreWaits_of_none (by simpa using fast) (by simpa using normal), waits_acting]
    exact congrArg _ (settleSources_of_nil ((acting_sources s t c).trans none_))
  · intro s t c back rd d stage wait
    exact congrArg Host.Outcome.next (waitEnds_of_deadline (s := s.advance t) stage wait)
  · intro s t c ra v h hv small stage holder
    rw [ecmp_of_executes h, coreCompletes_of_small (by simpa using hv) small,
      writeCompletion_of_held (by simpa using stage) (by simpa using holder)]
  · intro s t c ra v h hv small stage holder pending level
    rw [ecmp_of_executes h, coreCompletes_of_small (by simpa using hv) small,
      writeCompletion_of_held (by simpa using stage) (by simpa using holder),
      completeSource_of_idle (by simpa using pending) (by simpa using level), core_setSource, core_acting, source_acting, acting_now]
    rfl
  · intro s t c ra v h hv small stray
    rw [ecmp_of_executes h, coreCompletes_of_small (by simpa using hv) small, writeCompletion_of_stray (by simpa using stray)]
    simp
    rfl
  · intro s t c ra h large step held
    refine raises_excepted step held ?_
    rw [ecmp_of_executes h, coreCompletes_of_large (by simpa using large)]
  · intro s t c rd ra h step
    rw [breq_of_executes h, coreReserves_of_none (by simpa using step), core_acting]
  · rintro s t c rd ra k n h step rfl some_ holds high
    refine ⟨_, (breq_of_executes h).trans (congrArg _ (coreReserves_of_some (by simpa using step) some_ (by simpa using holds))),
      ?_, ?_, ?_, ?_⟩
    · simp
    · simp
    · rw [core_setCore, core_acting, acting_gov, clampWord_of_mem (by omega) high]
    · exact (changes_setCore _ _ _).step rfl ((changes_iff _ _ _).mpr rfl)
  · rintro s t c rd ra k n h step rfl some_ lacks low high
    rw [breq_of_executes h, coreReserves_of_less (by simpa using step) some_ (by simpa using lacks), core_acting, acting_gov,
      clampWord_of_mem (by omega) high]
  · intro s t c rd h
    rw [tsr_of_executes h, coreTime_low, core_acting, acting_now, pc_setReg]
  · intro s t c rd v h tsr
    rw [tsr_of_executes h, coreTime_high _ c rd (by simpa using tsr), core_acting, Core.next, pc_setReg]
end

section
/-!
SUPPORT. Entries into handlers, the core object and the supervision of the scrubber (R284, R285, R290, R292, R295, R297, R434).
-/

namespace Sys2Proof.Machine

/-! ## Entries into handlers (R284, R285) -/

section
variable {s : State} {n x : Nat}

theorem entersNormal_of_enabled (event : (s.core n).normalEvent = some x) (runs : (s.core n).runs = true)
    (ne : (s.core n).flag flagNE = true) (na : (s.core n).flag flagNA = false) (fa : (s.core n).flag flagFA = false) :
    s.entersNormal n = s.setCore n ((s.core n).normalEntry x) := by
  simp [State.entersNormal, event, runs, ne, na, fa]

theorem entersFast_of_enabled (event : (s.core n).fastEvent = some x) (runs : (s.core n).runs = true)
    (fe : (s.core n).flag flagFE = true) (fa : (s.core n).flag flagFA = false) :
    s.entersFast n = s.setCore n ((s.core n).fastEntry x) := by
  simp [State.entersFast, event, runs, fe, fa]

/-- No handler is entered inside a fast handler. -/
theorem enters_of_fast (fa : (s.core n).flag flagFA = true) : s.entersNormal n = s ∧ s.entersFast n = s := by
  constructor
  · cases event : (s.core n).normalEvent <;> simp [State.entersNormal, event, fa]
  · cases event : (s.core n).fastEvent <;> simp [State.entersFast, event, fa]

end

/-! ## The core object (R261, R290, R292, R294, R297) -/

section
variable {s : State} {n : Nat} {sess : Nat}

theorem routine_of_stopped {c : Core} (h : c.stage = .stopped) : c.routine = false := by
  simp [Core.routine, h]

theorem routine_of_program {c : Core} (h : c.stage = .program) : c.routine = false := by
  simp [Core.routine, h]

theorem resetCore_of_none (h : s.heldSources n = []) : s.resetCore n = s.setCore n { lastSess := (s.core n).lastSess } := by
  simp only [State.resetCore, completeHeld_of_none h]

theorem coreCommand_start (hn : n ≠ 0) (stage : (s.core n).stage = .stopped) :
    s.coreWriteObject sess n 2 1 =
      .ok (s.startCore n .program sess none (s.objN (0x2510 + n) 4) 0 (s.objN (0x2510 + n) 3)) := by
  simp [State.coreWriteObject, State.coreCommand, hn, routine_of_stopped stage, stage]

theorem coreCommand_stop (hn : n ≠ 0) (stage : (s.core n).stage = .program) :
    s.coreWriteObject sess n 2 2 = .ok (s.stopCore n) := by
  simp [State.coreWriteObject, State.coreCommand, hn, routine_of_program stage, stage]
  rfl

theorem coreCommand_reset (hn : n ≠ 0) (routine : (s.core n).routine = false) :
    s.coreWriteObject sess n 2 3 = .ok (s.resetCore n) := by
  simp [State.coreWriteObject, State.coreCommand, hn, routine]

/-- The supervisor takes no start. -/
theorem coreCommand_supervisor : s.coreWriteObject sess 0 2 1 = refuse 0x0F010A01 := rfl

theorem localMemoryStore_of_stopped {bytes : Bytes} (hn : n ≠ 0) (stage : (s.core n).stage = .stopped) :
    s.localMemoryStore n bytes = .ok (s.eccWrite (localBase n) bytes) := by
  simp [State.localMemoryStore, hn, stage]

/-- A core starts in memory that the same session has left. -/
theorem startCore_of_same {stage : CoreStage} {step : Option Nat} {arg test pc : Nat} (h : (s.core n).lastSess = sess) :
    s.startCore n stage sess step arg test pc = s.setCore n ((s.core n).started stage sess step arg test pc) := by
  simp only [State.startCore, State.freshMemory, h, if_true]

theorem heldSources_heard (s : State) (t : Tk) (a : Accessor) (k : Nat) : (s.heard t a).heldSources k = s.heldSources k :=
  heldSources_congr (heard_sources s t a) k

/-- An update of a core owes no reply. -/
theorem owes_setCore (s : State) (n : Nat) (c : Core) : s.owes (s.setCore n c) = false := owes_of_eq rfl rfl rfl

end

/-- A program as it starts: its registers, its address and its session (R290). -/
theorem started_program (c : Core) (sess arg test pc : Nat) :
    (c.started .program sess none arg test pc).g.get 1 = BitVec.ofNat 32 arg ∧
    (c.started .program sess none arg test pc).g.get 14 = 0x100000#32 ∧
    (c.started .program sess none arg test pc).g.get 15 = endAddress ∧
    (c.started .program sess none arg test pc).g.get 0 = 0#32 ∧
    (c.started .program sess none arg test pc).g.get 2 = 0#32 := ⟨rfl, rfl, rfl, rfl, rfl⟩

/-! ## The scrubber (R295, R433, R434) -/

section
variable {s : State}

/-- The scrubber is watched from the start of its sweep on. -/
theorem stallCheck_of_recent (h : s.now ≤ s.scrub.sweepStart + 400000000) : s.supervisesScrubber = s := by
  have early : s.now ≤ s.scrub.sweepStart + 100 * tkMs := h
  simp [State.supervisesScrubber, State.stallCheck, early]

/-- The record of a stall, and the scrubber's settings from the Cellar (R295, R434). -/
def State.scrubberRestored (s : State) : State :=
  (List.range 5).foldl (fun s i => s.setObj 0x2702 (i + 1) (s.storedSetting (i + 1)))
    (s.logRec s.scrub.lastAdvance 0x04C0 9 (natLe 2 s.scrub.next ++ [0x10#8, 0#8] ++ natLe 4 (s.objN 0x2702 6)))

/-- What SC0 does to a scrubber that stalls before it starts a sweep again. -/
def State.scrubberReset (s : State) : State :=
  let vals := (List.range 5).map fun i => (s.storedSetting (i + 1)).toNat
  { s.scrubberRestored with
    scrub := { s.scrub with
      copies := [vals, vals, vals], repair := none, lastReset := some s.scrubberRestored.now, sweepsSinceReset := 0 } }

theorem stallCheck_of_stall (runs : s.scrubberRuns = true) (late : s.scrub.sweepStart + 400000000 < s.now)
    (first : ∀ r, s.scrub.lastReset = some r → r + 4000000000 < s.now) :
    s.supervisesScrubber = (s.scrubberReset.scrubStarts.countUp 0x2702 0x0D).cause 0x2702 4 s.scrubberReset.now := by
  have due : ¬ (!s.scrubberRuns || decide (s.now ≤ s.scrub.sweepStart + 100 * tkMs)) = true := by
    have elapsed : ¬ s.now ≤ s.scrub.sweepStart + 100 * tkMs := Nat.not_le.mpr late
    simp [runs, elapsed]
  have once : (match s.scrub.lastReset with | some r => decide (s.now ≤ r + tkS) | none => false) = false := by
    cases h : s.scrub.lastReset with
    | none => rfl
    | some r => exact decide_eq_false (not_le.mpr (first r h))
  have check : s.stallCheck = ((s.scrubberReset.scrubStarts.countUp 0x2702 0x0D).cause 0x2702 4 s.scrubberReset.now,
      match s.scrub.lastReset with | some r => decide (s.now ≤ r + tkS) | none => false) := by
    rw [State.stallCheck]
    exact if_neg due
  rw [State.supervisesScrubber, check, once]
  rfl

theorem changes_scrub (s : State) (c : Scrubber) : Changes [.scrub] s { s with scrub := c } := (changes_iff _ _ _).mpr rfl

theorem changes_scrubberRestored (s : State) : Changes [.objs, .log] s s.scrubberRestored :=
  .foldl _ (fun _ _ h => (changes_setObj _ _ _ _).step rfl h) (changes_logRec _ _ _ _ _)

theorem changes_scrubberReset (s : State) : Changes [.objs, .scrub, .log] s s.scrubberReset :=
  (changes_scrub _ _).step rfl ((changes_scrubberRestored s).mono rfl)

/-- An error of a block is counted and reported as its cause. -/
theorem changes_countsCause (s : State) (i j d bit stamp : Nat) : Changes signalParts s ((s.countUp i j d).cause i bit stamp) :=
  (changes_cause _ _ _ _).step rfl ((changes_countUp _ _ _ _).mono rfl)

/-- The latches take their voted values as a sweep starts. -/
def State.latched (s : State) : State :=
  { s with scrub := { s.scrub with
      copies := [(voteLatches s.scrub.copies).1, (voteLatches s.scrub.copies).1, (voteLatches s.scrub.copies).1]
      active := (voteLatches s.scrub.copies).1, next := 0, sweepStart := s.now } }

theorem scrubStarts_eq (s : State) : s.scrubStarts = if (voteLatches s.scrub.copies).2 = 0 then s.latched
    else (s.latched.countUp 0x2702 0x0C (voteLatches s.scrub.copies).2).cause 0x2702 3 s.now := rfl

/-- A sweep starts: a reset and a repair are not its concern, and only its own books, the objects and what a cause reaches may
change. -/
theorem scrubStarts_facts (s : State) : s.scrubStarts.scrub.lastReset = s.scrub.lastReset ∧
    s.scrubStarts.scrub.repair = s.scrub.repair ∧ Changes (.scrub :: signalParts) s s.scrubStarts := by
  have latches : Changes (.scrub :: signalParts) s s.latched := (changes_scrub s _).mono rfl
  rw [scrubStarts_eq]
  split
  · exact ⟨rfl, rfl, latches⟩
  · have counts := changes_countsCause s.latched 0x2702 0x0C (voteLatches s.scrub.copies).2 3 s.now
    have kept := counts .scrub rfl
    exact ⟨(congrArg Scrubber.lastReset kept).trans rfl, (congrArg Scrubber.repair kept).trans rfl, counts.step rfl latches⟩

/-- After a stall the reset is dated, and no repair waits. -/
theorem stalled_facts (s : State) : ∀ u, u = (s.scrubberReset.scrubStarts.countUp 0x2702 0x0D).cause 0x2702 4 s.scrubberReset.now →
    u.scrub.lastReset = some s.now ∧ u.scrub.repair = none ∧ Changes (.scrub :: .log :: signalParts) s u := by
  rintro u rfl
  obtain ⟨lastReset, repair, starts⟩ := scrubStarts_facts s.scrubberReset
  have counts := changes_countsCause s.scrubberReset.scrubStarts 0x2702 0x0D 1 4 s.scrubberReset.now
  have kept := counts .scrub rfl
  have now : s.scrubberRestored.now = s.now := changes_scrubberRestored s .now rfl
  exact ⟨(congrArg Scrubber.lastReset kept).trans (lastReset.trans (congrArg some now)),
    (congrArg Scrubber.repair kept).trans repair,
    counts.step rfl (starts.step rfl ((changes_scrubberReset s).mono rfl))⟩

end

end Sys2Proof.Machine

open Sys2Proof Sys2Proof.Machine

/-- Settles O30: entries and commands of a core by the conditions they check, and a stall of the scrubber by its steps. -/
theorem coresAreSupervised : Obligations.CoresAreSupervised := by
  unfold Obligations.CoresAreSupervised
  refine ⟨⟨?_, ?_, ?_⟩, ⟨?_, ?_, ?_, ?_, ?_⟩, ?_, ?_⟩
  · exact fun s t c x event runs ne na fa =>
      congrArg Host.Outcome.next (entersNormal_of_enabled (s := s.advance t) event runs ne na fa)
  · exact fun s t c x event runs fe fa =>
      congrArg Host.Outcome.next (entersFast_of_enabled (s := s.advance t) event runs fe fa)
  · intro s t c fa
    obtain ⟨normal, fast⟩ := enters_of_fast (s := s.advance t) fa
    exact ⟨congrArg Host.Outcome.next normal, congrArg Host.Outcome.next fast⟩
  · intro s t a c k h hv hc stage last
    have core : (s.heard t a).core c = s.core c := core_heard s t a c
    have starts := coreCommand_start (s := s.heard t a) (sess := s.sessionOf a) (n := c) (by simpa using hc)
      (by rw [core]; exact stage)
    rw [startCore_of_same (by rw [core]; exact last), core, objN_heard, objN_heard] at starts
    refine ⟨_, _, write_completes h (k := fun s x => s.coreWriteObject (s.sessionOf a) c 2 x.toNat)
      (by rw [hv, sessionOf_heard]; exact starts) (owes_setCore _ _ _), rfl, rfl, rfl, rfl, rfl, rfl, ?_⟩
    exact started_program _ _ _ _ _
  · intro s t a c k h hv hc stage held
    have core : (s.heard t a).core c = s.core c := core_heard s t a c
    have stops := coreCommand_stop (s := s.heard t a) (sess := (s.heard t a).sessionOf a) (n := c) (by simpa using hc)
      (by rw [core]; exact stage)
    rw [stopCore_of_none (by rw [heldSources_heard]; exact held), core] at stops
    exact write_completes h (k := fun s x => s.coreWriteObject (s.sessionOf a) c 2 x.toNat)
      (by rw [hv]; exact stops) (owes_of_eq rfl rfl rfl)
  · intro s t a c k h hv hc routine held
    have core : (s.heard t a).core c = s.core c := core_heard s t a c
    have resets := coreCommand_reset (s := s.heard t a) (sess := (s.heard t a).sessionOf a) (n := c) (by simpa using hc)
      (by rw [core]; exact routine)
    rw [resetCore_of_none (by rw [heldSources_heard]; exact held), core] at resets
    exact write_completes h (k := fun s x => s.coreWriteObject (s.sessionOf a) c 2 x.toNat)
      (by rw [hv]; exact resets) (owes_setCore _ _ _)
  · intro s t a c bytes k h hc _ stage
    exact bytes_complete h (k := fun s b => s.localMemoryStore c b)
      (localMemoryStore_of_stopped (by simpa using hc) (by simpa using stage)) (owes_of_eq rfl rfl rfl)
  · intro s t a k h
    have one : (cardOf 0x2510 2).map (·.written (natLe 1 1)) = some 1 := by decide +kernel
    have hv : k.written (natLe 1 1) = 1 := by
      rw [show cardOf 0x2510 2 = some k from h.found] at one
      exact Option.some.inj one
    exact write_refuses (c := k) h (k := fun s x => s.coreWriteObject (s.sessionOf a) 0 2 x.toNat)
      (by rw [hv]; exact coreCommand_supervisor)
  · exact fun s t h => congrArg Host.Outcome.next (stallCheck_of_recent (s := s.advance t) h)
  · intro s t runs late first
    refine ⟨_, congrArg Host.Outcome.next (stallCheck_of_stall (s := s.advance t) runs late first), ?_⟩
    obtain ⟨reset, repair, frame⟩ := stalled_facts (s.advance t) _ rfl
    exact ⟨reset, repair, frame.step rfl ((changes_advance s t).mono rfl)⟩
end

section
/-!
SUPPORT. The invariant of the block under the updates that all operations are made of: what it says of one core, source, converter,
trigger output, queue and log, the update of each, and the updates of which it does not speak.
-/

namespace Sys2Proof.Machine

/-! ## The parts of which the invariant speaks -/

/-- The parts of the state of which the invariant speaks. -/
def State.books (s : State) :=
  (s.mem, s.cores, s.sources, s.convs, s.trigOuts, s.queues, s.log.records, s.log.held, s.pantry.spills)

namespace State.Inv

section
variable {s u : State} (h : s.Inv)
include h

/-- The invariant passes to a state that is alike in every part of which it speaks. -/
theorem same (e : u.books = s.books) : u.Inv := by
  simp only [State.books, Prod.mk.injEq] at e
  obtain ⟨mem, cores, sources, convs, trigOuts, queues, records, held, spills⟩ := e
  obtain ⟨memory, hcores, hsources, triggers, requests, hqueues, hrecords, hheld, hspills⟩ := h
  exact {
    memory := by rw [mem]; exact memory
    cores := by rw [cores]; exact hcores
    sources := by rw [sources]; exact hsources
    triggers := by rw [convs]; exact triggers
    requests := by rw [trigOuts]; exact requests
    queues := by rw [queues]; exact hqueues
    records := by rw [records]; exact hrecords
    held := by rw [held]; exact hheld
    spills := by rw [spills]; exact hspills }

/-! ## What it says of one unit -/

theorem core {n : Nat} : (s.core n).ok = true := Table.all_get (p := fun c : Core => c.ok = true) _ n h.cores (by decide)
theorem source {n : Nat} : (s.source n).pending ≤ 15 :=
  Table.all_get (p := fun x : Source => x.pending ≤ 15) _ n h.sources (by decide)
theorem conv {q : Nat} : (s.conv q).triggers.length ≤ 4 :=
  Table.all_get (p := fun x : Converter => x.triggers.length ≤ 4) _ q h.triggers (by decide)
theorem trigOut {o : Nat} : (s.trigOut o).waiting.length ≤ 4 :=
  Table.all_get (p := fun x : TrigOut => x.waiting.length ≤ 4) _ o h.requests (by decide)
theorem queue {q : Nat} : Queue.ok (s.queue q) = true :=
  Table.all_get (p := fun x : Option Queue => Queue.ok x = true) _ q h.queues rfl

/-- A queue that exists is within its capacity. -/
theorem queue_le {q : Nat} {x : Queue} (hx : s.queue q = some x) : x.entries.length ≤ x.capacity := by
  have ok := h.queue (q := q)
  rw [hx] at ok
  exact of_decide_eq_true ok

/-! ## Its update -/

theorem setCore {n : Nat} {c : Core} (hc : c.ok = true) : (s.setCore n c).Inv :=
  { h with cores := Table.all_set (p := fun c : Core => c.ok = true) _ h.cores hc }
theorem setSource {n : Nat} {x : Source} (hx : x.pending ≤ 15) : (s.setSource n x).Inv :=
  { h with sources := Table.all_set (p := fun x : Source => x.pending ≤ 15) _ h.sources hx }
theorem setConv {q : Nat} {c : Converter} (hc : c.triggers.length ≤ 4) : (s.setConv q c).Inv :=
  { h with triggers := Table.all_set (p := fun x : Converter => x.triggers.length ≤ 4) _ h.triggers hc }
theorem setTrigOut {o : Nat} {x : TrigOut} (hx : x.waiting.length ≤ 4) : (s.setTrigOut o x).Inv :=
  { h with requests := Table.all_set (p := fun x : TrigOut => x.waiting.length ≤ 4) _ h.requests hx }
theorem setQueue {q : Nat} {c : Option Queue} (hc : Queue.ok c = true) : (s.setQueue q c).Inv :=
  { h with queues := Table.all_set (p := fun x : Option Queue => Queue.ok x = true) _ h.queues hc }
theorem setQueue_some {q : Nat} {x : Queue} (hx : x.entries.length ≤ x.capacity) : (s.setQueue q (some x)).Inv :=
  h.setQueue (decide_eq_true hx)
theorem setLog {l : Log} (hr : l.records.length ≤ logSize) (hh : l.held.length ≤ 32) : ({ s with log := l } : State).Inv :=
  { h with records := hr, held := hh }
theorem setPantry {p : Pantry} (hp : p.spills.length ≤ 64) : ({ s with pantry := p } : State).Inv := { h with spills := hp }

/-! ## Its update in what the invariant does not speak of -/

theorem keepCore {n : Nat} {c : Core} (hc : c.ok = (s.core n).ok) : (s.setCore n c).Inv := h.setCore (hc.trans h.core)
theorem keepSource {n : Nat} {x : Source} (hx : x.pending = (s.source n).pending) : (s.setSource n x).Inv :=
  h.setSource (hx.trans_le h.source)
theorem keepConv {q : Nat} {c : Converter} (hc : c.triggers = (s.conv q).triggers) : (s.setConv q c).Inv :=
  h.setConv ((congrArg List.length hc).trans_le h.conv)
theorem keepTrigOut {o : Nat} {x : TrigOut} (hx : x.waiting = (s.trigOut o).waiting) : (s.setTrigOut o x).Inv :=
  h.setTrigOut ((congrArg List.length hx).trans_le h.trigOut)

/-! ## Memory -/

theorem writeBytes {a : Nat} {bs : Bytes} : (s.writeBytes a bs).Inv := { h with memory := wf_writeBytes h.memory a bs }
theorem clearBytes {a n : Nat} : (s.clearBytes a n).Inv := { h with memory := wf_clearBytes h.memory a n }
theorem freshWords {a n : Nat} : (s.freshWords a n).Inv := h.same rfl
theorem eccWrite {a : Nat} {bs : Bytes} : (s.eccWrite a bs).Inv := h.writeBytes.freshWords
theorem eccClear {a n : Nat} : (s.eccClear a n).Inv := h.clearBytes.freshWords

/-! ## One part replaced, of which it does not speak -/

theorem withNow {x : Tk} : ({ s with now := x } : State).Inv := h.same rfl
theorem withMode {x : Mode} : ({ s with mode := x } : State).Inv := h.same rfl
theorem withObjs {x : Table (Option Int)} : ({ s with objs := x } : State).Inv := h.same rfl
theorem withPorts {x : Table PortCell} : ({ s with ports := x } : State).Inv := h.same rfl
theorem withMap {x : Map} : ({ s with map := x } : State).Inv := h.same rfl
theorem withDisp {x : Dispatcher} : ({ s with disp := x } : State).Inv := h.same rfl
theorem withGov {x : Governor} : ({ s with gov := x } : State).Inv := h.same rfl
theorem withTimebase {x : Timebase} : ({ s with timebase := x } : State).Inv := h.same rfl
theorem withLoader {x : Loader} : ({ s with loader := x } : State).Inv := h.same rfl
theorem withFrames {x : Table Bytes} : ({ s with frames := x } : State).Inv := h.same rfl
theorem withLoft {x : Table (List (Option (BitVec 32)))} : ({ s with loft := x } : State).Inv := h.same rfl
theorem withKeys {x : KeyStore} : ({ s with keys := x } : State).Inv := h.same rfl
theorem withScrub {x : Scrubber} : ({ s with scrub := x } : State).Inv := h.same rfl
theorem withLinks {x : Links} : ({ s with links := x } : State).Inv := h.same rfl
theorem withCycle {x : Cycle} : ({ s with cycle := x } : State).Inv := h.same rfl
theorem withKeyFailures {x : Table Nat} : ({ s with keyFailures := x } : State).Inv := h.same rfl
theorem withKeyLockouts {x : Table (Option Tk)} : ({ s with keyLockouts := x } : State).Inv := h.same rfl
theorem withCellar {x : Cellar} : ({ s with cellar := x } : State).Inv := h.same rfl
theorem withCal {x : Calibration} : ({ s with cal := x } : State).Inv := h.same rfl
theorem withPower {x : Power} : ({ s with power := x } : State).Inv := h.same rfl
theorem withPending {x : List Instr} : ({ s with pending := x } : State).Inv := h.same rfl
theorem withLog {l : Log} (hr : l.records = s.log.records) (hh : l.held = s.log.held) :
    ({ s with log := l } : State).Inv := h.setLog (by rw [hr]; exact h.records) (by rw [hh]; exact h.held)
theorem withPantry {p : Pantry} (hp : p.spills = s.pantry.spills) : ({ s with pantry := p } : State).Inv :=
  h.setPantry (by rw [hp]; exact h.spills)

/-! ## Updates of which it does not speak -/

theorem advance {t : Tk} : (s.advance t).Inv := h.same rfl
theorem setObjAt {k : Nat} {v : Int} : (s.setObjAt k v).Inv := h.same rfl
theorem setObj {i j : Nat} {v : Int} : (s.setObj i j v).Inv := h.setObjAt
theorem countUp {i j d : Nat} : (s.countUp i j d).Inv := h.setObj
theorem setOwn {a i j v : Nat} : (s.setOwn a i j v).Inv := h.setObjAt
theorem resetObjs {i : Nat} {p : Nat → Bool} : (s.resetObjs i p).Inv := h.same rfl
theorem resetClaimObjs {i : Nat} : (s.resetClaimObjs i).Inv := h.resetObjs
theorem setBlob {i j : Nat} {bs : Bytes} : (s.setBlob i j bs).Inv := h.same rfl
theorem setPort {p : Nat} {c : PortCell} : (s.setPort p c).Inv := h.same rfl
theorem setPin {n : Nat} {c : PinCell} : (s.setPin n c).Inv := h.same rfl
theorem setChain {n : Nat} {c : Chain} : (s.setChain n c).Inv := h.same rfl
theorem setSweep {m : Nat} {c : Sweep} : (s.setSweep m c).Inv := h.same rfl
theorem setBusSource {n : Nat} {c : BusSource} : (s.setBusSource n c).Inv := h.same rfl
theorem setCan {e : Nat} {c : CanEngine} : (s.setCan e c).Inv := h.same rfl
theorem setLin {l : Nat} {c : LinEngine} : (s.setLin l c).Inv := h.same rfl
theorem setSent {r : Nat} {c : SentUnit} : (s.setSent r c).Inv := h.same rfl
theorem setStream {n k : Nat} {c : Option Stream} : (s.setStream n k c).Inv := h.same rfl
theorem setZone {z : Nat} {c : Zone} : (s.setZone z c).Inv := h.same rfl
theorem setSession {n : Nat} {c : Session} : (s.setSession n c).Inv := h.same rfl
theorem setStep {k : Nat} {r : StepRec} : (s.setStep k r).Inv := h.same rfl
theorem setCalRun {d : Nat} {r : CalRun} : (s.setCalRun d r).Inv := h.same rfl
theorem setCalFigure {i : Nat} {f : CalFigure} : (s.setCalFigure i f).Inv := h.same rfl
theorem setHolder {cls n : Nat} {x : Option Nat} : (s.setHolder cls n x).Inv := h.same rfl
theorem send {o : Out} : (s.send o).Inv := h.same rfl
theorem holdsBack {n : Nat} {w : Waiting} : (s.holdsBack n w).Inv := h.setSession
theorem nextFresh : s.nextFresh.Inv := h.same rfl
theorem syncSkips : s.syncSkips.Inv := h.same rfl

omit h in
/-- An operation that a condition chooses. -/
theorem ite {v : State} {c : Prop} [Decidable c] (hu : u.Inv) (hv : v.Inv) : (if c then u else v).Inv := by
  split
  · exact hu
  · exact hv

/-- An operation applied along a list. -/
theorem foldl {β : Type} {f : State → β → State} {xs : List β} (hf : ∀ t x, t.Inv → (f t x).Inv) : (xs.foldl f s).Inv := by
  induction xs generalizing s with
  | nil => exact h
  | cons x xs ih => exact ih (hf s x h)

theorem each {f : State → Nat → State} {xs : List Nat} (hf : ∀ t x, t.Inv → (f t x).Inv) : (s.each xs f).Inv := h.foldl hf

/-! ## Words with ECC, and snapshots -/

theorem upset {x : Nat × Word} : (s.upset x).Inv := .ite (h.same rfl) h

/-- A newer result marks snapshots alone, which no bit of a core register holds. -/
theorem staleSnaps {k : Nat} : (s.staleSnaps k).Inv := by
  have cores : ∀ x ∈ (s.staleSnaps k).cores, x.2.ok = true := by
    intro x hx
    obtain ⟨y, hy, rfl⟩ := List.mem_map.mp hx
    exact h.cores y hy
  exact { h with cores := cores }

/-! ## Answers -/

theorem accepted {t : State} : (t.accepted s).Inv := .ite (h.same rfl) h
theorem owedTo {t : State} {r : Option ReplyTo} : (t.owedTo s r).Inv := .ite (h.same rfl) (h.same rfl)

end

end State.Inv

/-! ## Requests -/

/-- What a request leaves keeps the invariant: an accepted one, and one refused after an effect. -/
inductive Res.Keeps : Res → Prop where
  | ok {u : State} (h : u.Inv) : Keeps (.ok u)
  | error {r : Refused} (h : ∀ u, r.after = some u → u.Inv) : Keeps (.error r)

/-- A check whose refusal leaves no trace. -/
def Quiet {α : Type} (x : Except Refused α) : Prop := ∀ r, x = .error r → r.after = none

theorem Quiet.ok {α : Type} {a : α} : Quiet (.ok a : Except Refused α) := fun _ h => nomatch h
theorem Quiet.refuse {α : Type} {code : Nat} : Quiet (Machine.refuse code : Except Refused α) := by
  rintro _ ⟨⟩
  rfl
theorem Quiet.ite {α : Type} {c : Prop} [Decidable c] {x y : Except Refused α} (hx : Quiet x) (hy : Quiet y) :
    Quiet (if c then x else y) := by
  split
  · exact hx
  · exact hy
theorem Quiet.refuseIf {c : Bool} {code : Nat} : Quiet (Machine.refuseIf c code) := .ite .refuse .ok
theorem Quiet.refuseWith {code : Option Nat} : Quiet (Machine.refuseWith code) := by
  cases code with
  | none => exact .ok
  | some _ => exact .refuse
theorem Quiet.bind {α β : Type} {x : Except Refused α} {f : α → Except Refused β} (hx : Quiet x) (hf : ∀ a, Quiet (f a)) :
    Quiet (x >>= f) := by
  cases x with
  | ok a => exact hf a
  | error r =>
    rintro _ ⟨⟩
    exact hx r rfl

theorem Quiet.map {α β : Type} {x : Except Refused α} {f : α → β} (hx : Quiet x) : Quiet (x.map f) := by
  cases x with
  | ok a => exact .ok
  | error r =>
    rintro _ ⟨⟩
    exact hx r rfl

namespace Res.Keeps

theorem refuse {code : Nat} : Keeps (Machine.refuse code) := .error (fun _ h => nomatch h)
theorem refuseAfter {code : Nat} {u : State} (h : u.Inv) : Keeps (Machine.refuseAfter code u) :=
  .error (by rintro _ ⟨⟩; exact h)
theorem ite {c : Prop} [Decidable c] {x y : Res} (hx : Keeps x) (hy : Keeps y) : Keeps (if c then x else y) := by
  split
  · exact hx
  · exact hy

/-- A request that goes on after a check. -/
theorem check {α : Type} {x : Except Refused α} {f : α → Res} (hx : Quiet x) (hf : ∀ a, Keeps (f a)) : Keeps (x >>= f) := by
  cases x with
  | ok a => exact hf a
  | error r => exact .error fun u e => nomatch (hx r rfl).symm.trans e

theorem refuseIf {c : Bool} {code : Nat} {r : Res} (h : Keeps r) : Keeps (Machine.refuseIf c code >>= fun _ => r) :=
  .check .refuseIf fun _ => h
theorem refuseWith {code : Option Nat} {r : Res} (h : Keeps r) : Keeps (Machine.refuseWith code >>= fun _ => r) :=
  .check .refuseWith fun _ => h

/-- A request that goes on after another. -/
theorem bind {x : Res} {f : State → Res} (hx : Keeps x) (hf : ∀ u, u.Inv → Keeps (f u)) : Keeps (x >>= f) := by
  cases hx with
  | ok h => exact hf _ h
  | error h => exact .error h

/-- What a request leaves, where it is refused without a trace the state before it. -/
theorem after {s : State} {r : Refused} (h : Keeps (.error r)) (hs : s.Inv) : (r.after.getD s).Inv := by
  obtain ⟨code, after⟩ := r
  cases h with
  | error h =>
    cases after with
    | none => exact hs
    | some u => exact h u rfl

theorem of_ok {u : State} (h : Keeps (.ok u)) : u.Inv := by
  cases h with
  | ok h => exact h

end Res.Keeps

/-- The end of a request, answered now or later. -/
theorem State.Inv.finished {s : State} (h : s.Inv) {who : Nat} {r : Res} (hr : r.Keeps) : (s.finished who r).Inv := by
  cases r with
  | ok u => exact .ite hr.of_ok.accepted.owedTo hr.of_ok.accepted.send
  | error r => exact (hr.after h).send

end Sys2Proof.Machine
end

section
/-!
SUPPORT. The invariant under the operations that every block shares: the log, events and what they set off, and queues (R302, R313,
R114, R337, R354, R527, R529).
-/

namespace Sys2Proof.Machine

/-! ## Lengths -/

theorem logInsert_length (r : LogRecord) (l : List LogRecord) : (logInsert r l).length = l.length + 1 := by
  induction l with
  | nil => rfl
  | cons x xs ih =>
    rw [logInsert]
    split <;> simp [ih]

theorem insertTrigger_length (x : Trigger) (l : List Trigger) : (insertTrigger x l).length = l.length + 1 := by
  induction l with
  | nil => rfl
  | cons y ys ih =>
    rw [insertTrigger]
    split <;> simp [ih]

/-- The ring stays within its size when a record enters it. -/
theorem append_records_le {l : Log} (h : l.records.length ≤ logSize) (r : LogRecord) : (l.append r).records.length ≤ logSize :=
  by
  unfold Log.append
  extract_lets _ rs
  have len : rs.length = l.records.length + 1 := by simp [rs, logInsert_length]
  split
  · simp only [List.length_drop]
    omega
  · simp only
    omega

theorem append_held (l : Log) (r : LogRecord) : (l.append r).held = l.held := by
  unfold Log.append
  extract_lets _ _
  split <;> rfl

namespace State.Inv

section
variable {s : State} (h : s.Inv)
include h

/-! ## The log -/

theorem logRec {stamp tag kind : Nat} {detail : Bytes} : (s.logRec stamp tag kind detail).Inv := by
  unfold State.logRec
  extract_lets r
  split
  · exact h.countUp
  · split
    · exact h.setLog (append_records_le h.records r) (by rw [append_held]; exact h.held)
    · split
      · next room => exact h.setLog h.records (by simp only [List.length_append, List.length_singleton]; omega)
      · exact h.countUp

omit h in
/-- The ring stays within its size when the records that SC0 holds enter it. -/
theorem flushLog_records (f : Log → LogRecord → LogRecord) (rs : List LogRecord) {l : Log} (hl : l.records.length ≤ logSize) :
    (rs.foldl (fun l r => l.append (f l r)) l).records.length ≤ logSize := by
  induction rs generalizing l with
  | nil => exact hl
  | cons r rs ih => exact ih (append_records_le hl _)

theorem flushLog : s.flushLog.Inv := by
  unfold State.flushLog
  split
  · exact h
  · split
    · have emptied : ({ s with log := { s.log with held := [] } } : State).Inv := h.setLog h.records (Nat.zero_le _)
      exact emptied.foldl fun _ _ h => h.countUp
    · exact h.setLog (flushLog_records (fun _ r => { r with boot := s.objN 0x2000 0x0C }) _ h.records) (Nat.zero_le _)

/-! ## Sources (R302 to R305, R312, R313) -/

theorem settleSource {n : Nat} {relax : Bool} : (s.settleSource n relax).Inv := by
  unfold State.settleSource
  extract_lets _ _ _ _
  split
  · exact h
  · split
    · exact h.keepSource (by rfl)
    · split
      · exact .ite h (h.keepSource (by rfl))
      · exact .ite h (h.keepSource (by rfl))

theorem settleSources : s.settleSources.Inv := h.foldl fun _ _ h => h.settleSource

theorem arrival {n stamp : Nat} : (s.arrival n stamp).Inv := by
  unfold State.arrival
  extract_lets _ _ _
  split
  · exact (h.keepSource (by rfl)).countUp
  · next room => exact .settleSource (h.setSource (by exact Nat.lt_of_not_ge room))

theorem levelArrival {n : Nat} : (s.levelArrival n).Inv := .ite h.arrival h

theorem controllerEdge {n stamp : Nat} {rising : Bool} : (s.controllerEdge n stamp rising).Inv := by
  unfold State.controllerEdge
  split
  · exact h
  · split
    · exact .ite h.levelArrival h
    · exact .ite h.arrival h
    · exact .ite h h.arrival
    · exact h.arrival

theorem setLevel {n : Nat} {level : Bool} {stamp : Tk} : (s.setLevel n level stamp).Inv :=
  .ite (h.keepSource (by rfl)).countUp (h.keepSource (by rfl))

theorem edgeToSteps {n stamp : Nat} {rising : Bool} : (s.edgeToSteps n stamp rising).Inv := h.foldl fun _ _ h => h.setStep

/-! ## What one happening sets off -/

theorem signalOnce {x : Signal} : (s.signalOnce x).1.Inv := by
  cases x with
  | cause idx bit stamp =>
    rw [State.signalOnce]
    split
    · exact h.setObj
    · exact h
  | edge n stamp rising => exact (h.setLevel.controllerEdge).edgeToSteps
  | trigger q stamp command arrived =>
    rw [State.signalOnce]
    split
    · exact h.countUp
    · next room =>
      have within : (insertTrigger { stamp := stamp, command := command, arrived := arrived } (s.conv q).triggers).length ≤ 4 := by
        rw [insertTrigger_length]
        omega
      split
      · exact .countUp (h.setConv within)
      · exact h.setConv within
  | request o stamp command arrived =>
    rw [State.signalOnce]
    split
    · exact h.countUp
    · next room => exact h.setTrigOut (by rw [insertTrigger_length]; omega)

theorem signal {fuel : Nat} {x : Signal} : (s.signal fuel x).Inv := by
  induction fuel generalizing s x with
  | zero => exact h
  | succ fuel ih => exact h.signalOnce.foldl fun _ _ h => ih h

theorem cause {idx bit stamp : Nat} : (s.cause idx bit stamp).Inv := h.signal
theorem edge {n stamp : Nat} {rising : Bool} : (s.edge n stamp rising).Inv := h.signal

theorem followLevel {n stamp : Nat} : (s.followLevel n stamp).Inv := .ite h h.edge

theorem followBlock {idx : Nat} : (s.followBlock idx).Inv := by
  unfold State.followBlock
  split
  · exact h
  · exact .ite (h.each fun _ _ h => h.followLevel) h.followLevel

theorem eventWrite {idx sub v : Nat} : (s.eventWrite idx sub v).Inv := by
  unfold State.eventWrite
  split
  · exact .followBlock (.ite h.setObj (.ite h.setObj h))
  · exact h

theorem resetBlock {idx : Nat} : (s.resetBlock idx).Inv := h.resetClaimObjs.followBlock

theorem afterRead {a n : Nat} : (s.afterRead a n).Inv := by
  unfold State.afterRead
  extract_lets _ _ _ t v
  have ht : t.Inv := h.same rfl
  have hv : v.Inv := .ite ht (.ite ht.countUp ht.countUp)
  exact .ite h (.ite hv hv.countUp.cause)

theorem syncCuts : s.syncCuts.Inv := .ite (h.same rfl) h

theorem changeMode {m : Mode} {why : Nat} : (s.changeMode m why).Inv := by
  unfold State.changeMode
  extract_lets _ _ s1 s2
  have h1 : s1.Inv := State.Inv.setObj (s := { s with mode := m }) (h.same rfl)
  have h2 : s2.Inv := .ite (.ite h1 h1.syncSkips) h1.syncCuts
  exact h2.logRec.cause

end
end State.Inv

/-! ## Queues (R354) -/

/-- An entry leaves a queue that has one, and no other. -/
theorem takeOne_entries (q : Queue) : q.takeOne.entries = q.entries.drop 1 := by
  unfold Queue.takeOne
  split
  · next e => simp [List.isEmpty_iff.mp e]
  · split <;> rfl

theorem takeOne_capacity (q : Queue) : q.takeOne.capacity = q.capacity := by
  unfold Queue.takeOne
  split
  · rfl
  · split <;> rfl

theorem take_le {n : Nat} {q : Queue} (h : q.entries.length ≤ q.capacity) :
    (Queue.take n q).entries.length ≤ (Queue.take n q).capacity := by
  induction n generalizing q with
  | zero => exact h
  | succ n ih =>
    refine ih ?_
    rw [takeOne_entries, takeOne_capacity, List.length_drop]
    omega

namespace State.Inv

section
variable {s : State} (h : s.Inv)
include h

theorem watermark {before : State} : (State.watermark before s).Inv := .ite h.cause h

section
variable {q : Nat} {qu : Queue} (hq : qu.entries.length ≤ qu.capacity)
include hq

theorem refuseFull : (s.refuseFull q qu).Inv := (h.setQueue_some (by exact hq)).countUp.cause
theorem refusePantry : (s.refusePantry q qu).Inv := (h.setQueue_some (by exact hq)).countUp.cause

end

/-- A queue with room takes an entry. -/
theorem acceptEntry {q : Nat} {qu : Queue} {e : NewEntry} (room : qu.entries.length < qu.capacity) : (s.acceptEntry q qu e).Inv :=
  .watermark (h.setQueue_some (by simp only [Queue.append, List.length_append, List.length_singleton]; omega))

theorem offerEntry {q : Nat} {e : NewEntry} : (s.offerEntry q e).1.Inv := by
  unfold State.offerEntry
  split
  · exact h
  · next qu found =>
    have within := h.queue_le found
    split
    · exact h
    · split
      · next full =>
        extract_lets moving less
        have room : moving = false → less.entries.length < less.capacity := by
          intro rests
          have some_ : qu.entries ≠ [] := by
            intro e
            simp [moving, e] at rests
          have := List.length_pos_iff.mpr some_
          simp only [less, takeOne_entries, takeOne_capacity, List.length_drop]
          omega
        split
        · exact h.refuseFull within
        · split
          · split
            · split
              · next rests =>
                simp only [Bool.and_eq_true, Bool.not_eq_true'] at rests
                exact h.acceptEntry (room rests.1.1.1)
              · exact h.refusePantry within
            · exact h.refusePantry within
          · split
            · exact h.refuseFull within
            · next rests => exact h.acceptEntry (room (eq_false_of_ne_true rests))
      · next room =>
        split
        · exact h.refusePantry within
        · exact h.acceptEntry (by omega)

theorem blockEntry {q : Nat} {e : NewEntry} : (s.blockEntry q e).Inv := by
  unfold State.blockEntry
  split
  · exact h.countUp.cause
  · exact .ite h.countUp.cause h.offerEntry

theorem blockEntryTo {v : Nat} {e : NewEntry} : (s.blockEntryTo v e).Inv := .ite h h.blockEntry

theorem readEntries {q n : Nat} : (s.readEntries q n).Inv := by
  unfold State.readEntries
  split
  · next qu found =>
    have hs := h.setQueue_some (q := q) (x := { Queue.take n qu with read := addWrap 32 qu.read n }) (take_le (h.queue_le found))
    exact .ite hs.settleSources hs
  · exact h

theorem discardAll {q : Nat} : (s.discardAll q).Inv := by
  unfold State.discardAll
  split
  · extract_lets _ spills s1 _ s2
    have h1 : s1.Inv := h.setQueue_some (Nat.zero_le _)
    have h2 : s2.Inv := h1.setPantry (by simp only [spills, List.length_map]; exact h.spills)
    exact .ite h2.settleSources h2
  · exact h

end
end State.Inv

end Sys2Proof.Machine
end

section
/-!
SUPPORT. Requests under the invariant: checks leave no trace, and a request keeps the invariant where its effect does (R442, R449).
-/

namespace Sys2Proof.Machine

namespace Quiet

theorem headChecks {s : State} {a : Accessor} {idx sub len : Nat} : Quiet (s.headChecks a idx sub len) := by
  refine .bind .refuseIf fun _ => ?_
  split
  · exact .refuse
  · exact .bind .refuseIf fun _ => .bind .refuseWith fun _ => .bind .refuseWith fun _ => .bind .refuseIf fun _ =>
      .bind .refuseIf fun _ => .ok

theorem gateChecks {s : State} {a : Accessor} {c : Card} {idx sub v : Nat} : Quiet (s.gateChecks a c idx sub v) :=
  .bind .refuseWith fun _ => .ite .ok (.bind .refuseIf fun _ => .refuseWith)

end Quiet

/-- What a command leaves keeps the invariant. -/
def KeepsInv (o : Host.Outcome State Fault Refusal) : Prop := ∀ u, o = .next u → u.Inv

theorem KeepsInv.next {u : State} (h : u.Inv) : KeepsInv (.next u) := by
  rintro _ ⟨⟩
  exact h

theorem KeepsInv.ite {c : Prop} [Decidable c] {x y : Host.Outcome State Fault Refusal} (hx : KeepsInv x) (hy : KeepsInv y) :
    KeepsInv (if c then x else y) := by
  split
  · exact hx
  · exact hy

/-- A read answers with a state that keeps the invariant, or is refused without a trace. -/
def Answered (x : Except Refused (State × Bytes)) : Prop := Quiet x ∧ ∀ a, x = .ok a → a.1.Inv

theorem Answered.ok {u : State} {bs : Bytes} (h : u.Inv) : Answered (.ok (u, bs)) :=
  ⟨.ok, by rintro _ ⟨⟩; exact h⟩

theorem Answered.check {α : Type} {x : Except Refused α} {f : α → Except Refused (State × Bytes)} (hx : Quiet x)
    (hf : ∀ a, Answered (f a)) : Answered (x >>= f) := by
  cases x with
  | ok a => exact hf a
  | error r => exact ⟨by rintro _ ⟨⟩; exact hx r rfl, fun _ e => nomatch e⟩

namespace State.Inv

section
variable {s : State} (h : s.Inv)
include h

theorem finish {who : Nat} {r : Res} (hr : r.Keeps) : KeepsInv (s.finish who r) := .next (h.finished hr)

omit h in
theorem guardWrite {a : Accessor} {idx sub : Nat} {bs : Bytes} {k : Int → Res} (hk : ∀ v, (k v).Keeps) :
    (s.guardWrite a idx sub bs k).Keeps :=
  .check .headChecks fun _ => .check .gateChecks fun _ => .refuseWith (hk _)

omit h in
theorem guardBytes {a : Accessor} {idx sub : Nat} {bs : Bytes} {k : Bytes → Res} (hk : ∀ b, (k b).Keeps) :
    (s.guardBytes a idx sub bs k).Keeps :=
  .check .headChecks fun _ => .check .gateChecks fun _ => hk _

theorem renew {n : Nat} : (s.renew n).Inv := .ite h.setSession h

theorem hears {a : Accessor} : (s.hears a).Inv := by
  cases a with
  | session n => exact h.renew
  | core n => exact h

theorem queuesUp {n : Nat} {w : Waiting} : (s.queuesUp n w).Inv := .ite h.holdsBack h.send

theorem request {t : Tk} {a : Accessor} {idx sub : Nat} {bs : Bytes} {f : State → Res} (hf : ∀ {u}, u.Inv → (f u).Keeps) :
    KeepsInv (s.request t a idx sub bs f) :=
  .ite (.next h.advance) (.ite (.next h.advance.send) (.ite (.next h.advance.hears.queuesUp)
    (h.advance.hears.finish (hf h.advance.hears))))

/-- A write of a value keeps the invariant where its effect does. -/
theorem requestValue {t : Tk} {a : Accessor} {idx sub : Nat} {bs : Bytes} {k : State → Int → Res}
    (hk : ∀ {u v}, u.Inv → (k u v).Keeps) : KeepsInv (s.requestValue t a idx sub bs k) :=
  h.request fun h => guardWrite fun _ => hk h

theorem requestBytes {t : Tk} {a : Accessor} {idx sub : Nat} {bs : Bytes} {k : State → Bytes → Res}
    (hk : ∀ {u b}, u.Inv → (k u b).Keeps) : KeepsInv (s.requestBytes t a idx sub bs k) :=
  h.request fun h => guardBytes fun _ => hk h

end
end State.Inv

end Sys2Proof.Machine
end

section
/-!
SUPPORT. The invariant under the operations of the ports, pins, chains, converters, the Cellar's transactions, the governor, the
mapper, the sweeps and the protocol engines: each is made of operations that keep it.
-/

namespace Sys2Proof.Machine.State.Inv

section
variable {s : State} (h : s.Inv)
include h

theorem loaded {p : Nat} : (s.loaded p).Inv := .ite h h.setPort

theorem noteMark {p : Nat} : (s.noteMark p).Inv := by
  unfold State.noteMark
  extract_lets _ _ _ _
  split
  · exact h.setPort
  · exact .ite h h.setPort

theorem settle {p at' time : Nat} : (s.settle p at' time).Inv := h.setPort

theorem recompare {p : Nat} : (s.recompare p).Inv := by
  unfold State.recompare
  split
  · exact .ite h h.setPort

theorem setFilter {l : FilterLine} {f : Filter} : (s.setFilter l f).Inv := by
  cases l with
  | port p => exact h.setPort
  | pin n => exact h.setPin

theorem rejectEdge {l : FilterLine} : (s.rejectEdge l).Inv := by
  unfold State.rejectEdge
  extract_lets _ s1
  have h1 : s1.Inv := h.setFilter
  split
  · exact h1.countUp
  · exact h1

theorem captureEdge {l : FilterLine} {stamp : Nat} {level afterPark late : Bool} {skipped : Nat} :
    (s.captureEdge l stamp level afterPark late skipped).Inv := by
  unfold State.captureEdge
  split
  · exact h
  · exact .ite h (.ite h.blockEntryTo h.blockEntryTo.setFilter)

theorem acceptEdge {l : FilterLine} {stamp accepted : Nat} {level late : Bool} :
    (s.acceptEdge l stamp accepted level late).Inv := by
  unfold State.acceptEdge
  extract_lets _ _ s1 s2 s3 _ s4
  have h1 : s1.Inv := h.setFilter
  have h2 : s2.Inv := by
    cases l with
    | port p => exact h1.countUp.setObj
    | pin n => exact h1.countUp
  have h3 : s3.Inv := h2.captureEdge
  have h4 : s4.Inv := by
    cases l with
    | port p => exact h3
    | pin n => exact .ite (h3.same rfl) h3
  exact h4.edge

theorem endDebounce {l : FilterLine} : (s.endDebounce l).Inv := by
  unfold State.endDebounce
  extract_lets _ s1
  have h1 : s1.Inv := h.setFilter
  split
  · exact .ite h (.ite h1 h1.acceptEdge)
  · exact h

theorem debounceBefore {l : FilterLine} {t : Tk} : (s.debounceBefore l t).Inv := by
  unfold State.debounceBefore
  split
  · exact .ite h.endDebounce h
  · exact h

theorem acceptLevel {l : FilterLine} : (s.acceptLevel l).Inv := by
  unfold State.acceptLevel
  extract_lets _ _ s1 _ s2
  have h1 : s1.Inv := h.debounceBefore
  have h2 : s2.Inv := h1.setFilter
  exact .ite h (.ite h2.rejectEdge (.ite h2 h2.acceptEdge))

theorem defineLevel {l : FilterLine} : (s.defineLevel l).Inv :=
  .ite h (.ite h.setFilter.setLevel.levelArrival h.setFilter.setLevel)

theorem lineDue {l : FilterLine} : (s.lineDue l).Inv := h.defineLevel.acceptLevel.endDebounce

theorem lineSignal {l : FilterLine} {level : Bool} : (s.lineSignal l level).Inv := by
  unfold State.lineSignal
  extract_lets s1 _ s2
  have h1 : s1.Inv := h.lineDue
  have h2 : s2.Inv := h1.setFilter
  exact .ite h1 (.ite h2.rejectEdge h2)

theorem restartFilter {l : FilterLine} {raw afterPark : Bool} : (s.restartFilter l raw afterPark).Inv := h.setFilter

theorem followPort {p : PortNo} : (s.followPort p).Inv := .ite h (.ite h.lineSignal h.setFilter)

theorem cellFollows {p : PortNo} : (s.cellFollows p).Inv := h.recompare.followPort.noteMark

theorem startPark {p : Nat} {new : Owner} {cause : OwnerCause} : (s.startPark p new cause).Inv :=
  h.setPort.noteMark.nextFresh.countUp.setObj

theorem retarget {p : Nat} {k : Park} {new : Owner} {cause : OwnerCause} : (s.retarget p k new cause).Inv := h.setPort

theorem settleOwner {cause : OwnerCause} {p : Nat} : (s.settleOwner cause p).Inv := by
  unfold State.settleOwner
  extract_lets _ _
  split
  · exact .ite h.retarget (.ite h.setPort h)
  · exact .ite h h.startPark

theorem settleOwners {cause : OwnerCause} : (s.settleOwners cause).Inv := h.each fun _ _ h => h.settleOwner

theorem clampAll : s.clampAll.Inv := h.withPorts

theorem captureOwner {p : Nat} {k : Park} : (s.captureOwner p k).Inv := .ite h h.blockEntryTo

theorem parkEnds {p : Nat} {k : Park} : (s.parkEnds p k).Inv := .setPort (.ite h h.loaded)

theorem leavePark {p : PortNo} : (s.leavePark p).Inv := by
  unfold State.leavePark
  split
  · exact h
  · extract_lets s1 s2 s3
    have h1 : s1.Inv := h.parkEnds.captureOwner.recompare
    have h2 : s2.Inv := h1.restartFilter
    have h3 : s3.Inv := .ite h2.settle (.ite h2.settle h2)
    exact .ite h h3.noteMark

theorem applyFunction {p old new at' : Nat} : (s.applyFunction p old new at').Inv := .ite h h.setPort

theorem restartReceiver {p : Nat} {old new : Int} {at' : Tk} : (s.restartReceiver p old new at').Inv := .ite h.setPort h

theorem applySetting {p : PortNo} {sub : Nat} {old new : Int} {at' : Nat} : (s.applySetting p sub old new at').Inv := by
  unfold State.applySetting
  refine .cellFollows ?_
  refine .ite h.applyFunction ?_
  refine .ite (.ite h.settle h) ?_
  refine .ite (.ite h.settle h) ?_
  refine .ite (.ite h.setPort h) ?_
  refine .ite ?_ (.ite h.setPort h)
  exact .ite (.restartReceiver (.ite h.settle h)) (.setPort (.restartReceiver (.ite h.settle h)))

theorem writeActs {p : PortNo} {sub : Nat} {old new : Int} {at' : Tk} : (s.writeActs p sub old new at').Inv :=
  .ite h.applySetting (.cellFollows (.ite h.restartReceiver h))

theorem portStore {p : PortNo} {sub : Nat} {v : Int} : (s.portStore p sub v).Inv := .ite h.setObj.setPort h.setObj.writeActs

theorem portWrite {p : PortNo} {sub : Nat} {v : Int} : (s.portWrite p sub v).Keeps := .refuseWith (.ok h.portStore)

theorem releaseHeld {p : PortNo} {e : Tk} {n : Nat} : (State.releaseHeld p e n s).Inv := by
  induction n generalizing s with
  | zero => exact h
  | succ n ih =>
    unfold State.releaseHeld
    split
    · exact h
    · split
      · exact h
      · exact ih h.setPort.writeActs

theorem endRangeChange {p : PortNo} : (s.endRangeChange p).Inv := by
  unfold State.endRangeChange
  extract_lets _ s1
  have h1 : s1.Inv := h.setPort
  split
  · exact .ite h (.ite h1 h1.releaseHeld)
  · exact h

theorem portFault {p : Nat} {cause : PortCause} : (s.portFault p cause).Inv :=
  .ite h.countUp.logRec h.countUp.logRec.setPort.settleOwner

theorem clearFault {p : PortNo} {v : Int} {gone : Bool} : (s.clearFault p v gone).Keeps := by
  unfold State.clearFault
  split
  · exact .ok h
  · split
    · exact .ok h
    · exact .ite (.ok h.setPort.settleOwner) .refuse

theorem ownerObjectWrite {a : Accessor} {p : PortNo} {sub : Nat} {v : Int} : (s.ownerObjectWrite a p sub v).Keeps :=
  .ite (.refuseWith (.ok h.setObj)) (.ok h.setObj)

theorem portResets {p : Nat} : (s.portResets p).Inv := by
  unfold State.portResets
  extract_lets _ s1 s2 s3 s4 _ s5 s6
  have h1 : s1.Inv := .ite h.setObj h
  have h2 : s2.Inv := h1.each fun _ _ h => h.setSweep
  have h3 : s3.Inv := h2.each fun _ _ h => .ite h.setObj h
  have h4 : s4.Inv := h3.each fun _ _ h => .ite h.setZone h
  have h5 : s5.Inv := h4.resetObjs
  have h6 : s6.Inv := .ite h5 h5.resetObjs
  exact h6.resetClaimObjs.loaded.cellFollows

theorem portClaimEnds {cause : OwnerCause} {p : Nat} : (s.portClaimEnds cause p).Inv := h.portResets.settleOwner

theorem followPin {n : PinNo} : (s.followPin n).Inv := by
  unfold State.followPin
  extract_lets _ _ _ s1 _
  have h1 : s1.Inv := h.setPin
  exact .ite h1.setFilter (.ite h1.setFilter.setLevel h1.lineSignal)

theorem followPins : s.followPins.Inv := h.foldl fun _ _ h => h.followPin

theorem startSensing {n : PinNo} : (s.startSensing n).Inv := h.restartFilter

theorem pinWrite {n : PinNo} {sub : Nat} {v : Int} : (s.pinWrite n sub v).Keeps := by
  unfold State.pinWrite
  extract_lets _ s1 s2 goes drives
  have h1 : s1.Inv := h.setObj
  have h2 : s2.Inv := .ite h1.syncSkips h1
  have hgoes : ∀ x, Res.Keeps (goes x) := fun _ => .ite (.ok h2.startSensing.followPin) (.ok h2.followPin)
  have hdrives : ∀ x, Res.Keeps (drives x) := fun _ => .ite (.refuseIf (hgoes ())) (hgoes ())
  split
  · exact .refuseIf (hdrives ())
  · exact hdrives ()

theorem freezePins : s.freezePins.Inv := h.each fun _ _ h => h.setPin

theorem thawPins : s.thawPins.Inv := by
  unfold State.thawPins
  extract_lets _ _ s1 s2
  have h1 : s1.Inv := .ite (h.same rfl) h
  have h2 : s2.Inv := h1.each fun t o h => h.setTrigOut (by simp only [List.length_map]; exact h.trigOut)
  exact h2.each fun _ _ h => h.setPin

theorem modeBecomes {m : Mode} {why : Nat} : (s.modeBecomes m why).Inv := h.changeMode.followPins

theorem setLane {n l : Nat} {x : ChainLane} : (s.setLane n l x).Inv := h.setChain

theorem tapItem {z k : Nat} {x : TapItem} : (s.tapItem z k x).Inv := .ite h.countUp.cause h.setZone

theorem tapItems {n l : Nat} {fine : Bool} {x : TapItem} : (s.tapItems n l fine x).Inv :=
  .ite h (h.foldl fun _ _ h => h.tapItem)

theorem clearLane {n l : Nat} {restart : Option (Nat × Nat)} {lag : Bool} : (s.clearLane n l restart lag).Inv := h.setLane

theorem markRestart {n l : Nat} {fine : Bool} {cause : Nat} : (s.markRestart n l fine cause).Inv := .ite h.tapItems h.setLane

theorem passMarkers {n l : Nat} {fine : Bool} : (s.passMarkers n l fine).Inv := by
  unfold State.passMarkers
  extract_lets x here left s1
  have h1 : s1.Inv := .ite h h.setLane
  exact h1.foldl fun _ _ h => h.tapItems

theorem restartLane {n l cause missing stamp : Nat} {lag : Bool} : (s.restartLane n l cause missing stamp lag).Inv := by
  unfold State.restartLane
  exact h.clearLane.cause.markRestart.markRestart

theorem chainEntry {n l bit : Nat} {e : NewEntry} : (s.chainEntry n l bit e).Inv := .ite h h.blockEntry

theorem restartRecord {n l : Nat} {instant : Tk} : (s.restartRecord n l instant).Inv := by
  unfold State.restartRecord
  extract_lets _
  split
  · exact h
  · exact h.setLane.chainEntry

theorem feedCoarse {n l : Nat} {x : Sample} {bridged : Bool} : (s.feedCoarse n l x bridged).Inv := by
  unfold State.feedCoarse
  extract_lets _ _ ln _ _ _
  split
  · extract_lets _ _
    split
    · exact h.setLane
    · exact h.setLane

theorem feedFine {n l : Nat} {x : Sample} {bridged : Bool} : (s.feedFine n l x bridged).Inv := by
  unfold State.feedFine
  extract_lets _ _ ln _ _ _ _ _ _
  split
  · extract_lets ln _
    split
    · exact h.setLane
    · split
      · extract_lets _
        split
        · extract_lets _ _
          split
          · exact h.setLane
          · extract_lets _ s1 s2
            have h1 : s1.Inv := h.setLane
            have h2 : s2.Inv := by
              simp only [s2]
              split
              · exact h1.setChain
              · exact h1
            exact .ite h2.cause h2

theorem feedInput {n l : Nat} {x : Sample} {bridged : Bool} : (s.feedInput n l x bridged).Inv := by
  unfold State.feedInput
  extract_lets _ s1
  have h1 : s1.Inv := .ite h.feedCoarse h
  exact .ite h.setLane (.ite h1.feedFine h1)

theorem feedSample {n l : Nat} {x : Sample} : (s.feedSample n l x).Inv := by
  unfold State.feedSample
  extract_lets _ s1 s2 _
  have h1 : s1.Inv := by
    simp only [s1]
    split
    · exact h.restartRecord.restartLane
    · split
      · exact h
      · exact .ite h.restartLane (.ite h.restartLane (h.foldl fun _ _ h => h.feedInput))
  have h2 : s2.Inv := h1.restartRecord
  exact h2.setLane.feedInput

theorem letConversions {n : Nat} : (s.letConversions n).Inv := .ite h (h.keepConv (by rfl))

theorem feedCode {n l : Nat} {code : Int} : (s.feedCode n l code).Inv := by
  unfold State.feedCode
  split
  · exact .ite h.feedSample.letConversions h
  · exact h

theorem feedCodes {n l : Nat} {codes : Codes} : (s.feedCodes n l codes).Inv := h.foldl fun _ _ h => h.feedCode

theorem dropSample {n l : Nat} : (s.dropSample n l).Inv := by
  unfold State.dropSample
  split
  · exact .ite h.setLane.countUp.cause h
  · exact h

theorem deliver {n l : Nat} {fine : Bool} {o : ChainOut} : (s.deliver n l fine o).Inv := by
  unfold State.deliver
  extract_lets _ _ _ _ s1 s2
  have h1 : s1.Inv := h.staleSnaps.setObj.setObj
  have h2 : s2.Inv := .ite h1 h1.chainEntry
  exact h2.tapItems

theorem deliverNext {n l : Nat} {fine : Bool} : (s.deliverNext n l fine).Inv := by
  unfold State.deliverNext
  extract_lets _
  split
  · split
    · exact h.setLane.deliver.passMarkers
    · exact h
  · split
    · exact h.setLane.deliver.passMarkers
    · exact h

theorem startSwap {n : Nat} {bk : Bank} {at' : Tk} : (s.startSwap n bk at').Inv := .ite h h.setChain

theorem swapWrite {n v : Nat} : (s.swapWrite n v).Inv := .ite h.setObj.setChain h.setObj.startSwap

theorem finishFade {n : Nat} {bk : Bank} {at' : Tk} : (s.finishFade n bk at').Inv := h.setChain.setObj.cause

theorem fadeEnds {n : Nat} : (s.fadeEnds n).Inv := by
  unfold State.fadeEnds
  extract_lets _
  split
  · exact h
  · extract_lets s1
    have h1 : s1.Inv := h.finishFade
    split
    · exact h
    · split
      · exact h1.startSwap
      · exact h1

theorem cutFade {n : Nat} {at' : Tk} : (s.cutFade n at').Inv := by
  unfold State.cutFade
  extract_lets _
  split
  · exact h
  · exact h.finishFade

theorem restartChain {n cause at' : Nat} : (s.restartChain n cause at').Inv := by
  unfold State.restartChain
  extract_lets s1 _ s2 s3
  have h1 : s1.Inv := h.cutFade
  have h2 : s2.Inv := h1.setChain
  have h3 : s3.Inv := h2.each fun _ _ h => h.restartLane.setLane
  exact h3.letConversions

theorem bankStore {n : Nat} {bk : Bank} {bs : Bytes} : (s.bankStore n bk bs).Keeps :=
  .refuseIf (.refuseIf (.refuseIf (.ok h.setBlob)))

theorem syncRequest {n : Nat} {stamp : Tk} {command : Bool} : (s.syncRequest n stamp command).Inv :=
  .ite h.setChain (.ite h.setChain.countUp.cause h.countUp.cause)

theorem syncGroup {who mask stamp : Nat} : (s.syncGroup who mask stamp).Inv := h.each fun _ _ h => .ite h.syncRequest h

theorem syncEdge {stamp : Tk} : (s.syncEdge stamp).Inv := .ite h (h.each fun _ _ h => .ite h.syncRequest h)

theorem regrid {q : Nat} {at' : Tk} : (s.regrid q at').Inv :=
  .ite (h.keepConv (by rfl)) (.ite (h.keepConv (by rfl)) (h.keepConv (by rfl)))

theorem syncResetAt {n : Nat} : (s.syncResetAt n).Inv := by
  unfold State.syncResetAt
  split
  · exact h
  · exact .ite h h.setChain.regrid.restartChain.setObj.cause

theorem chainConfig {n sub v : Nat} : (s.chainConfig n sub v).Keeps := .refuseIf (.refuseIf (.ok h.setObj.restartChain))

theorem chainWrite {a : Accessor} {n sub v : Nat} : (s.chainWrite a n sub v).Keeps := by
  unfold State.chainWrite
  split
  · exact h.chainConfig
  · split
    · exact .ite (.refuseWith (.ok h.setObj)) (.ok h.setObj)
    · exact .ite (.ok h.syncGroup) (.ite (.ok h.swapWrite) (.ite (.ok h.eventWrite) (.ok h.setObj)))

theorem chainClaimEnds {n : Nat} : (s.chainClaimEnds n).Inv := by
  unfold State.chainClaimEnds
  extract_lets _ s1 _ s2 s3 s4 s5
  have h1 : s1.Inv := .ite h.finishFade h
  have h2 : s2.Inv := h1.setChain
  have h3 : s3.Inv := h2.resetBlock
  have h4 : s4.Inv := h3.setBlob.setBlob.setObj
  have h5 : s5.Inv := h4.restartChain
  exact h5.resetObjs

theorem conversionEnds {q taken : Nat} {cut : Bool} : (s.conversionEnds q taken cut).Inv := by
  unfold State.conversionEnds
  extract_lets c _ _ _ c1
  have kept : c1.triggers = c.triggers := by
    simp only [c1]
    split <;> rfl
  refine h.keepConv ?_
  split
  · exact kept
  · exact kept

theorem newestResult {q l gain measure flags first : Nat} {mean : Int} :
    (s.newestResult q l gain measure flags first mean).Inv := h.staleSnaps.setObj.setObj

theorem writeResult {q : Nat} {codes : Codes} : (s.writeResult q codes).Inv := .newestResult (.ite h.blockEntry h)

theorem rawEntry {q : Nat} {v : Conversion} {next : Nat} {cut : Bool} {codes : Codes} : (s.rawEntry q v next cut codes).Inv :=
  h.blockEntry

theorem writeRaw {q : Nat} {codes : Codes} : (s.writeRaw q codes).Inv := by
  unfold State.writeRaw
  extract_lets _ _ _ _ s1 _
  have h1 : s1.Inv := h.rawEntry
  split
  · exact h
  · split
    · exact .ite h (h.rawEntry.keepConv (by rfl))
    · exact .ite (h1.keepConv (by rfl)) h

theorem applyPeriod {q : Nat} {at' : Tk} : (s.applyPeriod q at').Inv :=
  .ite (h.keepConv (by rfl)) (h.keepConv (by rfl)).setObj.restartChain

theorem periodChanged {q : Nat} : (s.periodChanged q).Inv := .ite h.applyPeriod (h.keepConv (by rfl))

theorem settleReference {q time : Nat} : (s.settleReference q time).Inv := h.keepConv (by rfl)

theorem abortSlot {q : Nat} : (s.abortSlot q).Inv := by
  unfold State.abortSlot
  extract_lets c c' s1
  have h1 : s1.Inv := by
    refine h.keepConv ?_
    simp only [c']
    split <;> rfl
  split
  · exact h
  · exact h1.setObj.cause
  · exact h1.setObj.cause

theorem convDefaults {q : Nat} : (s.convDefaults q).Inv := .periodChanged (.ite h.resetBlock.settleReference h.resetBlock)

theorem sequenceStops {q : Nat} {cause : StopCause} : (s.sequenceStops q cause).Inv := by
  unfold State.sequenceStops
  extract_lets _ _ s1 _ s2
  have h1 : s1.Inv := .ite (h.conversionEnds.keepConv (by rfl)) h
  have h2 : s2.Inv := h1.setConv (Nat.zero_le _)
  split
  · exact h2
  · exact h2
  · exact h2.setObj.abortSlot.cause
  · exact h2.setObj.abortSlot.cause.convDefaults

omit h in
/-- A stop that waits keeps the triggers of its converter. -/
theorem stopping_triggers (c : Converter) (cause : StopCause) (now : Tk) : (c.stopping cause now).triggers = c.triggers := by
  unfold Converter.stopping
  split <;> rfl

theorem convStop {q : Nat} {cause : StopCause} : (s.convStop q cause).Inv :=
  .ite h.sequenceStops (h.keepConv (stopping_triggers _ _ _))

theorem convHalt {q : Nat} : (s.convHalt q).Inv := .sequenceStops (.ite h h.abortSlot)

theorem atBoundary {q : Nat} {at' : Tk} : (s.atBoundary q at').Inv :=
  .ite (h.keepConv (by rfl)).applyPeriod (h.keepConv (by rfl))

theorem stopAtBoundary {q : Nat} : (s.stopAtBoundary q).Inv := by
  unfold State.stopAtBoundary
  extract_lets _
  split
  · exact h
  · split
    · exact (h.keepConv (by rfl)).sequenceStops
    · split
      · split
        · exact h.conversionEnds.atBoundary.sequenceStops
        · exact h
      · exact .ite h.sequenceStops h

theorem passEnds {q : Nat} {at' : Tk} : (s.passEnds q at').Inv :=
  .cause (.ite (h.keepConv (by rfl)).countUp.setObj (h.keepConv (by rfl)).countUp)

theorem continuePass {q : Nat} : (s.continuePass q).Inv := .ite (h.keepConv (by rfl)) h

theorem entryEnds {q : Nat} {codes : Codes} : (s.entryEnds q codes).Inv := by
  unfold State.entryEnds
  extract_lets _ s1 _
  have h1 : s1.Inv := h.writeResult.conversionEnds.atBoundary
  exact .ite (h1.keepConv (by rfl)) h1.passEnds

theorem passStarts {q : Nat} : (s.passStarts q).Inv := by
  unfold State.passStarts
  extract_lets c c1 s1
  have within : c1.triggers.length ≤ 4 := by
    simp only [c1]
    split
    · exact (by rw [List.length_drop]; omega : (c.triggers.drop 1).length ≤ c.triggers.length).trans h.conv
    · exact h.conv
  have h1 : s1.Inv := h.setConv within
  split
  · exact h
  · extract_lets _
    split
    · exact h
    · split
      · exact h.setConv within
      · exact .ite h1 h1.setObj

theorem cutsEntry {q k : Nat} : (s.cutsEntry q k).Inv := h.conversionEnds.keepConv (by rfl)

theorem beginUrgent {q : Nat} {at' : Tk} : (s.beginUrgent q at').Inv := by
  unfold State.beginUrgent
  extract_lets _
  split
  · exact (h.keepConv (by rfl)).setObj
  · exact h.keepConv (by rfl)
  · exact h

theorem urgentStarts {q : Nat} : (s.urgentStarts q).Inv := by
  unfold State.urgentStarts
  extract_lets _ _
  split
  · exact h
  · split
    · split
      · exact .ite h h.beginUrgent
      · exact h
    · split
      · exact .ite h (h.keepConv (by rfl)).beginUrgent
      · split
        · exact h.cutsEntry.beginUrgent
        · exact h
    · exact h

theorem urgentEnds {q : Nat} {codes : Codes} : (s.urgentEnds q codes).Inv := by
  unfold State.urgentEnds
  extract_lets _ s1 _ s2 s3
  have h1 : s1.Inv := h.writeResult.conversionEnds
  have h2 : s2.Inv := h1.keepConv (by rfl)
  have h3 : s3.Inv := h2.setObj.atBoundary
  exact h3.cause.continuePass

theorem urgentAccept {q v : Nat} {step : Option Nat} : (s.urgentAccept q v step).Inv := (h.keepConv (by rfl)).setObj.setObj

theorem urgentWrite {who q v : Nat} : (s.urgentWrite who q v).Keeps := .refuseWith (.refuseWith (.ok h.urgentAccept))

theorem diagnosisWrite {q v : Nat} : (s.diagnosisWrite q v).Keeps :=
  .refuseIf (.refuseWith (.refuseIf (.ok (h.keepConv (by rfl)).setObj.setObj)))

theorem diagnosisEnds {q : Nat} {ms : List Int} : (s.diagnosisEnds q ms).Inv := by
  have few : ({ s.conv q with slot := .free } : Converter).triggers.length ≤ 4 := h.conv
  exact (State.Inv.setConv h.setObj.setObj.setObj.setObj few).atBoundary.cause.continuePass

theorem runModeWrite {q v : Nat} : (s.runModeWrite q v).Keeps := by
  unfold State.runModeWrite
  extract_lets _ s1 _
  have h1 : s1.Inv := h.setObj
  split
  · exact .ok (.ite (h1.keepConv (stopping_triggers _ _ _)) h1.sequenceStops)
  · split
    · exact .refuse
    · exact .ok (.setConv h.setObj (Nat.zero_le _))

theorem triggerWrite {q v : Nat} : (s.triggerWrite q v).Keeps := .ite .refuse (.ite (.ok h.signal) (.ok h))

theorem convWrite {a : Accessor} {q sub : Nat} {v : Int} : (s.convWrite a q sub v).Keeps := by
  unfold State.convWrite
  refine .ite h.runModeWrite ?_
  refine .ite (.refuseIf (.ok h.setObj.periodChanged)) ?_
  refine .ite (.refuseIf (.ok h.setObj.settleReference)) ?_
  refine .ite (.refuseIf (.ok h.setObj.settleReference)) ?_
  refine .ite (.refuseIf (.ok h.setObj)) ?_
  refine .ite (.refuseWith (.refuseIf (.ok h.setObj))) ?_
  refine .ite h.triggerWrite ?_
  refine .ite h.urgentWrite ?_
  refine .ite h.diagnosisWrite ?_
  exact .ite (.ok h.eventWrite) (.ok h.setObj)

theorem timerTriggers {q : Nat} : (s.timerTriggers q).Inv := by
  unfold State.timerTriggers
  extract_lets _
  split
  · exact .ite h (h.keepConv (by rfl)).signal
  · exact h

theorem referenceSettles {q : Nat} : (s.referenceSettles q).Inv := .ite (h.keepConv (by rfl)) h

theorem beginTxn {t : Txn} : (s.beginTxn t).Inv := h.withCellar

theorem abandonTxn : s.abandonTxn.Inv := by
  unfold State.abandonTxn
  split
  · exact h
  · exact h.withCellar.countUp.cause

theorem wantTxn {why : TxnFor} {changes : List Stored} {reply : optParam (Option ReplyTo) none} :
    (s.wantTxn why changes reply).Inv := .ite h (.ite h.beginTxn h.withCellar)

theorem refuseSpace {t : Txn} : (s.refuseSpace t).Inv := h.beginTxn.abandonTxn.cause.logRec

theorem hostTxn {why : TxnFor} {changes : List Stored} {full : optParam Nat 251727873} : (s.hostTxn why changes full).Keeps :=
  .ite .refuse (.ite .refuse (.ite (.refuseAfter h.refuseSpace) (.ok h.wantTxn)))

theorem nextTxn : s.nextTxn.Inv := by
  unfold State.nextTxn
  split
  · exact .ite h.withCellar.beginTxn h
  · exact h

theorem commitTxn : s.commitTxn.Inv := by
  unfold State.commitTxn
  split
  · exact h
  · exact h.withCellar.countUp

theorem planStore {slot : Nat} {i : Bytes} : (s.planStore slot i).Keeps :=
  .refuseIf (.ite (.refuseAfter h.setObj) (.refuseIf h.setObj.hostTxn))

theorem setGrants {module_ : Nat} {dies : List Nat} : (s.setGrants module_ dies).Inv := h.setObj.foldl fun _ _ h => h.setObj

theorem showGrants : s.showGrants.Inv := .ite h.setGrants h

theorem reserve {claim : Nat} {u : State} (e : s.reserve claim = some u) : u.Inv := by
  unfold State.reserve at e
  split at e
  · cases e
    exact h
  · split at e
    · cases e
      exact h.same rfl
    · cases e

theorem settleEnergy {claim : Nat} {energy : Int} : (s.settleEnergy claim energy).Inv := by
  unfold State.settleEnergy
  extract_lets _ _ _ s1 s2
  have h1 : s1.Inv := h.withGov
  have h2 : s2.Inv := .ite h1.cause h1
  exact .ite h (.ite h2.setObj.cause h2)

theorem takeFigure {f : Figure} : (s.takeFigure f).Inv := by
  unfold State.takeFigure
  split
  · exact h.setPort
  · exact h.withGov

theorem sampleFigures {temps : Temps} {figs : Figures} : (s.sampleFigures temps figs).Inv := by
  unfold State.sampleFigures
  extract_lets s1 _ _ s2 _ _ _
  have h1 : s1.Inv := h.foldl fun _ _ h => h.takeFigure
  have h2 : s2.Inv := h1.foldl fun _ _ h => h.setStep
  exact h2.withGov

theorem setTarget {target : Nat} : (s.setTarget target).Inv := .ite h h.withGov.setObj.cause

theorem ratesFollow {lowered : Bool} : (s.ratesFollow lowered).Inv := .cause (h.withGov.each fun _ _ h => h.periodChanged)

theorem vcorePeriod {tmax pd : Int} : (s.vcorePeriod tmax pd).Inv := by
  unfold State.vcorePeriod
  extract_lets _ _ _ _ _ s1 _ _ _ _ s2 s3
  have h1 : s1.Inv := h.withGov
  have h2 : s2.Inv := .ite h1.ratesFollow h1
  have h3 : s3.Inv := .ite h2.setTarget h1.setTarget
  exact .ite h3.ratesFollow h3

theorem levelPeriod {tmax pa : Int} : (s.levelPeriod tmax pa).Inv := by
  unfold State.levelPeriod
  extract_lets _ s1
  have h1 : s1.Inv := .ite h h.setObj.cause
  exact .ite h1.modeBecomes.countUp.cause (.ite h1.modeBecomes.cause h1)

theorem booksPeriod {rate : Int} : (s.booksPeriod rate).Inv := by
  unfold State.booksPeriod
  extract_lets _ _ _ _ _ s1 s2 s3 _ s4 s5
  have h1 : s1.Inv := h.withGov
  have h2 : s2.Inv := h1.setObj
  have h3 : s3.Inv := .ite h2.cause h2
  have h4 : s4.Inv := h3.countUp.setObj
  have h5 : s5.Inv := h4.setObj.setObj
  exact h5.setObj.setObj

theorem periodEnds {pv : Int} : (s.periodEnds pv).1.Inv := by
  unfold State.periodEnds
  extract_lets _ _ _ s1 s2 _ s4 _ _ _ _ _ _ _
  have h1 : s1.Inv := h.foldl fun _ _ h => h.setObj
  have h2 : s2.Inv := .ite h1.cause h1
  have h4 : s4.Inv := .ite h2.setObj.setObj h2.setObj
  split
  · extract_lets _ _ _ _ s7 _ s8 s9 _ s11 s12 s13 _ _
    have h7 : s7.Inv := h4.setObj.setObj.setObj.setObj.setObj.setObj.booksPeriod
    have h8 : s8.Inv := h7.foldl fun _ _ h => h.setObj
    have h9 : s9.Inv := h8.foldl fun t d h => by
      split
      · exact h.setObj
      · exact h
    have h11 : s11.Inv := .ite h9.setObj.vcorePeriod h9.setObj
    have h12 : s12.Inv := .ite h11.cause h11
    have h13 : s13.Inv := .ite h12.levelPeriod h12
    exact h13.same rfl

theorem governorWrite {sub : Nat} {v : Int} : (s.governorWrite sub v).Keeps :=
  .refuseIf (.ite (.ok h.eventWrite) (.ite (.ok h.setObj) (.ok h.setObj)))

theorem pointToRange {r p : Nat} : (s.pointToRange r p).Inv := h.setPort.settle.cellFollows

theorem pointsToRange {r : Nat} : (s.pointsToRange r).Inv := h.each fun _ _ h => h.pointToRange

theorem pointClamps {ppm p : Nat} : (s.pointClamps ppm p).Inv := h.setPort

theorem pointOff {p : Nat} : (s.pointOff p).Inv := h.setPort.settle.cellFollows

theorem pointRests {excited : List Nat} {p : Nat} : (s.pointRests excited p).Inv :=
  .cellFollows (.ite h.setPort h.setPort.settle)

theorem noteSource {n at' : Nat} : (s.noteSource n at').Inv := h.setBusSource

theorem sourceDrives {n : Nat} {current : Bool} {range : Nat} {level : Int} {at' : Tk} :
    (s.sourceDrives n current range level at').Inv := h.setBusSource.noteSource

theorem sourceOff {n : Nat} : (s.sourceOff n).Inv := .ite h.setBusSource.noteSource h

theorem mapperEnables {who : Nat} : (s.mapperEnables who).Keeps :=
  .refuseWith (.ok (.settleOwners (.ite h.setObj.withMap h.setObj)))

theorem referenceStore {slot : Nat} {b : Bytes} : (s.referenceStore slot b).Keeps := .refuseIf (.refuseIf h.hostTxn)

theorem mapWrites {e : NewEntry} : (s.mapWrites e).Inv := h.blockEntryTo

theorem mapReleases : s.mapReleases.Inv := by
  unfold State.mapReleases
  extract_lets _ s1 _ s2 _ _
  have h1 : s1.Inv := .ite (h.each fun _ _ h => h.sourceOff) h
  have h2 : s2.Inv := h1.foldl fun _ _ h => (h.setChain.keepConv (by rfl)).setObj.restartChain
  exact h2.withDisp.setGrants

theorem mapStepDone {verdict diffs cause : Nat} : (s.mapStepDone verdict diffs cause).Inv := by
  unfold State.mapStepDone
  split
  · exact h
  · exact .ite h h.setStep

theorem mapFinishes {verdict diffs cause : Nat} : (s.mapFinishes verdict diffs cause).Inv := by
  unfold State.mapFinishes
  extract_lets _ _ s1 s2 s3 s4 s5 s6 _ s7
  have h1 : s1.Inv := h.mapWrites
  have h2 : s2.Inv := .setObj (.ite h1 h1.setObj)
  have h3 : s3.Inv := h2.countUp.setObj
  have h4 : s4.Inv := h3.setObj.setObj
  have h5 : s5.Inv := h4.mapReleases
  have h6 : s6.Inv := h5.mapStepDone
  have h7 : s7.Inv := h6.withMap
  exact .cause (h7.each fun _ _ h => h.pointRests)

theorem mapAborts {cause : Nat} : (s.mapAborts cause).Inv :=
  .ite h (.ite h.mapReleases.setObj.withMap h.mapWrites.mapFinishes)

theorem mapperDisables : s.mapperDisables.Inv := h.mapAborts.setObj.withMap.settleOwners

theorem mapLosesPoint {p cause : Nat} : (s.mapLosesPoint p cause).Inv := .ite h.mapAborts h

theorem mapTryStart : s.mapTryStart.Inv := by
  unfold State.mapTryStart
  extract_lets s1 m _ _ _
  have h1 : s1.Inv := h.showGrants
  split
  · exact .ite h1.mapAborts h1
  · extract_lets _ s2 s3
    have h2 : s2.Inv := h1.withMap
    have h3 : s3.Inv := h2.setObj.setObj.setObj
    exact .ite h3.cause h3

theorem mapHolds {q : Nat} : (s.mapHolds q).Inv := h.setChain.applyPeriod

theorem mapStarts {who sel slot chip periods : Nat} {step : Option Nat} : (s.mapStarts who sel slot chip periods step).Inv :=
  by
  unfold State.mapStarts
  extract_lets _ s1 s2 s3 s4
  have h1 : s1.Inv := h.withMap
  have h2 : s2.Inv := .setObj (h1.foldl fun _ _ h => h.mapHolds)
  have h3 : s3.Inv := h2.each fun _ _ h => h.setObj
  have h4 : s4.Inv := .mapTryStart (.ite h3.setTarget h3)
  exact .ite h4.cause.cause h4

theorem mapRests {rests : RestSamples} : (s.mapRests rests).Inv := .ite h.withMap h

theorem passDone : s.passDone.Inv := by
  unfold State.passDone
  extract_lets _ _ s1 s2
  have h1 : s1.Inv := h.withMap
  have h2 : s2.Inv := .ite h1.pointsToRange (.ite h1.pointsToRange h1)
  exact h2.cause

theorem mapGroupEnds {rests : RestSamples} {samples : MapSamples} : (s.mapGroupEnds rests samples).Inv := by
  unfold State.mapGroupEnds
  extract_lets _ _ _ s1 _ _ _ s2
  have h1 : s1.Inv := h.mapRests
  have h2 : s2.Inv := h1.withMap
  exact .ite h (.ite h.mapAborts (.ite h2 h2.passDone))

theorem roundStarts {tr : Tk} : (s.roundStarts tr).Inv := by
  unfold State.roundStarts
  extract_lets s1 _ s2
  have h1 : s1.Inv := h.each fun _ _ h => h.setPort.cellFollows
  have h2 : s2.Inv := h1.foldl fun _ _ h => h.sourceDrives.sourceDrives
  exact h2.each fun _ _ h => h.sourceOff

theorem mapRefines : s.mapRefines.Inv := by
  unfold State.mapRefines
  extract_lets _ _ _ _ _ _ s1
  have h1 : s1.Inv := h.withMap.setObj
  exact .ite h.mapAborts (.roundStarts (h1.each fun _ _ h => h.pointOff))

theorem mapPass2 : s.mapPass2.Inv := by
  unfold State.mapPass2
  extract_lets m _
  split
  · exact h.mapAborts
  · extract_lets _ s1 s2
    have h1 : s1.Inv := h.withMap.setObj.setObj
    have h2 : s2.Inv := h1.each fun _ _ h => h.pointClamps
    exact .ite h2.cause h2

theorem mapAfterPasses : s.mapAfterPasses.Inv := .ite h.mapRefines h.withMap

theorem mapAnalysed : s.mapAnalysed.Inv := by
  unfold State.mapAnalysed
  extract_lets _ _ _ _ s1 s2 _ s3
  have h1 : s1.Inv := h.withMap
  have h2 : s2.Inv := h1.setObj.setObj
  have h3 : s3.Inv := h.withMap
  exact .ite h (.ite (.ite h2.mapPass2 h2.mapAfterPasses) (.ite h3.setObj.mapAfterPasses h))

theorem mapRoundEnds {rs : RoundResults} : (s.mapRoundEnds rs).Inv := by
  unfold State.mapRoundEnds
  extract_lets _ _ _ _ next s1
  have h_next : next.Inv := h.nextFresh
  have h1 : s1.Inv := h_next.withMap.roundStarts
  exact .ite h (.ite h1 h1.withMap)

theorem mapEnds : s.mapEnds.Inv := .ite h (.mapFinishes (.nextFresh (h.foldl fun _ _ h => h.mapWrites)))

theorem mapGranted : s.mapGranted.Inv := .ite h.mapTryStart h

theorem mapWaitOver : s.mapWaitOver.Inv := .ite h.mapAborts h

theorem mapStart {who : Nat} : (s.mapStart who).Keeps := .refuseIf (.refuseWith (.refuseWith (.ok h.mapStarts)))

theorem mapperWrite {who sub v : Nat} : (s.mapperWrite who sub v).Keeps := by
  unfold State.mapperWrite
  refine .ite (.ite (.ite (.ok h) h.mapperEnables) (.ok h.mapperDisables)) ?_
  refine .ite (.refuseIf (.ite (.refuseWith (.ok (h.setObj.each fun _ _ h => h.settleOwner))) (.ok h.setObj))) ?_
  refine .ite (.ite h.mapStart (.ite (.ok h.mapAborts) .refuse)) ?_
  exact .ite (.ok h.eventWrite) (.refuseIf (.ite (.refuseWith (.ok h.setObj)) (.ok h.setObj)))

theorem sweepSetsLevel {m : Nat} {a : Bytes} : (s.sweepSetsLevel m a).Inv := by
  unfold State.sweepSetsLevel
  exact .ite (h.each fun _ _ h => h.settle.noteMark) h.sourceDrives.sourceDrives

theorem sweepStarts {k : Nat} {a : Bytes} : (s.sweepStarts k a).Inv :=
  .ite h.setSweep.settleOwners h.setSweep.settleOwners.sweepSetsLevel

theorem sweepMeasured {m : Nat} {r : SweepReading} : (s.sweepMeasured m r).Inv := by
  unfold State.sweepMeasured
  extract_lets _ _ _ s1 s2 _
  have h1 : s1.Inv := .ite h.cause h
  have h2 : s2.Inv := .ite h1 (h1.each fun _ _ h => h.setBusSource)
  split
  · exact h
  · extract_lets _ s3
    have h3 : s3.Inv := h2.nextFresh.setStep
    exact .ite h (.ite h2.setSweep.sweepSetsLevel (.ite h3.setSweep (.ite h3.setSweep.sweepSetsLevel h3.setSweep)))

theorem sweepStops {m : Nat} : (s.sweepStops m).Inv := h.sourceOff.sourceOff.setSweep.settleOwners.cause

theorem sweepEnds {m : Nat} : (s.sweepEnds m).Inv := by
  unfold State.sweepEnds
  extract_lets _ s1
  have h1 : s1.Inv := h.sweepStops
  split
  · exact .ite h1.setStep h1
  · exact h

theorem actionStops {k cause : Nat} : (s.actionStops k cause).Inv := .ite h.setStep h

theorem stepAnswers {k : Nat} {vs : List Int} {cause : Nat} : (s.stepAnswers k vs cause).Inv := .ite h h.setStep.actionStops

theorem canSends {e : Nat} {b : Bytes} {step : Option Nat} : (s.canSends e b step).Inv := h.setCan

theorem canTransmits {e : Nat} {b : Bytes} : (s.canTransmits e b).Keeps := by
  unfold State.canTransmits
  split
  · exact .refuse
  · exact .ok h.canSends

theorem canCounts {e tec rxErr : Nat} : (s.canCounts e tec rxErr).Inv := .ite h.setCan h.setCan.cause

theorem requestGone {step : Option Nat} : (s.requestGone step).Inv := by
  unfold State.requestGone
  split
  · split
    · exact h.actionStops
    · exact h
  · exact h

theorem canTransmitted {e : Nat} : (s.canTransmitted e).Inv := by
  unfold State.canTransmitted
  extract_lets _ s1
  have h1 : s1.Inv := h.setCan.canCounts
  split
  · exact h
  · extract_lets s2
    have h2 : s2.Inv := by
      simp only [s2]
      split
      · exact .ite h1.setStep h1
      · exact h1
    exact .ite h h2.requestGone.cause

theorem canReceives {e : Nat} {f : CanFrame} : (s.canReceives e f).Inv := by
  unfold State.canReceives
  extract_lets _ _ _ s1 s2 _ s3
  have h1 : s1.Inv := h.nextFresh.canCounts
  have h2 : s2.Inv := .ite (h1.foldl fun _ _ h => h.blockEntryTo) h1
  have h3 : s3.Inv := h2.foldl fun _ _ h => .ite h h.stepAnswers
  exact .ite h h3.cause

theorem canExchangesFail {e : Nat} {ks : List Nat} : (s.canExchangesFail e ks).Inv := by
  unfold State.canExchangesFail
  extract_lets _ s1
  have h1 : s1.Inv := by
    simp only [s1]
    split
    · exact .ite h.setCan h
    · exact h
  exact h1.foldl fun _ _ h => h.actionStops

theorem canGoesOff {e : Nat} : (s.canGoesOff e).Inv := .ite h h.setCan.canExchangesFail.cause.cause

theorem canErrs {e tec rxErr : Nat} {x : CanFault} : (s.canErrs e tec rxErr x).Inv := by
  unfold State.canErrs
  extract_lets _ s1 _ s2 s3
  have h1 : s1.Inv := .ite h h.setCan
  have h2 : s2.Inv := by
    simp only [s2]
    split
    · exact .ite h1.canExchangesFail h1
    · exact .ite h1.setCan h1
    · exact h1
  have h3 : s3.Inv := .ite h2.canExchangesFail h2
  exact .ite h h3.cause

theorem canRecovered {e : Nat} : (s.canRecovered e).Inv := .ite h.setCan.cause h

theorem canEnables {e v : Nat} : (s.canEnables e v).Keeps := .refuseIf (.ok (.setObj (.ite h.setCan.requestGone h)))

theorem canRecovers {e v : Nat} : (s.canRecovers e v).Inv := .ite h.setCan h

theorem engineEnables {who idx v : Nat} : (s.engineEnables who idx v).Keeps := by
  unfold State.engineEnables
  extract_lets _ s1
  have h1 : s1.Inv := .ite h.setLin.requestGone h
  exact .ite (.refuseWith (.refuseIf (.ok h.setObj.settleOwners))) (.ite (.ok h1.setObj.settleOwners) (.ok h))

theorem saturate16 {idx sub lo : Nat} : (s.saturate16 idx sub lo).Inv := .ite h h.setObj

theorem linReceives {l : Nat} {f : LinFrame} : (s.linReceives l f).Inv := by
  unfold State.linReceives
  refine .ite h ?_
  extract_lets x _ _ _ _ s2 s3 s4
  have h2 : s2.Inv := h.setLin.blockEntryTo
  have h3 : s3.Inv := .ite h2.saturate16 (.ite h2.saturate16 h2)
  have h4 : s4.Inv := by
    simp only [s4]
    clear_value x
    split
    · split
      · exact .ite h3.setLin (.ite h3.requestGone h3.stepAnswers)
      · exact h3
    · exact h3
  exact h4.cause

theorem linHeader {l : Nat} {start : Tk} {ident : Nat} : (s.linHeader l start ident).Inv := .ite h.setLin h

theorem linMisses {l : Nat} : (s.linMisses l).Inv := by
  unfold State.linMisses
  split
  · exact h
  · exact .ite h h.setLin.requestGone.nextFresh.blockEntryTo.saturate16.cause

theorem sentReceives {r : Nat} {f : SentFrame} : (s.sentReceives r f).Inv := by
  unfold State.sentReceives
  extract_lets _ _ _ s1 _ s2 s3 s4 _ s5
  have h1 : s1.Inv := h.setSent
  have h2 : s2.Inv := h1.blockEntryTo
  have h3 : s3.Inv := by
    simp only [s3]
    split
    · exact .ite h2 h2.blockEntryTo
    · exact h2
  have h4 : s4.Inv := .ite h3 h3.saturate16.cause
  have h5 : s5.Inv := h4.foldl fun _ _ h => .ite h.stepAnswers (.ite h.stepAnswers h.setStep)
  exact .ite h (.ite h.saturate16.cause h5.cause)

theorem pwmMeasures {u : Nat} {r : PwmReading} : (s.pwmMeasures u r).Inv := by
  unfold State.pwmMeasures
  extract_lets _ _ s1 s2 s3
  have h1 : s1.Inv := h.staleSnaps.setObj
  have h2 : s2.Inv := h1.blockEntryTo
  have h3 : s3.Inv := h2.foldl fun _ _ h => .ite h.stepAnswers h.setStep
  exact .ite h h3.cause

theorem exchangeStarts {k : Nat} {a : Bytes} : (s.exchangeStarts k a).Inv := by
  unfold State.exchangeStarts
  extract_lets _ _ s1 _ _
  have h1 : s1.Inv := h.setStep
  split
  · split
    · exact h1.stepAnswers
    · exact h1.canSends
  · exact .ite h1.stepAnswers (.ite h1.stepAnswers h1.setLin)
  · exact h1

theorem exchangeCancels {k : Nat} {a : Bytes} : (s.exchangeCancels k a).1.Inv := by
  unfold State.exchangeCancels
  extract_lets _
  split
  · split
    · split
      · exact h
      · split
        · exact h.nextFresh.setCan
        · exact h.nextFresh.setCan
    · exact h
  · split
    · exact h
    · exact h
  · exact h

end

end Sys2Proof.Machine.State.Inv
end

section
/-!
SUPPORT. The reserved bits of the core registers (R257, R258) under what changes a core: registers, flags, events, entries into
handlers and returns, and writes of special registers.
-/

namespace Sys2Proof.Machine

/-- The reserved bits of a core's registers, word by word. -/
theorem core_ok_iff (c : Core) : c.ok = true ↔ c.psr &&& 0xFFFFFF00#32 = 0#32 ∧ c.epsr &&& 0xFFFFFF00#32 = 0#32 ∧
    c.fepsr &&& 0xFFFFFF00#32 = 0#32 ∧ c.nvec &&& 3#32 = 0#32 ∧ c.fvec &&& 3#32 = 0#32 ∧ c.wsel &&& 0x7FFFFFF0#32 = 0#32 := by
  simp only [Core.ok, Bool.and_eq_true, beq_iff_eq, and_assoc]

/-- A flag lies outside the reserved bits of a status word. -/
theorem putFlag_reserved (w : Word) {i : Nat} (b : Bool) (hi : i < 8) : putFlag w i b &&& 0xFFFFFF00#32 = w &&& 0xFFFFFF00#32 :=
  by
  refine BitVec.eq_of_getLsbD_eq fun j hj => ?_
  rw [BitVec.getLsbD_and, BitVec.getLsbD_and, getLsbD_putFlag w b (by omega)]
  split
  · next e =>
    have off : ∀ k < 8, (0xFFFFFF00#32).getLsbD k = false := by decide
    rw [e, off i hi, Bool.and_false, Bool.and_false]
  · rfl

theorem and_masked (w : Word) {m k : Word} (h : m &&& k = 0#32) : w &&& m &&& k = 0#32 := by
  rw [BitVec.and_assoc, h, BitVec.and_zero]

section
variable (c : Core)

@[simp] theorem ok_setReg (r : Reg) (v : Word) : (c.setReg r v).ok = c.ok := by
  unfold Core.setReg
  split <;> rfl

@[simp] theorem ok_next : c.next.ok = c.ok := rfl

theorem ok_setFlag {i : Nat} (b : Bool) (hi : i < 8) : (c.setFlag i b).ok = c.ok := by
  simp only [Core.ok, Core.setFlag, putFlag_reserved c.psr b hi]

theorem ok_mayFlag {i : Nat} (b : Option Bool) (hi : i < 8) : (c.mayFlag i b).ok = c.ok := by
  cases b with
  | none => rfl
  | some b => exact ok_setFlag c b hi

@[simp] theorem ok_setFlags (r : Alu) : (c.setFlags r).ok = c.ok := by
  rw [setFlags_eq, ok_mayFlag _ _ (by decide), ok_mayFlag _ _ (by decide), ok_setFlag _ _ (by decide), ok_setFlag _ _ (by decide)]

@[simp] theorem ok_refused (code : Nat) : (c.refused code).ok = c.ok := ok_setFlag c true (by decide)

@[simp] theorem ok_succeeded : c.succeeded.ok = c.ok := ok_setFlag c false (by decide)

/-- A delivery wakes a core, or is noted for its handler. -/
@[simp] theorem ok_receive (n : Nat) (fast : Bool) : (c.receive n fast).ok = c.ok := by
  have wakes : ∀ d : Core, (if !c.takes fast then d else if fast then { d with fastEvent := some n }
      else { d with normalEvent := some n }).ok = d.ok := by
    intro d
    split
    · rfl
    · split <;> rfl
  unfold Core.receive
  extract_lets _ d
  rw [wakes d]
  simp only [d]
  split
  · exact (ok_setFlag _ _ (by decide)).trans (ok_setReg _ _ _)
  · rfl

end

section
variable {c : Core} (h : c.ok = true)
include h

theorem started_ok {stage : CoreStage} {sess : Nat} {step : Option Nat} {arg test pc : Nat} :
    (c.started stage sess step arg test pc).ok = true := by
  obtain ⟨-, epsr, fepsr, -, -, -⟩ := (core_ok_iff c).mp h
  exact (core_ok_iff _).mpr ⟨BitVec.zero_and, epsr, fepsr, BitVec.zero_and, BitVec.zero_and, BitVec.zero_and⟩

theorem normalEntry_ok {n : Nat} : (c.normalEntry n).ok = true := by
  obtain ⟨psr, -, fepsr, nvec, fvec, wsel⟩ := (core_ok_iff c).mp h
  refine (core_ok_iff _).mpr ⟨?_, psr, fepsr, nvec, fvec, wsel⟩
  exact (putFlag_reserved _ _ (by decide)).trans ((putFlag_reserved _ _ (by decide)).trans psr)

theorem fastEntry_ok {n : Nat} : (c.fastEntry n).ok = true := by
  obtain ⟨psr, epsr, -, nvec, fvec, wsel⟩ := (core_ok_iff c).mp h
  refine (core_ok_iff _).mpr ⟨?_, epsr, psr, nvec, fvec, wsel⟩
  exact (putFlag_reserved _ _ (by decide)).trans ((putFlag_reserved _ _ (by decide)).trans
    ((putFlag_reserved _ _ (by decide)).trans psr))

/-- A return from a fast handler takes the status word that its entry has saved. -/
theorem fastReturn_ok {pc : Word} : ({ c with pc := pc, psr := c.fepsr } : Core).ok = true := by
  obtain ⟨-, epsr, fepsr, nvec, fvec, wsel⟩ := (core_ok_iff c).mp h
  exact (core_ok_iff _).mpr ⟨fepsr, epsr, fepsr, nvec, fvec, wsel⟩

theorem normalReturn_ok {pc : Word} : ({ c with pc := pc, psr := c.epsr } : Core).ok = true := by
  obtain ⟨-, epsr, fepsr, nvec, fvec, wsel⟩ := (core_ok_iff c).mp h
  exact (core_ok_iff _).mpr ⟨epsr, epsr, fepsr, nvec, fvec, wsel⟩

/-- MTS drops the bits that a special register does not hold. -/
theorem specialWrite_ok {i : Nat} {v : Word} {x : Core} (e : c.specialWrite i v = some x) : x.ok = true := by
  obtain ⟨psr, epsr, fepsr, nvec, fvec, wsel⟩ := (core_ok_iff c).mp h
  have status : writePsr c.psr v &&& 0xFFFFFF00#32 = 0#32 := by
    rw [writePsr, BitVec.and_or_distrib_right, and_masked _ (by decide), and_masked _ (by decide), BitVec.zero_or]
  unfold Core.specialWrite at e
  split at e
  · cases e; exact (core_ok_iff _).mpr ⟨status, epsr, fepsr, nvec, fvec, wsel⟩
  · cases e; exact h
  · cases e; exact (core_ok_iff _).mpr ⟨psr, and_masked _ (by decide), fepsr, nvec, fvec, wsel⟩
  · cases e; exact h
  · cases e; exact (core_ok_iff _).mpr ⟨psr, epsr, and_masked _ (by decide), nvec, fvec, wsel⟩
  · cases e; exact (core_ok_iff _).mpr ⟨psr, epsr, fepsr, and_masked _ (by decide), fvec, wsel⟩
  · cases e; exact (core_ok_iff _).mpr ⟨psr, epsr, fepsr, nvec, and_masked _ (by decide), wsel⟩
  · cases e; exact (core_ok_iff _).mpr ⟨psr, epsr, fepsr, nvec, fvec, and_masked _ (by decide)⟩
  · split at e
    · cases e; exact h
    · cases e

end

/-- A write of an object, as a step's action takes it, keeps the invariant. -/
def PutsKeep (put : State → Accessor → Nat → Nat → Bytes → Res) : Prop := ∀ u a i j b, u.Inv → (put u a i j b).Keeps

end Sys2Proof.Machine
end

section
/-!
SUPPORT. The invariant under the operations of the event controller, the step cores, plans and the time base.
-/

namespace Sys2Proof.Machine.State.Inv

section
variable {s : State} (h : s.Inv)
include h

theorem completeSource {n : Nat} : (s.completeSource n).Inv := (h.keepSource (by rfl)).settleSource.levelArrival

theorem writeCompletion {writer n : Nat} : (s.writeCompletion writer n).Inv := .ite h.completeSource h.countUp.setObj

theorem completeHeld {k : Nat} : (s.completeHeld k).Inv := h.foldl fun _ _ h => h.completeSource

theorem serve {n k : Nat} : (s.serve n k).Inv := .countUp (h.setSource (by exact Nat.zero_le _))

theorem deliverTo {n k : Nat} : (s.deliverTo n k).Inv := by
  unfold State.deliverTo
  extract_lets _ s1
  have h1 : s1.Inv := h.serve.offerEntry
  exact .ite (h.serve.keepCore (ok_receive _ _ _)) (.ite h1 h1.completeSource)

theorem commitSource {n : Nat} : (s.commitSource n).Inv := by
  unfold State.commitSource
  split
  · exact h
  · split
    · exact h
    · exact .ite h h.deliverTo

theorem timeLimit {n : Nat} : (s.timeLimit n).Inv := .ite h.settleSource h

theorem levelVanishes {n : Nat} : (s.levelVanishes n).Inv := .ite h.setLevel h

theorem reconfigured {n : Nat} {hadTarget relax : Bool} : (s.reconfigured n hadTarget relax).Inv :=
  .levelArrival (.settleSource (.ite (h.keepSource (by rfl)) h))

theorem configured {n : Nat} {v : Int} : (s.configured n v).Inv := h.setObj.reconfigured

theorem sourceConfigure {n v : Nat} : (s.sourceConfigure n v).Keeps := .refuseIf (.refuseIf (.refuseIf (.ok h.configured)))

theorem sourceUnclaimed {n : Nat} : (s.sourceUnclaimed n).Inv := h.configured

theorem subscribe {sess word v : Nat} : (s.subscribe sess word v).Keeps :=
  .refuseIf (.ok (h.setOwn.foldl fun _ _ h => h.reconfigured))

theorem sessionCompletes {sess n : Nat} : (s.sessionCompletes sess n).Inv := h.writeCompletion

theorem selectBooks {sess n : Nat} : (s.selectBooks sess n).Inv := h.setOwn.setOwn.setOwn.setOwn.setOwn.setOwn

theorem endSubscriptions {sess : Nat} : (s.endSubscriptions sess).Inv :=
  .discardAll (h.completeHeld.foldl fun _ _ h => h.setOwn)

theorem resetEvents : s.resetEvents.Inv := by
  unfold State.resetEvents
  extract_lets _ _ _ s1 s2
  have idle : ∀ x ∈ s1.sources, x.2.pending ≤ 15 := by
    intro x hx
    obtain ⟨y, -, rfl⟩ := List.mem_map.mp (List.mem_filter.mp hx).1
    exact Nat.zero_le _
  have h1 : s1.Inv := { h with sources := idle }
  have h2 : s2.Inv := h1.foldl fun _ o h => by
    split
    · exact h.setObjAt
    · exact h
  exact h2.foldl fun _ _ h => h.levelArrival

theorem coreRead {n a len : Nat} {bs : Bytes} {u : State} (e : s.coreRead n a len = .ok (bs, u)) : u.Inv := by
  unfold State.coreRead at e
  split at e
  · split at e
    · cases e
    · cases e
      exact h.afterRead
  · split at e
    · cases e
      exact h
    · cases e

theorem coreWrite {n a : Nat} {bs : Bytes} {u : State} (e : s.coreWrite n a bs = .ok u) : u.Inv := by
  unfold State.coreWrite at e
  split at e
  · cases e
    exact h.eccWrite
  · cases e

theorem fetched {n : Nat} : (s.fetched n).Inv := .ite h.afterRead h

theorem freshMemory {n sess : Nat} : (s.freshMemory n sess).Inv := .ite h h.eccClear

theorem startCore {n : Nat} {stage : CoreStage} {sess : Nat} {step : Option Nat} {arg test pc : Nat} :
    (s.startCore n stage sess step arg test pc).Inv := by
  unfold State.startCore
  extract_lets s1
  have h1 : s1.Inv := h.freshMemory
  exact h1.setCore (started_ok h1.core)

theorem resetCore {n : Nat} : (s.resetCore n).Inv :=
  h.completeHeld.setCore ((core_ok_iff _).mpr
    ⟨BitVec.zero_and, BitVec.zero_and, BitVec.zero_and, BitVec.zero_and, BitVec.zero_and, BitVec.zero_and⟩)

theorem stopCore {n : Nat} : (s.stopCore n).Inv := h.setObj.completeHeld.keepCore (by rfl)

theorem routineAnswers {n : Nat} {values : List Int} {cause : Nat} : (s.routineAnswers n values cause).Inv := by
  unfold State.routineAnswers
  split
  · exact h.stepAnswers
  · exact h

theorem coreEnds {n : Nat} : (s.coreEnds n).Inv := by
  unfold State.coreEnds
  extract_lets _ _ s1 s2
  have h1 : s1.Inv := h.routineAnswers
  have h2 : s2.Inv := by
    simp only [s2]
    split
    · exact h1.countUp.countUp
    · exact h
  exact h2.stopCore

theorem coreException {n code addr : Nat} : (s.coreException n code addr).Inv := by
  unfold State.coreException
  extract_lets _ _ _ _ _ _ _ s5
  have h5 : s5.Inv := h.setObj.setObj.setObj.setObj.logRec.routineAnswers.completeHeld
  exact h5.setCore (by exact h.core)

/-- An instruction keeps the invariant where its effect does. -/
theorem instruction {t : Tk} {n : Nat} {w : Word} {f : State → State} (hf : ∀ {u}, u.Inv → (f u).Inv) :
    KeepsInv (s.instruction t n w f) := .next (.ite (hf h.advance.fetched) h.advance)

theorem jumpTo {n : Nat} {c : Core} {target : Word} (hc : c.ok = true) : (s.jumpTo n c target).Inv :=
  .ite (h.setCore hc).coreEnds (h.setCore (by exact hc))

theorem aluResult {n : Nat} {rd : Reg} {r : Alu} : (s.aluResult n rd r).Inv := h.keepCore (by simp)

theorem aluCompare {n : Nat} {r : Alu} : (s.aluCompare n r).Inv := h.keepCore (by simp)

theorem illegal {n : Nat} {w : Word} : (s.illegal n w).Inv := h.coreException

theorem entersNormal {n : Nat} : (s.entersNormal n).Inv := by
  unfold State.entersNormal
  extract_lets _
  split
  · exact .ite (h.setCore (normalEntry_ok h.core)) h
  · exact h

theorem entersFast {n : Nat} : (s.entersFast n).Inv := by
  unfold State.entersFast
  extract_lets _
  split
  · exact .ite (h.setCore (fastEntry_ok h.core)) h
  · exact h

theorem returns {n : Nat} {w : Word} : (s.returns n w).Inv := by
  unfold State.returns
  extract_lets _
  split
  · exact h.setCore (fastReturn_ok h.core)
  · split
    · split
      · exact h
      · split
        · exact h.serve.setCore (by exact h.core)
        · exact h.setCore (normalReturn_ok h.core)
    · exact h.illegal

theorem coreWaits {n : Nat} {rd : Reg} {timeout : Word} : (s.coreWaits n rd timeout).Inv := by
  unfold State.coreWaits
  extract_lets _ _ _
  split
  · exact h.keepCore (ok_receive _ _ _)
  · exact h.keepCore (ok_receive _ _ _)
  · exact (h.keepCore (by rfl)).settleSources

theorem waitEnds {n : Nat} : (s.waitEnds n).Inv := by
  unfold State.waitEnds
  extract_lets _
  split
  · exact .ite (h.keepCore ((ok_setFlag _ _ (by decide)).trans (ok_setReg _ _ _))) h
  · exact h

theorem coreCommand {sess n v : Nat} : (s.coreCommand sess n v).Keeps := by
  refine .refuseIf (.refuseIf (.refuseIf ?_))
  split
  · exact .refuseIf (.ok h.startCore)
  · exact .refuseIf (.ok h.stopCore)
  · exact .ok h.resetCore

theorem localMemoryStore {n : Nat} {b : Bytes} : (s.localMemoryStore n b).Keeps := .refuseIf (.refuseIf (.ok h.eccWrite))

theorem coreWriteObject {sess n sub v : Nat} : (s.coreWriteObject sess n sub v).Keeps :=
  .ite h.coreCommand (.refuseIf (.refuseIf (.ok h.setObj)))

theorem endPrograms {sess : Nat} : (s.endPrograms sess).Inv := h.foldl fun _ _ h => h.resetCore

theorem resetCores : s.resetCores.Inv := h.foldl fun _ _ h => h.resetCore

theorem zeroCores : s.zeroCores.Inv := h.eccClear

theorem writeVerdict {k : Nat} {x : StepRec} {v : StepVerdict} {finish run deferred : Nat} :
    (s.writeVerdict k x v finish run deferred).Inv := .ite h h.blockEntryTo

theorem writeValues {k : Nat} {values : List StepValue} {finish : Nat} : (s.writeValues k values finish).Inv :=
  .ite h (h.foldl fun _ _ h => h.blockEntryTo)

theorem skipStep {k : Nat} : (s.skipStep k).Inv := h.setStep.writeVerdict

theorem updateStep {k : Nat} : (s.updateStep k).Inv := .ite h (.ite h.skipStep (.ite h.setStep h))

theorem updateReady : s.updateReady.Inv := .ite h (h.each fun _ _ h => h.updateStep)

theorem judgeReady : s.judgeReady.Inv := .ite h.showGrants (h.showGrants.foldl fun _ _ h => h.setStep)

theorem planSettles : s.planSettles.Inv := by
  unfold State.planSettles
  extract_lets _ _ _ _
  split
  · exact h
  · exact .ite h h.blockEntryTo.setObj.setObj.withDisp.cause

theorem measureSettles {k : Nat} : (s.measureSettles k).Inv := .ite h (.ite h.setStep.actionStops h.setStep)

theorem stopAction {k cause why : Nat} : (s.stopAction k cause why).Inv := by
  unfold State.stopAction
  extract_lets _ a _
  split
  · exact h
  · split
    · exact h.setStep.measureSettles
    · exact h.sweepStops.actionStops
    · exact h.setStep.mapAborts.actionStops
    · have cancels := h.exchangeCancels (k := k) (a := a)
      split
      · next u found =>
        rw [found] at cancels
        exact cancels.actionStops
      · next u found =>
        rw [found] at cancels
        exact cancels.setStep
    · split
      · exact h.actionStops.resetCore
      · exact h.actionStops
    · exact h.actionStops

theorem planAborts {cause : Nat} : (s.planAborts cause).Inv :=
  .ite h (.planSettles (.withDisp (h.foldl fun _ _ h => h.stopAction)))

theorem planHalts : s.planHalts.Inv := h.same rfl

theorem stepsLoseClaim {cls n : Nat} : (s.stepsLoseClaim cls n).Inv := h.foldl fun _ _ h => h.stopAction

theorem stepsLosePort {p : Nat} : (s.stepsLosePort p).Inv := h.foldl fun _ _ h => h.stopAction

theorem countStep {k : Nat} {v : StepVerdict} : (s.countStep k v).Inv := by
  unfold State.countStep
  extract_lets _ _ _ s1 s2 s3 s4 _ s5 _
  have h1 : s1.Inv := h.setStep
  have h2 : s2.Inv := h1.countUp
  have h3 : s3.Inv := .ite h2.countUp h2
  have h4 : s4.Inv := .ite h3.countUp h3
  have h5 : s5.Inv := .ite h4.withDisp h4
  exact .ite h5.withDisp.cause h5

theorem afterStep : s.afterStep.Inv := h.updateReady.judgeReady.planSettles

theorem stepEnds {k : Nat} : (s.stepEnds k).Inv := by
  unfold State.stepEnds
  extract_lets _ s1 _ _ s2 _ _
  have h1 : s1.Inv := h.measureSettles
  have h2 : s2.Inv := h1.settleEnergy
  split
  · extract_lets _ _ _ s3 s4 s5 s6 s7
    have h3 : s3.Inv := .ite h2 h2.withDisp
    have h4 : s4.Inv := h3.writeValues
    have h5 : s5.Inv := h4.writeVerdict
    have h6 : s6.Inv := .ite h5.cause (.ite h5.cause h5)
    have h7 : s7.Inv := .ite h6.setStep h6.countStep
    exact h7.afterStep
  · exact h1

theorem stepWaitsTooLong {k : Nat} : (s.stepWaitsTooLong k).Inv := .ite h h.writeVerdict.cause.countStep.afterStep

theorem stepHolds {k : Nat} : (s.stepHolds k).Inv := .ite h h.setStep.cause

theorem stepTimesOut {k : Nat} : (s.stepTimesOut k).Inv := .ite h h.stopAction

theorem tailsEnd : s.tailsEnd.Inv := h.withDisp.judgeReady

theorem waitElapses {k : Nat} : (s.waitElapses k).Inv := .ite h h.actionStops

theorem responseTimesOut {k : Nat} : (s.responseTimesOut k).Inv := .ite h h.stopAction

theorem planStarts {who : Nat} : (s.planStarts who).Keeps := by
  unfold State.planStarts
  extract_lets _ _ _ s1 s2 s3
  have h1 : s1.Inv := h.withDisp
  have h2 : s2.Inv := h1.setObj.setObj
  have h3 : s3.Inv := h2.foldl fun _ _ h => h.setObj
  exact .refuseIf (.refuseIf (.refuseIf (.refuseWith (.refuseIf (.refuseIf (.ok h3.updateReady.judgeReady))))))

theorem planCommand {who v : Nat} : (s.planCommand who v).Keeps := .ite h.planStarts (.ite (.ok h.planAborts) .refuse)

theorem dispatcherWrite {who sub v : Nat} : (s.dispatcherWrite who sub v).Keeps := by
  unfold State.dispatcherWrite
  exact .ite h.planCommand (.ite (.ok h.eventWrite) (.ite (.refuseWith (.ok h.setObj)) (.ok h.setObj)))

theorem measureGoes {k q : Nat} : (s.measureGoes k q).Inv := by
  unfold State.measureGoes
  extract_lets _
  split
  · exact h
  · split
    · exact h
    · split
      · exact h.setStep.measureSettles
      · exact h.urgentAccept.setStep

theorem measureContinues {q : Nat} : (s.measureContinues q).Inv := by
  unfold State.measureContinues
  extract_lets s1
  have h1 : s1.Inv := h.foldl fun _ _ h => h.measureSettles
  exact h1.foldl fun _ _ h => h.measureGoes

theorem measureStarts {k : Nat} {a : Bytes} : (s.measureStarts k a).Inv :=
  .measureSettles (h.setStep.foldl fun _ _ h => h.measureGoes)

theorem measureTakes {q : Nat} {codes : Codes} : (s.measureTakes q codes).Inv := by
  unfold State.measureTakes
  extract_lets _ _ _ _
  split
  · exact h
  · extract_lets _
    split
    · exact .ite h h.setStep
    · exact h

theorem routineStarts {k : Nat} {a : Bytes} : (s.routineStarts k a).Inv := by
  unfold State.routineStarts
  split
  · exact h
  · exact h.startCore

theorem mapStepStarts {k : Nat} {a : Bytes} : (s.mapStepStarts k a).Inv := by
  unfold State.mapStepStarts
  extract_lets _ _ abort
  clear_value abort
  split
  · exact h.stepAnswers
  · exact h.mapStarts

theorem sweepStepStarts {k : Nat} {a : Bytes} : (s.sweepStepStarts k a).Inv := by
  unfold State.sweepStepStarts
  extract_lets _
  split
  · exact h.stepAnswers
  · exact .ite h.stepAnswers h.sweepStarts

theorem objectRecords {put : State → Accessor → Nat → Nat → Bytes → Res} (hput : PutsKeep put) {k : Nat} {sess : SessionNo}
    {j : Nat} {rs : List Bytes} : (s.objectRecords put k sess j rs).1.Inv := by
  induction rs generalizing s j with
  | nil => exact h
  | cons r rs ih =>
    unfold State.objectRecords
    have puts := hput s (.session sess) (fieldLe r 0 2) (fieldLe r 2 1) (sliceBytes r 8 (fieldLe r 3 1)) h
    split
    · exact h
    · split
      · next u found =>
        rw [found] at puts
        exact ih puts.of_ok
      · next found =>
        rw [found] at puts
        exact puts.after h

theorem objectStepRuns {put : State → Accessor → Nat → Nat → Bytes → Res} (hput : PutsKeep put) {k : Nat} {a : Bytes} :
    (s.objectStepRuns put k a).Inv := by
  unfold State.objectStepRuns
  have runs := h.objectRecords hput (k := k) (sess := Fin.ofNat 8 s.disp.session) (j := 0) (rs := recordsOf 16 a)
  split
  · next found =>
    rw [found] at runs
    exact runs.actionStops
  · next found =>
    rw [found] at runs
    exact runs.stepAnswers

theorem actionStarts {put : State → Accessor → Nat → Nat → Bytes → Res} (hput : PutsKeep put) {k : Nat} :
    (s.actionStarts put k).Inv := by
  unfold State.actionStarts
  extract_lets _ _
  split
  · exact h.objectStepRuns hput
  · exact h.measureStarts
  · exact h.sweepStepStarts
  · exact h.mapStepStarts
  · exact h.exchangeStarts
  · exact h.routineStarts
  · exact h.setStep

theorem dispatchStep {put : State → Accessor → Nat → Nat → Bytes → Res} (hput : PutsKeep put) {k : Nat} :
    (s.dispatchStep put k).Inv := by
  unfold State.dispatchStep
  extract_lets _ x
  split
  · exact h
  · split
    · exact h.judgeReady
    · split
      · exact h.judgeReady
      · next u reserved =>
        have hu := (h.reserve reserved).setStep (k := k)
          (r := { x with stage := .inFlight, dispatchedAt := u.now, deferCause := 0 })
        refine .judgeReady ?_
        split
        · exact hu.actionStops
        · exact hu.actionStarts hput

theorem referenceLoses {edges : Bool} : (s.referenceLoses edges).Inv := h.withTimebase.countUp.logRec.cause

theorem holdoverExpires : s.holdoverExpires.Inv := .ite h.withTimebase h

theorem firstLock {reading : Nat} : (s.firstLock reading).Inv := .ite h.withNow.setObj h.withNow.withTimebase.setObj

theorem referenceLocks {calendar : Nat} : (s.referenceLocks calendar).Inv := by
  unfold State.referenceLocks
  extract_lets s1 s2
  have h1 : s1.Inv := .ite h h.firstLock
  have h2 : s2.Inv := h1.withTimebase.setObj
  exact .ite h h2.logRec.cause

theorem syncCommands {v : Nat} : (s.syncCommands v).Inv := .ite h.withTimebase h

theorem syncFalls : s.syncFalls.Inv := by
  unfold State.syncFalls
  split
  · exact .ite h h.withTimebase.followPin
  · exact h

theorem syncEdges : s.syncEdges.Inv := by
  unfold State.syncEdges
  extract_lets s1
  have h1 : s1.Inv := h.syncFalls
  split
  · exact h1
  · extract_lets s2 _ s3 s4 s5
    have h2 : s2.Inv := h1.withTimebase
    have h3 : s3.Inv := h2.withTimebase
    have h4 : s4.Inv := h3.setObj.followPin
    have h5 : s5.Inv := h4.each fun _ _ h => .ite h.syncRequest h
    exact .ite h1 (.ite h2 (.ite h2.cause h5.cause))

theorem timebaseWrite {sub : Nat} {v : Int} : (s.timebaseWrite sub v).Keeps := by
  unfold State.timebaseWrite
  split
  · exact .ok h.withTimebase.setObj
  · split
    · exact .ok h.syncCommands
    · exact .ite (.ite .refuse (.ok h.withTimebase.setObj)) (.ite (.ok h.eventWrite) (.ok h.setObj))

theorem trigRequest {o : Fin 4} {stamp : Tk} {command : Bool} : (s.trigRequest o stamp command).Inv := .ite h.signal h

theorem trigTimer {o : Fin 4} : (s.trigTimer o).Inv := by
  unfold State.trigTimer
  extract_lets _
  split
  · exact .ite h (h.keepTrigOut (by rfl)).trigRequest
  · exact h

theorem trigFalls {o : Fin 4} : (s.trigFalls o).Inv := by
  unfold State.trigFalls
  extract_lets _
  split
  · exact .ite h (h.keepTrigOut (by rfl)).followPin
  · exact h

theorem trigRises {o : Fin 4} : (s.trigRises o).Inv := by
  have falls : (s.trigFalls o).Inv := h.trigFalls
  have fewer : (((s.trigFalls o).trigOut o).waiting.drop 1).length ≤ 4 := by
    rw [List.length_drop]
    exact (Nat.sub_le _ _).trans falls.trigOut
  refine .ite falls ?_
  split
  · exact falls
  · exact .ite falls (falls.setTrigOut fewer).countUp.setObj.followPin

theorem trigWrite {o : Fin 4} {sub : Nat} {v : Int} : (s.trigWrite o sub v).Keeps :=
  .ite (.ok (.ite h.trigRequest h)) (.ok (h.setObj.setTrigOut (by exact Nat.zero_le _)))

theorem timingHolds : s.timingHolds.Inv := h.withTimebase.each fun _ _ h => h.setTrigOut (Nat.zero_le _)

theorem timingClaimEnds : s.timingClaimEnds.Inv :=
  h.resetObjs.withTimebase.each fun _ _ h => h.resetClaimObjs.setTrigOut (Nat.zero_le _)

end

end Sys2Proof.Machine.State.Inv
end

section
/-!
SUPPORT. The invariant under the operations of queues and their streams, zones, the configuration loader, keys, the scrubber,
calibration and the Cellar.
-/

namespace Sys2Proof.Machine.State.Inv

section
variable {s : State} (h : s.Inv)
include h

theorem sendStream {n k kind q : Nat} {payload : Bytes} : (s.sendStream n k kind q payload).Inv := .ite h h.setSession.send

theorem closeStream {n k cause : Nat} : (s.closeStream n k cause).Inv := by
  unfold State.closeStream
  split
  · exact h
  · exact h.sendStream.setStream

theorem closeStreamsOn {q cause : Nat} : (s.closeStreamsOn q cause).Inv := h.foldl fun _ _ h => h.closeStream

theorem closeStreamsOf {n cause : Nat} : (s.closeStreamsOf n cause).Inv := h.each fun _ _ h => h.closeStream

theorem queueClaimEnds {q : Nat} : (s.queueClaimEnds q).Inv := h.closeStreamsOn

theorem streamSlot {who k v : Nat} : (s.streamSlot who k v).Keeps := by
  unfold State.streamSlot
  extract_lets s1
  have h1 : s1.Inv := h.closeStream
  split
  · exact .ok h1
  · split
    · exact .refuse
    · refine .refuseWith ?_
      refine .refuseIf ?_
      split
      · exact .refuse
      · exact .refuseIf (.refuseIf (.refuseIf (.ok h1.setStream)))

theorem streamGrant {n k v : Nat} {u : State} (granted : s.streamGrant n k v = .ok u) : u.Inv := by
  unfold State.streamGrant at granted
  split at granted
  · cases granted
  · cases granted
    exact h
  · split at granted
    · cases granted
    · cases granted
      exact h.setStream

theorem streamAck {n k v : Nat} {u : State} (taken : s.streamAck n k v = .ok u) : u.Inv := by
  unfold State.streamAck at taken
  split at taken
  · cases taken
  · cases taken
  · dsimp only at taken
    split at taken
    · cases taken
    · cases taken
      exact h.readEntries.setStream

theorem streamResend {n k v : Nat} {u : State} (resent : s.streamResend n k v = .ok u) : u.Inv := by
  unfold State.streamResend at resent
  split at resent
  · cases resent
  · cases resent
    exact h
  · split at resent
    · cases resent
      exact h
    · cases resent
      exact h.setStream

omit h in
theorem streamRes {x : Except Nat State} (hx : ∀ {u}, x = .ok u → u.Inv) : (streamRes x).Keeps := by
  cases x with
  | ok u => exact .ok (hx rfl)
  | error c => exact .refuse

theorem resendTimesOut {n k : Nat} : (s.resendTimesOut n k).Inv := by
  unfold State.resendTimesOut
  split
  · exact h
  · refine .ite h ?_
    split
    · next u resent => exact h.streamResend resent
    · exact h

theorem streamSends {n k : Nat} : (s.streamSends n k).Inv := by
  unfold State.streamSends
  split
  · exact h
  · split
    · exact .ite h (.ite h.sendStream.setStream (.ite h.sendStream.setStream h))
    · exact h

theorem creditReturns {n k seq q : Nat} {payload : Bytes} : (s.creditReturns n k seq q payload).Inv := by
  unfold State.creditReturns
  extract_lets _ ack
  have hack : ∀ u, ack = .ok u → u.Inv := by
    intro u taken
    simp only [ack] at taken
    split at taken
    · exact h.streamAck taken
    · cases taken
      exact h
  clear_value ack
  split
  · exact h.sendStream
  · next t =>
    have ht := hack t rfl
    split
    · exact ht.sendStream
    · next granted =>
      have hu := ht.streamGrant granted
      split
      · exact hu.sendStream
      · next resent => exact hu.streamResend resent

theorem deleteQueue {q : Nat} : (s.deleteQueue q).Inv := by
  have gone := ((h.closeStreamsOn (q := q) (cause := closedByDelete)).discardAll (q := q)).setQueue (q := q) (c := none) rfl
  exact .ite gone.setHolder.cause gone.setHolder

theorem deleteQueues : s.deleteQueues.Inv := h.each fun _ _ h => h.deleteQueue

theorem createEventQueues : s.createEventQueues.Inv := h.each fun _ _ h => h.setQueue_some (Nat.zero_le _)

theorem createQueue {who q v : Nat} : (s.createQueue who q v).Keeps :=
  .refuseWith (.ok (h.setQueue_some (x := newQueue v s.pantry.larderReady) (Nat.zero_le _)).setHolder)

theorem queueSettings {q v : Nat} : (s.queueSettings q v).Keeps := by
  unfold State.queueSettings
  split
  · exact .refuse
  · next qu found =>
    have within : qu.entries.length ≤ qu.capacity := h.queue_le found
    exact .refuseIf (.refuseIf (.refuseIf (.ok (h.setQueue_some within))))

theorem queueCommand {q v : Nat} : (s.queueCommand q v).Keeps := by
  unfold State.queueCommand
  split
  · exact .refuse
  · exact .ite (.refuseIf (.ok h.deleteQueue)) (.ite (.refuseIf (.refuseIf (.refuseIf (.ok h.discardAll)))) .refuse)

theorem queueRemoval {q v : Nat} : (s.queueRemoval q v).Keeps := by
  unfold State.queueRemoval
  split
  · exact .refuse
  · exact .refuseIf (.refuseIf (.refuseIf (.refuseIf (.refuseIf (.ok h.readEntries)))))

theorem windowWrite {a : Accessor} {idx sub v : Nat} : (s.windowWrite a idx sub v).Keeps := by
  unfold State.windowWrite
  exact .ite h.createQueue (.ite h.queueSettings (.ite h.queueCommand h.queueRemoval))

theorem persistWrite {idx sub : Nat} {v : Int} : (s.persistWrite idx sub v).Keeps := .bind h.hostTxn fun _ h' => .ok h'.setObj

theorem spillStarts : s.spillStarts.Inv := by
  unfold State.spillStarts
  split
  · exact h
  · next room =>
    have few : ∀ q, (s.pantry.spills ++ [q]).length ≤ 64 := by
      intro q
      rw [List.length_append, List.length_singleton]
      omega
    split
    · exact h
    · next q chosen =>
      split
      · exact h
      · next qu found =>
        have within : qu.entries.length ≤ qu.capacity := h.queue_le found
        have blocked := h.setQueue_some (q := q) (x := { qu with blocks := spillBlock qu.blocks }) within
        exact .ite h (blocked.setPantry (few _)).countUp

omit h in
/-- A block that is spilled keeps the entries of its queue. -/
theorem spilled_within {qu : Queue} (within : qu.entries.length ≤ qu.capacity) :
    qu.spilled.1.entries.length ≤ qu.spilled.1.capacity := by
  unfold Queue.spilled
  split
  · exact within
  · dsimp only
    split <;> exact within

theorem spillAcknowledged : s.spillAcknowledged.Inv := by
  unfold State.spillAcknowledged
  split
  · exact h
  · next x xs spills =>
    have fewer : xs.length ≤ 64 := by
      have all := h.spills
      rw [spills, List.length_cons] at all
      omega
    have hp : ({ s with pantry := { s.pantry with spills := xs } } : State).Inv := h.setPantry fewer
    extract_lets _
    split
    · exact hp.withPantry (by rfl)
    · next q =>
      split
      · exact hp
      · next qu found =>
        have spilled := hp.setQueue_some (q := q) (spilled_within (h.queue_le found))
        exact .ite spilled.countUp spilled

theorem larderState {code : Nat} : (s.larderState code).Inv := .ite h h.setObj.logRec.cause

theorem larderTrained {ok : Bool} : (s.larderTrained ok).Inv := .ite h (.ite (h.withPantry (by rfl)) h.larderState)

theorem larderCopied : s.larderCopied.Inv := by
  have queues : ∀ x ∈ s.queues.map fun x => (x.1, x.2.map fun qu : Queue => { qu with larderBacked := true }),
      Queue.ok x.2 = true := by
    intro x hx
    obtain ⟨⟨q, qu⟩, mem, rfl⟩ := List.mem_map.mp hx
    have ok := h.queues _ mem
    cases qu with
    | none => rfl
    | some qu => exact ok
  have copied : ({ s with
      queues := s.queues.map fun x => (x.1, x.2.map fun qu => { qu with larderBacked := true }) } : State).Inv :=
    { h with queues := queues }
  exact .ite h (copied.withPantry (by rfl)).larderState

theorem larderError {hit : LarderHit} : (s.larderError hit).Inv := by
  unfold State.larderError
  refine .ite h ?_
  split
  · exact h.countUp
  · next q seq =>
    split
    · exact h
    · next qu found =>
      extract_lets lost _
      have within : (qu.entries.eraseP fun e => e.seq == seq).length ≤ qu.capacity :=
        List.length_eraseP_le.trans (h.queue_le found)
      have hlost : lost.Inv := h.setQueue_some within
      exact .ite (State.Inv.ite hlost.settleSources hlost).countUp.cause h
  · refine .cause (.countUp ?_)
    split
    · exact h
    · next qu found =>
      have within : qu.entries.length ≤ qu.capacity := h.queue_le found
      exact h.setQueue_some within

theorem larderWrite {sub : Nat} {v : Int} : (s.larderWrite sub v).Keeps := .refuseIf (.refuseIf (.refuseIf h.persistWrite))

theorem zoneStage {z : Nat} {st : ZoneStage} : (s.zoneStage z st).Inv := h.setZone.setObj.cause

theorem zoneFailure {z code : Nat} : (s.zoneFailure z code).Inv := h.setObj.cause

theorem zeroBlocks {z : Nat} : (s.zeroBlocks z).Inv := .ite h.eccClear.setZone h

theorem zoneEmpties {z : Nat} : (s.zoneEmpties z).Inv := h.setZone.zoneStage

theorem zoneFails {z code : Nat} : (s.zoneFails z code).Inv := h.setZone.zoneStage.zoneFailure

theorem zoneLoads {z : Nat} : (s.zoneLoads z).Inv := h.setZone.zoneStage

theorem zoneDrains {z : Nat} {goal : ZoneStage} : (s.zoneDrains z goal).Inv := h.setZone.zoneStage

theorem breakChannel {z : Nat} {c : ChannelDecl} : (s.breakChannel z c).Inv := by
  unfold State.breakChannel
  split
  · exact h
  · exact h.countUp.setZone.cause

theorem breakChannels {z : Nat} : (s.breakChannels z).Inv := h.foldl fun _ _ h => h.breakChannel

theorem clampLanes {z : Nat} : (s.clampLanes z).Inv := h.setZone

theorem cutLinks {z : Nat} : (s.cutLinks z).Inv := by
  unfold State.cutLinks
  extract_lets _ s1 s2 s3
  have h1 : s1.Inv := h.setZone
  have h2 : s2.Inv := h1.foldl fun _ _ h => .ite h.edge h
  have h3 : s3.Inv := h2.foldl fun _ _ h => h.setPort
  exact h3.foldl fun _ _ h => h.setPin.followPin

theorem zoneClamps {z : Nat} {opened : List Nat} : (s.zoneClamps z opened).Inv :=
  .ite h h.breakChannels.setZone.clampLanes.cutLinks.settleOwners

theorem releaseData {z : Nat} : (s.releaseData z).Inv := h.setZone

theorem laneReleases {z : Nat} {l : LaneRef} : (s.laneReleases z l).Inv := by
  unfold State.laneReleases
  extract_lets _ s1
  have h1 : s1.Inv := h.setZone
  split
  · split
    · exact h1.setZone
    · exact h1
  · exact h

theorem zoneRuns {z : Nat} : (s.zoneRuns z).Inv := h.setZone.zoneStage.releaseData.settleOwners

theorem zoneStart {who z : Nat} : (s.zoneStart who z).Keeps := .refuseWith (.ok h.zoneRuns)

theorem zoneStop {z : Nat} : (s.zoneStop z).Keeps := .refuseIf (.ok h.zoneDrains)

theorem dropLoad {z : Nat} : (s.dropLoad z).Inv := .ite h.withLoader.setObj (.ite h.withLoader h)

theorem zoneErased {z code : Nat} : (s.zoneErased z code).Inv := by
  unfold State.zoneErased
  split
  · exact h
  · exact h.setZone.dropLoad
  · exact h.zoneEmpties.zoneFailure.dropLoad
  · exact h.zoneEmpties
  · exact h.zoneEmpties
  · exact h.zoneDrains

theorem zoneErase {z : Nat} : (s.zoneErase z).Keeps := .refuseIf (.ok h.zoneErased)

theorem zoneWrite {who z sub : Nat} {v : Int} : (s.zoneWrite who z sub v).Keeps := by
  unfold State.zoneWrite
  exact .ite (.ite h.zoneStart (.ite h.zoneStop (.ite h.zoneErase .refuse))) (.ite (.ok h.eventWrite) (.ok h.setObj))

theorem blockStore {z : Nat} {b : Bytes} : (s.blockStore z b).Keeps := .refuseIf (.ok h.zeroBlocks.eccWrite)

theorem fabricOutput {z : Nat} {x : FabricPad} {d oe : Bool} : (s.fabricOutput z x d oe).Inv := by
  unfold State.fabricOutput
  split
  · exact h
  · split
    · exact .ite h.setPort h
    · exact .ite h.setPin.followPin h

theorem scheduleArrives {p : Nat} {due : Tk} {d oe : Bool} : (s.scheduleArrives p due d oe).Inv := by
  unfold State.scheduleArrives
  extract_lets _ _ _ s1
  have h1 : s1.Inv := h.setPort
  split
  · exact h
  · exact .ite h (.ite h.send (.ite h1.send.countUp.cause h.setPort.send))

theorem scheduleApplies {p : Nat} : (s.scheduleApplies p).Inv := by
  unfold State.scheduleApplies
  extract_lets _
  split
  · exact .ite h h.setPort
  · exact h

theorem tapTakes {z k : Nat} : (s.tapTakes z k).Inv := by
  unfold State.tapTakes
  extract_lets _
  split
  · exact h
  · split
    · exact h.setZone.send
    · exact h

theorem userEntry {who q : Nat} {e : NewEntry} : (s.userEntry who q e).1.Inv := by
  unfold State.userEntry
  split
  · exact h
  · exact h.offerEntry

theorem queuePortWrites {z k : Nat} {w : QueuePortWrite} : (s.queuePortWrites z k w).Inv :=
  .ite h (.ite h.userEntry.send h.userEntry.send.countUp.cause)

theorem timePort {z : Nat} : (s.timePort z).Inv := .ite h.send h

theorem userLine {z k : Nat} {level : Bool} : (s.userLine z k level).Inv := .ite h h.setZone.edge

theorem railsTake {z bit code : Nat} : (s.railsTake z bit code).Inv := .ite h (.ite h.setZone.countUp.cause h.setZone)

theorem blockReads {z block : Nat} {portB : Bool} {index : Nat} : (s.blockReads z block portB index).Inv :=
  .ite h h.zeroBlocks.afterRead.send

theorem blockWrites {z block : Nat} {portB : Bool} {index value : Nat} : (s.blockWrites z block portB index value).Inv :=
  .ite h h.zeroBlocks.eccWrite

theorem stageSteps {z k : Nat} : (s.stageSteps z k).Inv := by
  unfold State.stageSteps
  split
  · exact .ite h.setZone h
  · exact h

theorem cellChanges {z k : Nat} {inputs : BitVec 8} {completion : BitVec 3} : (s.cellChanges z k inputs completion).Inv :=
  .ite h h.setZone

theorem drivesLane {z : Nat} {l : LaneRef} {level : Bool} : (s.drivesLane z l level).Inv := .ite h h.setZone

theorem fabricChanges {z : Nat} {x : FabricChange} : (s.fabricChanges z x).Inv := by
  unfold State.fabricChanges
  split
  · exact h.railsTake
  · exact h.blockReads
  · exact h.blockWrites
  · exact h.stageSteps
  · exact h.drivesLane
  · exact h.cellChanges

theorem zoneResets {z : Nat} : (s.zoneResets z).Inv := by
  unfold State.zoneResets
  extract_lets _ s1 _ s2
  have h1 : s1.Inv := .ite h.breakChannels.clampLanes.cutLinks h
  have h2 : s2.Inv := h1.setZone
  exact .ite (.ite h2 h2.zoneStage) (.ite h1 h1.zoneEmpties)

theorem zonesReset : s.zonesReset.Inv := h.each fun _ _ h => h.zoneResets

theorem zoneClaimEnds {z : Nat} : (s.zoneClaimEnds z).Inv := h.zoneErased.resetBlock

theorem sendDatagram {n op flags reqId : Nat} {payload : Bytes} : (s.sendDatagram n op flags reqId payload).Inv :=
  h.setSession.send

theorem sendUntagged {n op flags reqId : Nat} {payload : Bytes} : (s.sendUntagged n op flags reqId payload).Inv := h.send

theorem respond {n op reqId flags : Nat} {payload : Bytes} : (s.respond n op reqId flags payload).Inv :=
  h.setSession.sendDatagram

theorem respondCode {n op reqId code : Nat} {payload : Bytes} : (s.respondCode n op reqId code payload).Inv :=
  .ite h.respond h.respond

theorem usdoAnswers {code : Nat} {p : Bytes} : (s.usdoAnswers code p).Inv := h.send

theorem replyLater {r : ReplyTo} {code : Nat} : (s.replyLater r code).Inv := by
  unfold State.replyLater
  split
  · exact h.renew.send
  · exact .ite h.renew.respondCode h
  · exact h.renew.usdoAnswers

theorem loaderAnswers {code : Nat} : (s.loaderAnswers code).Inv := by
  unfold State.loaderAnswers
  split
  · exact h.withLoader.replyLater
  · exact h

theorem tagFails {who : Nat} : (s.tagFails who).Inv := by
  unfold State.tagFails
  extract_lets _ _ s1 s2 s3 _ _ s4 s5 _
  have h1 : s1.Inv := h.withKeys
  have h2 : s2.Inv := h1.wantTxn
  have h3 : s3.Inv := h2.logRec
  have h4 : s4.Inv := h3.withKeys
  have h5 : s5.Inv := h4.logRec.cause
  exact .ite h3 (.ite h5.withKeys.cause h5)

theorem streamFails {cause : Nat} {detail : Option Nat} : (s.streamFails cause detail).Inv := by
  unfold State.streamFails
  extract_lets _ s1 s2 _ s3 s4 s5 s6
  have h1 : s1.Inv := h.foldl fun _ _ h => .ite h.zoneFails h
  have h2 : s2.Inv := by
    simp only [s2]
    split
    · exact h1.setZone
    · exact h1
  have h3 : s3.Inv := .ite h2.nextFresh h2
  have h4 : s4.Inv := .ite h3.tagFails h3
  have h5 : s5.Inv := h4.setObj.setObj.setObj.setObj
  have h6 : s6.Inv := h5.loaderAnswers
  exact .ite h h6.withLoader.cause

theorem loaderSettles : s.loaderSettles.Inv := by
  unfold State.loaderSettles
  extract_lets _
  split
  · exact h
  · split
    · exact h.streamFails
    · exact .ite h (.ite h.streamFails (.ite h.setObj h.loaderAnswers))

theorem loaderFeeds {bs : Bytes} : (s.loaderFeeds bs).Inv := by
  have fed : ∀ l n, (({ s with loader := l } : State).setObj 0x2700 6 n).Inv := fun _ _ => h.withLoader.setObj
  refine .ite (fed _ _).loaderSettles ?_
  split
  · exact (fed _ _).streamFails
  · exact .loaderSettles (.ite (State.Inv.wantTxn (State.Inv.withKeys (fed _ _))) (fed _ _))

theorem streamBegins {who : Option Nat} {fromSlot boot : Bool} {bs : Bytes} {owed : Option ReplyTo} {why : Nat} :
    (s.streamBegins who fromSlot boot bs owed why).Inv := by
  unfold State.streamBegins
  extract_lets _ s1 s2 s3
  have h1 : s1.Inv := h.withLoader
  have h2 : s2.Inv := h1.setObj.setObj.setObj.setObj
  have h3 : s3.Inv := .ite (h2.modeBecomes.each fun _ _ h => .ite h h.zoneEmpties) h2
  split
  · exact h3.setObj.streamFails
  · exact h3.loaderFeeds

theorem streamWrite {who : Nat} {bs : Bytes} : (s.streamWrite who bs).Keeps := by
  unfold State.streamWrite
  extract_lets s1 _ _
  have h1 : s1.Inv := .ite h.loaderFeeds h.streamBegins
  exact .refuseWith (.ite (.refuseAfter h1) (.ok (.ite h1.withLoader h1)))

theorem slotLoad {who v : Nat} : (s.slotLoad who v).Keeps := by
  unfold State.slotLoad
  extract_lets _ s1
  have h1 : s1.Inv := h.streamBegins
  exact .refuseIf (.refuseWith (.ite (.refuseAfter h1) (.ok h1)))

theorem cancelRepair {z : Nat} : (s.cancelRepair z).Inv := by
  unfold State.cancelRepair
  extract_lets _ s1 _ _ s2
  have h1 : s1.Inv := h.setZone
  have h2 : s2.Inv := h1.withCellar
  split
  · exact .ite h2.abandonTxn.nextTxn h2
  · exact h2

theorem takeRecord {r : CfgRecord} : (s.takeRecord r).Inv := h.withLoader

theorem zoneBegins {r : CfgRecord} : (s.zoneBegins r).Inv := h.cancelRepair.setZone.takeRecord.setObj.withLoader.loaderSettles

theorem zoneBeginRecord : s.zoneBeginRecord.Inv := by
  unfold State.zoneBeginRecord
  extract_lets _
  split
  · extract_lets _ s1 _
    have h1 : s1.Inv := h.zoneDrains.setObj
    split
    · exact h
    · split
      · exact h.takeRecord.loaderSettles
      · split
        · exact h.streamFails
        · split
          · exact h.streamFails
          · exact h.streamFails
          · exact h1.withLoader
          · exact h.zoneLoads.zoneBegins
  · exact h

theorem writeFrame {f : Nat} {b : Bytes} : (s.writeFrame f b).Inv := h.same rfl

theorem framesRecord {mismatch : Option Nat} : (s.framesRecord mismatch).Inv := by
  unfold State.framesRecord
  extract_lets _
  split
  · extract_lets _ s1
    have h1 : s1.Inv := h.foldl fun _ _ h => h.writeFrame
    split
    · exact h
    · split
      · exact h.takeRecord.loaderSettles
      · split
        · exact h1.streamFails
        · exact h1.takeRecord.loaderSettles
  · exact h

theorem blockRecord : s.blockRecord.Inv := by
  unfold State.blockRecord
  extract_lets _
  split
  · exact .ite h (.loaderSettles (.takeRecord (.ite h h.zeroBlocks.eccWrite)))
  · exact h

theorem zoneChecks {z : Nat} : (s.zoneChecks z).Inv := by
  unfold State.zoneChecks
  extract_lets _ s1 _
  have h1 : s1.Inv := h.zeroBlocks
  split
  · exact h
  · split
    · exact h.zoneFails
    · exact h1.setZone.zoneStage

theorem autoStart {z : Nat} : (s.autoStart z).Inv := by
  unfold State.autoStart
  refine .ite ?_ h
  split
  · next w held =>
    have start := h.zoneStart (who := w) (z := z)
    split
    · next u found =>
      rw [found] at start
      exact start.of_ok
    · exact h
  · exact h

theorem streamEnds : s.streamEnds.Inv := by
  unfold State.streamEnds
  extract_lets _ _ _ s1 s2 next s3
  have h1 : s1.Inv := h.each fun _ _ h => h.zoneChecks
  have h2 : s2.Inv := h1.loaderAnswers.setObj
  have h_next : next.Inv := h2.setObj
  have h3 : s3.Inv := h_next.withLoader.cause
  split
  · exact h
  · split
    · exact h.streamFails
    · exact h3.each fun _ _ h => h.autoStart

theorem loaderCommand {who v : Nat} : (s.loaderCommand who v).Keeps := .refuseIf (.refuseIf (.ok h.streamFails))

theorem streamIdles : s.streamIdles.Inv := .ite h.streamFails h

theorem streamLosesSession {n : Nat} : (s.streamLosesSession n).Inv := .ite h.streamFails h

theorem streamLosesMode {m : Mode} : (s.streamLosesMode m).Inv := h.streamFails

theorem zoneResetDone {z : Nat} : (s.zoneResetDone z).Inv := by
  unfold State.zoneResetDone
  extract_lets _ s1
  have h1 : s1.Inv := h.zoneLoads
  split
  · exact h
  · split
    · exact h
    · split
      · split
        · split
          · exact h1.zoneBegins
          · exact h1
        · exact h1
      · exact h.setZone.zoneStage
      · exact h.zoneFails
      · exact h.zoneEmpties

theorem slotStore {slot : Nat} {bs : Bytes} : (s.slotStore slot bs).Keeps := by
  unfold State.slotStore
  split
  · exact h.hostTxn
  · split
    · exact .refuseAfter h.setObj
    · exact .refuseIf h.hostTxn

theorem kekStore {bs : Bytes} : (s.kekStore bs).Keeps := .refuseIf (.refuseIf (.ok h.withKeys))

omit h in
theorem unwrapped_quiet {bs : Bytes} : Quiet (s.unwrapped bs) := by
  unfold State.unwrapped
  split
  · exact .refuse
  · split
    · exact .refuse
    · exact .ok

omit h in
theorem keyAuthority_quiet {who : Nat} : Quiet (s.keyAuthority who) := .bind .refuseIf fun _ => .refuseWith

theorem ekStore {who : Nat} {bs : Bytes} : (s.ekStore who bs).Keeps :=
  .check unwrapped_quiet fun _ => .refuseIf (.check keyAuthority_quiet fun _ => .ok h.withKeys)

theorem batteryStore {who k : Nat} {bs : Bytes} : (s.batteryStore who k bs).Keeps := by
  unfold State.batteryStore
  split
  · exact .refuseIf (.check .ok fun _ => .check keyAuthority_quiet fun _ => .ok h.withKeys)
  · exact .check unwrapped_quiet.map fun _ => .check keyAuthority_quiet fun _ => .ok h.withKeys

theorem policyStore {v : Nat} : (s.policyStore v).Keeps := .refuseIf (.ok h.withKeys)

theorem versionStore {v : Nat} : (s.versionStore v).Keeps := .refuseIf (.ok h.withKeys)

theorem clearBattery {v : Nat} : (s.clearBattery v).Inv := .ite h.withKeys.cause h

theorem lockoutEnds : s.lockoutEnds.Inv := .ite h h.withKeys

omit h in
theorem hostAuthority_quiet {who : Nat} : Quiet (s.hostAuthority who) := .bind .refuseIf fun _ => .refuseWith

theorem hostKeyStore {who host : Nat} {bs : Bytes} : (s.hostKeyStore who host bs).Keeps := by
  unfold State.hostKeyStore
  split
  · exact .refuseIf (.check .ok fun _ => .check hostAuthority_quiet fun _ => h.hostTxn)
  · exact .check unwrapped_quiet fun _ => .check hostAuthority_quiet fun _ => h.hostTxn

theorem hostMaskStore {who host v : Nat} : (s.hostMaskStore who host v).Keeps := .check hostAuthority_quiet fun _ => h.hostTxn

theorem repairCopies {z : Nat} : (s.repairCopies z).Inv := .ite h h.setZone.withCellar.wantTxn

theorem setLoft {f : Nat} {v : Option (BitVec 32)} : (s.setLoft f v).Inv := h.withLoft

theorem golden {f : Nat} : (s.golden f).1.Inv := by
  unfold State.golden
  extract_lets _
  split
  · split
    · exact h
    · exact h.setLoft.countUp.cause
  · split
    · exact h.setLoft
    · exact h

theorem scrubStarts : s.scrubStarts.Inv := .ite h.withScrub h.withScrub.countUp.cause

theorem scrubSweepEnds : s.scrubSweepEnds.Inv := .ite h h.countUp.setObj.withScrub.scrubStarts

theorem scrubEntry {f outcome found : Nat} {stamp : Tk} : (s.scrubEntry f outcome found stamp).Inv := h.nextFresh.blockEntryTo

theorem frameLost {f outcome found : Nat} {stamp : Tk} : (s.frameLost f outcome found stamp).Inv :=
  h.scrubEntry.withScrub.countUp.cause.logRec.zoneErased

theorem takesUpsets {u : Upsets} : (s.takesUpsets u).Inv := by
  unfold State.takesUpsets
  extract_lets s1 _ s2 _
  have h1 : s1.Inv := h.foldl fun _ _ h => h.upset
  have h2 : s2.Inv := h1.foldl fun _ _ h => h.withLoft
  exact h2.withScrub

theorem frameCheck {f : Nat} {sram : Option Bytes} : (s.frameCheck f sram).Inv := by
  unfold State.frameCheck
  extract_lets s1 _ s2 _
  have h1 : s1.Inv := by
    simp only [s1]
    split
    · exact h.withFrames
    · exact h
  have h2 : s2.Inv := h1.withScrub.countUp
  have hg := h2.golden (f := f)
  refine .ite h ?_
  split
  · next u none =>
    rw [none] at hg
    exact hg.frameLost
  · next u g some =>
    rw [some] at hg
    exact .ite hg (.ite hg.frameLost hg.withScrub)

theorem frameRepaired {ok : Bool} : (s.frameRepaired ok).Inv := by
  unfold State.frameRepaired
  split
  · exact h
  · split
    · exact h
    · split
      · exact h.withScrub
      · split
        · exact h.frameLost
        · extract_lets _
          exact .ite h.golden.frameLost.withFrames h.golden.scrubEntry.withFrames.withScrub.countUp.setObj.setObj.cause

theorem scrubWrite {who sub : Nat} {v : Int} : (s.scrubWrite who sub v).Keeps := by
  unfold State.scrubWrite
  extract_lets _ s1 _ writes checks
  have h1 : s1.Inv := h.setObj
  have hwrites : ∀ x, Res.Keeps (writes x) := fun _ => .ite (.ok h.eventWrite) (.ite (.ok h1.withScrub) (.ok h1))
  have hchecks : ∀ x, Res.Keeps (checks x) := fun _ => .ite (.refuseWith (hwrites ())) (hwrites ())
  exact .ite (.refuseIf (hchecks ())) (hchecks ())

theorem stallCheck : s.stallCheck.1.Inv := by
  unfold State.stallCheck
  extract_lets _ _ _ _ s1 s2 s3 s4
  have h1 : s1.Inv := h.logRec
  have h2 : s2.Inv := h1.foldl fun _ _ h => h.setObj
  have h3 : s3.Inv := h2.withScrub
  have h4 : s4.Inv := h3.scrubStarts.countUp.cause
  split
  · exact h
  · exact h4

theorem runDue {d : Nat} {whole ports : List Nat} : (s.runDue d whole ports).Inv := .ite h h.setCalRun

theorem runsDue : s.runsDue.Inv := .ite h (h.each fun _ _ h => .ite h.runDue h)

theorem runRetries {d : Nat} : (s.runRetries d).Inv := by
  unfold State.runRetries
  extract_lets _
  split
  · exact .ite h.runDue h
  · exact h

theorem runStarts {d : Nat} : (s.runStarts d).Inv := .ite h h.setCalRun.wantTxn.cause

theorem unitBegins {d i : Nat} {cut : Option Nat} : (s.unitBegins d i cut).Inv := by
  unfold State.unitBegins
  extract_lets s1 _ _ s2 _ _ s3 _ s4
  have h1 : s1.Inv := h.runStarts
  have h2 : s2.Inv := by
    simp only [s2]
    split
    · exact .cause (.ite h1.cutsEntry (.ite (h1.keepConv (by rfl)) h1))
    · exact h1
  have h3 : s3.Inv := h2.withCal
  have h4 : s4.Inv := h3.keepConv (by rfl)
  exact h4.each fun _ _ h => h.settleOwner

theorem unitStarts : s.unitStarts.Inv := by
  unfold State.unitStarts
  split
  · exact h
  · split
    · exact h
    · exact h.unitBegins

theorem sequenceGoesOn {q : Nat} : (s.sequenceGoesOn q).Inv := by
  unfold State.sequenceGoesOn
  split
  · exact h.unitBegins
  · exact h.continuePass

theorem unitLeaves : s.unitLeaves.Inv := by
  unfold State.unitLeaves
  extract_lets _ s1
  have h1 : s1.Inv := h.withCal
  split
  · exact h
  · exact (h1.keepConv (by rfl)).continuePass.each fun _ _ h => h.settleOwner

theorem unitAbandoned : s.unitAbandoned.Inv := h.unitLeaves

theorem unitPasses {d item : Nat} : (s.unitPasses d item).Inv := h.each fun _ _ h => h.setCalFigure

theorem verified {d item i : Nat} {r : UnitResult} : (s.verified d item i r).Inv :=
  .ite h.setCalFigure.unitPasses h.setCalFigure.setCalRun.cause.logRec

theorem inSitu {d item p : Nat} {r : UnitResult} : (s.inSitu d item p r).Inv :=
  .ite h.setCalFigure.unitPasses h.setCalFigure.setCalRun.cause

theorem unitFound {d item unit : Nat} {r : UnitResult} : (s.unitFound d item unit r).Inv := by
  unfold State.unitFound
  split
  · exact h.verified
  · exact .ite h.inSitu h.unitPasses

theorem itemCompletes {d item : Nat} {whole : Bool} {tq : Int} : (s.itemCompletes d item whole tq).Inv := by
  unfold State.itemCompletes
  extract_lets _ _ s1
  have h1 : s1.Inv := h.withCal
  exact h1.each fun _ _ h => .ite h (.ite h.setCalFigure h.setCalFigure)

theorem itemDeferred {d item : Nat} : (s.itemDeferred d item).Inv := .cause (h.setCalRun.each fun _ _ h => h.setCalFigure)

theorem runEnds {d : Nat} : (s.runEnds d).Inv := .ite h h.setCalRun.wantTxn

theorem figuresStored {d : Nat} : (s.figuresStored d).Inv := h.withCal

theorem runCommits {d : Nat} : (s.runCommits d).Inv := .ite h h.setCalRun.figuresStored.countUp.cause

theorem runStoreFails {d : Nat} : (s.runStoreFails d).Inv := .ite h h.setCalRun

theorem unitEnds {r : UnitResult} : (s.unitEnds r).Inv := by
  unfold State.unitEnds
  extract_lets s1
  have h1 : s1.Inv := h.unitLeaves
  split
  · exact h
  · extract_lets _ s2 _ _ s3 _ s4
    have h2 : s2.Inv := h1.unitFound
    have h3 : s3.Inv := h2.setCalRun
    have h4 : s4.Inv := .ite h1 (.ite h3 h3.itemCompletes.setCalRun)
    exact h4.runEnds.judgeReady

theorem deadlinePasses {d item : Nat} : (s.deadlinePasses d item).Inv := .ite h (.ite h.setCalRun h.itemDeferred.runEnds)

theorem calibrateDies : s.calibrateDies.Keeps := .refuseIf (.ok (h.each fun _ _ h => h.runDue))

theorem calibrateQuad : s.calibrateQuad.Keeps := .refuseIf (.refuseIf (.ok h.runDue))

theorem cancelRuns : s.cancelRuns.Inv := h.each fun _ _ h => .ite h.setCalRun h

theorem globalBegins {who : Nat} : (s.globalBegins who).Keeps := by
  unfold State.globalBegins
  extract_lets s1 _ s2 s3
  have h1 : s1.Inv := h.modeBecomes.planAborts
  have h2 : s2.Inv := h1.withCal
  have h3 : s3.Inv := h2.each fun _ _ h => h.convStop
  exact .refuseIf (.ok h3.settleOwners)

theorem globalFound {x : GlobalResult} : (s.globalFound x).Inv := .ite h h.unitFound

theorem globalEnds {rs : GlobalResults} : (s.globalEnds rs).Inv := by
  unfold State.globalEnds
  extract_lets s1 s2 s3 s4 _ s5 _ s6
  have h1 : s1.Inv := h.each fun _ _ h => h.setCalRun
  have h2 : s2.Inv := h1.foldl fun _ _ h => h.globalFound
  have h3 : s3.Inv := h2.each fun _ _ h => h.each fun _ _ h => .ite h.itemCompletes h
  have h4 : s4.Inv := h3.each fun _ _ h => h.setCalRun
  have h5 : s5.Inv := h4.wantTxn
  have h6 : s6.Inv := h5.withCal
  exact .ite h h6.modeBecomes.settleOwners

theorem globalDiscarded : s.globalDiscarded.Inv := h.withCal

theorem setImports {d : Nat} {b : Bytes} : (s.setImports d b).Keeps := .refuseIf (.refuseIf h.hostTxn)

theorem importCommits {d : Nat} : (s.importCommits d).Inv := by
  unfold State.importCommits
  extract_lets _ _ _ s1 s2 s3 _
  have h1 : s1.Inv := h.withCal
  have h2 : s2.Inv := h1.each fun _ _ h => h.setCalFigure.each fun _ _ h => h.setCalFigure.nextFresh
  have h3 : s3.Inv := h2.each fun _ _ h => h.setCalFigure
  exact h3.setCalRun.figuresStored

theorem calibrationWrite {who sub : Nat} {v : Int} : (s.calibrationWrite who sub v).Keeps := by
  unfold State.calibrationWrite
  split
  · exact .ite h.calibrateDies (.ite h.calibrateQuad (.ite h.globalBegins (.ite (.ok h.cancelRuns) .refuse)))
  · exact .ite (.ok h.eventWrite) (.ok h.setObj)

theorem compactCheck : s.compactCheck.Inv := h.withCellar

theorem compactStarts : s.compactStarts.Inv := .ite h.withCellar h

theorem compactEnds : s.compactEnds.Inv := .ite h h.withCellar.countUp.cause.nextTxn

theorem txnDone {why : TxnFor} : (s.txnDone why).Inv := by
  unfold State.txnDone
  split
  · exact h.runCommits
  · exact h.each fun _ _ h => h.runCommits
  · exact h.importCommits
  · exact .ite h.cause h
  · exact h

theorem txnLost {why : TxnFor} : (s.txnLost why).Inv := by
  unfold State.txnLost
  split
  · exact h.runStoreFails
  · exact h.each fun _ _ h => h.runStoreFails
  · exact h

theorem txnAnswers {t : Txn} {code : Nat} : (s.txnAnswers t code).Inv := by
  unfold State.txnAnswers
  split
  · exact h.replyLater
  · exact h

theorem cellarCommits : s.cellarCommits.Inv := by
  unfold State.cellarCommits
  split
  · exact h
  · split
    · exact h
    · exact .ite h.commitTxn.txnDone.txnAnswers.nextTxn.compactCheck h

theorem cellarAbandons {reason : AbandonReason} : (s.cellarAbandons reason).Inv := by
  unfold State.cellarAbandons
  extract_lets s1
  have h1 : s1.Inv := h.abandonTxn.cause.logRec
  split
  · exact h
  · split
    · exact h
    · split
      · exact .ite h h1.txnLost.txnAnswers.nextTxn.compactCheck
      · exact h.abandonTxn.logRec.txnLost.txnAnswers.nextTxn.compactCheck

theorem cellarStops : s.cellarStops.Inv := h.withCellar

theorem cellarCloses : s.cellarCloses.Inv := by
  unfold State.cellarCloses
  split
  next u act closed =>
    refine .withPower ?_
    split at closed
    · cases closed
      exact h
    · split at closed
      · cases closed
        exact h.commitTxn.txnDone
      · cases closed
        exact h.abandonTxn.txnLost

theorem cellarFault {addr : Nat} : (s.cellarFault addr).Inv := h.countUp.cause.logRec

theorem recordLost {addr : Nat} : (s.recordLost addr).Inv := .ite h.withCellar h

theorem setAbsent {d : Nat} : (s.setAbsent d).Inv := h.setCalRun.withCal

theorem itemAbsent {cls key : Nat} : (s.itemAbsent cls key).Inv :=
  .ite h.withCellar (.ite h.withCellar.setAbsent h.withCellar)

theorem itemLost {cls key : Nat} : (s.itemLost cls key).Inv := .ite h.withCellar h.withCellar.itemAbsent

theorem extentLost {cls key : Nat} : (s.extentLost cls key).Inv := h.withCellar.itemAbsent

theorem cellarFails : s.cellarFails.Inv := h.withCellar.foldl fun _ _ h => h.txnAnswers

theorem cellarError {h1 : CellarHit} : (s.cellarError h1).Inv := by
  unfold State.cellarError
  split
  · exact h
  · split
    · exact h.countUp
    · exact h.cellarFault.recordLost
    · exact h.cellarFault.itemLost
    · exact h.cellarFault.extentLost
    · exact .ite h.cellarFault.withCellar h.cellarFault.withCellar.cellarFails
    · exact h.withCellar.cellarFault.cellarFails

theorem applyValues : s.applyValues.Inv := by
  unfold State.applyValues
  refine State.Inv.each (h.foldl fun _ x h => ?_) fun _ _ h => .ite h.setBlob h
  split
  · exact h.setObjAt
  · exact h

theorem applySettings : s.applySettings.Inv := by
  unfold State.applySettings
  extract_lets _ _ _ _ s1 _ _ _ s3 _ _
  have h1 : s1.Inv := h.same rfl
  have h3 : s3.Inv := h1.withTimebase.foldl fun _ _ h => .ite (h.keepTrigOut (by rfl)) h
  exact h3.withScrub

theorem applyCounters : s.applyCounters.Inv := h.withKeys.withKeyFailures

theorem applySets : s.applySets.Inv := h.withCal.each fun _ _ h => .ite h.setCalRun.cause h.setCalRun

theorem replaysJournal : s.replaysJournal.Inv := by
  unfold State.replaysJournal
  extract_lets _ s1
  have h1 : s1.Inv := h.withCellar
  exact h1.each fun _ _ h => .ite h (.ite h.importCommits h.setAbsent)

theorem replays : s.replays.Inv := by
  unfold State.replays
  extract_lets s1 s2 _ s3 s4 _ s5
  have h1 : s1.Inv := .ite h h.replaysJournal
  have h2 : s2.Inv := h1.applyValues.applySettings.applyCounters.applySets
  have h3 : s3.Inv := h2.setObj.setObj
  have h4 : s4.Inv := .ite h3 h3.cause
  have h5 : s5.Inv := h4.withCellar.nextTxn
  exact .ite h1.applySettings (.ite h5.larderState h5)

end

end Sys2Proof.Machine.State.Inv
end

section
/-!
SUPPORT. The invariant under the operations of the modes and sessions, the object dictionary and the transport.
-/

namespace Sys2Proof.Machine.State.Inv

section
variable {s : State} (h : s.Inv)
include h

theorem latchErrors : s.latchErrors.Inv := .ite h.withPower h

theorem unbindAt {at' : Tk} : (s.unbindAt at').Inv := .ite h.withCycle.setObj.cause h.withCycle

theorem unbindDue : s.unbindDue.Inv := by
  unfold State.unbindDue
  split
  · exact .ite h.unbindAt h
  · exact h

theorem unbindLater : s.unbindLater.Inv := h.withCycle

theorem enterHold {c : HoldCause} {why : Nat} : (s.enterHold c why).Inv := by
  unfold State.enterHold
  extract_lets s1 _ s2 s3 s4 s5 s6 s7 s8 s9 s10
  have h1 : s1.Inv := h.freezePins
  have h2 : s2.Inv := h1.withPower
  have h3 : s3.Inv := h2.setObj.setObj
  have h4 : s4.Inv := h3.modeBecomes.cause
  have h5 : s5.Inv := h4.setObj.setObj
  have h6 : s6.Inv := h5.streamLosesMode.globalDiscarded
  have h7 : s7.Inv := h6.each fun _ _ h => h.convStop
  have h8 : s8.Inv := h7.unitAbandoned.planAborts.mapAborts
  have h9 : s9.Inv := h8.resetCores.timingHolds
  have h10 : s10.Inv := h9.settleOwners
  exact h10.unbindLater.followPins

theorem causeRecord {c : HoldCause} {meas : Int} : (s.causeRecord c meas).Inv := h.logRec.cause

theorem railFaults : s.railFaults.Inv := h.each fun _ _ h => h.portFault

theorem causeArises {c : HoldCause} {meas : Int} : (s.causeArises c meas).Inv := by
  unfold State.causeArises
  extract_lets _ s1 s2 s3
  have h1 : s1.Inv := h.withPower
  have h2 : s2.Inv := h1.causeRecord
  have h3 : s3.Inv := .ite h2.enterHold h2
  exact .ite h3.railFaults h3

theorem raiseCause {c : HoldCause} {meas : Int} : (s.raiseCause c meas).Inv := by
  unfold State.raiseCause
  split
  · exact h
  · exact h
  · exact h
  · exact .ite h h.withPower
  · exact .ite h h.causeArises

theorem clearCause {c : HoldCause} : (s.clearCause c).Inv := .ite (.ite h.withPower h) (.ite h.latchErrors.withPower.cause h)

theorem convertersEnterIdle : s.convertersEnterIdle.Inv :=
  h.each fun _ _ h => .restartChain (.ite (h.keepConv (by rfl)).settleReference (h.keepConv (by rfl)))

theorem enterIdle {why : Nat} : (s.enterIdle why).Inv := by
  unfold State.enterIdle
  extract_lets _ s1 s2 s3
  have h1 : s1.Inv := h.withPower
  have h2 : s2.Inv := h1.modeBecomes
  have h3 : s3.Inv := h2.zeroCores.convertersEnterIdle.createEventQueues
  exact h3.resetEvents.settleOwners.compactCheck

theorem returnToIdle {why : Nat} : (s.returnToIdle why).Inv := h.modeBecomes.setObj.setObj.compactCheck

/-- A log that has no more held records than it may while it cannot pass them on. -/
theorem flushLog_of_log {l : Log} (hr : l.records.length ≤ logSize)
    (hh : ({ s with log := l } : State).logReady = false → l.held.length ≤ 32) : ({ s with log := l } : State).flushLog.Inv := by
  unfold State.flushLog
  split
  · next closed => exact h.setLog hr (hh (by simpa using closed))
  · split
    · have emptied : ({ s with log := { l with held := [] } } : State).Inv := h.setLog hr (Nat.zero_le _)
      exact emptied.foldl fun _ _ h => h.countUp
    · exact h.setLog (flushLog_records (fun _ r => { r with boot := s.objN 0x2000 0x0C }) _ hr) (Nat.zero_le _)

theorem powersUp : s.powersUp.Inv := by
  unfold State.powersUp
  extract_lets _ s1 _ s2 _ _ s3 _ _ s4
  have h1 : s1.Inv := h.withLog (by rfl) (by rfl)
  have h2 : s2.Inv := h1.setObj.wantTxn
  have h3 : s3.Inv := by
    simp only [s3]
    split
    · exact h1.setObj.countUp.flushLog
    · split
      · next room =>
        refine h2.flushLog_of_log h2.records fun closed => ?_
        have closed' : s2.logReady = false := closed
        simp only [closed', Bool.false_or, decide_eq_true_eq] at room
        exact room
      · exact h2.countUp
  have h4 : s4.Inv := h3.withPower
  exact h4.foldl fun _ _ h => h.raiseCause

theorem enterSafe {why : Nat} : (s.enterSafe why).Inv := by
  unfold State.enterSafe
  extract_lets old s1 s2 s3 s4 s5
  have h1 : s1.Inv := .ite h h.unbindDue.streamLosesMode
  have h2 : s2.Inv := .ite h1 h1.deleteQueues
  have h3 : s3.Inv := h2.modeBecomes.setObj.setObj
  have h4 : s4.Inv := by
    simp only [s4]
    clear_value old s3
    split
    · exact h3.powersUp
    · exact h3
    · exact h3.zonesReset.unitAbandoned.each fun _ _ h => h.convHalt
  have h5 : s5.Inv := h4.settleOwners.compactCheck
  exact .followPins (h5.foldl fun _ _ h => .ite h h.startSensing)

theorem wakeEnds : s.wakeEnds.Inv := .ite h.enterSafe h

theorem setReady {bit : Nat} : (s.setReady bit).Inv := by
  unfold State.setReady
  extract_lets s1
  have h1 : s1.Inv := h.setObj.cause
  exact .ite h (.wakeEnds (.ite h1.flushLog (.ite h1.scrubStarts h1)))

theorem loadSettles : s.loadSettles.Inv := by
  unfold State.loadSettles
  exact .ite h (.ite (.ite h.enterIdle h.withPower.enterSafe) h.withPower.enterSafe)

theorem advances : s.advances.Inv := by
  unfold State.advances
  extract_lets _ s1
  have h1 : s1.Inv := h.withPower
  exact .ite h (.ite (.ite h1.streamBegins.loadSettles h) (.ite h.enterIdle h))

theorem binds {who : Nat} : (s.binds who).Keeps := by
  unfold State.binds
  extract_lets s1 s2 s3
  have h1 : s1.Inv := h.withCycle
  have h2 : s2.Inv := h1.modeBecomes
  have h3 : s3.Inv := h2.setObj.countUp.cause
  exact .refuseIf (.ok h3.settleOwners)

theorem unbindSettles : s.unbindSettles.Inv := by
  unfold State.unbindSettles
  extract_lets _ s1
  have h1 : s1.Inv := h.unbindAt
  split
  · exact h
  · split
    · exact h1.enterSafe
    · split
      · exact h1.returnToIdle
      · exact h1.returnToIdle
      · exact h1.setObj
      · exact h1.setObj
      · exact h1

theorem unbindBegins {why : Nat} {toSafe : Bool} {cause : OwnerCause} : (s.unbindBegins why toSafe cause).Inv :=
  .ite h h.withCycle.mapAborts.settleOwners.unbindSettles

theorem fixtureReleases {who : Nat} : (s.fixtureReleases who).Keeps := .refuseIf (.ok (.ite h h.unbindBegins))

theorem cycleCommand {who v : Nat} : (s.cycleCommand who v).Keeps := .ite h.binds (.ite h.fixtureReleases .refuse)

theorem drains : s.drains.Inv := .ite h.setObj.cause h

theorem resumes {why : Nat} : (s.resumes why).Inv := .ite h.modeBecomes.setObj.setObj.judgeReady h.returnToIdle

theorem quiesces {why : Nat} : (s.quiesces why).Inv := h.setObj.modeBecomes.compactCheck

theorem clearRails : s.clearRails.Inv := h.each fun _ _ h => .ite h.setPort h

theorem leaveHold {toSafe : Bool} {why : Nat} : (s.leaveHold toSafe why).Keeps := by
  unfold State.leaveHold
  extract_lets _ s1 s2
  have h1 : s1.Inv := h.withPower
  have h2 : s2.Inv := h1.clearRails.thawPins
  exact .refuseIf (.ite (.ok h2.enterSafe.followPins) (.ok h2.returnToIdle.settleOwners.followPins))

theorem requestSafe {why : Nat} : (s.requestSafe why).Keeps := by
  unfold State.requestSafe
  extract_lets s1
  have h1 : s1.Inv := h.planAborts
  split
  · exact h.leaveHold
  · exact .ite .refuse (.ok (.ite h1.unbindBegins h1.enterSafe))
  · exact .ok h.enterSafe

theorem requestIdle {why : Nat} : (s.requestIdle why).Keeps := .ite h.leaveHold (.ite (.ok h.enterIdle) .refuse)

theorem modeRequest {who v : Nat} : (s.modeRequest who v).Keeps := by
  unfold State.modeRequest
  extract_lets _ s1
  have h1 : s1.Inv := h.causeRecord
  refine .refuseIf ?_
  refine .refuseWith ?_
  split
  · exact h.requestSafe
  · exact .ite h.requestIdle (.ite (.ok h.resumes) (.ite (.ok h.quiesces) (.ite (.ok h1.enterHold) .refuse)))

theorem rebase : s.rebase.Inv := h.same rfl

/-- What lies without power starts anew; the log's ring stays. -/
theorem cold {m : Mode} : (s.cold m).Inv where
  memory := rfl
  cores := List.forall_mem_nil _
  sources := List.forall_mem_nil _
  triggers := List.forall_mem_nil _
  requests := List.forall_mem_nil _
  queues := List.forall_mem_nil _
  records := h.rebase.records
  held := Nat.zero_le _
  spills := Nat.zero_le _

theorem batteryEmpties : s.batteryEmpties.Inv := .ite h (h.same rfl)

theorem tellsBattery : s.tellsBattery.Inv := by
  unfold State.tellsBattery
  split
  · refine .cause ?_
    exact h.same rfl
  · exact h

theorem wakes {old : Mode} {cause : Nat} : (s.wakes old cause).Inv :=
  h.cold.withCellar.withPower.setObj.setObj.tellsBattery.logRec

theorem goesDark : s.goesDark.Inv := h.cold.batteryEmpties

theorem resets {cause : Nat} : (s.resets cause).Inv := .ite h.wakes (.ite (.ite h.goesDark.withPower h.goesDark.wakes) h)

theorem resetSettles : s.resetSettles.Inv := by
  unfold State.resetSettles
  split
  · exact .ite h.resets h
  · exact h

theorem resetCommanded {who v : Nat} : Res.Keeps (s.resetCommanded who v) :=
  .refuseIf (.refuseWith (.refuseIf (.ok h.logRec.withPower)))

theorem rstnFalls : s.rstnFalls.Inv := .ite h h.withPower.resets

theorem rstnRises : s.rstnRises.Inv := by
  unfold State.rstnRises
  extract_lets _ s1
  have h1 : s1.Inv := h.withPower
  split
  · exact h
  · split
    · exact h1.rebase
    · exact .ite h1.wakes h1
    · exact .ite h1.wakes h1
    · exact h1

theorem vsupReturns {mv : Nat} : (s.vsupReturns mv).Inv := by
  unfold State.vsupReturns
  extract_lets _ s1 _ _ s2
  have h1 : s1.Inv := .ite h.rebase h
  have h2 : s2.Inv := h1.withPower
  exact .ite h (.ite h2.wakes h2)

theorem withModeAndPower {m : Mode} {p : Power} : ({ s with mode := m, power := p } : State).Inv := h.same rfl

theorem enterSave {mv : Nat} : (s.enterSave mv).Inv := by
  refine .followPins (.clampAll (.cellarStops (.withScrub ?_)))
  refine .unitAbandoned (.globalDiscarded (.resetCores (.mapAborts (.planHalts ?_))))
  refine .each (.streamLosesMode (.withLoader ?_)) fun _ _ h => h.convHalt
  exact .setObj (.setObj (.withModeAndPower h.freezePins))

theorem powerFails {mv : Nat} : (s.powerFails mv).Inv := by
  unfold State.powerFails
  extract_lets _ s1 _ s2
  have h1 : s1.Inv := .ite h.rebase h
  have h2 : s2.Inv := h1.withPower
  exact .ite h (.ite h.enterSave (.ite h2.goesDark (.ite h2.batteryEmpties h2)))

theorem saveRecord : s.saveRecord.Inv := h.logRec

theorem saveEnds : s.saveEnds.Inv := by
  unfold State.saveEnds
  extract_lets s1
  have h1 : s1.Inv := h.cellarCloses.saveRecord
  exact .ite h (.ite h1.wakes h1.goesDark)

theorem saveCollapses : s.saveCollapses.Inv := by
  unfold State.saveCollapses
  extract_lets _ _ s1 s2
  have h1 : s1.Inv := h.withPower.nextFresh
  have h2 : s2.Inv := .ite h1.cellarCloses h1
  exact .ite h (.goesDark (.ite h2.saveRecord h2))

theorem vbatRises : s.vbatRises.Inv := .ite h.withPower.withMode h.withPower

theorem vbatFalls : s.vbatFalls.Inv := .ite h.withPower.goesDark h.withPower

theorem vioChanges {mv : Nat} : (s.vioChanges mv).Inv := by
  unfold State.vioChanges
  extract_lets _ _ _ _ _ s1 _ s2 s3
  have h1 : s1.Inv := h.withPower
  have h2 : s2.Inv := .ite h1.withLinks h1
  have h3 : s3.Inv := .ite h2.rstnRises h2
  exact h3.followPins

theorem sourcesUnclaimed {l : List Nat} : (s.sourcesUnclaimed l).Inv := h.each fun _ _ h => h.sourceUnclaimed

theorem engineOff {idx : Nat} : (s.engineOff idx).Inv := by
  unfold State.engineOff
  have off := h.engineEnables (who := 255) (idx := idx) (v := 0)
  split
  · next found =>
    rw [found] at off
    exact off.of_ok
  · exact h

theorem canOff {e : Nat} : (s.canOff e).Inv := by
  unfold State.canOff
  have off := h.canEnables (e := e) (v := 0)
  split
  · next found =>
    rw [found] at off
    exact off.of_ok
  · exact h

theorem convLosesClaim {q : Nat} : (s.convLosesClaim q).Inv := h.convStop.chainClaimEnds

theorem claimEffect {cls n : Nat} : (s.claimEffect cls n).Inv := by
  unfold State.claimEffect
  split
  · exact h.mapLosesPoint.sourceUnclaimed
  · exact h.zoneClaimEnds.sourcesUnclaimed
  · exact h.queueClaimEnds
  · exact h.canOff.sourcesUnclaimed
  · exact h.engineOff
  · exact h.engineOff
  · exact h.engineOff
  · exact h.mapAborts.mapperDisables.sourceUnclaimed
  · exact .sourcesUnclaimed (.timingClaimEnds (h.each fun _ _ h => h.convLosesClaim))

theorem endClaims {who : Nat} {rs : List (Nat × Nat)} : (s.endClaims who rs).Inv := by
  unfold State.endClaims
  extract_lets _ s1 s2 s3 s4 _ s5
  have h1 : s1.Inv := h.foldl fun _ _ h => h.setHolder
  have h2 : s2.Inv := h1.foldl fun _ _ h => h.portClaimEnds
  have h3 : s3.Inv := h2.foldl fun _ _ h => h.stepsLoseClaim
  have h4 : s4.Inv := h3.foldl fun _ _ h => h.claimEffect
  have h5 : s5.Inv := h4.foldl fun _ _ h => h.convLosesClaim.sourceUnclaimed
  exact .ite h5 h5.cause

theorem takeClaims {who : Nat} {rs : List (Nat × Nat)} : (s.takeClaims who rs).Inv :=
  .settleOwners (h.foldl fun _ _ h => h.setHolder)

theorem claims_ {who : Nat} {bs : Bytes} : (s.claims_ who bs).Keeps := by
  unfold State.claims_
  refine .refuseWith ?_
  split
  · exact .refuseAfter h.setOwn
  · exact .ok h.takeClaims

theorem releaseList {who : Nat} {rs : List (Nat × Nat)} : (s.releaseList who rs).Keeps :=
  .refuseIf (.ok (.endClaims (.ite h.unbindBegins h)))

theorem releases {who : Nat} {bs : Bytes} : (s.releases who bs).Keeps := .refuseWith h.releaseList

theorem releasesAll {who v : Nat} : (s.releasesAll who v).Keeps := .ite h.releaseList (.ok h)

theorem queries {who v : Nat} : (s.queries who v).Inv := h.setOwn.setOwn

theorem clearOwn {n : Nat} : (s.clearOwn n).Inv := h.withObjs

theorem endSession {n why : Nat} : (s.endSession n why).Inv := by
  unfold State.endSession
  extract_lets s1 s2 s3 s4 s5 s6 _ s7
  have h1 : s1.Inv := h.planAborts
  have h2 : s2.Inv := .ite (.ite h1 h1.unbindBegins) h
  have h3 : s3.Inv := h2.closeStreamsOf
  have h4 : s4.Inv := h3.endClaims
  have h5 : s5.Inv := h4.endSubscriptions
  have h6 : s6.Inv := h5.endPrograms.streamLosesSession.loadSettles
  have h7 : s7.Inv := .ite h6.withLinks h6
  exact .ite h h7.clearOwn.setSession.cause

theorem leaseExpires {n : Nat} : (s.leaseExpires n).Inv := .ite h.countUp.endSession h

theorem openingRefused : s.openingRefused.Inv := h.countUp.cause

theorem slotFails {h1 : Nat} : (s.slotFails h1).Inv := by
  unfold State.slotFails
  extract_lets _ s1 s2 s3 s4
  have h1 : s1.Inv := h.withKeyFailures
  have h2 : s2.Inv := h1.wantTxn
  have h3 : s3.Inv := h2.logRec
  have h4 : s4.Inv := h3.withKeyLockouts
  exact .ite h (.ite h3 h4.logRec)

theorem openingEnds {n : Nat} : (s.openingEnds n).Inv := .ite h.setSession.setBlob h.setSession

theorem openingFails {n : Nat} : (s.openingFails n).Inv := h.slotFails.openingEnds.openingRefused

theorem sessionOpens {n : Nat} {x : Session} : (s.sessionOpens n x).Inv := h.clearOwn.setSession.cause

theorem slotPasses {h1 : Nat} : (s.slotPasses h1).Inv := .ite h h.withKeyFailures.wantTxn

theorem judgeProof {n : Nat} {hp : Bytes} : (s.judgeProof n hp).1.Inv := by
  unfold State.judgeProof
  extract_lets _ _
  split
  · exact h.openingRefused
  · split
    · exact h.openingEnds.openingRefused
    · split
      · exact h.openingFails
      · split
        · exact h.openingEnds.openingRefused
        · exact h.slotPasses

theorem canOpens {bs : Bytes} : (s.canOpens bs).Keeps := by
  unfold State.canOpens
  extract_lets _ _ _
  split
  · exact .refuseAfter h.openingRefused
  · split
    · exact .ok h.setBlob.setBlob.sessionOpens
    · split
      · exact .refuseAfter h.openingRefused
      · exact .ok h.setSession.setBlob.nextFresh

theorem canProves {bs : Bytes} : (s.canProves bs).Keeps := by
  unfold State.canProves
  have judged := h.judgeProof (n := 0) (hp := bs)
  split
  · next found =>
    rw [found] at judged
    exact .refuseAfter judged
  · next found =>
    rw [found] at judged
    exact .ok judged.setBlob.setBlob.sessionOpens

theorem refuseOpening {d : Datagram} {code : Nat} : (s.refuseOpening d code).Inv := h.sendUntagged

theorem netOpens {d : Datagram} : (s.netOpens d).Inv := by
  unfold State.netOpens
  split
  · exact h.openingRefused.refuseOpening
  · exact h.setSession.nextFresh.sendUntagged

theorem netProves {d : Datagram} : (s.netProves d).Inv := by
  unfold State.netProves
  have judged := h.judgeProof (n := d.session) (hp := d.payload)
  refine .ite h.openingRefused.refuseOpening ?_
  split
  · next found =>
    rw [found] at judged
    exact judged.refuseOpening
  · next found =>
    rw [found] at judged
    exact judged.sessionOpens.sendDatagram

theorem proofTimesOut {n : Nat} : (s.proofTimesOut n).Inv := .ite h.openingFails h

theorem slotUnlocks {h1 : Nat} : (s.slotUnlocks h1).Inv := .ite h h.withKeyLockouts

theorem domainHasRead {idx offset len : Nat} : (s.domainHasRead idx offset len).Inv := .ite h.afterRead (.ite h.afterRead h)

theorem storesAll {v : Nat} : (s.storesAll v).Keeps := .refuseIf (.refuseIf h.hostTxn)

theorem restoresAll {v : Nat} : (s.restoresAll v).Keeps := .refuseIf (.refuseIf h.hostTxn)

theorem canWrite {who e sub : Nat} {v : Int} : (s.canWrite who e sub v).Keeps := by
  unfold State.canWrite
  extract_lets _ _ s1 _ _
  have h1 : s1.Inv := h.setObj
  split
  · exact h.canEnables
  · split
    · exact .ok h.canRecovers
    · split
      · exact .ok h.eventWrite
      · split
        · refine .refuseWith ?_
          exact .ite (.refuseWith (.refuseIf (.ok (.ite h1.followPin h1)))) (.refuseIf (.ok (.ite h1.followPin h1)))
        · exact .ite (.refuseWith (.refuseIf (.ok (.ite h1.followPin h1)))) (.refuseIf (.ok (.ite h1.followPin h1)))

theorem engineWrite {who idx sub : Nat} {v : Int} : (s.engineWrite who idx sub v).Keeps := by
  unfold State.engineWrite
  split
  · extract_lets _ _
    split
    · exact h.engineEnables
    · split
      · exact .ok h.eventWrite
      · split
        · exact .refuseWith (.refuseIf (.ite (.refuseWith (.refuseIf (.ok h.setObj))) (.refuseIf (.ok h.setObj))))
        · exact .refuseIf (.ite (.refuseWith (.refuseIf (.ok h.setObj))) (.refuseIf (.ok h.setObj)))

theorem deviceWrite {who sub : Nat} {v : Int} : (s.deviceWrite who sub v).Keeps := by
  unfold State.deviceWrite
  refine .ite h.modeRequest (.ite (.bind h.resetCommanded fun _ h => .ok h.resetSettles) ?_)
  exact .ite (.ok h.eventWrite) (.refuseIf (.ok h.setObj))

theorem leaseWrite {who n : Nat} : (s.leaseWrite who n).Inv := h.setSession

theorem sessionWrite {who idx sub : Nat} {v : Int} : (s.sessionWrite who idx sub v).Keeps := by
  unfold State.sessionWrite
  split
  · exact .ok h.unbindDue.eventWrite
  · split
    · exact .ok h.leaseWrite
    · split
      · exact h.releasesAll
      · exact .ite (.ok h.queries) (.ite h.cycleCommand (.ite (.refuseIf (.ok h.setObj)) h.hostMaskStore))

theorem streamObjectWrite {who sub n : Nat} : (s.streamObjectWrite who sub n).Keeps :=
  .ite h.streamSlot (.ite (streamRes h.streamGrant) (.ite (streamRes h.streamAck) (.ite (streamRes h.streamResend) (.ok h.setOwn))))

theorem eventInterfaceWrite {who sub n : Nat} : (s.eventInterfaceWrite who sub n).Keeps :=
  .ite (.ok h.sessionCompletes) (.ite (.ok h.selectBooks) h.subscribe)

omit h in
theorem loadAfter {r : Res} (hr : r.Keeps) : (Machine.loadAfter r).Keeps := by
  cases hr with
  | ok h => exact .ok h.loadSettles
  | error h =>
    refine .error fun u left => ?_
    obtain ⟨v, after, rfl⟩ := Option.map_eq_some_iff.mp left
    exact (h v after).loadSettles

theorem loaderWrite {who idx sub : Nat} {v : Int} : (s.loaderWrite who idx sub v).Keeps := by
  unfold State.loaderWrite
  split
  · refine .ite (loadAfter h.loaderCommand) (.ite (loadAfter h.slotLoad) ?_)
    exact .ite (.ok h.eventWrite) (.ite (.refuseIf h.persistWrite) (.ok h.setObj))
  · exact .ite (.ite h.policyStore (.ite h.versionStore (.ok h.clearBattery))) h.scrubWrite

theorem lowWrite {a : Accessor} {idx sub : Nat} {v : Int} : (s.lowWrite a idx sub v).Keeps := by
  unfold State.lowWrite
  refine .ite h.storesAll ?_
  refine .ite h.restoresAll ?_
  refine .ite (.refuseIf (.ok h.setObj)) ?_
  refine .ite h.deviceWrite ?_
  refine .ite h.sessionWrite ?_
  refine .ite h.governorWrite ?_
  refine .ite h.timebaseWrite ?_
  refine .ite h.trigWrite ?_
  refine .ite h.eventInterfaceWrite ?_
  refine .ite h.sourceConfigure ?_
  refine .ite h.coreWriteObject ?_
  refine .ite (.ok h.eventWrite) ?_
  refine .ite h.calibrationWrite ?_
  refine .ite (.ok h.setObj) ?_
  refine .ite h.loaderWrite ?_
  refine .ite h.zoneWrite ?_
  refine .ite (.ok (.ite h.eventWrite h.setObj)) ?_
  refine .ite (.ok h.setOwn) ?_
  exact .ite h.streamObjectWrite h.larderWrite

theorem faultWrite {p : PortNo} {v : Int} : (s.faultWrite p v).Keeps := h.latchErrors.nextFresh.clearFault

theorem highWrite {a : Accessor} {idx sub : Nat} {v : Int} : (s.highWrite a idx sub v).Keeps := by
  unfold State.highWrite
  refine .ite (.ite h.faultWrite h.portWrite) ?_
  refine .ite h.ownerObjectWrite ?_
  refine .ite h.convWrite ?_
  refine .ite h.chainWrite ?_
  refine .ite h.mapperWrite ?_
  refine .ite h.dispatcherWrite ?_
  refine .ite (.ok h.eventWrite) ?_
  refine .ite h.canWrite ?_
  refine .ite h.engineWrite ?_
  refine .ite h.pinWrite ?_
  exact .ite h.windowWrite (.ok h.setOwn)

theorem valueWrite {a : Accessor} {idx sub : Nat} {v : Int} : (s.valueWrite a idx sub v).Keeps := .ite h.lowWrite h.highWrite

theorem domainWrite {a : Accessor} {idx sub : Nat} {bs : Bytes} : (s.domainWrite a idx sub bs).Keeps := by
  unfold State.domainWrite
  refine .ite (.ite h.claims_ h.releases) ?_
  refine .ite (.ite h.canOpens h.canProves) ?_
  refine .ite h.hostKeyStore ?_
  refine .ite h.localMemoryStore ?_
  refine .ite h.setImports ?_
  refine .ite (loadAfter h.streamWrite) ?_
  refine .ite (.ite h.kekStore (.ite h.ekStore h.batteryStore)) ?_
  refine .ite h.blockStore ?_
  refine .ite h.slotStore ?_
  refine .ite h.bankStore ?_
  refine .ite h.referenceStore ?_
  refine .ite h.planStore ?_
  exact .ite (.bind h.canTransmits fun _ h => .ok h.setBlob) (.ok h.setBlob)

theorem writeObject {a : Accessor} {idx sub : Nat} {bs : Bytes} : (s.writeObject a idx sub bs).Keeps :=
  .ite (guardBytes fun _ => h.domainWrite) (guardWrite fun _ => h.valueWrite)

theorem put {a : Accessor} {idx sub : Nat} {bs : Bytes} : (s.put a idx sub bs).Keeps := by
  unfold State.put
  have written := h.writeObject (a := a) (idx := idx) (sub := sub) (bs := bs)
  split
  · next found =>
    rw [found] at written
    exact .ok (.ite written.of_ok.owedTo written.of_ok)
  · next found =>
    rw [found] at written
    exact written

omit h in
theorem put_keeps : PutsKeep State.put := fun _ _ _ _ _ h => h.put

theorem discards {d : Datagram} : (s.discards d).Inv := h.countUp.countUp

theorem takesDatagram {d : Datagram} : (s.takesDatagram d).Inv := h.countUp.renew.setSession

theorem notices {d : Datagram} : (s.notices d).Inv := h.sendUntagged

omit h in
theorem readObject_quiet {a : Accessor} {idx sub : Nat} : Quiet (s.readObject a idx sub) := by
  refine .bind (.bind .refuseIf fun _ => ?_) fun _ => .ok
  split
  · exact .refuse
  · exact .bind .refuseIf fun _ => .bind .refuseWith fun _ => .bind .refuseWith fun _ => .bind .refuseWith fun _ => .ok

theorem answers {d : Datagram} {r : Except Refused (State × Bytes)} (hr : Answered r) : (s.answers d r).Inv := by
  obtain ⟨quiet, answered⟩ := hr
  unfold State.answers
  split
  · exact (answered _ rfl).accepted.respondCode
  · rw [quiet _ rfl]
    exact h.respondCode

theorem answersWrite {d : Datagram} {r : Res} (hr : r.Keeps) : (s.answersWrite d r).Inv := by
  unfold State.answersWrite
  split
  · exact .ite hr.of_ok.accepted.owedTo hr.of_ok.accepted.respondCode
  · exact (hr.after h).respondCode

theorem netKeepalive {d : Datagram} : (s.netKeepalive d).Inv := h.respondCode

theorem netRead {d : Datagram} : (s.netRead d).Inv :=
  h.answers (.check .refuseIf fun _ => .check readObject_quiet fun _ => .ok h)

theorem netWrite {d : Datagram} : (s.netWrite d).Inv := h.answersWrite (.refuseIf h.writeObject)

theorem netDomainRead {d : Datagram} : (s.netDomainRead d).Inv :=
  h.answers (.check .refuseIf fun _ => .check readObject_quiet fun _ => .ok h.domainHasRead)

omit h in
theorem beginChecks_quiet {a : Accessor} {idx sub len : Nat} : Quiet (s.beginChecks a idx sub len) :=
  .bind .headChecks fun _ => .bind .gateChecks fun _ => .refuseWith

theorem netDomainBegin {d : Datagram} : (s.netDomainBegin d).Inv :=
  h.setSession.answers (.check .refuseIf fun _ => .check beginChecks_quiet fun _ => .check .refuseIf fun _ =>
    .ok h.setSession.setSession)

theorem netDomainSegment {d : Datagram} : (s.netDomainSegment d).Inv := by
  unfold State.netDomainSegment
  extract_lets _ _ _
  split
  · exact h
  · exact .ite h h.setSession

theorem netDomainEnd {d : Datagram} : (s.netDomainEnd d).Inv := by
  unfold State.netDomainEnd
  extract_lets _
  split
  · exact h
  · refine .ite h ?_
    split
    · exact h.respond
    · exact h.setSession.answersWrite h.setSession.writeObject

theorem netClose {d : Datagram} : (s.netClose d).Inv := by
  unfold State.netClose
  extract_lets _
  split
  · exact h.respondCode
  · exact h.closeStreamsOf.respondCode.endSession

theorem netExecutes {d : Datagram} : (s.netExecutes d).Inv := by
  unfold State.netExecutes
  refine .ite h.netClose ?_
  refine .ite h.netKeepalive ?_
  refine .ite h.netRead ?_
  refine .ite h.netWrite ?_
  refine .ite h.netDomainRead ?_
  refine .ite h.netDomainBegin ?_
  refine .ite h.netDomainSegment ?_
  exact .ite h.netDomainEnd h.respondCode

theorem netTakes {d : Datagram} : (s.netTakes d).Inv := by
  unfold State.netTakes
  extract_lets _
  split
  · exact h.sendDatagram
  · exact .ite h.netExecutes (.ite h (.ite h.holdsBack (.ite h h.respondCode)))

theorem usdoSet {x : Option UsdoTransfer} : (s.usdoSet x).Inv := h.withLinks

theorem usdoAnswersWrite {r : Res} (hr : r.Keeps) : (s.usdoAnswersWrite r).Inv := by
  unfold State.usdoAnswersWrite
  split
  · exact .ite hr.of_ok.accepted.owedTo hr.of_ok.accepted.usdoAnswers
  · exact (hr.after h).usdoAnswers

theorem usdoExecutes {u : UsdoRequest} : (s.usdoExecutes u).Inv := by
  unfold State.usdoExecutes
  have h1 : (s.usdoSet none).Inv := h.usdoSet
  extract_lets _ _
  split
  · split
    · next refused =>
      rw [readObject_quiet _ refused]
      exact h1.usdoAnswers
    · exact .ite h1.accepted.usdoAnswers h1.domainHasRead.accepted.usdoSet.usdoAnswers
  · split
    · exact h1.usdoAnswers
    · exact h
    · exact .ite h.usdoAnswers (.ite h1.usdoAnswers h.usdoSet.usdoAnswers)
  · exact .ite h1.usdoAnswers (h1.usdoAnswersWrite h1.writeObject)
  · split
    · next refused =>
      rw [beginChecks_quiet _ refused]
      exact h1.usdoAnswers
    · exact h1.usdoSet.usdoAnswers
  · split
    · exact h1.usdoAnswers
    · exact h
    · refine .ite h.usdoAnswers (.ite h1.usdoAnswers (.ite h1.usdoAnswers ?_))
      exact .ite (h1.usdoAnswersWrite h1.writeObject) h.usdoSet.usdoAnswers
  · exact h.usdoAnswers

theorem usdoArrives {x : UsdoFrame} : (s.usdoArrives x).Inv := by
  unfold State.usdoArrives
  extract_lets _ s1
  have h1 : s1.Inv := h.renew
  exact .ite h (.ite (.ite h.usdoExecutes h.usdoAnswers) (.ite h1.usdoExecutes (.ite h1.holdsBack h1.usdoAnswers)))

theorem usdoTimesOut : s.usdoTimesOut.Inv := by
  unfold State.usdoTimesOut
  split
  · exact h
  · exact .ite h.usdoSet.usdoAnswers h

theorem drainWaiting {n : Nat} : (s.drainWaiting n).Inv := by
  refine h.setSession.foldl fun _ w h => .ite h.holdsBack ?_
  split
  · exact .ite h.netExecutes h
  · exact h.usdoExecutes
  · exact h.finished h.writeObject

theorem endsNow {n : Nat} : (s.endsNow n).Inv := .ite h.endSession h

theorem transportSettles : s.transportSettles.Inv := h.each fun _ _ h => .endsNow (.ite h h.drainWaiting)

theorem datagramArrives {d : Datagram} : (s.datagramArrives d).Inv := by
  unfold State.datagramArrives
  split
  · exact h
  · split
    · exact .ite h.netOpens h.discards
    · exact .ite (.ite h.netProves h.discards) (.ite h.takesDatagram.netTakes (.ite h.discards.notices h.discards))

theorem creditArrives {d : Datagram} : (s.creditArrives d).Inv := .ite h (.ite h.discards h.takesDatagram.creditReturns)

theorem nmtSets {x : NmtState} : (s.nmtSets x).Inv := h.withLinks

theorem nmtResets : s.nmtResets.Inv := h.setSession.endsNow.withLinks

theorem beats : s.beats.Inv := .ite h h.withLinks.send

theorem frameArrives {n : Fin 2} {f : NetFrame} : (s.frameArrives n f).Inv := by
  unfold State.frameArrives
  split
  · split
    · exact h
    · split
      · exact .ite h.send h
      · exact .ite h.send h
      · exact .ite h.send h
      · exact .ite h.send h
      · exact .ite h.withLinks h
      · exact h.countUp
      · exact h.countUp
      · exact h.countUp
  · split
    · exact h
    · split
      · exact .ite h.send h
      · exact .ite h.send h
      · exact .ite h.send h
      · exact .ite h.send h
      · exact .ite h.withLinks h
      · exact h.countUp
      · exact h.countUp
      · exact h.countUp

theorem linkChanges {x : LinkChange} : (s.linkChanges x).Inv := by
  unfold State.linkChanges
  split
  · exact h.withLinks
  · exact h.withLinks
  · exact h.frameArrives

theorem tapTakesCode {code : Nat} : (s.tapTakesCode code).Inv := .ite h.withPower.send h.withPower

end

end Sys2Proof.Machine.State.Inv
end

section
/-!
SUPPORT. The invariant under what the commands share: addresses of a core, its device instructions, requests and what follows them.
-/

namespace Sys2Proof.Machine.State.Inv

section
variable {s : State} (h : s.Inv)
include h

theorem letGo : s.letGo.Inv := h.unbindDue.loadSettles.transportSettles

omit h in
theorem afterwards {o : Host.Outcome State Fault Refusal} (ho : KeepsInv o) : KeepsInv (Machine.afterwards o) := by
  cases o with
  | next u => exact .next (ho u rfl).letGo
  | fault f => rintro _ ⟨⟩
  | refused r => rintro _ ⟨⟩

theorem settled {p : Nat} : (s.settled p).Inv := .ite h.setPort h

theorem busCloses {p : Nat} : (s.busCloses p).Inv := by
  unfold State.busCloses
  extract_lets _
  split
  · exact .ite h.setPort h
  · exact h

theorem portFails {p : Nat} {cause : PortCause} : (s.portFails p cause).Inv :=
  .ite h (.ite h.raiseCause h.portFault.stepsLosePort.mapLosesPoint)

theorem clampsChange {p : Nat} {source sink voltage : Bool} : (s.clampsChange p source sink voltage).Inv :=
  .ite h.setPort h.setPort

theorem senseOpens {p : Nat} : (s.senseOpens p).Inv := by
  unfold State.senseOpens
  split
  · exact h
  · split
    · exact h.portFails
    · exact h.setPort
    · exact h

theorem sensePasses {p : Nat} : (s.sensePasses p).Inv := .ite h.setPort h

theorem suppressEdge {p : PortNo} : (s.suppressEdge p).Inv := h.setFilter.countUp

theorem signalMoves {p : PortNo} {old : Bool} : (s.signalMoves p old).Inv :=
  .ite h (.ite (.ite h h.suppressEdge) h.followPort)

theorem signalChanges {x0 : SignalChange} : (s.signalChanges x0).Inv := by
  unfold State.signalChanges
  split
  · exact h.setPort.recompare.signalMoves
  · exact h.setPin.followPin

theorem receiverValid {p : PortNo} {level : Bool} : (s.receiverValid p level).Inv := by
  unfold State.receiverValid
  split
  · exact .ite h.setPort.signalMoves h
  · exact h

theorem interlockTrips : s.interlockTrips.Inv := by
  unfold State.interlockTrips
  split
  · exact .ite h.raiseCause h
  · exact h

theorem contends {n : Nat} : (s.contends n).Inv := by
  unfold State.contends
  extract_lets _
  split
  · exact .ite h.setPin h
  · exact h

theorem aluR {n : Nat} {rd ra rb : Reg} {f : Word → Word → Alu} : (s.aluR n rd ra rb f).Inv := h.aluResult

theorem divides {n : Nat} {rd ra rb : Reg} {f : Word → Word → Word} : (s.divides n rd ra rb f).Inv :=
  .ite h.coreException h.aluResult

theorem aluI {n : Nat} {rd ra : Reg} {b : Word} {f : Word → Word → Alu} : (s.aluI n rd ra b f).Inv := h.aluResult

theorem loads {n : Nat} {rd ra : Reg} {imm : Imm16} {size : Nat} {ext : Nat → Word} : (s.loads n rd ra imm size ext).Inv := by
  unfold State.loads
  extract_lets c _
  refine .ite h.coreException ?_
  split
  · exact h.coreException
  · next read => exact (h.coreRead read).setCore (by simpa [c] using h.core)

theorem stores {n : Nat} {rd ra : Reg} {imm : Imm16} {size : Nat} : (s.stores n rd ra imm size).Inv := by
  unfold State.stores
  extract_lets c _
  refine .ite h.coreException ?_
  split
  · exact h.coreException
  · next written => exact (h.coreWrite written).setCore (by simpa [c] using h.core)

theorem exchangesWord {n : Nat} {rd ra rb : Reg} : (s.exchangesWord n rd ra rb).Inv := by
  unfold State.exchangesWord
  extract_lets c _
  refine .ite h.coreException ?_
  split
  · exact h.coreException
  · next read =>
    split
    · exact h.coreException
    · next written => exact ((h.coreRead read).coreWrite written).setCore (by simpa [c] using h.core)

theorem meetsIllegal {n : Nat} : (s.meetsIllegal n).Inv := by
  unfold State.meetsIllegal
  split
  · exact .ite h h.fetched.illegal
  · exact h

theorem meetsFetchFault {n : Nat} : (s.meetsFetchFault n).Inv := .ite h.coreException h

omit h in
theorem goesOn {t : State} (ht : t.Inv) {n : Nat} {f : Core → Core} (hf : ∀ d : Core, (f d).ok = d.ok) :
    (s.goesOn t n f).Inv := .ite (ht.keepCore (hf _)) ht

omit h in
/-- A read of 64 bits changes no more than a snapshot. -/
theorem reads64_ok {c : Core} {idx sub part v ts : Nat} : (c.reads64 idx sub part v ts).1.ok = c.ok := by
  unfold Core.reads64
  split
  · split
    · rfl
    · split <;> rfl
  · split <;> rfl
  · split
    · rfl
    · split <;> rfl

omit h in
theorem coreReads_ok {n : CoreNo} {w v : Word} {c : Core} (read : s.coreReads n w = .ok (c, v)) : c.ok = (s.core n).ok := by
  obtain ⟨k, -, read⟩ := ok_of_bind read
  obtain ⟨⟨card, bs⟩, -, read⟩ := ok_of_bind read
  dsimp only at read
  split at read
  · have same := congrArg (fun x => x.1.ok) (Except.ok.inj read)
    exact same.symm.trans reads64_ok
  · cases read
    rfl

theorem coreOdr {n : CoreNo} {rd : Reg} {w : Word} : (s.coreOdr n rd w).Inv := by
  unfold State.coreOdr
  split
  · next read => exact h.keepCore (by simpa using coreReads_ok read)
  · exact h.keepCore (by simp)

theorem corePuts {n : CoreNo} {k : Card} {idx sub : Nat} {v : Word} : (s.corePuts n k idx sub v).Keeps :=
  .check .headChecks fun _ => .check .gateChecks fun _ => .refuseWith h.put

theorem coreOdw {n : CoreNo} {v w : Word} : (s.coreOdw n v w).Inv := by
  unfold State.coreOdw
  split
  · exact h.keepCore (by simp)
  · next k card =>
    split
    · exact h.keepCore (ok_succeeded (s.core n))
    · extract_lets clear
      have hclear : ∀ c, (clear c).ok = c.ok := by
        intro c
        simp only [clear]
        split <;> rfl
      have puts := h.corePuts (n := n) (k := k) (idx := operandIndex w) (sub := operandSub w) (v := v)
      split
      · next found =>
        rw [found] at puts
        exact goesOn puts.of_ok fun d => by simp [hclear]
      · next found =>
        rw [found] at puts
        exact goesOn (puts.after h) fun d => by simp [hclear]

theorem corePutsEntry {n : CoreNo} {q addr : Word} : (s.corePutsEntry n q addr).Inv := by
  unfold State.corePutsEntry
  split
  · exact h.coreException
  · extract_lets _ s1 e
    have h1 : s1.Inv := h.afterRead
    have put := h1.userEntry (who := (s1.core n).sess) (q := q.toNat) (e := e)
    split
    next t code found =>
    rw [found] at put
    refine goesOn put fun d => ?_
    split
    · exact ok_succeeded d
    · exact ok_refused d code

theorem coreGetsEntry {n : CoreNo} {q addr : Word} : (s.coreGetsEntry n q addr).Inv := by
  have flagged : ∀ (c : Core) (b : Bool), (c.setFlag flagZ b).succeeded.ok = c.ok := fun c b => by
    rw [ok_succeeded, ok_setFlag c b (by decide)]
  unfold State.coreGetsEntry
  split
  · exact h.coreException
  · split
    · exact h.keepCore (by simp)
    · split
      · exact h.keepCore (flagged _ _)
      · exact goesOn h.eccWrite.readEntries fun c => flagged c false

theorem coreReserves {n : CoreNo} {rd : Reg} {amount : Nat} : (s.coreReserves n rd amount).Inv := by
  unfold State.coreReserves
  extract_lets c
  have hc : ∀ v z, ((c.setReg rd v).setFlag flagZ z).succeeded.ok = true := fun v z => by
    rw [ok_succeeded, ok_setFlag _ z (by decide), ok_setReg]
    exact h.core
  split
  · exact h.keepCore (ok_refused c _)
  · refine .ite (h.setCore (hc _ _)) ?_
    split
    · next reserved => exact (h.reserve reserved).setStep.setCore (hc _ _)
    · exact h.setCore (hc _ _)

theorem coreTime {n : CoreNo} {rd : Reg} {imm : Imm16} : (s.coreTime n rd imm).Inv := by
  unfold State.coreTime
  split
  · exact h.keepCore (ok_setReg (s.core n) rd _)
  · exact h.keepCore (ok_setReg (s.core n) rd _)
  · exact h.illegal

theorem coreCompletes {n : CoreNo} {ra : Reg} : (s.coreCompletes n ra).Inv :=
  .ite h.illegal (h.writeCompletion.keepCore (by rfl))

theorem commandsCore {t : Tk} {a : Accessor} {c : CoreNo} {v : Nat} : KeepsInv (s.commandsCore t a c v) :=
  h.requestValue fun h => h.coreWriteObject

theorem supervisesScrubber : s.supervisesScrubber.Inv := .ite h.stallCheck.raiseCause h.stallCheck

theorem writes {t : Tk} {a : Accessor} {idx sub size v : Nat} {k : State → Nat → Res} (hk : ∀ {u x}, u.Inv → (k u x).Keeps) :
    KeepsInv (s.writes t a idx sub size v k) := h.requestValue hk

theorem writesAndSettles {t : Tk} {a : Accessor} {idx sub size v : Nat} {k : State → Nat → Res}
    (hk : ∀ {u x}, u.Inv → (k u x).Keeps) : KeepsInv (s.writesAndSettles t a idx sub size v k) := afterwards (h.writes hk)

theorem losesReference {edges : Bool} : (s.losesReference edges).Inv :=
  .ite h (.ite h.referenceLoses.raiseCause h.referenceLoses)

theorem locksReference {calendar : Nat} : (s.locksReference calendar).Inv := .ite h.referenceLocks.setReady h

theorem entryArrives {q : Nat} {e : NewEntry} : (s.entryArrives q e).Inv := .ite h.blockEntry h

theorem copiesDescriptors : s.copiesDescriptors.Inv := .ite h.larderCopied.setReady h

theorem commandsZone {t : Tk} {a : Accessor} {z : ZoneNo} {v : Nat} : KeepsInv (s.commandsZone t a z v) :=
  h.writesAndSettles fun h => h.zoneWrite

theorem speedMeasured {z permille : Nat} : (s.speedMeasured z permille).Inv := .ite h.setObj h

theorem writesBytes {t : Tk} {a : Accessor} {idx sub : Nat} {bytes : Bytes} {k : State → Bytes → Res}
    (hk : ∀ {u b}, u.Inv → (k u b).Keeps) : KeepsInv (s.writesBytes t a idx sub bytes k) := h.requestBytes hk

theorem cellarGoesOn : s.cellarGoesOn.Inv := h.letGo.resetSettles

theorem replaysOnce : s.replaysOnce.Inv := .ite h.replays.setReady h

theorem commandsCalibration {t : Tk} {a : Accessor} {v : Nat} : KeepsInv (s.commandsCalibration t a v) :=
  h.writes fun h => h.calibrationWrite

theorem reportsReady {bit : Nat} : (s.reportsReady bit).Inv := .ite h.setReady h

theorem requestsMode {t : Tk} {a : Accessor} {v : Nat} : KeepsInv (s.requestsMode t a v) :=
  h.writesAndSettles fun h => h.modeRequest

theorem causeComes {c : HoldCause} {meas : Int} : (s.causeComes c meas).Inv := by
  unfold State.causeComes
  split
  · exact h
  · exact h.raiseCause

theorem periodCauses {f : PeriodFound} : (s.periodCauses f).Inv := by
  unfold State.periodCauses
  extract_lets s1
  have h1 : s1.Inv := by
    simp only [s1]
    split
    · exact .ite h h.cause.raiseCause
    · exact h
  exact .ite h1.raiseCause h1

theorem governs {pv : Int} : (s.governs pv).Inv := by
  unfold State.governs
  exact .ite h (.resetSettles (.judgeReady (.runsDue (.periodCauses (.ite h.periodEnds.cause h.periodEnds)))))

end

end Sys2Proof.Machine.State.Inv
end

section
/-!
SUPPORT. Commands of ports, converters, the mapper, plans and engines keep the invariant.
-/

namespace Sys2Proof.Machine.State.Inv

section
variable {s : State} (h : s.Inv)
include h

/-! ## Ports and pins -/

theorem execObjectWrite {t a idx sub bytes} : KeepsInv (execObjectWrite t a idx sub bytes s) :=
  afterwards (h.request fun h => h.writeObject)

theorem execFunctionChange {t a p v} : KeepsInv (execFunctionChange t a p v s) := h.requestValue fun h => h.portWrite

theorem execForceLevelWrite {t a p current v} : KeepsInv (execForceLevelWrite t a p current v s) :=
  h.requestValue fun h => h.portWrite

theorem execRangeChange {t a p v} : KeepsInv (execRangeChange t a p v s) := h.requestValue fun h => h.portWrite

theorem execRangeChangeComplete {t p} : KeepsInv (execRangeChangeComplete t p s) := .next h.advance.endRangeChange

theorem execSettlingEnd {t p} : KeepsInv (execSettlingEnd t p s) := .next h.advance.settled

theorem execBusConnectionWrite {t a p v} : KeepsInv (execBusConnectionWrite t a p v s) :=
  h.requestValue fun h => h.portWrite

theorem execBusSwitchClosed {t p} : KeepsInv (execBusSwitchClosed t p s) := .next h.advance.busCloses

theorem execClampStateChange {t p source sink voltage} : KeepsInv (execClampStateChange t p source sink voltage s) :=
  .next h.advance.clampsChange

theorem execClampTimeout {t p} : KeepsInv (execClampTimeout t p s) := .next (.ite h.advance.portFails h.advance)

theorem execSenseOpen {t p} : KeepsInv (execSenseOpen t p s) := .next h.advance.senseOpens

theorem execSenseCheckPass {t p} : KeepsInv (execSenseCheckPass t p s) := .next h.advance.sensePasses

theorem execPortFault {t p cause} : KeepsInv (execPortFault t p cause s) := .next h.advance.portFails

theorem execDieCurrentLimit {t die} : KeepsInv (execDieCurrentLimit t die s) :=
  .next (h.advance.each fun _ _ h => h.portFails)

theorem execFaultClear {t a p v gone} : KeepsInv (execFaultClear t a p v gone s) :=
  h.requestValue fun h => h.latchErrors.clearFault

theorem execPinSignalChange {t x} : KeepsInv (execPinSignalChange t x s) := .next h.advance.signalChanges

theorem execReceiverRestartDone {t p level} : KeepsInv (execReceiverRestartDone t p level s) :=
  .next h.advance.receiverValid

theorem execGlitchFilterAccept {t l} : KeepsInv (execGlitchFilterAccept t l s) :=
  .next (.ite h.advance.acceptLevel h.advance)

theorem execDebounceWindowEnd {t l} : KeepsInv (execDebounceWindowEnd t l s) :=
  .next (.ite h.advance.endDebounce h.advance)

theorem execResyncLevelDefined {t l} : KeepsInv (execResyncLevelDefined t l s) :=
  .next (.ite h.advance.defineLevel h.advance)

theorem execParkExit {t p} : KeepsInv (execParkExit t p s) := .next h.advance.leavePark.unbindSettles

theorem execServicePinFunctionWrite {t a n v} : KeepsInv (execServicePinFunctionWrite t a n v s) :=
  h.requestValue fun h => h.pinWrite

theorem execInterlockTrip {t} : KeepsInv (execInterlockTrip t s) := .next h.advance.interlockTrips

theorem execContentionDetect {t n} : KeepsInv (execContentionDetect t n s) := .next h.advance.contends

/-! ## Converters -/

theorem execRunModeStop {t a c} : KeepsInv (execRunModeStop t a c s) := h.requestValue fun h => h.runModeWrite

theorem execRunModeContinuous {t a c} : KeepsInv (execRunModeContinuous t a c s) :=
  h.requestValue fun h => h.runModeWrite

theorem execRunModeTriggered {t a c} : KeepsInv (execRunModeTriggered t a c s) := h.requestValue fun h => h.runModeWrite

theorem execRunModeOnePass {t a c} : KeepsInv (execRunModeOnePass t a c s) := h.requestValue fun h => h.runModeWrite

theorem execSequenceStopped {t c} : KeepsInv (execSequenceStopped t c s) :=
  .next h.advance.stopAtBoundary.measureContinues

theorem execPassStart {t c} : KeepsInv (execPassStart t c s) := .next h.advance.passStarts

theorem execEntryEnd {t c codes} : KeepsInv (execEntryEnd t c codes s) :=
  .next (.ite h.advance.entryEnds.sequenceGoesOn h.advance)

theorem execRawEntryWrite {t c codes} : KeepsInv (execRawEntryWrite t c codes s) := .next h.advance.writeRaw

theorem execTimerTrigger {t c} : KeepsInv (execTimerTrigger t c s) := .next h.advance.timerTriggers

theorem execTriggerCommand {t a c v} : KeepsInv (execTriggerCommand t a c v s) := h.requestValue fun h => h.triggerWrite

theorem execUrgentRequest {t a c v} : KeepsInv (execUrgentRequest t a c v s) := h.requestValue fun h => h.urgentWrite

theorem execUrgentStart {t c} : KeepsInv (execUrgentStart t c s) := .next h.advance.urgentStarts

theorem execUrgentEnd {t c codes} : KeepsInv (execUrgentEnd t c codes s) :=
  .next (.ite h.advance.measureTakes.urgentEnds.measureContinues h.advance)

theorem execDiagnosisCommand {t a c v} : KeepsInv (execDiagnosisCommand t a c v s) :=
  h.requestValue fun h => h.diagnosisWrite

theorem execDiagnosisEnd {t c m0 m1 m2} : KeepsInv (execDiagnosisEnd t c m0 m1 m2 s) :=
  .next (.ite h.advance.diagnosisEnds.measureContinues h.advance)

theorem execReferenceSettled {t c} : KeepsInv (execReferenceSettled t c s) := .next h.advance.referenceSettles

theorem execEventSelectWrite {t a idx sub v} : KeepsInv (execEventSelectWrite t a idx sub v s) :=
  .ite (h.requestValue fun h => h.valueWrite) (.next h.advance)

theorem execEventCausesClear {t a idx sub v} : KeepsInv (execEventCausesClear t a idx sub v s) :=
  .ite (h.requestValue fun h => h.valueWrite) (.next h.advance)

/-! ## Chains -/

theorem execCoarseOutput {t n l codes} : KeepsInv (execCoarseOutput t n l codes s) :=
  .next h.advance.feedCodes.deliverNext

theorem execFineOutput {t n l codes} : KeepsInv (execFineOutput t n l codes s) := .next h.advance.feedCodes.deliverNext

theorem execSampleDropped {t n l} : KeepsInv (execSampleDropped t n l s) := .next h.advance.dropSample

theorem execChainConfigWrite {t a n sub v} : KeepsInv (execChainConfigWrite t a n sub v s) := by
  unfold Machine.execChainConfigWrite
  extract_lets bytes
  refine h.request fun h => ?_
  split
  · exact guardWrite fun _ => h.chainConfig
  · exact .ok h

theorem execBankWrite {t a n bank bytes} : KeepsInv (execBankWrite t a n bank bytes s) :=
  h.requestBytes fun h => h.bankStore

theorem execSwapRequest {t a n v} : KeepsInv (execSwapRequest t a n v s) := h.requestValue fun h => .ok h.swapWrite

theorem execFadeEnd {t n} : KeepsInv (execFadeEnd t n s) := .next h.advance.fadeEnds

theorem execSyncCommand {t a n v} : KeepsInv (execSyncCommand t a n v s) := h.requestValue fun h => .ok h.syncGroup

theorem execSyncInputEdge {t stamp} : KeepsInv (execSyncInputEdge t stamp s) :=
  .ite (.next h.advance.withTimebase.syncEdge) (.next h.advance)

theorem execSyncReset {t n} : KeepsInv (execSyncReset t n s) := .next h.advance.syncResetAt

/-! ## The mapper -/

theorem execMapperEnable {t a} : KeepsInv (execMapperEnable t a s) := h.requestValue fun h => h.mapperWrite

theorem execMapperDisable {t a} : KeepsInv (execMapperDisable t a s) := h.requestValue fun h => .ok h.mapperDisables

theorem execMapStart {t a} : KeepsInv (execMapStart t a s) := h.requestValue fun h => h.mapStart

theorem execMapAbortCommand {t a} : KeepsInv (execMapAbortCommand t a s) := h.requestValue fun h => .ok h.mapAborts

theorem execMapBudgetGranted {t} : KeepsInv (execMapBudgetGranted t s) := .next h.advance.mapGranted

theorem execMapBudgetWaitExpired {t} : KeepsInv (execMapBudgetWaitExpired t s) := .next h.advance.mapWaitOver

theorem execMapGroupEnd {t rests samples} : KeepsInv (execMapGroupEnd t rests samples s) := .next h.advance.mapGroupEnds

theorem execMapAnalysisEnd {t} : KeepsInv (execMapAnalysisEnd t s) := .next h.advance.mapAnalysed

theorem execMapRoundEnd {t rs} : KeepsInv (execMapRoundEnd t rs s) := .next h.advance.mapRoundEnds

theorem execMapEnd {t} : KeepsInv (execMapEnd t s) := .next h.advance.mapEnds

theorem execReferenceWrite {t a slot bytes} : KeepsInv (execReferenceWrite t a slot bytes s) :=
  h.requestBytes fun h => h.referenceStore

/-! ## Plans -/

theorem execPlanImageWrite {t a slot bytes} : KeepsInv (execPlanImageWrite t a slot bytes s) :=
  h.requestBytes fun h => h.planStore

theorem execPlanStart {t a} : KeepsInv (execPlanStart t a s) := h.requestValue fun h => h.dispatcherWrite

theorem execPlanAbort {t a} : KeepsInv (execPlanAbort t a s) := h.requestValue fun h => h.dispatcherWrite

theorem execDispatch {t k} : KeepsInv (execDispatch t k s) := .next (h.advance.dispatchStep put_keeps)

theorem execStepEnd {t k} : KeepsInv (execStepEnd t k s) := .next h.advance.stepEnds

theorem execStepTimeout {t k} : KeepsInv (execStepTimeout t k s) := .next h.advance.stepTimesOut

theorem execStepHeld {t k} : KeepsInv (execStepHeld t k s) := .next h.advance.stepHolds

theorem execStepBudgetWaitExpired {t k} : KeepsInv (execStepBudgetWaitExpired t k s) := .next h.advance.stepWaitsTooLong

theorem execPeakTailEnd {t} : KeepsInv (execPeakTailEnd t s) := .next h.advance.tailsEnd

theorem execWaitStepElapsed {t k} : KeepsInv (execWaitStepElapsed t k s) := .next h.advance.waitElapses

theorem execSweepLevelMeasured {t m r} : KeepsInv (execSweepLevelMeasured t m r s) := .next h.advance.sweepMeasured

theorem execSweepEnd {t m} : KeepsInv (execSweepEnd t m s) := .next h.advance.sweepEnds

/-! ## Protocol engines -/

theorem execCanEnable {t a e v} : KeepsInv (execCanEnable t a e v s) := h.requestValue fun h => h.canEnables

theorem execCanTransmit {t a e bytes} : KeepsInv (execCanTransmit t a e bytes s) :=
  h.requestBytes fun h => h.domainWrite

theorem execCanFrameTransmitted {t e} : KeepsInv (execCanFrameTransmitted t e s) := .next h.advance.canTransmitted

theorem execCanFrameReceived {t e f} : KeepsInv (execCanFrameReceived t e f s) := .next h.advance.canReceives

theorem execCanBusOff {t e} : KeepsInv (execCanBusOff t e s) := .next h.advance.canGoesOff

theorem execCanRecover {t a e v} : KeepsInv (execCanRecover t a e v s) := h.requestValue fun h => .ok h.canRecovers

theorem execCanError {t e tec rxErr kind} : KeepsInv (execCanError t e tec rxErr kind s) := .next h.advance.canErrs

theorem execBusOffRecoveryComplete {t e} : KeepsInv (execBusOffRecoveryComplete t e s) := .next h.advance.canRecovered

theorem execLinEnable {t a l v} : KeepsInv (execLinEnable t a l v s) := h.requestValue fun h => h.engineEnables

theorem execLinFrameReceived {t l f} : KeepsInv (execLinFrameReceived t l f s) := .next h.advance.linReceives

theorem execLinHeaderReceived {t start l ident} : KeepsInv (execLinHeaderReceived t start l ident s) :=
  .next h.advance.linHeader

theorem execLinMissingResponse {t l} : KeepsInv (execLinMissingResponse t l s) := .next h.advance.linMisses

theorem execSentEnable {t a r v} : KeepsInv (execSentEnable t a r v s) := h.requestValue fun h => h.engineEnables

theorem execSentFrameReceived {t r f} : KeepsInv (execSentFrameReceived t r f s) := .next h.advance.sentReceives

theorem execPwmEnable {t a u v} : KeepsInv (execPwmEnable t a u v s) := h.requestValue fun h => h.engineEnables

theorem execPwmResult {t u r} : KeepsInv (execPwmResult t u r s) := .next h.advance.pwmMeasures

theorem execProtocolResponseTimeout {t k} : KeepsInv (execProtocolResponseTimeout t k s) :=
  .next h.advance.responseTimesOut

end

end Sys2Proof.Machine.State.Inv
end

section
/-!
SUPPORT. Commands of the step cores, of time, queues and zones keep the invariant.
-/

namespace Sys2Proof.Machine.State.Inv

section
variable {s : State} (h : s.Inv)
include h

/-! ## Instructions of a step core -/

theorem execAdd {t c rd ra rb} : KeepsInv (execAdd t c rd ra rb s) := h.instruction fun h => h.aluR

theorem execSub {t c rd ra rb} : KeepsInv (execSub t c rd ra rb s) := h.instruction fun h => h.aluR

theorem execAnd {t c rd ra rb} : KeepsInv (execAnd t c rd ra rb s) := h.instruction fun h => h.aluR

theorem execOr {t c rd ra rb} : KeepsInv (execOr t c rd ra rb s) := h.instruction fun h => h.aluR

theorem execXor {t c rd ra rb} : KeepsInv (execXor t c rd ra rb s) := h.instruction fun h => h.aluR

theorem execShl {t c rd ra rb} : KeepsInv (execShl t c rd ra rb s) := h.instruction fun h => h.aluR

theorem execShr {t c rd ra rb} : KeepsInv (execShr t c rd ra rb s) := h.instruction fun h => h.aluR

theorem execSar {t c rd ra rb} : KeepsInv (execSar t c rd ra rb s) := h.instruction fun h => h.aluR

theorem execMul {t c rd ra rb} : KeepsInv (execMul t c rd ra rb s) := h.instruction fun h => h.aluR

theorem execMulh {t c rd ra rb} : KeepsInv (execMulh t c rd ra rb s) := h.instruction fun h => h.aluR

theorem execMulhu {t c rd ra rb} : KeepsInv (execMulhu t c rd ra rb s) := h.instruction fun h => h.aluR

theorem execDiv {t c rd ra rb} : KeepsInv (execDiv t c rd ra rb s) := h.instruction fun h => h.divides

theorem execDivu {t c rd ra rb} : KeepsInv (execDivu t c rd ra rb s) := h.instruction fun h => h.divides

theorem execRem {t c rd ra rb} : KeepsInv (execRem t c rd ra rb s) := h.instruction fun h => h.divides

theorem execCmp {t c ra rb} : KeepsInv (execCmp t c ra rb s) := h.instruction fun h => h.aluCompare

theorem execAddi {t c rd ra imm} : KeepsInv (execAddi t c rd ra imm s) := h.instruction fun h => h.aluI

theorem execAndi {t c rd ra imm} : KeepsInv (execAndi t c rd ra imm s) := h.instruction fun h => h.aluI

theorem execOri {t c rd ra imm} : KeepsInv (execOri t c rd ra imm s) := h.instruction fun h => h.aluI

theorem execXori {t c rd ra imm} : KeepsInv (execXori t c rd ra imm s) := h.instruction fun h => h.aluI

theorem execShli {t c rd ra sh} : KeepsInv (execShli t c rd ra sh s) := h.instruction fun h => h.aluResult

theorem execShri {t c rd ra sh} : KeepsInv (execShri t c rd ra sh s) := h.instruction fun h => h.aluResult

theorem execSari {t c rd ra sh} : KeepsInv (execSari t c rd ra sh s) := h.instruction fun h => h.aluResult

theorem execCmpi {t c ra imm} : KeepsInv (execCmpi t c ra imm s) := h.instruction fun h => h.aluCompare

theorem execLui {t c rd imm} : KeepsInv (execLui t c rd imm s) := h.instruction fun h => h.keepCore (by simp)

theorem execLdw {t c rd ra imm} : KeepsInv (execLdw t c rd ra imm s) := h.instruction fun h => h.loads

theorem execLdh {t c rd ra imm} : KeepsInv (execLdh t c rd ra imm s) := h.instruction fun h => h.loads

theorem execLdhu {t c rd ra imm} : KeepsInv (execLdhu t c rd ra imm s) := h.instruction fun h => h.loads

theorem execLdb {t c rd ra imm} : KeepsInv (execLdb t c rd ra imm s) := h.instruction fun h => h.loads

theorem execLdbu {t c rd ra imm} : KeepsInv (execLdbu t c rd ra imm s) := h.instruction fun h => h.loads

theorem execStw {t c rd ra imm} : KeepsInv (execStw t c rd ra imm s) := h.instruction fun h => h.stores

theorem execSth {t c rd ra imm} : KeepsInv (execSth t c rd ra imm s) := h.instruction fun h => h.stores

theorem execStb {t c rd ra imm} : KeepsInv (execStb t c rd ra imm s) := h.instruction fun h => h.stores

theorem execXchg {t c rd ra rb} : KeepsInv (execXchg t c rd ra rb s) := h.instruction fun h => h.exchangesWord

theorem execB {t c cond off} : KeepsInv (execB t c cond off s) :=
  h.instruction fun h => .ite (h.jumpTo h.core) (h.keepCore (by rfl))

theorem execCall {t c off} : KeepsInv (execCall t c off s) := h.instruction fun h => h.jumpTo (by simpa using h.core)

theorem execJr {t c ra} : KeepsInv (execJr t c ra s) := h.instruction fun h => h.jumpTo h.core

theorem execJalr {t c rd ra} : KeepsInv (execJalr t c rd ra s) :=
  h.instruction fun h => h.jumpTo (by simpa using h.core)

theorem execMfs {t c rd imm} : KeepsInv (execMfs t c rd imm s) := by
  refine h.instruction fun h => ?_
  split
  · exact h.keepCore (by simp)
  · exact h.illegal

theorem execMts {t c imm ra} : KeepsInv (execMts t c imm ra s) := by
  refine h.instruction fun h => ?_
  split
  · next written => exact h.setCore ((ok_next _).trans (specialWrite_ok h.core written))
  · exact h.illegal

theorem execReti {t c} : KeepsInv (execReti t c s) := h.instruction fun h => h.returns

theorem execTrap {t c imm} : KeepsInv (execTrap t c imm s) := h.instruction fun h => h.coreException

theorem execNop {t c} : KeepsInv (execNop t c s) := h.instruction fun h => h.keepCore (by rfl)

theorem execIllegalInstruction {t c} : KeepsInv (execIllegalInstruction t c s) := .next h.advance.meetsIllegal

theorem execFetchFault {t c} : KeepsInv (execFetchFault t c s) := .next h.advance.meetsFetchFault

/-! ## Device instructions, handlers and the core object -/

theorem execOdr {t c rd ra imm} : KeepsInv (execOdr t c rd ra imm s) := h.instruction fun h => h.coreOdr

theorem execOdw {t c ra rb} : KeepsInv (execOdw t c ra rb s) := h.instruction fun h => h.coreOdw

theorem execQput {t c ra rb} : KeepsInv (execQput t c ra rb s) := h.instruction fun h => h.corePutsEntry

theorem execQget {t c ra rb} : KeepsInv (execQget t c ra rb s) := h.instruction fun h => h.coreGetsEntry

theorem execWaite {t c rd ra} : KeepsInv (execWaite t c rd ra s) := h.instruction fun h => h.coreWaits

theorem execWaiteTimeout {t c} : KeepsInv (execWaiteTimeout t c s) := .next h.advance.waitEnds

theorem execEcmp {t c ra} : KeepsInv (execEcmp t c ra s) := h.instruction fun h => h.coreCompletes

theorem execBreq {t c rd ra} : KeepsInv (execBreq t c rd ra s) := h.instruction fun h => h.coreReserves

theorem execTsr {t c rd imm} : KeepsInv (execTsr t c rd imm s) := h.instruction fun h => h.coreTime

theorem execNormalEntry {t c} : KeepsInv (execNormalEntry t c s) := .next h.advance.entersNormal

theorem execFastEntry {t c} : KeepsInv (execFastEntry t c s) := .next h.advance.entersFast

theorem execCoreStart {t a c} : KeepsInv (execCoreStart t a c s) := h.commandsCore

theorem execCoreStop {t a c} : KeepsInv (execCoreStop t a c s) := h.commandsCore

theorem execCoreReset {t a c} : KeepsInv (execCoreReset t a c s) := h.commandsCore

theorem execLocalMemoryWrite {t a c bytes} : KeepsInv (execLocalMemoryWrite t a c bytes s) :=
  h.requestBytes fun h => h.localMemoryStore

theorem execScrubberStallCheck {t} : KeepsInv (execScrubberStallCheck t s) := .next h.advance.supervisesScrubber

/-! ## Events and time -/

theorem execEventTimeLimit {t n} : KeepsInv (execEventTimeLimit t n s) := .next h.advance.timeLimit

theorem execEventCommit {t n} : KeepsInv (execEventCommit t n s) := .next h.advance.commitSource

theorem execLevelVanished {t n} : KeepsInv (execLevelVanished t n s) := .next h.advance.levelVanishes

theorem execSessionCompletion {t a v} : KeepsInv (execSessionCompletion t a v s) :=
  h.writes fun h => h.eventInterfaceWrite

theorem execSourceConfigurationWrite {t a n v} : KeepsInv (execSourceConfigurationWrite t a n v s) :=
  h.writes fun h => h.sourceConfigure

theorem execSubscriptionWrite {t a word v} : KeepsInv (execSubscriptionWrite t a word v s) :=
  h.writes fun h => h.eventInterfaceWrite

theorem execBooksSelect {t a v} : KeepsInv (execBooksSelect t a v s) := h.writes fun h => h.eventInterfaceWrite

theorem execReferenceLost {t edges} : KeepsInv (execReferenceLost t edges s) := .next h.advance.losesReference.letGo

theorem execHoldoverExpired {t} : KeepsInv (execHoldoverExpired t s) := .next h.advance.holdoverExpires

theorem execReferenceLocked {t calendar} : KeepsInv (execReferenceLocked t calendar s) := .next h.advance.locksReference

theorem execLockHeld {t} : KeepsInv (execLockHeld t s) := .next h.advance.clearCause

theorem execEpochWrite {t a v} : KeepsInv (execEpochWrite t a v s) := h.writes fun h => h.timebaseWrite

theorem execSyncOutputCommand {t a v} : KeepsInv (execSyncOutputCommand t a v s) := h.writes fun h => h.timebaseWrite

theorem execSyncOutputEdge {t} : KeepsInv (execSyncOutputEdge t s) := .next h.advance.syncEdges

theorem execSyncPulseEnd {t} : KeepsInv (execSyncPulseEnd t s) := .next h.advance.syncFalls

theorem execTriggerOutputCommand {t a o v} : KeepsInv (execTriggerOutputCommand t a o v s) :=
  h.writes fun h => h.trigWrite

theorem execTriggerOutputTimer {t o} : KeepsInv (execTriggerOutputTimer t o s) := .next h.advance.trigTimer

theorem execTriggerOutputRise {t o} : KeepsInv (execTriggerOutputRise t o s) := .next h.advance.trigRises

theorem execTriggerOutputFall {t o} : KeepsInv (execTriggerOutputFall t o s) := .next h.advance.trigFalls

/-! ## Queues and their streams -/

theorem execQueueCreate {t a o v} : KeepsInv (execQueueCreate t a o v s) := h.writes fun h => h.windowWrite

theorem execQueueDelete {t a o} : KeepsInv (execQueueDelete t a o s) := h.writes fun h => h.windowWrite

theorem execQueueFlush {t a o} : KeepsInv (execQueueFlush t a o s) := h.writes fun h => h.windowWrite

theorem execQueueSettingsWrite {t a o v} : KeepsInv (execQueueSettingsWrite t a o v s) :=
  h.writes fun h => h.windowWrite

theorem execQueueRemove {t a o v} : KeepsInv (execQueueRemove t a o v s) := h.writes fun h => h.windowWrite

theorem execEntryWrite {t q e} : KeepsInv (execEntryWrite t q e s) := .next h.advance.entryArrives

theorem execSpillStart {t} : KeepsInv (execSpillStart t s) := .next (.ite h.advance.spillStarts h.advance)

theorem execSpillAck {t} : KeepsInv (execSpillAck t s) := .next (.ite h.advance.spillAcknowledged h.advance)

theorem execStreamOpen {t a k v} : KeepsInv (execStreamOpen t a k v s) := h.writes fun h => h.streamObjectWrite

theorem execStreamClose {t a k} : KeepsInv (execStreamClose t a k s) := h.writes fun h => h.streamObjectWrite

theorem execCreditGrant {t a k v} : KeepsInv (execCreditGrant t a k v s) := h.writes fun h => h.streamObjectWrite

theorem execStreamAcknowledgement {t a k v} : KeepsInv (execStreamAcknowledgement t a k v s) :=
  h.writes fun h => h.streamObjectWrite

theorem execResendRequest {t a k v} : KeepsInv (execResendRequest t a k v s) := h.writes fun h => h.streamObjectWrite

theorem execResendTimeout {t n k} : KeepsInv (execResendTimeout t n k s) := .next h.advance.resendTimesOut

theorem execDatagramSend {t n k} : KeepsInv (execDatagramSend t n k s) := .next h.advance.streamSends

theorem execCreditReturn {t d} : KeepsInv (execCreditReturn t d s) := .next h.advance.creditArrives

theorem execLarderTrainingDone {t ok} : KeepsInv (execLarderTrainingDone t ok s) := .next h.advance.larderTrained

theorem execDescriptorCopyDone {t} : KeepsInv (execDescriptorCopyDone t s) := .next h.advance.copiesDescriptors

theorem execLarderEccError {t y} : KeepsInv (execLarderEccError t y s) := .next h.advance.larderError

/-! ## Zones -/

theorem execZoneStart {t a z} : KeepsInv (execZoneStart t a z s) := h.commandsZone

theorem execZoneStop {t a z} : KeepsInv (execZoneStop t a z s) := h.commandsZone

theorem execZoneErase {t a z} : KeepsInv (execZoneErase t a z s) := h.commandsZone

theorem execZoneClamp {t z opened} : KeepsInv (execZoneClamp t z opened s) := .next h.advance.zoneClamps

theorem execZoneResetDone {t z} : KeepsInv (execZoneResetDone t z s) := .next h.advance.zoneResetDone.letGo

theorem execBlockMemoryZeroed {t z} : KeepsInv (execBlockMemoryZeroed t z s) := .next h.advance.zeroBlocks

theorem execLaneRelease {t z lane} : KeepsInv (execLaneRelease t z lane s) := .next h.advance.laneReleases

theorem execFabricPortOutputChange {t z x d oe} : KeepsInv (execFabricPortOutputChange t z x d oe s) :=
  .next h.advance.fabricOutput

theorem execScheduleEntryArrival {t p due d oe} : KeepsInv (execScheduleEntryArrival t p due d oe s) :=
  .next h.advance.scheduleArrives

theorem execScheduleEntryApply {t p} : KeepsInv (execScheduleEntryApply t p s) := .next h.advance.scheduleApplies

theorem execTapOutputTaken {t z k} : KeepsInv (execTapOutputTaken t z k s) := .next h.advance.tapTakes

theorem execQueuePortWrite {t z k w} : KeepsInv (execQueuePortWrite t z k w s) := .next h.advance.queuePortWrites

theorem execTimePortRequest {t z} : KeepsInv (execTimePortRequest t z s) := .next h.advance.timePort

theorem execUserEventLineChange {t z k level} : KeepsInv (execUserEventLineChange t z k level s) :=
  .next h.advance.userLine

theorem execDualRailError {t x} : KeepsInv (execDualRailError t x s) := .next h.advance.fabricChanges

theorem execBlockMemoryWrite {t a z bytes} : KeepsInv (execBlockMemoryWrite t a z bytes s) :=
  h.requestBytes fun h => h.blockStore

theorem execZoneSpeedMeasure {t z permille} : KeepsInv (execZoneSpeedMeasure t z permille s) :=
  .next h.advance.speedMeasured

end

end Sys2Proof.Machine.State.Inv
end

section
/-!
SUPPORT. Commands of configuration, sessions, the Cellar and power keep the invariant.
-/

namespace Sys2Proof.Machine.State.Inv

section
variable {s : State} (h : s.Inv)
include h

/-! ## Configuration and scrubbing -/

theorem execStreamDataWrite {t a bytes} : KeepsInv (execStreamDataWrite t a bytes s) :=
  afterwards (h.writesBytes fun h => loadAfter h.streamWrite)

theorem execZoneBeginRecord {t} : KeepsInv (execZoneBeginRecord t s) := .next h.advance.zoneBeginRecord.letGo

theorem execFramesRecord {t mismatch} : KeepsInv (execFramesRecord t mismatch s) := .next h.advance.framesRecord.letGo

theorem execBlockMemoryRecord {t} : KeepsInv (execBlockMemoryRecord t s) := .next h.advance.blockRecord.letGo

theorem execStreamEndRecord {t} : KeepsInv (execStreamEndRecord t s) := .next h.advance.streamEnds.letGo

theorem execStreamAbort {t a} : KeepsInv (execStreamAbort t a s) := h.writesAndSettles fun h => h.loaderWrite

theorem execStreamIdleTimeout {t} : KeepsInv (execStreamIdleTimeout t s) := .next h.advance.streamIdles.letGo

theorem execKekWrite {t a bytes} : KeepsInv (execKekWrite t a bytes s) := h.writesBytes fun h => h.kekStore

theorem execEkWrite {t a bytes} : KeepsInv (execEkWrite t a bytes s) := h.writesBytes fun h => h.ekStore

theorem execBatteryKeyWrite {t a k bytes} : KeepsInv (execBatteryKeyWrite t a k bytes s) :=
  h.writesBytes fun h => h.batteryStore

theorem execPolicyWrite {t a v} : KeepsInv (execPolicyWrite t a v s) := h.writes fun h => h.loaderWrite

theorem execMinimumSecurityVersionWrite {t a v} : KeepsInv (execMinimumSecurityVersionWrite t a v s) :=
  h.writes fun h => h.loaderWrite

theorem execClearBatteryKeys {t a v} : KeepsInv (execClearBatteryKeys t a v s) := h.writes fun h => h.loaderWrite

theorem execLockoutEnd {t} : KeepsInv (execLockoutEnd t s) := .next h.advance.lockoutEnds

theorem execStreamSlotWrite {t a slot bytes} : KeepsInv (execStreamSlotWrite t a slot bytes s) :=
  h.writesBytes fun h => h.slotStore

theorem execCellarLoad {t a v} : KeepsInv (execCellarLoad t a v s) := h.writesAndSettles fun h => h.loaderWrite

theorem execRepairCopyStore {t z} : KeepsInv (execRepairCopyStore t z s) := .next h.advance.repairCopies

theorem execScrubberFrameCheck {t f u} : KeepsInv (execScrubberFrameCheck t f u s) :=
  .next h.advance.takesUpsets.frameCheck.letGo

theorem execFrameRepair {t ok} : KeepsInv (execFrameRepair t ok s) := .next h.advance.frameRepaired.letGo

theorem execScrubberSweepEnd {t} : KeepsInv (execScrubberSweepEnd t s) := .next h.advance.latchErrors.scrubSweepEnds

/-! ## Sessions -/

theorem execOpenDatagram {t d} : KeepsInv (execOpenDatagram t d s) := .next h.advance.datagramArrives

theorem execProof {t d} : KeepsInv (execProof t d s) := .next h.advance.datagramArrives

theorem execSessionOpenWrite {t bytes} : KeepsInv (execSessionOpenWrite t bytes s) := h.writesBytes fun h => h.canOpens

theorem execSessionProofWrite {t bytes} : KeepsInv (execSessionProofWrite t bytes s) :=
  h.writesBytes fun h => h.canProves

theorem execProofTimeout {t n} : KeepsInv (execProofTimeout t n s) := .next h.advance.proofTimesOut

theorem execKeySlotLockoutEnd {t y} : KeepsInv (execKeySlotLockoutEnd t y s) := .next h.advance.slotUnlocks

theorem execClose {t d} : KeepsInv (execClose t d s) := .next h.advance.datagramArrives.letGo

theorem execKeepalive {t d} : KeepsInv (execKeepalive t d s) := .next h.advance.datagramArrives

theorem execRead {t d} : KeepsInv (execRead t d s) := .next h.advance.datagramArrives

theorem execWrite {t d} : KeepsInv (execWrite t d s) := .next h.advance.datagramArrives.letGo

theorem execDomainRead {t d} : KeepsInv (execDomainRead t d s) := .next h.advance.datagramArrives

theorem execDomainBegin {t d} : KeepsInv (execDomainBegin t d s) := .next h.advance.datagramArrives

theorem execDomainSegment {t d} : KeepsInv (execDomainSegment t d s) := .next h.advance.datagramArrives

theorem execDomainEnd {t d} : KeepsInv (execDomainEnd t d s) := .next h.advance.datagramArrives.letGo

theorem execUsdoRequest {t u} : KeepsInv (execUsdoRequest t u s) := .next h.advance.usdoArrives.letGo

theorem execUsdoTimeout {t} : KeepsInv (execUsdoTimeout t s) := .next h.advance.usdoTimesOut

theorem execNmtStopped {t} : KeepsInv (execNmtStopped t s) := .next (.ite h.advance.nmtSets h.advance)

theorem execNmtOperational {t operational} : KeepsInv (execNmtOperational t operational s) :=
  .next (.ite h.advance.nmtSets h.advance)

theorem execNmtReset {t} : KeepsInv (execNmtReset t s) := .next (.ite h.advance.nmtResets.letGo h.advance)

theorem execHeartbeat {t} : KeepsInv (execHeartbeat t s) := .next h.advance.beats

theorem execHostLinkStateChange {t x} : KeepsInv (execHostLinkStateChange t x s) := .next h.advance.linkChanges

theorem execLeaseExpired {t n} : KeepsInv (execLeaseExpired t n s) := .next h.advance.leaseExpires.letGo

theorem execClaim {t a bytes} : KeepsInv (execClaim t a bytes s) := h.writesBytes fun h => h.claims_

theorem execRelease {t a bytes} : KeepsInv (execRelease t a bytes s) := afterwards (h.writesBytes fun h => h.releases)

theorem execReleaseAll {t a v} : KeepsInv (execReleaseAll t a v s) := h.writesAndSettles fun h => h.releasesAll

theorem execClaimQuery {t a v} : KeepsInv (execClaimQuery t a v s) := h.writes fun h => .ok h.queries

theorem execBind {t a} : KeepsInv (execBind t a s) := h.writes fun h => h.cycleCommand

theorem execFixtureRelease {t a} : KeepsInv (execFixtureRelease t a s) := h.writesAndSettles fun h => h.cycleCommand

theorem execHostKeyWrite {t a y bytes} : KeepsInv (execHostKeyWrite t a y bytes s) :=
  h.writesBytes fun h => h.hostKeyStore

theorem execStore {t a v} : KeepsInv (execStore t a v s) := h.writes fun h => h.storesAll

theorem execRestoreDefaults {t a v} : KeepsInv (execRestoreDefaults t a v s) := h.writes fun h => h.restoresAll

/-! ## The Cellar and calibration -/

theorem execCellarCommit {t} : KeepsInv (execCellarCommit t s) := .next h.advance.cellarCommits.cellarGoesOn

theorem execCellarAbandon {t reason} : KeepsInv (execCellarAbandon t reason s) :=
  .next h.advance.cellarAbandons.cellarGoesOn

theorem execCellarReplay {t} : KeepsInv (execCellarReplay t s) := .next h.advance.replaysOnce

theorem execCompactionStart {t} : KeepsInv (execCompactionStart t s) := .next h.advance.compactStarts

theorem execCompactionEnd {t} : KeepsInv (execCompactionEnd t s) := .next h.advance.compactEnds

theorem execCellarEccError {t y} : KeepsInv (execCellarEccError t y s) := .next h.advance.cellarError.cellarGoesOn

theorem execCalibrationUnitStart {t} : KeepsInv (execCalibrationUnitStart t s) := .next h.advance.unitStarts

theorem execCalibrationUnitEnd {t r} : KeepsInv (execCalibrationUnitEnd t r s) := .next h.advance.unitEnds

theorem execCalibrationDeadline {t d i} : KeepsInv (execCalibrationDeadline t d i s) := .next h.advance.deadlinePasses

theorem execCalibrationRetry {t d} : KeepsInv (execCalibrationRetry t d s) := .next h.advance.runRetries

theorem execCalibrateDies {t a} : KeepsInv (execCalibrateDies t a s) := h.commandsCalibration

theorem execCalibrateQuad {t a} : KeepsInv (execCalibrateQuad t a s) := h.commandsCalibration

theorem execGlobalCalibration {t a} : KeepsInv (execGlobalCalibration t a s) := h.commandsCalibration

theorem execCancelDueRuns {t a} : KeepsInv (execCancelDueRuns t a s) := h.commandsCalibration

theorem execGlobalCalibrationEnd {t rs} : KeepsInv (execGlobalCalibrationEnd t rs s) := .next h.advance.globalEnds

theorem execSetImport {t a d bytes} : KeepsInv (execSetImport t a d bytes s) := h.writesBytes fun h => h.setImports

/-! ## Power and modes -/

theorem execVsupGood {t mv} : KeepsInv (execVsupGood t mv s) := .next h.advance.vsupReturns

theorem execPowerFail {t mv} : KeepsInv (execPowerFail t mv s) := .next h.advance.powerFails

theorem execSaveEnd {t} : KeepsInv (execSaveEnd t s) := .next h.advance.saveEnds

theorem execSaveSupplyCollapse {t} : KeepsInv (execSaveSupplyCollapse t s) := .next h.advance.saveCollapses

theorem execVbatPresent {t} : KeepsInv (execVbatPresent t s) := .next h.advance.vbatRises

theorem execVbatLost {t} : KeepsInv (execVbatLost t s) := .next h.advance.vbatFalls

theorem execVioChange {t mv} : KeepsInv (execVioChange t mv s) := by
  unfold Machine.execVioChange
  split
  · rintro _ ⟨⟩
  · exact .next h.advance.vioChanges

theorem execReadinessSet {t bit} : KeepsInv (execReadinessSet t bit s) := .next h.advance.reportsReady

theorem execAdvanceToIdle {t} : KeepsInv (execAdvanceToIdle t s) := .next h.advance.advances

theorem execModeRequestSafe {t a} : KeepsInv (execModeRequestSafe t a s) := h.requestsMode

theorem execModeRequestIdle {t a} : KeepsInv (execModeRequestIdle t a s) := h.requestsMode

theorem execModeRequestResume {t a} : KeepsInv (execModeRequestResume t a s) := h.requestsMode

theorem execModeRequestQuiesce {t a} : KeepsInv (execModeRequestQuiesce t a s) := h.requestsMode

theorem execModeRequestHold {t a} : KeepsInv (execModeRequestHold t a s) := h.requestsMode

theorem execQuiesceDrained {t} : KeepsInv (execQuiesceDrained t s) := .next h.advance.drains

theorem execHoldCause {t c meas} : KeepsInv (execHoldCause t c meas s) := .next h.advance.causeComes.letGo

theorem execHoldCauseCleared {t c} : KeepsInv (execHoldCauseCleared t c s) := .next h.advance.clearCause

theorem execResetCommand {t a v} : KeepsInv (execResetCommand t a v s) := by
  have written : KeepsInv (s.writes t a 0x2000 3 4 v fun s x => s.resetCommanded (s.sessionOf a) x) :=
    h.writes fun h => h.resetCommanded
  unfold Machine.execResetCommand
  split
  · next u found => exact .next (written u found).resetSettles
  · exact written

theorem execRstnLow {t} : KeepsInv (execRstnLow t s) := .next h.advance.rstnFalls

theorem execRstnRelease {t} : KeepsInv (execRstnRelease t s) := .next h.advance.rstnRises

theorem execWatchdogExpired {t} : KeepsInv (execWatchdogExpired t s) := .next h.advance.resets

theorem execCoreBrownOut {t} : KeepsInv (execCoreBrownOut t s) := .next h.advance.resets

theorem execPortFiguresSampled {t temps figs} : KeepsInv (execPortFiguresSampled t temps figs s) :=
  .next (.ite h.advance.sampleFigures h.advance)

theorem execGovernorPeriodEnd {t pv} : KeepsInv (execGovernorPeriodEnd t pv s) := .next h.advance.governs.letGo

theorem execBypass {t} : KeepsInv (execBypass t s) := .next h.advance.tapTakesCode

theorem execIdcode {t} : KeepsInv (execIdcode t s) := .next h.advance.tapTakesCode

theorem execSamplePreload {t} : KeepsInv (execSamplePreload t s) := .next h.advance.tapTakesCode

theorem execExtest {t} : KeepsInv (execExtest t s) := .next h.advance.tapTakesCode

end

end Sys2Proof.Machine.State.Inv
end

section
/-!
SUPPORT. Every command keeps the invariant of the block, and so does every step.
-/

namespace Sys2Proof.Machine

theorem State.Inv.exec {s : State} (h : s.Inv) {i : Instr} : KeepsInv (exec i s) := by
  cases i with
  | objectWrite => exact h.execObjectWrite
  | functionChange => exact h.execFunctionChange
  | forceLevelWrite => exact h.execForceLevelWrite
  | rangeChange => exact h.execRangeChange
  | rangeChangeComplete => exact h.execRangeChangeComplete
  | settlingEnd => exact h.execSettlingEnd
  | busConnectionWrite => exact h.execBusConnectionWrite
  | busSwitchClosed => exact h.execBusSwitchClosed
  | clampTimeout => exact h.execClampTimeout
  | senseOpen => exact h.execSenseOpen
  | senseCheckPass => exact h.execSenseCheckPass
  | portFault => exact h.execPortFault
  | dieCurrentLimit => exact h.execDieCurrentLimit
  | faultClear => exact h.execFaultClear
  | receiverRestartDone => exact h.execReceiverRestartDone
  | parkExit => exact h.execParkExit
  | pinSignalChange => exact h.execPinSignalChange
  | glitchFilterAccept => exact h.execGlitchFilterAccept
  | debounceWindowEnd => exact h.execDebounceWindowEnd
  | resyncLevelDefined => exact h.execResyncLevelDefined
  | servicePinFunctionWrite => exact h.execServicePinFunctionWrite
  | interlockTrip => exact h.execInterlockTrip
  | contentionDetect => exact h.execContentionDetect
  | runModeStop => exact h.execRunModeStop
  | sequenceStopped => exact h.execSequenceStopped
  | runModeContinuous => exact h.execRunModeContinuous
  | runModeTriggered => exact h.execRunModeTriggered
  | runModeOnePass => exact h.execRunModeOnePass
  | passStart => exact h.execPassStart
  | entryEnd => exact h.execEntryEnd
  | rawEntryWrite => exact h.execRawEntryWrite
  | timerTrigger => exact h.execTimerTrigger
  | triggerCommand => exact h.execTriggerCommand
  | urgentRequest => exact h.execUrgentRequest
  | urgentStart => exact h.execUrgentStart
  | urgentEnd => exact h.execUrgentEnd
  | diagnosisCommand => exact h.execDiagnosisCommand
  | diagnosisEnd => exact h.execDiagnosisEnd
  | referenceSettled => exact h.execReferenceSettled
  | eventSelectWrite => exact h.execEventSelectWrite
  | eventCausesClear => exact h.execEventCausesClear
  | coarseOutput => exact h.execCoarseOutput
  | fineOutput => exact h.execFineOutput
  | sampleDropped => exact h.execSampleDropped
  | chainConfigWrite => exact h.execChainConfigWrite
  | bankWrite => exact h.execBankWrite
  | swapRequest => exact h.execSwapRequest
  | fadeEnd => exact h.execFadeEnd
  | syncCommand => exact h.execSyncCommand
  | syncInputEdge => exact h.execSyncInputEdge
  | syncReset => exact h.execSyncReset
  | mapperEnable => exact h.execMapperEnable
  | mapperDisable => exact h.execMapperDisable
  | mapStart => exact h.execMapStart
  | mapAbortCommand => exact h.execMapAbortCommand
  | mapBudgetGranted => exact h.execMapBudgetGranted
  | mapBudgetWaitExpired => exact h.execMapBudgetWaitExpired
  | mapGroupEnd => exact h.execMapGroupEnd
  | mapAnalysisEnd => exact h.execMapAnalysisEnd
  | mapRoundEnd => exact h.execMapRoundEnd
  | mapEnd => exact h.execMapEnd
  | referenceWrite => exact h.execReferenceWrite
  | planImageWrite => exact h.execPlanImageWrite
  | planStart => exact h.execPlanStart
  | planAbort => exact h.execPlanAbort
  | dispatch => exact h.execDispatch
  | stepEnd => exact h.execStepEnd
  | stepTimeout => exact h.execStepTimeout
  | stepHeld => exact h.execStepHeld
  | stepBudgetWaitExpired => exact h.execStepBudgetWaitExpired
  | peakTailEnd => exact h.execPeakTailEnd
  | waitStepElapsed => exact h.execWaitStepElapsed
  | sweepLevelMeasured => exact h.execSweepLevelMeasured
  | sweepEnd => exact h.execSweepEnd
  | canEnable => exact h.execCanEnable
  | canTransmit => exact h.execCanTransmit
  | canFrameTransmitted => exact h.execCanFrameTransmitted
  | canFrameReceived => exact h.execCanFrameReceived
  | canBusOff => exact h.execCanBusOff
  | canRecover => exact h.execCanRecover
  | linEnable => exact h.execLinEnable
  | linFrameReceived => exact h.execLinFrameReceived
  | sentEnable => exact h.execSentEnable
  | sentFrameReceived => exact h.execSentFrameReceived
  | pwmEnable => exact h.execPwmEnable
  | pwmResult => exact h.execPwmResult
  | protocolResponseTimeout => exact h.execProtocolResponseTimeout
  | governorPeriodEnd => exact h.execGovernorPeriodEnd
  | add => exact h.execAdd
  | sub => exact h.execSub
  | and => exact h.execAnd
  | or => exact h.execOr
  | xor => exact h.execXor
  | shl => exact h.execShl
  | shr => exact h.execShr
  | sar => exact h.execSar
  | mul => exact h.execMul
  | mulh => exact h.execMulh
  | mulhu => exact h.execMulhu
  | div => exact h.execDiv
  | divu => exact h.execDivu
  | rem => exact h.execRem
  | cmp => exact h.execCmp
  | addi => exact h.execAddi
  | andi => exact h.execAndi
  | ori => exact h.execOri
  | xori => exact h.execXori
  | shli => exact h.execShli
  | shri => exact h.execShri
  | sari => exact h.execSari
  | cmpi => exact h.execCmpi
  | lui => exact h.execLui
  | ldw => exact h.execLdw
  | ldh => exact h.execLdh
  | ldhu => exact h.execLdhu
  | ldb => exact h.execLdb
  | ldbu => exact h.execLdbu
  | stw => exact h.execStw
  | sth => exact h.execSth
  | stb => exact h.execStb
  | xchg => exact h.execXchg
  | b => exact h.execB
  | call => exact h.execCall
  | jr => exact h.execJr
  | jalr => exact h.execJalr
  | mfs => exact h.execMfs
  | mts => exact h.execMts
  | reti => exact h.execReti
  | trap => exact h.execTrap
  | nop => exact h.execNop
  | odr => exact h.execOdr
  | odw => exact h.execOdw
  | qput => exact h.execQput
  | qget => exact h.execQget
  | waite => exact h.execWaite
  | waiteTimeout => exact h.execWaiteTimeout
  | ecmp => exact h.execEcmp
  | breq => exact h.execBreq
  | tsr => exact h.execTsr
  | normalEntry => exact h.execNormalEntry
  | fastEntry => exact h.execFastEntry
  | coreStart => exact h.execCoreStart
  | coreStop => exact h.execCoreStop
  | coreReset => exact h.execCoreReset
  | localMemoryWrite => exact h.execLocalMemoryWrite
  | scrubberStallCheck => exact h.execScrubberStallCheck
  | eventTimeLimit => exact h.execEventTimeLimit
  | eventCommit => exact h.execEventCommit
  | levelVanished => exact h.execLevelVanished
  | sessionCompletion => exact h.execSessionCompletion
  | sourceConfigurationWrite => exact h.execSourceConfigurationWrite
  | subscriptionWrite => exact h.execSubscriptionWrite
  | booksSelect => exact h.execBooksSelect
  | referenceLost => exact h.execReferenceLost
  | holdoverExpired => exact h.execHoldoverExpired
  | referenceLocked => exact h.execReferenceLocked
  | lockHeld => exact h.execLockHeld
  | epochWrite => exact h.execEpochWrite
  | syncOutputCommand => exact h.execSyncOutputCommand
  | syncOutputEdge => exact h.execSyncOutputEdge
  | syncPulseEnd => exact h.execSyncPulseEnd
  | triggerOutputCommand => exact h.execTriggerOutputCommand
  | triggerOutputTimer => exact h.execTriggerOutputTimer
  | triggerOutputRise => exact h.execTriggerOutputRise
  | triggerOutputFall => exact h.execTriggerOutputFall
  | queueCreate => exact h.execQueueCreate
  | queueDelete => exact h.execQueueDelete
  | queueFlush => exact h.execQueueFlush
  | queueSettingsWrite => exact h.execQueueSettingsWrite
  | entryWrite => exact h.execEntryWrite
  | spillStart => exact h.execSpillStart
  | spillAck => exact h.execSpillAck
  | queueRemove => exact h.execQueueRemove
  | streamOpen => exact h.execStreamOpen
  | streamClose => exact h.execStreamClose
  | creditGrant => exact h.execCreditGrant
  | streamAcknowledgement => exact h.execStreamAcknowledgement
  | resendRequest => exact h.execResendRequest
  | resendTimeout => exact h.execResendTimeout
  | datagramSend => exact h.execDatagramSend
  | creditReturn => exact h.execCreditReturn
  | larderTrainingDone => exact h.execLarderTrainingDone
  | descriptorCopyDone => exact h.execDescriptorCopyDone
  | larderEccError => exact h.execLarderEccError
  | zoneStart => exact h.execZoneStart
  | zoneStop => exact h.execZoneStop
  | zoneErase => exact h.execZoneErase
  | zoneClamp => exact h.execZoneClamp
  | zoneResetDone => exact h.execZoneResetDone
  | blockMemoryZeroed => exact h.execBlockMemoryZeroed
  | laneRelease => exact h.execLaneRelease
  | scheduleEntryApply => exact h.execScheduleEntryApply
  | queuePortWrite => exact h.execQueuePortWrite
  | timePortRequest => exact h.execTimePortRequest
  | userEventLineChange => exact h.execUserEventLineChange
  | dualRailError => exact h.execDualRailError
  | blockMemoryWrite => exact h.execBlockMemoryWrite
  | zoneSpeedMeasure => exact h.execZoneSpeedMeasure
  | streamDataWrite => exact h.execStreamDataWrite
  | zoneBeginRecord => exact h.execZoneBeginRecord
  | framesRecord => exact h.execFramesRecord
  | blockMemoryRecord => exact h.execBlockMemoryRecord
  | streamEndRecord => exact h.execStreamEndRecord
  | streamAbort => exact h.execStreamAbort
  | streamIdleTimeout => exact h.execStreamIdleTimeout
  | kekWrite => exact h.execKekWrite
  | ekWrite => exact h.execEkWrite
  | batteryKeyWrite => exact h.execBatteryKeyWrite
  | policyWrite => exact h.execPolicyWrite
  | minimumSecurityVersionWrite => exact h.execMinimumSecurityVersionWrite
  | clearBatteryKeys => exact h.execClearBatteryKeys
  | lockoutEnd => exact h.execLockoutEnd
  | streamSlotWrite => exact h.execStreamSlotWrite
  | cellarLoad => exact h.execCellarLoad
  | repairCopyStore => exact h.execRepairCopyStore
  | scrubberFrameCheck => exact h.execScrubberFrameCheck
  | frameRepair => exact h.execFrameRepair
  | scrubberSweepEnd => exact h.execScrubberSweepEnd
  | openDatagram => exact h.execOpenDatagram
  | proof => exact h.execProof
  | sessionOpenWrite => exact h.execSessionOpenWrite
  | sessionProofWrite => exact h.execSessionProofWrite
  | proofTimeout => exact h.execProofTimeout
  | close => exact h.execClose
  | keepalive => exact h.execKeepalive
  | read => exact h.execRead
  | write => exact h.execWrite
  | domainRead => exact h.execDomainRead
  | domainBegin => exact h.execDomainBegin
  | domainSegment => exact h.execDomainSegment
  | domainEnd => exact h.execDomainEnd
  | usdoRequest => exact h.execUsdoRequest
  | usdoTimeout => exact h.execUsdoTimeout
  | nmtStopped => exact h.execNmtStopped
  | nmtOperational => exact h.execNmtOperational
  | nmtReset => exact h.execNmtReset
  | heartbeat => exact h.execHeartbeat
  | leaseExpired => exact h.execLeaseExpired
  | claim => exact h.execClaim
  | release => exact h.execRelease
  | releaseAll => exact h.execReleaseAll
  | claimQuery => exact h.execClaimQuery
  | bind => exact h.execBind
  | fixtureRelease => exact h.execFixtureRelease
  | hostKeyWrite => exact h.execHostKeyWrite
  | store => exact h.execStore
  | restoreDefaults => exact h.execRestoreDefaults
  | cellarCommit => exact h.execCellarCommit
  | cellarAbandon => exact h.execCellarAbandon
  | cellarReplay => exact h.execCellarReplay
  | compactionStart => exact h.execCompactionStart
  | compactionEnd => exact h.execCompactionEnd
  | cellarEccError => exact h.execCellarEccError
  | calibrationUnitStart => exact h.execCalibrationUnitStart
  | calibrationUnitEnd => exact h.execCalibrationUnitEnd
  | calibrationDeadline => exact h.execCalibrationDeadline
  | calibrationRetry => exact h.execCalibrationRetry
  | calibrateDies => exact h.execCalibrateDies
  | calibrateQuad => exact h.execCalibrateQuad
  | globalCalibration => exact h.execGlobalCalibration
  | globalCalibrationEnd => exact h.execGlobalCalibrationEnd
  | cancelDueRuns => exact h.execCancelDueRuns
  | setImport => exact h.execSetImport
  | vsupGood => exact h.execVsupGood
  | powerFail => exact h.execPowerFail
  | saveEnd => exact h.execSaveEnd
  | vbatPresent => exact h.execVbatPresent
  | vbatLost => exact h.execVbatLost
  | vioChange => exact h.execVioChange
  | readinessSet => exact h.execReadinessSet
  | advanceToIdle => exact h.execAdvanceToIdle
  | modeRequestSafe => exact h.execModeRequestSafe
  | modeRequestIdle => exact h.execModeRequestIdle
  | modeRequestResume => exact h.execModeRequestResume
  | modeRequestQuiesce => exact h.execModeRequestQuiesce
  | modeRequestHold => exact h.execModeRequestHold
  | holdCause => exact h.execHoldCause
  | holdCauseCleared => exact h.execHoldCauseCleared
  | quiesceDrained => exact h.execQuiesceDrained
  | resetCommand => exact h.execResetCommand
  | rstnLow => exact h.execRstnLow
  | watchdogExpired => exact h.execWatchdogExpired
  | coreBrownOut => exact h.execCoreBrownOut
  | bypass => exact h.execBypass
  | idcode => exact h.execIdcode
  | samplePreload => exact h.execSamplePreload
  | extest => exact h.execExtest
  | clampStateChange => exact h.execClampStateChange
  | canError => exact h.execCanError
  | busOffRecoveryComplete => exact h.execBusOffRecoveryComplete
  | linHeaderReceived => exact h.execLinHeaderReceived
  | linMissingResponse => exact h.execLinMissingResponse
  | fabricPortOutputChange => exact h.execFabricPortOutputChange
  | scheduleEntryArrival => exact h.execScheduleEntryArrival
  | tapOutputTaken => exact h.execTapOutputTaken
  | keySlotLockoutEnd => exact h.execKeySlotLockoutEnd
  | hostLinkStateChange => exact h.execHostLinkStateChange
  | rstnRelease => exact h.execRstnRelease
  | saveSupplyCollapse => exact h.execSaveSupplyCollapse
  | portFiguresSampled => exact h.execPortFiguresSampled
  | illegalInstruction => exact h.execIllegalInstruction
  | fetchFault => exact h.execFetchFault

/-- Settles O4: the command at the front of the queue keeps the invariant, and without one the state stays. -/
theorem stepKeepsInvariant : Obligations.StepKeepsInvariant := by
  unfold Obligations.StepKeepsInvariant
  intro s u h next
  unfold step at next
  split at next
  · cases next
    exact h
  · exact (State.Inv.withPending h).exec u next

end Sys2Proof.Machine
end
